-- ==== Sys2Proof/Word.lean ====
section
/-! DEFINITION. The word types of the QVK-6417 and their plainest arithmetic: bytes, 32-bit register words, 64-byte
lines, and the saturating counters that the register tables call "saturating". -/

namespace Sys2Proof

/-- One byte of a message, a record or a memory. -/
abbrev Byte := BitVec 8

/-- A device block register (R500: registers are 32 bits wide). -/
abbrev Word := BitVec 32

/-- A 64-bit word of the code flash (R379), a generation number or an 8-byte field. -/
abbrev DWord := BitVec 64

/-- The 64 bytes of one CXL.mem line (R13). -/
abbrev Line := BitVec 512

/-- A counter field of `w` bits that saturates at its highest value. -/
def satAdd (w : Nat) (a b : Nat) : Nat := min (a + b) (2 ^ w - 1)

/-- Rounding division upward, as the tables' "rounded up" fields ask. -/
def ceilDiv (a b : Nat) : Nat := (b - 1 + a) / b

/-- The Nat with value 1 for true, the form a single-bit field takes in a register word. -/
def bit (b : Bool) : Nat := if b then 1 else 0

end Sys2Proof
end

