-- ==== Sys2Proof/Types.lean ====
section
/-! DEFINITION. The named alternatives that commands and state share: links, carriers, QMP headers, bodies and
statuses, spar engine roles, the parts that targeted tests name, and what leaves the controller's ports. -/

namespace Sys2Proof

/-- A host link, numbered 2 × n + h for link Pn.h (R70, R502). -/
abbrev Link := Fin 8

/-- A DRAM channel DC00–DC16. -/
abbrev DramCh := Fin 17

/-- A flash channel FC00–FC31. -/
abbrev FlashCh := Fin 32

/-- A spar engine 0–63. -/
abbrev EngineId := Fin 64

/-- A temperature site 0–31 (sites 0–7 on die, 8–31 remote). -/
abbrev Site := Fin 32

/-- A supervised rail; index `n` stands for rail `n + 1` of Table 11-1. -/
abbrev Rail := Fin 12

/-- Roles of Table 01-3. -/
inductive Role where
  | flash (c : Fin 32)
  | persistence (k : Fin 12)
  | dram (k : Fin 8)
  | port (p : Fin 4)
  | mgmt (k : Fin 4)
  | spare
  deriving DecidableEq, Repr

/-- The carriers of Table 13-1: a function's CXL mailbox, a function's PCIe VDM endpoint, the SMBus. -/
inductive Carrier where
  | mailbox (f : Link)
  | vdm (f : Link)
  | smbus
  deriving DecidableEq, Repr

/-- A QMP request header (Table 13-2) with what its carrier says of it. -/
structure QmpHdr where
  carrier   : Carrier
  /-- the mailbox command opcode, which R325 compares with the header OPCODE (read on a mailbox only) -/
  mbxOpcode : BitVec 16
  /-- the SMBus or VDM source address, where the response and, with NOTIFY, notices go -/
  source    : BitVec 16
  version   : Byte
  flags     : Byte
  session   : Byte
  /-- header byte 5 and the request's STATUS bytes, 0 in a request -/
  reserved  : Byte
  status    : BitVec 16
  seq       : Word
  length    : Word
  /-- body bytes that the carrier delivered -/
  delivered : Nat
  deriving DecidableEq, Repr

/-- The request bodies of Table 13-4, by command. -/
inductive QmpBody where
  | negotiate (versions tag : Word) (flags : Byte) (chunkMs : BitVec 16)
  | negotiateClose
  | esbGet
  | esbRestore (block : List Byte)
  | grantRest
  | persistStatus
  | saveAndOff
  | logRead (start count : Word)
  | lastwordsRead (start count : Byte)
  /-- `rsv` holds bytes [19:16] of the chunk header, 0 in a well-formed chunk -/
  | fwChunk (package offset total crc rsv : Word) (data : List Byte)
  | fwActivate (package : Word) (flags : Byte)
  | fwLockSet
  | fwLockClear
  | selftest (target : Byte) (index : BitVec 16)
  | debugChallenge
  /-- `verifies` is the outcome of checking the ECDSA P-384 signature, which the model does not compute -/
  | debugResponse (signature : List Byte) (verifies : Bool)
  | shipMode
  | clearRailLatch
  | clearTrip
  | noticeAck (first last : Word)
  /-- a FW_LOCK body whose ACTION, or a DEBUG_UNLOCK body whose STEP, is none of Table 13-4's -/
  | outOfRange (opcode : BitVec 16)
  deriving DecidableEq, Repr

/-- Status codes of Table 13-5. -/
inductive QmpStatus where
  | ok | resumeAt | busy | seqBad | noSession | unsupported | wrongState | lenZero | lenBad | crcBad
  | versionBad | range | energyBusy | packAbsent | packIdUnknown | serialMismatch | restActive | restTemp
  | notSealed | notLatched | tooHot | notTripped | noSheet | locked | refused | notStaged | authFail
  | wrongCarrier | expired | notPermitted | stagingOwned
  deriving DecidableEq, Repr

/-- A bank row of one subchannel and logical rank (R346, Table 16-5). -/
structure RowId where
  sub   : Fin 2
  prank : Fin 2
  lrank : Fin 8
  bg    : Fin 8
  bank  : Fin 4
  row   : BitVec 18
  deriving DecidableEq, Repr

/-- The physical rank of a row, as 2 × subchannel + physical rank (R106). -/
def RowId.rank (r : RowId) : Fin 4 := Fin.ofNat 4 (2 * r.sub.val + r.prank.val)

/-- The parts that the targeted tests of Table 14-1 and Table 14-5 name. -/
inductive Part where
  | line (ch : DramCh) (row : RowId) (column : Nat)
  | row (ch : DramCh) (row : RowId)
  /-- `rank` is 2 × subchannel + physical rank -/
  | dramDevice (ch : DramCh) (rank : Fin 4) (device : Fin 10)
  | dramChannel (ch : DramCh)
  | blockSet (ch : FlashCh) (die : Fin 16) (index : Nat)
  | die (ch : FlashCh) (row : Fin 16)
  | link (l : Link)
  | site (i : Site)
  | engine (e : EngineId)
  deriving DecidableEq, Repr

/-- What the symbol code of R104 finds when a line is read from DRAM (Table 04-7), with the row it lies in. -/
inductive EccOutcome where
  | clean
  /-- one device in error, on the DQ lanes `dq` of it -/
  | corrected (ch : DramCh) (row : RowId) (column : Nat) (device : Fin 10) (dq : BitVec 4)
  /-- two devices in error; `clean` says that the line reads back clean after its reconstruction -/
  | twoDevices (ch : DramCh) (row : RowId) (column : Nat) (readBackClean : Bool)
  /-- two devices in error and no reconstruction possible -/
  | unreconstructable (ch : DramCh) (row : RowId) (column : Nat)
  /-- an address mismatch; `again` says that the repeated read mismatches too -/
  | addressMismatch (ch : DramCh) (row : RowId) (column : Nat) (again : Bool)
  deriving DecidableEq, Repr

/-- How a page or granule read ends (R158–R161, R224). -/
inductive DecodeOutcome where
  /-- decoded at a ladder entry 0–8; `many` says that a codeword needed more than 50 corrections -/
  | entry (n : Fin 9) (many : Bool)
  | byRain
  | failed
  /-- both header copies disagree with the manifest entry (R224) -/
  | headerMismatch
  deriving DecidableEq, Repr

/-- The operation that a busy timeout meets (R153). -/
inductive BusyOp where
  | read
  | program (seq : Nat)
  | erase (index : Nat)
  deriving DecidableEq, Repr

/-- The band edges of Table 10-3. -/
inductive BandEdge where
  | dieHot | dieReef | dieTrip
  | dram2x (ch : DramCh) | dramReef (ch : DramCh) | dramEmergency (ch : DramCh)
  | nand1 (ch : FlashCh) | nand2 (ch : FlashCh) | nandOver (ch : FlashCh)
  deriving DecidableEq, Repr

/-- What a bus-clear procedure ends in (Table 19-5); `scl` says that SCL and not SDA is the line held low. -/
inductive ClearOutcome where
  | idle
  | stuck (scl : Bool)
  deriving DecidableEq, Repr

/-- A host memory write, response, message or frame that leaves the controller (the model's own record of its ports). -/
inductive Output where
  /-- data returned for CXL.mem read `tag` -/
  | readData (link : Link) (tag : Nat) (data : Line)
  /-- data returned with the poison indication -/
  | readPoison (link : Link) (tag : Nat) (data : Line)
  /-- a CXL.mem write completion (R13) -/
  | writeDone (link : Link) (tag : Nat)
  /-- a request answered without effect: all ones for a read, a completion for a write (R68, R69) -/
  | readAllOnes (link : Link) (tag : Nat)
  | writeDropped (link : Link) (tag : Nat)
  /-- an answer to a BAR2 read -/
  | register (link : Link) (offset : Nat) (value : Nat)
  /-- a memory write into host memory (a notice ring entry, R343) -/
  | hostWrite (link : Link) (address : Nat) (bytes : List Byte)
  /-- an MSI-X message on a vector of Table 03-12 -/
  | msix (link : Link) (vector : Nat)
  /-- a CXL event record put into one of the function's event logs, 0 Informational to 3 Fatal (R84); `kind` 0 is the vendor
  record, 1 a General Media Event, 2 a DRAM Event, 3 a Memory Module Event -/
  | eventRecord (link : Link) (log kind : Nat) (noticeSeq : Word)
  /-- a CXL mailbox return code and output payload -/
  | mailbox (link : Link) (code : Nat) (payload : List Byte)
  /-- a QMP response (Table 13-2) -/
  | qmp (carrier : Carrier) (opcode : BitVec 16) (session : Byte) (seq : Word) (status : QmpStatus)
      (replay : Bool) (body : List Byte)
  /-- an unsolicited QMP notice message (opcode 0xC0F0) on an MCTP carrier -/
  | qmpNotice (carrier : Carrier) (noticeSeq : Word) (bytes : List Byte)
  /-- the byte the controller drives for a read of the Alert Response Address (R447) -/
  | alertResponse (byte : Byte)
  /-- a Halyard frame, `up` on HY_UP and otherwise on HY_DN -/
  | halyard (up : Bool) (kind : Nat) (bytes : List Byte)
  /-- an answer of a ROM routine call (Table 16-2): status number and word -/
  | romCall (status : Nat) (value : Nat)
  /-- an answer to a GPF Phase 2 request (R77) -/
  | gpfResponse (link : Link)
  deriving DecidableEq, Repr

end Sys2Proof
end

