-- ==== Sys2Proof/Syntax.lean ====
section
/-! DEFINITION. The commands of the block: one constructor per row of spec/opcode_table.json, in the table's order. What
the controller cannot know by itself and the spec does not compute (a reading of a sensor, the outcome of a test, of a
signature check or of a page read) is an operand. -/

namespace Sys2Proof

/-- The commands. Comments name the rule that the table gives for the row (in part DEDUCED, notes/assumptions/89). -/
inductive Instr where
  -- CXL.mem service (chapters 01 to 03)
  | cxlMemRead (link : Link) (tag : Nat) (requester : Option (BitVec 12)) (hpa : Nat) (ecc : EccOutcome)          -- R12
  | cxlMemWrite (link : Link) (tag : Nat) (requester : Option (BitVec 12)) (hpa : Nat) (data : Line) (enables : DWord)
      (poison : Bool) (ecc : EccOutcome)                                                                          -- R13
  | demandFetchComplete (granule : Nat) (outcome : DecodeOutcome) (micros : Nat)                                  -- R223
  | writeBufferDrain (line : Nat)                                                                                 -- R14
  | writeBufferRelease (line : Nat)                                                                               -- R14
  | stagingEntryClose (stripe : Nat)                                                                              -- R125
  | heldWriteAdmit (link : Link) (tag : Nat)                                                                      -- R49
  | perstAssert (port : Fin 4)                                                                                    -- R65
  | linkDown (link : Link)                                                                                        -- R65
  | hotReset (link : Link)                                                                                        -- R65
  | cxlReset (link : Link)                                                                                        -- R66
  | linkTrained (link : Link) (width : Nat) (revision : Fin 3)                                                    -- R63
  | refclkFault (port : Fin 4)                                                                                    -- R463
  | linkErrorBurst (link : Link)                                                                                  -- R345
  | laneMarginTestComplete (link : Link) (failing : List (Fin 16)) (width : Nat)                                  -- R349
  | gpfPhase2 (link : Link)                                                                                       -- R77
  -- CXL mailbox
  | setShutdownState (link : Link) (dirty : Bool)                                                                 -- R78
  | getHealthInfo (link : Link)                                                                                   -- R78
  | getPoisonList (link : Link) (first : Nat) (length : Nat)                                                      -- R81
  | clearPoison (link : Link) (dpa : Nat) (data : Line)                                                           -- R80
  | injectPoison (link : Link) (dpa : Nat)                                                                        -- R79
  | getFwInfo (link : Link)                                                                                       -- R401
  -- requester tables
  | rtShadowWrite (link : Link) (offset : Nat) (size : Nat) (value : DWord)                                       -- R70
  | commit (link : Link)                                                                                          -- R70
  | commitRefillEnd                                                                                               -- R71
  -- the persistence loop
  | ceilingUpdate                                                                                                 -- R44
  | heatHalving                                                                                                   -- R41
  | flushIssue (ch : FlashCh) (errs : List (Nat × EccOutcome))                                                    -- R43
  | dirtyNowRefresh                                                                                               -- R507
  -- masthead and engines
  | mastheadWatchdogExpiry                                                                                        -- R26
  | engineException (engine : EngineId)                                                                           -- R345
  | engineBistComplete (engine : EngineId) (pass : Bool)                                                          -- R350
  | spareSwapComplete (engine : EngineId)                                                                         -- R23
  -- DRAM channels and Shroud
  | refreshTick (ch : DramCh) (rank : Fin 32) (accessWaiting : Bool)                                              -- R101
  | refreshPullIn (ch : DramCh) (rank : Fin 32)                                                                   -- R101
  | mr4Poll (ch : DramCh) (above : Bool)                                                                          -- R100
  | powerDownEntry (ch : DramCh) (rank : Fin 4)                                                                   -- R94
  | dcPdWrite (link : Link) (value : Word)                                                                        -- R96
  | patrolScrub (ch : DramCh) (rank : Fin 4) (stripes mismatch : List Nat) (errs : List (Nat × EccOutcome))       -- R97
  | scrubWake (ch : DramCh) (rank : Fin 4) (mismatch : List Nat) (errs : List (Nat × EccOutcome))                 -- R97
  | zqCalibration (ch : DramCh) (rank : Fin 4)                                                                    -- R111
  | dqsOscCalibration (ch : DramCh) (rank : Fin 4) (drift : Bool)                                                 -- R111
  | readCenteringTrack (ch : DramCh) (rank : Fin 4)                                                               -- R111
  | writeCrcError (ch : DramCh) (row : RowId) (column : Nat)                                                      -- R105
  | channelRetrainStart                                                                                           -- R113
  | retrainSlice (ch : DramCh)                                                                                    -- R113
  | channelRetrainComplete (ch : DramCh) (pass : Bool)                                                            -- R114
  | lineTestComplete (ch : DramCh) (row : RowId) (column : Nat) (pass : Bool) (device : Fin 10)                   -- R346
  | rowTestComplete (ch : DramCh) (row : RowId) (pass : Bool) (device : Fin 10) (twoGroups : Bool)                -- R346
  | dramTrainingComplete (failing : List DramCh)                                                                  -- R108
  | channelTrainingRetry (ch : DramCh) (pass : Bool)                                                              -- R117
  | rebuildStripe (errs : List (Nat × EccOutcome))                                                                -- R131
  | relocationFill (granule : Nat) (outcome : DecodeOutcome)                                                      -- R137
  | relocationCopyBack (errs : List (Nat × EccOutcome))                                                           -- R138
  -- flash
  | flashReadComplete (ch : FlashCh) (die : Fin 16) (index : Nat) (granule : Nat) (outcome : DecodeOutcome)       -- R158
  | flashProgramComplete (seq : Nat) (pass : Bool)                                                                -- R150
  | mirrorRelocated (ch : FlashCh)                                                                                -- R371
  | flashEraseComplete (ch : FlashCh) (die : Fin 16) (index : Nat) (pass : Bool)                                  -- R148
  | eraseResume (ch : FlashCh) (die : Fin 16)                                                                     -- R154
  | flashBusyTimeout (ch : FlashCh) (die : Fin 16) (op : BusyOp)                                                  -- R153
  | restripeCopy (granule : Nat) (ch : FlashCh)                                                                   -- R166
  | flashChannelTraining (ch : FlashCh) (badDies : List (Fin 16)) (pass : Bool)                                   -- R167
  | flashTrainingRetry (ch : FlashCh) (pass : Bool)                                                               -- R168
  | rowCloseTimeout (band : Nat) (row : Nat)                                                                      -- R151
  | checkpointSeal                                                                                                -- R178
  | sealComplete (mirror : Fin 2) (pass : Bool)                                                                   -- R177
  | compaction (granule : Nat) (ch : FlashCh)                                                                     -- R179
  | wearLevelMove                                                                                                 -- R172
  | retentionScrub (band : Nat)                                                                                   -- R174
  | retentionDue                                                                                                  -- R175
  | nandBrownout                                                                                                  -- R176
  | nandRailRecovery                                                                                              -- R176
  | engineProgramRefused (ch : FlashCh) (die : Fin 16) (index : Nat) (page : Nat)                                 -- R149
  -- save
  | pfNFall                                                                                                       -- R182
  | vinSenseDrop                                                                                                  -- R182
  | vinSenseHoldUp                                                                                                -- R183
  | saveAndOff (hdr : QmpHdr)                                                                                     -- R182
  | saveIsolate                                                                                                   -- R191
  | saveRegulationConfirmed                                                                                       -- R192
  | chargeMarkCheck (drawn : Nat)                                                                                 -- R188
  | saveStoreFailure                                                                                              -- R192
  | saveVoltageGuard                                                                                              -- R193
  | saveFlushEnd                                                                                                  -- R193
  | saveManifestComplete                                                                                          -- R194
  | saveRetireComplete (inputHeld : Bool)                                                                         -- R196
  | retainedReturnComplete (trained : Bool)                                                                       -- R228
  -- restore
  | generationSelect                                                                                              -- R204
  | manifestLoadComplete (unreadable : List Nat)                                                                  -- R210
  | backgroundRestoreGranule                                                                                      -- R216
  | restoreGranuleComplete (granule : Nat) (outcome : DecodeOutcome)                                              -- R216
  | restoreSlow                                                                                                   -- R218
  | retainedPathCheck (bitmapOk : Bool) (settingsOk : Bool)                                                       -- R229
  -- energy
  | packSample (milliamps : Int) (millivolts : Nat)                                                               -- R232
  | packTempSample (ntc : Option Int) (remote : Option Int)                                                       -- R234
  | packInserted                                                                                                  -- R257
  | packRemoved                                                                                                   -- R235
  | packQualified                                                                                                 -- R236
  | impedanceMeasure (tenthMilliohm : Nat)                                                                        -- R232
  | zeroCurrentCheck (offsetMilliamps : Int)                                                                      -- R236
  | packIdRead (first second : Option (List Byte))                                                                -- R454
  | idRead (first second : Option (List Byte))                                                                    -- R454
  | bankSample (millivolts : Nat)                                                                                 -- R237
  | capTest                                                                                                       -- R239
  | capTestComplete (leakMillivolts : Nat) (dropMillivolts : Nat)                                                 -- R240
  | chargerStatusPoll (status : Option (BitVec 16))                                                               -- R453
  | chargeHeld                                                                                                    -- R243
  | restReference (millivolts : Nat)                                                                              -- R247
  | startupReading (millivolts : Nat)                                                                             -- R248
  | restDue                                                                                                       -- R249
  | restRequest                                                                                                   -- R249
  | grantRest (hdr : QmpHdr)                                                                                      -- R250
  | restWindowTimeout                                                                                             -- R250
  | esbGet (hdr : QmpHdr)                                                                                         -- R252
  | esbRestore (hdr : QmpHdr) (block : List Byte)                                                                 -- R255
  | esbChanged                                                                                                    -- R254
  | estimatorHibernate                                                                                            -- R260
  | estimatorWake                                                                                                 -- R260
  | shipMode (hdr : QmpHdr)                                                                                       -- R261
  | shipFailed                                                                                                    -- R262
  | auxInputRemoved                                                                                               -- R418
  -- temperature
  | localBusCycle (readings : List (Site × Option (BitVec 16))) (araReads : List (BitVec 7 × Option (BitVec 16)))
      (alertLow : Bool) (window : Nat) (skipped : Nat)                                                            -- R451
  | sensorReadmit (site : Site)                                                                                   -- R269
  | sensorRereadComplete (site : Site) (anyPlausible : Bool)                                                      -- R345
  | thermalBandDwell (edge : BandEdge) (entering : Bool)                                                          -- R271
  | reefLevelStep                                                                                                 -- R272
  | aonBackstopTrip                                                                                               -- R279
  | aonSite0Sample (temp : Int)                                                                                   -- R277
  | clearTrip (hdr : QmpHdr)                                                                                      -- R277
  | emergencyStandbyExit                                                                                          -- R278
  -- rails and button
  | aonPowerOnReset (straps : Byte) (aux : Bool) (smbus : Option ClearOutcome)                                    -- R304
  | aonPowerLoss                                                                                                  -- R283
  | inputQualified (straps : Byte)                                                                                -- R287
  | railQualified (rail : Rail) (halfMs : Nat)                                                                    -- R286
  | railTimeout (rail : Rail)                                                                                     -- R288
  | railRetryReenable (rail : Rail)                                                                               -- R288
  | pgFall (rail : Rail)                                                                                          -- R291
  | railFault (rail : Rail)                                                                                       -- R291
  | ignoreFaultNotice (rail : Rail)                                                                               -- R291
  | groupResequence (group : Fin 3)                                                                               -- R293
  | resetReactionRestart                                                                                          -- R294
  | railDownStep                                                                                                  -- R290
  | clearRailLatch (hdr : QmpHdr)                                                                                 -- R289
  | mrN                                                                                                           -- R296
  | mrNRelease (localBus smbus : Option ClearOutcome)                                                             -- R296
  | pbRelease (duration : Nat)                                                                                    -- R297
  | pbForcedMark                                                                                                  -- R298
  | pbHardOff                                                                                                     -- R299
  -- start-up
  | sheetTransferRetry (address : BitVec 16)                                                                       -- R311
  | sheetImageRead (image : Option (List Byte)) (cleared : Option ClearOutcome)                                   -- R311
  | lock (link : Link)                                                                                            -- R321
  | startupEndTimeout                                                                                             -- R321
  -- management protocol
  | mctpPacket (carrier : Carrier) (source : BitVec 16) (command : Byte) (rate : Fin 3) (som eom : Bool) (seq : Fin 4)
      (tag : Nat) (pecOk : Bool) (payload : List Byte) (verifies : Bool)                                                                     -- R326
  | mctpMessageTimeout (carrier : Carrier)                                                                        -- R339
  | negotiate (hdr : QmpHdr) (versions tag : Word) (flags : Byte) (chunkMs : BitVec 16)                           -- R330
  | negotiateClose (hdr : QmpHdr)                                                                                 -- R330
  | persistStatus (hdr : QmpHdr)                                                                                  -- R335
  | logRead (hdr : QmpHdr) (start count : Word)                                                                   -- R376
  | lastwordsRead (hdr : QmpHdr) (start count : Byte)                                                             -- R376
  | fwChunk (hdr : QmpHdr) (package offset total crc rsv : Word) (data : List Byte)                               -- R338
  | fwActivate (hdr : QmpHdr) (package : Word) (flags : Byte)                                                     -- R409
  | fwLockSet (hdr : QmpHdr)                                                                                      -- R392
  | fwLockClear (hdr : QmpHdr)                                                                                    -- R336
  | selftest (hdr : QmpHdr) (target : Byte) (index : BitVec 16)                                                   -- R356
  | debugChallenge (hdr : QmpHdr)                                                                                 -- R431
  | debugResponse (hdr : QmpHdr) (signature : List Byte) (verifies : Bool)                                        -- R431
  | noticeAck (hdr : QmpHdr) (first last : Word)                                                                  -- R342
  | noticeDeliver (carrier : Carrier)                                                                             -- R341
  | noticeReannounce (seq : Word)                                                                                 -- R342
  | noticeDisregarded (seq : Word)                                                                                -- R342
  | nringSizeWrite (link : Link) (value : Word) (busMaster : Bool)                                                -- R343
  -- tests and availability
  | blockTestComplete (ch : FlashCh) (die : Fin 16) (index : Nat) (pass : Bool)                                   -- R348
  | dieTestComplete (ch : FlashCh) (die : Fin 16) (pass : Bool)                                                   -- R348
  | moduleYearEnd                                                                                                 -- R357
  -- event recorder
  | logPageProgram (pass0 pass1 : Bool)                                                                           -- R368
  | suppressedSweep                                                                                               -- R366
  | optimeCheckpoint                                                                                              -- R364
  | logSel (link : Link) (recno : Word)                                                                           -- R375
  | logFetchComplete (link : Link) (ok0 ok1 : Bool)                                                               -- R371, R377
  -- code flash
  | cfProgram (address : Nat) (data : DWord)                                                                      -- R382
  | cfErase (sector : Nat)                                                                                        -- R382
  | cfResume                                                                                                      -- R387
  | cfStatus                                                                                                      -- R382
  | cfOperationComplete                                                                                           -- R384
  | cfBrownout                                                                                                    -- R388
  | cfAccessRefused                                                                                               -- R381
  -- Halyard and firmware
  | hello (up : Bool) (versions : Word) (position chainLen : Nat) (part : BitVec 16) (fwVersion : Word)           -- R402
  | helloTimer                                                                                                    -- R402
  | chunk (package offset total crc : Word) (data : List Byte)                                                    -- R404
  | credit (resumeAt : Word) (credits : Nat)                                                                      -- R405
  | activate (package : Word)                                                                                     -- R409
  | status (entries : List (Nat × Nat × Nat))                                                                     -- R408
  | halyardPortDown (up : Bool)                                                                                   -- R406
  | halyardFrameTimeout (up : Bool)                                                                               -- R405
  | chainReportTimeout                                                                                            -- R408
  | packageVerifyComplete (signatureOk digestOk : Bool)                                                           -- R397
  | bankLoadComplete                                                                                              -- R409
  | engineSwitch (accepted : Bool)                                                                                -- R409
  | mastheadHandoverComplete (accepted : Bool)                                                                    -- R409
  | probationEnd                                                                                                  -- R414
  | bootCopyComplete (verifies : Bool)                                                                            -- R414
  -- protection level and debug
  | secLevelRaise (link : Link) (value : Word)                                                                    -- R422
  | secLevelArm (link : Link) (value : Word)                                                                      -- R423
  | secLevelLower (link : Link) (value : Word)                                                                    -- R424
  | loweringDramClearComplete                                                                                     -- R424
  | loweringEraseComplete                                                                                         -- R424
  | close (link : Link)                                                                                           -- R430
  | debugSessionExpiry                                                                                            -- R432
  | tapInstruction (code : Fin 7)                                                                                 -- R429
  | tapReset                                                                                                      -- R429
  -- two-wire buses
  | smbRepeatedStartError                                                                                         -- R445
  | smbTargetTimeout                                                                                              -- R446
  | smbNack                                                                                                       -- R442
  | smbResend                                                                                                     -- R442
  | smbArbitrationLost                                                                                            -- R443
  | arbSr                                                                                                         -- R444
  | smbBusFree                                                                                                    -- R443
  | smbAlertResponse (won : Bool)                                                                                 -- R447
  | lbAlertUnmask                                                                                                 -- R456
  | regulatorPoll (rail : Rail) (status : Option (BitVec 16))                                                     -- R455
  | clockStretchTimeout (local_ : Bool) (address : BitVec 7) (cleared : ClearOutcome)                             -- R457
  | busClearRetry (local_ : Bool) (cleared : ClearOutcome)                                                        -- R459
  -- clock domains and the device block
  | holdflag (link : Link) (value : Bool)                                                                         -- R469
  | hfSwitchComplete                                                                                              -- R469
  | take (link : Link) (group : Fin 16)                                                                           -- R470
  | release (link : Link)                                                                                         -- R470
  | snapshotExpiry (link : Link)                                                                                  -- R470
  | flGenLatch (link : Link)                                                                                      -- R171
  | planInfoLatch (link : Link)                                                                                   -- R203
  | optimeLatch (link : Link)                                                                                     -- R377
  | esbWindowLatch (link : Link) (endRead : Bool)                                                                 -- R252
  | fifoResync (fifo : Nat) (far : Bool)                                                                          -- R472
  | unalignedAccess (link : Link) (isWrite : Bool) (offset size : Nat)                                            -- R500
  | registerWrite (link : Link) (offset size : Nat) (value : DWord)                                               -- R499
  -- rows 234 to 240 of the table
  | dieSiteSample (readings : List (Option Int))                                                                  -- R266
  | linkL1OrL0pChange (link : Link) (resting : Bool)                                                              -- R419
  | hdmDecoderCommit (link : Link) (index base size dpaBase ways gran : Nat) (locked : Bool)                      -- R67
  | labelStorageWrite (link : Link) (offset : Nat) (data : List Byte)                                             -- R60
  | channelPatternTestComplete (ch : DramCh) (pass : Bool)                                                        -- R356
  | railRecoveryTimeout (rail : Rail)                                                                             -- R291
  | pbPressStart                                                                                                  -- R297
  deriving DecidableEq, Repr

end Sys2Proof
end

