-- ==== Sys2Proof/Decode.lean ====
section
/-! DEFINITION. The opcode table of this block gives its rows no bits (every row's list of fields is empty): a command is
an event at a port, not an encoded word. No word therefore spells a command. -/

namespace Sys2Proof

/-- The command that a table word spells: none, because the table gives no row a word
(in part DESIGN CHOICE, notes/assumptions/41). -/
def decodeTableWord (_nbits _w : Nat) : Option Instr := none

end Sys2Proof
end

