-- ==== Sys2Proof/Config.lean ====
section
/-! DEFINITION. What a part or its module fixes, and the free values: constants without a body, of which nothing can be
proved, so that a statement holds whatever they are. -/

namespace Sys2Proof

/-- Byte `n` of DIE_ID in the factory data sector (Table 18-6, Table 22-2): free (DESIGN CHOICE, notes/assumptions/93). -/
opaque Config.dieId : Nat → Byte

/-- The n-th byte that the on-die random source delivers (R163, R431): free
(DESIGN CHOICE, notes/assumptions/83; DESIGN CHOICE, notes/assumptions/93). -/
opaque Config.random : Nat → Byte

/-- Byte `n` of the pattern that the device key in the fuses gives for wrapping the media key (R163): free
(DESIGN CHOICE, notes/assumptions/83). -/
opaque Config.wrapPattern : Nat → Byte

/-- Byte `n` of the eight check bytes that wrapping adds to a media key (R163, Table 18-3): free
(DESIGN CHOICE, notes/assumptions/83). -/
opaque Config.wrapCheck : List Byte → Nat → Byte

/-- AES-256-XTS of IEEE 1619 over one data unit: from the 64 key bytes, the tweak and the plaintext, byte `n` of the ciphertext (R162):
the standard's text is not the spec's, free (DESIGN CHOICE, notes/assumptions/18). -/
opaque Config.xtsByte : List Byte → Nat → List Byte → Nat → Byte

/-- The spar engine that raises an event of a code (R361, SOURCE): the spec names none, free (DESIGN CHOICE, notes/assumptions/32). -/
opaque Config.eventSource : BitVec 16 → Byte

/-- Which of the orders of 17 channels gives the parity channels of an aligned group of 17 stripes, by group (R123: a fixed hash that
is not host-visible): free (DESIGN CHOICE, notes/assumptions/12). -/
opaque Config.parityOrder : Nat → Nat

/-- Which of the orders of 16 channels a stripe's data lines take, by stripe (R123: the same hash): free
(DESIGN CHOICE, notes/assumptions/12). -/
opaque Config.lineOrder : Nat → Nat

/-- Subchannel and physical rank in which the 17 lines of a stripe lie, as 2 × subchannel + physical rank, by stripe (R90, R122: the
same hash): free (DESIGN CHOICE, notes/assumptions/12). -/
opaque Config.rankOfStripe : Nat → Fin 4

/-- The bank in which the 17 lines of a stripe lie, one number for logical rank, bank group and bank, by stripe (R90, R122: the same
hash): free (DESIGN CHOICE, notes/assumptions/12). -/
opaque Config.bankOfStripe : Nat → Nat

/-- The order number `k` of some things: the first is thing `k` mod their count, the rest are ordered by what remains of `k`. Every order
of `n` things has a number (the model's own numbering). -/
def orderOf : Nat → List Nat → Nat → List Nat
  | 0, _, _ => []
  | n + 1, xs, k =>
    let i := k % xs.length
    xs.getD i 0 :: orderOf n (xs.eraseIdx i) (k / xs.length)

/-- The channel of a stripe's parity line: in every aligned group of 17 stripes each channel holds exactly one (R123)
(in part DESIGN CHOICE, notes/assumptions/12). -/
def Config.parityChannel (st : Nat) : Fin 17 :=
  Fin.ofNat 17 ((orderOf 17 (List.range 17) (Config.parityOrder (st / 17))).getD (st % 17) 0)

/-- The channel a line lies on, by line number: the 16 data lines of a stripe and its parity line lie on 17 different channels
(R122, R123) (in part DESIGN CHOICE, notes/assumptions/12). -/
def Config.channelOfLine (line : Nat) : Fin 17 :=
  let p := (Config.parityChannel (line / 16)).val
  let i := (orderOf 16 (List.range 16) (Config.lineOrder (line / 16))).getD (line % 16) 0
  Fin.ofNat 17 (if i < p then i else i + 1)

/-- The DRAM maintenance engine, 0 to 7, that has the work of a channel (Table 01-3 names no owner): free
(DESIGN CHOICE, notes/assumptions/108). -/
opaque Config.maintainer : Fin 17 → Fin 8

/-- The management and security engine, 0 to 3, that has the QMP sessions (Table 01-3 names no owner): free
(DESIGN CHOICE, notes/assumptions/108). -/
opaque Config.qmpEngine : Fin 4

/-- The management and security engine, 0 to 3, that has the notices (Table 01-3 names no owner): free
(DESIGN CHOICE, notes/assumptions/108). -/
opaque Config.noticeEngine : Fin 4

/-- The activations of a bank after which the devices of a channel ask for a refresh management command, as their mode registers
report (R93): free (DEDUCED, notes/assumptions/47). -/
opaque Config.rfmThreshold : Fin 17 → Nat

/-- BEATS and DQ of a DRAM error record (Table 04-8), by the count of free values drawn: free
(DESIGN CHOICE, notes/assumptions/16). -/
opaque Config.errorBeats : Nat → BitVec 16

/-- DQ of a DRAM error record (DESIGN CHOICE, notes/assumptions/16). -/
opaque Config.errorDq : Nat → BitVec 4

/-- What a code flash word reads as after an operation that ended NOT_DONE (R388), or in a sector whose suspended erase
lost its power (R387): blank (none), or a word with or without a check-bit error; free (DESIGN CHOICE, notes/assumptions/42). -/
opaque Config.brokenWord : Nat → Nat → Option (DWord × Bool)

/-- e_man in J while bw_save is 0, by UPDATE_SEQ (R44, R45: no e_gb is computed then, and the spec states no e_man): free
(DESIGN CHOICE, notes/assumptions/37). -/
opaque Config.manifestEnergy : Nat → Rat

/-- soc at a pack voltage that lies on no rising segment of the Sheet OCV table (R247, R248: interpolation inside the table only),
by the count of free values drawn: free (DESIGN CHOICE, notes/assumptions/37). -/
opaque Config.ocvOutside : Nat → Rat

/-- c_meas in mF after a capacitance test whose voltage did not fall at all (R239: current × 0.2 s / ΔV), by the count of free
values drawn: free (DESIGN CHOICE, notes/assumptions/37). -/
opaque Config.zeroDropCapacitance : Nat → Nat

/-- The code of an event that a rule says is logged and that no table numbers: free (DESIGN CHOICE, notes/assumptions/88). -/
opaque Config.unnamedEvent : Nat → BitVec 16

/-- NEXT of a LOG_READ response that returns no record (R376 names it by the last record returned), by the count of free values
drawn: free (DESIGN CHOICE, notes/assumptions/59). -/
opaque Config.unstatedNext : Nat → BitVec 32

/-- A byte of a CXL mailbox payload that no chapter sets (Get Health Info, the overflow timestamp of Get Poison List), by the count of
free values drawn and the byte: free (DEDUCED, notes/assumptions/65). -/
opaque Config.healthByte : Nat → Nat → BitVec 8

/-- The boot version in the header of a boot part, by the PACKAGE_ID it came in (the header's layout is not given): free
(DEDUCED, notes/assumptions/61). -/
opaque Config.bootVersion : BitVec 32 → Nat

/-- QV_ID.REV: the silicon revision, as fused (Table 22-5 gives 0x10) (DESIGN CHOICE, notes/assumptions/93). -/
def Config.revision : Nat := 0x10

/-- Which block sets, by channel, die and index, carry a factory bad mark: what the flash devices hold, the spec does not say (R181):
free (DESIGN CHOICE, notes/assumptions/83). -/
opaque Config.factoryBad : Fin 32 → Fin 16 → Nat → Bool

end Sys2Proof
end

