-- ==== Sys2Proof/Machine/StateFw.lean ====
section
/-! DEFINITION. The parts of the state that update the firmware: the package being received or staged, the activation and
its probation, and the two Halyard ports with the status list. -/

namespace Sys2Proof.Machine

open Sys2Proof

/-- The fields of a package header (Table 17-1) that the controller uses. -/
structure FwHeader where
  packageId   : Word
  part        : BitVec 16
  version     : Word
  svn         : Nat
  handover    : Nat
  handoverMin : Nat
  total       : Nat
  fwLen       : Nat
  bootLen     : Nat
  /-- MAGIC and FORMAT are as in Table 17-1 and the reserved bytes are 0 (R397) -/
  wellFormed  : Bool
  deriving DecidableEq, Repr

/-- STATE of a status entry (Table 17-4). -/
inductive EntryRun where
  | none | staging | staged | refused | sigBad | notStaged | probation | committed | reverted | pendingRestart
  | unreachable
  deriving DecidableEq, Repr

/-- A status entry (Table 17-4). -/
structure StatusEntry where
  position : Nat
  run      : EntryRun
  reasons  : Nat
  deriving DecidableEq, Repr

/-- The package being received or staged (R338, R398–R401). -/
structure Staging where
  packageId : Word
  total     : Nat
  missing   : Nat
  /-- the session that owns it, and when its last chunk came (R338); Halyard chunks have no session -/
  owner     : Option Byte
  lastAt    : Nat
  header    : Option FwHeader
  /-- every chunk has been programmed and the package check has passed (R401) -/
  whole     : Bool
  deriving DecidableEq, Repr

/-- QV_FW_STAT.PHASE (Table 17-9). -/
inductive FwPhase where
  | idle | staging | staged | loading | switching | probation | pendingRestart | bootCopy
  deriving DecidableEq, Repr

/-- A Halyard port (R402–R406). -/
structure HyPort where
  /-- 0 down, otherwise the version it is up at -/
  version   : Nat
  lastAt    : Nat
  peer      : Nat
  /-- credits this module may use toward the neighbour -/
  credits   : Nat
  /-- credits owed to the neighbour that a save has withheld (R404) -/
  withheld  : Nat
  /-- a frame that stopped part-way, and when (R405) -/
  partialAt : Option Nat
  /-- bytes of a version 1 chunk's frames received so far -/
  pieces    : List Byte
  deriving DecidableEq, Repr

/-- A chunk on its way down the chain (Table 17-3, type 0x02). -/
structure HyChunk where
  package : Word
  offset  : Nat
  total   : Nat
  crc     : Word
  data    : List Byte
  deriving DecidableEq, Repr

/-- Firmware and Halyard (R397–R417) (in part DESIGN CHOICE, notes/assumptions/92). -/
structure Firmware where
  /-- the image running, and the image that the active half held before an activation -/
  active    : Option FwHeader
  old       : Option FwHeader
  /-- the header of the image in half A and in half B, where its signature and digest check -/
  imageA    : Option FwHeader
  imageB    : Option FwHeader
  /-- boot twin blocks 0 and 1 verify (R389), and the boot versions of their headers -/
  boot0     : Bool
  boot1     : Bool
  bootVer0  : Nat
  bootVer1  : Nat
  /-- the half that the firmware selector names: false A, true B -/
  half      : Bool
  /-- the half the running image lies in (the other one during probation) -/
  running   : Bool
  staging   : Option Staging
  phase     : FwPhase
  probFrom  : Nat
  cause     : Nat
  reasons   : Nat
  entry     : EntryRun
  /-- the next engine to switch (R409 step 3), and whether the engines go back to the old code (R413) -/
  nextEngine : Nat
  reverting : Bool
  chain     : Bool
  /-- the FW_ACTIVATE request that waits for step 5, to be answered then -/
  waiting   : Option QmpHdr
  /-- an activation that waits for QV_SHROUD.MODE to leave RETRAIN (R399) -/
  waitRetrain : Bool
  bootDue   : Bool
  /-- CROCUS was entered because no boot block verified (NEED_BOOT) -/
  needBoot  : Bool
  up        : HyPort
  dn        : HyPort
  /-- status entries held, own and downstream -/
  entries   : List StatusEntry
  crcErr    : Nat
  lastRelayAt : Option Nat
  reportDone : Bool
  /-- the relay stream's first missing byte, announced as RESUME_AT -/
  resumeAt  : Nat
  relayed   : Option (Word × Nat)
  /-- chunks taken in and not yet past the downstream neighbour, and the package whose R397 check has passed here -/
  relayQ    : List HyChunk
  verified  : Option Word
  chainDone : Bool
  deriving DecidableEq, Repr

end Sys2Proof.Machine
end

