-- ==== Sys2Proof/Machine/StateMgmt.lean ====
section
/-! DEFINITION. The parts of the state that manage the device: time, notices and their rings, QMP sessions and
carriers, the event recorder, targeted tests, the code flash, the two-wire buses, engines and the masthead. -/

namespace Sys2Proof.Machine

open Sys2Proof

/-- Time. `now` is the model's own count of milliseconds; the others are QV_OPTIME and QV_PCYCLE (R363, R377)
(in part DESIGN CHOICE, notes/assumptions/7). -/
structure Clock where
  now     : Nat
  /-- operating time in ms (48 bits in its register), advancing while VDD_AON is powered -/
  opTime  : Nat
  timeEst : Bool
  pcycle  : Word
  /-- the ROM has set both since VDD_AON last came up (R363) -/
  resumed : Bool
  deriving DecidableEq, Repr

/-- A pending notice (R340, Table 13-6). -/
structure Notice where
  seq         : Word
  code        : BitVec 16
  cls         : Nat
  late        : Bool
  merged      : Bool
  powerCycle  : Word
  opTime      : Nat
  repeats     : Nat
  /-- drops counted in this notice (R340) -/
  drops       : Nat
  /-- Content fields in 4-byte words; GEN fields take two, pack serials four -/
  payload     : List Word
  /-- numbers of the notices merged into this one: an acknowledgement of one of them retires it -/
  aliases     : List Word
  /-- AON holds the whole record, not its header alone (R448) -/
  aonFull     : Bool
  deliveredOn : List Carrier
  /-- written to the event logs of a link function, and to its ring where that is used -/
  onLinks     : List Link
  /-- written to the ring of a link function since its size was written (R343) -/
  inRings     : List Link
  /-- operating time of the first delivery, from which R342 counts -/
  firstAt     : Option Nat
  announcedAt : Nat
  disregarded : Bool
  /-- the next notice number when its transfer on the SMBus failed for good: until a further notice is raised or it is announced again,
  it is not sent there (R442) -/
  smbHeld     : Option Word
  deriving DecidableEq, Repr

/-- The notices (R340–R342). -/
structure Notices where
  nextSeq : Word
  /-- pending notices in order of their numbers -/
  pend    : List Notice
  /-- drops since the last notice was queued -/
  dropped : Nat
  deriving DecidableEq, Repr

/-- A cached result of a command with effect (R330, R331). -/
structure CachedResult where
  session : Byte
  seq     : Word
  opcode  : BitVec 16
  status  : QmpStatus
  body    : List Byte
  deriving DecidableEq, Repr

/-- An open QMP session (R329, R330). -/
structure Session where
  id       : Byte
  version  : Byte
  next     : Word
  tag      : Word
  chunkMs  : Nat
  isVolatile : Bool
  lastUse  : Nat
  results  : List CachedResult
  deriving DecidableEq, Repr

/-- A partly assembled MCTP message (R326, R339). -/
structure PartialMsg where
  carrier : Carrier
  source  : BitVec 16
  tag     : Nat
  nextSeq : Nat
  bytes   : List Byte
  lastAt  : Nat
  deriving DecidableEq, Repr

/-- A request that waits for step 7, for the end of a save or for the masthead (R26, R332, Table 07-6). -/
structure HeldReq where
  hdr  : QmpHdr
  body : QmpBody
  deriving DecidableEq, Repr

/-- Sessions, their copy in AON, and the carriers (R326–R333). -/
structure Qmp where
  /-- the session table in the metadata area has been loaded (step 7, R332) -/
  tableLoaded : Bool
  /-- open sessions, in the order in which they were opened -/
  sessions  : List Session
  /-- NEXT of every session the AON copy marks open, taken at each seal (R333) -/
  aonNext   : List (Byte × Word)
  /-- the AON responder's last 64 results -/
  aonCache  : List CachedResult
  /-- sessions closed in the AON copy, closed in the table at step 7 -/
  aonClosed : List Byte
  partials  : List PartialMsg
  held      : List HeldReq
  /-- notify endpoints registered by NEGOTIATE with NOTIFY (R341); the SMBus one is kept in `Smb` -/
  notifyVdm : Vector (Option (BitVec 16)) 8
  deriving DecidableEq, Repr

/-- A frozen snapshot (R470): group, capture time and captured registers. -/
structure Snapshot where
  group : Nat
  at_   : Nat
  regs  : List (Nat × Word)
  deriving DecidableEq, Repr

/-- SEL_STATE of QV_LOG_STAT (Table 15-4). -/
inductive SelState where
  | fetching | valid | notHeld
  deriving DecidableEq, Repr

/-- What each function holds for itself in the device block (R498). -/
structure FnRegs where
  ringBase     : BitVec 64
  ringSize     : Nat
  ringHead     : Nat
  ringTail     : Nat
  ringOverflow : Nat
  /-- the phase bit the next pass writes (R343) -/
  ringPhase    : Bool
  logSel       : Word
  logSelState  : SelState
  logData      : List Word
  rtView       : Bool
  snapSeq      : Nat
  snapGroup    : Nat
  snap         : Option Snapshot
  /-- QV_FL_GEN_HI as latched by the last read of QV_FL_GEN_LO -/
  genHi        : Word
  /-- the four plan marks as latched by the last read of QV_PLAN_INFO -/
  planMarks    : List Word
  optimeHi     : Word
  /-- the 256 bytes latched by the last read at 0x0500 -/
  esb          : List Byte
  /-- when the window was latched (R252) -/
  esbAt        : Option Nat
  /-- when this function last logged an unaligned access (R500) -/
  unalignedAt  : Option Nat
  deriving DecidableEq, Repr

/-- An event record (Table 15-1). -/
structure Record where
  code       : BitVec 16
  severity   : Nat
  timeEst    : Bool
  inSave     : Bool
  lastWords  : Bool
  sramOnly   : Bool
  source     : Byte
  powerCycle : Word
  opTime     : Nat
  recno      : Word
  payload    : List Byte
  deriving DecidableEq, Repr

/-- A code's token bucket, in thousandths of a token, and its drop count (R365). -/
structure Bucket where
  code      : BitVec 16
  milli     : Nat
  at_       : Nat
  drops     : Nat
  firstDrop : Nat
  lastDrop  : Nat
  deriving DecidableEq, Repr

/-- The OVERFLOW entry reserved in the staging buffer (R367). -/
structure OverflowEntry where
  counts    : List Nat
  firstDrop : Nat
  deriving DecidableEq, Repr

/-- The event recorder (R365–R374). -/
structure Recorder where
  staging    : List Record
  overflow   : Option OverflowEntry
  /-- the open assembly page -/
  page       : List Record
  /-- the other page while it waits for, or is in, its program -/
  fullPage   : Option (List Record)
  nextRecno  : Word
  buckets    : List Bucket
  drops      : Nat
  /-- the NAND log, oldest record first -/
  nand       : List Record
  /-- page groups written in the block set in use, and which of the two it is (R370) -/
  logPage    : Nat
  logSet     : Nat
  /-- records of the block set in use -/
  inSet      : Nat
  /-- no NAND log since LOG_MEDIUM_LOST (R372) -/
  sramOnly   : Bool
  /-- a NAND log is in service (flash in service and the system area found) -/
  nandUp     : Bool
  /-- the last-words ring, oldest slot first, at most 96 (R373) -/
  ring       : List Record
  /-- slots written since the ring's first sector was erased -/
  ringSlots  : Nat
  /-- operating times of the ring writes in the last 60 min, and records withheld since the last one -/
  ringTimes  : List Nat
  withheld   : List Nat
  /-- a power cycle's ring records that carry SRAM_ONLY and are not in the NAND log yet (R374) -/
  sweptAt    : Nat
  logDroppedAt : Option Nat
  /-- records dropped that no LOG_DROPPED has reported (Table 15-7) -/
  dropsOwed : Bool
  deriving DecidableEq, Repr

/-- A targeted test queued or running (R345, R351). -/
structure Test where
  part        : Part
  running     : Bool
  occurrences : Nat
  /-- TEST_ID of a commanded test (R356) -/
  commanded   : Option Word
  deriving DecidableEq, Repr

/-- One transient counted against a part (R352). -/
structure Transient where
  part : Part
  at_  : Nat
  deriving DecidableEq, Repr

/-- A repaired row or retired engine of the repair list (Table 16-5). -/
inductive Repair where
  | row (ch : DramCh) (row : RowId)
      (device : Fin 10)
  | engine (e : EngineId)
  deriving DecidableEq, Repr

/-- Why an interval of Table 14-6 runs. -/
inductive AvailKind where
  | counted | excluded | notCounted
  deriving DecidableEq, Repr

/-- Targeted tests and availability (R345–R359). The sums reside in AON. -/
structure FaultMgmt where
  tests      : List Test
  transients : List Transient
  nextTestId : Word
  /-- DRAM device repairs of the last 24 h: (channel, rank, device, bank group, bank, time) -/
  repairLog  : List (DramCh × Fin 4 × Fin 10 × Nat × Nat)
  retiredLanes : List (Link × Fin 16)
  availMs    : Nat
  exclMs     : Nat
  availEvents : Nat
  year       : Nat
  /-- operating time at which the module-year began -/
  yearStart  : Nat
  /-- the interval in progress: its kind and start -/
  interval   : Option (AvailKind × Nat)
  /-- time HOLD has been set within the interval, and since when -/
  holdMs     : Nat
  holdSince  : Option Nat
  deriving DecidableEq, Repr

/-- A programmed code flash word: its data and whether a read reports a check-bit error (R379, R388). -/
structure CfWord where
  data : DWord
  bad  : Bool
  deriving DecidableEq, Repr

/-- QV_CF_STAT.OP (Table 16-7). -/
inductive CfOp where
  | idle | program | erase | suspended
  deriving DecidableEq, Repr

/-- The code flash array and its controller (R379–R396). -/
structure CodeFlash where
  /-- programmed words by word address, rising; an address not listed is blank (R379) -/
  words     : List (Nat × CfWord)
  op        : CfOp
  sector    : Nat
  notDone   : Bool
  refusedAccess : Bool
  corrected : Nat
  /-- the sector whose erase a save has suspended (R386, R387) -/
  suspended : Option Nat
  /-- the word address of a program in progress -/
  target    : Option (Nat × DWord)
  /-- the brown-out detector blocks every new pulse (R388) -/
  blocked   : Bool
  /-- repair list entries that the masthead holds until the operation in progress has ended, oldest first (R385) -/
  held      : List Repair
  deriving DecidableEq, Repr

/-- A message the SMBus master interface sends (R441–R444). -/
inductive SmbMsg where
  | response (dest : BitVec 16) (opcode : BitVec 16) (session : Byte) (seq : Word) (status : QmpStatus)
      (replay : Bool) (body : List Byte)
  | notice (dest : BitVec 7) (seq : Word)
  deriving DecidableEq, Repr

/-- QV_SMB_STAT.STATE (Table 19-7). -/
inductive SmbState where
  | idle | receiving | sending | waitFree
  deriving DecidableEq, Repr

/-- The host SMBus (R438–R448, Tables 19-7 to 19-9), in AON. -/
structure Smb where
  state    : SmbState
  alert    : Bool
  notify   : Option (BitVec 7)
  speed    : Nat
  stuck    : Bool
  rsAck    : Nat
  arbSr    : Nat
  arb      : Nat
  timeout  : Nat
  pec      : Nat
  nacked   : Nat
  badCmd   : Nat
  clear    : Nat
  /-- the message being sent or to be sent again, its attempts so far and its MCTP message tag -/
  current  : Option (SmbMsg × Nat × Nat)
  /-- responses that wait for the master interface, oldest first -/
  queue    : List SmbMsg
  nextTag  : Nat
  /-- the failure after which the message is sent again (R442), and the latest bus-clear procedure of a stuck bus (R459) -/
  failedAt : Nat
  retryAt  : Nat
  deriving DecidableEq, Repr

/-- QV_LB_STAT.STATE (Table 19-10). -/
inductive LbState where
  | unused | inService | clearing | stuck
  deriving DecidableEq, Repr

/-- The local bus (R449–R459, Tables 19-10 and 19-11), in AON. -/
structure LocalBus where
  state       : LbState
  alertMasked : Bool
  maskedAt    : Nat
  lastAddr    : BitVec 7
  window      : Nat
  stuckCount  : Nat
  timeout     : Nat
  nack        : Nat
  clear       : Nat
  skipped     : Nat
  stuckSince  : Nat
  /-- the latest bus-clear procedure of a stuck bus (R459) -/
  retryAt     : Nat
  /-- sites whose pointer byte has been written since the last bus clear or failed read (R452) -/
  pointers    : List Site
  /-- the charger's set points have been written and read back equal (R453) -/
  chargerSet  : Bool
  /-- the latest STATUS_WORD of each regulator, and rails whose regulator is not polled (R455) -/
  regStatus   : List (Rail × BitVec 16)
  regSilent   : List Rail
  /-- consecutive pairs of identity reads that failed (R454) -/
  idFailures  : Nat
  deriving DecidableEq, Repr

/-- What a spar engine is doing (R23, R350). -/
inductive EngineRun where
  | inService | bist | swapping | retired | resting
  deriving DecidableEq, Repr

/-- A spar engine (R22). `bankNew` says that it runs the image of the activation in progress (R409). -/
structure Engine where
  role     : Option Role
  run      : EngineRun
  bankNew  : Bool
  loaded   : Bool
  /-- the exception being tested was raised by new code in its probation (R413) -/
  suspect  : Bool
  deriving DecidableEq, Repr

/-- The engines, the masthead, and the engine swap in progress (R22–R26). -/
structure Engines where
  eng        : Vector Engine 64
  /-- swaps in progress: the failed engine's role and the engine that takes it -/
  swaps      : List (Role × EngineId)
  deriving DecidableEq, Repr

/-- QV_COMPAT (Table 20-4) and the cross-domain FIFOs that wait for their handshake (R472) (in part DEDUCED, notes/assumptions/46). -/
structure Crossings where
  holdflag : Bool
  hfActive : Bool
  /-- FIFOs whose sides are in reset, by model number: (near side up, far side up) -/
  fifos    : List (Nat × Bool × Bool)
  deriving DecidableEq, Repr

end Sys2Proof.Machine
end

