-- ==== Sys2Proof/Machine/StateMem.lean ====
section
/-! DEFINITION. The parts of the state that hold data: DRAM and its channels, Shroud, the persistence engine's maps and
ceiling, and the flash medium with its generations. -/

namespace Sys2Proof.Machine

open Sys2Proof

/-- QV_DC_STAT.STATE (Table 04-9). -/
inductive DcRun where
  | notTrained | training | inService | retraining | sliced | outOfService | rebuilding | selfRefresh
  deriving DecidableEq, Repr

/-- What the accesses of a channel leave behind (R29, R90, R93, R94) (in part DEDUCED, notes/assumptions/47). -/
structure ChanAccess where
  /-- activations of each bank since its last refresh management command, and such commands issued (R93) -/
  acts       : List (Nat × Nat)
  rfms       : Nat
  /-- READ and WRITE commands issued, one for each activation (R29, R90) -/
  reads      : Nat
  writes     : Nat
  /-- physical ranks in precharge power-down (R94), by 2 × subchannel + physical rank -/
  powerDown  : Vector Bool 4
  deriving DecidableEq, Repr

/-- A correctable error of the last second: its time, its DQ lanes, and the device by rank and number (R112). -/
structure LaneError where
  at_    : Nat
  dq     : BitVec 4
  rank   : Fin 4
  device : Fin 10
  deriving DecidableEq, Repr

/-- A DRAM channel (R89–R121) (in part DEDUCED, notes/assumptions/47). -/
structure DramChan where
  run        : DcRun
  band2x     : Bool
  /-- trained rate in units of 400 MT/s, 0 while not in service -/
  rate       : Nat
  /-- devices marked failed: 2 × subchannel + physical rank, and device (R106) -/
  failed     : List (Fin 4 × Fin 10)
  /-- the devices' on-die ECC is enabled, and their error check and scrub mode is on (R105) -/
  onDieEcc   : Bool
  ecsMode    : Bool
  /-- times of correctable errors in the last 24 h -/
  ceTimes    : List Nat
  /-- refresh debt of each logical rank, indexed by 16 × subchannel + 8 × physical rank + logical rank (R101) -/
  debt       : Vector Int 32
  /-- refreshes issued to each logical rank, modulo 2^32 (what the ticks and pull-ins caused) -/
  refreshes  : Nat
  /-- when the refresh tick timer began with the interval of the present band (R102) -/
  tickFrom   : Nat
  /-- scrub share accumulated while a rank sleeps, as stripes, and since when (R97), by 2 × subchannel + physical rank -/
  scrubOwed  : Vector (List Nat) 4
  owedAt     : Vector Nat 4
  /-- lines of the channel that the present scrub pass has read, and when the last pass ended (R97: each line once in 24 h) -/
  scrubPos   : Nat
  scrubPassAt : Nat
  /-- calibrations run: ZQ, DQS oscillator, read centering (R111) -/
  zqCals     : Nat
  dqsCals    : Nat
  readCals   : Nat
  /-- write-timing adjustments made on drift -/
  dqsAdjust  : Nat
  /-- device RESET_N released -/
  resetN     : Bool
  /-- DRAM case temperature at the last training, 1/1024 °C (R112) -/
  trainTemp  : Int
  /-- recent write CRC replays, address mismatches, same-lane correctable errors (R112) -/
  crcTimes   : List Nat
  mismatchTimes : List Nat
  laneErrors : List LaneError
  /-- replays done for the write in replay, and when the last one was (R105) -/
  replays    : Nat
  replayAt   : Option Nat
  /-- retrainings triggered by items 2 to 4 of R112 in the last 24 h (Table 14-2) -/
  triggers   : List Nat
  /-- slices left and time of the last slice, of a sliced retraining -/
  slicesLeft : Nat
  sliceAt    : Nat
  selfRefreshAt : Nat
  /-- what the channel was doing when its ranks entered self-refresh (R98) -/
  sleptFrom  : DcRun
  /-- when training was last tried on the channel out of service (R117) -/
  retryAt    : Nat
  /-- trained settings held in AON with their CRC's check and the Shroud setting (R98, R141) -/
  stored     : Option (Bool × Bool)
  type8At    : Option Nat
  type8Count : Nat
  deriving DecidableEq, Repr

/-- DRAM as a whole (R89, R109, R112, R113) (in part DEDUCED, notes/assumptions/11). -/
structure Dram where
  ch         : Vector DramChan 17
  /-- the bytes of usable DRAM, rising by address, zero bytes not listed: what reads of present granules return -/
  mem        : List Host.Cell
  /-- the bytes of the parity lines: byte i of the parity line of stripe st at 64 × st + i, rising, zero bytes not listed (R122) -/
  parity     : List Host.Cell
  /-- accesses of each channel -/
  acc        : Vector ChanAccess 17
  /-- channels that wait to retrain, in channel order -/
  retrainQ   : List DramCh
  /-- common data rate in 100 MT/s and steps below the starting rate -/
  rate       : Nat
  rateSteps  : Nat
  /-- QV_DC_PD.PD_TIMER -/
  pdTimer    : BitVec 16
  deriving DecidableEq, Repr

/-- Where a poison came from (R79, R81). -/
inductive PoisonSource where
  | internal | external | injected
  deriving DecidableEq, Repr

/-- The poison record in the metadata area (R79–R81, R118): single lines, and granules poisoned whole with the lines of
them that have been cleared since (in part DESIGN CHOICE, notes/assumptions/14). -/
structure PoisonMap where
  lines    : List (Nat × PoisonSource)
  granules : List (Nat × PoisonSource)
  cleared  : List Nat
  deriving DecidableEq, Repr

/-- A staging SRAM entry (R124, R125). -/
structure StagingEntry where
  stripe : Nat
  /-- folds by other lines since it opened -/
  folds  : Nat
  /-- the folded change of the parity line -/
  delta  : Line
  /-- the new parity line, computed once at each drain (R124) -/
  parity : Line
  /-- closed: the parity line has been written, and its write is not past the CRC window yet -/
  written : Bool
  deriving DecidableEq, Repr

/-- QV_SHROUD.MODE (Table 05-4). -/
inductive ShroudMode where
  | none | off | full | reconstruct | retrain | rebuild | relocate | relocated
  deriving DecidableEq, Repr

/-- QV_SHROUD_PROG.KIND (Table 05-5). -/
inductive PassKind where
  | rebuild | staleRewrite | relocationFill | copyBack
  deriving DecidableEq, Repr

/-- Shroud (R122–R142). -/
structure Shroud where
  mode      : ShroudMode
  channel   : Option DramCh
  channel2  : Option DramCh
  staging   : List StagingEntry
  pass      : Option PassKind
  /-- the first stripe a pass has not done yet -/
  watermark : Nat
  locked    : Option Nat
  /-- regions left of the pass -/
  left      : Nat
  mismatch  : Nat
  unrecov   : Nat
  /-- stale map: regions, and the channel it is of (R114, R115) -/
  stale     : List Nat
  staleCh   : Option DramCh
  /-- granules of the lost channel filled into their parity slots (R137) -/
  filled    : List Nat
  deriving DecidableEq, Repr

/-- What the metadata area holds beside host data: it is saved as ordinary granules and comes back at step 7 (R36, R80, R81, R330,
R340) (in part DESIGN CHOICE, notes/assumptions/13). -/
structure MetaImage where
  poison    : PoisonMap
  sessions  : List Session
  labels    : List (Nat × Byte)
  shutdownDirty : Bool
  dirtyShutdowns : Nat
  notices   : Notices
  deriving DecidableEq, Repr

/-- A granule being flushed (R42, R150). -/
structure InFlight where
  granule   : Nat
  /-- SEQ of its page groups that have not passed program status -/
  pages     : List Nat
  /-- rows whose parity has not passed: band and row -/
  rows      : List (Nat × Nat)
  /-- a host write landed in it meanwhile: its flush does not clear it (R43) -/
  rewritten : Bool
  /-- of a metadata granule: the metadata as it stood when its flush was issued -/
  image     : Option MetaImage
  deriving DecidableEq, Repr

/-- What a computation of the ceiling published (R44, R47, Table 02-4). Quantities are in bytes
(in part DESIGN CHOICE, notes/assumptions/10). -/
structure Ceiling where
  c         : Rat
  cE        : Rat
  cPack     : Rat
  cBp       : Rat
  ePack     : Rat
  eRes      : Rat
  eGb       : Rat
  bwSave    : Rat
  limit     : Nat
  updateSeq : Nat
  uncov     : Bool
  isOver      : Bool
  esbDefault : Bool
  packChanged : Bool
  bankLost  : Bool
  packLost  : Bool
  flashRate : Bool
  savePower : Bool
  restDue   : Bool
  cold      : Bool
  deriving DecidableEq, Repr

/-- The standing save plan (R187, Tables 07-12 and 07-13): store, planning voltage in mV and charge marks in mC. -/
structure SavePlan where
  updateSeq : Nat
  /-- 1 pack, 2 bank, 3 none -/
  store     : Nat
  vPlan     : Nat
  qEnd      : Rat
  mRet      : Rat
  mSeal     : Rat
  mMan      : Rat
  qFlush    : Rat
  qStart    : Rat
  deriving DecidableEq, Repr

/-- Flush classes (R48). -/
inductive FlushClass where
  | none | background | holding | coverage
  deriving DecidableEq, Repr

/-- QV_STATE.PSUB (Table 02-6). -/
inductive Psub where
  | covered | barePole | degraded | uncovered
  deriving DecidableEq, Repr

/-- The persistence engine (R37–R58). Granules and regions are by number. -/
structure Persist where
  /-- dirty granules with the time of their last write, least recently written first (R43) -/
  dirty     : List (Nat × Nat)
  inflight  : List InFlight
  heat      : List (Nat × Nat)
  /-- granules newly made dirty since the last HEAT update, by region (R41) -/
  newDirty  : List (Nat × Nat)
  /-- regions with poisoned granules (FLAGS bit 0) -/
  poisonFlag : List Nat
  /-- generation in which a region's oldest clean granule was sealed -/
  regionGen : List (Nat × DWord)
  /-- bytes fresh-dirtied since the last update, and f_in of the last window in bytes per 100 ms (R48) -/
  freshBytes : Nat
  fIn       : Nat
  ceiling   : Ceiling
  plan      : SavePlan
  cls       : FlushClass
  /-- the holding rate set at the last setting, bytes per second -/
  holdRate  : Rat
  /-- bytes of flush programs issued in the present and in the last 100 ms -/
  issued    : Nat
  issuedLast : Nat
  /-- QV_DIRTY_NOW -/
  dirtyNow  : Nat
  /-- wear credit W in bytes (R51) and its sign at the last update (R52) -/
  wear      : Int
  wearPos   : Bool
  /-- none until the first evaluation (R56) -/
  psub      : Option Psub
  nLost     : Nat
  /-- covered parts whose loss has been reported by a part notice -/
  lostSeen  : List Nat
  /-- the metadata area as its newest copies on flash hold it: what differs from it is dirty (R42, R193) -/
  metaFlushed : MetaImage
  lastLimit : Nat
  deriving DecidableEq, Repr

/-- STATE of a manifest entry (Table 06-13). -/
inductive EntryState where
  | zero | present | lost
  deriving DecidableEq, Repr

/-- A manifest entry (Table 06-13). -/
structure Entry where
  state : EntryState
  band  : Nat
  row   : Nat
  ch    : FlashCh
  seq   : Nat
  deriving DecidableEq, Repr

/-- KIND of a page group (Table 06-3). -/
inductive PageKind where
  | granule | chunk | root | parity | compacted
  deriving DecidableEq, Repr

/-- A page group with its header (Table 06-3). The data of granule copies is kept as cells, with offsets in the granule; what the die
holds is its ciphertext under the key of KEY_ID (R162). A parity page group is the XOR of the page groups it covers (R147). -/
structure PageGroup where
  band  : Nat
  row   : Nat
  ch    : FlashCh
  kind  : PageKind
  half  : Nat
  seq   : Nat
  index : Nat
  gen   : DWord
  keyId : Word
  cells : List Host.Cell
  /-- when its program was issued to the die; none while it waits for its LUN (R18, R217) -/
  issuedAt : Option Nat
  /-- program status has passed; a torn or failed page group never does -/
  passed : Bool
  /-- of a parity page group: SEQ of the page groups that were its row's members when it was formed (R147) -/
  covers : List Nat
  deriving DecidableEq, Repr

/-- A RAIN row being written (R147, R151). -/
structure OpenRow where
  band     : Nat
  row      : Nat
  members  : List FlashCh
  openedAt : Nat
  deriving DecidableEq, Repr

/-- A band that is not in the free pool (R147, R179). -/
structure Band where
  num      : Nat
  nextRow  : Nat
  /-- 30 + 1 stripes (R167) -/
  span31   : Bool
  /-- member channels it is formed on -/
  members  : List FlashCh
  closed   : Bool
  /-- being compacted, refreshed, re-striped or moved for wear -/
  moving   : Bool
  deriving DecidableEq, Repr

/-- State of a block set (R149). -/
inductive BlockRun where
  | erased | opened (next : Nat) | full | eraseIncomplete
  deriving DecidableEq, Repr

/-- A block set that differs from an erased, never used one (R149, R158, R165, R172). -/
structure BlockSet where
  ch      : FlashCh
  die     : Fin 16
  index   : Nat
  run     : BlockRun
  erases  : Nat
  /-- the erase count that the system area holds, written at each seal (R172) -/
  saved   : Nat
  learned : Int
  retired : Bool
  refresh : Bool
  /-- withheld from programs for a block test (R348) -/
  withheld : Bool
  deriving DecidableEq, Repr

/-- An erase in progress (R148, R154, R155). -/
structure EraseOp where
  ch        : FlashCh
  die       : Fin 16
  index     : Nat
  suspended : Bool
  suspends  : Nat
  resumedAt : Nat
  /-- started under the exception of R156 -/
  freeRide  : Bool
  deriving DecidableEq, Repr

/-- QV_FC_STAT.STATE (Table 06-11). -/
inductive FcRun where
  | notTrained | training | inService | engineSwap | outOfService
  deriving DecidableEq, Repr

/-- A flash channel (R143–R171). -/
structure FlashChan where
  run      : FcRun
  /-- SDR timing mode 0, before the channel has trained; the NV-LPDDR4 interface afterwards (Table 06-1) -/
  sdr      : Bool
  /-- flash thermal band (R152) -/
  band     : Nat
  /-- dies in service -/
  dies     : List (Fin 16)
  /-- trained rate in 200 MT/s -/
  rate     : Nat
  /-- times of reads that needed entry 4 or above in the last 24 h -/
  retryHi  : List Nat
  grownBad : Nat
  /-- recent busy timeouts: die and time (R153) -/
  timeouts : List (Fin 16 × Nat)
  /-- page reads issued, and the threshold offset of the last one (R158, R160) -/
  reads    : Nat
  readOffset : Int
  /-- when training was last tried on the channel out of service (R168) -/
  retryAt  : Nat
  /-- has an engine to own it (R24) -/
  hasEngine : Bool
  deriving DecidableEq, Repr

/-- KIND of a seal (Table 06-15). -/
inductive SealKind where
  | save | checkpoint | format
  deriving DecidableEq, Repr

/-- A generation that has been sealed: its seal record (Table 06-15), its manifest and root (Tables 06-13 and 06-14) and
the metadata it saved. `copies` says which mirrors hold the record (FC00's, FC16's). -/
structure Generation where
  kind     : SealKind
  gen      : DWord
  prevGen  : DWord
  lostFlag : Bool
  retained : Bool
  powerCycle : Word
  opTime   : Nat
  keyId    : Word
  wear     : Int
  lost     : Nat
  gran128  : Bool
  copies   : Bool × Bool
  entries  : List (Nat × Entry)
  /-- where its manifest chunks lie, where root part 0 does, and CRC-32 over the root parts -/
  chunkMap : List (Nat × Entry)
  root     : Option Entry
  rootCrc  : Word
  heat     : List (Nat × Nat)
  watermark : Option Nat
  rebuildCh : Option DramCh
  staleCh  : Option DramCh
  stale    : List Nat
  metaImg  : MetaImage
  deriving DecidableEq, Repr

/-- How far a generation has come: asked for, its chunks written, its root written, its seal record (R177, R178, R194). -/
inductive SealStage where
  | asked | chunks | root | record
  deriving DecidableEq, Repr

/-- A generation being written: how far it has come, the chunks it writes, what it will hold, and which mirrors have failed so far
(R177, R178, Table 07-5). -/
structure SealJob where
  kind     : SealKind
  stage    : SealStage
  /-- every chunk is written afresh (R167 step 5) -/
  every    : Bool
  chunks   : List Nat
  draft    : Option Generation
  attempts : Nat
  failed0  : Bool
  failed1  : Bool
  /-- R167 step 5: the lost channels whose re-striping ends with this seal -/
  restripe : List FlashCh
  deriving DecidableEq, Repr

/-- Moving live page groups out of a band (R166, R172, R174, R179, R348). -/
inductive MoveReason where
  | compaction | restripeDie (ch : FlashCh) (die : Fin 16) | restripeChannel (ch : FlashCh) | wear | refresh | test
  deriving DecidableEq, Repr

/-- A system area mirror (chapter 06, "System area"; R371): its channel and whether it is in service. -/
structure Mirror where
  ch : FlashCh
  ok : Bool
  deriving DecidableEq, Repr

/-- A page read on its ladder (R158–R161). -/
inductive ReadPurpose where
  | demand | restore | compaction | scrub | save
  deriving DecidableEq, Repr

/-- The flash medium (R143–R181). -/
structure Flash where
  ch        : Vector FlashChan 32
  /-- programmed page groups that have not been erased -/
  pages     : List PageGroup
  bands     : List Band
  openRows  : List OpenRow
  blocks    : List BlockSet
  erases    : List EraseOp
  /-- the working manifest; a granule not listed is ZERO (Table 06-13) -/
  manifest  : List (Nat × Entry)
  /-- chunks changed since the previous generation (R178, R194), and where each chunk was written last -/
  chunks    : List Nat
  chunkMap  : List (Nat × Entry)
  nextSeq   : Nat
  /-- the highest GEN given to a seal; and the seal records of the rings, the newest generation last -/
  gen       : DWord
  gens      : List Generation
  sealJob   : Option SealJob
  /-- bytes flushed and time since the last generation (R178) -/
  flushed   : Nat
  sealedAt  : Nat
  mirrors   : Vector Mirror 2
  relocating : Bool
  moves     : List (Nat × MoveReason)
  /-- retired dies, whether for good or for this start-up -/
  retiredDies : List (FlashCh × Fin 16)
  /-- lost channels whose re-striping has not ended with its seal (R167) -/
  restripe  : List FlashCh
  /-- bands the retention scrub has read in the present pass, and when that pass began (R174) -/
  scrubbed  : List Nat
  scrubPassAt : Nat
  fullScrub : Bool
  /-- the flash has been unpowered since the last full scrub ended (R174) -/
  scrubOwed : Bool
  retentionDue : Bool
  standbySince : Option Nat
  wpN       : Bool
  /-- operations a NAND brown-out interrupted (R176) -/
  brownOut  : Bool
  capLow    : Bool
  wearStage : Nat
  /-- the data capacity has fallen below 2.0 × usable DRAM (R170) -/
  capGone   : Bool
  formatting : Bool
  inService : Bool
  deriving DecidableEq, Repr

end Sys2Proof.Machine
end

