-- ==== Sys2Proof/Machine/StatePower.lean ====
section
/-! DEFINITION. The parts of the state that keep the module powered: the settings in force, power state, rails, push
button, start-up, temperature, energy stores, protection level and debug. -/

namespace Sys2Proof.Machine

open Sys2Proof

/-- The reaction class of a rail (Table 11-4). -/
inductive RailClass where
  | ignore | retry | group | reset
  deriving DecidableEq, Repr

/-- A rail's entry of the RAILS section (Table 11-1, Table 12-5). -/
structure RailSet where
  timeoutMs : Nat
  /-- qualification time in 0.5 ms -/
  qualHalfMs : Nat
  filterUs  : Nat
  /-- gap in 0.1 ms -/
  gapTenths : Nat
  cls       : RailClass
  deriving DecidableEq, Repr

/-- PACK and PACK_TABLES sections (Table 12-5). -/
structure PackSet where
  eDesign : Nat
  kFade   : Nat
  cycleLife : Nat
  vPlan   : Nat
  vGuard  : Nat
  chgV    : Nat
  chgI    : Nat
  termI   : Nat
  stbyI   : Nat
  shunt   : Nat
  rLimit  : Nat
  idAddr  : BitVec 7
  uRate   : Nat
  uRest   : Nat
  uStart  : Nat
  unrestoredCap : Nat
  /-- DERATE: 15 points from −10 °C in 5 °C steps, in 1/200 -/
  derate  : List Nat
  /-- OCV: 21 points, mV at 25 °C and µV/°C -/
  ocv     : List (Nat × Int)
  deriving DecidableEq, Repr

/-- BANK section (Table 12-5). -/
structure BankSet where
  eRated : Nat
  vPlan  : Nat
  vGuard : Nat
  chgV   : Nat
  chgI   : Nat
  testI  : Nat
  cMin   : Nat
  deriving DecidableEq, Repr

/-- Temperature domains (Table 10-1, QV_T_SITE.DOMAIN). -/
inductive Domain where
  | die | dram | nand | pack | board
  deriving DecidableEq, Repr

/-- A remote entry of the SENSORS section. -/
structure SensorSet where
  site     : Site
  addr     : BitVec 7
  format   : Nat
  domain   : Domain
  channels : BitVec 32
  deriving DecidableEq, Repr

/-- The settings in force (R312): every field of Table 12-5 that the controller uses. -/
structure Settings where
  dramPranks : Nat
  dramStack  : Nat
  /-- Gbit per die -/
  dramDie    : Nat
  /-- units of 100 MT/s -/
  dramRate   : Nat
  flashDies  : Nat
  flashLuns  : Nat
  flashRate  : Nat
  blockSets  : Nat
  /-- REGION 128 MiB, so granules of 128 KiB -/
  region128  : Bool
  shroudOn   : Bool
  flashModel : List Byte
  pslc       : Byte
  rrFeature  : Byte
  ladder     : List Int
  softDelta  : Nat
  trMax      : Nat
  tprogMax   : Nat
  tbersMax   : Nat
  tespdMax   : Nat
  peCycles   : Nat
  rails      : List RailSet
  pack       : PackSet
  bank       : Option BankSet
  singleMode : Bool
  minDie     : Nat
  minDram    : Nat
  minNand    : Nat
  dramOffset : Nat
  sensors    : List SensorSet
  /-- ceiling cap in MiB, 0 to derive from energy only -/
  capMib     : Nat
  pSave      : Nat
  pSaveHot   : Nat
  wearRate   : Nat
  wearMax    : Nat
  position   : Nat
  chainLen   : Nat
  hasHalyard : Bool
  hostSplit  : Byte
  adminLinks : Byte
  pdTimer    : BitVec 16
  deriving DecidableEq, Repr

/-- The power states of Table 18-1 (IDLE is a flag of RUN). -/
inductive PowerState where
  | off | ship | standby | run | save | restore | crocus
  deriving DecidableEq, Repr

/-- How a STANDBY is left (R301, R278). -/
inductive StandbyKind where
  | byInput | byPress | byCooling
  deriving DecidableEq, Repr

/-- Power state and the inputs that govern it (R418–R420, R287, R301) (in part DESIGN CHOICE, notes/assumptions/34). -/
structure Power where
  state     : PowerState
  /-- start-up in progress: QV_STATE.POWER reads 0x0 STARTING (R420) -/
  starting  : Bool
  idle      : Bool
  minimal   : Bool
  /-- VDD_AON is above its power-on reset threshold -/
  aon       : Bool
  aux       : Bool
  /-- the 12 V input is qualified and has not been lost since (R287, R182) -/
  inputOk   : Bool
  pfLow     : Bool
  /-- the state STANDBY was entered by -/
  standby   : StandbyKind
  /-- VDD_SRAM has stayed powered (estimator block, settings, R253) -/
  sram      : Bool
  /-- DRAM has been in service since the last loss of its contents -/
  dramUp    : Bool
  deriving DecidableEq, Repr

/-- QV_RAIL[n].STATE (Table 11-10). -/
inductive RailRun where
  | off | qualifying | qualified | fault | failed | switchedOff
  deriving DecidableEq, Repr

/-- One managed rail (R283–R292, Table 11-10). -/
structure RailState where
  run      : RailRun
  en       : Bool
  /-- when EN_x was last driven high, or low for a retry (R286, R288) -/
  enAt     : Nat
  pg       : Bool
  retries  : Nat
  qualHalf : Nat
  faults   : Nat
  drops    : Nat
  set_     : RailSet
  /-- when the present fault began, when the last recovery was, and the faults of the 60 s window -/
  faultAt  : Option Nat
  recoverAt : Option Nat
  window   : List Nat
  deriving DecidableEq, Repr

/-- What a sequence of rails is for. -/
inductive SeqPurpose where
  | boot | main | groupAgain (g : Fin 3)
  deriving DecidableEq, Repr

/-- What happens when a shutdown of rails ends (R196, R289, R290, R293, R294, R276, R297). -/
inductive DownThen where
  /-- STANDBY or OFF, by the presence of auxiliary input or the 12 V input -/
  | standby (kind : StandbyKind)
  /-- latch a failure to come up with its rail -/
  | latch (rail : Rail)
  /-- latch the thermal trip -/
  | trip
  /-- wait 100 ms, then start from the boot stage -/
  | restart
  /-- a group stays down 1 s, or is latched -/
  | group (g : Fin 3) (latch : Bool)
  deriving DecidableEq, Repr

/-- The rail supervisor (R282–R295, Table 11-7), in AON. -/
structure Rails where
  rail     : Vector RailState 12
  latched  : Bool
  latchRail : Nat
  /-- group latches: host PHY, DDR, NAND -/
  groupLatched : Vector Bool 3
  seqTop   : Nat
  /-- the rails still to bring up, the current one first -/
  seqTodo  : List Rail
  seqFor   : SeqPurpose
  /-- rails still to switch off, in order, and what follows -/
  downTodo : List Rail
  downThen : Option DownThen
  /-- groups taken down that wait for their one re-sequence -/
  groupWait : List (Fin 3)
  /-- when each group's rails had gone down (R293) -/
  groupAt : Vector Nat 3
  /-- a restart waits 100 ms after a full shutdown (R294) -/
  restartWait : Bool
  /-- when every rail had gone down for that restart (R294) -/
  restartAt : Nat
  /-- deferred during SAVE: a GROUP or RESET reaction (R295) -/
  deferred : Option (Rail × RailClass)
  deriving DecidableEq, Repr

/-- QV_PB.ACTION (Table 11-8). -/
inductive PbAction where
  | none | notice | orderlyOff | cancelled | forcedOff | hardOff | startUp | logged
  deriving DecidableEq, Repr

/-- The push button, MR_N and QV_RESET_CAUSE (R296–R300, Tables 11-8 and 11-9), in AON. -/
structure Button where
  action   : PbAction
  held     : Bool
  deferred : Option (Nat × PbAction)
  duration : Nat
  /-- a mark at 8 s or 15 s has already acted on this press -/
  markDone : Bool
  cause    : Nat
  causeRail : Nat
  mrCount  : Nat
  mrLow    : Bool
  /-- an MR_N qualified during a save or a lowering, acted on afterwards -/
  mrLatched : Bool
  /-- a hard off to report at the next start-up: press duration and save phase reached (R299) -/
  hardOff  : Option (Nat × Nat)
  deriving DecidableEq, Repr

/-- QV_BOOT.PATH (Table 12-10). -/
inductive BootPath where
  | inProgress | restore | format | retained | minimal | crocus
  deriving DecidableEq, Repr

/-- Start-up, straps and the Sheet image's result (R304–R324). -/
structure Startup where
  strapLow   : BitVec 3
  strapHigh  : BitVec 5
  /-- the levels the module drives on STRAP[7:0] -/
  strapPins  : Byte
  /-- SPLIT as decided, one bit per port -/
  split      : BitVec 4
  /-- the fuses give speed suffix 80 and not 88 (R5, Table 22-6) -/
  fuse80     : Bool
  path       : BootPath
  step       : Nat
  minCause   : Nat
  twin       : Bool
  twinOver   : Bool
  ovrIgnored : Bool
  kept       : Bool
  locked     : Bool
  sheetResult : Nat
  sheetCheck : Nat
  sheetSection : BitVec 16
  sheetSkipped : Nat
  sheetSeq   : Word
  sheetOfs   : Nat
  /-- the word address of the transfer whose attempts failed (R311) -/
  transfer   : BitVec 16
  /-- failed attempts of that transfer -/
  attempts   : Nat
  settings   : Option Settings
  /-- CRC-32 of the whole image the settings came from (R318) -/
  sheetCrc   : Word
  /-- TYPE and CRC of its sections (R318 names those that differ) -/
  sheetParts : List (Nat × Word)
  /-- the offset of REGION in that image (R317) -/
  regionOfs  : Nat
  /-- this start-up runs on a retained path (R229) -/
  retained   : Bool
  /-- when the input was qualified, when step 9 ended, when the links offered CXL.io -/
  startedAt  : Nat
  step9At    : Option Nat
  offeredAt  : Option Nat
  deriving DecidableEq, Repr

/-- QV_T_SITE.STATE. -/
inductive SiteRun where
  | unmapped | plausible | ignored | retired
  deriving DecidableEq, Repr

/-- QV_T_SITE.REASON. -/
inductive SiteReason where
  | none | range | stuck | busError | busStuck | absent
  deriving DecidableEq, Repr

/-- One sensor site (R265–R269, Table 10-11). Temperatures are in units of 1/128 °C, the finest of Table 19-3. -/
structure SiteState where
  run      : SiteRun
  reason   : SiteReason
  domain   : Domain
  channels : BitVec 32
  /-- the last plausible samples, newest first, at most 8 -/
  samples  : List Int
  errors   : Nat
  /-- consecutive out-of-range samples and consecutive failed reads -/
  badRange : Nat
  badReads : Nat
  /-- since when an ignored site's samples have been plausible -/
  goodSince : Option Nat
  /-- filtered values of the last 10 s with their times, one a second, for the stuck check -/
  hist     : List (Nat × Int)
  /-- times of its ignores in the last 24 h (Table 14-2) -/
  ignoredAt : List Nat
  deriving DecidableEq, Repr

/-- A DRAM channel's bands (Table 10-3). -/
structure DramBand where
  reef : Bool
  emergency : Bool
  deriving DecidableEq, Repr

/-- A NAND channel's bands (Table 10-3). -/
structure NandBand where
  band1 : Bool
  band2 : Bool
  isOver  : Bool
  deriving DecidableEq, Repr

/-- A trip record (Table 10-6). -/
structure TripRecord where
  powerCycle : Word
  opTime  : Nat
  kind    : Nat
  site    : Nat
  /-- units of 0.5 °C -/
  temp    : Int
  channel : Nat
  saveBits : Nat
  gen     : DWord
  deriving DecidableEq, Repr

/-- Levels of the five reefing causes (R272). -/
structure ReefLevels where
  die  : Nat
  dram : Nat
  nand : Nat
  ceil : Nat
  wear : Nat
  deriving DecidableEq, Repr

/-- The thermal system (R265–R281). The trip latch and site 0's AON reading reside in AON. -/
structure Thermal where
  site      : Vector SiteState 32
  dieHot    : Bool
  dieReef   : Bool
  dieTrip   : Bool
  dram      : Vector DramBand 17
  nand      : Vector NandBand 32
  /-- the forced rule of R270, by domain -/
  forcedDie : Bool
  forcedDram : Bool
  forcedNand : Bool
  /-- SENSORS_AT_MINIMUM sent, by domain -/
  atMinDie  : Bool
  atMinDram : Bool
  atMinNand : Bool
  reef      : ReefLevels
  /-- when the thermal causes, and the causes CEIL and WEAR, last stepped (R20, R272: at most one step per 100 ms) -/
  stepAt    : Nat
  loopAt    : Nat
  /-- edges that a filtered maximum is across, entering or leaving a band, and since when (R271) -/
  crossSince : List (BandEdge × Bool × Nat)
  /-- when THERMAL_REEF was last sent, for die, DRAM and NAND -/
  reefSent  : List (Nat × Nat)
  latched   : Bool
  tripKind  : Nat
  tripTemp  : Int
  tripSite  : Nat
  tripCh    : Nat
  pending   : Option TripRecord
  /-- the AON comparator's reading of site 0, and since when it has been below 109 °C -/
  aonSite0  : Int
  aonCoolSince : Option Nat
  /-- remote samples of STANDBY since when every DRAM channel has been below 97 °C -/
  coolSince : Option Nat
  deriving DecidableEq, Repr

/-- Table 09-2. -/
inductive PackCond where
  | qualified | absent | voltage | impedance | charger | shunt | window | notYet
  deriving DecidableEq, Repr

/-- QV_E_TEMP.T_SRC (Table 09-12). -/
inductive TempSource where
  | ntc | remote | none
  deriving DecidableEq, Repr

/-- QV_E_SOC.SOC_SRC (Table 09-7). -/
inductive SocSource where
  | none | reading | rest | termination
  deriving DecidableEq, Repr

/-- The pack and its estimator (R232–R236, R244–R263). -/
structure Pack where
  current  : Int
  voltage  : Nat
  /-- 0.1 °C -/
  temp     : Int
  tempSrc  : TempSource
  present  : Bool
  /-- PACK_COND, and a failure condition that is latched (R236) -/
  cond     : PackCond
  failure  : Option PackCond
  /-- the failure has been reported (PACK_FAILED, R235) -/
  inService : Bool
  badVoltSince : Option Nat
  presentSince : Option Nat
  goodSince : Option Nat
  /-- the last zero-current check failed (R236) -/
  shuntBad : Bool
  /-- a start-up or insertion reading is owed (R248) -/
  readingDue : Bool
  /-- when the conditions of that reading began to count (R248) -/
  readingFrom : Nat
  /-- outside the discharge window, and since when the temperature has been across its edge -/
  outWindow : Bool
  windowSince : Option Nat
  /-- outside the charge window, likewise -/
  outCharge : Bool
  chargeSince : Option Nat
  idTried  : Bool
  idUnknown : Bool
  idUnreadSent : Bool
  serial   : List Byte
  /-- the serial of the live block (R257) -/
  changed  : Bool
  impedance : Nat
  impedanceAt : Option Nat
  zeroCheckAt : Nat
  /-- charge since the last charge reference, µC (R244), and the part of a mC drawn that no count has taken yet -/
  qChg     : Nat
  qDis     : Nat
  drawnMicro : Nat
  socRef   : Rat
  socSrc   : SocSource
  /-- u_base in 0.1 % (R246) -/
  uBase    : Nat
  /-- time of the last voltage reference (h counts from it) -/
  refAt    : Nat
  nefc     : Nat
  qres     : Nat
  /-- charge drawn since the save record, or while VDD_SRAM was unpowered (R245) -/
  aonDrawn : Nat
  aonCounts : Bool
  esbDefault : Bool
  restDue  : Bool
  restReqAt : Nat
  restOcv  : Nat
  restTime : Nat
  changeSeq : Nat
  /-- when the current last reached 20 mA, since when the conditions of a rest reference hold (R247), when the estimator was
  last accessed -/
  quietSince : Nat
  calmSince : Nat
  accessAt : Nat
  hibernate : Bool
  /-- the last reference of the quiet period in progress -/
  lastRestRef : Option Nat
  restActive : Bool
  restFrom : Nat
  esbSentAt : Option Nat
  esbDirty : Bool
  /-- save record of the last save: serial, NEFC_X100, QRES, DEFAULT (R256) -/
  lastRecord : Option (List Byte × Nat × Nat × Bool)
  /-- ship mode: step reached, PK_SHIP_N pulsed at, SHIP flag, the ship event held in AON -/
  shipStep : Nat
  shipAt   : Nat
  ship     : Bool
  shipEvent : Option (List Byte × Nat × Nat)
  deriving DecidableEq, Repr

/-- QV_E_CTL.BANK (Table 09-10). -/
inductive BankRun where
  | charging | qualified | failed | absent
  deriving DecidableEq, Repr

/-- The capacitor bank (R237–R240). -/
structure Bank where
  voltage  : Nat
  /-- mF -/
  cMeas    : Nat
  testAt   : Option Nat
  run      : BankRun
  cbEn     : Bool
  cbTest   : Bool
  testing  : Bool
  testFrom : Nat
  /-- bank voltage when the leakage check began -/
  testV    : Nat
  lowSince : Option (Nat × Nat)
  startedLow : Bool
  /-- a failed bank has passed a capacitance test (R240) -/
  passed   : Bool
  deriving DecidableEq, Repr

/-- QV_E_CTL.CHG (Table 09-10). -/
inductive ChgRun where
  | held | charging | terminated | forcedLow
  deriving DecidableEq, Repr

/-- The pack charger (R241–R243, R453) and HOLD_EN (R183). -/
structure Charger where
  run     : ChgRun
  /-- in its terminated state (R242) -/
  terminated : Bool
  fault   : Bool
  taperSince : Option Nat
  heldSince : Option Nat
  heldSent : Option Nat
  holdEn  : Bool
  deriving DecidableEq, Repr

/-- Protection levels (R421). -/
inductive Level where
  | l0 | l1 | l2
  deriving DecidableEq, Repr

/-- QV_DBG_STATE.STATE (Table 18-10). -/
inductive DbgRun where
  | closed | opened | authenticated
  deriving DecidableEq, Repr

/-- What the TAP's instruction register selects (R429). -/
inductive TapInstr where
  | idcode | bypass | sample | extest | clamp | highz | debug
  deriving DecidableEq, Repr

/-- Protection level, its lowering, debug port and TAP (R421–R435). -/
structure Security where
  level    : Level
  target   : Level
  lowering : Bool
  noRecord : Bool
  result   : Nat
  refuse   : Nat
  step     : Nat
  armedAt  : Option Nat
  dbg      : DbgRun
  forced   : Bool
  endCause : Nat
  fails    : Nat
  blockedAt : Option Nat
  scanRefused : Bool
  sessions : Nat
  openedAt : Nat
  challenge : Option (List Byte × Nat)
  /-- CLOSE written at L0: closed until the next start-up (R430) -/
  closed0  : Bool
  /-- the media key the crypto block holds, by KEY_ID (R163, R428) -/
  key      : Option Word
  /-- its 64 bytes, unwrapped -/
  mediaKey : List Byte
  tap      : TapInstr
  deriving DecidableEq, Repr

end Sys2Proof.Machine
end

