-- ==== Sys2Proof/Machine/StateSvc.lean ====
section
/-! DEFINITION. The parts of the state that serve the host: links and functions, the requester table, the write buffers
and waiting requests, the save in progress and the restore in progress. -/

namespace Sys2Proof.Machine

open Sys2Proof

/-- An HDM decoder of a function (R67). -/
structure Decoder where
  index     : Nat
  base      : Nat
  size      : Nat
  dpaBase   : Nat
  ways      : Nat
  gran      : Nat
  committed : Bool
  locked    : Bool
  deriving DecidableEq, Repr

/-- The CXL revision of a link's partner (R62). -/
inductive Partner where
  | r31 | r20 | r11
  deriving DecidableEq, Repr

/-- A host link and its function state (R61–R66, R84, R419). -/
structure HostLink where
  trained   : Bool
  width     : Nat
  partner   : Partner
  offersIo  : Bool
  memActive : Bool
  /-- in L1, or in L0p below the trained width (R419) -/
  resting   : Bool
  /-- held in electrical idle by a save or a lowering (Table 03-3) -/
  heldIdle  : Bool
  /-- the base of DVSEC Range 1, which a revision 1.1 partner uses (R62) -/
  range1    : Nat
  /-- MSI-X table: address and data of each vector (Table 03-12) -/
  msixTable : List (DWord × Word)
  decoders  : List Decoder
  busMaster : Bool
  /-- MSI-X vectors masked, one bit each, and pending bits (R86) -/
  msixMask  : Byte
  msixPend  : Byte
  /-- a mailbox command that waits for the end of a save or of its engine's swap (R23, Table 03-3) -/
  mbx       : Option Instr
  /-- records in the Informational, Warning, Failure and Fatal logs, by notice number -/
  logs      : List (Nat × Word)
  deriving DecidableEq, Repr

/-- What a link's function reports in its configuration space, its CXL DVSECs and its CXL capability structures (R3, R60, R61, R77, R496,
R509, Table 22-2). The class code, the serial number and the GPF figures are the same in every function. -/
structure FnConfig where
  classCode  : Nat
  serial     : List Byte
  /-- the sizes of BAR0, BAR2 and BAR4 in bytes (Table 22-1) -/
  barSizes   : List Nat
  msixVectors : Nat
  memCapable : Bool
  ioCapable  : Bool
  cacheCapable : Bool
  hdmCount   : Nat
  range1Base : Nat
  range1Size : Nat
  range2Size : Nat
  memActive  : Bool
  multiLogical : Bool
  memClearCapable : Bool
  gpfPhase2Us : Nat
  gpfPhase2Mw : Nat
  /-- the Register Locator: BAR and offset of the component registers, the device registers and the device block -/
  locator    : List (Nat × Nat)
  decoders   : Nat
  ways       : List Nat
  granularity : List Nat
  /-- capacities of Identify Memory Device and Get Partition Info, in bytes -/
  persistent : Nat
  isVolatile : Nat
  mediaStatus : Nat
  deriving DecidableEq, Repr

/-- A write to the tables or a commit that waits for the refill (R71). -/
inductive TableOp where
  | write (link : Link) (offset : Nat) (size : Nat) (value : DWord)
  | commit (link : Link)
  deriving DecidableEq, Repr

/-- A copy of the requester table, the windows and the weights (R70). What is not listed has its reset value. -/
structure Tables where
  requesters : List (Nat × Word)
  windows    : List (Nat × (DWord × DWord))
  weights    : List (Nat × Word)
  deriving DecidableEq, Repr

/-- QV_RT_CTL, QV_RT_VIOL and the tables (R69–R71). -/
structure ReqTable where
  shadow    : Tables
  inForce   : Tables
  adminLinks : Byte
  commitSeq : Nat
  busy      : Bool
  waiting   : List TableOp
  lastId    : Nat
  lastWrite : Bool
  lastLink  : Nat
  violations : Nat
  /-- when ACCESS_VIOLATION was last sent for a requester (R69) -/
  sentAt    : List (Nat × Nat)
  deriving DecidableEq, Repr

/-- Why a request waits in its slot (R72, R73). -/
inductive WaitFor where
  /-- admission: R49, a held write to the same line (R74), or a queue of weight 0 (R72) -/
  | admission
  /-- the demand fetch of its granule (R219) -/
  | fetch
  /-- the fetch gate at its LUN (R220) -/
  | gate
  /-- room among the 4 MiB of lines that wait on fetches (R76) -/
  | room
  deriving DecidableEq, Repr

/-- A request in a transaction slot (R72–R76). -/
structure Slot where
  link      : Link
  tag       : Nat
  requester : Nat
  isWrite   : Bool
  line      : Nat
  data      : Line
  /-- byte enables, bit n for byte n -/
  enables   : DWord
  poison    : Bool
  why       : WaitFor
  /-- what the first read of the line from DRAM on its behalf finds (Table 04-7) -/
  ecc       : EccOutcome
  /-- its place in the order of arrival, and for an admitted request its place in the order of admission (R74) -/
  arrival   : Nat
  order     : Nat
  deriving DecidableEq, Repr

/-- A write-buffer line (R13, R14, R76). -/
structure BufLine where
  line      : Nat
  data      : Line
  poison    : Bool
  /-- a drain has started: the data line is written and the granule marked -/
  drained   : Bool
  /-- the parity write has been issued by its staging entry -/
  parityOut : Bool
  /-- waits for its granule's fetch (R76) -/
  waitFetch : Bool
  /-- what the drain's read of the old line finds (Table 04-7) -/
  ecc       : EccOutcome
  /-- its place in the order of admission (R74) -/
  order     : Nat
  deriving DecidableEq, Repr

/-- The host side (R60–R86). -/
structure HostSide where
  link      : Vector HostLink 8
  fn        : Vector FnRegs 8
  slots     : List Slot
  buf       : List BufLine
  /-- arrivals and admissions numbered since reset (R74) -/
  arrivals  : Nat
  /-- credit of each fairness queue, and the queue whose turn it is (R72) -/
  deficit   : List (Nat × Nat)
  turn      : Nat
  /-- the dirty shutdown of this power cycle has been counted (R78) -/
  dirtyCounted : Bool
  /-- admission of CXL.mem requests is stopped (R130, R170, R24, R190, a lowering) -/
  stopped   : Bool
  shutdownDirty : Bool
  dirtyShutdowns : Nat
  /-- label storage area: bytes written, by offset (R60) -/
  labels    : List (Nat × Byte)
  poison    : PoisonMap
  deriving DecidableEq, Repr

/-- The triggers of Table 07-1, in table order. -/
inductive Trigger where
  | pfN | vinSense | saveAndOff | orderlyPress | forcedPress | dieTrip | dramEmergency | secondChannel | flashCapacity
  | noDonor
  deriving DecidableEq, Repr

/-- The store that carries a save (QV_SAVE_STAT.STORE). -/
inductive Store where
  | input | pack | bank | none
  deriving DecidableEq, Repr

/-- QV_SAVE_STAT.END_CAUSE. -/
inductive EndCause where
  | empty | mark | voltage | thermal | noPage
  deriving DecidableEq, Repr

/-- What follows the seal (R186, R196). -/
inductive AfterSeal where
  | powerOffTrip | standby | byInput
  deriving DecidableEq, Repr

/-- The save in progress and the last one (R182–R203). The QV_SAVE registers reside in AON. -/
structure Save where
  /-- 0 none since VDD_AON power-up, 1–7 phase running, 8 complete -/
  phase     : Nat
  trigger   : Option Trigger
  store     : Store
  endCause  : EndCause
  retained  : Bool
  lostFlag  : Bool
  switched  : Bool
  overrun   : Bool
  extra     : Nat
  /-- the triggers merged into the save, in the order of their arrival (R186) -/
  joined    : List Trigger
  lost      : Nat
  charge    : Nat
  time      : Nat
  startedAt : Nat
  /-- the plan fixed at the trigger, with marks rebased on a change of store (R188) -/
  plan      : SavePlan
  /-- the stores carry the save; otherwise it runs on the input (R186) -/
  onStores  : Bool
  regulated : Bool
  /-- pack and bank as they qualified at the trigger (R192) -/
  packOk    : Bool
  bankOk    : Bool
  after     : AfterSeal
  /-- the generation the save sealed, and the retained test when the seal record was built -/
  sealed    : Option DWord
  sealOk    : Bool
  /-- the state the save left, and whether it began on a retained path (R308) -/
  prior     : PowerState
  fromStart : Bool
  /-- a Retained return is in progress; its contents are kept and its checkpoint is being sealed (R196, R207) -/
  returning : Bool
  sealWait  : Bool
  /-- triggers held on a retained path or in a return, oldest first, and the charge drawn since the first (R188, R196, R308) -/
  heldTrigs : List Trigger
  heldCharge : Nat
  /-- plan limits whose passing has been reported (R195) -/
  limits    : List Nat
  lostList  : List Nat
  /-- when the phase began, and the times of phases 3 and 4 in ms (R189) -/
  phaseAt   : Nat
  t3        : Nat
  t4        : Nat
  /-- notices to send at the next carrier: SAVE_COMPLETE and SAVE_LOST (R202) -/
  report    : Bool
  deriving DecidableEq, Repr

/-- RSTATE of a region (Table 02-2). -/
inductive RegionState where
  | present | partly | absent | lost
  deriving DecidableEq, Repr

/-- A demand fetch (R219–R223). -/
structure Fetch where
  granule   : Nat
  /-- the LUN it occupies; none for a ZERO or LOST entry, which reads no flash -/
  lun       : Option (FlashCh × Fin 16)
  deriving DecidableEq, Repr

/-- The restore (R204–R231). Its registers reside in AON. -/
structure Restore where
  phase     : Nat
  source    : Nat
  cause     : Nat
  hold      : Bool
  window    : Bool
  slow      : Bool
  /-- LEFT as it stood when the contents of DRAM were lost (R231) -/
  leftKept  : Nat
  boundUs   : Nat
  maxUs     : Nat
  isOver      : Nat
  fetchCount : Nat
  offer     : Nat
  done      : Nat
  /-- granules may be absent (from step 8 to R227) -/
  running   : Bool
  /-- the presence map: restored granules, rising -/
  presence  : List Nat
  /-- regions PRESENT, and regions every granule of which is LOST -/
  presentR  : List Nat
  lostR     : List Nat
  /-- regions with HEAT above 0, in restore order (R215) -/
  hotOrder  : List Nat
  /-- a background granule whose DRAM writes are in progress -/
  inHand    : List Nat
  fetches   : List Fetch
  poisoned  : Nat
  genUsed   : DWord
  highest   : DWord
  step8At   : Nat
  deriving DecidableEq, Repr

end Sys2Proof.Machine
end

