-- ==== Sys2Proof/Machine/State.lean ====
section
/-! DEFINITION. The state of the block, whole, with its queue of waiting commands; the reasons a step can stop; and the
state after the power-on reset of VDD_AON. -/

namespace Sys2Proof.Machine

open Sys2Proof

/-- The machine. `pending` is the queue of commands, first in first out; `out` records what has left the ports, oldest
first; `fresh` counts the free values drawn so far (both are the model's own)
(in part DESIGN CHOICE, notes/assumptions/9; DEDUCED, notes/assumptions/48). -/
structure State where
  pending  : List Instr
  out      : List Output
  fresh    : Nat
  clock    : Clock
  power    : Power
  startup  : Startup
  rails    : Rails
  button   : Button
  thermal  : Thermal
  pack     : Pack
  bank     : Bank
  charger  : Charger
  security : Security
  host     : HostSide
  rt       : ReqTable
  persist  : Persist
  dram     : Dram
  shroud   : Shroud
  flash    : Flash
  save     : Save
  restore  : Restore
  notices  : Notices
  qmp      : Qmp
  recorder : Recorder
  faults   : FaultMgmt
  cf       : CodeFlash
  fw       : Firmware
  smb      : Smb
  lb       : LocalBus
  engines  : Engines
  crossings : Crossings
  deriving DecidableEq, Repr

/-- Reasons a step can stop with a fault. There is none: every error that the spec names is an effect on the state (a
poisoned answer, a discarded write, a notice, a log record, a status code), and no command acts on an address or a part
that does not exist. Safe (in part DEDUCED, notes/assumptions/8). -/
inductive Fault where
  deriving DecidableEq, Repr

/-- Reasons a step can stop because the model gives a command no meaning (in part DEDUCED, notes/assumptions/8). -/
inductive Refusal where
  /-- raised by `exec` for a command that has no meaning yet. Safe: no statement about a next state holds of it. -/
  | notModelled (mnemonic : String)
  deriving DecidableEq, Repr

/-- The answer of a command's meaning. -/
abbrev Result := Host.Outcome State Fault Refusal

/-! ## Reset values -/

/-- A function's registers after the reset of its link (R65, Table 22-3) (in part DESIGN CHOICE, notes/assumptions/1). -/
def resetFn : FnRegs :=
  { ringBase := 0, ringSize := 0, ringHead := 0, ringTail := 0, ringOverflow := 0, ringPhase := true, logSel := 0,
    logSelState := .notHeld, logData := List.replicate 8 0, rtView := false, snapSeq := 0, snapGroup := 0, snap := none,
    genHi := 0, planMarks := List.replicate 4 0, optimeHi := 0, esb := List.replicate 256 0, esbAt := none, unalignedAt := none }

/-- A link that is not trained (in part DESIGN CHOICE, notes/assumptions/1; PRESUMED, notes/assumptions/106). -/
def resetLink : HostLink :=
  { trained := false, width := 0, partner := .r31, offersIo := false, memActive := false, resting := false,
    heldIdle := false, range1 := 0, msixTable := List.replicate 8 (0, 0), decoders := [], busMaster := false, msixMask := 0xFF, msixPend := 0,
    mbx := none, logs := [] }

/-- Table 11-1, by rail number less 1. Rail 1 has no entry; its values are never used. -/
def romRails : List RailSet :=
  [ ⟨0, 0, 0, 0, .ignore⟩, ⟨5, 4, 20, 5, .reset⟩, ⟨5, 4, 20, 5, .reset⟩, ⟨20, 4, 50, 10, .group⟩, ⟨20, 4, 50, 10, .group⟩,
    ⟨20, 4, 50, 10, .retry⟩, ⟨20, 4, 20, 10, .reset⟩, ⟨20, 4, 20, 10, .reset⟩, ⟨20, 4, 50, 10, .retry⟩,
    ⟨20, 4, 50, 10, .retry⟩, ⟨20, 4, 50, 10, .retry⟩, ⟨20, 4, 2000, 10, .ignore⟩ ]

/-- A rail that is off, with its entry of Table 11-1 (R283, Table 22-4). -/
def offRail (e : RailSet) : RailState :=
  { run := .off, en := false, enAt := 0, pg := false, retries := 0, qualHalf := 0, faults := 0, drops := 0, set_ := e,
    faultAt := none, recoverAt := none, window := [] }

/-- Rail 1 while VDD_AON is above its threshold (Table 22-4). -/
def aonRail : RailState := { offRail ⟨0, 0, 0, 0, .ignore⟩ with run := .qualified, en := true, pg := true }

/-- The rails after the power-on reset of VDD_AON (in part DESIGN CHOICE, notes/assumptions/1). -/
def resetRails : Vector RailState 12 :=
  #v[aonRail, offRail ⟨5, 4, 20, 5, .reset⟩, offRail ⟨5, 4, 20, 5, .reset⟩, offRail ⟨20, 4, 50, 10, .group⟩,
     offRail ⟨20, 4, 50, 10, .group⟩, offRail ⟨20, 4, 50, 10, .retry⟩, offRail ⟨20, 4, 20, 10, .reset⟩,
     offRail ⟨20, 4, 20, 10, .reset⟩, offRail ⟨20, 4, 50, 10, .retry⟩, offRail ⟨20, 4, 50, 10, .retry⟩,
     offRail ⟨20, 4, 50, 10, .retry⟩, offRail ⟨20, 4, 2000, 10, .ignore⟩]

/-- A sensor site before the sensor map is known (in part DESIGN CHOICE, notes/assumptions/1). -/
def resetSite : SiteState :=
  { run := .unmapped, reason := .none, domain := .die, channels := 0, samples := [], errors := 0, badRange := 0,
    badReads := 0, goodSince := none, hist := [], ignoredAt := [] }

/-- A DRAM channel at reset (Table 04-9) (in part DESIGN CHOICE, notes/assumptions/1). -/
def resetDramChan : DramChan :=
  { run := .notTrained, band2x := false, rate := 0, failed := [], onDieEcc := true, ecsMode := false, ceTimes := [],
    debt := Vector.replicate 32 0, refreshes := 0, tickFrom := 0, scrubOwed := Vector.replicate 4 [], owedAt := Vector.replicate 4 0,
    scrubPos := 0, scrubPassAt := 0, zqCals := 0, dqsCals := 0, readCals := 0, dqsAdjust := 0,
    resetN := false, trainTemp := 0, crcTimes := [], mismatchTimes := [], laneErrors := [], replays := 0, replayAt := none, triggers := [],
    slicesLeft := 0, sliceAt := 0, selfRefreshAt := 0, sleptFrom := .notTrained, retryAt := 0, stored := none, type8At := none, type8Count := 0 }

/-- A channel that no access has reached (in part DESIGN CHOICE, notes/assumptions/1). -/
def resetAccess : ChanAccess := { acts := [], rfms := 0, reads := 0, writes := 0, powerDown := Vector.replicate 4 false }

/-- A flash channel at reset (Table 06-11) (in part DESIGN CHOICE, notes/assumptions/1). -/
def resetFlashChan : FlashChan :=
  { run := .notTrained, sdr := true, band := 0, dies := [], rate := 0, retryHi := [], grownBad := 0, timeouts := [], reads := 0, readOffset := 0,
    retryAt := 0, hasEngine := true }

/-- The ceiling before its first computation (Table 02-4: LIMIT 0xF, ESB_DEFAULT 1) (in part DESIGN CHOICE, notes/assumptions/1). -/
def resetCeiling : Ceiling :=
  { c := 0, cE := 0, cPack := 0, cBp := 0, ePack := 0, eRes := 0, eGb := 0, bwSave := 0, limit := 15, updateSeq := 0,
    uncov := false, isOver := false, esbDefault := true, packChanged := false, bankLost := false, packLost := false,
    flashRate := false, savePower := false, restDue := false, cold := false }

/-- The metadata area of an image without data (in part DESIGN CHOICE, notes/assumptions/13). -/
def emptyMeta : MetaImage :=
  { poison := ⟨[], [], []⟩, sessions := [], labels := [], shutdownDirty := false, dirtyShutdowns := 0,
    notices := { nextSeq := 1, pend := [], dropped := 0 } }

/-- The plan before its first computation (Table 07-12: STORE 0b11) (in part DESIGN CHOICE, notes/assumptions/1). -/
def resetPlan : SavePlan :=
  { updateSeq := 0, store := 3, vPlan := 0, qEnd := 0, mRet := 0, mSeal := 0, mMan := 0, qFlush := 0, qStart := 0 }

/-- The role of an engine at the first start-up (Table 01-3). -/
def firstRole (n : Nat) : Role :=
  if h : n < 32 then .flash ⟨n, h⟩
  else if n < 44 then .persistence (Fin.ofNat 12 (n - 32))
  else if n < 52 then .dram (Fin.ofNat 8 (n - 44))
  else if n < 56 then .port (Fin.ofNat 4 (n - 52))
  else if n < 60 then .mgmt (Fin.ofNat 4 (n - 56))
  else .spare

/-- The engines before any has been started (in part DESIGN CHOICE, notes/assumptions/1). -/
def resetEngines : Vector Engine 64 :=
  ⟨((List.range 64).map fun n => { role := some (firstRole n), run := .resting, bankNew := false, loaded := false, suspect := false }).toArray,
    by simp⟩

/-- An empty poison record. -/
def resetPoison : PoisonMap := { lines := [], granules := [], cleared := [] }

/-- Tables with every entry at its reset value (in part DESIGN CHOICE, notes/assumptions/1). -/
def resetTables : Tables := { requesters := [], windows := [], weights := [] }

/-- A Halyard port that is down. -/
def resetPort : HyPort := { version := 0, lastAt := 0, peer := 0, credits := 0, withheld := 0, partialAt := none, pieces := [] }

/-- What the factory has programmed (R421): a LEVEL record at L0 in the first level slot of the protection record sector
(Table 18-2, Table 16-4: word 0 with MAGIC 0x5150 and SWAP_SEQ 1, word 1 with its CRC-32). All else is blank
(in part DESIGN CHOICE, notes/assumptions/41). -/
def factoryWords : List (Nat × CfWord) :=
  [ (72256, ⟨0x51500001FFFFFFFC, false⟩), (72257, ⟨0x6F1BA34FFFFEA55A, false⟩) ]

/-- The machine right after the power-on reset of VDD_AON, with the 12 V input not yet qualified: Table 22-3 for every
register. What the spec gives no reset value for is at the value that INVENTORY.md and the assumption log name
(in part DESIGN CHOICE, notes/assumptions/1; DESIGN CHOICE, notes/assumptions/41). -/
def State.reset : State :=
  { pending := [], out := [], fresh := 0,
    clock := { now := 0, opTime := 0, timeEst := true, pcycle := 0, resumed := false },
    power := { state := .off, starting := false, idle := false, minimal := false, aon := true, aux := false,
               inputOk := false, pfLow := false, standby := .byInput, sram := false, dramUp := false },
    startup := { strapLow := 0, strapHigh := 0, strapPins := 0, split := 0, fuse80 := false, path := .inProgress, step := 0, minCause := 0,
                 twin := false, twinOver := false, ovrIgnored := false, kept := false, locked := false, sheetResult := 0,
                 sheetCheck := 0, sheetSection := 0, sheetSkipped := 0, sheetSeq := 0, sheetOfs := 0, transfer := 0, attempts := 0,
                 settings := none, sheetCrc := 0, sheetParts := [], regionOfs := 0, retained := false, startedAt := 0, step9At := none, offeredAt := none },
    rails := { rail := resetRails, latched := false, latchRail := 0, groupLatched := Vector.replicate 3 false,
               seqTop := 1, seqTodo := [], seqFor := .boot, downTodo := [], downThen := none, groupWait := [],
               groupAt := Vector.replicate 3 0, restartWait := false, restartAt := 0, deferred := none },
    button := { action := .none, held := false, deferred := none, duration := 0, markDone := false, cause := 0,
                causeRail := 0, mrCount := 0, mrLow := false, mrLatched := false, hardOff := none },
    thermal := { site := Vector.replicate 32 resetSite, dieHot := false, dieReef := false, dieTrip := false,
                 dram := Vector.replicate 17 ⟨false, false⟩, nand := Vector.replicate 32 ⟨false, false, false⟩,
                 forcedDie := false, forcedDram := false, forcedNand := false, atMinDie := false, atMinDram := false,
                 atMinNand := false, reef := ⟨0, 0, 0, 0, 0⟩, stepAt := 0, loopAt := 0, crossSince := [], reefSent := [], latched := false, tripKind := 0,
                 tripTemp := 0, tripSite := 0, tripCh := 31, pending := none, aonSite0 := 0, aonCoolSince := none,
                 coolSince := none },
    pack := { current := 0, voltage := 0, temp := 0, tempSrc := .none, present := false, cond := .notYet, failure := none,
              inService := false, badVoltSince := none, presentSince := none, goodSince := none, outWindow := false,
              windowSince := none, outCharge := false, chargeSince := none, idTried := false,
              idUnknown := false, idUnreadSent := false, serial := List.replicate 16 0, changed := false, impedance := 0,
              impedanceAt := none, zeroCheckAt := 0, shuntBad := false, readingDue := true, readingFrom := 0, qChg := 0, qDis := 0, drawnMicro := 0, socRef := 0, socSrc := .none, uBase := 250,
              refAt := 0, nefc := 0, qres := 0, aonDrawn := 0, aonCounts := true, esbDefault := true, restDue := false,
              restReqAt := 0, restOcv := 0, restTime := 0, changeSeq := 0, quietSince := 0, calmSince := 0, accessAt := 0,
              hibernate := false, lastRestRef := none, restActive := false, restFrom := 0, esbSentAt := none,
              esbDirty := false, lastRecord := none, shipStep := 0, shipAt := 0, ship := false, shipEvent := none },
    bank := { voltage := 0, cMeas := 0, testAt := none, run := .charging, cbEn := false, cbTest := false, testing := false,
              testFrom := 0, testV := 0, lowSince := none, startedLow := false, passed := false },
    charger := { run := .held, terminated := false, fault := false, taperSince := none, heldSince := none, heldSent := none, holdEn := false },
    security := { level := .l0, target := .l0, lowering := false, noRecord := false, result := 0, refuse := 0, step := 0,
                  armedAt := none, dbg := .closed, forced := false, endCause := 0, fails := 0, blockedAt := none,
                  scanRefused := false, sessions := 0, openedAt := 0, challenge := none, closed0 := false, key := none, mediaKey := [],
                  tap := .idcode },
    host := { link := Vector.replicate 8 resetLink, fn := Vector.replicate 8 resetFn, slots := [], buf := [],
              arrivals := 0, deficit := [], turn := 0, dirtyCounted := false,
              stopped := false, shutdownDirty := false, dirtyShutdowns := 0, labels := [], poison := resetPoison },
    rt := { shadow := resetTables, inForce := resetTables, adminLinks := 1, commitSeq := 0, busy := false, waiting := [],
            lastId := 0, lastWrite := false, lastLink := 0, violations := 0, sentAt := [] },
    persist := { dirty := [], inflight := [], heat := [], newDirty := [],
                 poisonFlag := [], regionGen := [], freshBytes := 0, fIn := 0, ceiling := resetCeiling, plan := resetPlan,
                 cls := .none, holdRate := 0, issued := 0, issuedLast := 0, dirtyNow := 0, wear := 0,
                 wearPos := true, psub := none, nLost := 0, lostSeen := [], metaFlushed := emptyMeta,
                 lastLimit := 15 },
    dram := { ch := Vector.replicate 17 resetDramChan, mem := [], parity := [], acc := Vector.replicate 17 resetAccess, retrainQ := [], rate := 0, rateSteps := 0,
              pdTimer := 0x007D },
    shroud := { mode := .none, channel := none, channel2 := none, staging := [], pass := none, watermark := 0,
                locked := none, left := 0, mismatch := 0, unrecov := 0, stale := [], staleCh := none, filled := [] },
    flash := { ch := Vector.replicate 32 resetFlashChan, pages := [], bands := [], openRows := [], blocks := [],
               erases := [], manifest := [], chunks := [], chunkMap := [], nextSeq := 0, gen := 0, gens := [], sealJob := none,
               flushed := 0, sealedAt := 0, mirrors := #v[⟨0, false⟩, ⟨16, false⟩], relocating := false, moves := [],
               retiredDies := [], restripe := [], scrubbed := [], scrubPassAt := 0, fullScrub := false, scrubOwed := true,
               retentionDue := false, standbySince := none, wpN := true, brownOut := false, capLow := false,
               wearStage := 0, capGone := false, formatting := false, inService := false },
    save := { phase := 0, trigger := none, store := .input, endCause := .empty, retained := false, lostFlag := false,
              switched := false, overrun := false, extra := 0, joined := [], lost := 0, charge := 0, time := 0, startedAt := 0,
              plan := resetPlan, onStores := false, regulated := false, packOk := false, bankOk := false,
              after := .byInput, sealed := none, sealOk := false, prior := .off, fromStart := false, returning := false,
              sealWait := false, heldTrigs := [], heldCharge := 0, limits := [], lostList := [], phaseAt := 0, t3 := 0, t4 := 0, report := false },
    restore := { phase := 0, source := 0, cause := 0, hold := false, window := false, slow := false, leftKept := 0, boundUs := 400,
                 maxUs := 0, isOver := 0, fetchCount := 0, offer := 0, done := 0, running := false, presence := [],
                 presentR := [], lostR := [], hotOrder := [], inHand := [], fetches := [], poisoned := 0, genUsed := 0,
                 highest := 0, step8At := 0 },
    notices := { nextSeq := 1, pend := [], dropped := 0 },
    qmp := { tableLoaded := false, sessions := [], aonNext := [], aonCache := [], aonClosed := [], partials := [],
             held := [], notifyVdm := Vector.replicate 8 none },
    recorder := { staging := [], overflow := none, page := [], fullPage := none, nextRecno := 0, buckets := [],
                  drops := 0, nand := [], logPage := 0, logSet := 0, inSet := 0, sramOnly := false, nandUp := false, ring := [],
                  ringSlots := 0, ringTimes := [], withheld := [0, 0, 0, 0], sweptAt := 0, logDroppedAt := none, dropsOwed := false },
    faults := { tests := [], transients := [], nextTestId := 1, repairLog := [], retiredLanes := [], availMs := 0,
                exclMs := 0, availEvents := 0, year := 0, yearStart := 0, interval := none, holdMs := 0,
                holdSince := none },
    cf := { words := factoryWords, op := .idle, sector := 0, notDone := false, refusedAccess := false, corrected := 0, suspended := none,
            target := none, blocked := false, held := [] },
    fw := { active := none, old := none, imageA := none, imageB := none, boot0 := false, boot1 := false,
            bootVer0 := 0, bootVer1 := 0, half := false, running := false, staging := none, phase := .idle, probFrom := 0,
            cause := 0, reasons := 0, entry := .none, nextEngine := 0, reverting := false, chain := false,
            waiting := none, waitRetrain := false, bootDue := false, needBoot := false, up := resetPort, dn := resetPort,
            entries := [], crcErr := 0, lastRelayAt := none, reportDone := false, resumeAt := 0, relayed := none, relayQ := [], verified := none,
            chainDone := false },
    smb := { state := .idle, alert := false, notify := none, speed := 0, stuck := false, rsAck := 0, arbSr := 0, arb := 0,
             timeout := 0, pec := 0, nacked := 0, badCmd := 0, clear := 0, current := none, queue := [], nextTag := 0, failedAt := 0, retryAt := 0 },
    lb := { state := .unused, alertMasked := false, maskedAt := 0, lastAddr := 0, window := 0, stuckCount := 0,
            timeout := 0, nack := 0, clear := 0, skipped := 0, stuckSince := 0, retryAt := 0, pointers := [], chargerSet := false,
            regStatus := [], regSilent := [], idFailures := 0 },
    engines := { eng := resetEngines, swaps := [] },
    crossings := { holdflag := false, hfActive := false, fifos := [] } }

end Sys2Proof.Machine
end

