-- ==== Sys2Proof/Machine/Operands.lean ====
section
/-! DEFINITION. The forms that operands and stored data take: tables by key, byte strings, CRC-32, register fields, exact
rounding, and the bytes of usable DRAM in their canonical form. -/

namespace Sys2Proof.Machine

open Sys2Proof

/-! ## Tables by key, rising -/

/-- The value of a key. -/
def kvGet {α : Type} : List (Nat × α) → Nat → Option α
  | [], _ => none
  | (k, v) :: t, x => if x = k then some v else kvGet t x

/-- Sets the value of a key, keeping the keys rising. -/
def kvSet {α : Type} : List (Nat × α) → Nat → α → List (Nat × α)
  | [], x, v => [(x, v)]
  | (k, w) :: t, x, v =>
    if x < k then (x, v) :: (k, w) :: t
    else if x = k then (x, v) :: t
    else (k, w) :: kvSet t x v

/-- Takes a key out. -/
def kvErase {α : Type} (m : List (Nat × α)) (x : Nat) : List (Nat × α) :=
  m.filter fun p => p.1 != x

/-- The value of a key, or a default. -/
def kvGetD {α : Type} (m : List (Nat × α)) (x : Nat) (d : α) : α := (kvGet m x).getD d

/-- Puts a number into a rising list of numbers, once. -/
def insertNat : List Nat → Nat → List Nat
  | [], x => [x]
  | y :: t, x => if x < y then x :: y :: t else if x = y then y :: t else y :: insertNat t x

/-- The lowest number, from `n` on, that a rising list lacks. -/
def firstMissing : List Nat → Nat → Nat
  | [], n => n
  | y :: t, n => if y < n then firstMissing t n else if y = n then firstMissing t (n + 1) else n

/-! ## Bytes -/

/-- The `n` low bytes of a number, lowest first (little-endian, Table 13-2). -/
def leBytes : Nat → Nat → List Byte
  | 0, _ => []
  | n + 1, v => BitVec.ofNat 8 v :: leBytes n (v / 256)

/-- The number that bytes spell, lowest first. -/
def fromLe : List Byte → Nat
  | [] => 0
  | b :: t => b.toNat + 256 * fromLe t

/-- `len` bytes from offset `off`. -/
def slice (bs : List Byte) (off len : Nat) : List Byte := (bs.drop off).take len

/-- The number that `len` bytes from offset `off` spell. -/
def field (bs : List Byte) (off len : Nat) : Nat := fromLe (slice bs off len)

/-- The signed number that `len` bytes from offset `off` spell in two's complement. -/
def sfield (bs : List Byte) (off len : Nat) : Int :=
  let v := field bs off len
  if v ≥ 2 ^ (8 * len - 1) then (v : Int) - 2 ^ (8 * len) else v

/-- `len` bytes with value `fill` behind the given ones, cut to `len`. -/
def padTo (bs : List Byte) (len : Nat) : List Byte := (bs ++ List.replicate (len - bs.length) 0).take len

/-- One bit of the CRC-32 register with the IEEE 802.3 polynomial, reflected. -/
def crcBit (c : Word) : Word := if c.getLsbD 0 then (c >>> 1) ^^^ 0xEDB88320#32 else c >>> 1

/-- One byte into the CRC-32 register. -/
def crcByte (c : Word) (b : Byte) : Word :=
  crcBit (crcBit (crcBit (crcBit (crcBit (crcBit (crcBit (crcBit (c ^^^ b.setWidth 32))))))))

/-- CRC-32 with the IEEE 802.3 polynomial over a byte string (chapter 00, "Standards referenced"). -/
def crc32 (bs : List Byte) : Word := (bs.foldl crcByte 0xFFFFFFFF#32) ^^^ 0xFFFFFFFF#32

/-! ## Register words -/

/-- Bits [lo + w − 1 : lo] of a word. -/
def bitsOf (v : Nat) (lo w : Nat) : Nat := v / 2 ^ lo % 2 ^ w

/-- The low `w` bits of a signed number in two's complement. -/
def signedBits (w : Nat) (i : Int) : Nat := (i % (2 ^ w : Int)).toNat

/-- A 32-bit word from field values and their lowest bits. -/
def packFields (fs : List (Nat × Nat)) : Word := BitVec.ofNat 32 (fs.foldl (fun a f => a + f.1 * 2 ^ f.2) 0)

/-! ## Exact rounding -/

/-- Rounded down to a natural number. -/
def floorNat (r : Rat) : Nat := r.floor.toNat

/-- Rounded up to a natural number. -/
def ceilNat (r : Rat) : Nat := (-((-r).floor)).toNat

/-- The larger and the smaller of two exact quantities. -/
def ratMax (a b : Rat) : Rat := if a < b then b else a

/-- The smaller of two exact quantities. -/
def ratMin (a b : Rat) : Rat := if a < b then a else b

/-! ## The bytes of usable DRAM

A list of (address, byte) cells with rising addresses and no zero byte: an address that is not listed reads 0, which is
what a granule that no write has reached holds (Table 06-13 ZERO, R216). -/

/-- The byte at an address (in part DEDUCED, notes/assumptions/11). -/
def readByte : List Host.Cell → Nat → Byte
  | [], _ => 0
  | (k, b) :: t, a => if a = k then b else if a < k then 0 else readByte t a

/-- Writes a byte, keeping the canonical form (in part DEDUCED, notes/assumptions/11). -/
def writeByte : List Host.Cell → Nat → Byte → List Host.Cell
  | [], a, v => if v = 0 then [] else [(a, v)]
  | (k, b) :: t, a, v =>
    if a < k then (if v = 0 then (k, b) :: t else (a, v) :: (k, b) :: t)
    else if a = k then (if v = 0 then t else (a, v) :: t)
    else (k, b) :: writeByte t a v

/-- XORs a byte into what an address holds. -/
def xorByte (m : List Host.Cell) (a : Nat) (v : Byte) : List Host.Cell := writeByte m a (readByte m a ^^^ v)

/-- Writes a byte string from an address on. -/
def writeBytes (m : List Host.Cell) (a : Nat) : List Byte → List Host.Cell
  | [] => m
  | v :: t => writeBytes (writeByte m a v) (a + 1) t

/-- The canonical form: addresses strictly rising and no byte 0 (in part DEDUCED, notes/assumptions/11). -/
def Memory.wf : List Host.Cell → Bool
  | [] => true
  | [(_, v)] => v != 0
  | (a, v) :: (b, w) :: t => v != 0 && decide (a < b) && Memory.wf ((b, w) :: t)

/-- The bytes of a line, byte 0 first. -/
def lineBytes (d : Line) : List Byte := (List.range 64).map fun i => (d >>> (8 * i)).setWidth 8

/-- The line that 64 bytes make. -/
def bytesLine (bs : List Byte) : Line := BitVec.ofNat 512 (fromLe bs)

/-- Line `n` of usable DRAM (in part DEDUCED, notes/assumptions/11). -/
def readLine (m : List Host.Cell) (n : Nat) : Line :=
  bytesLine ((List.range 64).map fun i => readByte m (64 * n + i))

/-- Writes line `n` (in part DEDUCED, notes/assumptions/11). -/
def writeLine (m : List Host.Cell) (n : Nat) (d : Line) : List Host.Cell := writeBytes m (64 * n) (lineBytes d)

/-- The cells of an address range, and what is left outside it. -/
def cellsIn (m : List Host.Cell) (lo len : Nat) : List Host.Cell := m.filter fun c => decide (lo ≤ c.1 ∧ c.1 < lo + len)

/-- Memory with an address range cleared to zero. -/
def clearRange (m : List Host.Cell) (lo len : Nat) : List Host.Cell :=
  m.filter fun c => !decide (lo ≤ c.1 ∧ c.1 < lo + len)

/-- Writes cells whose addresses count from `base`. -/
def writeCells (m : List Host.Cell) (base : Nat) (cs : List Host.Cell) : List Host.Cell :=
  cs.foldl (fun m c => writeByte m (base + c.1) c.2) m

/-- A line merged under byte enables (R75): enabled bytes from `new`, the others from `old`. -/
def mergeLine (old new : Line) (enables : DWord) : Line :=
  bytesLine ((List.range 64).map fun i =>
    if enables.getLsbD i then (new >>> (8 * i)).setWidth 8 else (old >>> (8 * i)).setWidth 8)

end Sys2Proof.Machine
end

