-- ==== Sys2Proof/Machine/Flags.lean ====
section
/-! DEFINITION. The conditions and figures that rules share: power states, save-start conditions, sizes that follow from the
settings in force, the flash population, temperatures and the energy terms of the dirty ceiling. -/

namespace Sys2Proof.Machine

open Sys2Proof

/-! ## Vectors -/

/-- Changes one entry of a vector. -/
def vecMod {α : Type} {n : Nat} (v : Vector α n) (i : Fin n) (f : α → α) : Vector α n := v.set i (f v[i])

/-- Changes every entry of a vector, by its number. -/
def vecMap {α β : Type} {n : Nat} (v : Vector α n) (f : Fin n → α → β) : Vector β n := Vector.ofFn fun i => f i v[i]

/-- The numbers below `n`. -/
def fins (n : Nat) : List (Fin n) := List.finRange n

/-! ## Power states (Table 18-1) -/

/-- QV_STATE shows SAVE. -/
def saving (s : State) : Bool := s.power.state == .save

/-- RUN, IDLE or RESTORE with start-up ended (mark R of Table 13-3; STARTING is governed as RESTORE but not served). -/
def serving (s : State) : Bool :=
  (s.power.state == .run || s.power.state == .restore) && !s.power.starting && !s.power.minimal

/-- RUN or IDLE, not the minimal profile (mark I). -/
def running (s : State) : Bool := s.power.state == .run && !s.power.starting && !s.power.minimal

/-- The minimal profile (R319) (in part DEDUCED, notes/assumptions/94). -/
def inMinimal (s : State) : Bool := s.power.state == .run && s.power.minimal

/-- STANDBY (in part DEDUCED, notes/assumptions/94). -/
def inStandby (s : State) : Bool := s.power.state == .standby

/-- CROCUS (in part DEDUCED, notes/assumptions/94). -/
def inCrocus (s : State) : Bool := s.power.state == .crocus

/-- The core rails are up: the masthead, SRAM and the device block run. During start-up this begins when rails 2 and 3 have
qualified (Table 12-2, step 1). -/
def coreUp (s : State) : Bool :=
  (s.power.state == .run || s.power.state == .restore || s.power.state == .save || s.power.state == .crocus)
    && (!s.power.starting || (s.rails.rail[1].run == .qualified && s.rails.rail[2].run == .qualified))

/-- No DRAM is in service (R332): the minimal profile and CROCUS. -/
def sramNotices (s : State) : Bool := inMinimal s || inCrocus s

/-- A save-start condition of R255. The input is `inputOk` until PF_N or VIN_SENSE says otherwise. -/
def saveStart (s : State) : Bool := saving s || s.power.pfLow || !s.power.inputOk

/-- The input meets the Retained condition of R196 (in part DESIGN CHOICE, notes/assumptions/34). -/
def inputGood (s : State) : Bool := s.power.inputOk && !s.power.pfLow

/-- Memory_Active is set on some link. -/
def anyMemActive (s : State) : Bool := s.host.link.toList.any fun l => l.memActive

/-- A fault of rail 6 or 9 awaits recovery: the channel controllers issue no command and requests wait in their slots (R292)
(in part DEDUCED, notes/assumptions/94). -/
def dramHeld (s : State) : Bool := s.rails.rail[5].run == .fault || s.rails.rail[8].run == .fault

/-- The link lies in ADMIN_LINKS (R499). -/
def isAdmin (s : State) (l : Link) : Bool := s.rt.adminLinks.getLsbD l

/-! ## Sizes that follow from the settings in force -/

/-- Data capacity of a channel in bytes (R88). -/
def channelBytes (c : Settings) : Nat := 2 * c.dramPranks * 8 * c.dramStack * c.dramDie * 2 ^ 27

/-- Usable DRAM in bytes (R88). -/
def usableBytes (c : Settings) : Nat := 16 * channelBytes c

/-- Host-visible capacity in bytes (R509). -/
def hostBytes (c : Settings) : Nat := (usableBytes c - usableBytes c / 4096) / 2 ^ 28 * 2 ^ 28

/-- Granule size in bytes. -/
def granuleBytes (c : Settings) : Nat := if c.region128 then 131072 else 65536

/-- Granules of host-visible capacity. -/
def hostGranules (c : Settings) : Nat := hostBytes c / granuleBytes c

/-- Granules of usable DRAM, and so entries of the manifest. -/
def allGranules (c : Settings) : Nat := usableBytes c / granuleBytes c

/-- Manifest size in bytes: 8 per granule. -/
def manifestBytes (c : Settings) : Nat := 8 * allGranules c

/-- Regions of host-visible capacity; a region has 1,024 granules. -/
def hostRegions (c : Settings) : Nat := ceilDiv (hostGranules c) 1024

/-- The region of a granule, the granule of a line, the lines of a granule, the stripe of a line. -/
def regionOf (g : Nat) : Nat := g / 1024

/-- Lines of a granule. -/
def granuleLines (c : Settings) : Nat := granuleBytes c / 64

/-- The granule of a line. -/
def granuleOf (c : Settings) (line : Nat) : Nat := line / granuleLines c

/-- The stripe of a line (R122) (in part DESIGN CHOICE, notes/assumptions/12). -/
def stripeOf (line : Nat) : Nat := line / 16

/-- The settings in force, with what no settings give: none of the sizes is then used. -/
def linesPerGranule (s : State) : Nat :=
  match s.startup.settings with
  | some c => granuleLines c
  | none => 1024

/-- The granule that a line lies in. -/
def lineGranule (s : State) (line : Nat) : Nat := line / linesPerGranule s

/-- Granule size in force, in bytes. -/
def gBytes (s : State) : Nat := 64 * linesPerGranule s

/-- Host-visible capacity in force, in bytes; 0 before the module description is accepted. -/
def hvBytes (s : State) : Nat :=
  match s.startup.settings with
  | some c => if s.power.minimal then 0 else hostBytes c
  | none => 0

/-- Regions of host-visible capacity in force. -/
def hvRegions (s : State) : Nat :=
  match s.startup.settings with
  | some c => hostRegions c
  | none => 0

/-- Granules of host-visible capacity in force. -/
def hvGranules (s : State) : Nat :=
  match s.startup.settings with
  | some c => hostGranules c
  | none => 0

/-! ## Dirty set (R42) -/

/-- The granule's bit is set or it is in flight. -/
def isDirty (s : State) (g : Nat) : Bool :=
  s.persist.dirty.any (fun d => d.1 == g) || s.persist.inflight.any (fun f => f.granule == g)

/-- The granule is in flight. -/
def isInFlight (s : State) (g : Nat) : Bool := s.persist.inflight.any fun f => f.granule == g

/-- What the metadata area holds now (R36, R78–R81, R330, R340) (in part DESIGN CHOICE, notes/assumptions/13). -/
def metaImage (s : State) : MetaImage :=
  { poison := s.host.poison, sessions := s.qmp.sessions, labels := s.host.labels, shutdownDirty := s.host.shutdownDirty,
    dirtyShutdowns := s.host.dirtyShutdowns, notices := s.notices }

/-- The parts of the metadata area that differ: 0 poison record, 1 result cache, 2 labels, 3 shutdown state and count, 4 notices
(in part DESIGN CHOICE, notes/assumptions/13). -/
def metaParts (a b : MetaImage) : List Nat :=
  [decide (a.poison = b.poison), decide (a.sessions = b.sessions), decide (a.labels = b.labels),
   decide (a.shutdownDirty = b.shutdownDirty) && decide (a.dirtyShutdowns = b.dirtyShutdowns), decide (a.notices = b.notices)].zipIdx.filterMap
    fun x => if x.1 then none else some x.2

/-- The granule of the metadata area that holds a part (in part DESIGN CHOICE, notes/assumptions/13). -/
def metaGranule (s : State) (part : Nat) : Nat := hvGranules s + part

/-- Dirty granules of the metadata area (R193): parts that differ from their newest copies on flash; none until a format's seal (R309)
(in part DESIGN CHOICE, notes/assumptions/13). -/
def metaDirty (s : State) : List Nat :=
  if s.power.dramUp && !s.flash.formatting then (metaParts (metaImage s) s.persist.metaFlushed).map (metaGranule s) else []

/-- Granules in the dirty set, in flight ones without a set bit among them (R42) (in part DESIGN CHOICE, notes/assumptions/13; DEDUCED,
notes/assumptions/27). -/
def dirtyGranules (s : State) : List Nat :=
  s.persist.dirty.map (·.1) ++ metaDirty s
    ++ ((s.persist.inflight.filter fun f => !(s.persist.dirty.any fun d => d.1 == f.granule) && !(metaDirty s).contains f.granule).map
      (·.granule))

/-- Granules whose bit is set or that are in flight (in part DESIGN CHOICE, notes/assumptions/13). -/
def dirtyCount (s : State) : Nat := (dirtyGranules s).length

/-- D in bytes. A failed parity check of the bitmap makes every granule dirty (R37). -/
def dirtyBytes (s : State) : Nat := dirtyCount s * gBytes s

/-! ## Flash population (R146, R170, R179) -/

/-- A channel in service, or in an engine swap, which is not a loss (R169). -/
def fcUp (c : FlashChan) : Bool := c.run == .inService || c.run == .engineSwap

/-- Channels in service. -/
def flashChannels (s : State) : Nat := (s.flash.ch.toList.filter fcUp).length

/-- Dies in service. -/
def flashDies (s : State) : Nat := ((s.flash.ch.toList.filter fcUp).map fun c => c.dies.length).sum

/-- bw_save in bytes per second (R146), exact. -/
def bwSave (s : State) : Rat :=
  let k := flashChannels s
  if k ≥ 2 && s.flash.inService then
    ratMin 96000000000 (ratMin ((k - 1 : Nat) * 3097000000 : Rat) ((flashDies s : Nat) * 307800000 : Rat))
  else 0

/-- Bands of a die row: its block sets, less the system area's 64 on row 0 (Table 06-2). -/
def rowBands (c : Settings) (d : Nat) : Nat := if d = 0 then c.blockSets - 64 else c.blockSets

/-- Bands of the module. -/
def totalBands (c : Settings) : Nat := c.flashDies * c.blockSets - 64

/-- A band's number counts its die row and its place in the row. -/
def bandRow (c : Settings) (b : Nat) : Nat := if b < c.blockSets - 64 then 0 else (b + 64) / c.blockSets

/-- The member of a band on a channel can be read: the channel is in service with the die. -/
def memberUp (s : State) (c : Settings) (band : Nat) (ch : FlashCh) : Bool :=
  fcUp s.flash.ch[ch] && s.flash.ch[ch].dies.contains (Fin.ofNat 16 (bandRow c band))

/-- The page groups of a row. -/
def pagesOfRow (s : State) (band row : Nat) : List PageGroup := s.flash.pages.filter fun p => p.band == band && p.row == row

/-- The page group can be read, by its own member or by RAIN: the row's parity page group covers it, and every other page group it
covers can be read (R147, R159, R160) (in part DESIGN CHOICE, notes/assumptions/20). -/
def pageReads (s : State) (c : Settings) (p : PageGroup) : Bool :=
  memberUp s c p.band p.ch
    || (pagesOfRow s p.band p.row).any fun r => r.kind == .parity && r.passed && r.covers.contains p.seq && memberUp s c p.band r.ch
        && (pagesOfRow s p.band p.row).all fun q => q.seq == p.seq || !r.covers.contains q.seq || memberUp s c p.band q.ch

/-- The five root parts of a generation decode (R177, R204) (in part DEDUCED, notes/assumptions/79). -/
def rootReads (s : State) (c : Settings) (g : Generation) : Bool :=
  (List.range 5).all fun i => s.flash.pages.any fun p =>
    p.kind == .root && p.index == i && p.gen == g.gen && p.keyId == g.keyId && p.passed && pageReads s c p

/-- A seal record is read from one of the mirrors in service (R177) (in part DEDUCED, notes/assumptions/79). -/
def recordReads (s : State) (g : Generation) : Bool :=
  (g.copies.1 && s.flash.mirrors[0].ok) || (g.copies.2 && s.flash.mirrors[1].ok)

/-- The seal record makes a candidate under the present key (R204) (in part DEDUCED, notes/assumptions/79). -/
def candidate (s : State) (c : Settings) (g : Generation) : Bool :=
  recordReads s g && some g.keyId == s.security.key && rootReads s c g

/-- GEN of the newest sealed generation (Table 06-10) (in part DESIGN CHOICE, notes/assumptions/35). -/
def newestSealed (s : State) : DWord := (s.flash.gens.getLast?.map (·.gen)).getD 0

/-- Block sets retired for good. -/
def retiredSets (s : State) : Nat := (s.flash.blocks.filter fun b => b.retired).length

/-- Block sets in service that bands can take: of the dies in service, less 64 on each die of row 0 (Table 06-2) and less the retired
ones. -/
def usableSets (s : State) (c : Settings) : Nat :=
  flashDies s * c.blockSets - 64 * (s.flash.ch.toList.filter fun f => fcUp f && f.dies.contains 0).length
    - (s.flash.blocks.filter fun b => b.retired && fcUp s.flash.ch[b.ch] && s.flash.ch[b.ch].dies.contains b.die).length

/-- Data capacity after retirements, in bytes: 32 MiB a block set, less a row's share of parity (Table 06-2, R170)
(in part DESIGN CHOICE, notes/assumptions/96). -/
def dataCapacity (s : State) (c : Settings) : Nat :=
  usableSets s c * 32 * 2 ^ 20 / flashChannels s * (flashChannels s - 1)

/-- Erased bands in the free pool. -/
def freeBands (s : State) : Nat :=
  match s.startup.settings with
  | some c => if s.flash.inService then totalBands c - s.flash.bands.length else 0
  | none => 0

/-- The target T of R179. -/
def poolTarget (c : Settings) : Nat :=
  let cap := if c.capMib = 0 then usableBytes c else c.capMib * 2 ^ 20
  64 + ceilDiv (2 ^ 30 + 320 * 1024 + cap) (992 * 2 ^ 20)

/-- Granules may be absent from DRAM: in RESTORE, or in the relocation fill of R137 (R156, R217). -/
def someAbsent (s : State) : Bool := s.restore.running || s.shroud.mode == .relocate

/-! ## Temperatures (R267, R270) -/

/-- A site's filtered value in 1/1024 °C: the mean of its last 8 samples (R267) (in part DESIGN CHOICE, notes/assumptions/10). -/
def filtered (t : SiteState) : Int :=
  match t.samples.length with
  | 0 => 0
  | n + 1 => t.samples.sum * 8 / ((n + 1 : Nat) : Int)

/-- The highest of a list of readings, if there is one. -/
def maxInt : List Int → Option Int
  | [] => none
  | x :: t => match maxInt t with
    | none => some x
    | some y => some (if x < y then y else x)

/-- A plausible site. -/
def plausible (t : SiteState) : Bool := t.run == .plausible && t.samples.length != 0

/-- The filtered maximum of a domain over the sites that a test picks. -/
def siteMax (s : State) (p : SiteState → Bool) : Option Int :=
  maxInt ((s.thermal.site.toList.filter fun t => plausible t && p t).map filtered)

/-- SINGLE sensing mode is selected (R268); it is in force in the minimal profile (Table 12-7). -/
def singleMode (s : State) : Bool :=
  s.power.minimal || match s.startup.settings with
    | some c => c.singleMode
    | none => false

/-- Site 0's filtered value, in 1/1024 °C. -/
def site0Value (s : State) : Option Int := if plausible s.thermal.site[0] then some (filtered s.thermal.site[0]) else none

/-- Under the forced rule a maximum is at least the domain's reefing edge (R270). -/
def atLeastEdge (forced : Bool) (edge : Int) (m : Option Int) : Option Int :=
  if forced then some (match m with | some x => (if x < edge * 1024 then edge * 1024 else x) | none => edge * 1024) else m

/-- Junction maximum of the die domain (R267, R268, R270) (in part DEDUCED, notes/assumptions/98). -/
def dieMax (s : State) : Option Int :=
  atLeastEdge s.thermal.forcedDie 100 (if singleMode s then site0Value s else siteMax s fun t => t.domain == .die)

/-- Site 0 less the Sheet DRAM offset, which stands for DRAM in SINGLE mode (R268). -/
def dramFromSite0 (s : State) : Option Int :=
  match s.startup.settings with
  | some c => (site0Value s).map fun t => t - (c.dramOffset : Int) * 1024
  | none => none

/-- The first reading there is. -/
def orElseMax (a b : Option Int) : Option Int := if a.isSome then a else b

/-- Case maximum of a DRAM channel; with no plausible mapped site, its domain's (R267, R268, R270)
(in part DEDUCED, notes/assumptions/98). -/
def dramMax (s : State) (c : DramCh) : Option Int :=
  atLeastEdge s.thermal.forcedDram 95
    (if singleMode s then dramFromSite0 s
     else orElseMax (siteMax s fun t => t.domain == .dram && t.channels.getLsbD c) (siteMax s fun t => t.domain == .dram))

/-- Case maximum of a NAND channel (R267, R270); none in SINGLE mode, where every channel is held in band 1 (R268)
(in part DEDUCED, notes/assumptions/98). -/
def nandMax (s : State) (c : FlashCh) : Option Int :=
  if singleMode s then none
  else atLeastEdge s.thermal.forcedNand 85
    (orElseMax (siteMax s fun t => t.domain == .nand && t.channels.getLsbD c) (siteMax s fun t => t.domain == .nand))

/-- Plausible sites of a domain. -/
def plausibleIn (s : State) (d : Domain) : Nat :=
  (s.thermal.site.toList.filter fun t => t.run == .plausible && t.domain == d).length

/-- The highest reefing level among all causes (QV_REEF.LEVEL). -/
def reefLevel (s : State) : Nat :=
  let r := s.thermal.reef
  max r.die (max r.dram (max r.nand (max r.ceil r.wear)))

/-! ## Energy terms (R44–R46, R244–R246, Table 02-3) -/

/-- The capacity factor a. -/
def fadeFactor (p : PackSet) (nefcX100 : Nat) : Rat :=
  ratMax (6 / 10) (1 - (p.kFade : Rat) / 1000000 * ((nefcX100 : Rat) / 100))

/-- q_d in mC. -/
def designCharge (p : PackSet) : Rat := (p.eDesign : Rat) * 1000000 / (p.vPlan : Rat)

/-- q_c in mC, rounded (R245). -/
def cycleCharge (p : PackSet) : Nat := (2 * p.eDesign * 10000 + p.vPlan) / (2 * p.vPlan)

/-- soc, clamped to 0..1 (R244) (in part DESIGN CHOICE, notes/assumptions/10). -/
def stateOfCharge (s : State) (p : PackSet) : Rat :=
  let q := designCharge p
  let a := fadeFactor p s.pack.nefc
  ratMax 0 (ratMin 1 (s.pack.socRef + (s.pack.qChg : Rat) / (1000 * q) - (s.pack.qDis : Rat) / (1000 * a * q)))

/-- The pack temperature in force, in 0.1 °C: −10 °C when neither source is plausible (R234). -/
def packTemp (s : State) : Int := if s.pack.tempSrc = .none then -100 else s.pack.temp

/-- derate(t) from the 15 points of the Sheet table, linear between; 0 below −10 °C and above 60 °C (Table 02-3). -/
def derate (p : PackSet) (tenths : Int) : Rat :=
  if tenths < -100 || tenths > 600 then 0
  else
    let x := (tenths + 100).toNat
    let i := x / 50
    let a := (p.derate.getD i 0 : Rat)
    let b := (p.derate.getD (i + 1) (p.derate.getD i 0) : Rat)
    (a + (b - a) * ((x % 50 : Nat) : Rat) / 50) / 200

/-- Hours since the last voltage reference (R246), exact. -/
def hoursSince (s : State) : Rat := ((s.clock.opTime - s.pack.refAt : Nat) : Rat) / 3600000

/-- u as a fraction (R246). -/
def uncertainty (s : State) (p : PackSet) : Rat :=
  if s.pack.changed || s.pack.idUnknown then 25 / 100
  else ratMin (25 / 100) ((s.pack.uBase : Rat) / 1000 + (p.uRate : Rat) / 10000 * hoursSince s)

/-- PACK_LOST of Table 09-2: every condition but Qualified. -/
def packLost (s : State) : Bool := s.pack.cond != .qualified

/-- The pack is lost as a covered part (R55): failed, or removed after it was in service. -/
def packFailed (s : State) : Bool := s.pack.failure.isSome

/-- e_bank in J (R237). -/
def bankEnergy (s : State) (b : BankSet) : Rat :=
  let v := s.bank.voltage
  if v ≤ b.vGuard then 0
  else ratMin (b.eRated : Rat)
    ((s.bank.cMeas : Rat) / 2000 * (((v * v : Nat) : Rat) - ((b.vGuard * b.vGuard : Nat) : Rat)) / 1000000)

/-- e_floor, the floor of the bank path, e_seal, and the parts of Table 07-2, in J. -/
def eFloor : Rat := 600

/-- e_seal. -/
def eSeal : Rat := 1 / 2

/-- 1.15, the margin of R44, R45 and R187. -/
def margin : Rat := 115 / 100

/-- p_save(band) in W (Table 02-3). -/
def savePower (s : State) (c : Settings) : Nat := if s.thermal.dieHot then c.pSaveHot else c.pSave

end Sys2Proof.Machine
end

