-- ==== Sys2Proof/Machine/Ops.lean ====
section
/-! DEFINITION. The operations that every family uses: what leaves the ports, event records, notices, time, poison, the
dirty set and the reset of a link's function. -/

namespace Sys2Proof.Machine

open Sys2Proof

/-! ## Ports and free values -/

/-- Something leaves the controller (in part DESIGN CHOICE, notes/assumptions/9). -/
def emit (s : State) (o : Output) : State := { s with out := s.out ++ [o] }

/-- Draws `n` bytes of the random source (R163, R431): free values, a fresh one each time
(in part DESIGN CHOICE, notes/assumptions/9; DEDUCED, notes/assumptions/63). -/
def drawRandom (s : State) (n : Nat) : List Byte × State :=
  ((List.range n).map fun i => Config.random (s.fresh + i), { s with fresh := s.fresh + n })

/-! ## Event recorder (R361–R374) -/

/-- Codes without a token bucket (R365). -/
def noBucket (code : BitVec 16) : Bool :=
  (0x0B81 ≤ code.toNat && code.toNat ≤ 0x0B88) || code == 0x0581 || code == 0x0582

/-- SOURCE of a record: 0xFE for the rail supervisor and other AON hardware; which engine or the masthead raises any other
event the spec leaves open (R361) (in part DESIGN CHOICE, notes/assumptions/32). -/
def sourceOf (code : BitVec 16) : Byte := if code.toNat / 256 = 8 then 0xFE else Config.eventSource code

/-- A record of an event raised now, without its number. -/
def newRecord (s : State) (code : BitVec 16) (sev : Nat) (payload : List Byte) : Record :=
  { code := code, severity := sev, timeEst := s.clock.timeEst, inSave := saving s, lastWords := false,
    sramOnly := !s.recorder.nandUp || s.recorder.sramOnly, source := sourceOf code, powerCycle := s.clock.pcycle,
    opTime := s.clock.opTime, recno := 0, payload := padTo payload 16 }

/-- The lowest severity that goes into the last-words ring as well (R372, R374): ERROR while both mirrors are lost, WARNING
in the minimal profile and in CROCUS; 4, which no record has, otherwise. -/
def ringSeverity (s : State) : Nat :=
  if sramNotices s then 1 else if s.recorder.sramOnly then 2 else 4

/-- Adds one to the count of a severity. -/
def countSev (counts : List Nat) (sev : Nat) : List Nat :=
  (List.range 4).map fun i => satAdd 16 (counts.getD i 0) (if i = sev then 1 else 0)

/-- Writes a record into the last-words ring (R373): the sector that comes next is erased before its first slot, at most 64
records in 60 min, and records beyond that are counted (in part DESIGN CHOICE, notes/assumptions/95). -/
def ringWrite (now : Nat) (rc : Recorder) (r : Record) : Recorder :=
  let times := rc.ringTimes.filter fun t => decide (now < 3600000 + t)
  if times.length ≥ 64 then { rc with ringTimes := times, withheld := countSev rc.withheld r.severity }
  else
    let old := if rc.ringSlots % 32 = 0 && rc.ring.length ≥ 96 then rc.ring.drop 32 else rc.ring
    { rc with ring := old ++ [{ r with lastWords := true }], ringSlots := rc.ringSlots + 1, ringTimes := times ++ [now],
              withheld := [0, 0, 0, 0] }

/-- Opens the other assembly page when the open one holds 2,048 records (R368); with no NAND log the older page is discarded
(R372). -/
def turnPage (rc : Recorder) : Recorder :=
  if rc.page.length < 2048 then rc
  else if rc.sramOnly || !rc.nandUp then { rc with fullPage := some rc.page, page := [] }
  else match rc.fullPage with
    | none => { rc with fullPage := some rc.page, page := [] }
    | some _ => rc

/-- Moves one record into the open page with the next record number (R368), and into the ring where `sev` asks for it. -/
def pageAdd (now sev : Nat) (rc : Recorder) (r : Record) : Recorder :=
  let n := { r with recno := rc.nextRecno, lastWords := decide (sev ≤ r.severity) }
  let rc := { rc with page := rc.page ++ [n], nextRecno := rc.nextRecno + 1 }
  turnPage (if sev ≤ r.severity then ringWrite now rc n else rc)

/-- The open page takes records. -/
def pageOpen (rc : Recorder) : Bool := decide (rc.page.length < 2048)

/-- The OVERFLOW record of R367. -/
def overflowRecord (base : Record) (o : OverflowEntry) : Record :=
  { base with code := 0x0B82, severity := 1,
              payload := padTo ((o.counts.flatMap fun c => leBytes 2 c) ++ leBytes 6 o.firstDrop) 16 }

/-- Moves staged records into the pages while a page is open, OVERFLOW ahead of them (R367, R368). -/
def moveStaged : Nat → Nat → Nat → Record → Recorder → Recorder
  | 0, _, _, _, rc => rc
  | fuel + 1, now, sev, base, rc =>
    if !pageOpen rc then rc
    else match rc.overflow with
      | some o => moveStaged fuel now sev base (pageAdd now sev { rc with overflow := none } (overflowRecord base o))
      | none => match rc.staging with
        | [] => rc
        | r :: t => moveStaged fuel now sev base (pageAdd now sev { rc with staging := t } r)

/-- The lowest severity present. -/
def lowestSev (rs : List Record) (d : Nat) : Nat := rs.foldl (fun m r => min m r.severity) d

/-- Drops the newest record of a severity. -/
def dropNewest (sev : Nat) (rs : List Record) : List Record :=
  (rs.reverse.eraseP fun r => r.severity == sev).reverse

/-- Counts a dropped record in OVERFLOW and in QV_LOG_STAT.DROPS (R367). -/
def countDrop (now sev : Nat) (rc : Recorder) : Recorder :=
  let o := rc.overflow.getD { counts := [0, 0, 0, 0], firstDrop := now }
  { rc with overflow := some { o with counts := countSev o.counts sev }, drops := satAdd 16 rc.drops 1, dropsOwed := true }

/-- Puts an admitted record into the staging buffer of 512 entries (R367). -/
def stageRecord (now : Nat) (rc : Recorder) (r : Record) : Recorder :=
  if rc.staging.length < 512 then { rc with staging := rc.staging ++ [r] }
  else
    let low := lowestSev rc.staging r.severity
    if r.severity ≤ low then countDrop now r.severity rc
    else countDrop now low { rc with staging := dropNewest low rc.staging ++ [r] }

/-- A code's bucket, refilled to now; a bucket that has never been used is full (R365). -/
def bucketNow (s : State) (code : BitVec 16) : Bucket :=
  match s.recorder.buckets.find? fun b => b.code == code with
  | some b => { b with milli := min 32000 (b.milli + 8 * (s.clock.now - b.at_)), at_ := s.clock.now }
  | none => { code := code, milli := 32000, at_ := s.clock.now, drops := 0, firstDrop := 0, lastDrop := 0 }

/-- Puts a bucket back. -/
def setBucket (s : State) (b : Bucket) : State :=
  { s with recorder := { s.recorder with buckets := (s.recorder.buckets.filter fun x => x.code != b.code) ++ [b] } }

/-- Stages a record and moves what the pages take. -/
def stage (s : State) (r : Record) : State :=
  let rc := stageRecord s.clock.opTime s.recorder r
  { s with recorder := moveStaged 600 s.clock.opTime (ringSeverity s) (newRecord s 0x0B82 1 []) rc }

/-- The SUPPRESSED record of a code's drops (R366). -/
def suppressed (s : State) (sev : Nat) (b : Bucket) : Record :=
  newRecord s 0x0B81 sev (leBytes 2 b.code.toNat ++ leBytes 2 b.drops ++ leBytes 6 b.firstDrop ++ leBytes 6 b.lastDrop)

/-- Logs an event (R361–R368). The recorder is unpowered outside RUN, RESTORE, SAVE and CROCUS: nothing is recorded then. -/
def logEvent (s : State) (code : BitVec 16) (sev : Nat) (payload : List Byte) : State :=
  if !coreUp s then s
  else if noBucket code then stage s (newRecord s code sev payload)
  else
    let b := bucketNow s code
    if b.milli < 1000 then
      setBucket s { b with drops := satAdd 16 b.drops 1, lastDrop := s.clock.opTime,
                           firstDrop := if b.drops = 0 then s.clock.opTime else b.firstDrop }
    else
      let s1 := setBucket s { b with milli := b.milli - 1000, drops := 0 }
      let s2 := if b.drops = 0 then s1 else stage s1 (suppressed s sev b)
      stage s2 (newRecord s code sev payload)

/-- Payload bytes of words. -/
def wordBytes (ws : List Nat) : List Byte := ws.flatMap fun w => leBytes 4 w

/-! ## Notices (R340–R343) -/

/-- Priority class of a notice (Tables 02-8, 07-8, 08-5, 09-14, 10-12, 11-11, 12-9, 13-7, 14-11, 15-7, 17-11, 18-11, 19-12,
R63, R69, R79, R109, R166, R170, R175). FLASH_WEAR takes its stage's class (Table 06-12). -/
def noticeClass (code : Nat) : Nat :=
  if code ∈ [0x0101, 0x0501, 0x0504, 0x0505, 0x0601, 0x0602, 0x0701, 0x0801, 0x0802, 0x0901, 0x0902, 0x0903, 0x0B01,
      0x0C01, 0x0D01, 0x0D02] then 0
  else if code ∈ [0x0106, 0x0203, 0x0301, 0x0302, 0x0303, 0x0401, 0x0403, 0x0502, 0x0604, 0x0605, 0x0606, 0x0702, 0x0705,
      0x0803, 0x0904, 0x0A05, 0x0C02, 0x0D03, 0x0E02, 0x0E03] then 1
  else if code ∈ [0x0104, 0x0608, 0x0609, 0x060A, 0x060B, 0x0704, 0x0806, 0x0807, 0x0906, 0x0A01, 0x0B02, 0x0C06, 0x0C07,
      0x0C08, 0x0E01, 0x0E04] then 3
  else 2

/-- Words of a notice's first content field: 8-byte GEN and 16-byte serials (Table 13-6). -/
def firstField (code : Nat) : Nat :=
  if code ∈ [0x0604, 0x060B] then 4 else if code ∈ [0x0501, 0x0507] then 2 else 1

/-- A delivery has been made (R342). -/
def delivered (n : Notice) : Bool := !n.deliveredOn.isEmpty

/-- No carrier is available (R58, R85): in SAVE, and with VDD_AON down (in part DESIGN CHOICE, notes/assumptions/32). -/
def noCarrier (s : State) : Bool := saving s || !s.power.aon || s.power.state == .off || s.power.state == .ship

/-- Whether `n` takes a repeat of the notice (R340). -/
def mergesInto (code : BitVec 16) (payload : List Word) (n : Notice) : Bool :=
  n.code == code && !delivered n && n.payload.take (firstField code.toNat) == payload.take (firstField code.toNat)

/-- The oldest pending notice of a class dropped, if there is one. -/
def dropClass (c : Nat) (ns : List Notice) : Option (List Notice) :=
  if (ns.any fun n => n.cls == c) then some (ns.eraseP fun n => n.cls == c) else none

/-- The two oldest pending notices that share a code, merged (R340). -/
def mergeOldest : List Notice → List Notice
  | [] => []
  | n :: t =>
    match t.find? fun m => m.code == n.code with
    | some m =>
      { n with payload := m.payload, repeats := satAdd 16 (n.repeats + m.repeats) 1, merged := true,
               aliases := n.aliases ++ m.seq :: m.aliases } :: (t.eraseP fun x => x.seq == m.seq)
    | none => n :: mergeOldest t

/-- Makes room for a notice of a class among 1,024 (R340): the list left, and the drops; none when the new notice itself is
dropped. -/
def makeRoom (cls : Nat) (ns : List Notice) : Option (List Notice × Nat) :=
  if ns.length < 1024 then some (ns, 0)
  else match dropClass 3 ns with
    | some r => some (r, 1)
    | none => match dropClass 2 ns with
      | some r => some (r, 1)
      | none => if cls ≥ 2 then none else some (mergeOldest ns, 0)

/-- The record of a notice raised now. -/
def newNotice (s : State) (code : BitVec 16) (cls : Nat) (payload : List Word) : Notice :=
  { seq := s.notices.nextSeq, code := code, cls := cls, late := noCarrier s, merged := false, powerCycle := s.clock.pcycle,
    opTime := s.clock.opTime, repeats := 0, drops := 0, payload := payload.take 11, aliases := [],
    aonFull := inStandby s, deliveredOn := [], onLinks := [], inRings := [], firstAt := none, announcedAt := s.clock.opTime,
    disregarded := false, smbHeld := none }

/-- A pending notice takes a repeat (R340). -/
def takeRepeat (code : BitVec 16) (payload : List Word) (n : Notice) : Notice :=
  if mergesInto code payload n then { n with payload := payload.take 11, repeats := satAdd 16 n.repeats 1 } else n

/-- Queues a notice of a class (R340). -/
def queueNotice (s : State) (code : BitVec 16) (cls : Nat) (payload : List Word) : State :=
  if s.notices.pend.any (mergesInto code payload) then
    { s with notices := { s.notices with pend := s.notices.pend.map (takeRepeat code payload) } }
  else match makeRoom cls s.notices.pend with
    | none => { s with notices := { s.notices with dropped := s.notices.dropped + 1 } }
    | some (room, d) =>
      { s with notices := { nextSeq := s.notices.nextSeq + 1, dropped := 0,
                            pend := room ++ [{ newNotice s code cls payload with drops := s.notices.dropped + d }] },
               smb := { s.smb with alert := s.smb.alert || !saving s } }

/-- Sends a notice of a class: queued, and logged under its code with the severity of its class (R362). -/
def raiseClass (s : State) (code cls : Nat) (payload : List Nat) : State :=
  logEvent (queueNotice s (BitVec.ofNat 16 code) cls (payload.map (BitVec.ofNat 32))) (BitVec.ofNat 16 code) (3 - cls)
    (wordBytes (payload.take 4))

/-- Sends a notice. Content fields are words; 8-byte and 16-byte fields are given as two and four words
(in part DESIGN CHOICE, notes/assumptions/15; DESIGN CHOICE, notes/assumptions/32). -/
def raise (s : State) (code : Nat) (payload : List Nat) : State := raiseClass s code (noticeClass code) payload

/-- The two words of an 8-byte field. -/
def words2 (v : Nat) : List Nat := [v % 2 ^ 32, v / 2 ^ 32 % 2 ^ 32]

/-- The four words of a 16-byte serial. -/
def serialWords (bs : List Byte) : List Nat := (List.range 4).map fun i => field bs (4 * i) 4

/-- A pending notice of a code exists. -/
def pendingCode (s : State) (code : Nat) : Bool := s.notices.pend.any fun n => n.code.toNat == code

/-! ## Debug port (R430, R432, R433) -/

/-- An authenticated session ends by cause `c`, and the port is CLOSED (R432, Table 18-10). -/
def endSession (s : State) (c : Nat) : State :=
  if s.security.dbg = .authenticated then
    raise { s with security := { s.security with dbg := .closed, endCause := c } } 0x0D05 [0, c, s.security.sessions]
  else s

/-- The port on a return to RUN, and in CROCUS: OPEN at L0 unless it has been closed since the start-up (R430, R434). -/
def debugReturns (s : State) : State :=
  { s with security := { s.security with forced := false, dbg := if s.security.level = .l0 ∧ !s.security.closed0 then .opened else .closed } }

/-! ## Time -/

/-- One millisecond of time. Operating time advances while VDD_AON is powered (R363). The 100 µs for which a brown-out blocks new code
flash pulses are over (R388) (in part DESIGN CHOICE, notes/assumptions/2; DESIGN CHOICE, notes/assumptions/9). -/
def passTime (s : State) : State :=
  { s with clock := { s.clock with now := s.clock.now + 1,
                                   opTime := if s.power.aon then s.clock.opTime + 1 else s.clock.opTime },
           cf := { s.cf with blocked := false } }

/-- A deadline of `d` ms from `t0` has come (in part DESIGN CHOICE, notes/assumptions/6; DESIGN CHOICE, notes/assumptions/7). -/
def due (s : State) (t0 d : Nat) : Bool := decide (d + t0 ≤ s.clock.now)

/-- Times of a list within the last `d` ms (in part DESIGN CHOICE, notes/assumptions/7). -/
def recent (s : State) (d : Nat) (ts : List Nat) : List Nat := ts.filter fun t => decide (s.clock.now < d + t)

/-! ## Poison (R79–R81) -/

/-- The line is on the poison record (in part DESIGN CHOICE, notes/assumptions/14). -/
def poisoned (s : State) (line : Nat) : Bool :=
  s.host.poison.lines.any (fun p => p.1 == line)
    || (s.host.poison.granules.any (fun p => p.1 == lineGranule s line) && !s.host.poison.cleared.contains line)

/-- Enters a line in the poison record (in part DESIGN CHOICE, notes/assumptions/14). -/
def addPoison (s : State) (line : Nat) (src : PoisonSource) : State :=
  { s with host := { s.host with poison := { s.host.poison with lines := kvSet s.host.poison.lines line src } } }

/-- Takes a line off the poison record (R80) (in part DESIGN CHOICE, notes/assumptions/14). -/
def dropPoison (s : State) (line : Nat) : State :=
  let p := s.host.poison
  let covered := p.granules.any fun g => g.1 == lineGranule s line
  { s with host := { s.host with poison :=
      { p with lines := kvErase p.lines line, cleared := if covered then insertNat p.cleared line else p.cleared } } }

/-- Poisons a granule whole: one entry for it, and no line of it cleared (in part DESIGN CHOICE, notes/assumptions/14). -/
def poisonGranule (s : State) (g : Nat) (src : PoisonSource) : State :=
  let p := s.host.poison
  { s with
    host := { s.host with poison :=
      { p with granules := kvSet p.granules g src, cleared := p.cleared.filter fun l => lineGranule s l != g } },
    persist := { s.persist with poisonFlag := insertNat s.persist.poisonFlag (regionOf g) } }

/-- Source codes of Get Poison List (CXL 3.1: 1 external, 2 internal, 3 injected). -/
def sourceCode : PoisonSource → Nat
  | .external => 1
  | .internal => 2
  | .injected => 3

/-- The dirty shutdown of a power cycle or reset is counted, once (R78). -/
def countDirtyShutdown (s : State) : State :=
  { s with host := { s.host with
      dirtyShutdowns := s.host.dirtyShutdowns + (if s.host.dirtyCounted then 0 else 1), dirtyCounted := true } }

/-! ## Dirty set (R41–R43) -/

/-- A write-buffer entry has drained into a granule: its bit is set, it becomes the most recently written, and HEAT counts it
when it was clean (R41–R43). -/
def markDirty (s : State) (g : Nat) : State :=
  let was := s.persist.dirty.any fun d => d.1 == g
  let flying := isInFlight s g
  let newly := if was || flying then s.persist.newDirty
    else kvSet s.persist.newDirty (regionOf g) (kvGetD s.persist.newDirty (regionOf g) 0 + 1)
  { s with persist := { s.persist with
      dirty := (s.persist.dirty.filter fun d => d.1 != g) ++ [(g, s.clock.now)],
      inflight := s.persist.inflight.map fun f => if f.granule = g then { f with rewritten := true } else f,
      newDirty := newly,
      freshBytes := if was || flying then s.persist.freshBytes else s.persist.freshBytes + gBytes s } }

/-- A granule's bit is cleared. -/
def clearDirty (s : State) (g : Nat) : State :=
  { s with persist := { s.persist with dirty := s.persist.dirty.filter fun d => d.1 != g } }

/-! ## Links (R65, R66) -/

/-- The function state of a link takes its reset values: decoders, ring registers and event logs (R65). The BAR2 views and
latches of the function are part of its state (in part DEDUCED, notes/assumptions/100). -/
def resetFunction (s : State) (l : Link) : State :=
  { s with host := { s.host with
      fn := s.host.fn.set l resetFn,
      link := vecMod s.host.link l fun k =>
        { k with decoders := [], busMaster := false, range1 := 0, msixTable := List.replicate 8 (0, 0), msixMask := 0xFF, msixPend := 0,
                 mbx := none, logs := [] } } }

/-- Requests of a link without a completion are discarded (R65); accepted writes stay in the write buffers. -/
def dropRequests (s : State) (l : Link) : State :=
  { s with host := { s.host with slots := s.host.slots.filter fun q => q.link != l } }

/-- A link goes down (R65, R66): PERST_N, link down, hot reset. Notices stay pending and count as not yet written to this
function, so that classes 0 and 1 are written to its logs again. -/
def linkReset (s : State) (l : Link) : State :=
  let s := dropRequests (resetFunction s l) l
  { s with notices := { s.notices with pend := s.notices.pend.map fun n =>
      { n with onLinks := n.onLinks.filter fun x => x != l, inRings := n.inRings.filter fun x => x != l } } }

/-- The link is down: not trained, offering nothing. -/
def linkGone (s : State) (l : Link) : State :=
  { s with host := { s.host with link := vecMod s.host.link l fun k =>
      { k with trained := false, width := 0, offersIo := false, memActive := false, resting := false } } }

/-- Every link goes down and is held in electrical idle (Table 03-3). -/
def idleLinks (s : State) : State :=
  (fins 8).foldl (fun s l =>
    let t := linkGone (linkReset s l) l
    { t with host := { t.host with link := vecMod t.host.link l fun k => { k with heldIdle := true } } }) s

end Sys2Proof.Machine
end

