-- ==== Sys2Proof/Machine/Ceiling.lean ====
section
/-! DEFINITION. The dirty ceiling, the standing save plan, the holding flush rate and the persistence sub-state (R44–R57,
R187, R508), shared by the 100 ms update and by every event of R46. -/

namespace Sys2Proof.Machine

open Sys2Proof

/-! ## Capacitor bank (R45) -/

/-- e_gb in J per GB; none while bw_save is 0. -/
def energyPerGb (s : State) (c : Settings) : Option Rat :=
  if bwSave s = 0 then none else some ((savePower s c : Rat) * 1000000000 / bwSave s)

/-- e_man in J (Table 02-3); a free value while no e_gb is computed (in part DESIGN CHOICE, notes/assumptions/37). -/
def eMan (s : State) (c : Settings) : Rat :=
  match energyPerGb s c with
  | some e => (manifestBytes c : Rat) / 1000000000 * e
  | none => Config.manifestEnergy s.persist.ceiling.updateSeq

/-- The bare-pole ceiling, 2 GiB. -/
def barePole : Rat := 2147483648

/-- e_bp in J (R45), while bw_save is not 0. -/
def bankRequirement (s : State) (c : Settings) : Option Rat :=
  (energyPerGb s c).map fun e => barePole / 1000000000 * e + margin * (150 + eMan s c + eSeal)

/-- The bank's state by R45: it is qualified while its energy meets e_bp; a failed or absent bank stays so, and while no e_bp
is computed it stays as it was. -/
def bankQualify (s : State) : State :=
  match s.startup.settings with
  | none => s
  | some c =>
    match c.bank, bankRequirement s c with
    | some b, some e =>
      if s.bank.run = .charging ∨ s.bank.run = .qualified then
        { s with bank := { s.bank with run := if bankEnergy s b ≥ e then .qualified else .charging } }
      else s
    | _, _ => s

/-- The bank is qualified. -/
def bankQualified (s : State) : Bool := s.bank.run == .qualified

/-! ## The computation of R44 -/

/-- e_pack in J (in part DESIGN CHOICE, notes/assumptions/10). -/
def packEnergy (s : State) (c : Settings) : Rat :=
  (c.pack.eDesign : Rat) * fadeFactor c.pack s.pack.nefc * stateOfCharge s c.pack * derate c.pack (packTemp s)

/-- e_res in J. -/
def reserve (s : State) (c : Settings) : Rat :=
  margin * (eFloor + eMan s c + eSeal) + uncertainty s c.pack * packEnergy s c

/-- c_pack in bytes: 0 while the pack is lost, and while nothing can be programmed. -/
def packCeiling (s : State) (c : Settings) : Rat :=
  match energyPerGb s c with
  | none => 0
  | some e => if packLost s then 0 else ratMax 0 ((packEnergy s c - reserve s c) / e) * 1000000000

/-- c_bp in bytes. -/
def bankCeiling (s : State) (c : Settings) : Rat :=
  if (energyPerGb s c).isSome && bankQualified s then barePole else 0

/-- The ceiling cap and the limit while the ESB holds defaults, in bytes. -/
def capBytes (c : Settings) : Rat := (c.capMib * 2 ^ 20 : Nat)

/-- unrestored_cap in bytes. -/
def unrestoredBytes (c : Settings) : Rat := (c.pack.unrestoredCap * 2 ^ 20 : Nat)

/-- C in bytes from c_e (R44). -/
def ceilingOf (s : State) (c : Settings) (ce : Rat) : Rat :=
  let x := if c.capMib = 0 then ce else ratMin ce (capBytes c)
  if s.pack.esbDefault then ratMin x (unrestoredBytes c) else x

/-- LIMIT (R508). -/
def limitOf (s : State) (c : Settings) (cPack ce x : Rat) : Nat :=
  if ce = 0 then 4
  else if s.pack.esbDefault && unrestoredBytes c == x then 3
  else if c.capMib ≠ 0 ∧ capBytes c = x then 0
  else if cPack = x then 1
  else 2

/-- The ceiling that the present state gives, with its causes (R44, Table 02-4) (in part DESIGN CHOICE, notes/assumptions/35). -/
def computeCeiling (s : State) (c : Settings) : Ceiling :=
  let cPack := packCeiling s c
  let cBp := bankCeiling s c
  let ce := ratMax cPack cBp
  let x := ceilingOf s c ce
  { c := x, cE := ce, cPack := cPack, cBp := cBp, ePack := packEnergy s c, eRes := reserve s c,
    eGb := (energyPerGb s c).getD 0, bwSave := bwSave s, limit := limitOf s c cPack ce x,
    updateSeq := (s.persist.ceiling.updateSeq + 1) % 256,
    uncov := decide (ce < (dirtyBytes s : Rat)), isOver := decide (x < (dirtyBytes s : Rat)),
    esbDefault := s.pack.esbDefault, packChanged := s.pack.changed, bankLost := !bankQualified s, packLost := packLost s,
    flashRate := decide (bwSave s < 96000000000), savePower := decide (savePower s c > 420), restDue := s.pack.restDue,
    cold := decide (derate c.pack (packTemp s) < 1) }

/-! ## The standing save plan (R187) -/

/-- Rounded down and up to whole mC. -/
def down (r : Rat) : Rat := (r.floor : Rat)

/-- Rounded up to whole mC. -/
def up (r : Rat) : Rat := -((-r).floor : Rat)

/-- The marks for an energy in J delivered at a planning voltage in mV, for the pack path or the bank path. -/
def planMarks (s : State) (c : Settings) (seq store v : Nat) (e : Rat) : SavePlan :=
  let q := fun (j : Rat) => j * 1000000 / (v : Rat)
  let qEnd := down (q e)
  let mRet := qEnd - up (q (margin * (if store = 1 then 120 else 40)))
  let mSeal := mRet - up (q (margin * eSeal))
  let mMan := mSeal - up (q (margin * eMan s c))
  let qStart := up (q (margin * (if store = 1 then 400 else 30)))
  { updateSeq := seq, store := store, vPlan := v, qEnd := qEnd, mRet := mRet, mSeal := mSeal, mMan := mMan,
    qFlush := mMan - qStart, qStart := qStart }

/-- The standing save plan of a computation (R187). -/
def computePlan (s : State) (c : Settings) (k : Ceiling) : SavePlan :=
  if !k.packLost && decide (k.cPack ≥ k.cBp) then
    planMarks s c k.updateSeq 1 c.pack.vPlan (k.ePack * (1 - uncertainty s c.pack))
  else match c.bank with
    | some b =>
      if bankQualified s then planMarks s c k.updateSeq 2 b.vPlan (bankEnergy s b)
      else { resetPlan with updateSeq := k.updateSeq }
    | none => { resetPlan with updateSeq := k.updateSeq }

/-! ## Flush rate (R48) -/

/-- The holding rate set from f_in and D (R48), in bytes per second. -/
def holdingRate (s : State) (k : Ceiling) : Rat :=
  ratMin k.bwSave ((s.persist.fIn * 10 : Nat) + ((dirtyBytes s : Rat) - 9 / 10 * k.c))

/-- The highest flush class that R48 lets run (in part DEDUCED, notes/assumptions/24). -/
def flushClass (s : State) (c : Settings) (k : Ceiling) : FlushClass :=
  let d := (dirtyBytes s : Rat)
  if d > k.c then .coverage
  else if d > 9 / 10 * k.c then .holding
  else if d > 1 / 2 * k.c && decide (s.persist.wear > (c.wearRate * 43200 * 1000000 : Nat)) then .background
  else .none

/-! ## Persistence sub-state (R55–R57) -/

/-- What a channel does, or did before its ranks went into self-refresh (R98). -/
def runOf (d : DramChan) : DcRun := if d.run = .selfRefresh then d.sleptFrom else d.run

/-- Lost covered parts other than the pack (Table 02-1), each with a number: 1000 a DRAM device, 2000 a DRAM channel, 3000 a
flash channel, 4000 the spares, 5000 a sensor domain, 6000 the bank (in part DEDUCED, notes/assumptions/97). -/
def lostParts (s : State) (c : Settings) : List Nat :=
  let devices := if c.shroudOn then [] else
    (fins 17).flatMap fun i => s.dram.ch[i].failed.map fun d => 1000 + 40 * i.val + 10 * d.1.val + d.2.val
  let channels := if c.shroudOn then
      ((fins 17).filter fun i => runOf s.dram.ch[i] == .outOfService || runOf s.dram.ch[i] == .rebuilding).map
        fun i => 2000 + i.val
    else []
  let flash := ((fins 32).filter fun i => s.flash.restripe.contains i
      || (s.flash.ch[i].run == .outOfService && s.flash.bands.any fun b => b.members.contains i
          && s.flash.manifest.any fun m => m.2.state == .present && m.2.band == b.num)).map fun i => 3000 + i.val
  let spares := if s.engines.eng.toList.any fun e => e.role == some .spare && e.run != .retired then [] else [4000]
  let sensors := (if s.thermal.atMinDie then [5000] else []) ++ (if s.thermal.atMinDram then [5001] else [])
    ++ (if s.thermal.atMinNand then [5002] else [])
  let bank := if s.bank.run = .failed then [6000] else []
  devices ++ channels ++ flash ++ spares ++ sensors ++ bank

/-- A DRAM channel is lost with Shroud off (R118). -/
def shroudOffLoss (s : State) (c : Settings) : Bool :=
  !c.shroudOn && s.dram.ch.toList.any fun d => runOf d == .outOfService || runOf d == .rebuilding

/-- D exceeds c_e (R54, R56). -/
def overEnergy (s : State) : Bool := decide ((dirtyBytes s : Rat) > s.persist.ceiling.cE)

/-- The first rule of R56 that applies; a second missing channel makes it UNCOVERED (R130) (in part DEDUCED, notes/assumptions/97). -/
def psubOf (s : State) (c : Settings) : Psub :=
  let others := (lostParts s c).length
  let n := others + (if packFailed s then 1 else 0)
  let k := s.persist.ceiling
  if n ≥ 2 ∨ k.cE = 0 ∨ overEnergy s ∨ shroudOffLoss s c ∨ s.shroud.channel2.isSome then .uncovered
  else if others = 1 then .degraded
  else if k.cPack < k.cBp then .barePole
  else .covered

/-- QV_STATE.PSUB codes (Table 02-6). -/
def psubCode : Psub → Nat
  | .covered => 0
  | .barePole => 1
  | .degraded => 2
  | .uncovered => 3

/-- D in MiB, rounded up; C in MiB, rounded down. -/
def mibUp (n : Nat) : Nat := ceilDiv n (2 ^ 20)

/-- A quantity of bytes in MiB, rounded down. -/
def mibDown (r : Rat) : Nat := floorNat (r / 1048576)

/-- Content of a sub-state notice (R57). -/
def psubPayload (s : State) (old new : Psub) : List Nat :=
  [psubCode old, psubCode new, s.persist.nLost, mibUp (dirtyBytes s), mibDown s.persist.ceiling.c,
   s.persist.ceiling.updateSeq]

/-- The notice that reports the loss of a part. -/
def partNotice (p : Nat) : Nat :=
  if p < 2000 then 0x0302 else if p < 3000 then 0x0301 else if p < 4000 then 0x0401 else if p < 5000 then 0x0106
  else if p < 6000 then 0x0705 else if p = 6000 then 0x0602 else 0x0601

/-- Part notices at the first evaluation after a start-up, for losses that no notice is pending for (R56)
(in part DEDUCED, notes/assumptions/97). -/
def firstPartNotices (s : State) (parts : List Nat) : State :=
  parts.foldl (fun s p => if pendingCode s (partNotice p) then s else raise s (partNotice p) []) s

/-- Sub-state notices of a transition (Table 02-7). -/
def transitionNotices (s : State) (old new : Psub) (returned : Bool) : State :=
  let s := if returned then raise s 0x0105 [] else s
  let s := if old = .barePole ∧ new = .covered then raise s 0x0603 [] else s
  if old = new then s
  else if new = .uncovered then raise s 0x0101 (psubPayload s old new)
  else raise s 0x0102 (psubPayload s old new)

/-- Evaluates PSUB and sends what the transition asks for (R56). Not in the minimal profile, CROCUS or STANDBY
(in part DEDUCED, notes/assumptions/97). -/
def evalPsub (s : State) : State :=
  match s.startup.settings with
  | none => s
  | some c =>
    if s.power.minimal || inCrocus s || inStandby s || s.persist.ceiling.limit = 15 then s
    else
      let parts := lostParts s c
      let new := psubOf s c
      let gone := s.persist.lostSeen.any fun p => !parts.contains p
      let n := parts.length + (if packFailed s then 1 else 0)
      let t := { s with persist := { s.persist with psub := some new, nLost := n, lostSeen := parts } }
      match s.persist.psub with
      | some old => transitionNotices t old new gone
      | none =>
        if new = .covered then t
        else transitionNotices (firstPartNotices t (parts ++ if packFailed s then [7000] else [])) .covered new false

/-- PSUB follows D across c_e: evaluated when D passes it either way (R54, R56). -/
def followD (s : State) : State := if overEnergy s == (s.persist.psub == some .uncovered) then s else evalPsub s

/-! ## Publishing a computation -/

/-- CEILING_LIMITED when LIMIT becomes PACK_ENERGY, BARE_POLE or UNRESTORED (R57). -/
def limitNotice (s : State) : State :=
  let k := s.persist.ceiling
  if (k.limit = 1 ∨ k.limit = 2 ∨ k.limit = 3) ∧ k.limit ≠ s.persist.lastLimit then
    raise { s with persist := { s.persist with lastLimit := k.limit } } 0x0103 []
  else { s with persist := { s.persist with lastLimit := k.limit } }

/-- Publishes a ceiling with its causes and its plan, and sets the holding rate (R47, R48, R507). -/
def publish (s : State) (c : Settings) (k : Ceiling) : State :=
  limitNotice { s with persist := { s.persist with
    ceiling := k, plan := computePlan s c k, holdRate := holdingRate s k, cls := flushClass s c k } }

/-- The scheduled computation: every change takes effect (R44). -/
def updateCeiling (s : State) : State :=
  match s.startup.settings with
  | none => s
  | some c =>
    let s := bankQualify s
    publish s c (computeCeiling s c)

/-- The computation outside the schedule (R46): the smaller of the two ceilings is applied, and the causes and the plan are those of this
computation (R21, R47). -/
def ceilingEvent (s : State) : State :=
  match s.startup.settings with
  | none => s
  | some c =>
    if s.power.minimal || !coreUp s || s.persist.ceiling.limit = 15 then s
    else
      let s := bankQualify s
      let k := computeCeiling s c
      let old := s.persist.ceiling.c
      evalPsub (publish s c (if k.c ≤ old then k else { k with c := old, isOver := decide (old < (dirtyBytes s : Rat)) }))

end Sys2Proof.Machine
end

