-- ==== Sys2Proof/Machine/CodeOps.lean ====
section
/-! DEFINITION. The words of the code flash and the structures in them: swap records, level records, the owner lock, the
repair list, checkpoints and trip records (R379–R394, Tables 16-1, 16-4 and 16-5). Addresses are word addresses. -/

namespace Sys2Proof.Machine

open Sys2Proof

/-! ## Words and sectors -/

/-- The first word of a sector. -/
def sectorBase (sec : Nat) : Nat := 512 * sec

/-- A programmed word that reads without a check-bit error. -/
def cfGood (s : State) (a : Nat) : Option DWord :=
  match kvGet s.cf.words a with
  | some w => if w.bad then none else some w.data
  | none => none

/-- The word and its check bits are blank. -/
def cfBlank (s : State) (a : Nat) : Bool := (kvGet s.cf.words a).isNone

/-- Programs a blank word and reads it back; a word that is not blank stays as it is (R382, R383)
(in part DEDUCED, notes/assumptions/39). -/
def cfPut (s : State) (a : Nat) (d : DWord) : State :=
  if cfBlank s a then { s with cf := { s.cf with words := kvSet s.cf.words a { data := d, bad := false } } } else s

/-- Erases a sector (in part DEDUCED, notes/assumptions/39). -/
def cfEraseSector (s : State) (sec : Nat) : State :=
  { s with cf := { s.cf with words := s.cf.words.filter fun w => w.1 / 512 != sec } }

/-- Slots of the last-words ring that lie in a sector (Table 16-1): the slots go through the three sectors in turn, 32 in each
(in part DESIGN CHOICE, notes/assumptions/95). -/
def ringWithout (rc : Recorder) (sec : Nat) : List Record :=
  ((rc.ring.zipIdx).filter fun x => 138 + (rc.ringSlots - rc.ring.length + x.2) / 32 % 3 != sec).map (·.1)

/-- What an erased or broken sector takes with it: a boot block, a firmware image, what was staged in its half, slots of the
last-words ring (Table 16-1) (in part DEDUCED, notes/assumptions/39; DESIGN CHOICE, notes/assumptions/92). -/
def sectorGone (s : State) (sec : Nat) : State :=
  let inA := decide (256 ≤ sec ∧ sec < 4096)
  let inB := decide (4096 ≤ sec ∧ sec < 7936)
  let staged := if s.fw.running then inA else inB
  { s with
    fw := { s.fw with
      boot0 := s.fw.boot0 && !decide (sec < 64), boot1 := s.fw.boot1 && !decide (64 ≤ sec ∧ sec < 128),
      imageA := if inA then none else s.fw.imageA, imageB := if inB then none else s.fw.imageB,
      staging := if staged then none else s.fw.staging,
      phase := if staged && (s.fw.phase == .staging || s.fw.phase == .staged) then .idle else s.fw.phase },
    recorder := if 138 ≤ sec ∧ sec ≤ 140 then { s.recorder with ring := ringWithout s.recorder sec } else s.recorder }

/-- Erases the sectors `lo ≤ sec < hi`. -/
def cfEraseRange (s : State) (lo hi : Nat) : State :=
  { s with cf := { s.cf with words := s.cf.words.filter fun w => decide (w.1 / 512 < lo ∨ hi ≤ w.1 / 512) } }

/-- Sectors of Table 16-1. -/
def secBootSel : Nat := 128
/-- The firmware selector. -/
def secFwSel : Nat := 129
/-- Owner lock sector A; B follows. -/
def secLock : Nat := 130
/-- Trip records. -/
def secTrip : Nat := 132
/-- The repair list. -/
def secRepair : Nat := 133
/-- The first of the four checkpoint sectors. -/
def secCheckpoint : Nat := 134
/-- The protection record sector. -/
def secProtect : Nat := 141
/-- The factory sector. -/
def secFactory : Nat := 142

/-- A sector that a lowering keeps (Table 16-1). The last-words sectors are kept apart, in the recorder's ring. -/
def keptSector (sec : Nat) : Bool := (132 ≤ sec && sec ≤ 140) || sec == secFactory

/-! ## Swap records (Table 16-4) -/

/-- Word 0 of a swap record. -/
def swapWord0 (magic seq low : Nat) : DWord :=
  BitVec.ofNat 64 (magic * 2 ^ 48 + seq % 65536 * 2 ^ 32 + low)

/-- Word 1 of a swap record, from its word 0. -/
def swapWord1 (w0 : DWord) : DWord :=
  BitVec.ofNat 64 ((crc32 (leBytes 8 w0.toNat)).toNat * 2 ^ 32
    + (65535 - bitsOf w0.toNat 32 16) * 65536 + 0xA55A)

/-- The valid records among the programmed words of a range, with SWAP_SEQ and bits [31:0] of word 0. -/
def swapRecords (s : State) (magic base slots : Nat) : List (Nat × Nat) :=
  s.cf.words.filterMap fun w =>
    if w.1 < base ∨ base + 2 * slots ≤ w.1 ∨ (w.1 - base) % 2 = 1 ∨ w.2.bad then none
    else if bitsOf w.2.data.toNat 48 16 ≠ magic then none
    else if cfGood s (w.1 + 1) = some (swapWord1 w.2.data) then
      some (bitsOf w.2.data.toNat 32 16, bitsOf w.2.data.toNat 0 32)
    else none

/-- The newest of some records. -/
def newestOf (rs : List (Nat × Nat)) : Option (Nat × Nat) :=
  rs.foldl (fun best r => match best with
    | none => some r
    | some b => if b.1 < r.1 then some r else some b) none

/-- The newest valid record of a range (R390). -/
def newestSwap (s : State) (magic base slots : Nat) : Option (Nat × Nat) := newestOf (swapRecords s magic base slots)

/-- Blank slots of a range. -/
def blankSlots (s : State) (base slots : Nat) : Nat :=
  slots - ((List.range slots).filter fun i =>
    s.cf.words.any fun w => w.1 == base + 2 * i || w.1 == base + 2 * i + 1).length

/-- The first blank slot of a range. -/
def firstBlankSlot (s : State) (base slots : Nat) : Option Nat :=
  (List.range slots).find? fun i => cfBlank s (base + 2 * i) && cfBlank s (base + 2 * i + 1)

/-- Writes a record into the first blank slot, one above the record it supersedes (R390). -/
def writeSwap (s : State) (magic base slots low : Nat) : State :=
  match firstBlankSlot s base slots with
  | none => s
  | some i =>
    let seq := match newestSwap s magic base slots with
      | some r => r.1 + 1
      | none => 1
    let w0 := swapWord0 magic seq low
    cfPut (cfPut s (base + 2 * i) w0) (base + 2 * i + 1) (swapWord1 w0)

/-! ## The selectors and the owner lock -/

/-- MAGIC of boot, firmware, lock and level records. -/
def magicBoot : Nat := 0x5153
/-- Firmware selector. -/
def magicFw : Nat := 0x5146
/-- Owner lock. -/
def magicLock : Nat := 0x514C
/-- Level records. -/
def magicLevel : Nat := 0x5150

/-- Bits [31:0] of word 0 with a one-bit content. -/
def lowBit (b : Bool) : Nat := 0xFFFFFFFE + bit b

/-- The block that the newest boot swap record selects (R389), with its SWAP_SEQ. -/
def bootRecord (s : State) : Option (Nat × Bool) :=
  (newestSwap s magicBoot (sectorBase secBootSel) 256).map fun r => (r.1, r.2 % 2 == 1)

/-- The half that the firmware selector names (false A). -/
def fwRecord (s : State) : Option (Nat × Bool) :=
  (newestSwap s magicFw (sectorBase secFwSel) 256).map fun r => (r.1, r.2 % 2 == 1)

/-- The owner lock: the newest valid record of either sector; clear with none (R392). -/
def ownerLock (s : State) : Bool :=
  match newestOf (swapRecords s magicLock (sectorBase secLock) 256
      ++ swapRecords s magicLock (sectorBase (secLock + 1)) 256) with
  | some r => r.2 % 2 == 1
  | none => false

/-- Writes the owner lock (R392): into the sector in use, or, when that is full, the other one is erased and takes the
state as its first record, one above the newest, and the full sector is erased. -/
def setOwnerLock (s : State) (b : Bool) : State :=
  let baseA := sectorBase secLock
  let baseB := sectorBase (secLock + 1)
  let a := newestSwap s magicLock baseA 256
  let bb := newestSwap s magicLock baseB 256
  let inB := match a, bb with
    | some x, some y => decide (x.1 < y.1)
    | none, some _ => true
    | _, _ => false
  let base := if inB then baseB else baseA
  if (firstBlankSlot s base 256).isSome then writeSwap s magicLock base 256 (lowBit b)
  else
    let other := if inB then secLock else secLock + 1
    let seq := match newestSwap s magicLock base 256 with
      | some r => r.1 + 1
      | none => 1
    let w0 := swapWord0 magicLock seq (lowBit b)
    let t := cfEraseSector s other
    let t := cfPut (cfPut t (sectorBase other) w0) (sectorBase other + 1) (swapWord1 w0)
    cfEraseSector t (if inB then secLock + 1 else secLock)

/-! ## Protection record sector (Tables 18-2 and 18-3) -/

/-- The level records' first word, and their slots. -/
def levelBase : Nat := sectorBase secProtect + 64

/-- Codes of the levels. -/
def levelCode : Level → Nat
  | .l0 => 0
  | .l1 => 1
  | .l2 => 2

/-- The level of a code. -/
def levelOfCode (n : Nat) : Level := if n % 4 = 0 then .l0 else if n % 4 = 1 then .l1 else .l2

/-- The newest valid level record: whether it is a LEVEL record, and its level (R421). -/
def levelRecord (s : State) : Option (Bool × Level) :=
  (newestSwap s magicLevel levelBase 224).map fun r => (r.2 / 8 % 2 == 1, levelOfCode r.2)

/-- Programs a LEVEL or a LOWER record. -/
def writeLevel (s : State) (isLevel : Bool) (l : Level) : State :=
  writeSwap s magicLevel levelBase 224 (0xFFFFFFF0 + (if isLevel then 8 else 0) + 4 + levelCode l)

/-- The first word of a key slot. -/
def keyBase (i : Nat) : Nat := sectorBase secProtect + 12 * i

/-- The words of a key slot hold a committed key: CRC-32 over words 0–9 and COMMIT in word 10 (Table 18-3). -/
def keySlotGood (s : State) (i : Nat) : Bool :=
  match cfGood s (keyBase i + 10), (List.range 10).mapM fun j => cfGood s (keyBase i + j) with
  | some w, some ws =>
    bitsOf w.toNat 0 16 == 0xA55A
      && bitsOf w.toNat 32 32 == (crc32 (ws.flatMap fun x => leBytes 8 x.toNat)).toNat
  | _, _ => false

/-- The live key slot: the highest whose COMMIT checks and whose KILL word is blank (R428). -/
def liveKeySlot (s : State) : Option Nat :=
  [3, 2, 1, 0].find? fun i => keySlotGood s i && cfBlank s (keyBase i + 11)

/-- KEY_ID of a key slot. -/
def slotKeyId (s : State) (i : Nat) : Word :=
  match cfGood s (keyBase i + 9) with
  | some w => BitVec.ofNat 32 (bitsOf w.toNat 32 32)
  | none => 0

/-- A blank key slot. -/
def blankKeySlot (s : State) : Option Nat :=
  [0, 1, 2, 3].find? fun i => (List.range 12).all fun j => cfBlank s (keyBase i + j)

/-- Programs a wrapped key into a slot (R428): nine words of wrapped key, KEY_ID, CRC and COMMIT. -/
def writeKeySlot (s : State) (i : Nat) (wrapped : List DWord) (keyId : Word) : State :=
  let ws := (List.range 9).map (fun j => wrapped.getD j 0) ++ [BitVec.ofNat 64 (keyId.toNat * 2 ^ 32 + 0xFFFFFFFF)]
  let crc := crc32 (ws.flatMap fun x => leBytes 8 x.toNat)
  let all := ws ++ [BitVec.ofNat 64 (crc.toNat * 2 ^ 32 + 0xFFFF0000 + 0xA55A)]
  ((List.range 11).foldl (fun t j => cfPut t (keyBase i + j) (all.getD j 0)) s)

/-- Bytes under the device key's pattern: the same step wraps and unwraps (in part DESIGN CHOICE, notes/assumptions/83). -/
def underDeviceKey (bs : List Byte) : List Byte := bs.zipIdx.map fun x => x.1 ^^^ Config.wrapPattern x.2

/-- The wrapped form of a media key: its 64 bytes under the device key and eight check bytes, as nine words (R163, Table 18-3)
(in part DESIGN CHOICE, notes/assumptions/83). -/
def wrapKey (key : List Byte) : List DWord :=
  let bs := underDeviceKey key ++ (List.range 8).map (Config.wrapCheck key)
  (List.range 9).map fun j => BitVec.ofNat 64 (field bs (8 * j) 8)

/-- The media key that a slot's words hold. -/
def unwrapKey (ws : List DWord) : List Byte := underDeviceKey ((ws.take 8).flatMap fun w => leBytes 8 w.toNat)

/-- The media key of a slot. -/
def slotKey (s : State) (i : Nat) : List Byte := unwrapKey ((List.range 9).map fun j => (cfGood s (keyBase i + j)).getD 0)

/-- Programs the KILL word of the live slot, if there is one. -/
def killKey (s : State) : State :=
  match liveKeySlot s with
  | some i => cfPut s (keyBase i + 11) 0
  | none => s

/-! ## Repair list (Table 16-5) -/

/-- CHECK: XOR of bytes 7 to 1. -/
def repairCheck (v : Nat) : Nat := ((leBytes 8 v).drop 1).foldl (fun a b => a ^^^ b.toNat) 0

/-- The word of a repair list entry. -/
def repairWord : Repair → DWord
  | .row ch r dev =>
    let v := 1 * 2 ^ 60 + ch.val * 2 ^ 55 + r.sub.val * 2 ^ 54 + r.prank.val * 2 ^ 53 + r.lrank.val * 2 ^ 50
      + r.bg.val * 2 ^ 47 + r.bank.val * 2 ^ 45 + r.row.toNat * 2 ^ 27 + dev.val * 2 ^ 23
    BitVec.ofNat 64 (v + repairCheck v)
  | .engine e =>
    let v := 2 * 2 ^ 60 + e.val * 2 ^ 54
    BitVec.ofNat 64 (v + repairCheck v)

/-- The entries of the list that check (R394), as numbers. -/
def repairEntries (s : State) : List Nat :=
  (s.cf.words.filter fun w => w.1 / 512 == secRepair && !w.2.bad
    && bitsOf w.2.data.toNat 0 8 == repairCheck (w.2.data.toNat / 256 * 256)).map fun w => w.2.data.toNat

/-- Row entries of a channel that wait to be programmed (R385). -/
def heldRows (s : State) (ch : DramCh) : Nat :=
  (s.cf.held.filter fun r => match r with
    | .row c _ _ => c == ch
    | .engine _ => false).length

/-- Row entries, of all channels. -/
def rowEntries (s : State) : Nat := ((repairEntries s).filter fun v => v / 2 ^ 60 == 1).length

/-- Row entries of a channel, those that wait to be programmed among them. -/
def rowEntriesOf (s : State) (ch : DramCh) : Nat :=
  ((repairEntries s).filter fun v => v / 2 ^ 60 == 1 && bitsOf v 55 5 == ch.val).length + heldRows s ch

/-- The engine is in the retired-engine mask (R350). -/
def engineRetired (s : State) (e : EngineId) : Bool :=
  (repairEntries s).any fun v => v / 2 ^ 60 == 2 && bitsOf v 54 6 == e.val

/-- The first blank word of a sector. -/
def firstBlankWord (s : State) (sec : Nat) : Option Nat :=
  ((List.range 512).map fun i => sectorBase sec + i).find? fun a => cfBlank s a

/-- Programs a repair list entry into the first blank word (R353, R394). -/
def programRepair (s : State) (r : Repair) : State :=
  match firstBlankWord s secRepair with
  | some a => cfPut s a (repairWord r)
  | none => s

/-- The code flash takes no program: an operation runs, or the brown-out detector blocks new pulses (R384, R388). -/
def cfBusy (s : State) : Bool := s.cf.op == .program || s.cf.op == .erase || s.cf.blocked

/-- A repair list entry is programmed, behind the operation in progress if there is one (R353, R385). -/
def addRepair (s : State) (r : Repair) : State :=
  if cfBusy s then { s with cf := { s.cf with held := s.cf.held ++ [r] } } else programRepair s r

/-- The entries that waited for an operation to end are programmed in request order (R385). -/
def programHeld (s : State) : State :=
  if cfBusy s then s else s.cf.held.foldl programRepair { s with cf := { s.cf with held := [] } }

/-! ## Checkpoints (R363, R364)

Four words a slot. The spec names each word's contents and not their places in it: word 0 holds the operating time in bits
[47:0] and TIME_EST in bit 63, word 1 UNAVAIL_MS and EXCL_MS, word 2 the power-cycle count and QV_AVAIL_YEAR, word 3 the
CRC-32 (DESIGN CHOICE, notes/assumptions/40). -/

/-- QV_AVAIL_YEAR (Table 14-10). -/
def availYear (s : State) : Nat :=
  min s.faults.year 255 * 2 ^ 24 + min s.faults.availEvents 255 * 65536
    + (s.clock.opTime - s.faults.yearStart) / 86400000 % 365

/-- The first three words of a checkpoint taken now (in part DESIGN CHOICE, notes/assumptions/40). -/
def checkpointWords (s : State) : List Nat :=
  [s.clock.opTime % 2 ^ 48 + bit s.clock.timeEst * 2 ^ 63, s.faults.availMs % 2 ^ 32 + s.faults.exclMs % 2 ^ 32 * 2 ^ 32,
   s.clock.pcycle.toNat + availYear s * 2 ^ 32]

/-- A checkpoint slot's three words, when its CRC checks (in part DESIGN CHOICE, notes/assumptions/40). -/
def checkpointAt (s : State) (a : Nat) : Option (Nat × Nat × Nat) :=
  match cfGood s a, cfGood s (a + 1), cfGood s (a + 2), cfGood s (a + 3) with
  | some w0, some w1, some w2, some w3 =>
    if (crc32 (leBytes 8 w0.toNat ++ leBytes 8 w1.toNat ++ leBytes 8 w2.toNat)).toNat = w3.toNat then
      some (w0.toNat, w1.toNat, w2.toNat)
    else none
  | _, _, _, _ => none

/-- The checkpoints that check, with their addresses. -/
def checkpoints (s : State) : List (Nat × (Nat × Nat × Nat)) :=
  s.cf.words.filterMap fun w =>
    if secCheckpoint ≤ w.1 / 512 ∧ w.1 / 512 < secCheckpoint + 4 ∧ w.1 % 4 = 0 then
      (checkpointAt s w.1).map fun c => (w.1, c)
    else none

/-- The newest checkpoint: the one with the highest power-cycle count, then operating time. -/
def newestCheckpoint (s : State) : Option (Nat × (Nat × Nat × Nat)) :=
  (checkpoints s).foldl (fun best c => match best with
    | none => some c
    | some b =>
      if (b.2.2.2 % 2 ^ 32, b.2.1 % 2 ^ 48) = (c.2.2.2 % 2 ^ 32, c.2.1 % 2 ^ 48) then some b
      else if b.2.2.2 % 2 ^ 32 < c.2.2.2 % 2 ^ 32
          ∨ (b.2.2.2 % 2 ^ 32 = c.2.2.2 % 2 ^ 32 ∧ b.2.1 % 2 ^ 48 < c.2.1 % 2 ^ 48) then some c
      else some b) none

/-- The slot after a checkpoint's, in rotation over the four sectors. -/
def nextCheckpointSlot (a : Nat) : Nat :=
  let base := sectorBase secCheckpoint
  base + (a - base + 4) % 2048

/-- The first slot at or after `a` (in rotation) that is wholly blank, or that opens a fresh sector. -/
def checkpointSlot : Nat → State → Nat → Nat
  | 0, _, a => a
  | fuel + 1, s, a =>
    if a % 512 = 0 ∨ ((List.range 4).all fun i => cfBlank s (a + i)) then a
    else checkpointSlot fuel s (nextCheckpointSlot a)

/-- Writes a checkpoint (R364): a sector is erased before its first slot is written, and the CRC word is written last
(in part DESIGN CHOICE, notes/assumptions/40). -/
def writeCheckpoint (s : State) : State :=
  let a := match newestCheckpoint s with
    | some c => checkpointSlot 512 s (nextCheckpointSlot c.1)
    | none => sectorBase secCheckpoint
  let s := if a % 512 = 0 then cfEraseSector s (a / 512) else s
  let ws := checkpointWords s
  let crc := (crc32 (ws.flatMap fun w => leBytes 8 w)).toNat
  (List.range 4).foldl (fun t i => cfPut t (a + i) (BitVec.ofNat 64 ((ws ++ [crc]).getD i 0))) s

/-! ## Trip records (Table 10-6, R393) -/

/-- The bytes of a trip record before its CRC. -/
def tripBytes (r : TripRecord) : List Byte :=
  leBytes 4 0x51565452 ++ leBytes 4 r.powerCycle.toNat ++ leBytes 6 r.opTime ++ leBytes 1 r.kind ++ leBytes 1 r.site
    ++ leBytes 2 (signedBits 16 r.temp) ++ leBytes 1 r.channel ++ leBytes 1 r.saveBits ++ leBytes 8 r.gen.toNat

/-- The first trip record slot of four blank words (R393). -/
def firstTripSlot (s : State) : Option Nat :=
  ((List.range 128).map fun i => sectorBase secTrip + 4 * i).find? fun a =>
    (List.range 4).all fun j => cfBlank s (a + j)

/-- Writes a trip record into the first blank slot, the word with the CRC last (R393). -/
def writeTrip (s : State) (r : TripRecord) : State :=
  let bs := tripBytes r
  let all := bs ++ leBytes 4 (crc32 bs).toNat
  match firstTripSlot s with
  | some a => (List.range 4).foldl (fun t i => cfPut t (a + i) (BitVec.ofNat 64 (field all (8 * i) 8))) s
  | none => s

end Sys2Proof.Machine
end

