-- ==== Sys2Proof/Machine/FaultOps.lean ====
section
/-! DEFINITION. Targeted tests and their queues, transients and thresholds (R345–R353). -/

namespace Sys2Proof.Machine

open Sys2Proof

/-- 24 h in ms. -/
def dayMs : Nat := 86400000

/-- The DRAM channel a test uses, if any. -/
def partDram : Part → Option DramCh
  | .line ch _ _ => some ch
  | .row ch _ => some ch
  | .dramChannel ch => some ch
  | .dramDevice ch _ _ => some ch
  | _ => none

/-- The flash channel and die a test uses, if any. -/
def partFlash : Part → Option (FlashCh × Fin 16)
  | .blockSet ch die _ => some (ch, die)
  | .die ch row => some (ch, row)
  | _ => none

/-- The part's channel takes no tests (R351). -/
def testless (s : State) (p : Part) : Bool :=
  match partDram p, partFlash p with
  | some ch, _ => s.dram.ch[ch].run == .retraining || s.dram.ch[ch].run == .outOfService
  | none, some (ch, _) => s.flash.ch[ch].run == .outOfService || s.flash.ch[ch].run == .engineSwap
  | none, none => false

/-- Tests of the part's channel that are queued or running. -/
def sameChannel (p : Part) (ts : List Test) : List Test :=
  match partDram p, partFlash p with
  | some ch, _ => ts.filter fun t => partDram t.part == some ch
  | none, some (ch, _) => ts.filter fun t => (partFlash t.part).any fun q => q.1 == ch
  | none, none => []

/-- The queue of the part's channel is full: 32 DRAM tests, 64 block or die tests (R351). -/
def queueFull (p : Part) (ts : List Test) : Bool :=
  match partDram p, partFlash p with
  | some _, _ => decide ((sameChannel p ts).length ≥ 32)
  | none, some _ => decide ((sameChannel p ts).length ≥ 64)
  | none, none => false

/-- A queued test of the part may run beside the tests that run: one DRAM test per channel; block and die tests one per die and
4 per channel, no block test while an erase may not start (R156, R351, R355). -/
def mayRun (s : State) (p : Part) (ts : List Test) : Bool :=
  let on := (sameChannel p ts).filter fun t => t.running
  match partDram p, partFlash p with
  | some _, _ => on.isEmpty
  | none, some (_, die) =>
    let dieTest := match p with
      | .die _ _ => true
      | _ => false
    !saving s && (dieTest || !someAbsent s) && decide (on.length < 4)
      && !(on.any fun t => (partFlash t.part).any fun q => q.2 == die)
  | none, none => true

/-- The state with other tests. -/
def setTests (s : State) (ts : List Test) : State := { s with faults := { s.faults with tests := ts } }

/-- Starts what may run among the queued tests, oldest first. -/
def startTests (s : State) : State :=
  setTests s (s.faults.tests.foldl (fun ts t =>
    if !t.running && mayRun s t.part ts then
      ts.map fun x => if x.part = t.part then { x with running := true } else x
    else ts) s.faults.tests)

/-- Counts an error as transient against its part (R352). -/
def countTransient (s : State) (p : Part) : State :=
  { s with faults := { s.faults with transients := s.faults.transients ++ [⟨p, s.clock.opTime⟩] } }

/-- Transients of parts that `q` accepts within the last `d` ms. -/
def transients (s : State) (d : Nat) (q : Part → Bool) : Nat :=
  (s.faults.transients.filter fun t => q t.part && decide (s.clock.opTime < t.at_ + d)).length

/-- A block set whose test is queued takes no program (R348). -/
def withholdSet (s : State) (ch : FlashCh) (die : Fin 16) (idx : Nat) : State :=
  let mine := fun (b : BlockSet) => b.ch == ch && b.die == die && b.index == idx
  let old := s.flash.blocks.map fun b => if mine b then { b with withheld := true } else b
  let new : BlockSet := { ch := ch, die := die, index := idx, run := .erased, erases := 0, saved := 0, learned := 0, retired := false,
                          refresh := false, withheld := true }
  { s with flash := { s.flash with blocks := if s.flash.blocks.any mine then old else old ++ [new] } }

/-- The band of a block set under test is to be moved out (R348). -/
def moveTested (s : State) (ch : FlashCh) (n : Nat) : State :=
  if saving s || (s.flash.moves.any fun m => m.1 == n) || !(s.flash.bands.any fun b => b.num == n && b.members.contains ch) then s
  else { s with flash := { s.flash with
    moves := s.flash.moves ++ [(n, .test)],
    bands := s.flash.bands.map fun b => if b.num = n then { b with closed := true, moving := true } else b } }

/-- What a test withholds from the moment it is queued. -/
def prepareTest (s : State) : Part → State
  | .blockSet ch die idx =>
    match s.startup.settings with
    | some c => moveTested (withholdSet s ch die idx) ch (die.val * c.blockSets + idx - 64)
    | none => s
  | _ => s

/-- An error asks for the targeted test of a part (R345): it joins a test of the part that is queued or running; a full queue
counts it as transient and logs it; a channel without tests takes none (R351). -/
def queueTest (s : State) (p : Part) (cmd : Option Word) : State :=
  if (s.faults.tests.any fun t => t.part == p) then
    setTests s (s.faults.tests.map fun t =>
      if t.part = p then { t with occurrences := t.occurrences + 1, commanded := t.commanded.orElse fun _ => cmd } else t)
  else if testless s p then s
  else if queueFull p s.faults.tests then logEvent (countTransient s p) 0x0A81 0 []
  else startTests (setTests (prepareTest s p) (s.faults.tests ++ [{ part := p, running := false, occurrences := 1, commanded := cmd }]))

/-- The test of a part, if one runs. -/
def runningTest (s : State) (p : Part) : Option Test := s.faults.tests.find? fun t => t.part == p && t.running

/-- TARGET and INDEX of Table 14-5 for a part. -/
def targetOf : Part → Nat × Nat
  | .engine e => (1, e.val)
  | .link l => (2, l.val)
  | .site i => (3, i.val)
  | .die ch row => (4, 16 * ch.val + row.val)
  | .dramChannel ch => (5, ch.val)
  | _ => (0, 0)

/-- A test ends: it leaves its queue, its result is logged (0x0A81), a commanded one is reported (R356: a failure classes the
part permanent, code 2; a pass is transient, code 0), and the next test of the channel starts. -/
def endTest (s : State) (t : Test) (pass : Bool) : State :=
  let s := setTests s (s.faults.tests.filter fun x => x.part != t.part)
  let s := logEvent s 0x0A81 0 []
  let s := match t.commanded with
    | some id => raise s 0x0A01 [id.toNat, (targetOf t.part).1, (targetOf t.part).2, bit pass, if pass then 0 else 2]
    | none => s
  startTests s

/-- The bank row a part's transients count against (Table 14-2). -/
def onRow (ch : DramCh) (row : RowId) (lines : Bool) : Part → Bool
  | .line c r _ => lines && c == ch && r == row
  | .row c r => !lines && c == ch && r == row
  | _ => false

/-- A DRAM row has become intermittent: 3 passed line tests or 2 passed row tests within 24 h. -/
def rowIntermittent (s : State) (ch : DramCh) (row : RowId) : Bool :=
  decide (transients s dayMs (onRow ch row true) ≥ 3) || decide (transients s dayMs (onRow ch row false) ≥ 2)

/-- Device repairs of the last 24 h on a device: (bank group, bank) of each. -/
def recentRepairs (s : State) (ch : DramCh) (rank : Fin 4) (dev : Fin 10) : List Nat :=
  (s.faults.repairLog.filter fun r =>
    r.1 == ch && r.2.1 == rank && r.2.2.1 == dev && decide (s.clock.opTime < r.2.2.2.2 + dayMs)).map fun r => r.2.2.2.1

/-- A fourth repair on the device within 24 h, across two or more banks (Table 14-2). -/
def fourthRepair (s : State) (ch : DramCh) (row : RowId) (dev : Fin 10) : Bool :=
  let rs := recentRepairs s ch row.rank dev
  let b := 4 * row.bg.val + row.bank.val
  decide (rs.length ≥ 3) && rs.any fun x => x != b

/-- A test leaves its queue. -/
def removeTest (s : State) (p : Part) : State := setTests s (s.faults.tests.filter fun x => x.part != p)

/-- A running test waits again. -/
def pauseTest (s : State) (p : Part) : State :=
  setTests s (s.faults.tests.map fun x => if x.part = p then { x with running := false } else x)

/-- A block set becomes ERASE_INCOMPLETE (R157). -/
def eraseBroken (s : State) (ch : FlashCh) (die : Fin 16) (idx : Nat) : State :=
  { s with flash := { s.flash with blocks := s.flash.blocks.map fun b =>
      if b.ch = ch ∧ b.die = die ∧ b.index = idx then { b with run := .eraseIncomplete } else b } }

/-- What a save does to a running test (Table 14-4). -/
def abandonTest (s : State) (t : Test) : State :=
  if !t.running then s else
  match t.part with
  | .line ch r c => countTransient (removeTest s t.part) (.line ch r c)
  | .row ch r => countTransient (removeTest s t.part) (.row ch r)
  | .dramDevice _ _ _ | .dramChannel _ | .link _ => removeTest s t.part
  | .blockSet ch die idx => eraseBroken (pauseTest s t.part) ch die idx
  | .die _ _ => pauseTest s t.part
  | .site _ | .engine _ => s

/-- Ends the tests that a save abandons (Table 14-4). -/
def abandonTests (s : State) : State := s.faults.tests.foldl abandonTest s

end Sys2Proof.Machine
end

