-- ==== Sys2Proof/Machine/SaveOps.lean ====
section
/-! DEFINITION. Taking rails down, and the power-fail save: its triggers, the switch-over to a store, the charge marks and
the end of the flush (R182–R201, R290, R307, R510). -/

namespace Sys2Proof.Machine

open Sys2Proof

/-! ## Rails down (R290) -/

/-- Enabled rails that the supervisor switches, highest number first. -/
def enabledRails (s : State) : List Rail := ((fins 12).filter fun r => r.val ≠ 0 && s.rails.rail[r].en).reverse

/-- A shutdown of every enabled rail begins (R290); `k` says what follows it. Each `RAIL_DOWN_STEP` switches one off. -/
def beginShutdown (s : State) (k : DownThen) : State :=
  { s with rails := { s.rails with downTodo := enabledRails s, downThen := some k, seqTodo := [] } }

/-- A rail that the supervisor has switched off itself and does not watch (R290). -/
def switchRailOff (s : State) (r : Rail) : State :=
  { s with rails := { s.rails with rail := vecMod s.rails.rail r fun x =>
      { x with run := .switchedOff, en := false, pg := false, faultAt := none } } }

/-! ## Hold-up (R183, R192) -/

/-- HOLD_EN asserted and CHG_EN low; a running capacitance test ends (R183, R239). -/
def assertHold (s : State) : State :=
  { s with charger := { s.charger with holdEn := true, run := .forcedLow, taperSince := none },
           bank := { s.bank with cbTest := false, testing := false } }

/-- HOLD_EN released. -/
def releaseHold (s : State) : State := { s with charger := { s.charger with holdEn := false, run := .held } }

/-- The store a plan names (Table 07-12). -/
def planStore (p : SavePlan) : Store := if p.store = 1 then .pack else if p.store = 2 then .bank else .none

/-- Phase 3: HOLD_EN asserted, the store of the plan selected (R192). The bank of a pack-path save stays unloaded. -/
def switchOver (s : State) : State :=
  let s := assertHold s
  { s with save := { s.save with onStores := true, store := planStore s.save.plan, regulated := false } }

/-- Marks for the phases not yet ended, from the deliverable charge of another store, added to the count reached (R188). -/
def rebase (s : State) (st : Store) : SavePlan :=
  match s.startup.settings with
  | none => s.save.plan
  | some c =>
    let n : Rat := (s.save.charge : Rat)
    let p := match st, c.bank with
      | .bank, some b => planMarks s c s.save.plan.updateSeq 2 b.vPlan (bankEnergy s b)
      | _, _ => planMarks s c s.save.plan.updateSeq 1 c.pack.vPlan (packEnergy s c * (1 - uncertainty s c.pack))
    { p with qEnd := n + p.qEnd, mRet := n + p.mRet, mSeal := n + p.mSeal, mMan := n + p.mMan }

/-- The selected store fails, or the bus falls before regulation: the other store carries the save when it was qualified at the
trigger (R192). -/
def changeStore (s : State) : State :=
  let other : Store := if s.save.store = .pack then .bank else .pack
  let ok := if s.save.store = .pack then s.save.bankOk else s.save.packOk
  if ok && (s.save.store = .pack || s.save.store = .bank) then
    { s with save := { s.save with store := other, switched := true, regulated := false, plan := rebase s other } }
  else s

/-! ## Start of a save (R182, R190) -/

/-- An interval of Table 14-6 begins, unless one is in progress; an interval outside the conditions of R59 takes over a counted
one (in part DEDUCED, notes/assumptions/51). -/
def beginInterval (s : State) (k : AvailKind) : State :=
  match s.faults.interval, k with
  | none, _ => { s with faults := { s.faults with interval := some (k, s.clock.now), holdMs := 0, holdSince := none } }
  | some (_, t), .excluded => { s with faults := { s.faults with interval := some (.excluded, t) } }
  | some _, _ => s

/-- A save that follows a second failure or ends in a trip latch: its unavailability lies outside R59 (Table 14-6)
(in part DEDUCED, notes/assumptions/51). -/
def outsideR59 : Trigger → Bool
  | .dieTrip | .secondChannel | .flashCapacity | .noDonor => true
  | _ => false

/-- What a trigger asks for after the seal (Table 07-1). -/
def afterOf : Trigger → AfterSeal
  | .dieTrip => .powerOffTrip
  | .pfN | .vinSense => .byInput
  | _ => .standby

/-- The first matching action of R186. -/
def mergeAfter (a b : AfterSeal) : AfterSeal :=
  if a = .powerOffTrip ∨ b = .powerOffTrip then .powerOffTrip
  else if a = .standby ∨ b = .standby then .standby
  else .byInput

/-- The trigger is one of the input. -/
def isInput (t : Trigger) : Bool := t == .pfN || t == .vinSense

/-- The debug port is forced closed: halts and breakpoints released, the open session ends (R432, R433). -/
def forceDebugClosed (s : State) : State :=
  let s := endSession s 1
  { s with security := { s.security with dbg := .closed, forced := true, challenge := none } }

/-- DRAM channels at a trigger: a sliced retraining stops (R115); a whole-channel one is abandoned, its channel staying the
missing one (in part DEDUCED, notes/assumptions/30). -/
def stopRetraining (s : State) : State :=
  { s with dram := { s.dram with ch := vecMap s.dram.ch fun _ d =>
      if d.run = .sliced then { d with run := .inService, slicesLeft := 0 } else d } }

/-- Status numbers of the ROM routine (Table 16-2), in the order in which the table first names them
(in part DESIGN CHOICE, notes/assumptions/38). -/
def romOk : Nat := 0
/-- The word is not blank (in part DESIGN CHOICE, notes/assumptions/38). -/
def romNotBlank : Nat := 1
/-- The operation was cut off (R388) (in part DESIGN CHOICE, notes/assumptions/38). -/
def romNotDone : Nat := 2
/-- The sector is protected (in part DESIGN CHOICE, notes/assumptions/38). -/
def romProtected : Nat := 3
/-- The address lies outside the array, or no erase is suspended (in part DESIGN CHOICE, notes/assumptions/38). -/
def romRange : Nat := 4
/-- An erase is suspended (in part DESIGN CHOICE, notes/assumptions/38). -/
def romBusy : Nat := 5
/-- The erase has been suspended (R386) (in part DESIGN CHOICE, notes/assumptions/38). -/
def romSuspended : Nat := 6

/-- The flash medium at a trigger: erases end (R157), moves are abandoned with the copies that have not been issued, and a checkpoint
that is not sealed yet is absorbed, its chunks left to the manifest of the save (R194). -/
def stopFlash (f : Flash) : Flash :=
  { f with erases := [], moves := [], sealJob := none, formatting := false,
           chunks := (f.sealJob.elim [] (·.chunks)).foldl insertNat f.chunks,
           pages := f.pages.filter fun p => p.passed || p.issuedAt.isSome || p.kind == .granule || p.kind == .parity,
           bands := f.bands.map fun b => { b with moving := false } }

/-- Work that a trigger stops: retraining, rebuild and fills (R115, R133, R139), targeted tests (Table 14-4), erases, compaction,
re-striping and a checkpoint (R157, R194), background restore (Table 08-4), a capacitance test and a rest window (R239, R250), the
estimator's hibernation (R260), a code flash erase (R386) and debug (R433). -/
def stopWork (s : State) : State :=
  let s := abandonTests (stopRetraining s)
  let s := s.flash.erases.foldl (fun s e => eraseBroken s e.ch e.die e.index) s
  let s := forceDebugClosed s
  programHeld { s with
    shroud := { s.shroud with pass := none, locked := none },
    flash := stopFlash s.flash,
    restore := { s.restore with inHand := [] },
    bank := { s.bank with cbTest := false, testing := false, cbEn := false },
    pack := { s.pack with hibernate := false },
    cf := if s.cf.op = .erase then { s.cf with op := .suspended, suspended := some s.cf.sector } else s.cf,
    out := if s.cf.op = .erase then s.out ++ [.romCall romSuspended 0] else s.out }

/-- A rest window that a save trigger ends reports its result (R250); cause 2 stands for the trigger. -/
def endRest (s : State) (cause : Nat) : State :=
  if s.pack.restActive then raise { s with pack := { s.pack with restActive := false } } 0x0609 [0, cause] else s

/-- A save starts (R182, R185, R190, R21): admission stops, the plan of the last update is fixed, and phase 1 begins. -/
def startSave (s : State) (t : Trigger) : State :=
  let s := stopWork (endRest s 2)
  let s := if outsideR59 t then beginInterval s .excluded else s
  { s with
    save := { s.save with
      phase := 1, trigger := some t, store := .input, endCause := .empty, retained := false, lostFlag := false,
      switched := false, overrun := false, extra := 0, joined := [], lost := 0, charge := s.save.heldCharge, time := 0, startedAt := s.clock.now,
      plan := s.persist.plan, onStores := isInput t || s.charger.holdEn, regulated := false,
      packOk := s.pack.cond == .qualified, bankOk := bankQualified s, after := afterOf t, sealed := none, sealOk := false,
      prior := s.power.state, fromStart := s.power.starting, returning := false, sealWait := false,
      heldTrigs := [], heldCharge := 0, limits := [], lostList := [], report := false,
      phaseAt := s.clock.now, t3 := 0, t4 := 0 },
    power := { s.power with state := .save, starting := false, idle := false },
    host := { s.host with stopped := true } }

/-- A save that runs on the input goes over to the stores at that moment, whatever phase runs (R183, R186). -/
def goOver (s : State) : State :=
  if s.save.onStores || decide (7 < s.save.phase) then s else switchOver s

/-- A trigger meets a running save (R186): it is counted, merged into the after-seal action, which a shutdown that has begun then
follows, and an input trigger runs phase 3. -/
def mergeTrigger (s : State) (t : Trigger) : State :=
  let after := mergeAfter s.save.after (afterOf t)
  let s := { s with
    save := { s.save with extra := min 127 (s.save.extra + 1), joined := s.save.joined ++ [t], after := after, returning := s.save.returning && s.save.phase ≠ 7 },
    rails := { s.rails with downThen := if after = .powerOffTrip ∧ s.rails.downThen.isSome then some .trip else s.rails.downThen } }
  if isInput t then goOver s else s

/-- A trigger that starts no save (R307, R510): the rails go down; a die trip is latched
(in part DESIGN CHOICE, notes/assumptions/88). -/
def noSave (s : State) (t : Trigger) : State :=
  match t with
  | .pfN | .vinSense => beginShutdown s (.standby .byInput)
  | .dieTrip => beginShutdown s .trip
  | .dramEmergency => beginShutdown s (.standby .byCooling)
  | .saveAndOff | .orderlyPress => s
  | _ => logEvent (beginShutdown s (.standby .byPress)) (Config.unnamedEvent 6) 1 []

/-- A start-up on a retained path whose step 2 has ended (R308). -/
def retainedReady (s : State) : Bool := s.power.starting && s.startup.retained && decide (s.startup.step ≥ 2)

/-- A save can start: RUN, IDLE or RESTORE with DRAM, or a retained path from the end of step 2 (R182). -/
def saveMayStart (s : State) : Bool :=
  (s.power.state == .run || s.power.state == .restore) && !s.power.minimal && (!s.power.starting || retainedReady s)

/-- A lowering of the protection level meets a trigger (R425): before step 2 has been read back it is abandoned, with REFUSE
SAVE; from then on no save runs. -/
def loweringFixed (s : State) : Bool := s.security.lowering && decide (s.security.step ≥ 2)

/-- A trigger is held, behind those held already (R196, R308) (in part DEDUCED, notes/assumptions/30). -/
def holdTrigger (s : State) (t : Trigger) : State := { s with save := { s.save with heldTrigs := s.save.heldTrigs ++ [t] } }

/-- The state that a save left is taken up again (R196): its power state, or step 3 of the start-up on a retained path (R228). -/
def takeUp (s : State) : State :=
  if s.save.fromStart then
    { s with power := { s.power with state := .restore, starting := true }, startup := { s.startup with step := 2 } }
  else { s with power := { s.power with state := s.save.prior } }

/-- The triggers that were held start their save: the first starts it, the others join it (R186, R196, R308). -/
def startHeld (s : State) : State :=
  match s.save.heldTrigs with
  | [] => s
  | t :: ts => ts.foldl mergeTrigger (startSave s t)

/-- A save trigger (R182, R186, R196, R308, R425, R510) (in part DEDUCED, notes/assumptions/30). -/
def triggerSave (s : State) (t : Trigger) : State :=
  if saving s then
    if s.save.phase = 8 then
      if s.save.sealWait then startSave (takeUp s) t else if s.save.returning then holdTrigger s t else s
    else mergeTrigger s t
  else if loweringFixed s then
    if t = .dieTrip then beginShutdown s .trip
    else if isInput t then beginShutdown s (.standby .byInput) else s
  else if saveMayStart s then
    let s := if s.security.lowering then
        { s with security := { s.security with lowering := false, step := 0, refuse := 7, target := s.security.level } }
      else s
    startSave s t
  else if s.power.starting && s.startup.retained then
    holdTrigger s t
  else if s.power.state == .run || s.power.state == .restore || s.power.state == .crocus then noSave s t
  else s

/-! ## Phases -/

/-- The granule's manifest entry is LOST. -/
def lostEntry (e : Entry) : Entry := { e with state := .lost }

/-- A manifest entry changes, and its chunk with it (Table 06-13). -/
def setEntry (s : State) (g : Nat) (e : Entry) : State :=
  { s with flash := { s.flash with manifest := kvSet s.flash.manifest g e, chunks := insertNat s.flash.chunks (g / 8192) } }

/-- The manifest entry of a granule; one that is not listed is ZERO. -/
def entryOf (s : State) (g : Nat) : Entry := (kvGet s.flash.manifest g).getD { state := .zero, band := 0, row := 0, ch := 0, seq := 0 }

/-- A granule left at the end of the flush is marked LOST (R197) (in part DEDUCED, notes/assumptions/27). -/
def markLost (s : State) (g : Nat) : State := setEntry s g (lostEntry (entryOf s g))

/-- Every page group of the granule has been issued: its programs complete and it is kept (R193). -/
def issuedWhole (s : State) (g : Nat) : Bool := s.persist.inflight.any fun f => f.granule == g && !f.rewritten

/-- A granule that was written again while in flight stays dirty: the copy in flight does not clear it (R43)
(in part DEDUCED, notes/assumptions/27). -/
def dropRewritten (s : State) : State :=
  { s with persist := { s.persist with inflight := s.persist.inflight.filter fun f => !f.rewritten } }

/-- Phase 5 begins, with the granules that phase 4 has left beside those that a channel lost before (R139, R197); the time of phase 4 is
kept for the event log (R189). -/
def beginManifest (s : State) (cause : EndCause) (left : List Nat) : State :=
  let lost := s.save.lostList ++ left.filter fun g => !s.save.lostList.contains g
  { s with save := { s.save with phase := 5, endCause := cause, lost := lost.length, lostFlag := !lost.isEmpty, lostList := lost,
                                 t4 := s.clock.now - s.save.phaseAt, phaseAt := s.clock.now } }

/-- Phase 4 ends by its first cause; what is left is marked LOST (R193, R197) (in part DEDUCED, notes/assumptions/27). -/
def endFlush (s : State) (cause : EndCause) : State :=
  if s.save.phase ≠ 4 then s
  else if cause = .empty then beginManifest s .empty []
  else
    let waiting := ((s.host.buf.filter fun b => b.waitFetch || !b.drained).map fun b => lineGranule s b.line).eraseDups
    let left := (dirtyGranules s).filter (fun g => !issuedWhole s g) ++ waiting.filter fun g => !(dirtyGranules s).contains g
    beginManifest (left.foldl markLost (dropRewritten s)) cause left

/-- The plan limits that the count has passed in phases 5 to 7 (Table 07-3): 1 m_seal, 2 m_ret, 3 q_end. -/
def limitsPassed (s : State) : List Nat :=
  let q : Rat := (s.save.charge : Rat)
  let p := s.save.plan
  if s.save.store = .none || s.save.store = .input || decide (s.save.phase < 5) then []
  else (if q > p.mSeal then [1] else []) ++ (if q > p.mRet then [2] else []) ++ if q > p.qEnd then [3] else []

/-- Each limit that has been passed sets OVERRUN and sends SAVE_OVERRUN once a save (R195) (in part DEDUCED, notes/assumptions/26). -/
def checkOverrun (s : State) : State :=
  ((limitsPassed s).filter fun l => !s.save.limits.contains l).foldl (fun s l =>
    raise { s with save := { s.save with overrun := true, limits := s.save.limits ++ [l] } } 0x0502 [l, s.save.charge]) s

/-- The thermal guard of R193: 117 °C junction, or 105 °C case on any DRAM channel. -/
def thermalGuard (s : State) : Bool :=
  (dieMax s).any (fun t => decide (t ≥ 117 * 1024)) || (fins 17).any fun c => (dramMax s c).any fun t => decide (t ≥ 105 * 1024)

end Sys2Proof.Machine
end

