-- ==== Sys2Proof/Machine/FlashOps.lean ====
section
/-! DEFINITION. The flash medium: placing page groups in bands and rows, RAIN parity, finishing a flush, retirement of block
sets, dies and channels, moving live page groups out, erases and the seal of a generation (R147–R181, R194, R207). -/

namespace Sys2Proof.Machine

open Sys2Proof

/-! ## Units (Table 06-2) -/

/-- Index in its dies of a band's block sets: the system area's 64 come first on die row 0
(in part DESIGN CHOICE, notes/assumptions/19). -/
def bandSet (c : Settings) (b : Nat) : Nat := (b + 64) % c.blockSets

/-- Page groups of a granule. -/
def halves (c : Settings) : Nat := if c.region128 then 2 else 1

/-- The die of a band on each of its channels. -/
def bandDie (c : Settings) (b : Nat) : Fin 16 := Fin.ofNat 16 (bandRow c b)

/-- The block set, or its first state: erased, never used (in part DESIGN CHOICE, notes/assumptions/19). -/
def blockOf (s : State) (ch : FlashCh) (die : Fin 16) (idx : Nat) : BlockSet :=
  (s.flash.blocks.find? fun b => b.ch == ch && b.die == die && b.index == idx).getD
    { ch := ch, die := die, index := idx, run := .erased, erases := 0, saved := 0, learned := 0, retired := false, refresh := false,
      withheld := false }

/-- Changes a block set. -/
def setBlock (s : State) (ch : FlashCh) (die : Fin 16) (idx : Nat) (f : BlockSet → BlockSet) : State :=
  { s with flash := { s.flash with
      blocks := (s.flash.blocks.filter fun b => !(b.ch == ch && b.die == die && b.index == idx))
        ++ [f (blockOf s ch die idx)] } }

/-- The engine of a flash channel is tested or replaced: the work of its role waits (R23, Table 14-1). -/
def roleWaits (s : State) (ch : FlashCh) : Bool :=
  s.engines.eng.toList.any fun e => e.role == some (.flash ch) && (e.run == .bist || e.run == .swapping)

/-- The channel takes commands (in part DEDUCED, notes/assumptions/54). -/
def fcReady (s : State) (ch : FlashCh) : Bool := s.flash.ch[ch].run == .inService && !s.flash.brownOut && !roleWaits s ch

/-- The channel can be a member of a new band of a die row at a block set index: in service, with the die, and with a block set
that is neither retired nor withheld for a test (R165, R166, R348). -/
def memberFits (s : State) (c : Settings) (b : Nat) (ch : FlashCh) : Bool :=
  let x := blockOf s ch (bandDie c b) (bandSet c b)
  fcUp s.flash.ch[ch] && s.flash.ch[ch].hasEngine && s.flash.ch[ch].dies.contains (bandDie c b)
    && !x.retired && !x.withheld && x.run == .erased

/-- The band of a block set; none for the system area's. -/
def bandOfSet (c : Settings) (die : Fin 16) (idx : Nat) : Option Nat :=
  let v := die.val * c.blockSets + idx
  if v < 64 then none else some (v - 64)

/-- Erases summed over a band's block sets. -/
def bandErases (s : State) (c : Settings) (b : Nat) : Nat :=
  ((s.flash.blocks.filter fun x => x.die == bandDie c b && x.index == bandSet c b).map (·.erases)).sum

/-- Bands of the free pool that have been erased, taken lowest count first when no unused one is left (R172). -/
def wornBands (s : State) (c : Settings) : List Nat :=
  (s.flash.blocks.map fun x => x.die.val * c.blockSets + x.index - 64).eraseDups

/-- The band with the fewest erases among some (in part DESIGN CHOICE, notes/assumptions/19). -/
def leastWorn (s : State) (c : Settings) : List Nat → Option Nat
  | [] => none
  | b :: t => match leastWorn s c t with
    | none => some b
    | some x => some (if bandErases s c b ≤ bandErases s c x then b else x)

/-- The band of the free pool that is opened next (R172) (in part DESIGN CHOICE, notes/assumptions/19). -/
def nextFreeBand (s : State) (c : Settings) : Option Nat :=
  let used := s.flash.bands.map (·.num)
  let worn := (wornBands s c).filter fun b => !used.contains b
  let fresh := firstMissing ((used ++ worn).foldl insertNat []) 0
  if fresh < totalBands c then some fresh else leastWorn s c (worn.filter fun b => decide (b < totalBands c))

/-! ## Rows (R147, R151) -/

/-- The band that is written, if one is open (in part DESIGN CHOICE, notes/assumptions/19). -/
def openBand (s : State) : Option Band := s.flash.bands.find? fun b => !b.closed && !b.moving

/-- The band of a number. -/
def bandOf (s : State) (n : Nat) : Option Band := s.flash.bands.find? fun b => b.num == n

/-- The least row of a band, `n` or later, that is open or has not been opened: members that a closed row did not use are never written
(R149, R151). -/
def reachRow (s : State) (b : Band) (n : Nat) : Nat :=
  ((s.flash.openRows.filter fun r => r.band == b.num && decide (n ≤ r.row)).map (·.row)).foldl min (max n b.nextRow)

/-- The next page of a block set from page `n` on, which rows of its band may have passed. -/
def reachPage (s : State) (die : Fin 16) (idx n : Nat) : Nat :=
  match s.startup.settings.bind fun c => (bandOfSet c die idx).bind (bandOf s) with
  | some b => reachRow s b n
  | none => n

/-- The page is the next one of an ERASED or OPEN block set (R149). -/
def nextPage (s : State) (ch : FlashCh) (die : Fin 16) (idx page : Nat) : Bool :=
  match (blockOf s ch die idx).run with
  | .erased => page == reachPage s die idx 0
  | .opened n => page == reachPage s die idx n
  | _ => false

/-- The member of a band takes a program of a row: its die is in service and its block set is not retired, and the row's page is the
block set's next one (R149, R165, R166). -/
def memberTakes (s : State) (c : Settings) (b : Band) (ch : FlashCh) (row : Nat) : Bool :=
  memberUp s c b.num ch && !(blockOf s ch (bandDie c b.num) (bandSet c b.num)).retired
    && nextPage s ch (bandDie c b.num) (bandSet c b.num) row

/-- Changes a band. -/
def setBand (s : State) (n : Nat) (f : Band → Band) : State :=
  { s with flash := { s.flash with bands := s.flash.bands.map fun b => if b.num = n then f b else b } }

/-- The channel of a row's parity page group: member (row + band) mod the number of members, in ascending channel order
(R147, for 32 and for 31 channels) (in part DESIGN CHOICE, notes/assumptions/20). -/
def parityChannel (b : Band) (row : Nat) : Option FlashCh := b.members[(row + b.num) % max 1 b.members.length]?

/-- Opens the next band of the free pool; without one, nothing can be programmed (in part DESIGN CHOICE, notes/assumptions/19). -/
def openNewBand (s : State) (c : Settings) : State :=
  match nextFreeBand s c with
  | none => s
  | some n =>
    let m := (fins 32).filter (memberFits s c n)
    if m.length < 2 then s
    else { s with flash := { s.flash with bands :=
      s.flash.bands ++ [{ num := n, nextRow := 0, span31 := decide (m.length < 32), members := m, closed := false, moving := false }] } }

/-! ## Programs (R18, R147, R149, R217) -/

/-- Another program of the LUN has been issued and has not ended. -/
def lunBusyWith (s : State) (c : Settings) (ch : FlashCh) (die : Fin 16) : Bool :=
  s.flash.pages.any fun p => p.issuedAt.isSome && !p.passed && p.ch == ch && bandDie c p.band == die

/-- A program runs on the die row (in part DEDUCED, notes/assumptions/22). -/
def rowPrograms (s : State) (c : Settings) (die : Fin 16) : Bool :=
  s.flash.pages.any fun p => p.issuedAt.isSome && !p.passed && bandDie c p.band == die

/-- A program runs on the LUN or waits for it (in part DEDUCED, notes/assumptions/22). -/
def lunPrograms (s : State) (c : Settings) (ch : FlashCh) (die : Fin 16) : Bool :=
  s.flash.pages.any fun p => !p.passed && p.ch == ch && bandDie c p.band == die

/-- An erase runs on the LUN: a program waits for it, a save has suspended it (R154, R157) (in part DEDUCED, notes/assumptions/22). -/
def lunErases (s : State) (ch : FlashCh) (die : Fin 16) : Bool :=
  s.flash.erases.any fun e => e.ch == ch && e.die == die && !e.suspended

/-- A demand fetch reads on the channel: class 2 of R18, which every program outside a save waits for
(in part DEDUCED, notes/assumptions/22; DEDUCED, notes/assumptions/104). -/
def fetchOn (s : State) (ch : FlashCh) : Bool := s.restore.fetches.any fun f => f.lun.any fun l => l.1 == ch

/-- A program may be issued to a LUN now: the channel takes commands, no program and no erase runs on the LUN, and, outside a save, no
demand fetch reads on the channel and, while granules are absent, no LUN of the die row programs (R18, R154, R217)
(in part DEDUCED, notes/assumptions/22). -/
def mayIssue (s : State) (c : Settings) (ch : FlashCh) (die : Fin 16) : Bool :=
  fcReady s ch && !lunBusyWith s c ch die && !lunErases s ch die
    && (saving s || (!fetchOn s ch && (!someAbsent s || !rowPrograms s c die)))

/-- The page group's program is issued. -/
def issuePage (s : State) (p : PageGroup) : State :=
  { s with flash := { s.flash with pages := s.flash.pages.map fun q => if q = p then { q with issuedAt := some s.clock.now } else q } }

/-- Issues the programs that wait for their LUNs, in the order in which they were asked for. -/
def issueWaiting (s : State) : State :=
  match s.startup.settings with
  | none => s
  | some c => (s.flash.pages.filter fun p => !p.passed && p.issuedAt.isNone).foldl (fun s p =>
      if mayIssue s c p.ch (bandDie c p.band) then issuePage s p else s) s

/-- The block set moves past a page: OPEN with the next one, FULL after the last (R149). -/
def takePage (s : State) (c : Settings) (p : PageGroup) : State :=
  setBlock s p.ch (bandDie c p.band) (bandSet c p.band) fun b => { b with run := if p.row = 511 then .full else .opened (p.row + 1) }

/-- A page group is given to a member of a row, and its program to the channel's engine; a page that is not the next one of its block
set is refused, and logged as a firmware fault (R149). -/
def programPage (s : State) (c : Settings) (p : PageGroup) : State :=
  if !nextPage s p.ch (bandDie c p.band) (bandSet c p.band) p.row then logEvent s 0x0081 2 []
  else
    takePage { s with flash := { s.flash with
      pages := s.flash.pages ++ [p],
      openRows := s.flash.openRows.map fun r =>
        if r.band = p.band ∧ r.row = p.row then { r with members := r.members ++ [p.ch] } else r } } c p

/-- Number of the generation that is open: the next to be sealed. -/
def openGen (s : State) : DWord := s.flash.gen + 1

/-! ## Closing rows and bands (R147, R149, R151) -/

/-- The parity page group of a row over the members written so far (R147). -/
def parityPage (s : State) (band row : Nat) (ch : FlashCh) : PageGroup :=
  { band := band, row := row, ch := ch, kind := .parity, half := 0, seq := s.flash.nextSeq, index := 0, gen := openGen s, keyId := 0,
    cells := [], issuedAt := none, passed := false, covers := (pagesOfRow s band row).map (·.seq) }

/-- The row takes no further member. -/
def endRow (s : State) (band row : Nat) : State :=
  { s with flash := { s.flash with openRows := s.flash.openRows.filter fun r => !(r.band == band && r.row == row) } }

/-- One row is closed: its parity is programmed over the members written so far (R147, R151); a row whose parity member takes no
program stays without (in part DESIGN CHOICE, notes/assumptions/20). -/
def closeOne (s : State) (c : Settings) (band row : Nat) : State :=
  if (pagesOfRow s band row).isEmpty then endRow s band row
  else match (bandOf s band).bind fun b => (parityChannel b row).map fun ch => (b, ch) with
    | some (b, ch) =>
      if memberTakes s c b ch row then
        endRow (programPage { s with flash := { s.flash with nextSeq := s.flash.nextSeq + 1 } } c (parityPage s band row ch)) band row
      else endRow s band row
    | none => endRow s band row

/-- A row is closed after the open rows before it: rows are written in ascending page order (R147)
(in part DESIGN CHOICE, notes/assumptions/20). -/
def closeRow (s : State) (c : Settings) (band row : Nat) : State :=
  issueWaiting (((s.flash.openRows.filter fun r => r.band == band && decide (r.row ≤ row)).map (·.row)).foldl
    (fun s r => closeOne s c band r) s)

/-- Every open row is closed (R151). -/
def closeAllRows (s : State) (c : Settings) : State :=
  issueWaiting (s.flash.openRows.foldl (fun s r => closeOne s c r.band r.row) s)

/-- A band takes no further program: its open rows are closed, and its OPEN block sets count as FULL (R149). -/
def closeBand (s : State) (n : Nat) : State :=
  match s.startup.settings with
  | none => setBand s n fun b => { b with closed := true }
  | some c =>
    let s := (s.flash.openRows.filter fun r => r.band == n).foldl (fun s r => closeOne s c n r.row) s
    let full := s.flash.blocks.map fun b =>
      if b.die = bandDie c n ∧ b.index = bandSet c n then
        match b.run with
        | .opened _ => { b with run := .full }
        | _ => b
      else b
    issueWaiting (setBand { s with flash := { s.flash with blocks := full } } n fun b => { b with closed := true })

/-- Every data member of the row has been written (in part DESIGN CHOICE, notes/assumptions/20). -/
def rowFull (s : State) (r : OpenRow) : Bool :=
  match bandOf s r.band with
  | some b => decide (r.members.length + 1 ≥ b.members.length)
  | none => false

/-- The row is closed, and its parity page group has passed program status (R150, R177). -/
def rowDone (s : State) (band row : Nat) : Bool :=
  !(s.flash.openRows.any fun r => r.band == band && r.row == row)
    && (pagesOfRow s band row).any fun p => p.kind == .parity && p.passed

/-! ## Placing page groups -/

/-- Opens the next rows of the open band, as many as a granule takes; a band without room is closed and a new one opened
(in part DESIGN CHOICE, notes/assumptions/19). -/
def openRows (s : State) (c : Settings) : State :=
  let s := match openBand s with
    | some b => if b.nextRow + halves c ≤ 512 then s else openNewBand (closeBand s b.num) c
    | none => openNewBand s c
  match openBand s with
  | none => s
  | some b =>
    if b.nextRow + halves c ≤ 512 then
      let rows : List OpenRow := (List.range (halves c)).map fun i => ⟨b.num, b.nextRow + i, [], s.clock.now⟩
      setBand { s with flash := { s.flash with openRows := s.flash.openRows ++ rows } } b.num
        fun x => { x with nextRow := b.nextRow + halves c }
    else s

/-- The member is free in the row and takes its page. -/
def rowTakes (s : State) (c : Settings) (b : Band) (r : OpenRow) (ch : FlashCh) : Bool :=
  r.band == b.num && b.members.contains ch && !r.members.contains ch && parityChannel b r.row != some ch && memberTakes s c b ch r.row

/-- The lowest open rows, `n` of them, that take a member: a granule's two halves lie in two rows that follow each other. -/
def freeRows (s : State) (c : Settings) (b : Band) (ch : FlashCh) (n : Nat) : Option (List OpenRow) :=
  let rs := s.flash.openRows.filter fun r => r.band == b.num
  if n = 1 then (rs.find? fun r => rowTakes s c b r ch).map fun r => [r]
  else if rs.length ≥ n && (rs.take 1).all (fun r => rowTakes s c b r ch)
      && (rs.take n).all (fun r => !r.members.contains ch && parityChannel b r.row != some ch) then some (rs.take n)
  else none

/-- Places the page groups of one write, `parts` with their cells, on a channel: the new sequence numbers and rows (R147). None
where no open row takes them. `seq0` keeps a header unchanged (compaction) (in part DESIGN CHOICE, notes/assumptions/19). -/
def placeOn (s : State) (c : Settings) (ch : FlashCh) (kind : PageKind) (idx : Nat) (keyId : Word) (parts : List (List Host.Cell))
    (head : Option (Nat × DWord)) : Option (State × List Nat × List (Nat × Nat)) :=
  match openBand s with
  | none => none
  | some b => match freeRows s c b ch parts.length with
    | none => none
    | some rs =>
      let seq0 := match head with | some h => h.1 | none => s.flash.nextSeq
      let gen := match head with | some h => h.2 | none => openGen s
      let ps := (rs.zip parts).zipIdx.map fun x =>
        ({ band := b.num, row := x.1.1.row, ch := ch, kind := kind, half := x.2, seq := seq0 + x.2, index := idx, gen := gen,
           keyId := keyId, cells := x.1.2, issuedAt := none, passed := false, covers := [] } : PageGroup)
      let s := { s with flash := { s.flash with
        nextSeq := if head.isNone then s.flash.nextSeq + parts.length else s.flash.nextSeq } }
      some (issueWaiting (ps.foldl (fun s p => programPage s c p) s), ps.map (·.seq), ps.map fun p => (p.band, p.row))

/-- Makes rows available: with no open row, opens the next ones. -/
def ensureRows (s : State) (c : Settings) : State :=
  match openBand s with
  | some b => if (s.flash.openRows.any fun r => r.band == b.num) then s else openRows s c
  | none => openRows s c

/-- Places a write on the first channel, from `chs`, that a row takes; when none does, the open rows are closed and new ones are
tried once (in part DESIGN CHOICE, notes/assumptions/19). -/
def placeAny (s : State) (c : Settings) (chs : List FlashCh) (kind : PageKind) (idx : Nat) (keyId : Word)
    (parts : List (List Host.Cell)) (head : Option (Nat × DWord)) : Option (State × List Nat × List (Nat × Nat)) :=
  let s := ensureRows s c
  match chs.findSome? fun ch => placeOn s c ch kind idx keyId parts head with
  | some r => some r
  | none =>
    let s := openRows (closeAllRows s c) c
    chs.findSome? fun ch => placeOn s c ch kind idx keyId parts head

/-- Channels that take programs. -/
def readyChannels (s : State) : List FlashCh := (fins 32).filter (fcReady s)

/-- A program may be issued on a channel of a die row, with none waiting for its LUN (in part DEDUCED, notes/assumptions/22). -/
def mayProgram (s : State) (c : Settings) (ch : FlashCh) (die : Fin 16) : Bool := mayIssue s c ch die && !lunPrograms s c ch die

/-! ## Granule copies -/

/-- The present media key's identifier (R163). -/
def keyIdNow (s : State) : Word := s.security.key.getD 0

/-- The cells of a granule's halves as DRAM holds them, by offset (in part DESIGN CHOICE, notes/assumptions/18). -/
def granuleParts (s : State) (c : Settings) (g : Nat) : List (List Host.Cell) :=
  (List.range (halves c)).map fun h =>
    (cellsIn s.dram.mem (g * granuleBytes c + 65536 * h) 65536).map fun x => (x.1 - g * granuleBytes c, x.2)

/-- The cells of the copy that a manifest entry names; none while the key is not the one it was written under (R164). -/
def copyCells (s : State) (g : Nat) (e : Entry) : List Host.Cell :=
  (s.flash.pages.filter fun p =>
      p.passed && (p.kind == .granule || p.kind == .compacted) && p.index == g && p.keyId == keyIdNow s
        && p.ch == e.ch && p.band == e.band && p.seq == e.seq + p.half).flatMap (·.cells)

/-- The manifest entry of a copy that has passed: where its first half lies. -/
def entryAt (s : State) (g : Nat) (ok : PageGroup → Bool) : Option Entry :=
  (s.flash.pages.reverse.find? fun p => p.passed && p.index == g && p.half == 0 && ok p).map fun p =>
    { state := .present, band := p.band, row := p.row, ch := p.ch, seq := p.seq }

/-- A part of the metadata area as its newest copy on flash holds it. -/
def flushPart (m a : MetaImage) : Nat → MetaImage
  | 0 => { m with poison := a.poison }
  | 1 => { m with sessions := a.sessions }
  | 2 => { m with labels := a.labels }
  | 3 => { m with shutdownDirty := a.shutdownDirty, dirtyShutdowns := a.dirtyShutdowns }
  | _ => { m with notices := a.notices }

/-- The working manifest points at the new copy of a flushed granule (R178); of a metadata granule it holds what was flushed
(in part DESIGN CHOICE, notes/assumptions/13). -/
def settleFlush (s : State) (f : InFlight) : State :=
  match entryAt s f.granule fun p => p.kind == .granule with
  | none => s
  | some e =>
    let s := setEntry s f.granule e
    match f.image with
    | some m => { s with persist := { s.persist with metaFlushed := flushPart s.persist.metaFlushed m (f.granule - hvGranules s) } }
    | none => s

/-- A flushed granule whose page groups and row parity have all passed becomes clean, unless a write landed in it meanwhile (R43,
R150); PSUB follows D. -/
def finishFlush (s : State) (f : InFlight) : State :=
  let s := settleFlush s f
  let s := if f.rewritten then s else clearDirty s f.granule
  followD { s with persist := { s.persist with inflight := s.persist.inflight.filter fun x => x.granule != f.granule },
                   flash := { s.flash with flushed := s.flash.flushed + gBytes s } }

/-- Granules whose flush has ended become clean. -/
def finishFlushes (s : State) : State :=
  (s.persist.inflight.filter fun f => f.pages.isEmpty && f.rows.isEmpty).foldl finishFlush s

/-- Charges a program to the wear credit (R51, R173) (in part DESIGN CHOICE, notes/assumptions/20). -/
def chargeWear (s : State) (bytes : Nat) : State :=
  { s with persist := { s.persist with wear := s.persist.wear - (bytes : Int) } }

/-! ## What the dies hold (R147, R162) -/

/-- Data unit `k` of a page group: one codeword's 4,096 bytes of plaintext. -/
def dataUnit (p : PageGroup) (k : Nat) : List Byte :=
  (List.range 4096).map fun i => readByte p.cells (65536 * p.half + 4096 * k + i)

/-- The tweak of a data unit: SEQ of the header, and the unit's number within the write (R162). -/
def tweakOf (p : PageGroup) (k : Nat) : Nat := p.seq * 2 ^ 64 + 16 * (if p.kind = .root then p.index else p.half) + k

/-- Byte `n` of codeword `k` of a page group as the die holds it: ciphertext, or of a parity page group the XOR of the ciphertext of
those it covers (R147, R162) (in part DESIGN CHOICE, notes/assumptions/18). -/
def storedByte (s : State) (p : PageGroup) (k n : Nat) : Byte :=
  let cipher := fun (q : PageGroup) => Config.xtsByte s.security.mediaKey (tweakOf q k) (dataUnit q k) n
  if p.kind = .parity then ((pagesOfRow s p.band p.row).filter fun q => p.covers.contains q.seq).foldl (fun b q => b ^^^ cipher q) 0
  else cipher p

/-! ## What is referenced (R148, R166, R179) -/

/-- The two newest sealed generations (R148). -/
def protectedGens (s : State) : List Generation := s.flash.gens.reverse.take 2

/-- A manifest entry names the page group. -/
def entryNames (e : Entry) (p : PageGroup) : Bool :=
  e.state == .present && e.ch == p.ch && e.band == p.band && e.seq + p.half == p.seq

/-- The working manifest names the page group. -/
def livePage (s : State) (p : PageGroup) : Bool :=
  (p.kind == .granule || p.kind == .compacted) && entryNames (entryOf s p.index) p

/-- The page group is the newest copy of a manifest chunk. -/
def liveChunk (s : State) (p : PageGroup) : Bool := p.kind == .chunk && (kvGet s.flash.chunkMap p.index).any fun e => entryNames e p

/-- A generation references the page group: its entries or its chunk map name it, or it is one of its root parts. -/
def genNames (g : Generation) (p : PageGroup) : Bool :=
  match p.kind with
  | .granule | .compacted => (kvGet g.entries p.index).any fun e => entryNames e p
  | .root => p.gen == g.gen
  | .chunk => (kvGet g.chunkMap p.index).any fun e => entryNames e p
  | .parity => false

/-- What the generation that is being written will hold. -/
def draftGens (s : State) : List Generation := (s.flash.sealJob.bind (·.draft)).toList

/-- The page group may not be erased yet (R148): referenced, or not passed. -/
def referenced (s : State) (p : PageGroup) : Bool :=
  p.kind != .parity
    && (!p.passed || livePage s p || liveChunk s p || (draftGens s ++ protectedGens s).any fun g => genNames g p)

/-- Live page groups of a band. -/
def liveIn (s : State) (n : Nat) : List PageGroup := s.flash.pages.filter fun p => p.band == n && livePage s p

/-- Page groups of a band that no entry names. -/
def staleIn (s : State) (n : Nat) : List PageGroup :=
  s.flash.pages.filter fun p => p.band == n && (p.kind == .granule || p.kind == .compacted) && !livePage s p

/-- Marks a band whose live page groups are to be moved out: it takes no further program, and its manifest chunks are written afresh by
the next generation (R165–R167, R179) (in part DESIGN CHOICE, notes/assumptions/23). -/
def moveBand (s : State) (n : Nat) (why : MoveReason) : State :=
  if (s.flash.moves.any fun m => m.1 == n) then s
  else
    let s := closeBand { s with flash := { s.flash with moves := s.flash.moves ++ [(n, why)] } } n
    let ks := (s.flash.pages.filter fun p => p.band == n && liveChunk s p).map (·.index)
    setBand { s with flash := { s.flash with chunks := ks.foldl insertNat s.flash.chunks } } n fun b => { b with moving := true }

/-! ## Copies (R162, R166, R179) -/

/-- A live copy moves to another place, its header unchanged (R162, R179) (in part DESIGN CHOICE, notes/assumptions/23). -/
def copyOut (s : State) (c : Settings) (g : Nat) (ch : FlashCh) : State :=
  let e := entryOf s g
  let old := s.flash.pages.filter fun p => p.passed && p.index == g && livePage s p
  match old with
  | [] => s
  | p :: _ =>
    let s1 := ensureRows s c
    match placeOn s1 c ch .compacted g p.keyId (old.map (·.cells)) (some (e.seq, p.gen)) with
    | some (t, _, _) => chargeWear t (65536 * old.length)
    | none => s

/-- Page groups of a copy of the granule that have not become its copy: not passed, or their rows without parity. -/
def openCopy (s : State) (g : Nat) : List PageGroup :=
  s.flash.pages.filter fun q => q.kind == .compacted && q.index == g && !livePage s q && (!q.passed || !rowDone s q.band q.row)

/-- A copy that has passed, its rows' parity with it: the working manifest points at it if its granule has not been written again
meanwhile (R150, R177). -/
def repoint (s : State) (g : Nat) : State :=
  let e := entryOf s g
  if !(openCopy s g).isEmpty || e.state ≠ .present then s
  else match entryAt s g fun q => q.kind == .compacted && q.seq == e.seq && rowDone s q.band q.row with
    | some n => setEntry s g n
    | none => s

/-! ## Programs that fail (R147, R165, R173) -/

/-- The page group is no longer on its way. -/
def dropPage (s : State) (p : PageGroup) : State :=
  { s with flash := { s.flash with pages := s.flash.pages.filter fun q => !(q.seq == p.seq && q.band == p.band && q.ch == p.ch) } }

/-- The granule in flight is issued again as a whole, on a channel other than the failed one; with no place for it, it stays dirty. -/
def reflush (s : State) (c : Settings) (f : InFlight) (ch : FlashCh) : State :=
  let s := { s with flash := { s.flash with pages := s.flash.pages.filter fun q =>
    !(q.kind == .granule && q.index == f.granule && !livePage s q && q.seq ∈ f.pages) } }
  match placeAny s c ((readyChannels s).filter fun x => x != ch) .granule f.granule (keyIdNow s) (granuleParts s c f.granule) none with
  | some (t, seqs, rows) =>
    let u := chargeWear t (granuleBytes c)
    { u with persist := { u.persist with inflight := u.persist.inflight.map fun x =>
        if x.granule = f.granule then
          { x with pages := seqs, rows := rows, rewritten := false, image := x.image.map fun _ => metaImage s } else x } }
  | none => { s with persist := { s.persist with inflight := s.persist.inflight.filter fun x => x.granule != f.granule } }

/-- A generation that is being written is given up: its chunks stay to be written (R194). -/
def dropJob (s : State) : State :=
  match s.flash.sealJob with
  | some j => { s with flash := { s.flash with
      sealJob := none, chunks := j.chunks.foldl insertNat s.flash.chunks,
      pages := s.flash.pages.filter fun p => p.passed || (p.kind != .chunk && p.kind != .root) } }
  | none => s

/-- A manifest chunk or a root part is written again elsewhere; with no place for it, the generation is given up (R165, R173). -/
def rewriteMeta (s : State) (c : Settings) (p : PageGroup) : State :=
  match placeAny s c ((readyChannels s).filter fun x => x != p.ch) p.kind p.index p.keyId [p.cells] none with
  | some (t, _, _) => chargeWear t 65536
  | none => dropJob s

/-- A copy is written again to another channel; with no place for it, it stays to be copied. -/
def recopy (s : State) (c : Settings) (p : PageGroup) : State :=
  let gone := (openCopy s p.index).map fun q => (q.seq, q.band)
  let s := { s with flash := { s.flash with pages := s.flash.pages.filter fun q => !(q.kind == .compacted && gone.contains (q.seq, q.band)) } }
  if saving s then s
  else match (readyChannels s).find? fun x => x != p.ch && (placeOn (ensureRows s c) c x .compacted p.index p.keyId [p.cells] none).isSome with
    | some x => copyOut s c p.index x
    | none => s

/-- The page groups of a row that has neither parity nor a program of it are written again: the row is not protected (R150, R177)
(in part DESIGN CHOICE, notes/assumptions/20). -/
def orphan (s : State) (p : PageGroup) : Bool :=
  !(s.flash.openRows.any fun r => r.band == p.band && r.row == p.row) && !((pagesOfRow s p.band p.row).any fun q => q.kind == .parity)

/-- A page group is written again as its kind asks: a granule in flight, a chunk or root part of the generation being written, a copy
on its way. A parity page group cannot lie elsewhere: its row stays without (R147). -/
def rewritePage (s : State) (c : Settings) (p : PageGroup) : State :=
  match p.kind with
  | .granule =>
    (match s.persist.inflight.find? fun f => f.granule == p.index && (f.pages.contains p.seq || f.rows.contains (p.band, p.row)) with
     | some f => reflush s c f p.ch
     | none => s)
  | .chunk | .root => if s.flash.sealJob.isSome && p.gen == openGen s then rewriteMeta s c p else s
  | .compacted => recopy s c p
  | .parity => s

/-- Page groups whose rows cannot get their parity any more are written again. -/
def mendRows (s : State) (c : Settings) : State :=
  let lost := s.flash.pages.filter fun p => p.kind != .parity && orphan s p
    && ((s.persist.inflight.any fun f => f.granule == p.index && f.rows.contains (p.band, p.row))
        || ((p.kind == .chunk || p.kind == .root) && s.flash.sealJob.isSome && p.gen == openGen s)
        || (openCopy s p.index).contains p)
  lost.foldl (fun s p => rewritePage (dropPage s p) c p) s

/-- The program of a page group has failed or was torn: it is written again on another channel (R165, R176). -/
def tornPage (s : State) (c : Settings) (p : PageGroup) : State :=
  let s := dropPage s p
  if p.kind = .parity then mendRows s c else rewritePage s c p

/-! ## Block sets, dies and channels lost (R165–R170) -/

/-- Capacity after retirements: CAP_LOW below 2.25 × usable DRAM; below 2.0 × admission stops and a save starts (R170)
(in part DESIGN CHOICE, notes/assumptions/96). -/
def checkCapacity (s : State) : State :=
  match s.startup.settings with
  | none => s
  | some c =>
    if !s.flash.inService then s
    else
      let d := dataCapacity s c
      let s := if decide (4 * d < 9 * usableBytes c) && !s.flash.capLow then
          raise { s with flash := { s.flash with capLow := true } } 0x0403 [] else s
      if decide (d < 2 * usableBytes c) && !s.flash.capGone then
        triggerSave { s with flash := { s.flash with capGone := true }, host := { s.host with stopped := true } } .flashCapacity
      else s

/-- Retired block sets of a die (in part DESIGN CHOICE, notes/assumptions/96). -/
def dieRetiredSets (s : State) (ch : FlashCh) (die : Fin 16) : Nat :=
  (s.flash.blocks.filter fun b => b.ch == ch && b.die == die && b.retired).length

/-- Bands take no further program, and outside a save their live page groups are to be moved out (R165–R167, R194). -/
def leaveBands (s : State) (ns : List Nat) (why : MoveReason) : State :=
  ns.foldl (fun s n => if saving s then closeBand s n else moveBand s n why) s

/-- The programs of a channel, or of one die of it, that have not ended are written again elsewhere, with the rows that have lost
their parity. -/
def rewriteLost (s : State) (ch : FlashCh) (die : Option (Fin 16)) : State :=
  match s.startup.settings with
  | none => s
  | some c =>
    let torn := s.flash.pages.filter fun p => !p.passed && p.ch == ch && die.all fun d => bandDie c p.band == d
    mendRows (torn.foldl (fun s p => rewritePage (dropPage s p) c p) s) c

/-- A flash channel leaves service (R167): RAIN covers its members, new bands are formed without it, bw_save and the ceiling are
recomputed, every band that includes it is to be re-striped. Programs in flight on it are issued again elsewhere
(in part DEDUCED, notes/assumptions/74). -/
def flashChannelOut (s : State) (ch : FlashCh) : State :=
  if s.flash.ch[ch].run = .outOfService then s
  else
    let hit := (s.flash.bands.filter fun b => b.members.contains ch).map (·.num)
    let s := { s with flash := { s.flash with
      ch := vecMod s.flash.ch ch fun f => { f with run := .outOfService, sdr := true, rate := 0, retryAt := s.clock.now },
      erases := s.flash.erases.filter fun e => e.ch != ch,
      restripe := if s.flash.restripe.contains ch then s.flash.restripe else s.flash.restripe ++ [ch] } }
    let s := rewriteLost (leaveBands s hit (.restripeChannel ch)) ch none
    checkCapacity (ceilingEvent (raise s 0x0401 []))

/-- A die is retired, for good or for this start-up: its members are served by RAIN and its bands re-striped (R145, R166). -/
def retireDie (s : State) (ch : FlashCh) (die : Fin 16) : State :=
  if !(s.flash.ch[ch].dies.contains die) then s
  else
    let hit : List Nat := match s.startup.settings with
      | some c => (s.flash.bands.filter fun b => b.members.contains ch && bandDie c b.num == die).map (·.num)
      | none => []
    let s := { s with flash := { s.flash with
      ch := vecMod s.flash.ch ch fun f => { f with dies := f.dies.filter fun d => d != die },
      retiredDies := s.flash.retiredDies ++ [(ch, die)],
      erases := s.flash.erases.filter fun e => !(e.ch == ch && e.die == die) } }
    let s := rewriteLost (leaveBands s hit (.restripeDie ch die)) ch (some die)
    let s := raise s 0x0402 []
    if s.flash.ch[ch].dies.isEmpty then flashChannelOut s ch else checkCapacity s

/-- A block set is retired (R165): logged, never used again, its live page groups to be moved out; a die with too many retired
block sets is retired (R166). -/
def retireBlockSet (s : State) (ch : FlashCh) (die : Fin 16) (idx : Nat) : State :=
  match s.startup.settings with
  | none => s
  | some c =>
    if (blockOf s ch die idx).retired then s
    else
      let s := setBlock s ch die idx fun b => { b with retired := true }
      let s := { s with flash := { s.flash with ch := vecMod s.flash.ch ch fun f => { f with grownBad := satAdd 8 f.grownBad 1 } } }
      let s := logEvent s 0x0481 1 []
      let hit := (s.flash.bands.filter fun b => b.members.contains ch && bandDie c b.num == die && bandSet c b.num == idx).map (·.num)
      let s := mendRows (leaveBands s hit .compaction) c
      if 40 * dieRetiredSets s ch die > c.blockSets then retireDie s ch die else checkCapacity s

/-! ## Erases (R148, R154–R157, R166, R179) -/

/-- The free pool is below its target (R179). -/
def freeLow (s : State) (c : Settings) : Bool := decide (freeBands s < poolTarget c)

/-- An erase may start now (R156, R157). -/
def mayErase (s : State) (c : Settings) : Bool := !saving s && !s.flash.brownOut && (!someAbsent s || freeLow s c)

/-- A member of a band in service whose block set is to be erased before the band is free: not retired, and not ERASED (R157, R165). -/
def toErase (s : State) (c : Settings) (n : Nat) (ch : FlashCh) : Bool :=
  memberUp s c n ch && !(blockOf s ch (bandDie c n) (bandSet c n)).retired && (blockOf s ch (bandDie c n) (bandSet c n)).run != .erased

/-- Members of a band that are to be erased. -/
def eraseLeft (s : State) (c : Settings) (n : Nat) : List FlashCh := (((bandOf s n).map (·.members)).getD []).filter (toErase s c n)

/-- A block set of the band is ERASE_INCOMPLETE: it is erased again before use (R157). -/
def brokenIn (s : State) (c : Settings) (n : Nat) : Bool :=
  (eraseLeft s c n).any fun ch => (blockOf s ch (bandDie c n) (bandSet c n)).run == .eraseIncomplete

/-- The LUN takes an erase: no erase runs or is suspended on it, and no program runs or waits (R154). -/
def lunIdle (s : State) (c : Settings) (ch : FlashCh) (die : Fin 16) : Bool :=
  fcReady s ch && !lunPrograms s c ch die && !(s.flash.erases.any fun e => e.ch == ch && e.die == die)

/-- Starts the erases of a closed band whose page groups nothing references, on the LUNs that take one
(in part DESIGN CHOICE, notes/assumptions/23). -/
def startErases (s : State) (c : Settings) (b : Band) : State :=
  let ops := ((eraseLeft s c b.num).filter fun ch => lunIdle s c ch (bandDie c b.num)).map fun ch =>
    ({ ch := ch, die := bandDie c b.num, index := bandSet c b.num, suspended := false, suspends := 0, resumedAt := s.clock.now,
       freeRide := someAbsent s } : EraseOp)
  { s with flash := { s.flash with erases := s.flash.erases ++ ops } }

/-- An erase of the band runs. -/
def erasing (s : State) (c : Settings) (n : Nat) : Bool :=
  s.flash.erases.any fun e => e.die == bandDie c n && e.index == bandSet c n

/-- Something still needs a page group of the band. -/
def bandNeeded (s : State) (n : Nat) : Bool := s.flash.pages.any fun p => p.band == n && referenced s p

/-- Bands that have been moved out, or hold only stale page groups, are erased once nothing references them (R148, R179)
(in part DESIGN CHOICE, notes/assumptions/23). -/
def eraseReady (s : State) : State :=
  match s.startup.settings with
  | none => s
  | some c =>
    s.flash.bands.foldl (fun s b =>
      let due := (s.flash.moves.any fun m => m.1 == b.num)
        || (b.closed && decide (freeBands s < poolTarget c + 64)) || brokenIn s c b.num
      if due && b.closed && mayErase s c && !bandNeeded s b.num then startErases s c b else s) s

/-- A band leaves the moved list. -/
def endMove (s : State) (n : Nat) : State := { s with flash := { s.flash with moves := s.flash.moves.filter fun m => m.1 != n } }

/-- The band has come back to the free pool: every member is erased, and none of its page groups is needed. -/
def dropErasedBand (s : State) (c : Settings) (n : Nat) : State :=
  if erasing s c n || !(eraseLeft s c n).isEmpty || bandNeeded s n then s
  else
    let s := endMove s n
    { s with flash := { s.flash with bands := s.flash.bands.filter fun b => b.num != n,
                                     pages := s.flash.pages.filter fun p => p.band != n } }

/-- A band whose last live page group has left is logged as re-striped where a die or channel was lost (0x0482). -/
def noteRestriped (s : State) (n : Nat) : State :=
  match s.flash.moves.find? fun m => m.1 == n with
  | some (_, .restripeDie _ _) => if (liveIn s n).isEmpty then logEvent s 0x0482 1 [] else s
  | some (_, .restripeChannel _) => if (liveIn s n).isEmpty then logEvent s 0x0482 1 [] else s
  | _ => s

/-- Suspends an erase of the LUN for a class 1 or class 2 operation (R154–R156): outside the exception at most 8 times, and at
least 500 µs of running between two suspensions, a whole millisecond in the model's clock
(in part DESIGN CHOICE, notes/assumptions/43). -/
def suspendErase (s : State) (ch : FlashCh) (die : Fin 16) : State :=
  { s with flash := { s.flash with erases := s.flash.erases.map fun e =>
      if e.ch = ch ∧ e.die = die ∧ !e.suspended
          ∧ (e.freeRide ∨ (e.suspends < 8 ∧ (e.suspends = 0 ∨ e.resumedAt < s.clock.now))) then
        { e with suspended := true, suspends := e.suspends + 1 }
      else e } }

/-! ## Reads (R158–R161) -/

/-- The read-retry base offset of a flash thermal band (Table 06-5). -/
def baseOffset (band : Nat) : Int := [0, -3, -6].getD band (-6)

/-- The ladder offset of an entry: entry 0 and the soft entry's middle add nothing, entries 1–7 what the image gives (Table 06-6). -/
def ladderOffset (c : Settings) (n : Nat) : Int := if n = 0 ∨ n = 8 then 0 else c.ladder.getD (n - 1) 0

/-- The threshold offset of a read: that of the channel's band, the block set's learned one, and the ladder entry's (R158). -/
def readOffset (s : State) (c : Settings) (ch : FlashCh) (die : Fin 16) (idx n : Nat) : Int :=
  baseOffset (min 2 s.flash.ch[ch].band) + (blockOf s ch die idx).learned + ladderOffset c n

/-- Ladder entries that a read has gone through. -/
def entriesRead : DecodeOutcome → Nat
  | .entry n _ => n.val + 1
  | _ => 9

/-- RAIN reconstruction has been started: for a class 2 read once entry 1 has failed, for any other once entry 8 has (R159, R160). -/
def reconstructs (demand : Bool) : DecodeOutcome → Bool
  | .entry n _ => demand && decide (2 ≤ n.val)
  | .byRain | .failed => true
  | .headerMismatch => false

/-- The reads that a page read has issued: its ladder entries on its own channel, and entry 0 on every other member of the row where a
reconstruction was started (R158–R160) (in part DESIGN CHOICE, notes/assumptions/77). -/
def countReads (s : State) (c : Settings) (ch : FlashCh) (die : Fin 16) (idx : Nat) (demand : Bool) (o : DecodeOutcome) : State :=
  let others := ((((bandOfSet c die idx).bind (bandOf s)).map (·.members)).getD []).filter fun m =>
    m != ch && memberUp s c (die.val * c.blockSets + idx - 64) m
  let note := fun (f : FlashChan) (i : FlashCh) (k n : Nat) => { f with reads := f.reads + k, readOffset := readOffset s c i die idx n }
  let one := fun (i : FlashCh) (f : FlashChan) =>
    if i = ch then note f i (entriesRead o) (entriesRead o - 1)
    else if reconstructs demand o && others.contains i then note f i 1 0
    else f
  { s with flash := { s.flash with ch := vecMap s.flash.ch one } }

/-- What a page read leaves behind: the learned offset, RETRY_HI, the refresh mark and the block test (R158, R161, R174). A read that
RAIN decoded has needed entry 4 or above. -/
def noteDecode (s : State) (ch : FlashCh) (die : Fin 16) (idx : Nat) (o : DecodeOutcome) : State :=
  let test := fun (s : State) => queueTest s (.blockSet ch die idx) none
  let retry := fun (s : State) => { s with flash := { s.flash with ch := vecMod s.flash.ch ch fun f =>
    { f with retryHi := recent s dayMs f.retryHi ++ [s.clock.now] } } }
  match o with
  | .entry n many =>
    let ladder := match s.startup.settings with | some c => c.ladder | none => []
    let s := setBlock s ch die idx fun b =>
      { b with learned := if n.val = 0 then 0 else if n.val = 8 then b.learned else ladder.getD (n.val - 1) b.learned,
               refresh := b.refresh || decide (n.val ≥ 4) || many }
    let s := if n.val ≥ 4 then retry s else s
    if n.val = 8 then test s else s
  | .byRain => test (retry (setBlock s ch die idx fun b => { b with refresh := true }))
  | .failed => test (retry s)
  | .headerMismatch => logEvent s 0x0082 2 []

/-- A page read has ended: of class 2 where it is a demand fetch's. -/
def noteRead (s : State) (ch : FlashCh) (die : Fin 16) (idx : Nat) (demand : Bool) (o : DecodeOutcome) : State :=
  let s := match s.startup.settings with
    | some c => countReads s c ch die idx demand o
    | none => s
  noteDecode s ch die idx o

/-! ## Seals (R177, R178, R194, R207) -/

/-- Granules on the poison record whole, whatever lines of them had been cleared (R197, R198). -/
def poisonLost (s : State) (gs : List Nat) : State := gs.foldl (fun s g => poisonGranule s g .internal) s

/-- Manifest chunks of the module. -/
def allChunks (c : Settings) : List Nat := List.range (ceilDiv (manifestBytes c) 65536)

/-- Places manifest chunks or root parts; none where one finds no place (R193) (in part DESIGN CHOICE, notes/assumptions/21). -/
def programMeta (s : State) (c : Settings) (kind : PageKind) (idx : List Nat) : Option State :=
  idx.foldl (fun s i => s.bind fun s => (placeAny s c (readyChannels s) kind i (keyIdNow s) [[]] none).map fun r => chargeWear r.1 65536)
    (some s)

/-- The bytes of a manifest entry (Table 06-13) (in part DESIGN CHOICE, notes/assumptions/21). -/
def chunkBytes (c : Settings) (e : Entry) : List Byte :=
  let st := match e.state with | .zero => 0 | .present => 1 | .lost => 2
  let place := bandRow c e.band % 16 * 2 ^ 56 + e.band % 2 ^ 15 * 2 ^ 40 + e.row % 2 ^ 10 * 2 ^ 30 + e.ch.val * 2 ^ 25 + e.seq % 2 ^ 25
  leBytes 8 (if st = 1 then st * 2 ^ 62 + place else st * 2 ^ 62)

/-- The five root parts of a generation (Table 06-14) (in part DESIGN CHOICE, notes/assumptions/21). -/
def rootBytes (c : Settings) (g : Generation) : List Byte :=
  let none_ : Entry := { state := .zero, band := 0, row := 0, ch := 0, seq := 0 }
  (List.range 16384).flatMap (fun k => chunkBytes c ((kvGet g.chunkMap k).getD none_))
    ++ (List.range 131072).map (fun r => BitVec.ofNat 8 (kvGetD g.heat r 0))
    ++ leBytes 8 (g.watermark.getD (2 ^ 64 - 1)) ++ [BitVec.ofNat 8 (g.rebuildCh.elim 255 (·.val)), BitVec.ofNat 8 (g.staleCh.elim 255 (·.val))]
    ++ List.replicate 6 0
    ++ (List.range 16384).map (fun i => BitVec.ofNat 8 ((List.range 8).map fun j => if g.stale.contains (8 * i + j) then 2 ^ j else 0).sum)
    ++ List.replicate (65536 - 16400) 0

/-- What a generation will hold, but for its number and what its seal record adds: the entries that its chunks carry, the metadata that
has been flushed and what the root carries. -/
def draftOf (s : State) (kind : SealKind) : Generation :=
  { kind := kind, gen := openGen s, prevGen := newestSealed s, lostFlag := false, retained := false, powerCycle := s.clock.pcycle,
    opTime := s.clock.opTime, keyId := keyIdNow s, wear := s.persist.wear, lost := 0,
    gran128 := (s.startup.settings.map (·.region128)).getD false, copies := (false, false),
    entries := s.flash.manifest, chunkMap := s.flash.chunkMap, root := none, rootCrc := 0, heat := s.persist.heat,
    watermark := if s.shroud.mode = .rebuild then some s.shroud.watermark else none,
    rebuildCh := if s.shroud.mode = .rebuild then s.shroud.channel else none,
    staleCh := s.shroud.staleCh, stale := s.shroud.stale, metaImg := s.persist.metaFlushed }

/-- A generation that is asked for writes its chunks: those changed, or every one (R167 step 5, R178, R194). In a save it waits for the
programs issued in phase 4, whose copies it references (in part DESIGN CHOICE, notes/assumptions/21). -/
def startChunks (s : State) (c : Settings) (j : SealJob) : State :=
  if saving s && s.persist.inflight.any (fun f => !f.pages.isEmpty) then s
  else
    let s := if saving s then s.persist.inflight.foldl settleFlush s else s
    let ks := if j.every then allChunks c else s.flash.chunks
    match programMeta { s with flash := { s.flash with chunks := [] } } c .chunk ks with
    | some t => { t with flash := { t.flash with sealJob := some { j with stage := .chunks, chunks := ks, draft := some (draftOf s j.kind) } } }
    | none => { s with flash := { s.flash with sealJob := none } }

/-- Page groups of a kind of the generation being written that have not passed. -/
def metaWaits (s : State) (kind : PageKind) : Bool := s.flash.pages.any fun p => p.kind == kind && !p.passed

/-- With its chunks written, a generation writes its root (in part DESIGN CHOICE, notes/assumptions/21). -/
def startRoot (s : State) (c : Settings) (j : SealJob) : State :=
  if metaWaits s .chunk then s
  else match programMeta s c .root (List.range 5) with
    | some t =>
      let d := (j.draft.map fun g => { g with chunkMap := t.flash.chunkMap }).map fun g => { g with rootCrc := crc32 (rootBytes c g) }
      { t with flash := { t.flash with sealJob := some { j with stage := .root, draft := d } } }
    | none => dropJob s

/-- With its root written, a generation closes the open rows and asks for its seal record (R151, R177)
(in part DESIGN CHOICE, notes/assumptions/21). -/
def startRecord (s : State) (c : Settings) (j : SealJob) : State :=
  if metaWaits s .root then s
  else closeAllRows { s with flash := { s.flash with sealJob := some { j with stage := .record } } } c

/-- A generation being written goes on as far as it can; a SAVE seal is asked for by phase 6
(in part DESIGN CHOICE, notes/assumptions/21). -/
def advanceSeal (s : State) : State :=
  match s.startup.settings with
  | none => s
  | some c =>
    let go := fun (st : SealStage) (f : State → SealJob → State) (s : State) => match s.flash.sealJob with
      | some j => if j.stage = st then f s j else s
      | none => s
    go .root (fun s j => if j.kind = .save then s else startRecord s c j) (go .chunks (fun s j => startRoot s c j)
      (go .asked (fun s j => startChunks s c j) s))

/-- Every page group that the generation references has its row's parity (R177). -/
def rowsSafe (s : State) (g : Generation) : Bool :=
  s.flash.pages.all fun p => p.kind == .parity || !genNames { g with chunkMap := s.flash.chunkMap, gen := openGen s } p || rowDone s p.band p.row

/-- The seal record may be written: chunks, root and the parity of every referenced row have passed (R177)
(in part DESIGN CHOICE, notes/assumptions/21). -/
def sealReady (s : State) (j : SealJob) : Bool := j.stage == .record && j.draft.any (rowsSafe s)

/-- Root part 0 of the open generation. -/
def rootAt (s : State) : Option Entry := entryAt s 0 fun p => p.kind == .root && p.gen == openGen s

/-- The seal record completes the draft (Table 06-15). -/
def newGeneration (s : State) (kind : SealKind) (d : Generation) (copies : Bool × Bool) : Generation :=
  { d with
    kind := kind, gen := openGen s, prevGen := newestSealed s, lostFlag := s.save.lostFlag && kind == .save,
    retained := kind == .save && inputGood s, powerCycle := s.clock.pcycle, opTime := s.clock.opTime, keyId := keyIdNow s,
    wear := s.persist.wear, lost := if kind = .save then s.save.lost else 0, copies := copies, root := rootAt s,
    metaImg := if kind = .save then { d.metaImg with poison := (poisonLost { s with host := { s.host with poison := d.metaImg.poison } }
      s.save.lostList).host.poison } else d.metaImg }

/-- GEN of each region: the generation in which its oldest clean granule was sealed (Table 02-2). -/
def regionGens (s : State) : List (Nat × DWord) :=
  s.flash.pages.foldl (fun m p =>
    if livePage s p then
      let old := kvGetD m (regionOf p.index) p.gen
      kvSet m (regionOf p.index) (if p.gen.toNat < old.toNat then p.gen else old)
    else m) []

/-- A generation is sealed (R177): it becomes the newest, the interval of R178 begins again, the erase counts are written (R172), and
band moves whose old copies only older generations held can be erased. The record of a mirror that failed does not exist (in part
DESIGN CHOICE, notes/assumptions/21). -/
def sealNow (s : State) (kind : SealKind) (d : Generation) (copies : Bool × Bool) : State :=
  let g := newGeneration s kind d copies
  eraseReady { s with
    flash := { s.flash with gens := s.flash.gens ++ [g], gen := g.gen, flushed := 0, sealedAt := s.clock.now, sealJob := none,
                            blocks := s.flash.blocks.map fun b => { b with saved := b.erases } },
    persist := { s.persist with regionGen := regionGens s } }

/-- A generation of a kind that has been asked for: with its changed chunks, or with every one for lost channels. -/
def askSeal (kind : SealKind) (restripe : List FlashCh) : SealJob :=
  { kind := kind, stage := .asked, every := !restripe.isEmpty, chunks := [], draft := none, attempts := 0, failed0 := false, failed1 := false,
    restripe := restripe }

/-- Asks for a generation of a kind. -/
def beginSeal (s : State) (kind : SealKind) : State := advanceSeal { s with flash := { s.flash with sealJob := some (askSeal kind []) } }

/-- Phase 4 ends by a cause, and the manifest is written (R193, R194). -/
def stopFlush (s : State) (cause : EndCause) : State :=
  let t := endFlush s cause
  if t.save.phase = 5 && s.save.phase = 4 && cause != .noPage then beginSeal t .save else t

/-- Lost channels whose bands hold no live page group any more. -/
def restriped (s : State) : List FlashCh :=
  s.flash.restripe.filter fun ch => !(s.flash.moves.any fun m => m.2 == .restripeChannel ch && !(liveIn s m.1).isEmpty)

/-- Step 5 of R167 is due: every live page group has left a lost channel's bands. -/
def restripeDue (s : State) : Bool := !(restriped s).isEmpty

/-- The checkpoint of R167 step 5, which writes every manifest chunk; never within 1 s of a seal (R178). -/
def restripeEnd (s : State) : State :=
  if !restripeDue s || s.flash.sealJob.isSome || saving s || !due s s.flash.sealedAt 1000 then s
  else advanceSeal { s with flash := { s.flash with sealJob := some (askSeal .checkpoint (restriped s)) } }

/-- The newest sealed generation. -/
def newestGen (s : State) : Option Generation := s.flash.gens.getLast?

/-- The newest sealed generation is of KIND SAVE or FORMAT: no host write is served (R207). -/
def needsCheckpoint (s : State) : Bool :=
  match newestGen s with
  | some g => g.kind == .save || g.kind == .format
  | none => true

end Sys2Proof.Machine
end

