-- ==== Sys2Proof/Machine/DramOps.lean ====
section
/-! DEFINITION. DRAM channels and Shroud: error records, retraining triggers, row repair and failed devices, channels that leave
service, and the passes that bring one back (R104–R120, R128–R139, R346, R347, R353). -/

namespace Sys2Proof.Machine

open Sys2Proof

/-- Shroud is on in the settings in force (R136). -/
def shroudOn (s : State) : Bool :=
  match s.startup.settings with
  | some c => c.shroudOn
  | none => false

/-- Changes a DRAM channel. -/
def setChan (s : State) (ch : DramCh) (f : DramChan → DramChan) : State :=
  { s with dram := { s.dram with ch := vecMod s.dram.ch ch f } }

/-- The channel is missing for Shroud in some stripe (chapter 05, "Reconstruction"). -/
def isMissing (d : DramChan) : Bool := runOf d == .outOfService || runOf d == .retraining || runOf d == .rebuilding

/-- Channels that are missing in some stripe. -/
def missingChannels (s : State) : List DramCh := (fins 17).filter fun i => isMissing s.dram.ch[i]

/-- The channel is missing for a stripe: out of service, retraining, or not yet reached by its rebuild (chapter 05,
"Reconstruction"; R132). -/
def missesStripe (s : State) (st : Nat) (i : DramCh) : Bool :=
  let r := runOf s.dram.ch[i]
  r == .outOfService || r == .retraining || (r == .rebuilding && decide (s.shroud.watermark ≤ st))

/-- Channels that are missing for a stripe. -/
def missingIn (s : State) (st : Nat) : List DramCh := (fins 17).filter (missesStripe s st)

/-- The channel is in service, sliced retraining included. -/
def chanUp (d : DramChan) : Bool := d.run == .inService || d.run == .sliced

/-- A stripe keeps its parity line: with Shroud on, and in the reserved areas (R136). -/
def underParity (s : State) (st : Nat) : Bool := shroudOn s || decide (hvBytes s ≤ 1024 * st)

/-- The line is one of a channel lost with Shroud off, kept in its stripe's parity slot until it is copied back (R137, R138). -/
def relocated (s : State) (line : Nat) : Bool :=
  (s.shroud.mode == .relocate || s.shroud.mode == .relocated) && s.shroud.channel == some (Config.channelOfLine line)
    && decide (64 * line < hvBytes s) && missesStripe s (stripeOf line) (Config.channelOfLine line)

/-- The channel that a line is read from and written to: its own, or that of its stripe's parity slot (R137). -/
def homeOf (s : State) (line : Nat) : DramCh :=
  if relocated s line then Config.parityChannel (stripeOf line) else Config.channelOfLine line

/-- The data line of a stripe that lies on a channel; none where the channel holds the parity line (R122). -/
def lineOn (ch : DramCh) (st : Nat) : Option Nat :=
  ((List.range 16).map fun i => 16 * st + i).find? fun l => Config.channelOfLine l == ch

/-! ## Accesses (R29, R90, R93–R95, Table 01-6) -/

/-- One access: an ACTIVATE of the bank, which wakes the rank, then one READ or WRITE with auto-precharge. At the threshold that the
devices report, a refresh management command is issued and the count of the bank begins again (R90, R93, R95)
(in part DEDUCED, notes/assumptions/47). -/
def accessChan (ch : DramCh) (rank : Fin 4) (bank : Nat) (isWrite : Bool) (a : ChanAccess) : ChanAccess :=
  let n := kvGetD a.acts bank 0 + 1
  let full := decide (n ≥ Config.rfmThreshold ch)
  { acts := if full then kvErase a.acts bank else kvSet a.acts bank n, rfms := if full then a.rfms + 1 else a.rfms,
    reads := if isWrite then a.reads else a.reads + 1, writes := if isWrite then a.writes + 1 else a.writes,
    powerDown := a.powerDown.set rank false }

/-- The physical rank in which the lines of a stripe lie. -/
def stripeRank (s : State) (st : Nat) : Fin 4 :=
  let r := Config.rankOfStripe st
  if (s.startup.settings.map (·.dramPranks)).getD 1 < 2 then Fin.ofNat 4 (2 * (r.val / 2)) else r

/-- The accesses to the lines of a stripe on some channels, one each. -/
def accessLines (s : State) (st : Nat) (isWrite : Bool) (chs : List DramCh) (v : Vector ChanAccess 17) : Vector ChanAccess 17 :=
  chs.foldl (fun v i => vecMod v i (accessChan i (stripeRank s st) (Config.bankOfStripe st) isWrite)) v

/-- Accesses are issued to the lines of a stripe on some channels: their ranks wake and IDLE ends (R90, R95, R419). -/
def touch (s : State) (st : Nat) (isWrite : Bool) (chs : List DramCh) : State :=
  { s with power := { s.power with idle := false }, dram := { s.dram with acc := accessLines s st isWrite chs s.dram.acc } }

/-- Channels of a stripe that are not missing. -/
def presentIn (s : State) (st : Nat) : List DramCh := (fins 17).filter fun i => !missesStripe s st i

/-- A line is read: one access, or the other 15 data lines and the parity line of its stripe where its own is missing (R128). -/
def readAccess (s : State) (line : Nat) : State :=
  let st := stripeOf line
  if missesStripe s st (homeOf s line) then touch s st false (presentIn s st) else touch s st false [homeOf s line]

/-- Accesses to every stripe of a granule. -/
def granuleAccess (s : State) (g : Nat) (isWrite : Bool) (chs : Nat → List DramCh) : State :=
  let n := linesPerGranule s / 16
  { s with power := { s.power with idle := false },
           dram := { s.dram with acc := (List.range n).foldl (fun v i => accessLines s (n * g + i) isWrite (chs (n * g + i)) v) s.dram.acc } }

/-- A granule is read whole for a flush or a save: one access per line, the parity line in place of a missing data line
(Table 01-6, R139). -/
def flushAccess (s : State) (g : Nat) : State :=
  granuleAccess s g false fun st =>
    if underParity s st then
      let up := presentIn s st
      if up.length < 17 then up else up.filter fun i => i != Config.parityChannel st
    else (List.range 16).map fun i => homeOf s (16 * st + i)

/-- A granule is written whole: every line of its stripes on the channels that are not missing (R16, R134, R140); with Shroud off the
data lines alone, a relocated one in its slot (R136, R137). -/
def restoreAccess (s : State) (g : Nat) : State :=
  granuleAccess s g true fun st =>
    if underParity s st then (fins 17).filter fun i => !missesStripe s st i || runOf s.dram.ch[i] == .rebuilding
    else (List.range 16).map fun i => homeOf s (16 * st + i)

/-! ## Parity lines (R122, R124, R131, R136) -/

/-- The XOR of the 16 data lines of a stripe. -/
def stripeXor (mem : List Host.Cell) (st : Nat) : Line :=
  (List.range 16).foldl (fun x i => x ^^^ readLine mem (16 * st + i)) 0

/-- A stripe's parity line is written. -/
def setParity (s : State) (st : Nat) (l : Line) : State :=
  { s with dram := { s.dram with parity := writeLine s.dram.parity st l } }

/-- The XOR of the bytes of an address range of usable DRAM, by stripe and byte of the line, put in place of the parity lines of its
stripes. -/
def parityOver (mem par : List Host.Cell) (st n : Nat) : List Host.Cell :=
  (cellsIn mem (1024 * st) (1024 * n)).foldl (fun p x => xorByte p (64 * (x.1 / 1024) + x.1 % 64) x.2) (clearRange par (64 * st) (64 * n))

/-- The parity lines of a granule follow the data it holds. -/
def granuleParity (s : State) (g : Nat) : State :=
  let n := linesPerGranule s / 16
  if underParity s (n * g) then
    { s with dram := { s.dram with parity := parityOver s.dram.mem s.dram.parity (n * g) n } }
  else s

/-! ## Records (R120) -/

/-- The payload of Table 04-8 (in part DESIGN CHOICE, notes/assumptions/16). -/
def dramPayload (type : Nat) (ch : DramCh) (row : Option RowId) (column device beats dq count : Nat) : List Byte :=
  let r : RowId := row.getD { sub := 0, prank := 0, lrank := 0, bg := 0, bank := 0, row := 0 }
  leBytes 16 (ch.val + r.sub.val * 2 ^ 5 + r.prank.val * 2 ^ 6 + r.lrank.val * 2 ^ 7 + r.bg.val * 2 ^ 10 + r.bank.val * 2 ^ 13
    + r.row.toNat * 2 ^ 15 + column % 2048 * 2 ^ 33 + device * 2 ^ 44 + type * 2 ^ 48 + dq * 2 ^ 52 + beats * 2 ^ 56
    + count * 2 ^ 72)

/-- Logs a DRAM error record of a type 0x1–0x8 under code 0x0380 + type (WARNING, R362). Of an access error the beats in error, and
the DQ lines where the decoding does not say them, are what the device showed: free values
(in part DESIGN CHOICE, notes/assumptions/16; DEDUCED, notes/assumptions/75). -/
def logDram (s : State) (type : Nat) (ch : DramCh) (row : Option RowId) (column device : Nat) (lanes : Option (BitVec 4)) : State :=
  let access := row.isSome && (type == 1 || type == 2 || type == 3)
  let beats := if access then (Config.errorBeats s.fresh).toNat else 0
  let dq := if access then (lanes.getD (Config.errorDq s.fresh)).toNat else 0
  logEvent { s with fresh := s.fresh + 1 } (BitVec.ofNat 16 (0x0380 + type)) 1
    (dramPayload type ch row column device beats dq 1)

/-! ## Channel out of service (R116, R118, R130) -/

/-- The mode that the channels give (Table 05-4), with Shroud on. -/
def shroudModeOf (s : State) : ShroudMode :=
  if (s.dram.ch.toList.any fun d => runOf d == .outOfService) then .reconstruct
  else if (s.dram.ch.toList.any fun d => runOf d == .rebuilding) then .rebuild
  else if (s.dram.ch.toList.any fun d => runOf d == .retraining) then .retrain
  else .full

/-- MODE and CHANNEL follow the channels. -/
def setShroudMode (s : State) : State :=
  if shroudOn s then
    { s with shroud := { s.shroud with mode := shroudModeOf s, channel := (missingChannels s).head? } }
  else s

/-- The granule leaves the dirty set poisoned, its entry LOST; the poison is logged and reported (R40, R118). -/
def poisonDirty (s : State) (g : Nat) : State := raise (markLost (poisonGranule s g .internal) g) 0x0203 []

/-- Granules are marked LOST in the save that runs: they leave the dirty set and count in LOST (R130, R139, R197). -/
def loseInSave (s : State) (hit : List Nat) : State :=
  let t := hit.foldl markLost s
  { t with save := { t.save with lost := t.save.lost + hit.length, lostFlag := t.save.lostFlag || !hit.isEmpty,
                                 lostList := t.save.lostList ++ hit },
           persist := { t.persist with dirty := t.persist.dirty.filter fun d => !hit.contains d.1,
                                       inflight := t.persist.inflight.filter fun f => !hit.contains f.granule } }

/-- The dirty granules of host-visible capacity: with Shroud off they alone are without parity (R118, R136). -/
def visibleDirty (s : State) : List Nat := (dirtyGranules s).filter fun g => decide (g < hvGranules s)

/-- A channel lost with Shroud off: every dirty or in-flight granule of host-visible capacity is poisoned and leaves the dirty set, and
the relocation fill begins; during a save they are marked LOST, and the fill waits for the save's end (R118, R137, R139). -/
def loseUnshrouded (s : State) (ch : DramCh) : State :=
  let hit := visibleDirty s
  let t := if saving s then loseInSave s hit
    else
      let s := hit.foldl poisonDirty s
      let s := if hit.isEmpty then s else countDirtyShutdown s
      { s with persist := { s.persist with dirty := s.persist.dirty.filter fun d => !hit.contains d.1,
                                           inflight := s.persist.inflight.filter fun f => !hit.contains f.granule } }
  { t with shroud := { t.shroud with mode := .relocate, channel := some ch, watermark := 0, filled := [],
                                     pass := if saving t then none else some .relocationFill,
                                     left := if saving t then 0 else hvRegions t } }

/-- Dirty granules that hold a line which neither of two missing channels can supply: every granule has lines on every channel, so all
but those wholly below the watermark of the one that is being rebuilt (R130, R132). -/
def neitherSupplies (s : State) : List Nat :=
  (dirtyGranules s).filter fun g => ((List.range (linesPerGranule s / 16)).any fun i =>
    decide (2 ≤ (missingIn s (linesPerGranule s / 16 * g + i)).length))

/-- A channel leaves service: RESET_N asserted, refresh stopped (R116). A second missing channel stops admission and starts a
commanded save (R130). -/
def channelOut (s : State) (ch : DramCh) : State :=
  let others := (missingChannels s).filter fun i => i != ch
  let s := setChan s ch fun d => { d with run := .outOfService, resetN := false, rate := 0, slicesLeft := 0,
                                          debt := Vector.replicate 32 0, retryAt := s.clock.now }
  let s := { s with dram := { s.dram with retrainQ := s.dram.retrainQ.filter fun i => i != ch } }
  let s := raise s 0x0301 []
  if !others.isEmpty then
    let s := triggerSave (evalPsub { s with shroud := { s.shroud with channel2 := some ch }, host := { s.host with stopped := true } })
      .secondChannel
    if saving s then loseInSave s (neitherSupplies s) else s
  else if shroudOn s then
    evalPsub (setShroudMode { s with shroud := { s.shroud with pass := none, watermark := 0, left := 0 } })
  else evalPsub (loseUnshrouded s ch)

/-- Training or retraining finds no setting (R116, record type 0x7). -/
def trainingFails (s : State) (ch : DramCh) : State := channelOut (logDram s 7 ch none 0 0 none) ch

/-! ## Retraining triggers (R112) -/

/-- Puts a channel into the retraining queue, in channel order (R113). -/
def queueRetrain (s : State) (ch : DramCh) : State :=
  if s.dram.retrainQ.contains ch || !chanUp s.dram.ch[ch] || s.dram.ch[ch].run == .sliced then s
  else { s with dram := { s.dram with retrainQ := (fins 17).filter fun i => i == ch || s.dram.retrainQ.contains i } }

/-- A retraining condition of items 2 to 4 of R112: the sixth within 24 h takes the channel out of service (Table 14-2). -/
def errorRetrain (s : State) (ch : DramCh) : State :=
  let s := setChan s ch fun d => { d with triggers := recent s dayMs d.triggers ++ [s.clock.now] }
  if s.dram.ch[ch].triggers.length ≥ 6 then channelOut s ch else queueRetrain s ch

/-- Times of the last second with the present one. -/
def inSecond (s : State) (ts : List Nat) : List Nat := recent s 1000 ts ++ [s.clock.now]

/-- A write CRC replay: 8 within 1 s ask for a retraining (in part DEDUCED, notes/assumptions/75). -/
def countCrc (s : State) (ch : DramCh) : State :=
  let s := setChan s ch fun d => { d with crcTimes := inSecond s d.crcTimes }
  if s.dram.ch[ch].crcTimes.length ≥ 8 then errorRetrain (setChan s ch fun d => { d with crcTimes := [] }) ch else s

/-- An address mismatch: 3 within 1 s ask for a retraining. -/
def countMismatch (s : State) (ch : DramCh) : State :=
  let s := setChan s ch fun d => { d with mismatchTimes := inSecond s d.mismatchTimes }
  if s.dram.ch[ch].mismatchTimes.length ≥ 3 then errorRetrain (setChan s ch fun d => { d with mismatchTimes := [] }) ch else s

/-- 64 or more of some correctable errors share a DQ lane position, across three or more devices (R112). -/
def sharedLane (es : List LaneError) : Bool :=
  (List.range 4).any fun i =>
    let hit := es.filter fun e => e.dq.getLsbD i
    decide (64 ≤ hit.length) && decide (3 ≤ (hit.map fun e => (e.rank, e.device)).eraseDups.length)

/-- A correctable error of a device on some of its DQ lanes is counted; 64 within 1 s on one lane position ask for a retraining
(R112). -/
def countCorrectable (s : State) (ch : DramCh) (rank : Fin 4) (dev : Fin 10) (dq : BitVec 4) : State :=
  let s := setChan s ch fun d => { d with
    ceTimes := recent s dayMs d.ceTimes ++ [s.clock.now],
    laneErrors := (d.laneErrors.filter fun e => decide (s.clock.now < 1000 + e.at_)) ++ [⟨s.clock.now, dq, rank, dev⟩] }
  if sharedLane s.dram.ch[ch].laneErrors then errorRetrain (setChan s ch fun d => { d with laneErrors := [] }) ch else s

/-! ## Devices and rows (R106, R107, R346, R347, R353) -/

/-- A device is marked failed; a second one of its physical rank takes the channel out of service with Shroud on (R107). -/
def markDevice (s : State) (ch : DramCh) (rank : Fin 4) (dev : Fin 10) : State :=
  if s.dram.ch[ch].failed.contains (rank, dev) then s
  else
    let second := s.dram.ch[ch].failed.any fun f => f.1 == rank
    let s := setChan s ch fun d => { d with failed := d.failed ++ [(rank, dev)] }
    let s := logDram s 6 ch (some { sub := Fin.ofNat 2 (rank.val / 2), prank := Fin.ofNat 2 rank.val, lrank := 0, bg := 0, bank := 0, row := 0 })
      0 dev.val none
    let s := raise s 0x0302 []
    if second && shroudOn s then channelOut s ch else evalPsub s

/-- A row is retired: repaired and entered in the list, or its device marked failed when the repair would be the fourth within
24 h across two or more banks or the channel's list is full (R347, R353, Table 14-2). -/
def retireRow (s : State) (ch : DramCh) (row : RowId) (dev : Fin 10) : State :=
  if fourthRepair s ch row dev || decide (rowEntriesOf s ch ≥ 24) then markDevice s ch row.rank dev
  else
    let s := addRepair s (.row ch row dev)
    let s := { s with faults := { s.faults with repairLog :=
      s.faults.repairLog ++ [(ch, row.rank, dev, 4 * row.bg.val + row.bank.val, s.clock.opTime)] } }
    if rowEntriesOf s ch = 20 then raise s 0x0A04 [ch.val, 20] else s

/-! ## Poison by an error (R79, R129) -/

/-- A line that nothing can reconstruct is poisoned and reported; with Shroud on it counts in UNRECOV, whether its own line or one that
its reconstruction read was in error (R129) (in part DESIGN CHOICE, notes/assumptions/102). -/
def poisonLine (s : State) (line : Nat) : State :=
  let s := if shroudOn s then { s with shroud := { s.shroud with unrecov := satAdd 16 s.shroud.unrecov 1 } } else s
  let s := { s with persist := { s.persist with poisonFlag := insertNat s.persist.poisonFlag (regionOf (lineGranule s line)) } }
  raise (addPoison s line .internal) 0x0203 []

/-- A detected error that nothing can reconstruct (Table 04-7). -/
def uncorrectable (s : State) (line : Nat) (ch : DramCh) (row : RowId) (col : Nat) : State :=
  queueTest (logDram (poisonLine s line) 3 ch (some row) col 15 none) (.row ch row) none

/-- A detected two-device error in the read of a line: the line is reconstructed from the other 16 of its stripe, written back and read
again, where its stripe keeps parity and misses no channel; else it is poisoned. A clean read-back counts with the channel's errors
(Table 04-7, R129, R132) (in part DEDUCED, notes/assumptions/17). -/
def detected (s : State) (line : Nat) (ch : DramCh) (row : RowId) (col : Nat) (clean : Bool) : State :=
  let st := stripeOf line
  if underParity s st && (missingIn s st).isEmpty then
    let s := logDram (touch (touch (touch s st false (presentIn s st)) st true [ch]) st false [ch]) 2 ch (some row) col 15 none
    if clean then setChan s ch fun d => { d with ceTimes := recent s dayMs d.ceTimes ++ [s.clock.now] }
    else queueTest s (.row ch row) none
  else uncorrectable s line ch row col

/-- What a read made for a line finds, on its own channel or on one that its reconstruction reads, by Table 04-7. In a rank with a
marked device the errors of that device are erased and those of another are detected, not corrected (R106)
(in part DEDUCED, notes/assumptions/17). -/
def eccEffect (s : State) (line : Nat) (e : EccOutcome) : State :=
  match e with
  | .clean => s
  | .corrected ch row col dev dq =>
    if s.dram.ch[ch].failed.contains (row.rank, dev) then s
    else if s.dram.ch[ch].failed.any fun f => f.1 == row.rank then detected s line ch row col false
    else
      let s := countCorrectable (touch s (stripeOf line) true [ch]) ch row.rank dev dq
      queueTest (logDram s 1 ch (some row) col dev.val (some dq)) (.line ch row col) none
  | .twoDevices ch row col clean => detected s line ch row col clean
  | .unreconstructable ch row col => uncorrectable s line ch row col
  | .addressMismatch ch row col again =>
    let s := countMismatch (logDram (touch s (stripeOf line) false [ch]) 4 ch (some row) col 15 none) ch
    if again then detected s line ch row col false else s

/-- What the reads of some lines find: the outcomes of those that `p` says were read (in part DESIGN CHOICE, notes/assumptions/18). -/
def eccEffects (s : State) (errs : List (Nat × EccOutcome)) (p : Nat → Bool) : State :=
  errs.foldl (fun s e => if p e.1 then eccEffect s e.1 e.2 else s) s

/-! ## Passes (R114, R131, R134, R138) -/

/-- Stripes that the training rows occupy: one row per bank group in each logical rank, 128 lines of each channel to a row (R108,
R122) (in part PRESUMED, notes/assumptions/103). -/
def trainingStripes (c : Settings) : Nat := 2 * c.dramPranks * c.dramStack * 8 * 128

/-- Stripes of the stripe map: usable DRAM less the training rows, which are taken from its end, in the metadata area (R122)
(in part PRESUMED, notes/assumptions/103). -/
def allStripes (s : State) : Nat :=
  match s.startup.settings with
  | some c => usableBytes c / 1024 - trainingStripes c
  | none => 0

/-- Stripes of a granule. -/
def granuleStripes (s : State) : Nat := linesPerGranule s / 16

/-- Stripes of a region. -/
def regionStripes (s : State) : Nat := 1024 * granuleStripes s

/-- The regions of a pass that begins now: all of them, or those of the stale map. -/
def passRegions (s : State) (k : PassKind) : Nat :=
  if k = .staleRewrite then s.shroud.stale.length else ceilDiv (allStripes s) (regionStripes s)

/-- A pass begins at its first stripe. -/
def beginPass (s : State) (k : PassKind) : State :=
  { s with shroud := { s.shroud with
      pass := some k, left := passRegions s k,
      watermark := if k = .staleRewrite then regionStripes s * s.shroud.stale.headD 0 else 0 } }

/-- A pass ends: a rebuilt or rewritten channel is in service again (R114, R117), unless a restore still has to write it (R134). -/
def endPass (s : State) : State :=
  let done := fun (s : State) => { s with shroud := { s.shroud with pass := none, watermark := 0, left := 0 } }
  match s.shroud.pass, s.shroud.channel with
  | some .rebuild, some ch | some .copyBack, some ch =>
    if s.restore.running then { s with shroud := { s.shroud with pass := none, left := 0 } }
    else
      let s := setChan (done s) ch fun d => { d with run := .inService, resetN := true }
      let s := if shroudOn s then setShroudMode s
        else { s with shroud := { s.shroud with mode := .off, channel := none, filled := [] } }
      evalPsub s
  | some .staleRewrite, some ch =>
    let s := setChan (done s) ch fun d => { d with run := .inService }
    setShroudMode { s with shroud := { s.shroud with stale := [], staleCh := none } }
  | some .relocationFill, some ch =>
    let s : State := { done s with shroud := { (done s).shroud with mode := .relocated } }
    if s.dram.ch[ch].run = .rebuilding then beginPass s .copyBack else s
  | _, _ => done s

end Sys2Proof.Machine
end

