-- ==== Sys2Proof/Machine/Regs.lean ====
section
/-! DEFINITION. The device block as it reads: every register of Table 22-3 from the state, its reset value while its block
does not run (R503), the estimator state block (Table 09-4) and the snapshots (R470). -/

namespace Sys2Proof.Machine

open Sys2Proof

/-! ## Field helpers -/

/-- A saturating field of `w` bits. -/
def sat (w v : Nat) : Nat := min v (2 ^ w - 1)

/-- An exact quantity rounded down or up into a saturating field (in part DESIGN CHOICE, notes/assumptions/10). -/
def fieldDown (w : Nat) (r : Rat) : Nat := sat w (floorNat r)

/-- Rounded up (in part DESIGN CHOICE, notes/assumptions/10). -/
def fieldUp (w : Nat) (r : Rat) : Nat := sat w (ceilNat r)

/-- A temperature of 1/1024 °C in units of 0.5 °C, 10 bits, rounded down. -/
def halfDegrees (t : Int) : Nat := signedBits 10 (t / 512)

/-- The highest of the filtered maxima of a kind, in a register field; 0 with none. -/
def maxField (ts : List (Option Int)) : Nat :=
  match maxInt (ts.filterMap id) with
  | some t => halfDegrees t
  | none => 0

/-- Minutes since a time, saturating at 0xFFFF; 0xFFFF with none. -/
def ageMinutes (s : State) : Option Nat → Nat
  | none => 65535
  | some t => sat 16 ((s.clock.opTime - t) / 60000)

/-! ## The estimator state block (Table 09-4) -/

/-- u in 0.1 %, rounded up; 25.0 % before settings are in force. -/
def uTenths (s : State) : Nat :=
  match s.startup.settings with
  | some c => ceilNat (uncertainty s c.pack * 1000)
  | none => 250

/-- soc in 0.01 %. -/
def socX (s : State) : Nat :=
  match s.startup.settings with
  | some c => floorNat (stateOfCharge s c.pack * 10000)
  | none => 0

/-- Bytes [251:0] of the live block. -/
def esbBody (s : State) : List Byte :=
  let flags := 2 * bit s.pack.esbDefault + 4 * bit s.pack.changed + 8 * bit s.pack.restDue + 16 * bit s.pack.idUnknown
  padTo (leBytes 4 0x51564542 ++ leBytes 2 2 ++ leBytes 2 flags ++ padTo (if s.pack.idUnknown then [] else s.pack.serial) 16 ++ leBytes 4 s.pack.nefc
    ++ leBytes 4 s.pack.qres ++ leBytes 2 s.pack.restOcv ++ leBytes 2 s.pack.uBase ++ leBytes 2 (uTenths s)
    ++ leBytes 4 (floorNat (hoursSince s * 100)) ++ leBytes 6 s.pack.restTime ++ leBytes 8 s.pack.changeSeq
    ++ leBytes 4 s.clock.pcycle.toNat ++ leBytes 2 (socX s)) 252

/-- The live block with its CRC (R253). -/
def esbBlock (s : State) : List Byte := esbBody s ++ leBytes 4 (crc32 (esbBody s)).toNat

/-- R259 is met. -/
def fwSocOk (s : State) : Bool :=
  match s.startup.settings with
  | none => false
  | some c =>
    let d := (1 - uncertainty s c.pack) * c.pack.eDesign * fadeFactor c.pack s.pack.nefc * derate c.pack (packTemp s)
    if d ≤ 0 then false
    else decide (stateOfCharge s c.pack ≥ margin * (eFloor + eMan s c + eSeal) / d + 20 / 100)

/-! ## Identity and state -/

/-- A number from the settings in force; 0 while there are none (R503). -/
def ofSettings (s : State) (f : Settings → Nat) : Nat :=
  match s.startup.settings with
  | some c => f c
  | none => 0

/-- QV_CAPS. -/
def regCaps (s : State) : Word :=
  packFields [(0x11, 24), (0x20, 16), (s.startup.split.toNat, 12), (ofSettings s fun c => bit c.bank.isSome, 11),
    (ofSettings s fun c => bit (c.hasHalyard && c.position != 0), 10), (4, 4), (if s.startup.fuse80 then 2 else 1, 0)]

/-- QV_STATE.POWER (R420) (in part DEDUCED, notes/assumptions/50). -/
def powerCode (s : State) : Nat :=
  if s.power.starting then 0
  else match s.power.state with
    | .run => 1 | .save => 2 | .restore => 3 | .crocus => 4 | .standby => 5 | .off | .ship => 0

/-- QV_STATE. -/
def regState (s : State) : Word :=
  packFields [(powerCode s, 28), (bit s.power.idle, 27), (bit s.power.minimal, 26),
    (match s.persist.psub with | some p => psubCode p | none => 3, 24), (bit s.security.lowering, 23)]

/-- QV_HEALTH. -/
def regHealth (s : State) : Word :=
  let eng := s.engines.eng.toList
  packFields [((eng.filter fun e => e.role == some .spare && e.run != .retired).length, 29),
    (sat 5 (eng.filter fun e => e.run == .retired).length, 24), (sat 8 (rowEntries s), 16),
    (sat 4 (s.dram.ch.toList.map fun d => d.failed.length).sum, 12), (sat 4 s.faults.retiredLanes.length, 8),
    (sat 4 (s.faults.tests.filter fun t => t.running).length, 4),
    (sat 4 (s.thermal.site.toList.filter fun t => t.run == .retired).length, 0)]

/-! ## Start-up and code flash -/

/-- QV_BOOT.PATH codes. -/
def pathCode : BootPath → Nat
  | .inProgress => 0 | .restore => 1 | .format => 2 | .retained => 3 | .minimal => 4 | .crocus => 5

/-- QV_BOOT. -/
def regBoot (s : State) : Word :=
  let u := s.startup
  packFields [(pathCode u.path, 28), (u.step, 24), (u.minCause, 20), (bit u.twin, 19), (bit u.twinOver, 18),
    (bit u.ovrIgnored, 17), (bit u.kept, 16), (bit u.locked, 15)]

/-- QV_SHEET. -/
def regSheet (s : State) : Word :=
  let u := s.startup
  packFields [(u.sheetResult, 28), (u.sheetCheck, 24), (u.sheetSection.toNat, 8), (sat 8 u.sheetSkipped, 0)]

/-- The 7-bit SMBus address from STRAP[2:0] (Table 12-1): 0x40 + STRAP. -/
def smbAddress (s : State) : Nat := 0x40 + s.startup.strapLow.toNat

/-- QV_STRAPS. -/
def regStraps (s : State) : Word :=
  packFields [(smbAddress s, 16), (s.startup.strapHigh.toNat, 3), (s.startup.strapLow.toNat, 0)]

/-- QV_CF_STAT (in part DESIGN CHOICE, notes/assumptions/35). -/
def regCfStat (s : State) : Word :=
  let op := match s.cf.op with | .idle => 0 | .program => 1 | .erase => 2 | .suspended => 3
  packFields [(op, 30), (s.cf.sector, 17), (bit s.cf.notDone, 16), (bit s.cf.refusedAccess, 15), (sat 8 s.cf.corrected, 0)]

/-- QV_CF_SEL. -/
def regCfSel (s : State) : Word :=
  if !coreUp s then 0 else packFields [((bootRecord s).elim 0 (·.1), 16), (sat 8 (blankSlots s (sectorBase secBootSel) 256), 8),
    (sat 8 (blankSlots s (sectorBase secFwSel) 256), 0)]

/-! ## Persistence -/

/-- QV_PCTL. -/
def regPctl (s : State) : Word :=
  match s.startup.settings with
  | none => 0
  | some c => packFields [(if c.region128 then 2 else 1, 30), (bit c.shroudOn, 29), (c.wearMax, 26),
      (sat 16 (ceilDiv c.capMib 1024), 0)]

/-- QV_CEIL_CAUSE. -/
def regCeilCause (s : State) : Word :=
  let k := s.persist.ceiling
  packFields [(k.updateSeq, 16), (bit k.uncov, 13), (bit k.isOver, 12), (bit k.esbDefault, 11), (bit k.packChanged, 10),
    (bit k.bankLost, 9), (bit k.packLost, 8), (bit k.flashRate, 7), (bit k.savePower, 6), (bit k.restDue, 5),
    (bit k.cold, 4), (k.limit, 0)]

/-- QV_DIRTY_CEIL. -/
def regDirtyCeil (s : State) : Word :=
  let k := s.persist.ceiling
  BitVec.ofNat 32 (if k.limit = 15 ∨ k.limit = 4 then 0 else sat 32 (mibDown k.c))

/-- Codes of the flush classes. -/
def classCode : FlushClass → Nat
  | .none => 0 | .background => 1 | .holding => 2 | .coverage => 3

/-- QV_FLUSH_RATE: bytes per 100 ms in units of 0.1 GB/s. -/
def regFlushRate (s : State) : Word :=
  packFields [(sat 14 (s.persist.issuedLast / 10000000), 18), (sat 14 (s.persist.fIn / 10000000), 4),
    (bit !s.persist.wearPos, 3), (bit s.restore.window, 2), (classCode s.persist.cls, 0)]

/-- QV_SAVE_STAT.TRIGGER codes (Table 07-1). -/
def triggerCode : Trigger → Nat
  | .pfN => 1 | .vinSense => 2 | .saveAndOff => 3 | .orderlyPress => 4 | .forcedPress => 5 | .dieTrip => 6
  | .dramEmergency => 7 | .secondChannel => 8 | .flashCapacity => 9 | .noDonor => 10

/-- STORE codes. -/
def storeCode : Store → Nat
  | .input => 0 | .pack => 1 | .bank => 2 | .none => 3

/-- END_CAUSE codes. -/
def endCode : EndCause → Nat
  | .empty => 0 | .mark => 1 | .voltage => 2 | .thermal => 3 | .noPage => 4

/-- QV_SAVE_STAT. -/
def regSaveStat (s : State) : Word :=
  let v := s.save
  packFields [(v.phase, 28), (v.trigger.elim 0 triggerCode, 24), (storeCode v.store, 22), (endCode v.endCause, 19),
    (bit v.retained, 18), (bit v.lostFlag, 17), (bit v.switched, 16), (bit v.overrun, 15), (sat 7 v.extra, 8)]

/-- The plan that the registers show: none until the first computation after a start-up (R47), though the plan itself outlives a reset of
the data path (R308). -/
def shownPlan (s : State) : SavePlan := if s.persist.ceiling.limit = 15 then resetPlan else s.persist.plan

/-- QV_PLAN_INFO. -/
def regPlanInfo (s : State) : Word :=
  let p := shownPlan s
  packFields [(p.updateSeq, 24), (p.store, 22), (p.vPlan, 0)]

/-- The four mark registers, 0 while STORE is 0b11. -/
def planMarkRegs (s : State) : List Word :=
  let p := shownPlan s
  [p.mMan, p.mSeal, p.mRet, p.qFlush].map fun m => BitVec.ofNat 32 (if p.store = 3 then 0 else fieldDown 32 m)

/-! ## Restore -/

/-- QV_RST_STAT.LEFT. -/
def regionsLeft (s : State) : Nat :=
  if s.restore.running then hvRegions s - s.restore.presentR.length - s.restore.lostR.length else s.restore.leftKept

/-- QV_RST_STAT. -/
def regRstStat (s : State) : Word :=
  let r := s.restore
  packFields [(r.phase, 28), (r.source, 26), (r.cause, 24), (bit r.hold, 23), (bit r.window, 22), (bit r.slow, 21),
    (sat 18 (regionsLeft s), 0)]

/-- QV_RST_FETCH (in part DEDUCED, notes/assumptions/55). -/
def regRstFetch (s : State) : Word :=
  packFields [(sat 12 s.restore.boundUs, 20), (sat 12 s.restore.maxUs, 8), (sat 8 s.restore.isOver, 0)]

/-! ## Energy -/

/-- QV_E_SOC. -/
def regSoc (s : State) : Word :=
  let src := match s.pack.socSrc with | .none => 0 | .reading => 1 | .rest => 2 | .termination => 3
  packFields [(sat 14 (socX s), 18), (src, 16), (fieldDown 16 (s.persist.ceiling.ePack / 8), 0)]

/-- QV_E_RESERVE. -/
def regReserve (s : State) : Word :=
  let eb := match s.startup.settings with
    | some c => match c.bank with
      | some b => fieldDown 16 (bankEnergy s b)
      | none => 0
    | none => 0
  packFields [(fieldUp 16 (s.persist.ceiling.eRes / 8), 16), (eb, 0)]

/-- QV_E_UNCERT. -/
def regUncert (s : State) : Word :=
  packFields [(sat 8 (uTenths s), 24), (sat 8 s.pack.uBase, 16), (fieldDown 16 (hoursSince s), 0)]

/-- QV_E_CTL.PACK_COND codes (Table 09-2). -/
def condCode : PackCond → Nat
  | .qualified => 0 | .absent => 1 | .voltage => 2 | .impedance => 3 | .charger => 4 | .shunt => 5 | .window => 6
  | .notYet => 7

/-- QV_E_CTL. -/
def regECtl (s : State) : Word :=
  let p := s.pack
  let chg := match s.charger.run with | .held => 0 | .charging => 1 | .terminated => 2 | .forcedLow => 3
  let bank := match s.bank.run with | .charging => 0 | .qualified => 1 | .failed => 2 | .absent => 3
  packFields [(bit p.hibernate, 31), (bit p.restActive, 30), (bit p.restDue, 29), (bit p.changed, 28),
    (bit p.esbDefault, 27), (bit p.idUnknown, 26), (bit p.present, 25), (bit p.ship, 24), (condCode p.cond, 21), (chg, 19),
    (bank, 17), (bit (fwSocOk s), 16)]

/-- QV_E_TEMP. -/
def regETemp (s : State) : Word :=
  let src := match s.pack.tempSrc with | .ntc => 0 | .remote => 1 | .none => 2
  packFields [(signedBits 8 (s.pack.temp / 10), 24), (src, 22), (sat 16 s.bank.voltage, 0)]

/-! ## Temperature -/

/-- QV_T_MAX. -/
def regTMax (s : State) : Word :=
  packFields [(maxField [dieMax s], 22), (maxField ((fins 17).map (dramMax s)), 12),
    (maxField ((fins 32).map (nandMax s)), 2)]

/-- QV_T_BAND. -/
def regTBand (s : State) : Word :=
  let t := s.thermal
  let die := if t.dieTrip then 2 else if t.dieReef then 1 else 0
  let dram := if t.dram.any (·.emergency) then 3 else if t.dram.any (·.reef) then 2
    else if s.dram.ch.any (·.band2x) then 1 else 0
  let nand := if t.nand.any (·.isOver) then 3 else if t.nand.any (·.band2) then 2 else if t.nand.any (·.band1) then 1 else 0
  packFields [(die, 30), (dram, 28), (nand, 26), (bit t.dieHot, 25), (ofSettings s fun c => bit c.singleMode, 24),
    (bit t.forcedNand, 23), (bit t.forcedDram, 22), (bit t.forcedDie, 21), (bit t.atMinNand, 20), (bit t.atMinDram, 19),
    (bit t.atMinDie, 18), ((t.site.toList.filter fun x => x.run == .plausible).length, 0)]

/-- QV_REEF (in part DEDUCED, notes/assumptions/44). -/
def regReef (s : State) : Word :=
  let r := s.thermal.reef
  packFields [(reefLevel s, 29), (bit (r.wear != 0), 28), (bit (r.ceil != 0), 27),
    (bit (r.nand != 0), 26), (bit (r.dram != 0), 25), (bit (r.die != 0), 24), (r.wear, 12), (r.ceil, 9), (r.nand, 6),
    (r.dram, 3), (r.die, 0)]

/-- QV_T_TRIP. -/
def regTTrip (s : State) : Word :=
  let t := s.thermal
  packFields [(bit t.latched, 31), (t.tripKind, 28), (signedBits 10 t.tripTemp, 18), (t.tripSite, 13), (t.tripCh, 8),
    (bit t.pending.isSome, 7)]

/-- QV_T_SITE[n]. -/
def regTSite (t : SiteState) : Word :=
  let st := match t.run with | .unmapped => 0 | .plausible => 1 | .ignored => 2 | .retired => 3
  let re := match t.reason with
    | .none => 0 | .range => 1 | .stuck => 2 | .busError => 3 | .busStuck => 4 | .absent => 5
  let d := match t.domain with | .die => 0 | .dram => 1 | .nand => 2 | .pack => 3 | .board => 4
  packFields [(st, 30), (re, 27), (d, 24), (halfDegrees (filtered t), 12), (sat 12 t.errors, 0)]

/-! ## Rails and button -/

/-- QV_RAIL_SUM. -/
def regRailSum (s : State) : Word :=
  let r := s.rails
  let pg := ((fins 12).map fun i => if r.rail[i].pg then 2 ^ i.val else 0).sum
  packFields [(bit r.latched, 31), (r.latchRail, 27), (bit r.groupLatched[2], 26), (bit r.groupLatched[1], 25),
    (bit r.groupLatched[0], 24), (r.seqTop, 12), (pg, 0)]

/-- QV_PB.ACTION codes. -/
def actionCode : PbAction → Nat
  | .none => 0 | .notice => 1 | .orderlyOff => 2 | .cancelled => 3 | .forcedOff => 4 | .hardOff => 5 | .startUp => 6
  | .logged => 7

/-- QV_PB. -/
def regPb (s : State) : Word :=
  let b := s.button
  packFields [(actionCode b.action, 29), (bit b.held, 28), (bit b.deferred.isSome, 27), (sat 16 b.duration, 0)]

/-- QV_RESET_CAUSE. -/
def regResetCause (s : State) : Word :=
  packFields [(s.button.cause, 28), (s.button.causeRail, 24), (sat 16 s.button.mrCount, 0)]

/-- Codes of the reaction classes. -/
def railClassCode : RailClass → Nat
  | .ignore => 0 | .retry => 1 | .group => 2 | .reset => 3

/-- QV_RAIL[n]. -/
def regRail (r : RailState) : Word :=
  let st := match r.run with
    | .off => 0 | .qualifying => 1 | .qualified => 2 | .fault => 3 | .failed => 4 | .switchedOff => 5
  packFields [(st, 29), (railClassCode r.set_.cls, 27), (r.retries, 25), (bit r.en, 24), (sat 8 r.qualHalf, 16),
    (sat 8 r.faults, 8), (sat 8 r.drops, 0)]

/-! ## DRAM and Shroud -/

/-- QV_DC_STAT.STATE codes. -/
def dcCode : DcRun → Nat
  | .notTrained => 0 | .training => 1 | .inService => 2 | .retraining => 3 | .sliced => 4 | .outOfService => 5
  | .rebuilding => 6 | .selfRefresh => 7

/-- The highest positive refresh debt of a channel. -/
def owed (d : DramChan) : Nat := d.debt.toList.foldl (fun m x => max m x.toNat) 0

/-- QV_DC_STAT[n]: RATE reads 0 while the channel is not in service, and HOT follows the channel's reefing band (Table 04-9). -/
def regDcStat (s : State) (i : DramCh) : Word :=
  let d := s.dram.ch[i]
  let lr := ofSettings s fun c => if c.dramStack = 8 then 3 else if c.dramStack = 4 then 2 else if c.dramStack = 2 then 1
    else 0
  packFields [(dcCode d.run, 28), (bit d.band2x, 27), (bit s.thermal.dram[i].reef, 26), (ofSettings s (·.dramPranks), 24), (lr, 21),
    (if d.run = .inService ∨ d.run = .sliced then d.rate else 0, 16),
      (sat 4 d.failed.length, 12), (sat 4 (owed d), 8), (sat 8 (recent s 86400000 d.ceTimes).length, 0)]

/-- QV_SHROUD.MODE codes. -/
def modeCode : ShroudMode → Nat
  | .none => 0 | .off => 1 | .full => 2 | .reconstruct => 3 | .retrain => 4 | .rebuild => 5 | .relocate => 6
  | .relocated => 7

/-- WCAP of a mode (Table 05-2) (in part DEDUCED, notes/assumptions/44). -/
def writeCap : ShroudMode → Nat
  | .none => 0 | .full => 0x64 | .reconstruct | .retrain | .rebuild => 0x4B | .off | .relocate | .relocated => 0xF2

/-- The channel has been brought into service: trained and not in self-refresh. -/
def dramInService (d : DramChan) : Bool :=
  d.run == .inService || d.run == .sliced || d.run == .retraining || d.run == .rebuilding

/-- QV_SHROUD; MODE and WCAP read 0 before DRAM is in service; STAGE_OCC counts whole groups of 256 entries (in part DESIGN CHOICE,
notes/assumptions/102). -/
def regShroud (s : State) : Word :=
  let h := s.shroud
  let mode := if s.dram.ch.any dramInService then h.mode else .none
  packFields [(modeCode mode, 29), (h.channel.elim 31 (·.val), 24), (h.channel2.elim 31 (·.val), 19),
    (writeCap mode, 8), (sat 8 (h.staging.length / 256), 0)]

/-- QV_SHROUD_PROG. -/
def regShroudProg (s : State) : Word :=
  match s.shroud.pass with
  | none => 0
  | some k =>
    let kind := match k with | .rebuild => 1 | .staleRewrite => 2 | .relocationFill => 3 | .copyBack => 4
    packFields [(1, 31), (kind, 28), (sat 18 s.shroud.left, 0)]

/-! ## Flash -/

/-- A generation usable under the present key exists (R204). -/
def usableImage (s : State) : Bool :=
  match s.startup.settings with
  | some c => s.flash.gens.any (candidate s c)
  | none => false

/-- LIFE_USED: the mean erase count of block sets in service as a percentage of the rated cycles
(in part DESIGN CHOICE, notes/assumptions/96). -/
def lifeUsed (s : State) (c : Settings) : Nat :=
  let sets := flashDies s * c.blockSets - retiredSets s
  if sets = 0 ∨ c.peCycles = 0 then 0
  else ((s.flash.blocks.filter fun b => !b.retired).map fun b => b.erases).sum * 100 / (sets * c.peCycles)

/-- QV_FL_HEALTH. -/
def regFlHealth (s : State) : Word :=
  let f := s.flash
  let lost := (fins 32).find? fun i => f.ch[i].run == .outOfService
  let rain := if !f.inService then 3
    else if !f.restripe.isEmpty || f.moves.any (fun m => match m.2 with | .restripeDie _ _ | .restripeChannel _ => true | _ => false)
    then 1 else if lost.isSome then 2 else 0
  packFields [(ofSettings s fun c => sat 8 (lifeUsed s c), 24), (flashDies s, 14), (lost.elim 63 (·.val), 8), (rain, 6),
    (bit f.retentionDue, 5), (bit f.fullScrub, 4), (bit f.capLow, 3),
    (ofSettings s fun c => bit (f.inService && decide (freeBands s < poolTarget c)), 2),
    (bit (f.inService && !(f.mirrors[0].ok && f.mirrors[1].ok)), 1), (bit (usableImage s), 0)]

/-- QV_FL_CAP. -/
def regFlCap (s : State) : Word :=
  packFields [(sat 16 (freeBands s), 16), (fieldDown 16 (bwSave s / 100000000), 0)]

/-- QV_FC_STAT.BAND: the flash thermal band, 3 above 85 °C (Table 06-11). -/
def fcBandCode (s : State) (i : FlashCh) : Nat := if s.thermal.nand[i].isOver then 3 else s.flash.ch[i].band

/-- QV_FC_STAT[n]. -/
def regFcStat (s : State) (i : FlashCh) : Word :=
  let f := s.flash.ch[i]
  let st := match f.run with
    | .notTrained => 0 | .training => 1 | .inService => 2 | .engineSwap => 3 | .outOfService => 4
  packFields [(st, 28), (fcBandCode s i, 26), (f.dies.length, 21), (if fcUp f then f.rate else 0, 16),
    (sat 8 (recent s 86400000 f.retryHi).length, 8), (sat 8 f.grownBad, 0)]

/-! ## Notices, recorder, security, firmware, buses -/

/-- QV_LOG_STAT for a function. -/
def regLogStat (s : State) (l : Link) : Word :=
  let r := s.recorder
  let m := if r.sramOnly then 2 else if !r.nandUp then 3
    else if s.flash.mirrors[0].ok && s.flash.mirrors[1].ok then 0 else 1
  let sel := match (s.host.fn[l]).logSelState with | .fetching => 0 | .valid => 1 | .notHeld => 2
  packFields [(m, 30), (sel, 28), (r.staging.length + bit r.overflow.isSome, 16), (sat 16 r.drops, 0)]

/-- The records held, oldest first: the NAND log, then the pages in SRAM (R368, R375). -/
def heldRecords (s : State) : List Record :=
  (if s.recorder.nandUp && !s.recorder.sramOnly then s.recorder.nand else []) ++ s.recorder.fullPage.getD []
    ++ s.recorder.page

/-- QV_LOG_OLDEST. -/
def oldestRecno (s : State) : Word :=
  match heldRecords s with
  | [] => s.recorder.nextRecno
  | r :: _ => r.recno

/-- QV_SEC_LEVEL. -/
def regSecLevel (s : State) : Word :=
  let x := s.security
  packFields [(levelCode x.level, 30), (if x.lowering then levelCode x.target else 0, 28), (bit x.lowering, 27),
    (bit x.noRecord, 26), (x.result, 24), (x.refuse, 20), (x.step, 16)]

/-- QV_DBG_STATE. -/
def regDbg (s : State) : Word :=
  let x := s.security
  let st := match x.dbg with | .closed => 0 | .opened => 1 | .authenticated => 2
  packFields [(st, 30), (bit x.forced, 29), (x.endCause, 26), (sat 3 x.fails, 23), (bit x.scanRefused, 22),
    (sat 15 x.sessions, 1)]

/-- QV_FW_STAT.PHASE codes. -/
def phaseCode : FwPhase → Nat
  | .idle => 0 | .staging => 1 | .staged => 2 | .loading => 3 | .switching => 4 | .probation => 5 | .pendingRestart => 6
  | .bootCopy => 7

/-- QV_FW_STAT. -/
def regFwStat (s : State) : Word :=
  let f := s.fw
  let left := if f.phase = .probation then (60000 - (s.clock.now - f.probFrom)) / 1000 else 0
  packFields [(phaseCode f.phase, 28), (bit f.half, 27), (sat 6 left, 21), (f.cause, 16), (f.reasons % 65536, 0)]

/-- The version of the package staged whole; 0 with none. -/
def stagedVersion (s : State) : Word :=
  match s.fw.staging with
  | some g => if g.whole then (g.header.elim 0 (·.version)) else 0
  | none => 0

/-- POSITION in force: 0 in pass-through and outside a chain. -/
def positionInForce (s : State) : Nat := if s.power.minimal || inCrocus s then 0 else ofSettings s (·.position)

/-- A Halyard port's code. -/
def portCode (s : State) (p : HyPort) : Nat :=
  if ofSettings s (fun c => bit (c.hasHalyard && c.position != 0)) = 0 then 0 else p.version + 1

/-- QV_HY_STAT (in part DESIGN CHOICE, notes/assumptions/35). -/
def regHyStat (s : State) : Word :=
  packFields [(portCode s s.fw.up, 30), (portCode s s.fw.dn, 28), (positionInForce s % 64, 22),
    ((ofSettings s (·.chainLen)) % 64, 16), (sat 8 s.fw.crcErr, 0)]

/-- QV_SMB_STAT. -/
def regSmbStat (s : State) : Word :=
  let b := s.smb
  let st := match b.state with | .idle => 0 | .receiving => 1 | .sending => 2 | .waitFree => 3
  packFields [(st, 30), (bit b.alert, 29), (bit b.notify.isSome, 28), (b.notify.elim 0 (·.toNat), 21), (b.speed, 19),
    (bit (inStandby s), 18), (bit b.stuck, 17), (sat 5 (s.qmp.held.filter fun h => h.hdr.carrier == .smbus).length, 0)]

/-- QV_LB_STAT. -/
def regLbStat (s : State) : Word :=
  let b := s.lb
  let st := match b.state with | .unused => 0 | .inService => 1 | .clearing => 2 | .stuck => 3
  packFields [(st, 30), (bit b.alertMasked, 29), (b.lastAddr.toNat, 16), (sat 8 b.window, 8), (sat 8 b.stuckCount, 0)]

/-! ## Requester tables (Tables 03-4 to 03-8) -/

/-- An entry of the requester table. -/
def requesterEntry (t : Tables) (id : Nat) : Word :=
  match kvGet t.requesters id with
  | some w => w
  | none => if 0xFF0 ≤ id ∧ id ≤ 0xFF7 then
      BitVec.ofNat 32 (0x80000000 + 0x100 * (id - 0xFF0) + 2 ^ (id - 0xFF0)) else 0

/-- A window's two words: set 0 window 0 resets to the whole host-visible capacity (Table 03-7). -/
def windowWords (s : State) (t : Tables) (i : Nat) : DWord × DWord :=
  match kvGet t.windows i with
  | some w => w
  | none => if i = 0 then (3, BitVec.ofNat 64 (hvBytes s)) else (0, 0)

/-- A queue's weight register (in part DEDUCED, notes/assumptions/45). -/
def weightWord (t : Tables) (q : Nat) : Word := (kvGet t.weights q).getD 0x10

/-- The copy of the tables that a function reads (QV_RT_CTL.VIEW). -/
def viewTables (s : State) (l : Link) : Tables := if (s.host.fn[l]).rtView then s.rt.inForce else s.rt.shadow

/-- QV_RT_CTL. -/
def regRtCtl (s : State) (l : Link) : Word :=
  packFields [(s.rt.adminLinks.toNat, 24), (s.rt.commitSeq, 16), (bit s.rt.busy, 2), (bit (s.host.fn[l]).rtView, 1)]

/-- QV_RT_VIOL. -/
def regRtViol (s : State) : Word :=
  packFields [(s.rt.lastId, 20), (bit s.rt.lastWrite, 19), (s.rt.lastLink, 16), (sat 16 s.rt.violations, 0)]

/-- A 4-byte word of a window. -/
def windowReg (s : State) (l : Link) (off : Nat) : Word :=
  let w := windowWords s (viewTables s l) ((off - 0x8000) / 16)
  let d := if off / 8 % 2 = 0 then w.1 else w.2
  if off / 4 % 2 = 0 then d.setWidth 32 else (d >>> 32).setWidth 32

/-! ## The map (Table 22-3) -/

/-- The table and ring registers above 0x0C00. -/
def liveHigh (s : State) (l : Link) (off : Nat) : Word :=
  let f := s.host.fn[l]
  if off = 0x0C00 then f.ringBase.setWidth 32
  else if off = 0x0C04 then (f.ringBase >>> 32).setWidth 32
  else if off = 0x0C08 then BitVec.ofNat 32 f.ringSize
  else if off = 0x0C0C then BitVec.ofNat 32 f.ringHead
  else if off = 0x0C10 then packFields [(sat 16 f.ringOverflow, 16), (f.ringTail, 0)]
  else if off = 0x0E00 then regLogStat s l
  else if off = 0x0E04 then s.recorder.nextRecno
  else if off = 0x0E08 then oldestRecno s
  else if off = 0x0E0C then f.logSel
  else if 0x0E10 ≤ off ∧ off < 0x0E30 then f.logData.getD ((off - 0x0E10) / 4) 0
  else if off = 0x0E30 then BitVec.ofNat 32 s.clock.opTime
  else if off = 0x0E34 then packFields [(bit s.clock.timeEst, 31), (f.optimeHi.toNat % 65536, 0)]
  else if off = 0x0E38 then s.clock.pcycle
  else if off = 0x1000 then regSecLevel s
  else if off = 0x1004 then regDbg s
  else if off = 0x1200 then s.fw.active.elim 0 (·.version)
  else if off = 0x1204 then stagedVersion s
  else if off = 0x1208 then BitVec.ofNat 32 (bit (ownerLock s))
  else if off = 0x120C then regFwStat s
  else if off = 0x1210 then regHyStat s
  else if off = 0x1400 then packFields [(bit s.crossings.hfActive, 16), (bit s.crossings.holdflag, 0)]
  else if off = 0x1404 then packFields [(f.snapSeq, 24), (f.snapGroup, 20), (bit f.snap.isSome, 2)]
  else if off = 0x1600 then regRtCtl s l
  else if off = 0x1604 then regRtViol s
  else if 0x1700 ≤ off ∧ off < 0x1800 then weightWord (viewTables s l) ((off - 0x1700) / 4)
  else if off = 0x1800 then regSmbStat s
  else if off = 0x1804 then packFields [(sat 8 s.smb.rsAck, 24), (sat 8 s.smb.arbSr, 16), (sat 8 s.smb.arb, 8),
    (sat 8 s.smb.timeout, 0)]
  else if off = 0x1808 then packFields [(sat 8 s.smb.pec, 24), (sat 8 s.smb.nacked, 16), (sat 8 s.smb.badCmd, 8),
    (sat 8 s.smb.clear, 0)]
  else if off = 0x1810 then regLbStat s
  else if off = 0x1814 then packFields [(sat 8 s.lb.timeout, 24), (sat 8 s.lb.nack, 16), (sat 8 s.lb.clear, 8),
    (sat 8 s.lb.skipped, 0)]
  else if 0x4000 ≤ off ∧ off < 0x8000 then requesterEntry (viewTables s l) ((off - 0x4000) / 4)
  else if 0x8000 ≤ off ∧ off < 0x10000 then windowReg s l off
  else 0

/-- The register at a 4-byte aligned offset of the device block, from the present state, through a function; an offset that
the map does not assign reads 0 (R501). -/
def liveReg (s : State) (l : Link) (off : Nat) : Word :=
  if off = 0x0000 then packFields [(0x6417, 16), (Config.revision, 8), (1, 0)]
  else if off = 0x0004 then regCaps s
  else if off = 0x0008 then 0x02060602
  else if off = 0x000C then BitVec.ofNat 32 (hvBytes s / 2 ^ 28)
  else if off = 0x0100 then regState s
  else if off = 0x0104 then regHealth s
  else if off = 0x0108 then BitVec.ofNat 32 s.faults.availMs
  else if off = 0x010C then BitVec.ofNat 32 s.faults.exclMs
  else if off = 0x0110 then BitVec.ofNat 32 (availYear s)
  else if off = 0x0180 then regBoot s
  else if off = 0x0184 then regSheet s
  else if off = 0x0188 then s.startup.sheetSeq
  else if off = 0x018C then BitVec.ofNat 32 (s.startup.sheetOfs % 2 ^ 17)
  else if off = 0x0190 then regStraps s
  else if off = 0x0194 then regCfStat s
  else if off = 0x0198 then regCfSel s
  else if off = 0x0200 then regPctl s
  else if off = 0x0204 then BitVec.ofNat 32 s.persist.dirtyNow
  else if off = 0x0208 then regDirtyCeil s
  else if off = 0x020C then regCeilCause s
  else if off = 0x0210 then regFlushRate s
  else if off = 0x0214 then BitVec.ofNat 32 (signedBits 32 (s.persist.wear / 1000000000))
  else if off = 0x0280 then regSaveStat s
  else if off = 0x0284 then BitVec.ofNat 32 s.save.lost
  else if off = 0x0288 then BitVec.ofNat 32 s.save.charge
  else if off = 0x028C then BitVec.ofNat 32 s.save.time
  else if off = 0x0290 then regPlanInfo s
  else if 0x0294 ≤ off ∧ off ≤ 0x02A0 then ((s.host.fn[l]).planMarks).getD ((off - 0x0294) / 4) 0
  else if off = 0x02C0 then regRstStat s
  else if off = 0x02C4 then regRstFetch s
  else if off = 0x02C8 then BitVec.ofNat 32 (sat 32 s.restore.fetchCount)
  else if off = 0x02CC then BitVec.ofNat 32 s.restore.offer
  else if off = 0x02D0 then BitVec.ofNat 32 (if s.restore.running then 0 else s.restore.done)
  else if off = 0x0400 then regSoc s
  else if off = 0x0404 then regReserve s
  else if off = 0x0408 then regUncert s
  else if off = 0x040C then regECtl s
  else if off = 0x0410 then packFields [(sat 16 s.pack.voltage, 16), (signedBits 16 (s.pack.current / 10), 0)]
  else if off = 0x0414 then regETemp s
  else if off = 0x0418 then packFields [(sat 16 s.bank.cMeas, 16), (ageMinutes s s.bank.testAt, 0)]
  else if off = 0x041C then BitVec.ofNat 32 s.pack.nefc
  else if off = 0x0420 then packFields [(sat 16 s.pack.impedance, 16), (ageMinutes s s.pack.impedanceAt, 0)]
  else if 0x0500 ≤ off ∧ off < 0x0600 then BitVec.ofNat 32 (field (s.host.fn[l]).esb (off - 0x0500) 4)
  else if off = 0x0600 then regTMax s
  else if off = 0x0604 then regTBand s
  else if off = 0x0608 then regReef s
  else if off = 0x060C then regTTrip s
  else if 0x0680 ≤ off ∧ off < 0x0700 then regTSite s.thermal.site[Fin.ofNat 32 ((off - 0x0680) / 4)]
  else if off = 0x0700 then regRailSum s
  else if off = 0x0704 then regPb s
  else if off = 0x0708 then regResetCause s
  else if 0x0744 ≤ off ∧ off ≤ 0x0770 then regRail s.rails.rail[Fin.ofNat 12 ((off - 0x0744) / 4)]
  else if 0x0800 ≤ off ∧ off < 0x0844 then regDcStat s (Fin.ofNat 17 ((off - 0x0800) / 4))
  else if off = 0x0860 then s.dram.pdTimer.setWidth 32
  else if off = 0x0880 then regShroud s
  else if off = 0x0884 then regShroudProg s
  else if off = 0x0888 then packFields [(sat 16 s.shroud.mismatch, 16), (sat 16 s.shroud.unrecov, 0)]
  else if off = 0x0A00 then regFlHealth s
  else if off = 0x0A04 then regFlCap s
  else if off = 0x0A08 then (newestSealed s).setWidth 32
  else if off = 0x0A0C then (s.host.fn[l]).genHi
  else if 0x0A80 ≤ off ∧ off < 0x0B00 then regFcStat s (Fin.ofNat 32 ((off - 0x0A80) / 4))
  else liveHigh s l off

/-- Registers that CROCUS serves: those R503 names, and every AON register of Table 20-3 (in part DEDUCED, notes/assumptions/71). -/
def servedInCrocus (off : Nat) : Bool :=
  off ∈ [0x0000, 0x0004, 0x0008, 0x0100, 0x0180, 0x0194, 0x0198, 0x1000, 0x1004, 0x1200, 0x1204, 0x1208, 0x120C, 0x0108,
    0x010C, 0x0110, 0x0190, 0x0280, 0x0284, 0x0288, 0x028C, 0x02C0, 0x02C4, 0x02C8, 0x02CC, 0x02D0, 0x060C, 0x0700, 0x0704,
    0x0708, 0x0E30, 0x0E34, 0x0E38, 0x1800, 0x1804, 0x1808, 0x1810, 0x1814]
    || (0x0C00 ≤ off && off ≤ 0x0C10) || (0x0744 ≤ off && off ≤ 0x0770)

/-- What a register reads in the power state (R503): in CROCUS one that the ROM does not serve reads its reset value
(in part DEDUCED, notes/assumptions/71). -/
def readReg (s : State) (l : Link) (off : Nat) : Word :=
  if inCrocus s && !servedInCrocus off then liveReg State.reset l off else liveReg s l off

/-- The range of a snapshot group (Table 20-2); empty for a code that is not used. -/
def groupRange (g : Nat) : Nat × Nat :=
  if g = 1 then (0x0200, 0x0300) else if g = 2 then (0x0400, 0x0500) else if g = 3 then (0x0600, 0x0700)
  else if g = 4 then (0x0800, 0x0900) else if g = 5 then (0x0A00, 0x0B00) else (0, 0)

/-- What a host reads at a 4-byte aligned offset: the captured value while a snapshot of its group is frozen (R470). -/
def hostReg (s : State) (l : Link) (off : Nat) : Word :=
  match (s.host.fn[l]).snap with
  | some p =>
    let r := groupRange p.group
    if r.1 ≤ off ∧ off < r.2 then (kvGet p.regs off).getD 0 else readReg s l off
  | none => readReg s l off

/-- Every assigned and unassigned word of a range, as it reads (in part DEDUCED, notes/assumptions/72). -/
def captureRange (s : State) (l : Link) (r : Nat × Nat) : List (Nat × Word) :=
  (List.range ((r.2 - r.1) / 4)).map fun i => (r.1 + 4 * i, readReg s l (r.1 + 4 * i))

end Sys2Proof.Machine
end

