-- ==== Sys2Proof/Machine/MemOps.lean ====
section
/-! DEFINITION. CXL.mem service: decoding and checking a request, presence, demand fetch, admission, write buffers and the drain
(R12–R14, R49, R67–R76, R124, R125, R213–R224). -/

namespace Sys2Proof.Machine

open Sys2Proof

/-! ## Decoding and checking (R62, R67–R70) -/

/-- The default requester ID of a link: 0xFF0 + 2 × n + h. -/
def defaultId (l : Link) : Nat := 0xFF0 + l.val

/-- DPA of an address by one decoder, interleaved over `ways` targets at `gran` bytes (CXL 3.1 HDM decoder)
(in part DEDUCED, notes/assumptions/49). -/
def decodeBy (d : Decoder) (hpa : Nat) : Option Nat :=
  if d.committed && decide (d.base ≤ hpa ∧ hpa < d.base + d.size) && decide (d.ways > 0 ∧ d.gran > 0) then
    let off := hpa - d.base
    some (d.dpaBase + off / (d.gran * d.ways) * d.gran + off % d.gran)
  else none

/-- The DPA of a request on a link: by its committed decoders, or through DVSEC Range 1 alone for a revision 1.1 partner (R62). Before
Memory_Active there is none (R212). A decoder may name a DPA past the capacity: no window covers it (R69) (in part DEDUCED,
notes/assumptions/33). -/
def decodeHpa (s : State) (l : Link) (hpa : Nat) : Option Nat :=
  let k := s.host.link[l]
  if !k.memActive then none
  else if k.partner = .r11 then (if k.range1 ≤ hpa ∧ hpa < k.range1 + hvBytes s then some (hpa - k.range1) else none)
  else k.decoders.findSome? fun d => decodeBy d hpa

/-- The requester ID of a request (R62): the PBR source ID, or the link's default ID. -/
def requesterId (s : State) (l : Link) (r : Option (BitVec 12)) : Nat :=
  if s.host.link[l].partner = .r11 then defaultId l
  else match r with
    | some id => id.toNat
    | none => defaultId l

/-- Window `i` of the copy in force grants an access to a DPA; beyond the host-visible capacity a window covers nothing. -/
def windowGrants (s : State) (t : Tables) (i dpa : Nat) (isWrite : Bool) : Bool :=
  let w := windowWords s t i
  let base := w.1.toNat / 2 ^ 28 * 2 ^ 28
  let size := w.2.toNat / 2 ^ 28 * 2 ^ 28
  decide (base ≤ dpa ∧ dpa < base + size) && (if isWrite then w.1.getLsbD 1 else w.1.getLsbD 0)

/-- R69, items 1 to 4 (in part DESIGN CHOICE, notes/assumptions/35). -/
def admits (s : State) (l : Link) (id dpa : Nat) (isWrite : Bool) : Bool :=
  let e := (requesterEntry s.rt.inForce id).toNat
  decide (e / 2 ^ 31 = 1) && decide (e / 2 ^ l.val % 2 = 1)
    && (List.range 8).any fun w => windowGrants s s.rt.inForce (8 * (e / 2 ^ 16 % 256) + w) dpa isWrite

/-- The fairness queue of a requester, and its weight in force (R72). -/
def queueOf (s : State) (id : Nat) : Nat := (requesterEntry s.rt.inForce id).toNat / 256 % 64

/-- The requester's queue is served (in part DEDUCED, notes/assumptions/45). -/
def queueServed (s : State) (id : Nat) : Bool := decide ((weightWord s.rt.inForce (queueOf s id)).toNat % 256 ≠ 0)

/-- A refusal is counted in QV_RT_VIOL, logged and reported, at most once per requester per 10 s (R69)
(in part DEDUCED, notes/assumptions/33). -/
def refuse (s : State) (l : Link) (id : Nat) (isWrite : Bool) : State :=
  let s := { s with rt := { s.rt with lastId := id, lastWrite := isWrite, lastLink := l.val,
                                      violations := satAdd 16 s.rt.violations 1 } }
  let s := logEvent s 0x0282 1 []
  if (kvGet s.rt.sentAt id).any fun t => decide (s.clock.now < 10000 + t) then s
  else raise { s with rt := { s.rt with sentAt := kvSet s.rt.sentAt id s.clock.now } } 0x0202 []

/-! ## Slots (R73) -/

/-- The link is half of a split port. -/
def onSplitPort (s : State) (l : Link) : Bool := s.startup.split.getLsbD (l.val / 2)

/-- Slots a link keeps in reserve: 2,048 for x16, 1,024 for x8; a link that its port does not use has none. -/
def slotReserve (s : State) (l : Link) : Nat :=
  if onSplitPort s l then 1024 else if l.val % 2 = 0 then 2048 else 0

/-- Slots a link holds. -/
def slotsOf (s : State) (l : Link) : Nat := (s.host.slots.filter fun q => q.link == l).length

/-- Reserves of all links that are not used. -/
def unusedReserve (s : State) : Nat := ((fins 8).map fun l => slotReserve s l - slotsOf s l).sum

/-- The link has credit for one more request (R73, R220): at most 65,536 slots, from its reserve or the shared remainder, and at
most 512 of them held by the fetch gate (in part DEDUCED, notes/assumptions/33). -/
def hasCredit (s : State) (l : Link) : Bool :=
  decide (slotsOf s l < 65536)
    && decide (slotsOf s l < slotReserve s l ∨ s.host.slots.length + unusedReserve s < 131072)
    && decide ((s.host.slots.filter fun q => q.link == l && q.why == .gate).length ≤ 512)

/-! ## Presence (R213, R214, R137) -/

/-- The granule is in DRAM. -/
def granulePresent (s : State) (g : Nat) : Bool :=
  !s.restore.running || s.restore.presentR.contains (regionOf g) || s.restore.presence.contains g

/-- RSTATE of a region. -/
def regionState (s : State) (r : Nat) : RegionState :=
  if !s.restore.running || s.restore.presentR.contains r then .present
  else if s.restore.lostR.contains r then .lost
  else if s.restore.presence.any fun g => regionOf g == r then .partly
  else .absent

/-- The granule has nothing to fill from the image: it was dirty when the channel was lost, and is poisoned (R118, R137). -/
def fillLost (s : State) (g : Nat) : Bool := (entryOf s g).state == .lost

/-- The line lay on a channel lost with Shroud off and has not been filled into its slot (R137). -/
def notFilled (s : State) (line : Nat) : Bool :=
  s.shroud.mode == .relocate && s.shroud.channel == some (Config.channelOfLine line) && decide (64 * line < hvBytes s)
    && !s.shroud.filled.contains (lineGranule s line) && !fillLost s (lineGranule s line)

/-- The line cannot be served from DRAM before its granule has been fetched. -/
def needsFetch (s : State) (line : Nat) : Bool := !granulePresent s (lineGranule s line) || notFilled s line

/-- Granules of a region have all been restored. -/
def regionDone (s : State) (r : Nat) : Bool :=
  (List.range 1024).all fun i => decide (1024 * r + i ≥ hvGranules s) || s.restore.presence.contains (1024 * r + i)

/-- Every granule of a region has been filled into its slots or has nothing to fill (R137). -/
def regionFilled (s : State) (r : Nat) : Bool :=
  (List.range 1024).all fun i => decide (1024 * r + i ≥ hvGranules s) || s.shroud.filled.contains (1024 * r + i) || fillLost s (1024 * r + i)

/-- A granule has been filled: the regions left of the fill go down with the last one of its region (R137, Table 05-5). -/
def noteFilled (s : State) (g : Nat) : State :=
  if s.shroud.mode ≠ .relocate || s.shroud.filled.contains g then s
  else
    let s := { s with shroud := { s.shroud with filled := insertNat s.shroud.filled g } }
    if regionFilled s (regionOf g) then { s with shroud := { s.shroud with left := s.shroud.left - 1 } } else s

/-- The presence bit of a granule is set, and then its region's state (R216). -/
def setPresent (s : State) (g : Nat) : State :=
  let s := noteFilled { s with restore := { s.restore with presence := insertNat s.restore.presence g } } g
  if s.restore.lostR.contains (regionOf g) || !regionDone s (regionOf g) then s
  else { s with restore := { s.restore with presentR := insertNat s.restore.presentR (regionOf g) } }

/-- Byte range of a granule in DRAM. -/
def granuleStart (s : State) (g : Nat) : Nat := g * gBytes s

/-- Lines of a region on the channel that retrains have been written: the region is marked in the stale map (R114). -/
def staleRegion (s : State) (r : Nat) : State :=
  if s.shroud.mode = .retrain then
    { s with shroud := { s.shroud with stale := insertNat s.shroud.stale r, staleCh := s.shroud.channel } }
  else s

/-- A granule is written whole with the cells of its copy, offsets in the granule, as whole stripes with their parity lines, which need
no read (R16, R140). Present lines of a granule that is only
being filled keep what they hold: the lost lines alone come from the image. -/
def writeGranule (s : State) (g : Nat) (cells : List Host.Cell) : State :=
  let lo := granuleStart s g
  let lost := fun (a : Nat) => s.shroud.channel == some (Config.channelOfLine (a / 64))
  let mem :=
    if granulePresent s g then
      writeCells (s.dram.mem.filter fun c => !(decide (lo ≤ c.1 ∧ c.1 < lo + gBytes s) && lost c.1)) lo
        (cells.filter fun c => lost (lo + c.1))
    else writeCells (clearRange s.dram.mem lo (gBytes s)) lo cells
  staleRegion (granuleParity (restoreAccess { s with dram := { s.dram with mem := mem } } g) g) (regionOf g)

/-- What the image holds of a granule: the copy its manifest entry names; nothing for ZERO and LOST. -/
def imageCells (s : State) (g : Nat) : List Host.Cell :=
  let e := entryOf s g
  if e.state = .present then copyCells s g e else []

/-- A granule of a LOST region that a request reaches is written as zeros; its lines stay on the poison record (R214)
(in part DEDUCED, notes/assumptions/84). -/
def zeroFill (s : State) (g : Nat) : State := setPresent (writeGranule s g []) g

/-! ## Write buffers (R13, R14, R76) -/

/-- Lines of the write buffers, 8 MiB. -/
def bufferLines : Nat := 131072

/-- Lines that may wait on fetches, 4 MiB. -/
def waitingLines : Nat := 65536

/-- The latest accepted write to a line that is still held. -/
def buffered (s : State) (line : Nat) : Option BufLine := s.host.buf.reverse.find? fun b => b.line == line

/-- A line enters the write buffers whole and its completion leaves (R13). `q` is its request. -/
def acceptWrite (s : State) (q : Slot) (data : Line) (poison wait : Bool) (ecc : EccOutcome) : State :=
  let s := { s with host := { s.host with arrivals := s.host.arrivals + 1, buf := s.host.buf ++
    [{ line := q.line, data := data, poison := poison, drained := false, parityOut := false, waitFetch := wait, ecc := ecc,
       order := s.host.arrivals }] } }
  emit s (.writeDone q.link q.tag)

/-- The current content of a line, and whether it is poisoned: from the write buffers, else from DRAM (R12, R75)
(in part DESIGN CHOICE, notes/assumptions/18). -/
def currentLine (s : State) (line : Nat) : Line × Bool :=
  match buffered s line with
  | some b => (b.data, b.poison)
  | none => (readLine s.dram.mem line, poisoned s line)

/-- The content of a line as a request admitted at `order` finds it: no write admitted after it counts (R74). -/
def lineAt (s : State) (line order : Nat) : Line × Bool :=
  match s.host.buf.reverse.find? fun b => b.line == line && decide (b.order < order) with
  | some b => (b.data, b.poison)
  | none => (readLine s.dram.mem line, poisoned s line)

/-- A line leaves as the data of a read, with the poison indication where it is poisoned. -/
def answerWith (s : State) (q : Slot) (c : Line × Bool) : State :=
  emit s (if c.2 then .readPoison q.link q.tag c.1 else .readData q.link q.tag c.1)

/-- A read returns the line as it stands. -/
def answerRead (s : State) (q : Slot) : State := answerWith s q (currentLine s q.line)

/-- A read of a line from DRAM with what its ECC finds (R12, R104). -/
def readDram (s : State) (q : Slot) : State := answerRead (eccEffect (readAccess s q.line) q.line q.ecc) q

/-- A partial write is merged into the current line, which stays poisoned if it was; a line that no buffer holds is read from DRAM
(R75, R80) (in part DESIGN CHOICE, notes/assumptions/18). -/
def acceptPartial (s : State) (q : Slot) (wait : Bool) : State :=
  let s := if (buffered s q.line).isSome then s else eccEffect (readAccess s q.line) q.line q.ecc
  let c := currentLine s q.line
  acceptWrite s q (mergeLine c.1 q.data q.enables) (c.2 || q.poison) wait .clean

/-- The write covers the whole line. -/
def isFull (enables : DWord) : Bool := enables == BitVec.allOnes 64

/-! ## Demand fetch (R219, R220) -/

/-- The LUN that holds a granule's copy; a ZERO or LOST entry reads no flash. -/
def fetchLun (s : State) (g : Nat) : Option (FlashCh × Fin 16) :=
  match s.startup.settings with
  | some c =>
    let e := entryOf s g
    if e.state = .present then some (e.ch, bandDie c e.band) else none
  | none => none

/-- A fetch of the granule runs. -/
def fetching (s : State) (g : Nat) : Bool := s.restore.fetches.any fun f => f.granule == g

/-- The LUN of the granule already fetches another one (R220). -/
def lunBusy (s : State) (g : Nat) : Bool :=
  match fetchLun s g with
  | some l => s.restore.fetches.any fun f => f.lun == some l && f.granule != g
  | none => false

/-- Starts a granule's fetch, or joins the one that runs; an erase on its LUN is suspended (R219, R221). -/
def startFetch (s : State) (g : Nat) : State :=
  if fetching s g then s
  else
    let lun := fetchLun s g
    let s := { s with restore := { s.restore with fetches := s.restore.fetches ++ [⟨g, lun⟩] } }
    match lun with
    | some (ch, die) => suspendErase s ch die
    | none => s

/-! ## Admission (R49, R54, R72, R74, R180, R190, R207) -/

/-- The free pool cannot take D + 1 GiB + 320 KiB (R180). -/
def poolShort (s : State) : Bool := decide (freeBands s * 992 * 2 ^ 20 < 2 ^ 30 + 320 * 1024 + dirtyBytes s)

/-- A write must wait for D to fall (R49, R180): C is 0 or below D (at D = C a write that is held stays held), or the pool is short,
and the write is fresh-dirtying or its granule is in flight. -/
def ceilingHold (s : State) (g : Nat) (held : Bool) : Bool :=
  let d : Rat := (dirtyBytes s : Rat)
  let isOver := decide (d > s.persist.ceiling.c) || (held && decide (d ≥ s.persist.ceiling.c)) || decide (s.persist.ceiling.c = 0)
  (isOver && (!isDirty s g || isInFlight s g)) || (poolShort s && !isDirty s g)

/-- A write to the line that arrived before the request waits in a slot (R74). -/
def lineWaits (s : State) (q : Slot) : Bool :=
  s.host.slots.any fun x => x.isWrite && x.line == q.line && decide (x.arrival < q.arrival)

/-- The line cannot be served before its granule's fetch, and its region is not LOST. -/
def fetchFirst (s : State) (line : Nat) : Bool := needsFetch s line && regionState s (regionOf (lineGranule s line)) != .lost

/-- The buffered lines that wait on fetches fill their 4 MiB (R76). -/
def waitingFull (s : State) : Bool := decide ((s.host.buf.filter fun b => b.waitFetch).length ≥ waitingLines)

/-- What a request has to wait for now; none when it can be admitted. `held` says that it waits already. -/
def waitReason (s : State) (q : Slot) (held : Bool) : Option WaitFor :=
  if s.host.stopped || saving s || dramHeld s || !queueServed s q.requester then some .admission
  else if !q.isWrite then
    if (buffered s q.line).isNone && fetchFirst s q.line && lunBusy s (lineGranule s q.line) then some .gate else none
  else if lineWaits s q || needsCheckpoint s || ceilingHold s (lineGranule s q.line) held
      || decide (s.host.buf.length ≥ bufferLines) then some .admission
  else if !fetchFirst s q.line then none
  else if lunBusy s (lineGranule s q.line) then some .gate
  else if (isFull q.enables || (buffered s q.line).isSome) && waitingFull s then some .room
  else none

/-- A request takes a slot for a reason, or keeps it. -/
def waitIn (s : State) (q : Slot) (w : WaitFor) : State :=
  { s with host := { s.host with slots := s.host.slots ++ [{ q with why := w }] } }

/-- An admitted request waits for its granule's demand fetch, with its place in the order of admission (R74, R219). -/
def waitFetch (s : State) (q : Slot) : State :=
  startFetch (waitIn { s with host := { s.host with arrivals := s.host.arrivals + 1 } } { q with order := s.host.arrivals } .fetch)
    (lineGranule s q.line)

/-- An admitted read (R12, R214): from the buffers, from DRAM with what its ECC finds, or behind a demand fetch. -/
def admitRead (s : State) (q : Slot) : State :=
  let g := lineGranule s q.line
  if (buffered s q.line).isSome then answerRead s q
  else if !needsFetch s q.line then readDram s q
  else if regionState s (regionOf g) = .lost then answerRead (zeroFill s g) q
  else waitFetch s q

/-- An admitted write (R13, R75, R76, R214). -/
def admitWrite (s : State) (q : Slot) : State :=
  let g := lineGranule s q.line
  let s := if needsFetch s q.line && regionState s (regionOf g) = .lost then zeroFill s g else s
  if isFull q.enables then
    if needsFetch s q.line then acceptWrite (startFetch s g) q q.data q.poison true q.ecc
    else acceptWrite s q q.data q.poison false q.ecc
  else if needsFetch s q.line && (buffered s q.line).isNone then waitFetch s q
  else acceptPartial s q (needsFetch s q.line)

/-- A request at its admission point: checked against the copy in force (R69, R70), then served. -/
def admitSlot (s : State) (q : Slot) : State :=
  if !admits s q.link q.requester (64 * q.line) q.isWrite then
    let s := refuse s q.link q.requester q.isWrite
    if q.isWrite then s else emit s (.readPoison q.link q.tag 0)
  else if q.isWrite then admitWrite s q
  else admitRead s q

/-- A request stays in its slot; where it waits for room beyond R76 its granule's fetch runs. -/
def keepWaiting (s : State) (q : Slot) (w : WaitFor) : State :=
  if w = .room then startFetch (waitIn s q w) (lineGranule s q.line) else waitIn s q w

/-- A request has taken its slot: it is admitted, or it waits there. -/
def enterSlot (s : State) (q : Slot) : State :=
  match waitReason s q false with
  | some w => keepWaiting s q w
  | none => admitSlot s q

/-! ## Fairness queues (R72) -/

/-- The request waits before its admission and nothing holds it any more. -/
def admissible (s : State) (q : Slot) : Bool := q.why != .fetch && (waitReason s q true).isNone

/-- Weight of a queue in force. -/
def queueWeight (s : State) (n : Nat) : Nat := (weightWord s.rt.inForce n).toNat % 256

/-- The queue that is served next: the one whose turn it is while it has credit, else the next in turn, of those with a request that
can be admitted (in part DEDUCED, notes/assumptions/45). -/
def nextQueue (s : State) : Option Nat :=
  let has := fun (n : Nat) => s.host.slots.any fun q => admissible s q && queueOf s q.requester == n
  if has s.host.turn && decide (0 < kvGetD s.host.deficit s.host.turn 0) then some s.host.turn
  else ((List.range 64).map fun i => (s.host.turn + 1 + i) % 64).find? has

/-- A queue's turn: on a new turn its credit grows by its weight; one admission takes one of it. A queue with no waiting request keeps
none (in part DEDUCED, notes/assumptions/45). -/
def takeTurn (s : State) (n : Nat) : State :=
  let same := decide (n = s.host.turn ∧ 0 < kvGetD s.host.deficit n 0)
  let credit := kvGetD s.host.deficit n 0 + (if same then 0 else queueWeight s n) - 1
  let kept := (kvSet s.host.deficit n credit).filter fun d => s.host.slots.any fun q => q.why != .fetch && queueOf s q.requester == d.1
  { s with host := { s.host with turn := n, deficit := kept } }

/-- The oldest request of the queue that is served next, admitted; none when no request can be. -/
def admitNext (s : State) : Option State :=
  match nextQueue s with
  | none => none
  | some n =>
    (s.host.slots.find? fun q => admissible s q && queueOf s q.requester == n).map fun q =>
      admitSlot (takeTurn { s with host := { s.host with slots := s.host.slots.erase q } } n) q

/-- Admits waiting requests, one at a time (R72) (in part DEDUCED, notes/assumptions/45). -/
def admitAll : Nat → State → State
  | 0, s => s
  | n + 1, s => match admitNext s with
    | some t => admitAll n t
    | none => s

/-- The reasons of those that still wait. -/
def renewWaits (s : State) : State :=
  s.host.slots.foldl (fun t q =>
    if q.why = .fetch then waitIn t q .fetch else keepWaiting t q ((waitReason s q true).getD .admission))
    { s with host := { s.host with slots := [] } }

/-- Every waiting request is tried again. -/
def retrySlots (s : State) : State :=
  if s.host.slots.isEmpty then s else renewWaits (admitAll s.host.slots.length s)

/-! ## End of a fetch (R223, R224, R227) -/

/-- A request that waited for the granule's fetch is answered: a read with its line as at its admission, a partial write merged, or held
before admission again while the write buffers are full (R13, R74, R223). -/
def serveOne (s : State) (q : Slot) : State :=
  if !q.isWrite then answerWith s q (lineAt s q.line q.order)
  else if s.host.buf.length ≥ bufferLines then waitIn s q .admission
  else acceptPartial s q false

/-- Requests that waited for a granule are answered, oldest first (R223). -/
def serveWaiting (s : State) (g : Nat) : State :=
  let mine := s.host.slots.filter fun q => q.why == .fetch && lineGranule s q.line == g
  mine.foldl serveOne { s with host := { s.host with slots := s.host.slots.filter fun q => !(q.why == .fetch && lineGranule s q.line == g) } }

/-- Buffered lines that waited for a granule may drain. -/
def releaseWaiting (s : State) (g : Nat) : State :=
  let buf := s.host.buf.map fun b => if b.waitFetch && lineGranule s b.line == g then { b with waitFetch := false } else b
  { s with host := { s.host with buf := buf } }

/-- The controller leaves RESTORE for RUN (R227). -/
def restoreToRun (s : State) : State :=
  if s.power.state = .restore then debugReturns { s with power := { s.power with state := .run } } else s

/-- A channel whose rebuild ended during the restore returns to service (R134). -/
def rebuildAfterRestore (s : State) : State :=
  match s.shroud.channel with
  | some ch =>
    if s.dram.ch[ch].run = .rebuilding && (s.shroud.pass.isNone || decide (allStripes s ≤ s.shroud.watermark)) then
      endPass { s with shroud := { s.shroud with pass := some .rebuild } }
    else s
  | none => s

/-- Every region is PRESENT or LOST: the restore ends (R227, R134). -/
def endRestore (s : State) : State :=
  if !s.restore.running || !((List.range (hvRegions s)).all fun r => s.restore.presentR.contains r || s.restore.lostR.contains r) then s
  else
    let ms := s.clock.now - s.restore.step8At
    let s := rebuildAfterRestore (restoreToRun { s with
      restore := { s.restore with running := false, window := false, phase := 4, done := ms, presence := [], presentR := [],
                                  hotOrder := [], inHand := [] } })
    raise s 0x0507 (words2 s.restore.genUsed.toNat ++ [ms, s.restore.fetchCount, s.restore.poisoned])

/-- A relocation fill ends when every granule has been filled or lost its data (R137). -/
def endFill (s : State) : State :=
  if s.shroud.mode = .relocate && s.shroud.pass == some .relocationFill
      && decide (s.shroud.filled.length + (s.flash.manifest.filter fun m => m.2.state == .lost && decide (m.1 < hvGranules s)
        && !s.shroud.filled.contains m.1).length ≥ hvGranules s) then endPass s
  else s

/-- A granule comes into DRAM: its copy or zeros, or zeros and poison when it could not be read (R216, R223, Table 08-3). -/
def bringIn (s : State) (g : Nat) (ok : Bool) : State :=
  let s := if ok || (entryOf s g).state ≠ .present then writeGranule s g (imageCells s g)
    else
      let s := poisonGranule (writeGranule s g []) g .internal
      raise { s with restore := { s.restore with poisoned := s.restore.poisoned + 1 } } 0x0203 []
  endFill (endRestore (retrySlots (serveWaiting (releaseWaiting (setPresent s g) g) g)))

/-- The read of a copy ended with its data. -/
def readOk : DecodeOutcome → Bool
  | .entry _ _ => true
  | .byRain => true
  | .failed => false
  | .headerMismatch => false

/-- What the read of a granule's copy leaves behind in the flash medium; `demand` says that it is a demand fetch's. -/
def noteCopyRead (s : State) (g : Nat) (demand : Bool) (o : DecodeOutcome) : State :=
  match s.startup.settings with
  | some c =>
    let e := entryOf s g
    if e.state = .present then noteRead s e.ch (bandDie c e.band) (bandSet c e.band) demand o else s
  | none => s

/-- A granule's copy can be read: its entry names no page group, or each of them or its row. -/
def copyReads (s : State) (g : Nat) : Bool :=
  (entryOf s g).state != .present || match s.startup.settings with
    | some c => (s.flash.pages.filter fun p => p.passed && p.index == g && livePage s p).all (pageReads s c)
    | none => false

/-- A demand fetch ends after `micros` (R222, R223, R225) (in part DEDUCED, notes/assumptions/30). -/
def endFetch (s : State) (g : Nat) (o : DecodeOutcome) (micros : Nat) : State :=
  match s.restore.fetches.find? fun f => f.granule == g with
  | none => s
  | some f =>
    let flash := f.lun.isSome
    let s := if flash then noteCopyRead s g true o else s
    let s := { s with restore := { s.restore with
      fetches := s.restore.fetches.filter fun x => x.granule != g,
      fetchCount := if flash then satAdd 32 s.restore.fetchCount 1 else s.restore.fetchCount,
      maxUs := max s.restore.maxUs (min 4095 micros),
      isOver := if micros > s.restore.boundUs then satAdd 8 s.restore.isOver 1 else s.restore.isOver } }
    issueWaiting (bringIn s g (!flash || readOk o))

/-! ## Drain (R14, R124–R126, R132) -/

/-- The granule lies in host-visible capacity (in part DESIGN CHOICE, notes/assumptions/13). -/
def hostVisible (s : State) (line : Nat) : Bool := decide (64 * line < hvBytes s)

/-- The drain of a line updates its stripe's parity: not with Shroud off in host-visible capacity (R136), and not where the parity
line lies on the missing channel (R128). -/
def takesParity (s : State) (line : Nat) : Bool :=
  underParity s (stripeOf line) && !missesStripe s (stripeOf line) (Config.parityChannel (stripeOf line))

/-- Staging entries of the 4 MiB SRAM. -/
def stagingEntries : Nat := 65536

/-- The open staging entry of a stripe. -/
def openEntry (s : State) (st : Nat) : Option StagingEntry := s.shroud.staging.find? fun e => e.stripe == st && !e.written

/-- The staging entry of a stripe closes: the parity line is written once, from the entry, and every write-buffer entry folded into it
may be released; the staging entry is freed with the last of them (Table 05-1, R124, R125). -/
def closeStaging (s : State) (st : Nat) : State :=
  match openEntry s st with
  | none => s
  | some e =>
    let buf := s.host.buf.map fun b => if b.drained && stripeOf b.line == st then { b with parityOut := true } else b
    let s := { s with host := { s.host with buf := buf },
                      shroud := { s.shroud with staging := s.shroud.staging.map fun x =>
                        if x.stripe = st then { x with written := true } else x } }
    if missesStripe s st (Config.parityChannel st) then s
    else setParity (touch s st true [Config.parityChannel st]) st e.parity

/-- Folds a drained line into the open staging entry of its stripe, which closes after 16 folds; the first drain allocates it, with the
old parity line read (R124, R125). -/
def foldParity (s : State) (st : Nat) (delta : Line) : State :=
  match openEntry s st with
  | none => { s with shroud := { s.shroud with staging := s.shroud.staging ++
      [{ stripe := st, folds := 0, delta := delta, parity := readLine s.dram.parity st ^^^ delta, written := false }] } }
  | some e =>
    let n : StagingEntry := { e with folds := e.folds + 1, delta := e.delta ^^^ delta, parity := e.parity ^^^ delta }
    let s := { s with shroud := { s.shroud with staging := s.shroud.staging.map fun x => if x.stripe = st ∧ !x.written then n else x } }
    if n.folds ≥ 16 then closeStaging s st else s

/-- The region of a line on the channel that retrains is marked in the stale map (R114). -/
def markStale (s : State) (line : Nat) : State :=
  if s.shroud.channel == some (Config.channelOfLine line) then staleRegion s (regionOf (lineGranule s line)) else s

/-- The first entry of a line that has not drained yet, if it may drain now: in acceptance order, not while its granule is fetched,
its stripe locked, or the staging SRAM full. -/
def drainable (s : State) (line : Nat) : Option BufLine :=
  if dramHeld s then none else
  match s.host.buf.find? fun b => b.line == line && !b.drained with
  | none => none
  | some b =>
    let st := stripeOf line
    let first := !(s.host.buf.any fun x => x.line == line && x.drained && !x.parityOut) || (openEntry s st).isSome || !takesParity s line
    if b.waitFetch || s.shroud.locked == some st || !first then none
    else if takesParity s line && (openEntry s st).isNone && decide (s.shroud.staging.length ≥ stagingEntries) then none
    else some b

/-- Marks the first undrained entry of a line as drained. -/
def setDrained (parityOut : Bool) (line : Nat) : List BufLine → List BufLine
  | [] => []
  | b :: t =>
    if b.line = line && !b.drained then { b with drained := true, parityOut := parityOut } :: t
    else b :: setDrained parityOut line t

/-- The accesses of a drain but for the write of the parity line, which its staging entry makes (Tables 01-6 and 05-1, R125, R128): the
old data line and, for the first drain into an entry, the old parity line are read and the data line is written; of a line on the missing
channel the other 15 are read; without parity the data line alone is written. -/
def drainAccess (s : State) (line : Nat) : State :=
  let st := stripeOf line
  let own := homeOf s line
  if !takesParity s line then (if missesStripe s st own then s else touch s st true [own])
  else if missesStripe s st own then touch s st false ((presentIn s st).filter fun i => i != Config.parityChannel st)
  else touch (touch s st false (if (openEntry s st).isSome then [own] else [own, Config.parityChannel st])) st true [own]

/-- One line drains: data written, poison set or cleared, parity folded, its granule marked dirty (R14, R42, R80, Table 05-1). -/
def drainLine (s : State) (b : BufLine) : State :=
  let st := stripeOf b.line
  let old := readLine s.dram.mem b.line
  let par := takesParity s b.line
  let s := drainAccess (if par then eccEffect s b.line b.ecc else s) b.line
  let s := { s with host := { s.host with buf := setDrained (!par) b.line s.host.buf },
                    dram := { s.dram with mem := writeLine s.dram.mem b.line b.data } }
  let s := if b.poison then (if poisoned s b.line then s else addPoison s b.line .external) else dropPoison s b.line
  let s := markStale s b.line
  let s := if par then foldParity s st (old ^^^ b.data) else s
  let s := markDirty s (lineGranule s b.line)
  followD s

/-- Removes the first entry of a line that has drained with its parity. -/
def dropReleased (line : Nat) : List BufLine → List BufLine
  | [] => []
  | b :: t => if b.line = line && b.drained && b.parityOut then t else b :: dropReleased line t

/-- A drained entry with its parity leaves, and with the last of its stripe the staging entry is freed (Table 05-1, step 5). -/
def releaseLine (s : State) (line : Nat) : State :=
  let buf := dropReleased line s.host.buf
  let st := stripeOf line
  let left := buf.any fun b => b.drained && b.parityOut && stripeOf b.line == st
  { s with host := { s.host with buf := buf },
           shroud := { s.shroud with staging := if left then s.shroud.staging
             else s.shroud.staging.filter fun e => !(e.stripe == st && e.written) } }

/-- Drains everything that may drain, with its parity, and releases it: the drain of R37 and R190. -/
def drainAll : Nat → State → State
  | 0, s => s
  | n + 1, s =>
    match s.host.buf.find? fun b => !b.drained && !b.waitFetch with
    | none =>
      let s := (s.shroud.staging.filter fun e => !e.written).foldl (fun s e => closeStaging s e.stripe) s
      { s with host := { s.host with buf := s.host.buf.filter fun b => b.waitFetch }, shroud := { s.shroud with staging := [] } }
    | some b => drainAll n (drainLine s b)

/-- The write buffers are empty but for lines that wait on fetches (R190). -/
def drainBuffers (s : State) : State := drainAll (s.host.buf.length + 1) s

end Sys2Proof.Machine
end

