-- ==== Sys2Proof/Machine/RecorderOps.lean ====
section
/-! DEFINITION. The NAND log: programming assembly pages, mirror failures, the sweep of suppressed codes, the records as bytes and
the reads of the log and of the last-words ring (R362, R366–R376). -/

namespace Sys2Proof.Machine

open Sys2Proof

/-- The severity of a code (R362, Table 15-2, Table 15-7). -/
def codeSeverity (code : Nat) : Nat :=
  if code ∈ [0x0081, 0x0082, 0x0083, 0x0B84, 0x0B88] then 2
  else if code ∈ [0x0281, 0x0283, 0x0581, 0x0582, 0x0881, 0x0A81, 0x0B83, 0x0B85, 0x0B86, 0x0B87] then 0
  else if code % 256 ≥ 0x80 then 1
  else 3 - noticeClass code

/-- A SUPPRESSED record for every code whose drop count is not 0 (R366). -/
def sweepSuppressed (s : State) : State :=
  let owed := s.recorder.buckets.filter fun b => b.drops != 0
  let s := owed.foldl (fun s b => setBucket (stage s (suppressed s (codeSeverity b.code.toNat) b)) { b with drops := 0 }) s
  { s with recorder := { s.recorder with sweptAt := s.clock.opTime } }

/-- Moves what is staged now that a page may be open. -/
def restage (s : State) : State :=
  { s with recorder := moveStaged 600 s.clock.opTime (ringSeverity s) (newRecord s 0x0B82 1 []) s.recorder }

/-! ## Mirrors (R371, R372) -/

/-- Changes a mirror. -/
def setMirror (s : State) (m : Fin 2) (f : Mirror → Mirror) : State :=
  { s with flash := { s.flash with mirrors := vecMod s.flash.mirrors m f } }

/-- Both mirrors have failed (R372). -/
def bothLost (s : State) : Bool := !s.flash.mirrors[0].ok && !s.flash.mirrors[1].ok

/-- A mirror fails: logged, and the system area is to be relocated; with the second one the recorder runs from SRAM only. -/
def mirrorFails (s : State) (m : Fin 2) : State :=
  if !s.flash.mirrors[m].ok then s
  else
    let ch := s.flash.mirrors[m].ch
    let s := setMirror s m fun x => { x with ok := false }
    let lost := bothLost s
    let s := { s with flash := { s.flash with relocating := !lost },
                      recorder := { s.recorder with sramOnly := s.recorder.sramOnly || lost } }
    let s := logEvent s 0x0B84 2 (wordBytes [ch.val, 0, s.recorder.logSet])
    if lost then raise s 0x0B01 [s.recorder.nextRecno.toNat] else s

/-- A channel that carries a mirror leaves service. -/
def mirrorOfChannel (s : State) (ch : FlashCh) : State :=
  (fins 2).foldl (fun s m => if s.flash.mirrors[m].ch = ch then mirrorFails s m else s) s

/-- The channel the system area moves to: the next one in ascending order that holds no mirror and is in service. -/
def relocateTo (s : State) (failed : FlashCh) : Option FlashCh :=
  let order := (List.range 31).map fun i => Fin.ofNat 32 (failed.val + 1 + i)
  order.find? fun c => fcUp s.flash.ch[c] && s.flash.ch[c].dies.contains 0 && !(s.flash.mirrors.toList.any fun x => x.ch == c)

/-- The surviving system area has been copied to another channel (R371). -/
def relocateMirror (s : State) (m other : Fin 2) (ch : FlashCh) : State :=
  let s := setMirror s m fun _ => { ch := ch, ok := true }
  let copy := fun (g : Generation) =>
    let c := if other = 0 then g.copies.1 else g.copies.2
    { g with copies := (c, c) }
  logEvent { s with flash := { s.flash with relocating := false, gens := s.flash.gens.map copy } } 0x0B85 0 (wordBytes [ch.val])

/-! ## Programming the log (R368–R370) -/

/-- A page group of the log is written: after 512 of them the other block set is erased first, and the records in it are gone. -/
def appendLog (rc : Recorder) (rs : List Record) : Recorder :=
  if rc.logPage ≥ 512 then
    { rc with nand := rc.nand.drop (rc.nand.length - rc.inSet) ++ rs, inSet := rs.length, logPage := 1, logSet := 1 - rc.logSet }
  else { rc with nand := rc.nand ++ rs, inSet := rc.inSet + rs.length, logPage := rc.logPage + 1 }

/-- A NAND log can be written. -/
def logWritable (s : State) : Bool := s.recorder.nandUp && !s.recorder.sramOnly

/-- Bytes of a log page group, charged to the wear credit for each mirror (R370). -/
def logPageBytes (s : State) : Nat := 65536 * (s.flash.mirrors.toList.filter (·.ok)).length

/-- The assembly page that is full is in the NAND log; the pages turn. -/
def programFull (s : State) (rs : List Record) : State :=
  let s := chargeWear s (logPageBytes s)
  restage { s with recorder := turnPage { appendLog s.recorder rs with fullPage := none } }

/-- The partly filled page is programmed (R369): in phase 6 of a save and in the drain of R37. -/
def programPartial (s : State) : State :=
  if !logWritable s then s
  else
    let s := match s.recorder.fullPage with
      | some rs => programFull s rs
      | none => s
    if s.recorder.page.isEmpty then s
    else
      let s := chargeWear s (logPageBytes s)
      restage { s with recorder := { appendLog s.recorder s.recorder.page with page := [] } }

/-! ## The log at a start-up that brings flash into service (R372, R374) -/

/-- Ring records made without a NAND log that are not in it yet. -/
def uncopied (s : State) : List Record :=
  (s.recorder.ring.filter fun r => r.sramOnly && !(s.recorder.nand.any fun n => n.recno == r.recno)
    && !((s.recorder.page ++ s.recorder.fullPage.getD []).any fun n => n.recno == r.recno))

/-- The system area is found, or formed afresh with an empty log after both mirrors failed; the ring's records are copied ahead of this
power cycle's first record (R372, R374) (in part DESIGN CHOICE, notes/assumptions/95). -/
def bringLog (s : State) : State :=
  if s.recorder.nandUp then s
  else
    let fresh := bothLost s
    let mir := if fresh then #v[⟨0, true⟩, ⟨16, true⟩] else s.flash.mirrors
    let rc := if fresh then { s.recorder with nand := [], inSet := 0, logPage := 0, logSet := 0 } else s.recorder
    let gens := if fresh then s.flash.gens.map fun g => { g with copies := (false, false) } else s.flash.gens
    let s := { s with flash := { s.flash with mirrors := mir, gens := gens }, recorder := { rc with nandUp := true, sramOnly := false } }
    let old := uncopied s
    if old.isEmpty then restage s
    else
      let s := { s with recorder := appendLog s.recorder old }
      restage (logEvent s 0x0B86 0 (wordBytes [old.length]))

/-! ## Records as bytes and reads (Table 15-1, R375, R376) -/

/-- Table 15-1. -/
def recordBytes (r : Record) : List Byte :=
  leBytes 2 r.code.toNat
    ++ [BitVec.ofNat 8 (r.severity + 4 * bit r.timeEst + 8 * bit r.inSave + 16 * bit r.lastWords + 32 * bit r.sramOnly), r.source]
    ++ leBytes 4 r.powerCycle.toNat ++ leBytes 6 r.opTime ++ leBytes 2 r.recno.toNat ++ padTo r.payload 16

/-- The body of a LOG_READ response (R376, Table 13-4). What NEXT names when no record is returned is left open
(in part DESIGN CHOICE, notes/assumptions/59). -/
def logReadBody (s : State) (start count : Word) : List Byte × State :=
  let rs := ((heldRecords s).filter fun r => decide (start.toNat ≤ r.recno.toNat)).take (min count.toNat 128)
  match rs.getLast? with
  | some r => (leBytes 4 (r.recno.toNat + 1) ++ leBytes 4 rs.length ++ rs.flatMap recordBytes, s)
  | none => (leBytes 4 (Config.unstatedNext s.fresh).toNat ++ leBytes 4 0, { s with fresh := s.fresh + 1 })

/-- The body of a LASTWORDS_READ response (R376): the ring numbered from 0, the newest. -/
def lastWordsBody (s : State) (start count : Byte) : List Byte :=
  let rs := ((s.recorder.ring.reverse.take 64).drop start.toNat).take count.toNat
  leBytes 1 rs.length ++ rs.flatMap recordBytes

end Sys2Proof.Machine
end

