-- ==== Sys2Proof/Machine/ThermalOps.lean ====
section
/-! DEFINITION. Sampling a sensor site, its plausibility, the sensor minimums, and what a new filtered value asks for (R265–R272,
R276, R278, R112, R193). Temperatures are in 1/128 °C for samples and 1/1024 °C for filtered values. -/

namespace Sys2Proof.Machine

open Sys2Proof

/-- Changes a site. -/
def setSite (s : State) (i : Site) (f : SiteState → SiteState) : State :=
  { s with thermal := { s.thermal with site := vecMod s.thermal.site i f } }

/-- Codes of REASON and DOMAIN (Table 10-11). -/
def reasonCode : SiteReason → Nat
  | .none => 0
  | .range => 1
  | .stuck => 2
  | .busError => 3
  | .busStuck => 4
  | .absent => 5

/-- DOMAIN codes. -/
def domainCode : Domain → Nat
  | .die => 0
  | .dram => 1
  | .nand => 2
  | .pack => 3
  | .board => 4

/-! ## Minimums (R270) -/

/-- The Sheet minimum of a domain; in SINGLE mode none applies (R268). -/
def domainMin (c : Settings) : Domain → Nat
  | .die => c.minDie
  | .dram => c.minDram
  | .nand => c.minNand
  | _ => 0

/-- A channel moves to the 2× band, or back: its tick timer begins again, its debts are adjusted, and refreshes above the new limit are
issued at once (R102). -/
def setBand2x (s : State) (ch : DramCh) (on : Bool) : State :=
  if s.dram.ch[ch].band2x = on then s
  else
    let limit : Int := if on then 2 else 4
    let adjusted := s.dram.ch[ch].debt.map fun d => if d < 0 then 0 else if d > limit then limit else d
    let issued := (s.dram.ch[ch].debt.toList.map fun d => (d - limit).toNat).sum
    setChan s ch fun d => { d with band2x := on, tickFrom := s.clock.now, debt := adjusted, refreshes := (d.refreshes + issued) % 2 ^ 32 }

/-- The forced rule places the domain in its reefing band at once; for DRAM every channel in the 2× band (R270). -/
def enterForced (s : State) (d : Domain) : State :=
  match d with
  | .die => { s with thermal := { s.thermal with forcedDie := true, dieReef := true } }
  | .dram =>
    let s := { s with thermal := { s.thermal with forcedDram := true, dram := s.thermal.dram.map fun b => { b with reef := true } } }
    (fins 17).foldl (fun s i => setBand2x s i true) s
  | .nand => { s with thermal := { s.thermal with forcedNand := true, nand := s.thermal.nand.map fun b => { b with isOver := true } } }
  | _ => s

/-- The forced rule ends; the bands are left as R271 says. -/
def leaveForced (s : State) (d : Domain) : State :=
  match d with
  | .die => { s with thermal := { s.thermal with forcedDie := false } }
  | .dram => { s with thermal := { s.thermal with forcedDram := false } }
  | .nand => { s with thermal := { s.thermal with forcedNand := false } }
  | _ => s

/-- The forced rule applies to the domain. -/
def isForced (s : State) : Domain → Bool
  | .die => s.thermal.forcedDie
  | .dram => s.thermal.forcedDram
  | .nand => s.thermal.forcedNand
  | _ => false

/-- The domain is at or below its minimum. -/
def isAtMin (s : State) : Domain → Bool
  | .die => s.thermal.atMinDie
  | .dram => s.thermal.atMinDram
  | .nand => s.thermal.atMinNand
  | _ => false

/-- Sets the AT_MIN flag of a domain. -/
def setAtMin (s : State) (d : Domain) (b : Bool) : State :=
  match d with
  | .die => { s with thermal := { s.thermal with atMinDie := b } }
  | .dram => { s with thermal := { s.thermal with atMinDram := b } }
  | .nand => { s with thermal := { s.thermal with atMinNand := b } }
  | _ => s

/-- One domain's two thresholds (R270). In SINGLE mode only site 0 counts, for every domain (R268). -/
def checkDomain (s : State) (c : Settings) (d : Domain) : State :=
  let n := plausibleIn s d
  let m := domainMin c d
  let atMin := !c.singleMode && decide (n ≤ m)
  let forced := if c.singleMode then s.thermal.site[0].run != .plausible else decide (n < m)
  let s := if atMin && !isAtMin s d then raise (setAtMin s d true) 0x0705 [domainCode d] else setAtMin s d atMin
  if forced && !isForced s d then raise (enterForced s d) 0x0702 [domainCode d, n, m]
  else if !forced && isForced s d then leaveForced s d else s

/-- The thresholds of every domain, and the sub-state that follows (R56, R270). -/
def checkMinimums (s : State) : State :=
  match s.startup.settings with
  | none => s
  | some c => if s.power.minimal then s else evalPsub (checkDomain (checkDomain (checkDomain s c .die) c .dram) c .nand)

/-! ## Plausibility (R269) -/

/-- A site is ignored for a reason: reported, and its re-read test started; a third time within 24 h it is retired (Table 14-2).
A stuck local bus is not the site's fault. -/
def ignoreSite (s : State) (i : Site) (why : SiteReason) : State :=
  let t := s.thermal.site[i]
  if t.run ≠ .plausible then s
  else
    let times := if why = .busStuck then t.ignoredAt else recent s dayMs t.ignoredAt ++ [s.clock.now]
    let retired := decide (times.length ≥ 3) && why != .busStuck
    let s := setSite s i fun t => { t with run := if retired then .retired else .ignored, reason := why, samples := [], hist := [],
                                           badRange := 0, badReads := 0, goodSince := none, ignoredAt := times }
    let s := if why = .busStuck then s
      else
        let s := raise s 0x0704 [i.val, reasonCode why]
        if retired then raise s 0x0A06 [i.val, domainCode t.domain, reasonCode why] else queueTest s (.site i) none
    checkMinimums s

/-- The limits of the range check: −40 °C to 150 °C on die, to 125 °C remote. -/
def inSiteRange (i : Site) (t : Int) : Bool := decide (-40 * 128 ≤ t ∧ t ≤ (if i.val < 8 then 150 else 125) * 128)

/-- The spread of a site's filtered value over the last 10 s, once it has been followed for so long
(in part DESIGN CHOICE, notes/assumptions/43). -/
def spread (s : State) (t : SiteState) : Option Int :=
  match maxInt (t.hist.map (·.2)), maxInt (t.hist.map fun h => -h.2), t.hist.head? with
  | some hi, some lo, some old => if 10000 + old.1 ≤ s.clock.now then some (hi + lo) else none
  | _, _, _ => none

/-- The stuck check of Table 10-2 (in part DESIGN CHOICE, notes/assumptions/43). -/
def isStuck (s : State) (i : Site) : Bool :=
  let t := s.thermal.site[i]
  (spread s t).any (fun d => decide (d ≤ 256))
    && decide (2 ≤ ((fins 32).filter fun j => j != i && s.thermal.site[j].run == .plausible
        && s.thermal.site[j].domain == t.domain && (spread s s.thermal.site[j]).any fun d => decide (d ≥ 2048)).length)

/-- Follows the filtered value, once a second, for the last 10 s and one sample more (in part DESIGN CHOICE, notes/assumptions/43). -/
def follow (s : State) (t : SiteState) : SiteState :=
  match t.hist.getLast? with
  | some h => if 1000 + h.1 ≤ s.clock.now then { t with hist := (t.hist ++ [(s.clock.now, filtered t)]).drop (t.hist.length - 10) } else t
  | none => { t with hist := [(s.clock.now, filtered t)] }

/-- A sample of a site in range (R266, R267). -/
def goodSample (s : State) (i : Site) (t : Int) : State :=
  let s := setSite s i fun x =>
    let x := { x with samples := (t :: x.samples).take 8, badRange := 0, badReads := 0 }
    if x.run = .plausible then follow s x else { x with goodSince := some (x.goodSince.getD s.clock.now) }
  if s.thermal.site[i].run = .plausible && isStuck s i then ignoreSite s i .stuck else s

/-- A sample out of range: the second of two in a row has the site ignored. -/
def badSample (s : State) (i : Site) : State :=
  let n := s.thermal.site[i].badRange + 1
  let s := setSite s i fun x => { x with badRange := n, badReads := 0, goodSince := none }
  if n ≥ 2 then ignoreSite s i .range else s

/-- A failed read: the third in a row of a remote site, or one of an on-die site, has the site ignored; a site that has never been
read is absent. -/
def failedRead (s : State) (i : Site) : State :=
  let x := s.thermal.site[i]
  let n := x.badReads + 1
  let why : SiteReason := if x.samples.isEmpty && x.hist.isEmpty then .absent else .busError
  let s := setSite s i fun x => { x with badReads := n, errors := satAdd 12 x.errors 1, goodSince := none }
  if i.val < 8 || decide (n ≥ 3) then ignoreSite s i why else s

/-- One sample of a site (R266, R269). Sites outside the map and retired ones are not read. -/
def sampleSite (s : State) (i : Site) (reading : Option Int) : State :=
  match s.thermal.site[i].run with
  | .unmapped => s
  | .retired => s
  | _ => match reading with
    | none => failedRead s i
    | some t => if inSiteRange i t then goodSample s i t else badSample s i

/-! ## What new values ask for -/

/-- A filtered maximum lies above an edge. -/
def above (m : Option Int) (edge : Int) : Bool := m.any fun t => decide (t > edge * 1024)

/-- A filtered maximum lies below an edge less the hysteresis of 3 °C; with no reading it does not
(in part DEDUCED, notes/assumptions/98). -/
def belowExit (m : Option Int) (edge : Int) : Bool := m.any fun t => decide (t < (edge - 3) * 1024)

/-- A band whose edge is crossed upward or downward (R271). -/
def crossed (m : Option Int) (edge : Int) (entering inBand : Bool) : Bool :=
  if entering then above m edge && !inBand else belowExit m edge && inBand

/-- The filtered maximum that an edge of Table 10-3 is compared with, the edge in °C, and whether its band is in force. -/
def edgeView (s : State) : BandEdge → Option Int × Int × Bool
  | .dieHot => (dieMax s, 95, s.thermal.dieHot)
  | .dieReef => (dieMax s, 100, s.thermal.dieReef)
  | .dieTrip => (dieMax s, 112, s.thermal.dieTrip)
  | .dram2x ch => (if singleMode s then none else dramMax s ch, 85, s.dram.ch[ch].band2x)
  | .dramReef ch => (dramMax s ch, 95, s.thermal.dram[ch].reef)
  | .dramEmergency ch => (dramMax s ch, 100, s.thermal.dram[ch].emergency)
  | .nand1 ch => (nandMax s ch, 40, s.thermal.nand[ch].band1)
  | .nand2 ch => (nandMax s ch, 70, s.thermal.nand[ch].band2)
  | .nandOver ch => (nandMax s ch, 85, s.thermal.nand[ch].isOver)

/-- The edge is crossed now (R271). -/
def edgeCrossed (s : State) (e : BandEdge) (entering : Bool) : Bool :=
  crossed (edgeView s e).1 (edgeView s e).2.1 entering (edgeView s e).2.2

/-- The band edges of Table 10-3. -/
def allEdges : List BandEdge :=
  [.dieHot, .dieReef, .dieTrip] ++ ((fins 17).flatMap fun c => [.dram2x c, .dramReef c, .dramEmergency c])
    ++ (fins 32).flatMap fun c => [.nand1 c, .nand2 c, .nandOver c]

/-- Since when an edge has been crossed without a break. -/
def crossedSince (s : State) (e : BandEdge) (entering : Bool) : Option Nat :=
  (s.thermal.crossSince.find? fun x => x.1 == e && x.2.1 == entering).map (·.2.2)

/-- Dwells follow the filtered maximums: one that is not across its edge any more begins again (R271). -/
def noteCrossings (s : State) : State :=
  let one := fun (e : BandEdge) (d : Bool) =>
    if edgeCrossed s e d then [(e, d, (crossedSince s e d).getD s.clock.now)] else []
  { s with thermal := { s.thermal with crossSince := allEdges.flatMap fun e => one e true ++ one e false } }

/-- The edge has been crossed for the 100 ms of R20 and R271. -/
def dwelt (s : State) (e : BandEdge) (entering : Bool) : Bool := (crossedSince s e entering).any fun t => due s t 100

/-- A channel whose temperature has moved 20 °C or more since its last training retrains (R112). -/
def checkRetrain (s : State) : State :=
  (fins 17).foldl (fun s i =>
    if chanUp s.dram.ch[i] then
      match dramMax s i with
      | some t => if (t - s.dram.ch[i].trainTemp).natAbs ≥ 20 * 1024 then queueRetrain s i else s
      | none => s
    else s) s

/-- Every DRAM channel's filtered maximum is below 97 °C (R278). -/
def dramCool (s : State) : Bool := (fins 17).all fun i => (dramMax s i).any fun t => decide (t < 97 * 1024)

/-- After the samples of a cycle: dwells, retraining triggers, the thermal guard of a save (R193), and the cooling of R278 in STANDBY. -/
def afterSamples (s : State) : State :=
  let s := checkRetrain (noteCrossings s)
  let s := if saving s && thermalGuard s then stopFlush s .thermal else s
  if inStandby s then
    { s with thermal := { s.thermal with coolSince := if dramCool s then some (s.thermal.coolSince.getD s.clock.now) else none } }
  else s

/-! ## Trip and emergency (R276, R278, Table 10-6) -/

/-- The site that leads a set of sites: the plausible one with the highest filtered value (in part DEDUCED, notes/assumptions/98). -/
def leadSite (s : State) (p : SiteState → Bool) : Nat :=
  let best := siteMax s p
  ((fins 32).find? fun i => plausible s.thermal.site[i] && p s.thermal.site[i] && some (filtered s.thermal.site[i]) == best).elim 0
    (·.val)

/-- The trip record that the present fields give. -/
def tripNow (s : State) (saveBits : Nat) (gen : DWord) : TripRecord :=
  { powerCycle := s.clock.pcycle, opTime := s.clock.opTime, kind := s.thermal.tripKind, site := s.thermal.tripSite,
    temp := s.thermal.tripTemp, channel := if s.thermal.tripKind = 2 then s.thermal.tripCh else 255, saveBits := saveBits, gen := gen }

/-- A trip record is held in AON, logged (0x0781, bytes [27:12] of Table 10-6), and written to code flash while the masthead can
write it; otherwise it stays pending (R276). -/
def recordTrip (s : State) (r : TripRecord) (canWrite : Bool) : State :=
  let s := logEvent { s with thermal := { s.thermal with pending := some r } } 0x0781 1 (slice (tripBytes r) 12 16)
  if canWrite then
    let t := writeTrip s r
    { t with thermal := { t.thermal with pending := none } }
  else s

/-- The trip fields are set when a band is entered (R276). -/
def setTrip (s : State) (kind site ch : Nat) (temp : Int) : State :=
  { s with thermal := { s.thermal with tripKind := kind, tripSite := site, tripCh := ch, tripTemp := temp / 512 } }

/-- A die trip or a DRAM emergency starts its save, or is held for it; where none starts, R510 writes the record and, for a die trip,
latches. -/
def tripSave (s : State) (t : Trigger) : State :=
  let u := triggerSave s t
  if saving u || decide (s.save.heldTrigs.length < u.save.heldTrigs.length) then u
  else
    let u := recordTrip u (tripNow u 4 0) (decide (u.startup.step ≥ 2))
    if t = .dieTrip then { u with thermal := { u.thermal with latched := true } } else u

/-- The flash thermal band that a channel's bands give (R152). -/
def nandBandOf (b : NandBand) : Nat := if b.band2 then 2 else if b.band1 then 1 else 0

end Sys2Proof.Machine
end

