-- ==== Sys2Proof/Machine/PowerOps.lean ====
section
/-! DEFINITION. What a loss of VDD_AON, of the core rails or a reset of the data path leaves; the intervals of unavailability;
and the rail supervisor's sequences and reactions (R37, R283–R296, R357, R358). -/

namespace Sys2Proof.Machine

open Sys2Proof

/-! ## Availability (R357, R358) -/

/-- AVAIL_BUDGET at 80 % and at 100 % of the yearly budget (R358). -/
def checkBudget (s : State) (old : Nat) : State :=
  let new := s.faults.availMs
  if (old ≤ 25200 ∧ 25200 < new) ∨ (old ≤ 31500 ∧ 31500 < new) then
    raise s 0x0A05 [new, s.faults.availEvents, (s.clock.opTime - s.faults.yearStart) / dayMs % 365]
  else s

/-- The interval in progress ends: its length, less the time HOLD was set, goes to its sum (R357)
(in part DEDUCED, notes/assumptions/51). -/
def endInterval (s : State) : State :=
  match s.faults.interval with
  | none => s
  | some (k, t) =>
    let hold := s.faults.holdMs + (match s.faults.holdSince with | some h => s.clock.now - h | none => 0)
    let d := s.clock.now - t - hold
    let f := { s.faults with interval := none, holdMs := 0, holdSince := none }
    match k with
    | .counted => checkBudget { s with faults := { f with availMs := f.availMs + d, availEvents := satAdd 8 f.availEvents 1 } } s.faults.availMs
    | .excluded => { s with faults := { f with exclMs := f.exclMs + d } }
    | .notCounted => { s with faults := f }

/-! ## What is lost -/

/-- Page groups that have not passed are torn; open rows are given up and open bands closed. -/
def flashAfterReset (f : Flash) : Flash :=
  { f with pages := f.pages.filter fun p => p.passed, openRows := [], sealJob := none, moves := [], erases := [], relocating := false,
           chunks := (f.sealJob.elim [] (·.chunks)).foldl insertNat f.chunks,
           blocks := f.blocks.map fun b => match b.run with
             | .opened _ => { b with run := .full }
             | _ => b,
           bands := f.bands.map fun b => { b with closed := true, moving := false } }

/-- What the flash devices keep without power: the medium, its generations, and the erase counts as the last seal wrote them (R172); a
full scrub that has not ended is owed (R174) (in part DEDUCED, notes/assumptions/74). -/
def flashMedium (f : Flash) : Flash :=
  let g := flashAfterReset f
  { State.reset.flash with pages := g.pages, bands := g.bands, blocks := g.blocks.map fun b => { b with erases := b.saved },
                           nextSeq := g.nextSeq, gen := g.gen, gens := g.gens, mirrors := g.mirrors, retiredDies := g.retiredDies,
                           standbySince := g.standbySince, scrubOwed := g.scrubOwed || g.fullScrub }

/-- What DRAM keeps when its contents go: the devices marked failed, whose retirement never ends (Table 14-2)
(in part DEDUCED, notes/assumptions/74). -/
def dramMedium (d : Dram) : Dram :=
  { State.reset.dram with ch := vecMap d.ch fun _ x => { resetDramChan with failed := x.failed, retryAt := x.retryAt } }

/-- Erases that lose power leave their block sets ERASE_INCOMPLETE (R157, R176). -/
def breakErases (s : State) : State := s.flash.erases.foldl (fun s e => eraseBroken s e.ch e.die e.index) s

/-- The recorder without its SRAM: the NAND log and the last-words ring stay. -/
def recorderMedium (r : Recorder) : Recorder :=
  { State.reset.recorder with nand := r.nand, logPage := r.logPage, logSet := r.logSet, inSet := r.inSet, ring := r.ring, ringSlots := r.ringSlots,
                              nextRecno := r.nextRecno }

/-- A code flash sector whose contents power left undefined (R387): every word is a free value
(in part DESIGN CHOICE, notes/assumptions/42). -/
def brokenSector (s : State) (sec : Nat) : State :=
  let ws := (List.range 512).filterMap fun i =>
    (Config.brokenWord s.fresh (sectorBase sec + i)).map fun w => (sectorBase sec + i, ({ data := w.1, bad := w.2 } : CfWord))
  let s := sectorGone s sec
  { s with fresh := s.fresh + 1,
           cf := { s.cf with words := (s.cf.words.filter fun w => decide (w.1 < sectorBase sec)) ++ ws
                     ++ (s.cf.words.filter fun w => decide (sectorBase (sec + 1) ≤ w.1)) } }

/-- An erase of the code flash that is cut off or stays suspended when power goes has undefined contents
(in part DESIGN CHOICE, notes/assumptions/42). -/
def breakCfErase (s : State) : State :=
  let s := if s.cf.op = .erase then brokenSector s s.cf.sector else s
  match s.cf.suspended with
  | some sec => brokenSector s sec
  | none => s

/-- Firmware without its SRAM: what the code flash holds stays. -/
def fwMedium (f : Firmware) : Firmware :=
  { State.reset.fw with imageA := f.imageA, imageB := f.imageB, boot0 := f.boot0, boot1 := f.boot1, bootVer0 := f.bootVer0,
                        bootVer1 := f.bootVer1, half := f.half, running := f.half, staging := f.staging, phase := f.phase,
                        cause := f.cause, reasons := f.reasons, entry := f.entry, bootDue := f.bootDue, entries := f.entries,
                        old := f.old, active := f.active }

/-- VDD_AON falls below its power-on reset threshold (R283): every register and latch takes its reset value; what the media and
the pins hold stays (in part DEDUCED, notes/assumptions/50). -/
def aonLost (s : State) : State :=
  let s := breakCfErase (breakErases s)
  { State.reset with
    pending := s.pending, out := s.out, fresh := s.fresh,
    clock := { State.reset.clock with now := s.clock.now },
    power := { State.reset.power with aon := false, aux := s.power.aux, state := if s.power.state = .ship then .ship else .off },
    startup := { State.reset.startup with strapPins := s.startup.strapPins, fuse80 := s.startup.fuse80 },
    pack := { State.reset.pack with present := s.pack.present, shipStep := s.pack.shipStep, ship := s.pack.ship,
                                     lastRecord := s.pack.lastRecord },
    dram := dramMedium s.dram,
    flash := flashMedium s.flash,
    recorder := recorderMedium s.recorder,
    cf := { State.reset.cf with words := s.cf.words, held := s.cf.held },
    fw := fwMedium s.fw,
    engines := s.engines }

/-- The host side after a reset of the core: links down and their functions at reset values (R65), no request and no accepted write left:
a reset that keeps DRAM has drained them (R37). -/
def linksReset (s : State) : State :=
  let t := (fins 8).foldl (fun s l => linkGone (linkReset s l) l) s
  { t with host := { t.host with slots := [], buf := [], deficit := [], dirtyCounted := false,
                                 link := vecMap t.host.link fun _ k => { k with heldIdle := false } } }

/-- Every rank of the channels that are trained enters self-refresh, with its settings stored; a channel that retrains or is rebuilt goes
on with that afterwards (R98, R114, R133). -/
def channelsSleep (s : State) : State :=
  let sleep := fun (d : DramChan) =>
    if chanUp d || d.run == .retraining || d.run == .rebuilding then
      { d with run := .selfRefresh, sleptFrom := if d.run = .sliced then .inService else d.run, slicesLeft := 0,
               selfRefreshAt := s.clock.now, stored := some (true, shroudOn s), debt := Vector.replicate 32 0 }
    else d
  { s with dram := { s.dram with ch := vecMap s.dram.ch fun _ d => sleep d, retrainQ := [] } }

/-- DRAM contents are gone, and with them everything the metadata area and the bitmap SRAM described. -/
def dramGone (s : State) : State :=
  { s with
    power := { s.power with dramUp := false },
    host := { s.host with labels := [], poison := resetPoison, shutdownDirty := false, dirtyShutdowns := 0 },
    persist := State.reset.persist, dram := dramMedium s.dram, shroud := State.reset.shroud,
    qmp := { s.qmp with sessions := [], tableLoaded := false },
    flash := { s.flash with manifest := [], chunks := [], chunkMap := [] },
    restore := { s.restore with leftKept := regionsLeft s, running := false, presence := [], presentR := [], lostR := [], hotOrder := [], inHand := [],
                                fetches := [] } }

/-- Debug after a reset of the core: forced CLOSED, an open session ended (R432, R433), the TAP at IDCODE. The media key is kept (Table
11-5). -/
def debugReset (s : State) : State :=
  let s := endSession s 1
  { s with security := { s.security with
      dbg := .closed, forced := true, challenge := none, armedAt := none, closed0 := false, tap := .idcode,
      result := 0, refuse := 0, scanRefused := false } }

/-- Thermal state after a reset of the core; the trip fields and site 0's AON reading stay. -/
def thermalReset (t : Thermal) : Thermal :=
  { State.reset.thermal with
    latched := t.latched, tripKind := t.tripKind, tripTemp := t.tripTemp, tripSite := t.tripSite, tripCh := t.tripCh,
    pending := t.pending, aonSite0 := t.aonSite0, aonCoolSince := t.aonCoolSince, coolSince := t.coolSince }

/-- QV_BOOT and the Sheet registers at a new start-up; the settings held in SRAM stay where `keep` says so. -/
def startupReset (s : State) (keep : Bool) : Startup :=
  { State.reset.startup with
    strapLow := s.startup.strapLow, strapHigh := s.startup.strapHigh, strapPins := s.startup.strapPins, fuse80 := s.startup.fuse80,
    settings := if keep then s.startup.settings else none, sheetCrc := if keep then s.startup.sheetCrc else 0,
    sheetParts := if keep then s.startup.sheetParts else [], regionOfs := if keep then s.startup.regionOfs else 0,
    retained := keep, startedAt := s.startup.startedAt, offeredAt := none, step9At := none }

/-- A reset of everything that the core rails carry (Table 11-5), with DRAM in self-refresh (`keep`) or lost
(in part DEDUCED, notes/assumptions/25). -/
def resetCore (s : State) (keep : Bool) : State :=
  let s := linksReset (debugReset (breakErases s))
  let s := if keep then channelsSleep s else dramGone s
  { s with
    startup := startupReset s keep,
    rt := { State.reset.rt with adminLinks := s.rt.adminLinks },
    persist := { s.persist with inflight := [], psub := none, issued := 0, issuedLast := 0, fIn := 0, freshBytes := 0,
                                ceiling := resetCeiling, lastLimit := 15, cls := .none, dirtyNow := 0 },
    shroud := { s.shroud with staging := [], pass := none, locked := none },
    flash := if keep then flashAfterReset s.flash else flashMedium s.flash,
    restore := { s.restore with fetches := [], inHand := [] },
    qmp := { s.qmp with partials := [], held := [], notifyVdm := Vector.replicate 8 none,
                        sessions := s.qmp.sessions.filter fun x => !x.isVolatile },
    recorder := recorderMedium s.recorder,
    faults := { s.faults with tests := [] },
    thermal := thermalReset s.thermal,
    fw := { s.fw with up := resetPort, dn := resetPort, waiting := none, lastRelayAt := none, reportDone := false },
    smb := { s.smb with state := .idle, current := none, queue := [] },
    lb := { s.lb with pointers := [], chargerSet := false, regSilent := [] },
    engines := { s.engines with swaps := [] },
    crossings := State.reset.crossings }

/-- The core rails lose power: the live estimator block is gone, the AON accumulator counts (R245, R253), and the crypto block holds
no key until the next start-up loads it (R428). -/
def sramLost (s : State) : State :=
  { s with power := { s.power with sram := false }, security := { s.security with key := none, mediaKey := [] },
           pack := { s.pack with esbDefault := true, qres := 0, aonCounts := true } }

/-- The operation of a code flash controller whose pulse has ended: a suspended erase stays suspended (R387). -/
def cfIdle (c : CodeFlash) (notDone : Bool) : CodeFlash :=
  match c.suspended with
  | some sec => { c with op := .suspended, sector := sec, notDone := notDone, target := none }
  | none => { c with op := .idle, notDone := notDone, target := none }

/-- A pulse in progress is cut off (R386–R388): the program or erase ends NOT_DONE with free contents
(in part DESIGN CHOICE, notes/assumptions/42). -/
def cfPowerLoss (s : State) : State :=
  match s.cf.op with
  | .erase =>
    let s := brokenSector s s.cf.sector
    { s with cf := cfIdle s.cf true }
  | .program =>
    match s.cf.target with
    | some (a, _) =>
      let words := match Config.brokenWord s.fresh a with
        | some w => kvSet s.cf.words a { data := w.1, bad := w.2 }
        | none => kvErase s.cf.words a
      { s with fresh := s.fresh + 1, cf := { cfIdle s.cf true with words := words } }
    | none => { s with cf := cfIdle s.cf true }
  | _ => s

/-- The core rails have lost power: nothing but AON runs. The settings in force stay until the next start-up (R312). -/
def coreLost (s : State) : State :=
  let c := s.startup.settings
  let s := sramLost (resetCore (cfPowerLoss s) false)
  { s with startup := { s.startup with retained := false, settings := c } }

/-! ## Self-refresh and the reset of the data path (R37, R98) -/

/-- Demand fetches that buffered lines wait on are completed, so that the lines can drain (R34, R37)
(in part DESIGN CHOICE, notes/assumptions/105). -/
def finishFetches (s : State) : State :=
  (((s.host.buf.filter fun b => b.waitFetch).map fun b => lineGranule s b.line).eraseDups).foldl (fun s g =>
    bringIn { s with restore := { s.restore with fetches := s.restore.fetches.filter fun f => f.granule != g } } g (copyReads s g))
    { s with host := { s.host with stopped := true } }

/-- Before a reset of the data path the write buffers drain into DRAM, the log page is programmed and every rank enters self-refresh
(R37, R98, R369) (in part DESIGN CHOICE, notes/assumptions/105). -/
def selfRefreshAll (s : State) : State := channelsSleep (programPartial (drainBuffers (finishFetches s)))

/-- DRAM is in service, with contents to keep. -/
def dramServing (s : State) : Bool := s.power.dramUp && (s.power.state == .run || s.power.state == .restore) && !s.power.minimal

/-- The data path is reset with the rails kept: start-up follows, on a retained path when DRAM was in service (R37, R229, R294,
R296). -/
def dataPathReset (s : State) : State :=
  let keep := dramServing s && (!s.power.starting || s.startup.retained)
  let s := if keep then selfRefreshAll s else s
  let s := beginInterval (resetCore s keep) .counted
  { s with power := { s.power with state := .restore, starting := true, idle := false, minimal := false },
           host := { s.host with stopped := false },
           rails := { s.rails with seqTodo := [], seqFor := .boot } }

/-! ## Bringing rails up (R286–R288) -/

/-- Changes a rail. -/
def setRail (s : State) (r : Rail) (f : RailState → RailState) : State :=
  { s with rails := { s.rails with rail := vecMod s.rails.rail r f } }

/-- EN_x is driven high and the rail's timeout runs (Table 11-3, step 1). -/
def enableRail (s : State) (r : Rail) : State :=
  setRail s r fun x => { x with run := .qualifying, en := true, enAt := s.clock.now, pg := false, faultAt := none }

/-- Begins a sequence over the rails of a list that are not qualified, in ascending order (R287). -/
def beginSequence (s : State) (rs : List Rail) (p : SeqPurpose) : State :=
  let todo := rs.filter fun r => s.rails.rail[r].run != .qualified
  let s := todo.foldl (fun s r => setRail s r fun x => { x with retries := 0 }) s
  let s := { s with rails := { s.rails with seqTodo := todo, seqFor := p } }
  match todo with
  | [] => s
  | r :: _ => enableRail s r

/-- The boot-stage rails are qualified. -/
def bootRailsUp (s : State) : Bool := s.rails.rail[1].run == .qualified && s.rails.rail[2].run == .qualified

/-- Rails of a group (Table 11-1): 0 host PHY, 1 DDR, 2 NAND. -/
def groupRails (g : Fin 3) : List Rail := if g = 0 then [3, 4] else if g = 1 then [5, 6, 7, 8] else [9, 10]

/-- The group of a rail that has one. -/
def groupOf (r : Rail) : Option (Fin 3) :=
  if r.val = 3 ∨ r.val = 4 then some 0 else if 5 ≤ r.val ∧ r.val ≤ 8 then some 1 else if r.val = 9 ∨ r.val = 10 then some 2 else none

/-- A trip holds the start back until the AON reading of site 0 is below 109 °C (R277) (in part DEDUCED, notes/assumptions/52). -/
def tooHot (s : State) : Bool := (s.thermal.tripKind == 1 || s.thermal.tripKind == 3) && decide (s.thermal.aonSite0 ≥ 109 * 128)

/-- MR_N holds the controller in reset: it is low and has not been latched for later (R296, R425, R493). -/
def mrHolds (s : State) : Bool := s.button.mrLow && !s.button.mrLatched

/-- Nothing holds rail 2 back (R277, R287, R289, Table 12-2): the input is qualified, no latch is held, MR_N is high
(in part DEDUCED, notes/assumptions/52). -/
def mayStart (s : State) : Bool :=
  s.power.aon && inputGood s && !s.rails.latched && !s.thermal.latched && !(s.rails.groupLatched.toList.any id) && !tooHot s
    && !s.button.mrLow && s.rails.downThen.isNone && !s.rails.restartWait

/-- Start-up begins with the boot stage (R287, R304, R363, R420). -/
def startBoot (s : State) : State :=
  let s := sramLost (resetCore s false)
  let s := { s with
    power := { s.power with state := .restore, starting := true, idle := false, minimal := false, dramUp := false },
    startup := { startupReset s false with retained := false, startedAt := s.clock.now,
                                           strapHigh := BitVec.ofNat 5 (s.startup.strapPins.toNat / 8) },
    pack := { s.pack with
      shipStep := 0, ship := false, readingDue := s.pack.readingDue || s.pack.ship, readingFrom := s.clock.now },
    clock := if s.clock.resumed then { s.clock with pcycle := s.clock.pcycle + 1, timeEst := false } else s.clock,
    rails := { s.rails with seqTop := 1, deferred := none, groupWait := [] } }
  beginSequence s [1, 2] .boot

/-- A module that waits for nothing but the input starts (R287, R301). -/
def tryStart (s : State) : State :=
  if (s.power.state = .off ∨ s.power.state = .ship ∨ (s.power.state = .standby ∧ s.power.standby = .byInput)) ∧ mayStart s then startBoot s
  else s

/-! ## Taking rails down (R196, R290) -/

/-- The controller enters STANDBY when VDD_AON stays supplied, by auxiliary input or the 12 V input (R284), and OFF when not
(in part DEDUCED, notes/assumptions/50). -/
def enterStandby (s : State) (k : StandbyKind) : State :=
  let s := releaseHold { s with button := { s.button with mrLatched := false } }
  if s.power.aux || s.power.inputOk then
    { s with power := { s.power with state := .standby, standby := k, starting := false, idle := false, minimal := false },
             flash := { s.flash with standbySince := some s.clock.now },
             thermal := { s.thermal with coolSince := none },
             notices := { s.notices with pend := s.notices.pend.map fun n => { n with aonFull := false } } }
  else aonLost { s with flash := { s.flash with standbySince := some s.clock.now } }

/-- QV_RESET_CAUSE (Table 11-9). -/
def setCause (s : State) (c rail : Nat) : State := { s with button := { s.button with cause := c, causeRail := rail } }

/-- Number of a rail in Table 11-1. -/
def railNo (r : Rail) : Nat := r.val + 1

/-- Content of RAIL_FAILED: rail or group, DROPS, RETRIES, QUAL_MS
(in part DESIGN CHOICE, notes/assumptions/15; DESIGN CHOICE, notes/assumptions/78). -/
def railFailedPayload (s : State) (n : Nat) (r : Rail) : List Nat :=
  [n, s.rails.rail[r].drops, s.rails.rail[r].retries, s.rails.rail[r].qualHalf]

/-- Phase 7 has ended with the rails down and HOLD_EN released: the save is complete (R196, R203, Table 07-7). -/
def saveEnded (s : State) : State :=
  if saving s && decide (s.save.phase = 7) then { s with save := { s.save with phase := 8, time := s.clock.now - s.save.startedAt } } else s

/-- What follows a shutdown of rails (R196, R276, R289, R293, R294) (in part DEDUCED, notes/assumptions/30). -/
def finishDown (s : State) : State :=
  match s.rails.downThen with
  | none => s
  | some k =>
    let s := { s with rails := { s.rails with downThen := none, downTodo := [] } }
    match k with
    | .standby kind => tryStart (enterStandby (saveEnded s) kind)
    | .latch r =>
      let s := beginInterval (setCause s 3 (railNo r)) .excluded
      let s := setRail s r fun x => { x with run := .failed }
      let s := raise { s with rails := { s.rails with latched := true, latchRail := railNo r } } 0x0801 (railFailedPayload s (railNo r) r)
      enterStandby s .byInput
    | .trip =>
      let s := beginInterval (setCause { s with thermal := { s.thermal with latched := true } } 6 0) .excluded
      let s := raise s 0x0701 [s.thermal.tripKind, s.thermal.tripSite, signedBits 10 s.thermal.tripTemp, s.thermal.tripCh]
      enterStandby (saveEnded s) .byInput
    | .restart => { s with rails := { s.rails with restartWait := true, restartAt := s.clock.now },
                           power := { s.power with state := .restore, starting := true, minimal := false, idle := false } }
    | .group g latch =>
      if latch then
        raise { s with rails := { s.rails with groupLatched := s.rails.groupLatched.set g true } } 0x0801
          (railFailedPayload s (16 + g.val) ((groupRails g).headD 0))
      else { s with rails := { s.rails with groupWait := s.rails.groupWait ++ [g], groupAt := s.rails.groupAt.set g s.clock.now } }

/-- A rail that is switched off takes with it what it carries: rails 4 and 5 the links, rails 2 and 3 the core. -/
def railGone (s : State) (r : Rail) : State :=
  if r.val = 3 ∨ r.val = 4 then idleLinks s
  else if r.val = 1 ∨ r.val = 2 then
    (match s.rails.downThen with
     | some (.group _ _) => s
     | _ => coreLost s)
  else s

/-- One rail is switched off; after the last comes what the shutdown was for (R290). -/
def downStep (s : State) : State :=
  match s.rails.downTodo with
  | [] => finishDown s
  | r :: t =>
    let s := railGone (switchRailOff s r) r
    let s := { s with rails := { s.rails with downTodo := t } }
    if t.isEmpty then finishDown s else s

/-! ## Reactions (R291–R295) -/

/-- NAND_VCC or NAND_VCCQ is lost: no further command is issued, and WP_N is asserted (R176). -/
def nandDown (s : State) : State := { s with flash := { s.flash with brownOut := true, wpN := true } }

/-- The Halyard ports drop with VDD_IO (R292). -/
def portsDown (s : State) : State := { s with fw := { s.fw with up := resetPort, dn := resetPort } }

/-- Every link is down, its PHYs without power (R65, R292). -/
def linksDown (s : State) : State := idleLinks s

/-- Consumers of a rail whose fault awaits recovery are held (R292). -/
def holdConsumers (s : State) (r : Rail) : State :=
  if r.val = 3 ∨ r.val = 4 then linksDown s
  else if r.val = 9 ∨ r.val = 10 then nandDown s
  else if r.val = 11 then portsDown s
  else s

/-- Every owed refresh is issued (R292) (in part DEDUCED, notes/assumptions/75). -/
def issueOwed (d : DramChan) : DramChan :=
  let owed := (d.debt.toList.map fun x => x.toNat).sum
  { d with debt := d.debt.map fun x => if x > 0 then 0 else x, refreshes := (d.refreshes + owed) % 2 ^ 32 }

/-- Consumers resume on a recovery: owed refreshes and then a retraining of every channel for rails 6 and 9 (R112, R292); links may
train again. The NAND recovery is `NAND_RAIL_RECOVERY`. -/
def resumeConsumers (s : State) (r : Rail) : State :=
  if r.val = 5 ∨ r.val = 8 then
    let s := { s with dram := { s.dram with ch := vecMap s.dram.ch fun _ d => if chanUp d then issueOwed d else d } }
    retrySlots ((fins 17).foldl queueRetrain s)
  else if (r.val = 3 ∨ r.val = 4) ∧ s.rails.rail[3].run = .qualified ∧ s.rails.rail[4].run = .qualified then
    { s with host := { s.host with link := vecMap s.host.link fun _ k => { k with heldIdle := false } } }
  else s

/-- RAIL_FAULT: rail, class, reaction taken, escalated or not. -/
def railFaultNotice (s : State) (r : Rail) (reaction : RailClass) (escalated : Bool) : State :=
  raise s 0x0803 [railNo r, railClassCode s.rails.rail[r].set_.cls, railClassCode reaction, bit escalated]

/-- Every rail that a data-path reset needs is qualified (Table 11-1, R294). -/
def resetRailsUp (s : State) : Bool := ([1, 2, 5, 6, 7, 8] : List Rail).all fun r => s.rails.rail[r].run == .qualified

/-- The RESET reaction (R294): a data-path reset while the rails it needs are qualified, else every rail down and a restart. -/
def resetReaction (s : State) (r : Rail) : State :=
  let s := setCause s 2 (railNo r)
  if resetRailsUp s then dataPathReset (setRail s r fun x => { x with run := .off, en := false })
  else beginShutdown s .restart

/-- A group's function leaves service (R293). -/
def groupOut (s : State) (g : Fin 3) : State :=
  if g = 0 then beginInterval (linksDown s) .counted
  else if g = 2 then
    let s := (fins 32).foldl (fun s ch => if fcUp s.flash.ch[ch] then
      { s with flash := { s.flash with ch := vecMod s.flash.ch ch fun f => { f with run := .notTrained, rate := 0 } } } else s) (breakErases s)
    ceilingEvent { s with flash := { flashAfterReset s.flash with inService := false }, persist := { s.persist with inflight := [] } }
  else s

/-- The GROUP reaction (R293): the group's rails go down in reverse order and its function leaves service; for DDR as a RESET
reaction with a rail lost. -/
def groupReaction (s : State) (r : Rail) (g : Fin 3) : State :=
  if g = 1 then resetReaction s r
  else
    let s := groupOut s g
    let todo := ((groupRails g).filter fun x => s.rails.rail[x].en).reverse
    { s with rails := { s.rails with downTodo := todo, downThen := some (.group g false) } }

/-- A rail whose reaction a save defers: the NAND rails still stop their engines (R176, R295). -/
def deferReaction (s : State) (r : Rail) (cls : RailClass) : State :=
  let s := { s with rails := { s.rails with deferred := some (r, cls) } }
  if r.val = 9 ∨ r.val = 10 then nandDown s else s

/-- The reaction of a class, deferred during a save (R292–R295). -/
def react (s : State) (r : Rail) (cls : RailClass) (escalated : Bool) : State :=
  match cls with
  | .ignore | .retry => s
  | .group =>
    if saving s then deferReaction s r .group
    else railFaultNotice (match groupOf r with | some g => groupReaction s r g | none => resetReaction s r) r .group escalated
  | .reset =>
    if saving s then deferReaction s r .reset
    else railFaultNotice (resetReaction s r) r .reset escalated

/-- What a RETRY rail that does not recover becomes (R292). -/
def escalated (r : Rail) : RailClass :=
  match groupOf r with
  | some g => if g = 1 then .reset else .group
  | none => .reset

/-- The faults of the 60 s window in progress, which its first fault opens (Table 11-4)
(in part DESIGN CHOICE, notes/assumptions/78). -/
def faultWindow (s : State) (w : List Nat) : List Nat :=
  match w with
  | t :: _ => if s.clock.now < t + 60000 then w else []
  | [] => []

/-- A fault of a RETRY rail escalates at once: within 50 ms after a recovery, or as the fourth within 60 s of the first of the
window (Table 11-4) (in part DESIGN CHOICE, notes/assumptions/78). -/
def retryExhausted (s : State) (x : RailState) : Bool :=
  (x.recoverAt.any fun t => decide (s.clock.now < t + 50)) || decide ((faultWindow s x.window).length ≥ 3)

/-- A fault that is reported when it occurs: of class IGNORE (Table 11-4), and any in a save (R295). No table numbers the event
(in part DESIGN CHOICE, notes/assumptions/88). -/
def logFault (s : State) (r : Rail) : State :=
  if s.rails.rail[r].set_.cls = .ignore ∨ saving s then
    logEvent s (Config.unnamedEvent 9) 1 (leBytes 1 (railNo r) ++ leBytes 1 (railClassCode s.rails.rail[r].set_.cls))
  else s

/-- PG_x has been low for the fault filter (R291). -/
def faultRail (s : State) (r : Rail) : State :=
  let x := s.rails.rail[r]
  if x.run ≠ .qualified then s
  else
    let s := setRail s r fun x => { x with run := .fault, pg := false, faults := satAdd 8 x.faults 1, faultAt := some s.clock.now,
                                           window := faultWindow s x.window ++ [s.clock.now] }
    let s := logFault s r
    match x.set_.cls with
    | .ignore => s
    | .retry => if retryExhausted s x then react (holdConsumers s r) r (escalated r) true else holdConsumers s r
    | .group => react s r .group false
    | .reset => react s r .reset false

/-- A faulted rail has qualified again (R291): for a RETRY rail a recovery, counted as a retry and reported. -/
def recoverRail (s : State) (r : Rail) (half : Nat) : State :=
  let x := s.rails.rail[r]
  let s := setRail s r fun x => { x with run := .qualified, pg := true, faultAt := none, qualHalf := min 255 half,
                                         recoverAt := some s.clock.now, retries := if x.set_.cls = .retry then min 3 (x.retries + 1) else x.retries }
  if x.set_.cls = .retry then
    railFaultNotice (raise (resumeConsumers s r) 0x0804 [railNo r, s.rails.rail[r].retries, 1]) r .retry false
  else s

end Sys2Proof.Machine
end

