-- ==== Sys2Proof/Machine/EngineOps.lean ====
section
/-! DEFINITION. The spar engines: their roles at start-up, the replacement of a failed engine by a spare or a donor, and the end of
a swap (R22–R25, R169). -/

namespace Sys2Proof.Machine

open Sys2Proof

/-- Changes an engine. -/
def setEngine (s : State) (e : EngineId) (f : Engine → Engine) : State :=
  { s with engines := { s.engines with eng := vecMod s.engines.eng e f } }

/-- The engine has a role and works. -/
def engineLives (x : Engine) : Bool := x.run != .retired

/-- The lowest-numbered spare that has not been assigned (R23). -/
def spareOf (v : Vector Engine 64) : Option EngineId := (fins 64).find? fun i => v[i].role == some .spare && engineLives v[i]

/-- A management and security role. -/
def isMgmt : Option Role → Bool
  | some (.mgmt _) => true
  | _ => false

/-- A DRAM maintenance role. -/
def isDramRole : Option Role → Bool
  | some (.dram _) => true
  | _ => false

/-- The donor engine (R24): from management and security down to one engine, then from DRAM maintenance down to four; the
highest-numbered engine that holds the role (in part DEDUCED, notes/assumptions/54). -/
def donorOf (v : Vector Engine 64) : Option EngineId :=
  let mgmt := (fins 64).filter fun i => isMgmt v[i].role && engineLives v[i]
  let dram := (fins 64).filter fun i => isDramRole v[i].role && engineLives v[i]
  if mgmt.length > 1 then mgmt.getLast? else if dram.length > 4 then dram.getLast? else none

/-- The engine that takes over a role: a spare, else a donor. -/
def substitute (v : Vector Engine 64) : Option EngineId :=
  match spareOf v with
  | some x => some x
  | none => donorOf v

/-- An engine is retired: its role, if it had one to fill, and the engine that takes it (R22–R24). -/
def retireEngine (v : Vector Engine 64) (e : EngineId) : Vector Engine 64 × Option Role × Option EngineId :=
  let role := v[e].role
  let v := vecMod v e fun x => { x with role := none, run := .retired }
  match role with
  | none | some .spare => (v, none, none)
  | some r => match substitute v with
    | some x => (vecMod v x fun y => { y with role := some r }, some r, some x)
    | none => (v, some r, none)

/-! ## Assignment at start-up (R22) -/

/-- The engines of the retired-engine mask, in the order of their retirement. -/
def retiredMask (s : State) : List EngineId :=
  ((repairEntries s).filter fun v => v / 2 ^ 60 == 2).map fun v => Fin.ofNat 64 (bitsOf v 54 6)

/-- A flash channel that no engine owns. -/
def withoutEngine (s : State) (c : FlashCh) : State :=
  { s with flash := { s.flash with ch := vecMod s.flash.ch c fun f => { f with hasEngine := false } } }

/-- An engine of the mask is taken out of the assignment; the flag says that a role other than a flash channel's is left without an
engine (R22, R24). -/
def thinRole (x : State × Bool) (e : EngineId) : State × Bool :=
  match retireEngine x.1.engines.eng e with
  | (v, some (.flash c), none) => (withoutEngine { x.1 with engines := { x.1.engines with eng := v } } c, x.2)
  | (v, some _, none) => ({ x.1 with engines := { x.1.engines with eng := v } }, true)
  | (v, _, _) => ({ x.1 with engines := { x.1.engines with eng := v } }, x.2)

/-- Engines whose retirement had not been programmed when the reset took effect are tested again by engine BIST (R22, R385). -/
def retestHeld (s : State) : State :=
  (s.cf.held.filterMap fun r => match r with
    | .engine e => some e
    | .row _ _ _ => none).foldl (fun s e =>
      if s.engines.eng[e].run == .retired then s
      else queueTest (setEngine s e fun x => { x with run := .bist }) (.engine e) none)
    { s with cf := { s.cf with held := [] } }

/-- Assigns the engines as in Table 01-3, thinned by the retired-engine mask (R22, R24); the flag says that a role other than a flash
channel's has no engine (in part DEDUCED, notes/assumptions/54). -/
def assignEngines (s : State) : State × Bool :=
  let first : Vector Engine 64 := Vector.ofFn fun n =>
    { role := some (firstRole n.val), run := .inService, bankNew := false, loaded := true, suspect := false }
  let s := { s with flash := { s.flash with ch := vecMap s.flash.ch fun _ f => { f with hasEngine := true } },
                    engines := { s.engines with eng := first, swaps := [] } }
  (retiredMask s).foldl thinRole (s, false)

/-! ## In service (R23–R25) -/

/-- Number of a role: that of the engine which holds it at the first start-up (Table 01-3); 60 for a spare. -/
def roleNo : Option Role → Nat
  | some (.flash c) => c.val
  | some (.persistence k) => 32 + k.val
  | some (.dram k) => 44 + k.val
  | some (.port p) => 52 + p.val
  | some (.mgmt k) => 56 + k.val
  | _ => 60


/-- The flash channel of a role whose engine is replaced is served by RAIN meanwhile (R169). -/
def swapChannel (s : State) (r : Role) : State :=
  match r with
  | .flash c =>
    if s.flash.ch[c].run = .inService then
      { s with flash := { s.flash with ch := vecMod s.flash.ch c fun f => { f with run := .engineSwap } } } else s
  | _ => s

/-- No engine can take the role (R24): a flash channel leaves service; for any other role the controller saves. -/
def roleLost (s : State) (r : Role) : State :=
  match r with
  | .flash c => mirrorOfChannel (withoutEngine (flashChannelOut s c) c) c
  | _ => triggerSave { s with host := { s.host with stopped := true } } .noDonor

/-- SPARES_EXHAUSTED once the last spare has gone (R25). -/
def spareNotice (s : State) (before : Bool) : State :=
  if before && (spareOf s.engines.eng).isNone then evalPsub (raise s 0x0106 []) else s

/-- An engine fails: it is retired and entered in the repair list, and its role passes on (R23, R24, R350, R353)
(in part DESIGN CHOICE, notes/assumptions/15; DEDUCED, notes/assumptions/54). -/
def failEngine (s : State) (e : EngineId) : State :=
  if s.engines.eng[e].run = .retired then s
  else
    let before := (spareOf s.engines.eng).isSome
    let bank := s.engines.eng[e].bankNew
    let s := addRepair s (.engine e)
    match retireEngine s.engines.eng e with
    | (v, r, x) =>
      let s := { s with engines := { s.engines with eng := v, swaps := s.engines.swaps.filter fun w => w.2 != e && some w.2 != x } }
      let s := match r, x with
        | some r, some x =>
          let s := raise (setEngine s x fun y => { y with run := .swapping, bankNew := bank }) 0x0A03 [e.val, roleNo (some r), x.val]
          swapChannel { s with engines := { s.engines with swaps := s.engines.swaps ++ [(r, x)] } } r
        | some r, none => roleLost (raise s 0x0A03 [e.val, roleNo (some r), 255]) r
        | none, _ => raise s 0x0A03 [e.val, 60, 255]
      spareNotice s before

/-- A swap of the engine of a role is in progress: work of the role waits (R23). -/
def swapWaits (s : State) (r : Role) : Bool := s.engines.swaps.any fun w => w.1 == r

/-- Work of a link's port engine waits (R23). -/
def portWaits (s : State) (l : Link) : Bool := swapWaits s (.port (Fin.ofNat 4 (l.val / 2)))

/-- The swap of an engine ends: the role's state is rebuilt and its work resumes (R23). -/
def endSwap (s : State) (x : EngineId) : State :=
  match s.engines.swaps.find? fun w => w.2 == x with
  | none => s
  | some (r, _) =>
    let s := setEngine { s with engines := { s.engines with swaps := s.engines.swaps.filter fun w => w.2 != x } } x
      fun y => { y with run := .inService }
    match r with
    | .flash c =>
      if s.flash.ch[c].run = .engineSwap then
        { s with flash := { s.flash with ch := vecMod s.flash.ch c fun f => { f with run := .inService } } } else s
    | _ => s

end Sys2Proof.Machine
end

