-- ==== Sys2Proof/Machine/SheetOps.lean ====
section
/-! DEFINITION. The Sheet image: its header and sections, the checks of Table 12-6 in their order, and the settings that an
accepted image gives (R310–R316, R450, Tables 12-3 to 12-6, 11-2). -/

namespace Sys2Proof.Machine

open Sys2Proof

/-- A section of the image: offset of its header, TYPE, FLAGS, MINOR and body (Table 12-4). -/
structure SheetSection where
  ofs   : Nat
  typ   : Nat
  flags : Nat
  minor : Nat
  body  : List Byte
  deriving DecidableEq, Repr

/-- A failed check: its number, the section type and the offset of the failing byte (R316). -/
structure SheetFail where
  check   : Nat
  section_ : Nat
  ofs     : Nat
  deriving DecidableEq, Repr

/-- The first of two results that reports a failure. -/
def firstFail (a b : Option SheetFail) : Option SheetFail :=
  match a with
  | some f => some f
  | none => b

/-! ## Checks 2 to 5: the header (Table 12-3) -/

/-- TOTAL_LEN of an image. -/
def sheetTotal (img : List Byte) : Nat := field img 8 4

/-- Checks 2 to 5. -/
def checkHeader (img : List Byte) : Option SheetFail :=
  if field img 0 4 ≠ 0x51565348 then some ⟨2, 0, 0⟩
  else if field img 5 1 ≠ 2 then some ⟨3, 0, 5⟩
  else if field img 6 2 < 1 ∨ 64 < field img 6 2 then some ⟨4, 0, 6⟩
  else if sheetTotal img < 48 ∨ 65536 < sheetTotal img then some ⟨4, 0, 8⟩
  else if field img 28 4 ≠ (crc32 (img.take 28)).toNat then some ⟨5, 0, 28⟩
  else none

/-! ## Check 6: sections -/

/-- The sections from an offset on, or the failure of check 6. -/
def readSections (img : List Byte) : Nat → Nat → Except SheetFail (List SheetSection)
  | 0, pos => if pos = sheetTotal img then .ok [] else .error ⟨6, 0, pos⟩
  | n + 1, pos =>
    if sheetTotal img < pos + 16 then .error ⟨6, 0, pos⟩
    else
      let len := field img (pos + 8) 4
      let typ := field img pos 2
      if len % 4 ≠ 0 ∨ sheetTotal img < pos + 16 + len then .error ⟨6, typ, pos + 8⟩
      else match readSections img n (pos + 16 + len) with
        | .error e => .error e
        | .ok t => .ok ({ ofs := pos, typ := typ, flags := field img (pos + 2) 2, minor := field img (pos + 4) 1,
                          body := slice img (pos + 16) len } :: t)

/-- A TYPE that the controller knows. -/
def sheetKnown (typ : Nat) : Bool := decide (1 ≤ typ ∧ typ ≤ 11)

/-- Check 7: the CRC of every section. -/
def check7 (img : List Byte) (ss : List SheetSection) : Option SheetFail :=
  (ss.find? fun x => (crc32 x.body).toNat != field img (x.ofs + 12) 4).map fun x => ⟨7, x.typ, x.ofs + 12⟩

/-- Check 8: an unknown TYPE with CRITICAL set. -/
def check8 (ss : List SheetSection) : Option SheetFail :=
  (ss.find? fun x => !sheetKnown x.typ && x.flags % 2 == 1).map fun x => ⟨8, x.typ, x.ofs⟩

/-- Check 9: a type other than a maker's own appears again; the header reported is the one that repeats a type. -/
def check9 : List SheetSection → List Nat → Option SheetFail
  | [], _ => none
  | x :: t, seen => if x.typ < 0x8000 ∧ x.typ ∈ seen then some ⟨9, x.typ, x.ofs⟩ else check9 t (x.typ :: seen)

/-- Check 10: MODULE, RAILS, PACK, PACK_TABLES, SENSORS, PERSIST and FLASH_DIE are mandatory. -/
def check10 (ss : List SheetSection) : Option SheetFail :=
  ([1, 2, 3, 4, 6, 7, 11].find? fun t => !(ss.any fun x => x.typ == t)).map fun t => ⟨10, t, 0⟩

/-- The known body length of a type (Table 12-5). -/
def knownLength (typ : Nat) (body : List Byte) : Nat :=
  match typ with
  | 1 => 32
  | 2 => 88
  | 3 => 48
  | 4 => 100
  | 5 => 24
  | 6 => 8 + 8 * field body 5 1
  | 7 => 16
  | 8 => 4
  | 9 => 4
  | 10 => 8
  | 11 => 64
  | _ => 0

/-- Check 11: LENGTH below the known length. -/
def check11 (ss : List SheetSection) : Option SheetFail :=
  (ss.find? fun x => sheetKnown x.typ
    && (decide (x.body.length < knownLength x.typ x.body) || (x.typ == 6 && decide (x.body.length < 8)))).map
      fun x => ⟨11, x.typ, x.ofs + 8⟩

/-! ## Check 12: fields (Table 12-5) -/

/-- A field of a section: offset, size and the values it may take. -/
abbrev SheetField := Nat × Nat × (Nat → Bool)

/-- A range of values. -/
def sheetRange (lo hi : Nat) : Nat → Bool := fun v => decide (lo ≤ v ∧ v ≤ hi)

/-- One of some values. -/
def isOneOf (vs : List Nat) : Nat → Bool := fun v => vs.contains v

/-- Any value but 0. -/
def notZero : Nat → Bool := fun v => v != 0

/-- Any value. -/
def anyValue : Nat → Bool := fun _ => true

/-- MODULE. -/
def moduleFields : List SheetField :=
  [(0, 1, isOneOf [1, 2]), (1, 1, isOneOf [1, 2, 4, 8]), (2, 1, isOneOf [16, 24, 32, 64]), (4, 2, isOneOf [64, 72, 80, 84, 88]),
   (6, 1, isOneOf [2, 4, 8, 16]), (7, 1, isOneOf [1, 2]), (8, 2, isOneOf [16, 24, 32, 36]), (10, 2, sheetRange 256 4096),
   (12, 1, isOneOf [1, 2]), (13, 1, isOneOf [1, 2])]

/-- RAILS: the entry of rail `n` (2 to 12). TIMEOUT and QUAL of rails 2 and 3 are not checked; FILTER is checked with the class
(check 13). -/
def railFields (n : Nat) : List SheetField :=
  let b := 8 * (n - 2)
  let rom := n = 2 ∨ n = 3
  [(b, 1, if rom then anyValue else sheetRange 1 100), (b + 1, 1, if rom then anyValue else sheetRange 1 20), (b + 2, 2, anyValue),
   (b + 4, 1, sheetRange 0 100), (b + 5, 1, sheetRange 0 3)]

/-- PACK. -/
def packFieldRules : List SheetField :=
  [(0, 4, sheetRange 3600 360000), (4, 2, sheetRange 1 2000), (6, 2, sheetRange 100 20000), (8, 2, notZero), (10, 2, notZero),
   (12, 2, sheetRange 1 17200), (14, 2, notZero), (16, 2, notZero), (18, 2, anyValue), (20, 2, notZero), (22, 2, notZero),
   (24, 1, fun v => decide (8 ≤ v ∧ v ≤ 0x77) && v != 0x50), (26, 2, anyValue), (28, 2, anyValue), (30, 2, anyValue),
   (32, 4, notZero)]

/-- PACK_TABLES: 15 points of DERATE and 21 of OCV (in part DEDUCED, notes/assumptions/90). -/
def tableFields : List SheetField :=
  ((List.range 15).map fun i => (i, 1, anyValue))
    ++ (List.range 21).flatMap fun i => [(16 + 4 * i, 2, notZero), (18 + 4 * i, 2, anyValue)]

/-- BANK. -/
def bankFields : List SheetField :=
  [(0, 2, notZero), (2, 2, notZero), (4, 2, notZero), (6, 2, sheetRange 1 40000), (8, 2, notZero), (10, 2, notZero), (12, 2, notZero)]

/-- An address of the local bus that a sensor may have (R450): none of the fixed addresses of Table 19-2, not ID_ADDR
(in part DEDUCED, notes/assumptions/90). -/
def sensorAddrOk (idAddr a : Nat) : Bool :=
  decide (8 ≤ a ∧ a ≤ 0x77) && a != 0x50 && a != 0x09 && a != 0x0C && !decide (0x60 ≤ a ∧ a ≤ 0x6A) && a != idAddr

/-- CHANNELS of a sensor entry: none for the pack and the board, DC00–DC16 for DRAM. -/
def channelsOk (domain v : Nat) : Bool :=
  if domain = 3 ∨ domain = 4 then v == 0 else if domain = 1 then decide (v < 2 ^ 17) else true

/-- Entry `k` of SENSORS, with what the entries before it have used. -/
def sensorFields (body : List Byte) (idAddr k : Nat) : List SheetField :=
  let b := 8 + 8 * k
  let sites := (List.range k).map fun j => field body (8 + 8 * j) 1
  let addrs := (List.range k).map fun j => field body (9 + 8 * j) 1
  [(b, 1, fun v => decide (8 ≤ v ∧ v ≤ 31) && !sites.contains v), (b + 1, 1, fun v => sensorAddrOk idAddr v && !addrs.contains v),
   (b + 2, 1, sheetRange 1 5), (b + 3, 1, sheetRange 1 4), (b + 4, 4, channelsOk (field body (b + 3) 1))]

/-- The fields of a section with their ranges. -/
def sectionFields (idAddr : Nat) (x : SheetSection) : List SheetField :=
  match x.typ with
  | 1 => moduleFields
  | 2 => (List.range 11).flatMap fun i => railFields (i + 2)
  | 3 => packFieldRules
  | 4 => tableFields
  | 5 => bankFields
  | 6 =>
    let min := if field x.body 0 1 = 1 then notZero else anyValue
    [(0, 1, isOneOf [1, 2]), (1, 1, min), (2, 1, min), (3, 1, min), (4, 1, anyValue), (5, 1, sheetRange 0 24)]
      ++ (List.range (field x.body 5 1)).flatMap fun k => sensorFields x.body idAddr k
  | 7 => [(0, 4, anyValue), (4, 2, notZero), (6, 2, fun v => v != 0 && decide (field x.body 4 2 ≤ v)), (8, 4, notZero)]
  | 8 => [(0, 1, sheetRange 0 7)]
  | 9 =>
    let pos := field x.body 0 1
    [(0, 1, sheetRange 0 64), (1, 1, fun v => if pos = 0 then v == 0 else decide (pos ≤ v ∧ v ≤ 64))]
  | 10 => [(0, 1, fun v => (List.range 4).all fun n => v / 4 ^ n % 4 != 3), (1, 1, anyValue), (2, 2, anyValue)]
  | 11 => [(0, 20, notZero), (20, 1, notZero), (21, 1, notZero), (22, 7, anyValue), (29, 1, sheetRange 1 15), (30, 2, sheetRange 10 200),
           (32, 2, sheetRange 100 2000), (34, 2, sheetRange 1 30), (36, 2, sheetRange 5 100), (38, 4, sheetRange 1000 100000)]
  | _ => []

/-- The lowest of some offsets. -/
def lowestNat : List Nat → Option Nat
  | [] => none
  | x :: t => match lowestNat t with
    | none => some x
    | some y => some (min x y)

/-- Offsets in the image at which a section fails check 12: fields out of range, and reserved bytes that are not 0 at the known
MINOR, in the section header and in the body, past its known length too (R314) (in part DEDUCED, notes/assumptions/90). -/
def fieldFails (idAddr : Nat) (x : SheetSection) (img : List Byte) : List Nat :=
  let fs := sectionFields idAddr x
  let range := (fs.filter fun f => !f.2.2 (field x.body f.1 f.2.1)).map fun f => x.ofs + 16 + f.1
  let covered := fun i => fs.any fun f => decide (f.1 ≤ i ∧ i < f.1 + f.2.1)
  let reserved := ((List.range x.body.length).filter fun i => !covered i && field x.body i 1 != 0).map fun i => x.ofs + 16 + i
  let header := (if x.flags / 2 ≠ 0 then [x.ofs + 2] else []) ++ ([5, 6, 7].filter fun i => field img (x.ofs + i) 1 != 0).map fun i => x.ofs + i
  range ++ if x.minor = 0 then header ++ reserved else []

/-- The body of a section type, or an empty one. -/
def bodyOf (ss : List SheetSection) (typ : Nat) : List Byte :=
  match ss.find? fun x => x.typ == typ with
  | some x => x.body
  | none => []

/-- The offset of a section's body. -/
def bodyAt (ss : List SheetSection) (typ : Nat) : Nat :=
  match ss.find? fun x => x.typ == typ with
  | some x => x.ofs + 16
  | none => 0

/-- Check 12: the first section in image order that fails, at its lowest offset (in part DEDUCED, notes/assumptions/90). -/
def check12 (img : List Byte) (ss : List SheetSection) : Option SheetFail :=
  let idAddr := field (bodyOf ss 3) 24 1
  ss.findSome? fun x =>
    if sheetKnown x.typ then (lowestNat (fieldFails idAddr x img)).map fun o => ⟨12, x.typ, o⟩ else none

/-! ## Check 13: combinations -/

/-- Usable DRAM of a MODULE body (R88). -/
def moduleUsable (m : List Byte) : Nat := 16 * (2 * field m 0 1 * 8 * field m 1 1 * field m 2 1 * 2 ^ 27)

/-- A class that Table 11-2 allows a rail. -/
def railClassOk (n cls : Nat) : Bool :=
  if n = 2 ∨ n = 3 then cls == 3
  else if n = 7 ∨ n = 8 then cls == 3 || cls == 2
  else if n = 4 ∨ n = 5 then true
  else if n = 6 ∨ n = 9 then cls != 0
  else if n = 10 ∨ n = 11 then cls == 1 || cls == 2
  else cls == 0 || cls == 1 || cls == 3

/-- The field of RAILS that Table 11-2 rejects and that lies first in the image: a class or a fault filter
(in part DEDUCED, notes/assumptions/90). -/
def railCombination (r : List Byte) : Option Nat :=
  lowestNat ((List.range 11).flatMap fun i =>
    let n := i + 2
    let cls := field r (8 * i + 5) 1
    let f := field r (8 * i + 2) 2
    (if railClassOk n cls then [] else [8 * i + 5])
      ++ if cls ≠ 0 ∧ (f < 10 ∨ 1000 < f) then [8 * i + 2] else [])

/-- Sites of SENSORS mapped to a domain. -/
def mappedTo (b : List Byte) (domain : Nat) : Nat :=
  ((List.range (field b 5 1)).filter fun k => field b (11 + 8 * k) 1 == domain).length

/-- A sensor minimum above the sites mapped to its domain; in SINGLE mode the minimums are ignored. -/
def minimumAbove (b : List Byte) : Option Nat :=
  if field b 0 1 ≠ 1 then none
  else if field b 1 1 > 8 then some 1
  else if field b 2 1 > mappedTo b 1 then some 2
  else if field b 3 1 > mappedTo b 2 then some 3
  else none

/-- A failure of check 13 at an offset of a section's body. -/
def fail13 (ss : List SheetSection) (typ o : Nat) : Option SheetFail := some ⟨13, typ, bodyAt ss typ + o⟩

/-- Check 13: the rules in the order of Table 12-6 (in part DEDUCED, notes/assumptions/90). -/
def check13 (ss : List SheetSection) : Option SheetFail :=
  let m := bodyOf ss 1
  let p := bodyOf ss 3
  let b := bodyOf ss 5
  let hasBank := ss.any fun x => x.typ == 5
  if moduleUsable m > 16 * 2 ^ 40 then fail13 ss 1 0
  else if field m 6 1 > 8 * field m 7 1 then fail13 ss 1 6
  else if (field m 6 1 * field m 10 2 - 64) * 992 * 2 ^ 20 * 4 < 9 * moduleUsable m then fail13 ss 1 0
  else match railCombination (bodyOf ss 2) with
    | some o => fail13 ss 2 o
    | none =>
      match minimumAbove (bodyOf ss 6) with
      | some o => fail13 ss 6 o
      | none =>
        if field m 12 1 = 1 ∧ moduleUsable m > 8 * 2 ^ 40 then fail13 ss 1 0
        else if field p 8 2 ≤ field p 10 2 then fail13 ss 3 8
        else if hasBank && decide (field b 2 2 ≤ field b 4 2) then fail13 ss 5 2
        else none

/-! ## Settings (R312) -/

/-- The class of a code. -/
def railClassOf (n : Nat) : RailClass := if n = 0 then .ignore else if n = 1 then .retry else if n = 2 then .group else .reset

/-- The entry of rail `n` (R287: rails 2 and 3 keep the ROM's timeout and qualification; Table 11-2: the filter of an IGNORE rail
is its qualification time). -/
def railEntry (r : List Byte) (n : Nat) : RailSet :=
  if n < 2 then ⟨0, 0, 0, 0, .ignore⟩
  else
    let b := 8 * (n - 2)
    let rom := n = 2 ∨ n = 3
    let q := if rom then 4 else field r (b + 1) 1
    let c := railClassOf (field r (b + 5) 1)
    { timeoutMs := if rom then 5 else field r b 1, qualHalfMs := q,
      filterUs := if c = .ignore then 500 * q else field r (b + 2) 2, gapTenths := field r (b + 4) 1, cls := c }

/-- The domain of a code. -/
def domainOf (n : Nat) : Domain := if n = 1 then .dram else if n = 2 then .nand else if n = 3 then .pack else .board

/-- Entry `k` of SENSORS. -/
def sensorEntry (b : List Byte) (k : Nat) : SensorSet :=
  let o := 8 + 8 * k
  { site := Fin.ofNat 32 (field b o 1), addr := BitVec.ofNat 7 (field b (o + 1) 1), format := field b (o + 2) 1,
    domain := domainOf (field b (o + 3) 1), channels := BitVec.ofNat 32 (field b (o + 4) 4) }

/-- PACK and PACK_TABLES. -/
def packSettings (p t : List Byte) : PackSet :=
  { eDesign := field p 0 4, kFade := field p 4 2, cycleLife := field p 6 2, vPlan := field p 8 2, vGuard := field p 10 2,
    chgV := field p 12 2, chgI := field p 14 2, termI := field p 16 2, stbyI := field p 18 2, shunt := field p 20 2,
    rLimit := field p 22 2, idAddr := BitVec.ofNat 7 (field p 24 1), uRate := field p 26 2, uRest := field p 28 2,
    uStart := field p 30 2, unrestoredCap := field p 32 4, derate := (List.range 15).map fun i => field t i 1,
    ocv := (List.range 21).map fun i => (field t (16 + 4 * i) 2, sfield t (18 + 4 * i) 2) }

/-- BANK. -/
def bankSettings (b : List Byte) : BankSet :=
  { eRated := field b 0 2, vPlan := field b 2 2, vGuard := field b 4 2, chgV := field b 6 2, chgI := field b 8 2,
    testI := field b 10 2, cMin := field b 12 2 }

/-- The starting data rate (R89): the lowest of the image's rate, the speed suffix's, and 8000 MT/s with 2 physical ranks. -/
def startRate (m : List Byte) (fuse80 : Bool) : Nat :=
  min (field m 4 2) (min (if fuse80 then 80 else 88) (if field m 0 1 = 2 then 80 else 88))

/-- The settings that an accepted image gives. -/
def sheetSettings (ss : List SheetSection) (fuse80 : Bool) : Settings :=
  let m := bodyOf ss 1
  let f := bodyOf ss 11
  let s := bodyOf ss 6
  let q := bodyOf ss 7
  let has := fun t => ss.any fun x => x.typ == t
  let h := bodyOf ss 9
  let ho := bodyOf ss 10
  { dramPranks := field m 0 1, dramStack := field m 1 1, dramDie := field m 2 1, dramRate := startRate m fuse80,
    flashDies := field m 6 1, flashLuns := field m 7 1, flashRate := field m 8 2, blockSets := field m 10 2,
    region128 := field m 12 1 == 2, shroudOn := field m 13 1 == 1,
    flashModel := slice f 0 20, pslc := BitVec.ofNat 8 (field f 20 1), rrFeature := BitVec.ofNat 8 (field f 21 1),
    ladder := (List.range 7).map fun i => sfield f (22 + i) 1, softDelta := field f 29 1, trMax := field f 30 2,
    tprogMax := field f 32 2, tbersMax := field f 34 2, tespdMax := field f 36 2, peCycles := field f 38 4,
    rails := (List.range 12).map fun i => railEntry (bodyOf ss 2) (i + 1),
    pack := packSettings (bodyOf ss 3) (bodyOf ss 4),
    bank := if has 5 then some (bankSettings (bodyOf ss 5)) else none,
    singleMode := field s 0 1 == 2, minDie := field s 1 1, minDram := field s 2 1, minNand := field s 3 1,
    dramOffset := field s 4 1, sensors := (List.range (field s 5 1)).map fun k => sensorEntry s k,
    capMib := field q 0 4, pSave := field q 4 2, pSaveHot := field q 6 2, wearRate := field q 8 4,
    wearMax := if has 8 then field (bodyOf ss 8) 0 1 else 7,
    position := field h 0 1, chainLen := field h 1 1, hasHalyard := has 9 && field h 0 1 != 0,
    hostSplit := BitVec.ofNat 8 (field ho 0 1), adminLinks := if has 10 then BitVec.ofNat 8 (field ho 1 1) else 1,
    pdTimer := if has 10 then BitVec.ofNat 16 (field ho 2 2) else 0x007D }

/-- What reading an image gives. -/
structure SheetRead where
  fail     : Option SheetFail
  skipped  : List Nat
  seq      : Nat
  crc      : Word
  sections : List SheetSection
  settings : Option Settings
  deriving DecidableEq, Repr

/-- The DRAM data rate that an image asks for, in units of 100 MT/s. -/
def askedRate (r : SheetRead) : Nat := field (bodyOf r.sections 1) 4 2

/-- The bytes of an image that the controller reads: 32, then up to TOTAL_LEN where check 4 will accept it; none when the EEPROM
does not return them (R311). -/
def imageBytes (image : Option (List Byte)) : Option (List Byte) :=
  match image with
  | none => none
  | some bs =>
    let n := if 48 ≤ sheetTotal bs ∧ sheetTotal bs ≤ 65536 then sheetTotal bs else 32
    if bs.length < 32 ∨ bs.length < n then none else some (bs.take n)

/-- Reads and checks an image: the first failure of Table 12-6, or the settings (R311–R316)
(in part DEDUCED, notes/assumptions/90). -/
def readSheet (image : Option (List Byte)) (fuse80 : Bool) : SheetRead :=
  match imageBytes image with
  | none => { fail := some ⟨1, 0, 0⟩, skipped := [], seq := 0, crc := 0, sections := [], settings := none }
  | some img =>
    let seq := field img 12 4
    let crc := crc32 img
    match checkHeader img with
    | some e => { fail := some e, skipped := [], seq := seq, crc := crc, sections := [], settings := none }
    | none => match readSections img (field img 6 2) 32 with
      | .error e => { fail := some e, skipped := [], seq := seq, crc := crc, sections := [], settings := none }
      | .ok ss =>
        let skipped := (ss.filter fun x => !sheetKnown x.typ && x.flags % 2 == 0).map (·.typ)
        let bad := firstFail (check7 img ss) (firstFail (check8 ss) (firstFail (check9 ss []) (firstFail (check10 ss)
          (firstFail (check11 ss) (firstFail (check12 img ss) (check13 ss))))))
        { fail := bad, skipped := if (check7 img ss).isSome then [] else skipped, seq := seq, crc := crc, sections := ss,
          settings := if bad.isSome then none else some (sheetSettings ss fuse80) }

/-- SPLIT of a port (Table 12-1, HOST): as strapped unless the image decides it. -/
def splitOf (hostSplit : Byte) (strapHigh : BitVec 5) : BitVec 4 :=
  BitVec.ofNat 4 ((List.range 4).foldl (fun a n =>
    let v := hostSplit.toNat / 4 ^ n % 4
    let on := if v = 1 then false else if v = 2 then true else strapHigh.getLsbD (n + 1)
    a + if on then 2 ^ n else 0) 0)

end Sys2Proof.Machine
end

