-- ==== Sys2Proof/Machine/StartOps.lean ====
section
/-! DEFINITION. Start-up: what the ROM does at step 1, the firmware start of step 2, the Sheet image of step 3 and the rails of step 4,
with the minimal profile and CROCUS (R304–R319, R363, R389, R393, R415, R421, R426). -/

namespace Sys2Proof.Machine

open Sys2Proof

/-! ## Step 1 -/

/-- The time base after a loss of VDD_AON (R357, R363): the newest checkpoint, or 0. -/
def resumeClock (s : State) : State :=
  if s.clock.resumed then s
  else match newestCheckpoint s with
    | some (_, w0, w1, w2) =>
      let t := w0 % 2 ^ 48 + 60000
      let y := w2 / 2 ^ 32
      { s with clock := { s.clock with opTime := t, timeEst := true, pcycle := BitVec.ofNat 32 (w2 + 1), resumed := true },
               faults := { s.faults with availMs := w1 % 2 ^ 32, exclMs := w1 / 2 ^ 32, year := y / 2 ^ 24,
                                         availEvents := bitsOf y 16 8, yearStart := t - bitsOf y 0 9 * dayMs } }
    | none => logEvent { s with clock := { s.clock with opTime := 0, timeEst := true, pcycle := 0, resumed := true } } 0x0B88 2 []

/-- A pending trip record is written before the boot twin is selected (R276). -/
def writePending (s : State) : State :=
  match s.thermal.pending with
  | some r => if (firstTripSlot s).isSome then
      let t := writeTrip s r
      { t with thermal := { t.thermal with pending := none } }
    else s
  | none => s

/-- The level that the newest LEVEL record gives, whatever LOWER records follow it. -/
def levelBefore (s : State) : Level :=
  match newestOf ((swapRecords s magicLevel levelBase 224).filter fun r => r.2 / 8 % 2 == 1) with
  | some r => levelOfCode r.2
  | none => .l2

/-- Step 5 of Table 18-4: every sector not marked kept is erased, the protection record sector apart; with it goes everything they
held (R424, R427) (in part DESIGN CHOICE, notes/assumptions/87). -/
def eraseUnkept (s : State) : State :=
  { s with
    cf := { s.cf with words := s.cf.words.filter fun w => keptSector (w.1 / 512) || w.1 / 512 == secProtect },
    fw := { s.fw with imageA := none, imageB := none, boot0 := false, boot1 := false, bootVer0 := 0, bootVer1 := 0, half := false,
                      running := false, staging := none, phase := .idle, bootDue := false, old := none } }

/-- Step 6 of Table 18-4: the protection record sector is erased and a LEVEL record written at the target; SEC_LEVEL_LOWERED follows
(R424, R427) (in part DESIGN CHOICE, notes/assumptions/87). -/
def commitLowering (s : State) (old new : Level) (keyId : Word) : State :=
  let s := writeLevel (cfEraseSector s secProtect) true new
  let newest := match (s.flash.gens.filter fun g => g.keyId == keyId).getLast? with
    | some g => g.gen.toNat
    | none => 0
  raise { s with security := { s.security with level := new, target := .l0, lowering := false, step := 0, noRecord := false } } 0x0D01
    ([levelCode old, levelCode new, keyId.toNat] ++ words2 newest)

/-- KEY_ID of the live key slot, or of the newest one that was killed; 0 with none. -/
def lastKeyId (s : State) : Word :=
  match [3, 2, 1, 0].find? fun i => keySlotGood s i with
  | some i => slotKeyId s i
  | none => 0

/-- A lowering that was cut short is completed before the boot twin is selected (R426). -/
def completeLowering (s : State) (target : Level) : State :=
  let id := lastKeyId s
  let old := levelBefore s
  let s := dramGone (killKey s)
  commitLowering (eraseUnkept { s with startup := { s.startup with retained := false } }) old target id

/-- No valid level record: the level is L2 (R421). -/
def missingRecord (s : State) : State :=
  let key := (liveKeySlot s).map fun i => ((List.range 9).map fun j => (cfGood s (keyBase i + j)).getD 0, slotKeyId s i)
  let t := if (firstBlankSlot s levelBase 224).isSome then writeLevel s true .l2
    else
      let u := cfEraseSector s secProtect
      let u := match key with
        | some (ws, id) => writeKeySlot u 0 ws id
        | none => u
      writeLevel u true .l2
  let outcome : Nat := if (liveKeySlot t).isSome then 0 else if key.isSome then 1 else 2
  let t := if outcome = 1 then countDirtyShutdown t else t
  raise { t with security := { t.security with level := .l2, noRecord := true, lowering := false, step := 0 } } 0x0D02 [1, outcome]

/-- The protection level at step 1 (R421, R426). -/
def readLevel (s : State) : State :=
  match levelRecord s with
  | some (true, l) => { s with security := { s.security with level := l, noRecord := false, lowering := false, step := 0 } }
  | some (false, l) => completeLowering s l
  | none => missingRecord s

/-- A boot block verifies (R389). -/
def bootOk (s : State) (b : Bool) : Bool := if b then s.fw.boot1 else s.fw.boot0

/-- The block named by the newest boot swap record, else the verified one with the higher boot version, else 0 (R389). -/
def namedBlock (s : State) : Bool :=
  match bootRecord s with
  | some r => r.2
  | none => s.fw.boot1 && (!s.fw.boot0 || decide (s.fw.bootVer0 < s.fw.bootVer1))

/-! ## CROCUS and the minimal profile (R319, R415) -/

/-- Rails 4, 5 and 12 (R287). -/
def smallRails : List Rail := [3, 4, 11]

/-- The DDR and NAND rails that are up are taken down in reverse order (R290, Table 12-7) (in part DEDUCED, notes/assumptions/56). -/
def memoryRailsDown (s : State) : State :=
  ((([5, 6, 7, 8, 9, 10] : List Rail).filter fun r => s.rails.rail[r].en).reverse).foldl switchRailOff s

/-- The highest SVN among the headers of the two halves (R415). -/
def svnFloor (s : State) : Nat :=
  max ((s.fw.imageA.map (·.svn)).getD 0) ((s.fw.imageB.map (·.svn)).getD 0)

/-- Sites of the map: the eight on the die, and those that the image maps; in SINGLE mode site 0 alone (R265, R268). -/
def mapSites (s : State) (single : Bool) (sensors : List SensorSet) : State :=
  let base := vecMap s.thermal.site fun i (t : SiteState) =>
    if i.val = 0 || (!single && decide (i.val < 8)) then { resetSite with run := .plausible, domain := .die, ignoredAt := t.ignoredAt }
    else { resetSite with ignoredAt := t.ignoredAt }
  let full := if single then base
    else sensors.foldl (fun v e => vecMod v e.site fun t => { t with run := .plausible, domain := e.domain, channels := e.channels }) base
  { s with thermal := { s.thermal with site := full } }

/-- CROCUS: ROM, rails 2 to 5 and 12 (R389, R415). `why` 1: no boot block verifies; 2: no firmware image verifies
(in part DESIGN CHOICE, notes/assumptions/15; DEDUCED, notes/assumptions/56). -/
def enterCrocus (s : State) (why : Nat) : State :=
  let s := mapSites (memoryRailsDown (dramGone s)) false []
  let s := { s with
    power := { s.power with state := .crocus, starting := false, idle := false, minimal := false },
    startup := { s.startup with path := .crocus, settings := none, retained := false, split := splitOf 0 s.startup.strapHigh },
    fw := { s.fw with needBoot := why == 1, phase := if s.fw.staging.any (·.whole) then .staged else .idle },
    flash := flashMedium s.flash }
  beginSequence (raise (debugReturns s) 0x0C01 [why, svnFloor s]) smallRails .main

/-- The sites that are sampled before an image is read: the eight on the die, which are always present, and on a retained path those
of the settings in force (R229, R265, R266) (in part DEDUCED, notes/assumptions/98). -/
def mapPresent (s : State) : State :=
  match s.startup.settings with
  | some c => mapSites s c.singleMode c.sensors
  | none => mapSites s false []

/-- The minimal profile (R319, Table 12-7). `cause` is MIN_CAUSE (in part DEDUCED, notes/assumptions/56). -/
def enterMinimal (s : State) (cause : Nat) : State :=
  let s := mapSites (memoryRailsDown (dramGone s)) true []
  let s := { s with
    power := { s.power with state := .run, starting := false, idle := false, minimal := true },
    startup := { s.startup with path := .minimal, minCause := cause, settings := none, retained := false,
                                split := splitOf 0 s.startup.strapHigh },
    rt := { s.rt with adminLinks := 1 },
    rails := { s.rails with rail := vecMap s.rails.rail fun i x => { x with set_ := romRails.getD i.val x.set_ } },
    charger := { s.charger with run := .held, taperSince := none },
    bank := { s.bank with cbEn := false, cbTest := false, testing := false },
    persist := { s.persist with psub := some .uncovered, ceiling := { resetCeiling with limit := 4 } },
    flash := flashMedium s.flash }
  beginSequence (debugReturns s) smallRails .main

/-! ## Step 1, whole, and step 2 -/

/-- TWIN_OVERRIDE, where the strap is set (R305). -/
def twinNotice (s : State) : State :=
  if s.startup.twinOver || s.startup.ovrIgnored then raise s 0x0905 [bit s.startup.twin, bit s.startup.ovrIgnored] else s

/-- Step 1 of Table 12-2: a pending trip record, the protection record, the boot twin block (R276, R389, R421, R426). Answers whether
a block boots. -/
def step1 (s : State) : State × Bool :=
  let s := readLevel (writePending (resumeClock s))
  let strap := s.startup.strapHigh.getLsbD 0
  let sealed_ := s.security.level == .l2
  let ovr := strap && !sealed_
  let b := if ovr then !namedBlock s else namedBlock s
  let s := { s with startup := { s.startup with twinOver := ovr, ovrIgnored := strap && sealed_, step := 1,
                                                twin := if bootOk s b then b else !b } }
  if bootOk s b || bootOk s !b then (twinNotice s, true) else (enterCrocus s 1, false)

/-- The firmware image that starts: the half of the selector, else the other one (R306) (in part DEDUCED, notes/assumptions/56). -/
def firmwareHalf (s : State) : Option (Bool × FwHeader) :=
  let h := match fwRecord s with
    | some r => r.2
    | none => false
  let img := fun b => if b then s.fw.imageB else s.fw.imageA
  match img h, img (!h) with
  | some x, _ => some (h, x)
  | none, some x => some (!h, x)
  | none, none => none

/-- The firmware after a start of the image in a half: an activation that had not been committed reads REVERTED, a pending one is in
force (R410, R411, R414) (in part DEDUCED, notes/assumptions/56). -/
def firmwareUp (s : State) (h : Bool) (x : FwHeader) : State :=
  let named := match fwRecord s with
    | some r => r.2
    | none => h
  let cut := s.fw.phase = .loading ∨ s.fw.phase = .switching ∨ s.fw.phase = .probation
  let f := { s.fw with active := some x, old := none, half := named, running := h, reverting := false, nextEngine := 0, waiting := none,
                       waitRetrain := false, chain := false, needBoot := false }
  if cut then
    let s := { s with fw := { f with phase := if s.fw.staging.any (·.whole) then .staged else .idle, cause := 5, entry := .reverted } }
    raise s 0x0C02 [5, x.version.toNat, ((s.fw.staging.bind (·.header)).map (·.version.toNat)).getD 0]
  else if s.fw.phase = .pendingRestart then
    { s with fw := { f with phase := if f.bootDue then .bootCopy else .idle, entry := .committed,
                            staging := none } }
  else if f.bootDue then { s with fw := { f with phase := .bootCopy } }
  else { s with fw := { f with phase := if s.fw.staging.any (·.whole) then .staged else if s.fw.staging.isSome then .staging else .idle } }

/-- A suspended code flash erase is run to its end before any structure is used (R387). -/
def finishCfErase (s : State) : State :=
  match s.cf.suspended with
  | some sec =>
    let s := sectorGone (cfEraseSector s sec) sec
    { s with cf := { s.cf with op := .idle, suspended := none } }
  | none => s

/-- Trip records in their sector. -/
def tripRecords (s : State) : Nat :=
  ((List.range 128).filter fun i => !cfBlank s (sectorBase secTrip + 4 * i + 3)).length

/-- With more than 96 records the trip sector is erased (R393). -/
def ageTrips (s : State) : State := if tripRecords s > 96 then cfEraseSector s secTrip else s

/-- Reports that a start-up owes: a hard off (R299) and the entry into ship mode (R262). -/
def owedReports (s : State) : State :=
  let s := match s.button.hardOff with
    | some (d, ph) => raise { s with button := { s.button with hardOff := none } } 0x0802 [d, ph]
    | none => s
  match s.pack.shipEvent with
  | some (serial, nefc, v) =>
    logEvent { s with pack := { s.pack with shipEvent := none } } 0x060B 0 (serial ++ leBytes 4 nefc ++ leBytes 6 v)
  | none => s

/-- The media key is unwrapped into the crypto block (R428). -/
def loadKey (s : State) : State :=
  { s with security := { s.security with key := (liveKeySlot s).map (slotKeyId s), mediaKey := ((liveKeySlot s).map (slotKey s)).getD [] } }

/-- Step 2 once the engines have their roles; `lost` says that a role other than a flash channel's has none (R24, R510). -/
def step2Rest (s : State) (lost : Bool) : State :=
  let s := mapPresent (retestHeld s)
  let s := if s.startup.retained && s.flash.inService then bringLog s else s
  let s := owedReports (writeCheckpoint (ageTrips s))
  let s := { s with startup := { s.startup with step := 2 }, power := { s.power with sram := true } }
  let s := if s.startup.retained then startHeld s else s
  if lost then triggerSave { s with host := { s.host with stopped := true } } .noDonor else s

/-- Step 2 of Table 12-2: firmware verified and started, engines assigned, the structures of the code flash tended; on a retained path a
trigger that was held starts its save; a role that no engine is left for ends the start-up in STANDBY, after a save on a retained path
(R22, R24, R306, R308, R364, R387, R393, R510). -/
def step2 (s : State) : State :=
  let s := finishCfErase s
  match firmwareHalf s with
  | none => enterCrocus s 2
  | some (h, x) =>
    let r := assignEngines (firmwareUp (loadKey s) h x)
    step2Rest r.1 r.2

/-- Steps 1 and 2, once the boot-stage rails are qualified and MR_N is high (in part DEDUCED, notes/assumptions/56). -/
def bootSteps (s : State) : State :=
  if mrHolds s || !bootRailsUp s then s
  else
    match step1 { s with power := { s.power with sram := true }, pack := { s.pack with aonCounts := false } } with
    | (t, true) => step2 t
    | (t, false) => t

/-! ## Steps 3 and 4 -/

/-- A block of microseconds: the demand-fetch bound for the die of the image (R222, Table 08-2): its steps with tR and tESPD
(in part DEDUCED, notes/assumptions/55). -/
def fetchBound (c : Settings) : Nat :=
  min 4095 (78 + max (1 + c.trMax) c.tespdMax + 6 * (1 + c.trMax))

/-- Rail entries in force: rails 2 to 12 take the image's (R283, R287). -/
def railsSettings (s : State) (c : Settings) : State :=
  { s with rails := { s.rails with rail := vecMap s.rails.rail fun i x =>
      if i.val = 0 then x else { x with set_ := c.rails.getD i.val x.set_ } } }

/-- NEFC_X100 while no block has been committed (R253). -/
def defaultNefc (s : State) (c : Settings) : State :=
  if s.pack.esbDefault then { s with pack := { s.pack with nefc := 100 * c.pack.cycleLife, qres := 0 } } else s

/-- An accepted image comes into force (R312, Table 12-8). -/
def acceptSettings (s : State) (c : Settings) (r : SheetRead) : State :=
  let s := mapSites (defaultNefc (railsSettings s c) c) c.singleMode c.sensors
  { s with
    startup := { s.startup with settings := some c, sheetCrc := r.crc,
                                sheetParts := r.sections.map fun x => (x.typ, crc32 x.body),
                                regionOfs := ((r.sections.find? fun x => x.typ == 1).map fun x => x.ofs + 28).getD 0,
                                split := splitOf c.hostSplit s.startup.strapHigh },
    rt := { s.rt with adminLinks := c.adminLinks },
    dram := { s.dram with pdTimer := c.pdTimer },
    bank := { s.bank with run := if c.bank.isNone then .absent else if s.bank.run = .absent then .charging else s.bank.run },
    restore := { s.restore with boundUs := fetchBound c },
    lb := { s.lb with state := if s.lb.state = .unused then .inService else s.lb.state } }

/-- The main stage: rails 4 to 12 in ascending order (R287). -/
def mainRails : List Rail := [3, 4, 5, 6, 7, 8, 9, 10, 11]

/-- A DRAM channel at the start of its training. -/
def startTraining (rate : Nat) (d : DramChan) : DramChan :=
  { resetDramChan with run := .training, resetN := true, rate := rate / 4, failed := d.failed, stored := d.stored }

/-- A DRAM channel on a retained path leaves self-refresh, its contents kept: it is trained with its stored settings and refreshed
meanwhile (R103, R110). -/
def leaveSelfRefresh (d : DramChan) : DramChan := if d.run = .selfRefresh then { d with run := .training } else d

/-- Dies that a channel starts with: those of the image that are not retired. -/
def startDies (s : State) (c : Settings) (ch : FlashCh) : List (Fin 16) :=
  (fins 16).filter fun d => decide (d.val < c.flashDies) && !s.flash.retiredDies.contains (ch, d)

/-- Flash channels begin their start-up with WP_N released: reset, parameter pages in SDR timing mode 0, training (R143, R145), in the
flash thermal band of the channel, band 1 in SINGLE sensing mode (R152). A channel without an engine is out of service from here on
(R24, R167). -/
def startFlash (s : State) (c : Settings) : State :=
  let ch := vecMap s.flash.ch fun i f =>
    { f with run := .training, sdr := true, band := if singleMode s then 1 else nandBandOf s.thermal.nand[i], dies := startDies s c i,
             rate := c.flashRate / 2 }
  let s := { s with flash := { s.flash with ch := ch, wpN := false, brownOut := false } }
  ((fins 32).filter fun i => !s.flash.ch[i].hasEngine).foldl flashChannelOut s

/-- Step 4 has ended: DRAM and flash train, and the links (step 5). On a retained path DRAM leaves self-refresh instead and the
flash channels are up since step 2 (R110, R308). -/
def step5Begins (s : State) : State :=
  match s.startup.settings with
  | none => s
  | some c =>
    let s := { s with startup := { s.startup with step := 4 },
                      host := { s.host with link := vecMap s.host.link fun _ k => { k with heldIdle := false } } }
    if s.startup.retained then { s with dram := { s.dram with ch := vecMap s.dram.ch fun _ d => leaveSelfRefresh d } }
    else
      let s := startFlash s c
      { s with dram := { s.dram with ch := vecMap s.dram.ch fun _ d => startTraining c.dramRate d, rate := c.dramRate, rateSteps := 0 },
               shroud := State.reset.shroud }

/-- The rails of a stage are all qualified. -/
def mainDone (s : State) : State :=
  if inMinimal s || inCrocus s then s
  else if s.power.starting && s.startup.step = 3 then step5Begins s
  else s

/-- Step 4 begins (R287). -/
def step4 (s : State) : State :=
  let s := beginSequence { s with startup := { s.startup with step := 3 } } mainRails .main
  if s.rails.seqTodo.isEmpty then mainDone s else s

/-- Sections whose contents differ from those in force, by TYPE (R318). -/
def changedSections (old : List (Nat × Word)) (new : List SheetSection) : List Nat :=
  ((new.filter fun x => !old.contains (x.typ, crc32 x.body)).map (·.typ))
    ++ ((old.filter fun o => !(new.any fun x => x.typ == o.1)).map (·.1))

/-- RESULT codes (Table 12-11). -/
def sheetFailResult (f : SheetFail) : Nat := if f.check = 1 then 2 else 3

/-- QV_SHEET, QV_SHEET_SEQ and QV_SHEET_OFS (Tables 12-11 and 12-12). -/
def sheetRegs (s : State) (r : SheetRead) (result : Nat) : State :=
  { s with startup := { s.startup with
      sheetResult := result, sheetCheck := (r.fail.map (·.check)).getD 0,
      sheetSection := BitVec.ofNat 16 ((r.fail.map (·.section_)).getD 0), sheetSkipped := min 255 r.skipped.length,
      sheetSeq := BitVec.ofNat 32 r.seq, sheetOfs := (r.fail.map (·.ofs)).getD 0, attempts := 0 } }

/-- SHEET_INVALID (Table 12-9). -/
def sheetInvalid (s : State) (result : Nat) (f : SheetFail) (seq : Nat) : State :=
  raise s 0x0901 [result, f.check, f.section_, f.ofs, seq]

/-- An image that asks for a DRAM data rate above that of the speed suffix is trained at the suffix rate, and the difference is logged:
the rate asked for and that of the suffix (R5) (in part DESIGN CHOICE, notes/assumptions/88). -/
def logRate (s : State) (r : SheetRead) : State :=
  let suffix := if s.startup.fuse80 then 80 else 88
  if askedRate r > suffix then logEvent s (Config.unnamedEvent 7) 0 (leBytes 2 (askedRate r) ++ leBytes 2 suffix) else s

/-- Step 3 has its image (R311–R319). On a retained path the settings in force are kept whatever the image says (R318). -/
def finishSheet (s : State) (r : SheetRead) : State :=
  if s.startup.retained then
    match r.fail with
    | none =>
      if r.crc = s.startup.sheetCrc then step4 (sheetRegs s r 1)
      else
        let s := sheetRegs s r 4
        step4 (raise { s with startup := { s.startup with kept := true } } 0x0904 (changedSections s.startup.sheetParts r.sections ++ [4]))
    | some f =>
      let s := sheetRegs s r 4
      step4 (sheetInvalid { s with startup := { s.startup with kept := true } } 4 f r.seq)
  else match r.fail, r.settings with
    | none, some c =>
      let s := logRate (acceptSettings (sheetRegs s r 1) c r) r
      step4 (if r.skipped.isEmpty then s else raise s 0x0906 r.skipped)
    | some f, _ =>
      enterMinimal (sheetInvalid (sheetRegs s r (sheetFailResult f)) (sheetFailResult f) f r.seq) (if f.check = 1 then 1 else 2)
    | none, none => s

/-! ## The end of a sequence of rails -/

/-- A group's rails have come back: its function starts as at step 5 (R293). -/
def groupBack (s : State) (g : Fin 3) : State :=
  if g = 0 then { s with host := { s.host with link := vecMap s.host.link fun _ k => { k with heldIdle := false } } }
  else if g = 2 then
    match s.startup.settings with
    | some c => startFlash { s with flash := { s.flash with inService := true } } c
    | none => s
  else s

/-- A rail of the sequence has qualified: the next is enabled, or the stage ends (R286). -/
def sequenceNext (s : State) : State :=
  match s.rails.seqTodo.drop 1 with
  | r :: t => enableRail { s with rails := { s.rails with seqTodo := r :: t } } r
  | [] =>
    let s := { s with rails := { s.rails with seqTodo := [] } }
    match s.rails.seqFor with
    | .boot => bootSteps s
    | .main => mainDone s
    | .groupAgain g => groupBack s g

/-! ## Memory_Active (R211, R300) -/

/-- Memory_Active on every trained link that can carry it (R64, R211). -/
def activateMemory (s : State) : State :=
  { s with host := { s.host with stopped := false,
                                 link := vecMap s.host.link fun _ k => if k.trained && k.offersIo then { k with memActive := true } else k } }

/-- Payload of POWER_ON: QV_RESET_CAUSE and QV_BOOT. -/
def powerOnPayload (s : State) : List Byte :=
  leBytes 4 (regResetCause s).toNat ++ leBytes 4 (regBoot s).toNat

end Sys2Proof.Machine
end

