-- ==== Sys2Proof/Machine/ButtonOps.lean ====
section
/-! DEFINITION. The push button's actions by power state, the hard off, and the effect of MR_N (R296–R301, Table 11-6). -/

namespace Sys2Proof.Machine

open Sys2Proof

/-- Records the action of a press. -/
def pbAct (s : State) (a : PbAction) : State := { s with button := { s.button with action := a } }

/-- ACTION codes (Table 11-8). -/
def pbCode : PbAction → Nat
  | .none => 0
  | .notice => 1
  | .orderlyOff => 2
  | .cancelled => 3
  | .forcedOff => 4
  | .hardOff => 5
  | .startUp => 6
  | .logged => 7

/-- Rows of Table 11-6. -/
inductive PbRow where
  | service | save | startup | retained | standby | standbyLatched | none
  deriving DecidableEq, Repr

/-- A rail, group or trip latch is held. -/
def anyLatch (s : State) : Bool := s.rails.latched || s.thermal.latched || s.rails.groupLatched.toList.any id

/-- The row of Table 11-6 that the present state gives (in part DEDUCED, notes/assumptions/52). -/
def pbRow (s : State) : PbRow :=
  match s.power.state with
  | .off | .ship => .none
  | .save => .save
  | .standby => if anyLatch s then .standbyLatched else .standby
  | .crocus => .startup
  | .run | .restore =>
    if s.power.minimal then .startup
    else if s.power.starting && s.startup.retained then .retained
    else if s.power.starting || s.startup.step9At.isNone then .startup
    else .service

/-- A STANDBY after a DRAM emergency is left only once every channel has cooled (R278, R301)
(in part DEDUCED, notes/assumptions/52). -/
def coolEnough (s : State) : Bool :=
  s.power.standby != .byCooling || (s.thermal.coolSince.any fun t => due s t 100)

/-- PB_PRESS. -/
def pbNotice (s : State) (d : Nat) (a : PbAction) : State := raise (pbAct s a) 0x0806 [d / 10, pbCode a]

/-- A press that is only logged, or cancelled and logged (Table 11-6); no table numbers the event (in part DESIGN CHOICE,
notes/assumptions/88). -/
def pbLog (s : State) (d : Nat) (a : PbAction) : State := logEvent (pbAct s a) (Config.unnamedEvent 8) 0 (leBytes 4 (d / 10) ++ leBytes 1 (pbCode a))

/-- The hard off (R299): every EN_x low at once, HOLD_EN released and CHG_EN low; what the core held is lost. -/
def hardOff (s : State) : State :=
  let phase := if saving s then s.save.phase else 0
  let s := beginInterval s .excluded
  let s := coreLost ((fins 12).foldl (fun s r => if r.val = 0 then s else switchRailOff s r) s)
  let s := setCause { s with button := { s.button with hardOff := some (1500, phase), action := .hardOff },
                             rails := { s.rails with downTodo := [], downThen := none, seqTodo := [], groupWait := [], restartWait := false,
                                                     deferred := none } } 4 0
  let s := enterStandby s .byPress
  { s with charger := { s.charger with run := .held } }

/-- A press in service (first row). -/
def pressService (s : State) (d : Nat) : State :=
  if d < 1000 then pbNotice s d .notice
  else if d < 4000 then triggerSave (pbAct s .orderlyOff) .orderlyPress
  else if d < 8000 then pbLog s d .cancelled
  else if d < 15000 then triggerSave (pbAct s .forcedOff) .forcedPress
  else hardOff s

/-- A press is released after `d` ms without having reached a mark (R297). -/
def pressReleased (s : State) (d : Nat) : State :=
  match pbRow s with
  | .none => s
  | .service => pressService s d
  | .save => pbLog s d .logged
  | .startup =>
    if d < 1000 then pbNotice s d .notice
    else if d < 4000 then beginShutdown (pbAct s .orderlyOff) (.standby .byPress)
    else pbLog s d .cancelled
  | .retained => { s with button := { s.button with deferred := some (d, .none) } }
  | .standby => if d < 4000 && coolEnough s && mayStart s then startBoot (pbAct s .startUp) else pbLog s d .logged
  | .standbyLatched => if d < 4000 then raise (pbAct s .notice) 0x0807 [d / 10, 1] else pbLog s d .logged

/-- The press has been held to 8 s (R298). -/
def pressForced (s : State) : State :=
  match pbRow s with
  | .none => s
  | .service | .save => triggerSave (pbAct s .forcedOff) .forcedPress
  | .startup => beginShutdown (pbAct s .forcedOff) (.standby .byPress)
  | .retained => { s with button := { s.button with deferred := some (8000, .none) } }
  | .standby | .standbyLatched => pbLog s 8000 .logged

/-- The press has been held to 15 s (R299). In STANDBY it is recorded only; while MR_N holds the controller in reset it acts at once,
on a retained path too (R494). -/
def pressHard (s : State) : State :=
  match pbRow s with
  | .none => s
  | .retained => if mrHolds s then hardOff s else { s with button := { s.button with deferred := some (15000, .none) } }
  | .standby | .standbyLatched => pbAct s .logged
  | _ => hardOff s

/-- A press that a retained path deferred is taken once Memory_Active is set (R300) (in part DEDUCED, notes/assumptions/52). -/
def actDeferred (s : State) : State :=
  match s.button.deferred with
  | some (d, _) => pressService { s with button := { s.button with deferred := none } } d
  | none => s

/-- MR_N takes effect (R296): counted, reported, the data path reset. QV_COMPAT.HOLDFLAG keeps its value (R469)
(in part DEDUCED, notes/assumptions/52). -/
def manualReset (s : State) : State :=
  let n := min 65535 (s.button.mrCount + 1)
  let keep := dramServing s && (!s.power.starting || s.startup.retained)
  let s := { s with button := { s.button with mrCount := n, mrLatched := false, cause := 1, causeRail := 0 },
                    security := { s.security with lowering := false, step := 0 } }
  let t := dataPathReset (raise (endSession s 2) 0x0805 [n, bit keep])
  { t with crossings := { t.crossings with holdflag := s.crossings.holdflag, hfActive := s.crossings.hfActive } }

/-- The core runs, so that MR_N has something to reset. -/
def coreStates (s : State) : Bool :=
  s.power.state == .run || s.power.state == .restore || s.power.state == .crocus

/-- Start-up resumes at step 1 with the rails kept (R287, R296). -/
def resumeBoot (s : State) : State :=
  if anyLatch s then s
  else if bootRailsUp s then bootSteps s
  else beginSequence s [1, 2] .boot

/-- An MR_N that was latched during a save or a lowering is acted on (R296, R425): start-up follows at once where MR_N has been released
meanwhile, and on its release otherwise. -/
def actLatchedReset (s : State) : State :=
  if s.button.mrLatched then
    if coreStates s then
      let t := manualReset s
      if t.button.mrLow then t else resumeBoot t
    else { s with button := { s.button with mrLatched := false } }
  else s

end Sys2Proof.Machine
end

