-- ==== Sys2Proof/Machine/RestoreOps.lean ====
section
/-! DEFINITION. Step 9 of a start-up, the hold after a rollback, and the choice of a generation (R181, R204–R212, R309, R317). -/

namespace Sys2Proof.Machine

open Sys2Proof

/-! ## Step 9 (R209, R211, R300) -/

/-- Memory service begins: Memory_Active, the interval of unavailability ends, POWER_ON is logged, and a press that was deferred is
taken (in part DESIGN CHOICE, notes/assumptions/35; DEDUCED, notes/assumptions/81). -/
def beginService (s : State) : State :=
  let s := activateMemory { s with startup := { s.startup with step := 9, step9At := some s.clock.now } }
  actDeferred (logEvent (endInterval s) 0x0B83 0 (powerOnPayload s))

/-- The generation in use waits for its first checkpoint, which step 8 seals; a format does not wait (R207, R309). -/
def checkpointWaits (s : State) : Bool := needsCheckpoint s && s.restore.source != 2

/-- Step 9, once step 8 has ended and HOLD is clear; its time is kept (R211). -/
def step9 (s : State) : State :=
  if s.startup.step ≠ 8 || s.restore.hold || checkpointWaits s then s
  else beginService { s with restore := { s.restore with offer := s.clock.now - s.startup.startedAt } }

/-- HOLD clears once IMAGE_ROLLBACK has been retired; its time does not count (R209, Table 14-6)
(in part DEDUCED, notes/assumptions/80). -/
def clearRollback (s : State) : State :=
  if !s.restore.hold || pendingCode s 0x0504 then s
  else
    let held := match s.faults.holdSince with | some t => s.clock.now - t | none => 0
    step9 { s with restore := { s.restore with hold := false },
                   faults := { s.faults with holdMs := s.faults.holdMs + held, holdSince := none } }

/-! ## The choice of a generation (R204–R209, R317) -/

/-- The record with the highest GEN. -/
def highestOf : List Generation → Option Generation
  | [] => none
  | g :: t => match highestOf t with
    | none => some g
    | some x => some (if x.gen.toNat < g.gen.toNat then g else x)

/-- Seal records under the present key, root decoding or not (in part DEDUCED, notes/assumptions/79). -/
def keyRecords (s : State) : List Generation := s.flash.gens.filter fun g => recordReads s g && some g.keyId == s.security.key

/-- The highest GEN seen in the ring under the present key (R209). -/
def highestSeen (s : State) : DWord := ((highestOf (keyRecords s)).map (·.gen)).getD 0

/-- The rollback cause of using a candidate (R205, R206). -/
def rollbackCause (s : State) (g : Generation) : Nat :=
  if (keyRecords s).any fun x => decide (g.gen.toNat < x.gen.toNat) then 1 else if g.kind = .checkpoint then 2 else 0

/-- A rollback is reported, counted and held until it is acknowledged (R209)
(in part DESIGN CHOICE, notes/assumptions/15; DEDUCED, notes/assumptions/80). -/
def rollBack (s : State) (cause : Nat) (used : DWord) : State :=
  if cause = 0 then s
  else
    let s := raise s 0x0504 (cause :: words2 used.toNat ++ words2 (highestSeen s).toNat)
    countDirtyShutdown { s with restore := { s.restore with hold := true }, faults := { s.faults with holdSince := some s.clock.now } }

/-- Step 6 ends with a generation or a format: what the restore registers show while the manifest loads
(in part DEDUCED, notes/assumptions/80). -/
def chosen (s : State) (source cause : Nat) (used : DWord) (path : BootPath) : State :=
  { s with
    startup := { s.startup with step := 6, path := path },
    restore := { s.restore with phase := 2, source := source, cause := cause, genUsed := used, highest := highestSeen s, hold := false,
                                window := false, slow := false, done := 0 } }

/-- Reports that a start-up owes for the save it restores: SAVE_COMPLETE, and SAVE_LOST where granules are LOST, which count as a dirty
shutdown (R197, R198, R202). The QV_SAVE registers read 0 after OFF (in part DESIGN CHOICE, notes/assumptions/29). -/
def reportSave (s : State) (g : Generation) : State :=
  if g.kind ≠ .save then s
  else
    let s := raise s 0x0503 ([s.save.trigger.elim 0 triggerCode, storeCode s.save.store, 0] ++ words2 g.gen.toNat ++ [s.save.charge, s.save.time])
    if g.lost = 0 then s
    else countDirtyShutdown (raise s 0x0501 (words2 g.gen.toNat ++ [g.lost, endCode s.save.endCause]))

/-- The newest candidate is used: its record comes last among those under the present key, and the numbers given to seals go on from the
highest seen (in part DEDUCED, notes/assumptions/79). -/
def useGeneration (s : State) (g : Generation) : State :=
  let cause := rollbackCause s g
  let t := rollBack (chosen s (if cause = 0 then 0 else 1) cause g.gen .restore) cause g.gen
  let u := { t with
    flash := { t.flash with gens := ((s.flash.gens.filter fun x => some x.keyId == s.security.key && x.gen != g.gen)) ++ [g],
                            gen := highestSeen s },
    save := { t.save with report := false } }
  reportSave u g

/-- The offset and section that check 14 reports (R316) (in part DEDUCED, notes/assumptions/82). -/
def granFail (s : State) : SheetFail := ⟨14, 1, s.startup.regionOfs⟩

/-- The newest candidate has another granule size: the image counts as invalid under check 14, and the minimal profile is entered (R317)
(in part DEDUCED, notes/assumptions/82). -/
def granMismatch (s : State) : State :=
  let f := granFail s
  let s := { s with startup := { s.startup with sheetResult := sheetFailResult f, sheetCheck := f.check,
                                                sheetSection := BitVec.ofNat 16 f.section_, sheetOfs := f.ofs } }
  enterMinimal (sheetInvalid s (sheetFailResult f) f s.startup.sheetSeq.toNat) 5

/-! ## Format (R163, R165, R181, R428) -/

/-- A blank key slot; with none, the protection record sector is erased and the level in force written again first (R428). -/
def readySlot (s : State) : State × Nat :=
  match blankKeySlot s with
  | some i => (s, i)
  | none => (writeLevel (cfEraseSector s secProtect) true s.security.level, 0)

/-- A media key is drawn and stored when none exists (R163, R428) (in part DESIGN CHOICE, notes/assumptions/83). -/
def makeKey (s : State) : State :=
  if s.security.key.isSome then s
  else
    let r := drawRandom s 68
    let key := r.1.take 64
    let id := BitVec.ofNat 32 (field r.1 64 4)
    let t := readySlot r.2
    let u := writeKeySlot t.1 t.2 (wrapKey key) id
    { u with security := { u.security with key := some id, mediaKey := key } }

/-- Block sets with a factory bad mark that are not retired yet (R165). -/
def factoryBadSets (s : State) (c : Settings) : List (FlashCh × Fin 16 × Nat) :=
  (fins 32).flatMap fun ch => s.flash.ch[ch].dies.flatMap fun die => (List.range c.blockSets).filterMap fun i =>
    if Config.factoryBad ch die i && !(s.flash.blocks.any fun b => b.ch == ch && b.die == die && b.index == i && b.retired) then some (ch, die, i)
    else none

/-- Factory bad block sets are retired; a die with too many of them is (R165, R166) (in part DESIGN CHOICE, notes/assumptions/83). -/
def retireFactory (s : State) (c : Settings) : State :=
  let s := (factoryBadSets s c).foldl (fun s x => setBlock s x.1 x.2.1 x.2.2 fun b => { b with retired := true }) s
  (fins 32).foldl (fun s ch => s.flash.ch[ch].dies.foldl (fun s die =>
    if 40 * dieRetiredSets s ch die > c.blockSets then retireDie s ch die else s) s) s

/-- The format of R181: a key, the bad marks, a new system area, and a FORMAT generation with GEN 1 to be sealed
(in part DESIGN CHOICE, notes/assumptions/83). -/
def beginFormat (s : State) (c : Settings) : State :=
  let s := retireFactory (makeKey s) c
  let s := { s with
    flash := { s.flash with
      pages := [], gens := [], gen := 0, formatting := true, manifest := [], chunks := [], chunkMap := [], moves := [], openRows := [], restripe := [],
      bands := s.flash.bands.map fun b => { b with closed := true, moving := false } },
    persist := { s.persist with heat := [], wear := (((c.wearRate * 86400000000 : Nat)) : Int) } }
  beginSeal s .format

end Sys2Proof.Machine
end

