-- ==== Sys2Proof/Machine/EnergyOps.lean ====
section
/-! DEFINITION. The energy stores: the pack's conditions and its estimator, the charger, the capacitor bank, the estimator state
block, the rest window and ship mode (R232–R262, Tables 09-1 to 09-6). -/

namespace Sys2Proof.Machine

open Sys2Proof

/-- Changes the pack. -/
def setPack (s : State) (f : Pack → Pack) : State := { s with pack := f s.pack }

/-- Changes the bank. -/
def setBank (s : State) (f : Bank → Bank) : State := { s with bank := f s.bank }

/-- A field of the live block changes: CHANGE_SEQ advances, and ESB_CHANGED is owed (Table 09-4, R254). -/
def blockChanged (s : State) : State := setPack s fun p => { p with changeSeq := p.changeSeq + 1, esbDirty := true }

/-- An access to the estimator (R260): it wakes. -/
def touchEstimator (s : State) : State := setPack s fun p => { p with accessAt := s.clock.now, hibernate := false }

/-- A condition that must hold for `d` ms: since when it holds, and whether it has held that long. -/
def dwell (s : State) (holds : Bool) (since : Option Nat) (d : Nat) : Option Nat × Bool :=
  if !holds then (none, false)
  else
    let t := since.getD s.clock.now
    (some t, decide (t + d ≤ s.clock.now))

/-! ## Charge (R233, R244, R245) -/

/-- Whole q_c in QRES go to NEFC_X100 (R245). -/
def carryCycles (s : State) : State :=
  match s.startup.settings with
  | none => s
  | some c =>
    let q := cycleCharge c.pack
    if q = 0 ∨ s.pack.qres < q then s
    else blockChanged (setPack s fun p => { p with nefc := p.nefc + p.qres / q, qres := p.qres % q })

/-- Charge drawn from the pack, in µC: into q_dis; by whole mC into QRES of a restored live block, and into the AON accumulator
while that counts (R233, R245, R253) (in part DEDUCED, notes/assumptions/57). -/
def countDrawn (s : State) (uc : Nat) : State :=
  let whole := (s.pack.drawnMicro + uc) / 1000
  let live := s.power.sram && !s.pack.esbDefault
  let aon := s.pack.aonCounts || !s.power.sram
  carryCycles (setPack s fun p =>
    { p with qDis := p.qDis + uc, drawnMicro := (p.drawnMicro + uc) % 1000,
             qres := if live then p.qres + whole else p.qres, aonDrawn := if aon then p.aonDrawn + whole else p.aonDrawn })

/-- The pack carries a save, or the hold-up of one to come: its charge comes from the count of R188 (R233). -/
def packCarries (s : State) : Bool :=
  s.charger.holdEn && (saving s || !s.save.heldTrigs.isEmpty)
    && (if saving s && s.save.store != .input then s.save.store else planStore s.persist.plan) == .pack

/-- A current in mA that flows for some ms; of what the integral of a save counts, the reads add nothing (R233)
(in part DEDUCED, notes/assumptions/57). -/
def integrateFor (s : State) (milliamps : Int) (ms : Nat) : State :=
  let uc := milliamps.natAbs * ms
  if packCarries s then s
  else if milliamps > 0 then countDrawn s uc
  else setPack s fun p => { p with qChg := p.qChg + uc }

/-- One sample of the current, in mA over the sampling interval: 10 ms, or 1 s while hibernating (R232, R260). -/
def integrate (s : State) (milliamps : Int) : State := integrateFor s milliamps (if s.pack.hibernate then 1000 else 10)

/-- A charge reference (R244). -/
def setReference (s : State) (soc : Rat) (src : SocSource) : State :=
  setPack s fun p => { p with socRef := soc, socSrc := src, qChg := 0, qDis := 0 }

/-- Point `i` of the OCV table in µV at the present pack temperature (R247). -/
def ocvPoint (s : State) (p : PackSet) (i : Nat) : Int :=
  let e := p.ocv.getD i (0, 0)
  (e.1 : Int) * 1000 + e.2 * (packTemp s - 250) / 10

/-- soc at a voltage in µV on the first rising segment of the table that holds it. -/
def ocvSegments (s : State) (p : PackSet) (uv : Int) : List Nat → Option Rat
  | [] => none
  | i :: t =>
    let a := ocvPoint s p i
    let b := ocvPoint s p (i + 1)
    if a ≤ uv ∧ uv ≤ b ∧ a < b then some (((i : Rat) + ((uv - a : Int) : Rat) / ((b - a : Int) : Rat)) / 20)
    else ocvSegments s p uv t

/-- soc from the OCV table (R247); a free value where the table gives none (in part DESIGN CHOICE, notes/assumptions/37). -/
def ocvSoc (s : State) (p : PackSet) (millivolts : Nat) : Rat × State :=
  match ocvSegments s p ((millivolts : Int) * 1000) (List.range 20) with
  | some x => (x, s)
  | none => (Config.ocvOutside s.fresh, { s with fresh := s.fresh + 1 })

/-- A voltage reference: soc from the table, u_base and h (R244, R246). h restarts at every one, one whose reading could not meet its
conditions among them, of which R248 names soc_ref and u_base only (in part DESIGN CHOICE, notes/assumptions/102). -/
def voltageReference (s : State) (c : Settings) (millivolts uBase : Nat) (src : SocSource) : State :=
  let r := ocvSoc s c.pack millivolts
  blockChanged (setPack (setReference r.2 r.1 src) fun p => { p with uBase := uBase, refAt := s.clock.opTime, readingDue := false })

/-- The pack temperature lies from 10 °C to 45 °C (R247, R248, R250). -/
def restTemp (s : State) : Bool := decide (100 ≤ packTemp s ∧ packTemp s ≤ 450)

/-! ## Charger (R241–R243, R453) -/

/-- The power state lets the pack charge (R241). -/
def chargeState (s : State) (c : Settings) : Bool :=
  !s.power.minimal && (s.power.state == .run || s.power.state == .restore || (s.power.state == .standby && c.pack.stbyI != 0))

/-- Every condition of R241 and R453 but the terminated state; a reading that is owed is taken first (R248). -/
def mayCharge (s : State) : Bool :=
  match s.startup.settings with
  | none => false
  | some c =>
    chargeState s c && s.pack.cond == .qualified && !s.pack.outCharge && s.pack.tempSrc != .none && inputGood s
      && s.lb.state != .stuck && s.lb.chargerSet && !s.pack.readingDue

/-- HOLD_EN, a rest window or ship mode holds CHG_EN low (Table 09-10). -/
def chargeForced (s : State) : Bool := s.charger.holdEn || s.pack.restActive || s.pack.shipStep != 0

/-- soc is below 0.97 (R242, R243). -/
def socLow (s : State) : Bool :=
  match s.startup.settings with
  | none => false
  | some c => decide (stateOfCharge s c.pack < 97 / 100)

/-- What the charger does next. -/
def nextCharge (s : State) : ChgRun :=
  if chargeForced s then .forcedLow else if s.charger.terminated then .terminated
  else if mayCharge s then .charging else .held

/-- Sets CHG_EN by R241 and R242; a rise or a fall of it ends a quiet period (R247). -/
def updateCharger (s : State) : State :=
  let s := { s with charger := { s.charger with terminated := s.charger.terminated && !socLow s } }
  let r := nextCharge s
  let moved := (r == .charging) != (s.charger.run == .charging)
  let held := s.pack.outCharge && socLow s && r != .charging
  let k := { s.charger with run := r, taperSince := if r = .charging then s.charger.taperSince else none,
                            heldSince := if held then some (s.charger.heldSince.getD s.clock.now) else none }
  let s := { s with charger := k }
  if moved then setPack s fun p => { p with calmSince := s.clock.now, lastRestRef := none } else s

/-- The charger terminates: soc is 1.00 and CHG_EN goes low (R242). -/
def terminateCharge (s : State) : State :=
  if s.charger.run = .charging then
    let s := setReference s 1 .termination
    updateCharger { s with charger := { s.charger with terminated := true } }
  else s

/-- The charging current stays below the termination current for 60 s (R242). -/
def taperCheck (s : State) : State :=
  match s.startup.settings with
  | none => s
  | some c =>
    let low := s.charger.run == .charging && decide (-s.pack.current < (c.pack.termI : Int))
    let d := dwell s low s.charger.taperSince 60000
    let s := { s with charger := { s.charger with taperSince := d.1 } }
    if d.2 then terminateCharge s else s

/-! ## Rest window (R250) -/

/-- The window ends with a result: 1 success, otherwise 0 and its cause (2 save trigger, 3 temperature, 4 the pack, 5 time)
(in part DESIGN CHOICE, notes/assumptions/15). -/
def endWindow (s : State) (success cause : Nat) : State :=
  if s.pack.restActive then
    updateCharger (raise (setPack s fun p => { p with restActive := false }) 0x0609 [success, cause])
  else s

/-! ## Pack conditions (R235, R236, Table 09-2) -/

/-- A failure condition is present now. -/
def activeFault (s : State) : Bool :=
  s.pack.badVoltSince.isSome || s.charger.fault || s.pack.shuntBad || match s.startup.settings with
    | some c => decide (s.pack.impedance > c.pack.rLimit)
    | none => false

/-- QV_E_CTL.PACK_COND from what holds. -/
def condNow (p : Pack) : PackCond :=
  if !p.present then .absent
  else match p.failure with
    | some .absent => if p.outWindow then .window else .notYet
    | some f => f
    | none => if p.outWindow then .window else if p.cond = .qualified then .qualified else .notYet

/-- The conditions are evaluated anew; a pack that stops being qualified ends a rest window and lowers the ceiling (R46, R250). -/
def settlePack (s : State) : State :=
  let was := s.pack.cond
  let good := s.pack.present && !activeFault s
  let s := setPack s fun p =>
    { p with goodSince := if good then some (p.goodSince.getD s.clock.now) else none, cond := condNow p }
  let s := if was = .qualified ∧ s.pack.cond ≠ .qualified then ceilingEvent (endWindow s 0 4) else s
  updateCharger s

/-- A failure condition is met: latched, PACK_FAILED sent, and the persistence sub-state evaluated (R56, R235, R236). -/
def failPack (s : State) (f : PackCond) : State :=
  if s.pack.failure.isNone ∨ s.pack.failure = some .absent then
    evalPsub (settlePack (raise (setPack s fun p => { p with failure := some f, inService := false }) 0x0601 []))
  else settlePack s

/-- Voltage below 10.0 V or above 17.2 V for 10 ms while present. -/
def voltageCheck (s : State) : State :=
  let bad := s.pack.present && (decide (s.pack.voltage < 10000) || decide (s.pack.voltage > 17200))
  let d := dwell s bad s.pack.badVoltSince 10
  let s := setPack s fun p => { p with badVoltSince := d.1 }
  if d.2 then failPack s .voltage else settlePack s

/-- The discharge window, left and entered over 100 ms (Table 09-2). -/
def dischargeWindow (s : State) (t : Int) : State :=
  let cross := if s.pack.outWindow then decide (-70 < t ∧ t < 570) else decide (t < -100 ∨ 600 < t)
  let d := dwell s cross s.pack.windowSince 100
  setPack s fun p => { p with windowSince := if d.2 then none else d.1, outWindow := if d.2 then !p.outWindow else p.outWindow }

/-- The charge window, likewise (R241). -/
def chargeWindow (s : State) (t : Int) : State :=
  let cross := if s.pack.outCharge then decide (80 ≤ t ∧ t ≤ 420) else decide (t < 50 ∨ 450 < t)
  let d := dwell s cross s.pack.chargeSince 100
  setPack s fun p => { p with chargeSince := if d.2 then none else d.1, outCharge := if d.2 then !p.outCharge else p.outCharge }

/-! ## Identity (R257, R258, R454) -/

/-- NEFC_X100 of the defaults (R253). -/
def defaultCycles (s : State) : Nat :=
  match s.startup.settings with
  | some c => 100 * c.pack.cycleLife
  | none => s.pack.nefc

/-- PACK_CHANGED (R257). -/
def packChanged (s : State) (old new : List Byte) : State :=
  let s := setPack s fun p =>
    { p with serial := new, readingDue := true, readingFrom := s.clock.now, nefc := defaultCycles s, qres := 0, esbDefault := true, changed := true }
  ceilingEvent (raise (blockChanged s) 0x0604 (serialWords old ++ serialWords new))

/-- No serial has been accepted since VDD_AON came up. -/
def noSerial (s : State) : Bool := s.pack.serial == List.replicate 16 0

/-- A serial is accepted: ID_UNKNOWN clears, and a read that clears it is an insertion (R257, R258)
(in part DEDUCED, notes/assumptions/57). -/
def acceptSerial (s : State) (serial : List Byte) : State :=
  let again := s.pack.idUnknown
  let s := setPack { s with lb := { s.lb with idFailures := 0 } } fun p =>
    { p with idTried := true, idUnknown := false, idUnreadSent := false, readingDue := p.readingDue || again,
             readingFrom := if again then s.clock.now else p.readingFrom }
  let s := if again then blockChanged s else s
  if serial = s.pack.serial then s
  else if noSerial s then blockChanged (setPack s fun p => { p with serial := serial })
  else packChanged s s.pack.serial serial

/-- The identity cannot be read, or the local bus is stuck (R258); `stat` is the local bus status. -/
def identityLost (s : State) (stat : Nat) : State :=
  let s := if s.pack.idUnknown then s else blockChanged (setPack s fun p => { p with idUnknown := true })
  let s := setPack s fun p => { p with idTried := true }
  if s.pack.idUnreadSent then s else raise (setPack s fun p => { p with idUnreadSent := true }) 0x0605 [stat]

/-- One pair of identity reads (R454): two reads of the same 16 bytes are accepted; three pairs in a row that are not make the
identity unreadable. -/
def identityPair (s : State) (first second : Option (List Byte)) : State :=
  if s.lb.state ≠ .inService ∨ s.pack.present = false then s
  else match first, second with
    | some a, some b =>
      if a = b ∧ a.length = 16 then settlePack (acceptSerial s a) else failedPair s
    | _, _ => failedPair { s with lb := { s.lb with nack := satAdd 8 s.lb.nack 1, lastAddr := idAddress s } }
where
  /-- Address of the identity EEPROM. -/
  idAddress (s : State) : BitVec 7 :=
    match s.startup.settings with
    | some c => c.pack.idAddr
    | none => 0x51
  /-- A pair differs or fails. -/
  failedPair (s : State) : State :=
    let s := setPack { s with lb := { s.lb with idFailures := s.lb.idFailures + 1 } } fun p => { p with idTried := true }
    if s.lb.idFailures ≥ 3 then
      settlePack (identityLost { s with lb := { s.lb with idFailures := 0 } } (regLbStat s).toNat)
    else settlePack s

/-! ## Capacitor bank (R237–R240) -/

/-- The bank may be charged (R238). -/
def bankMayCharge (s : State) : Bool :=
  (match s.startup.settings with
   | some c => c.bank.isSome
   | none => false)
    && !s.power.minimal && (s.power.state == .run || s.power.state == .restore || s.power.state == .standby)
    && s.pack.shipStep == 0 && !s.bank.testing && s.bank.run != .absent && (s.bank.run != .failed || s.bank.passed)

/-- Sets CB_EN (R238); a charge that starts below 22.0 V is noted (R239). -/
def updateBank (s : State) : State :=
  let on := bankMayCharge s
  let rises := on && !s.bank.cbEn
  setBank s fun b => { b with cbEn := on, startedLow := b.startedLow || (rises && decide (b.voltage < 22000)),
                              lowSince := if on then b.lowSince else none }

/-- The bank is classed as failed (R240). -/
def failBank (s : State) : State :=
  let s := updateBank (setBank s fun b => { b with run := .failed, passed := false, testing := false, cbTest := false, cbEn := false })
  ceilingEvent (raise s 0x0602 [])

/-- A rise of less than 1.0 V within 5 s of charging below 30.0 V (R240): the five seconds in progress, and whether they fail. -/
def slowCharge (s : State) : Option (Nat × Nat) × Bool :=
  if !s.bank.cbEn || decide (s.bank.voltage ≥ 30000) then (none, false)
  else match s.bank.lowSince with
    | none => (some (s.clock.now, s.bank.voltage), false)
    | some (t, v) =>
      if 5000 + t ≤ s.clock.now then (some (s.clock.now, s.bank.voltage), decide (s.bank.voltage < 1000 + v)) else (some (t, v), false)

/-- A failed bank that has passed a test is failed no longer once its energy meets e_bp (R240)
(in part DEDUCED, notes/assumptions/58). -/
def bankReturns (s : State) : State :=
  if s.bank.run = .failed ∧ s.bank.passed then
    let t := bankQualify (setBank s fun b => { b with run := .charging })
    if t.bank.run = .qualified then evalPsub (setBank t fun b => { b with passed := false }) else s
  else s

/-- A loss of the bank's qualification lowers the ceiling (R46). -/
def bankLoss (s : State) : State :=
  if s.bank.run = .qualified then
    let t := bankQualify s
    if t.bank.run = .qualified then s else ceilingEvent t
  else s

/-! ## Estimator state block (R252–R256, Table 09-5) -/

/-- Whether a reserved byte or FLAGS bit of a block is set. -/
def blockReserved (b : List Byte) : Bool := decide (field b 6 2 ≥ 32) || (slice b 62 190).any fun x => x != 0

/-- The first failing check of Table 09-5 from order 2 on. -/
def blockCheck (s : State) (c : Settings) (b : List Byte) : Option QmpStatus :=
  if b.length = 0 then some .lenZero
  else if b.length ≠ 256 then some .lenBad
  else if saveStart s then some .energyBusy
  else if (crc32 (b.take 252)).toNat ≠ field b 252 4 then some .crcBad
  else if field b 0 4 ≠ 0x51564542 ∨ field b 4 2 ≠ 2 then some .versionBad
  else if field b 28 4 ≥ cycleCharge c.pack ∨ field b 24 4 > 0xFFFFFF ∨ blockReserved b then some .range
  else if s.pack.present = false then some .packAbsent
  else if s.pack.idUnknown then some .packIdUnknown
  else if slice b 8 16 ≠ s.pack.serial then some .serialMismatch
  else none

/-- The count that a commit takes: the block's, or the last save record's where that one is larger (R256). -/
def restoredCount (s : State) (b : List Byte) : Nat × Nat :=
  let own := (field b 24 4, field b 28 4)
  match s.pack.lastRecord with
  | some (serial, n, q, isDefault) =>
    let newPack := field b 6 2 % 2 = 1
    if !newPack && serial == slice b 8 16 && !isDefault && (decide (own.1 < n) || (own.1 == n && decide (own.2 < q))) then (n, q) else own
  | none => own

/-- The staged block is committed by the buffer swap (R255, R256); CHANGE_SEQ is one above the larger of the two. -/
def commitBlock (s : State) (b : List Byte) : State :=
  let n := restoredCount s b
  let s := setPack s fun p =>
    { p with nefc := n.1, qres := n.2 + p.aonDrawn, aonDrawn := 0, esbDefault := false, changed := false,
             changeSeq := max p.changeSeq (field b 48 8) }
  setPack (carryCycles (blockChanged s)) fun p => { p with changeSeq := s.pack.changeSeq + 1 }

/-! ## Ship mode (R261, R262, Table 09-6) -/

/-- Steps 2 and 3: the ship event is held in AON and PK_SHIP_N is pulsed. -/
def shipPulse (s : State) : State :=
  setPack s fun p => { p with shipStep := 3, shipAt := s.clock.now, shipEvent := some (p.serial, p.nefc, s.clock.opTime) }

/-- Step 1 is over once the bank is below 5.0 V. -/
def shipDrained (s : State) : State :=
  if s.pack.shipStep = 1 ∧ (s.bank.voltage < 5000 ∨ s.bank.run = .absent) then
    shipPulse (setBank s fun b => { b with cbTest := false })
  else s

/-- Step 4: the pack voltage has fallen below 1.0 V. -/
def shipReached (s : State) : State :=
  if s.pack.shipStep = 3 ∧ s.pack.voltage < 1000 then
    raise (setPack s fun p => { p with shipStep := 4, ship := true }) 0x060B (serialWords s.pack.serial ++ [s.pack.nefc, s.pack.voltage])
  else s

/-- Entry into ship mode (R261). -/
def enterShip (s : State) : State :=
  shipDrained (updateCharger (setBank (setPack s fun p => { p with shipStep := 1 }) fun b => { b with cbEn := false, cbTest := true, testing := false }))

end Sys2Proof.Machine
end

