-- ==== Sys2Proof/Machine/NoticeOps.lean ====
section
/-! DEFINITION. Delivering, acknowledging and announcing notices (R84–R86, R340–R343, Tables 13-6 and 13-8 to 13-10). -/

namespace Sys2Proof.Machine

open Sys2Proof

/-- The notice record of Table 13-6; `full` false leaves PAYLOAD 0 (R448). -/
def noticeBytes (n : Notice) (phase full : Bool) : List Byte :=
  leBytes 4 n.seq.toNat ++ leBytes 2 n.code.toNat ++ [BitVec.ofNat 8 (n.cls + 4 * bit n.late + 8 * bit n.merged)]
    ++ [BitVec.ofNat 8 (bit phase)] ++ leBytes 4 n.powerCycle.toNat ++ leBytes 6 n.opTime ++ leBytes 2 n.repeats
    ++ padTo (if full then n.payload.flatMap fun w => leBytes 4 w.toNat else []) 44

/-- An MSI-X vector of a link's function is signalled, or its pending bit set while it is masked (R86, Table 03-12). -/
def signal (s : State) (l : Link) (v : Nat) : State :=
  if s.host.link[l].msixMask.getLsbD v then
    { s with host := { s.host with link := vecMod s.host.link l fun k => { k with msixPend := k.msixPend ||| (1#8 <<< v) } } }
  else emit s (.msix l v)

/-- Changes a function's registers. -/
def setFn (s : State) (l : Link) (f : FnRegs → FnRegs) : State :=
  { s with host := { s.host with fn := vecMod s.host.fn l f } }

/-- The event log of a class: Failure, Warning, Informational, as 2, 1, 0 (R84). -/
def logOf (cls : Nat) : Nat := if cls = 0 then 2 else if cls = 1 then 1 else 0

/-- The standard record that goes with a notice (R84): 1 General Media Event for poison created, 2 DRAM Event for a channel or
device lost, 3 Memory Module Event for health and energy-store changes: which codes these are, R84 does not list
(in part DESIGN CHOICE, notes/assumptions/102). -/
def standardKind (code : Nat) : Option Nat :=
  if code = 0x0203 then some 1
  else if code = 0x0301 ∨ code = 0x0302 then some 2
  else if code ∈ [0x0101, 0x0102, 0x0105, 0x0106, 0x0601, 0x0602, 0x0603, 0x0604] then some 3
  else none

/-- One event record into a log of a link's function. -/
def writeRecord (s : State) (l : Link) (log kind : Nat) (seq : Word) : State :=
  let s := { s with host := { s.host with link := vecMod s.host.link l fun k => { k with logs := k.logs ++ [(log, seq)] } } }
  emit s (.eventRecord l log kind seq)

/-- A notice goes into the event logs of a link's function, unless it is there already; a COVERAGE_LOST also into the Fatal log
(R84). -/
def intoLogs (s : State) (l : Link) (n : Notice) : State :=
  let log := logOf n.cls
  if s.host.link[l].logs.contains (log, n.seq) then s
  else
    let s := writeRecord s l log 0 n.seq
    let s := match standardKind n.code.toNat with
      | some k => writeRecord s l log k n.seq
      | none => s
    let s := signal s l (1 + log)
    if n.code = 0x0101 then signal (writeRecord s l 3 0 n.seq) l 4 else s

/-- The ring of a link's function is used (R85). -/
def ringUsed (s : State) (l : Link) : Bool := decide (s.host.fn[l].ringSize ≠ 0) && s.host.link[l].busMaster

/-- The ring is full: TAIL + 1 equals HEAD modulo SIZE (R343). -/
def ringFull (r : FnRegs) : Bool := decide ((r.ringTail + 1) % r.ringSize = r.ringHead % r.ringSize)

/-- Advances TAIL; the phase is inverted at a wrap. -/
def advanceTail (r : FnRegs) : FnRegs :=
  { r with ringTail := (r.ringTail + 1) % r.ringSize,
           ringPhase := if r.ringTail + 1 = r.ringSize then !r.ringPhase else r.ringPhase }

/-- Changes the notice of a number. -/
def setNotice (s : State) (seq : Word) (f : Notice → Notice) : State :=
  { s with notices := { s.notices with pend := s.notices.pend.map fun n => if n.seq = seq then f n else n } }

/-- A notice goes into the ring of a link's function as one 64-byte write, then the MSI-X message (R85, R343); once in a pass of the
ring. -/
def intoRing (s : State) (l : Link) (n : Notice) : State :=
  if !ringUsed s l || n.inRings.contains l then s
  else
    let r := s.host.fn[l]
    if ringFull r then setFn s l fun r => { r with ringOverflow := satAdd 16 r.ringOverflow 1 }
    else
      let s := emit s (.hostWrite l (r.ringBase.toNat + 64 * r.ringTail) (noticeBytes n r.ringPhase true))
      signal (setNotice (setFn s l advanceTail) n.seq fun m => { m with inRings := m.inRings ++ [l] }) l 5

/-- A delivery on a carrier (R342): the periods count from the first one. -/
def noteDelivery (c : Carrier) (s : State) (n : Notice) : Notice :=
  { n with deliveredOn := if n.deliveredOn.contains c then n.deliveredOn else n.deliveredOn ++ [c],
           firstAt := some (n.firstAt.getD s.clock.opTime), announcedAt := if n.firstAt.isNone then s.clock.opTime else n.announcedAt }

/-- Notices in the order of R341: by class, oldest first within a class. -/
def inOrder (ns : List Notice) : List Notice :=
  (List.range 4).flatMap fun c => ns.filter fun n => n.cls == c

/-- The links present and can carry notices: CXL.io offered, not a revision 1.1 partner for the mailbox and event logs (R62), and no
save in progress (R85). -/
def linkCarries (s : State) (l : Link) : Bool :=
  s.host.link[l].offersIo && s.host.link[l].partner != .r11 && coreUp s && !saving s

/-- Writes a notice on a link: event logs, then ring; a class 0 or 1 notice that met a full ring is tried again later (R343). -/
def deliverLink (s : State) (l : Link) (n : Notice) : State :=
  let whole := !ringUsed s l || n.inRings.contains l || !ringFull s.host.fn[l]
  let done := whole || decide (n.cls ≥ 2)
  let s := intoRing (intoLogs s l n) l n
  setNotice s n.seq fun m =>
    { noteDelivery (.mailbox l) s m with onLinks := if done && !m.onLinks.contains l then m.onLinks ++ [l] else m.onLinks }

/-- A notice of class 2 or 3 has been delivered on one carrier (R342). -/
def retires (n : Notice) : Bool := decide (n.cls ≥ 2) && delivered n

/-- A notice is written to the event logs and the ring of every link that does not have it yet (R84, R85). -/
def writeEverywhere (s : State) (n : Notice) : State :=
  (fins 8).foldl (fun s l => if linkCarries s l && !n.onLinks.contains l then deliverLink s l n else s) s

/-- A notice of class 2 or 3 that has been delivered retires (R342), once every link has its records (R84, R85)
(in part DEDUCED, notes/assumptions/49). -/
def retireDelivered (s : State) : State :=
  let s := (s.notices.pend.filter retires).foldl writeEverywhere s
  { s with notices := { s.notices with pend := s.notices.pend.filter fun n => !retires n } }

/-- The next notice for a carrier that has not had it (R341). -/
def nextFor (s : State) (p : Notice → Bool) : Option Notice := (inOrder s.notices.pend).find? p

/-- Delivers the next pending notice on a carrier (R341, R342). The SMBus is served by its master interface. -/
def deliverNext (s : State) (c : Carrier) : State :=
  match c with
  | .mailbox l =>
    if !linkCarries s l then s
    else match nextFor s fun n => !n.onLinks.contains l with
      | some n => retireDelivered (deliverLink s l n)
      | none => s
  | .vdm l =>
    if !linkCarries s l || s.qmp.notifyVdm[l].isNone then s
    else match nextFor s fun n => !n.deliveredOn.contains (.vdm l) with
      | some n => retireDelivered (setNotice (emit s (.qmpNotice (.vdm l) n.seq (noticeBytes n false true))) n.seq (noteDelivery (.vdm l) s))
      | none => s
  | .smbus => s

/-- Class 0 and 1 notices still pending go into a function's event logs again once its link offers CXL.io (R65)
(in part DEDUCED, notes/assumptions/100). -/
def rewriteLogs (s : State) (l : Link) : State :=
  if !linkCarries s l then s
  else (inOrder (s.notices.pend.filter fun n => decide (n.cls ≤ 1) && delivered n)).foldl (fun s n =>
    setNotice (intoLogs s l n) n.seq (noteDelivery (.mailbox l) s)) s

/-- The number lies in a range that may wrap. -/
def inRange (first last seq : Word) : Bool := decide ((seq - first).toNat ≤ (last - first).toNat)

/-- NOTICE_ACK covers the notice, by its number or one merged into it (R340, R342). -/
def ackCovers (first last : Word) (n : Notice) : Bool := inRange first last n.seq || n.aliases.any (inRange first last)

/-- Re-announcement interval and acknowledgement period of classes 0 and 1, in ms (R342). -/
def announceMs (cls : Nat) : Nat := if cls = 0 then 10000 else 60000

/-- Acknowledgement period. -/
def ackMs (cls : Nat) : Nat := if cls = 0 then 3600000 else 86400000

end Sys2Proof.Machine
end

