-- ==== Sys2Proof/Machine/SmbOps.lean ====
section
/-! DEFINITION. The SMBus master interface: sending, sending again and completing a message (R441–R444, R447, R448), and the
millisecond of time that an idle step takes. A message that is being sent is on its way until the next message, or the next
millisecond, unless an error of the bus meets it first. -/

namespace Sys2Proof.Machine

open Sys2Proof

/-- Changes the SMBus block. -/
def setSmb (s : State) (f : Smb → Smb) : State := { s with smb := f s.smb }

/-- A notice whose transfer on the SMBus failed for good is sent there again once a further notice has been raised, or it has been
announced again (R442). -/
def smbMaySend (s : State) (n : Notice) : Bool := !n.deliveredOn.contains .smbus && n.smbHeld != some s.notices.nextSeq

/-- A notice is pending that has not been delivered over SMBus (R341, R447). -/
def owesSmbus (s : State) : Bool := s.notices.pend.any fun n => !n.deliveredOn.contains .smbus

/-- AON holds the whole record: the notice was raised in STANDBY, or the core with its DRAM or SRAM copy is up (R340, R448). -/
def holdsWhole (s : State) (n : Notice) : Bool := n.aonFull || !inStandby s

/-- What leaves the port for a message. -/
def smbOutput (s : State) : SmbMsg → Output
  | .response _ op se q st rp body => .qmp .smbus op se q st rp body
  | .notice _ seq => match s.notices.pend.find? fun n => n.seq == seq with
    | some n => .qmpNotice .smbus seq (noticeBytes n false (holdsWhole s n))
    | none => .qmpNotice .smbus seq []

/-- Sends the message that the master interface holds, once more. -/
def sendCurrent (s : State) : State :=
  match s.smb.current with
  | some (m, n, t) =>
    if s.smb.stuck then s
    else emit (setSmb s fun b => { b with state := .sending, current := some (m, n + 1, t) }) (smbOutput s m)
  | none => s

/-- Puts a message into the master interface and sends it (in part DESIGN CHOICE, notes/assumptions/36). -/
def sendMessage (s : State) (m : SmbMsg) : State :=
  sendCurrent (setSmb s fun b => { b with current := some (m, 0, b.nextTag), nextTag := (b.nextTag + 1) % 8 })

/-- The message has left whole: a notice sent with its whole record counts as delivered (R342, R448). -/
def messageSent (s : State) (m : SmbMsg) : State :=
  match m with
  | .response .. => s
  | .notice _ seq =>
    let s := match s.notices.pend.find? fun n => n.seq == seq with
      | some n => if holdsWhole s n then retireDelivered (setNotice s seq (noteDelivery .smbus s)) else s
      | none => s
    setSmb s fun b => { b with alert := b.alert && owesSmbus s }

/-- The next waiting response is sent, ahead of notices (R441) (in part DESIGN CHOICE, notes/assumptions/36). -/
def sendQueued (s : State) : State :=
  match s.smb.current, s.smb.queue with
  | none, m :: t => if s.smb.stuck then s else sendMessage (setSmb s fun b => { b with queue := t }) m
  | _, _ => s

/-- The message being sent has ended (in part DESIGN CHOICE, notes/assumptions/2; DESIGN CHOICE, notes/assumptions/36). -/
def completeSmb (s : State) : State :=
  match s.smb.state, s.smb.current with
  | .sending, some (m, _, _) => sendQueued (messageSent (setSmb s fun b => { b with state := .idle, current := none }) m)
  | _, _ => s

/-- A response to a request that came over SMBus: sent now, or behind a message that waits to be sent again (R441). -/
def respondSmb (s : State) (m : SmbMsg) : State :=
  let s := completeSmb s
  sendQueued (setSmb s fun b => { b with queue := b.queue ++ [m] })

/-- NOTICE_DELIVER on the SMBus (R341, R441): to the registered notify address, one notice at a time, none in SAVE (R448). -/
def sendNextNotice (s : State) : State :=
  let s := completeSmb s
  match s.smb.notify, s.smb.current, nextFor s (smbMaySend s) with
  | some a, none, some n => if saving s || !s.power.aon then s else sendMessage s (.notice a n.seq)
  | _, _, _ => s

/-- A transfer fails (R442): it is sent again 1 ms after `failedAt`, up to 3 times; then a response is discarded, a notice stays
pending, held back from the SMBus until a further one is raised, and SB_ALERT_N is driven low again (R447). -/
def failTransfer (s : State) : State :=
  match s.smb.state, s.smb.current with
  | .sending, some (m, n, _) =>
    if n < 4 then setSmb s fun b => { b with state := .idle, failedAt := s.clock.now }
    else
      let notice := match m with
        | .notice _ _ => true
        | .response .. => false
      let s := match m with
        | .notice _ seq => setNotice s seq fun k => { k with smbHeld := some s.notices.nextSeq }
        | .response .. => s
      sendQueued (setSmb s fun b =>
        { b with state := .idle, current := none, nacked := satAdd 8 b.nacked 1, alert := b.alert || notice })
  | _, _ => s

/-- Arbitration is lost: the message waits for bus free (R443, R444). -/
def loseBus (s : State) : State :=
  if s.smb.state = .sending then setSmb s fun b => { b with state := .waitFree } else s

/-- One millisecond passes: what `step` does on an empty queue; repair list entries that a brown-out held back are programmed (R385,
R388) (in part DESIGN CHOICE, notes/assumptions/2; DESIGN CHOICE, notes/assumptions/36). -/
def tick (s : State) : State := programHeld (passTime (completeSmb s))

end Sys2Proof.Machine
end

