-- ==== Sys2Proof/Machine/FwOps.lean ====
section
/-! DEFINITION. Firmware update: the package header, refusal reasons, staging into a half, the firmware and boot selectors,
activation and its end, the status list, and relaying down the chain (R338, R391, R397–R415, Tables 17-1 to 17-5). -/

namespace Sys2Proof.Machine

open Sys2Proof

/-- Changes the firmware block. -/
def setFw (s : State) (f : Firmware → Firmware) : State := { s with fw := f s.fw }

/-! ## Package header (Table 17-1) -/

/-- The header in the first 512 bytes of a package. -/
def parseHeader (b : List Byte) : FwHeader :=
  { packageId := BitVec.ofNat 32 (field b 8 4), part := BitVec.ofNat 16 (field b 6 2), version := BitVec.ofNat 32 (field b 12 4),
    svn := field b 16 4, handover := field b 20 2, handoverMin := field b 22 2, total := field b 24 4, fwLen := field b 28 4,
    bootLen := field b 32 4,
    wellFormed := decide (field b 0 4 = 0x51564650 ∧ field b 4 2 = 2 ∧ field b 6 2 = 0x6417 ∧ field b 36 4 = 0)
      && (slice b 88 328).all (fun x => x == 0) && decide (512 ≤ b.length) }

/-- The header's own conditions of R397: MAGIC, FORMAT, PART, reserved bytes and lengths. -/
def headerValid (h : FwHeader) : Bool :=
  h.wellFormed && decide (h.total = 512 + h.fwLen + h.bootLen ∧ h.total ≤ 15 * 2 ^ 20 ∧ h.fwLen ≠ 0)
    && (h.bootLen == 0 || h.bootLen == 262144)

/-! ## Halves and selectors -/

/-- Sector 0 of a half (Table 16-1): false A, true B. -/
def halfSector (b : Bool) : Nat := if b then 4096 else 256

/-- The half that a download is staged in (R400, R415). -/
def stagingHalf (s : State) : Bool :=
  match fwRecord s with
  | some r => !r.2
  | none => if inCrocus s then false else !s.fw.running

/-- The verified header of a half (in part DESIGN CHOICE, notes/assumptions/92). -/
def setImage (s : State) (b : Bool) (h : Option FwHeader) : State :=
  setFw s fun f => if b then { f with imageB := h } else { f with imageA := h }

/-- The firmware selector takes a record that names a half (R390, R391, R414); a sector without a blank slot is erased first. -/
def selectHalf (s : State) (b : Bool) : State :=
  let s := if (firstBlankSlot s (sectorBase secFwSel) 256).isSome then s else cfEraseSector s secFwSel
  setFw (writeSwap s magicFw (sectorBase secFwSel) 256 (lowBit b)) fun f => { f with half := b }

/-- Once no package is staged whole, a full firmware selector sector is renewed: the half not in use, then the sector, then a record
that names the selected half (R391). -/
def renewSelector (s : State) : State :=
  if (firstBlankSlot s (sectorBase secFwSel) 256).isSome || s.fw.staging.any (·.whole) then s
  else
    let o := halfSector (!s.fw.half)
    selectHalf (cfEraseSector (setImage (cfEraseRange s o (o + 3840)) (!s.fw.half) none) secFwSel) s.fw.half

/-- The boot selector takes a record that names a block; a full sector is renewed after the block not selected is erased (R391). -/
def selectBoot (s : State) (b : Bool) : State :=
  let s := writeSwap s magicBoot (sectorBase secBootSel) 256 (lowBit b)
  if (firstBlankSlot s (sectorBase secBootSel) 256).isSome then s
  else
    let o := if b then 0 else 64
    let s := cfEraseSector (cfEraseRange s o (o + 64)) secBootSel
    let s := setFw s fun f => if b then { f with boot0 := false } else { f with boot1 := false }
    writeSwap s magicBoot (sectorBase secBootSel) 256 (lowBit b)

/-! ## Status entry and reasons (Tables 17-2 and 17-4) -/

/-- STATE codes. -/
def entryCode : EntryRun → Nat
  | .none => 0 | .staging => 1 | .staged => 2 | .refused => 3 | .sigBad => 4 | .notStaged => 5 | .probation => 6
  | .committed => 7 | .reverted => 8 | .pendingRestart => 9 | .unreachable => 10

/-- The module's own entry. -/
def ownEntry (s : State) : StatusEntry :=
  { position := positionInForce s, run := s.fw.entry, reasons := if s.fw.entry = .refused then s.fw.reasons else 0 }

/-- Bytes of an entry. -/
def entryBytes (e : StatusEntry) : List Byte :=
  leBytes 1 e.position ++ leBytes 1 (entryCode e.run) ++ leBytes 2 e.reasons

/-- The status list of a response: ENTRIES, the own entry, then those held (R409), at most 256 bytes. -/
def statusList (s : State) : List Byte :=
  let es := (ownEntry s :: s.fw.entries).take 64
  leBytes 2 es.length ++ es.flatMap entryBytes

/-- Reasons that the state gives (Table 17-2, bits 0–5). -/
def stateReasons (s : State) : Nat :=
  let small := s.power.minimal || inCrocus s
  let r := s.thermal.reef
  let m := s.shroud.mode
  bit (saving s) + 2 * bit (s.power.state == .restore) + 4 * bit (!small && !fwSocOk s) + 8 * bit (!inCrocus s && ownerLock s)
    + 16 * bit (decide (max r.die (max r.dram r.nand) ≥ 4))
    + 32 * bit (!small && (m == .reconstruct || m == .rebuild || m == .relocate || m == .relocated))

/-- The SVN that a package must reach (R397, R415). -/
def svnNeeded (s : State) : Nat := if inCrocus s then svnFloor s else (s.fw.active.map (·.svn)).getD 0

/-- Reasons that a package's header gives (bits 6, 7 and 9). -/
def headerReasons (s : State) (h : Option FwHeader) : Nat :=
  match h with
  | none => 0
  | some h =>
    64 * bit (decide (h.svn < svnNeeded s)) + 128 * bit (h.part != 0x6417) + 512 * bit (inCrocus s && s.fw.needBoot && h.bootLen == 0)

/-- Both halves are in use: a probation, an activation under way or one that waits for a restart. -/
def bothHalvesUsed (s : State) : Bool :=
  s.fw.phase == .loading || s.fw.phase == .switching || s.fw.phase == .probation || s.fw.phase == .pendingRestart

/-- A refusal on this module (R399): entry, REASONS. -/
def refuseFw (s : State) (reasons : Nat) : State := setFw s fun f => { f with entry := .refused, reasons := reasons }

/-- In CROCUS a set owner lock is ignored and logged (Table 17-2). -/
def logIgnoredLock (s : State) : State :=
  if inCrocus s && ownerLock s then logEvent s (Config.unnamedEvent 1) 1 [] else s

/-! ## Notices and signals -/

/-- MSI-X vector 6 on every link whose function is up and has event interrupts (R62, R401, R409, R413). -/
def signalAll (s : State) (v : Nat) : State :=
  ((fins 8).filter fun l => s.host.link[l].offersIo && s.host.link[l].partner != .r11).foldl (fun s l => signal s l v) s

/-- Entries of a state, own one included. -/
def countEntries (s : State) (r : EntryRun) : Nat := ((ownEntry s :: s.fw.entries).filter fun e => e.run == r).length

/-! ## Relay down the chain (R402–R405) -/

/-- This module is in a chain: a HALYARD section in force, or pass-through (R407). -/
def inChain (s : State) : Bool :=
  s.power.minimal || inCrocus s || match s.startup.settings with
    | some c => c.hasHalyard && c.position != 0
    | none => false

/-- CHUNK frames of a chunk: one, or at version 1 one per 1,024 bytes of data (R403). -/
def chunkFrames (version : Nat) (k : HyChunk) : List (List Byte) :=
  let head := leBytes 4 k.package.toNat ++ leBytes 4 k.offset ++ leBytes 4 k.total ++ leBytes 4 k.crc.toNat
  if version = 1 then (List.range 4).filterMap fun i =>
      if 1024 * i < k.data.length then some (head ++ slice k.data (1024 * i) 1024) else none
  else [head ++ k.data]

/-- A chunk of the package staged on this module, read back from code flash (in part DESIGN CHOICE, notes/assumptions/92). -/
def stagedChunk (s : State) (g : Staging) (off : Nat) : Option HyChunk :=
  if off < g.missing ∧ off % 4096 = 0 then
    let base := sectorBase (halfSector (stagingHalf s) + off / 4096)
    let bs := (List.range 512).flatMap fun i => leBytes 8 ((cfGood s (base + i)).getD 0).toNat
    let data := bs.take (min 4096 (g.total - off))
    some { package := g.packageId, offset := off, total := g.total, crc := crc32 data, data := data }
  else none

/-- The chunk at an offset of the relay stream. -/
def relayChunk (s : State) (pkg : Word) (off : Nat) : Option HyChunk :=
  match s.fw.relayQ.find? fun k => k.package == pkg && k.offset == off with
  | some k => some k
  | none => match s.fw.staging with
    | some g => if g.packageId = pkg then stagedChunk s g off else none
    | none => none

/-- Sends what the downstream neighbour has credits for, in order; the last chunk only once the package has passed R397 here (R404). -/
def sendRelay : Nat → State → State
  | 0, s => s
  | n + 1, s =>
    match s.fw.relayed with
    | none => s
    | some (pkg, off) =>
      match relayChunk s pkg off with
      | none => s
      | some k =>
        let last := decide (off + 4096 ≥ k.total)
        if s.fw.dn.version = 0 || s.fw.dn.credits = 0 || saving s || (last && s.fw.verified != some pkg) then s
        else
          let s := (chunkFrames s.fw.dn.version k).foldl (fun s b => emit s (.halyard false 2 b)) s
          sendRelay n (setFw s fun f =>
            { f with relayed := some (pkg, off + k.data.length), dn := { f.dn with credits := f.dn.credits - 1 },
                     lastRelayAt := some s.clock.now, reportDone := false })

/-- A chunk enters the relay stream (R404). -/
def relayIn (s : State) (k : HyChunk) : State :=
  if !inChain s then s
  else
    let start := match s.fw.relayed with
      | some (p, _) => p != k.package
      | none => true
    let s := setFw s fun f =>
      { f with relayQ := (if start then [] else f.relayQ.filter fun x => x.offset != k.offset) ++ [k],
               relayed := if start then some (k.package, k.offset) else f.relayed,
               verified := if start then none else f.verified }
    sendRelay 9 s

/-- A STATUS frame goes upstream: the own entry after those relayed (R408). -/
def sendStatus (s : State) : State :=
  if s.fw.up.version = 0 then s
  else emit s (.halyard true 5 (((s.fw.entries ++ [ownEntry s]).take 64).flatMap entryBytes))

/-- The module's entry changes state (R408). -/
def setOwn (s : State) (r : EntryRun) : State :=
  if s.fw.entry = r then s else sendStatus (setFw s fun f => { f with entry := r })

/-- A CREDIT frame goes upstream: RESUME_AT and the credits granted; those of a save are granted with the first one after it (R404,
R405). -/
def sendCredit (s : State) (credits : Nat) : State :=
  if s.fw.up.version = 0 then s
  else
    let n := s.fw.up.withheld + credits
    let s := setFw s fun f => { f with up := { f.up with withheld := if saving s then n else 0 } }
    emit s (.halyard true 3 (leBytes 4 s.fw.resumeAt ++ leBytes 1 (if saving s then 0 else n)))

/-- ACTIVATE goes downstream (R409). -/
def sendActivate (s : State) (pkg : Word) : State :=
  if s.fw.dn.version = 0 then s else emit s (.halyard false 4 (leBytes 4 pkg.toNat))

/-! ## The chain report (R401, R408) -/

/-- Positions from the own one to CHAIN_LEN that no entry is held for. -/
def missingPositions (s : State) : List Nat :=
  match s.startup.settings with
  | some c =>
    ((List.range (c.chainLen + 1)).filter fun p => decide (positionInForce s < p)).filter fun p => !(s.fw.entries.any fun e => e.position == p)
  | none => []

/-- The report is complete: FW_STAGED for a package staged whole, FW_CHAIN_DONE after a chain activation. -/
def finishReport (s : State) : State :=
  if s.fw.reportDone then s
  else
    let s := setFw s fun f => { f with reportDone := true }
    match s.fw.staging with
    | some g =>
      if g.whole ∧ s.fw.phase = .staged then
        raise s 0x0C06 [g.packageId.toNat, (g.header.elim 0 (·.version)).toNat, countEntries s .staged, countEntries s .refused, countEntries s .unreachable]
      else s
    | none => s

/-- After an entry arrives, or one of its own changes: complete once every position has one. -/
def checkReport (s : State) : State := if (missingPositions s).isEmpty then finishReport s else s

/-- FW_CHAIN_DONE once every downstream position has answered an activation of the chain. -/
def checkChainDone (s : State) : State :=
  if s.fw.chain && !s.fw.chainDone && (missingPositions s).isEmpty
      && s.fw.entries.all (fun e => e.run == .probation || e.run == .refused || e.run == .unreachable || e.run == .committed
        || e.run == .pendingRestart || e.run == .notStaged || e.run == .sigBad || e.run == .reverted) then
    raise (setFw s fun f => { f with chainDone := true }) 0x0C07
      [(s.fw.staging.map (·.packageId.toNat)).getD ((s.fw.active.map (·.packageId.toNat)).getD 0), countEntries s .probation,
       countEntries s .refused, countEntries s .unreachable]
  else s

/-! ## Staging (R338, R400) -/

/-- The 64-bit words of a chunk; a short last word is filled with ones, as erased cells read
(in part DESIGN CHOICE, notes/assumptions/59). -/
def chunkWords (data : List Byte) : List DWord :=
  (List.range ((data.length + 7) / 8)).map fun i =>
    BitVec.ofNat 64 (fromLe ((slice data (8 * i) 8 ++ List.replicate 8 0xFF).take 8))

/-- Erases a sector and programs a chunk into it (R400). -/
def programChunk (s : State) (sec : Nat) (data : List Byte) : State :=
  let s := cfEraseSector s sec
  let ws := chunkWords data
  (List.range ws.length).foldl (fun t i => cfPut t (sectorBase sec + i) (ws.getD i 0)) s

/-- A chunk that has passed every check is staged. -/
def stageChunk (s : State) (k : HyChunk) (owner : Option Byte) : State :=
  let b := stagingHalf s
  let s := programChunk s (halfSector b + k.offset / 4096) k.data
  let g : Staging := match s.fw.staging with
    | some g =>
      if k.offset = 0 then { packageId := k.package, total := k.total, missing := k.data.length, owner := owner, lastAt := s.clock.now,
                             header := some (parseHeader k.data), whole := false }
      else { g with missing := k.offset + k.data.length, owner := owner, lastAt := s.clock.now }
    | none => { packageId := k.package, total := k.total, missing := k.data.length, owner := owner, lastAt := s.clock.now,
                header := some (parseHeader k.data), whole := false }
  let s := if k.offset = 0 then setImage s b none else s
  setOwn (setFw s fun f => { f with staging := some g, phase := .staging, reportDone := false, chainDone := false }) .staging

/-- First missing byte of the package being received. -/
def missingByte (s : State) : Nat := (s.fw.staging.map (·.missing)).getD 0

/-- The chunk starts a new package (R338) (in part DEDUCED, notes/assumptions/60). -/
def startsPackage (s : State) (k : HyChunk) : Bool :=
  k.offset == 0 && match s.fw.staging with
    | some g => g.packageId != k.package
    | none => true

/-- Reasons against a chunk (R399) (in part DEDUCED, notes/assumptions/60). -/
def chunkReasons (s : State) (k : HyChunk) : Nat :=
  let h := if k.offset = 0 then some (parseHeader k.data) else s.fw.staging.bind (·.header)
  stateReasons s + headerReasons s h + 1024 * bit (k.offset == 0 && bothHalvesUsed s)

/-- The answer to a FW_CHUNK and the state after it (R338, R400), in the order of R338 (in part DEDUCED, notes/assumptions/60). -/
def fwChunkAnswer (s : State) (k : HyChunk) (session : Byte) : QmpStatus × List Byte × State :=
  let at_ := leBytes 4 (missingByte s)
  let owned := match s.fw.staging with
    | some g => !g.whole && g.owner.any (fun o => o != session) && !due s g.lastAt 60000
    | none => false
  let new := startsPackage s k
  let expected := if new then 0 else missingByte s
  let sameTotal := new || s.fw.staging.all fun g => g.total == k.total
  let samePackage := new || s.fw.staging.all fun g => g.packageId == k.package
  if k.offset % 4096 ≠ 0 ∨ k.data.length ≠ min 4096 (k.total - k.offset) then (.lenBad, [], s)
  else if k.total > 15 * 2 ^ 20 then (.range, [], s)
  else if owned then (.stagingOwned, [], s)
  else if k.offset ≠ expected ∨ !samePackage then (.resumeAt, at_, s)
  else if crc32 k.data ≠ k.crc then (.crcBad, [], s)
  else if !sameTotal || (k.offset == 0 && (parseHeader k.data).packageId != k.package) then (.range, [], s)
  else
    let s := relayIn s k
    let why := chunkReasons s k
    if why ≠ 0 then
      let t := sendStatus (refuseFw s why)
      (.refused, at_ ++ entryBytes (ownEntry t), t)
    else
      let t := stageChunk (logIgnoredLock s) k (some session)
      (.ok, leBytes 4 (missingByte t), t)

/-! ## Activation (R409–R413) -/

/-- Bytes of a package are missing. -/
def stagedWhole (s : State) (pkg : Word) : Bool := s.fw.staging.any fun g => g.packageId == pkg && g.whole

/-- A package is in probation or committed already (R409). -/
def alreadyActive (s : State) (pkg : Word) : Bool :=
  (s.fw.phase == .probation && stagedWhole s pkg) || (s.fw.active.any fun h => h.packageId == pkg)

/-- The activation can be hitless (R410). -/
def hitless (s : State) (h : FwHeader) : Bool :=
  s.fw.active.any fun a => decide (h.handoverMin ≤ a.handover ∧ a.handover ≤ h.handover)

/-- Whether every entry reads PROBATION, COMMITTED or PENDING_RESTART (R409). -/
def listOk (s : State) : Bool :=
  (ownEntry s :: s.fw.entries).all fun e => e.run == .probation || e.run == .committed || e.run == .pendingRestart

/-- Status of the response. -/
def activateStatus (s : State) : QmpStatus := if listOk s then .ok else .refused

/-- A package that waits for the next start-up (R410). -/
def pendRestart (s : State) (h : FwHeader) : State :=
  let s := selectHalf s (stagingHalf s)
  let s := setOwn (setFw s fun f => { f with phase := .pendingRestart, bootDue := h.bootLen != 0 }) .pendingRestart
  signalAll (raise s 0x0C03 [h.version.toNat, 0]) 6

/-- Step 1 of Table 17-5 for a package staged whole: refused, pending restart, or loading begins. -/
def beginActivation (s : State) (h : FwHeader) (whole : Nat) : State :=
  let why := stateReasons s + headerReasons s (some h) + whole
  if why ≠ 0 then sendStatus (refuseFw s why)
  else if inCrocus s || !hitless s h then pendRestart (logIgnoredLock s) h
  else setFw s fun f => { f with phase := .loading, nextEngine := 0, reverting := false, waitRetrain := false }

/-- An activation is asked for (R399, R409): the state, and whether its answer waits for step 5. -/
def activatePackage (s : State) (pkg : Word) : State × Bool :=
  if alreadyActive s pkg then (s, false)
  else if bothHalvesUsed s then (s, false)
  else match s.fw.staging with
    | none => (setOwn s .notStaged, false)
    | some g =>
      if g.packageId ≠ pkg then (setOwn s .notStaged, false)
      else if !g.whole then (sendStatus (refuseFw s 256), false)
      else match g.header with
        | none => (setOwn s .notStaged, false)
        | some h =>
          if s.shroud.mode = .retrain then (setFw s fun f => { f with waitRetrain := true }, true)
          else
            let t := beginActivation s h 0
            (t, t.fw.phase == .loading)

/-- A fault of the new image (R413): the engines switch back, as in step 3. -/
def startRevert (s : State) (cause : Nat) : State :=
  setFw s fun f => { f with phase := .switching, reverting := true, nextEngine := 0, cause := cause }

/-- The reversion has ended: the old image runs, the package stays staged whole (R413); before probation, when the new image was not yet
the active one, the module has not activated and a request of the chain goes on downstream (R409)
(in part DEDUCED, notes/assumptions/62). -/
def finishRevert (s : State) : State :=
  let staged := s.fw.staging.bind (·.header)
  let new := ((if s.fw.old.isSome then s.fw.active else staged).map (·.version.toNat)).getD 0
  let old := ((s.fw.old.orElse fun _ => s.fw.active).map (·.version.toNat)).getD 0
  let early := if s.fw.chain && s.fw.old.isNone then s.fw.staging else none
  let s := { s with engines := { s.engines with eng := vecMap s.engines.eng fun _ e => { e with bankNew := false } } }
  let s := setOwn (setFw s fun f =>
    { f with phase := .staged, active := f.old.orElse fun _ => f.active, old := none, running := f.half, nextEngine := 0,
             reverting := false }) .reverted
  let s := signalAll (raise s 0x0C02 [s.fw.cause, old, new]) 6
  match early with
  | some g => sendActivate s g.packageId
  | none => s

end Sys2Proof.Machine
end

