-- ==== Sys2Proof/Machine/SecOps.lean ====
section
/-! DEFINITION. Protection level, its raising and lowering, and the debug challenge (R421–R433, Tables 18-4, 18-6 and 18-9). -/

namespace Sys2Proof.Machine

open Sys2Proof

/-- Changes the security block. -/
def setSec (s : State) (f : Security → Security) : State := { s with security := f s.security }

/-! ## Requests (R422, R423, Table 18-9) -/

/-- A request is refused for a reason of REFUSE. -/
def refuseLevel (s : State) (why : Nat) : State := setSec s fun x => { x with result := 2, refuse := why, armedAt := none }

/-- RUN, which includes IDLE and the minimal profile, or RESTORE (Table 18-1); start-up counts as RESTORE (R420). -/
def levelState (s : State) : Bool := s.power.state == .run || s.power.state == .restore

/-- The function belongs to a link named in ADMIN_LINKS (R69, R422). -/
def adminLink (s : State) (l : Link) : Bool := s.rt.adminLinks.getLsbD l

/-- QV_FW_STAT.PHASE allows a lowering (R423). -/
def fwPhaseOk (s : State) : Bool :=
  s.fw.phase == .idle || s.fw.phase == .staging || s.fw.phase == .staged || s.fw.phase == .pendingRestart

/-- Step 1 of Table 18-4: admission stops, the buffers drain, the links are held idle, and the AON settings become invalid; the debug
session ends with the acceptance (R432). -/
def loweringStep1 (s : State) (target : Level) : State :=
  let s := endSession s 7
  let s := idleLinks (drainBuffers { s with host := { s.host with stopped := true } })
  let s := setSec s fun x =>
    { x with lowering := true, target := target, result := 1, refuse := 0, armedAt := none, step := 1, dbg := .closed, forced := true,
             challenge := none }
  { s with host := { s.host with link := vecMap s.host.link fun _ k => { k with heldIdle := true, memActive := false } },
           dram := { s.dram with ch := vecMap s.dram.ch fun _ d => { d with stored := d.stored.map fun x => (false, x.2) } },
           restore := { s.restore with running := false } }

/-- Step 2: the LOWER record; step 3: the KILL word, and the key registers cleared. -/
def loweringSteps23 (s : State) : State :=
  let s := writeLevel s false s.security.target
  setSec (killKey s) fun x => { x with step := 3, key := none, mediaKey := [] }

/-- A write of QV_SEC_LEVEL with ARM 0x00 and REQ below the level (R423). -/
def requestLowering (s : State) (l : Link) (target : Level) : State :=
  if !adminLink s l then refuseLevel s 1
  else if !levelState s then refuseLevel s 2
  else if !s.security.armedAt.any (fun t => !due s t 101) then refuseLevel s 3
  else if s.security.level = .l2 ∧ s.security.dbg ≠ .authenticated then refuseLevel s 4
  else if !fwPhaseOk s then refuseLevel s 5
  else loweringStep1 s target

/-- A lowering whose step 1 has ended goes on with steps 2 and 3 (R424) (in part DESIGN CHOICE, notes/assumptions/2). -/
def lowerOn (s : State) : State := if s.security.lowering ∧ s.security.step = 1 then loweringSteps23 s else s

/-- A raising request (R422): a LEVEL record is programmed and read back. -/
def raiseLevel (s : State) (l : Link) (target : Level) : State :=
  if !adminLink s l then refuseLevel s 1
  else if !levelState s then refuseLevel s 2
  else
    let old := s.security.level
    let s := endSession (writeLevel s true target) 3
    let s := setSec s fun x => { x with level := target, result := 1, refuse := 0, armedAt := none, dbg := .closed, challenge := none }
    raise s 0x0D04 [levelCode old, levelCode target]

/-- ARM 0xA5 (R423): a lowering is armed for 100 ms. -/
def armLowering (s : State) (l : Link) : State :=
  if !adminLink s l then refuseLevel s 1
  else if !levelState s then refuseLevel s 2
  else setSec s fun x => { x with armedAt := some s.clock.now, result := 3, refuse := 0 }

/-- A write of QV_SEC_LEVEL (Table 18-9). In a lowering nothing is changed. -/
def writeSecLevel (s : State) (l : Link) (v : Word) : State :=
  let arm := bitsOf v.toNat 8 8
  let req := bitsOf v.toNat 0 2
  if s.security.lowering then s
  else if arm = 0xA5 then armLowering s l
  else if arm ≠ 0 then s
  else if req = 3 ∨ req = levelCode s.security.level then refuseLevel s 6
  else if req > levelCode s.security.level then raiseLevel s l (levelOfCode req)
  else requestLowering s l (levelOfCode req)

/-! ## Debug challenge and response (R431, Table 18-6) -/

/-- The challenge of Table 18-6 from its nonce. -/
def challengeBytes (s : State) (nonce : List Byte) : List Byte :=
  (List.range 16).map Config.dieId ++ padTo nonce 16 ++ leBytes 4 s.clock.pcycle.toNat ++ leBytes 6 s.clock.opTime
    ++ leBytes 1 (levelCode s.security.level) ++ List.replicate 5 0

/-- STEP 0x01 is answered AUTH_FAIL for 10 min after 4 failures (in part DEDUCED, notes/assumptions/63). -/
def challengeBlocked (s : State) : Bool := s.security.blockedAt.any fun t => !due s t 600000

/-- STEP 0x01 (in part DEDUCED, notes/assumptions/63). -/
def giveChallenge (s : State) : QmpStatus × List Byte × State :=
  if s.security.level = .l0 then (.wrongState, [], s)
  else if challengeBlocked s then (.authFail, [], s)
  else
    let s := endSession s 4
    let r := drawRandom s 16
    let bs := challengeBytes s r.1
    (.ok, bs, setSec r.2 fun x => { x with challenge := some (bs, s.clock.now), blockedAt := none })

/-- Carrier of a DEBUG_AUTH_FAIL notice: 0 mailbox, 1 PCIe VDM, 2 SMBus (in part DESIGN CHOICE, notes/assumptions/15). -/
def carrierCode : Carrier → Nat
  | .mailbox _ => 0
  | .vdm _ => 1
  | .smbus => 2

/-- STEP 0x02; the outcome of the signature check comes with the command (in part DEDUCED, notes/assumptions/63). -/
def takeResponse (s : State) (c : Carrier) (verifies : Bool) : QmpStatus × List Byte × State :=
  if s.security.level = .l0 then (.wrongState, [], s)
  else match s.security.challenge with
    | none => (.wrongState, [], s)
    | some (_, t) =>
      if due s t 60000 then (.wrongState, [], setSec s fun x => { x with challenge := none })
      else if verifies then
        let s := setSec s fun x =>
          { x with challenge := none, dbg := .authenticated, fails := 0, sessions := satAdd 15 x.sessions 1, openedAt := s.clock.now }
        (.ok, [], raise s 0x0D05 [1, s.security.endCause, s.security.sessions])
      else
        let s := setSec s fun x => { x with challenge := none, fails := min 4 (x.fails + 1) }
        let s := if s.security.fails ≥ 4 then
            raise (setSec s fun x => { x with blockedAt := some s.clock.now }) 0x0D03 [s.security.fails, carrierCode c]
          else s
        (.authFail, [], s)

end Sys2Proof.Machine
end

