-- ==== Sys2Proof/Machine/QmpOps.lean ====
section
/-! DEFINITION. The management protocol: carriers, sessions and exactly-once results, the commands of Table 13-4, the AON
responder, and requests that wait (R325–R342). -/

namespace Sys2Proof.Machine

open Sys2Proof

/-- Changes the protocol block. -/
def setQmp (s : State) (f : Qmp → Qmp) : State := { s with qmp := f s.qmp }

/-! ## Opcodes and lengths (Table 13-4) -/

/-- OPCODE of a body. -/
def opcodeOf : QmpBody → BitVec 16
  | .negotiate _ _ _ _ | .negotiateClose => 0xC001
  | .esbGet => 0xC010
  | .esbRestore _ => 0xC011
  | .grantRest => 0xC012
  | .persistStatus => 0xC020
  | .saveAndOff => 0xC021
  | .logRead _ _ => 0xC030
  | .lastwordsRead _ _ => 0xC031
  | .fwChunk _ _ _ _ _ _ => 0xC040
  | .fwActivate _ _ => 0xC041
  | .fwLockSet | .fwLockClear => 0xC042
  | .selftest _ _ => 0xC050
  | .debugChallenge | .debugResponse _ _ => 0xC060
  | .shipMode => 0xC070
  | .clearRailLatch => 0xC080
  | .clearTrip => 0xC081
  | .noticeAck _ _ => 0xC090
  | .outOfRange op => op

/-- The command is sequenced under R331. -/
def hasEffect : QmpBody → Bool
  | .negotiate _ _ _ _ | .negotiateClose | .esbGet | .persistStatus | .logRead _ _ | .lastwordsRead _ _ => false
  | _ => true

/-- NEGOTIATE, which is not sequenced (R330). -/
def isNegotiate : QmpBody → Bool
  | .negotiate _ _ _ _ | .negotiateClose => true
  | _ => false

/-- Version 1 has the opcode (chapter 13, "Version negotiation"). -/
def inVersion1 (op : BitVec 16) : Bool :=
  [0xC001#16, 0xC020#16, 0xC021#16, 0xC030#16, 0xC040#16, 0xC041#16, 0xC050#16, 0xC090#16].contains op

/-- The length that a command's body has. -/
def bodyLength : QmpBody → Nat
  | .negotiate _ _ _ _ | .negotiateClose => 12
  | .esbRestore b => b.length
  | .logRead _ _ | .noticeAck _ _ => 8
  | .lastwordsRead _ _ => 2
  | .fwChunk _ _ _ _ _ d => 20 + d.length
  | .fwActivate _ _ => 5
  | .fwLockSet | .fwLockClear | .debugChallenge => 1
  | .selftest _ _ => 4
  | .debugResponse _ _ => 98
  | .outOfRange _ => 1
  | _ => 0

/-- A chunk without data (R337). -/
def noData : QmpBody → Bool
  | .fwChunk _ _ _ _ _ d => d.isEmpty
  | _ => false

/-- The status of a wrong length (R337): LEN_ZERO where a body or data is needed and there is none. -/
def lengthStatus (hdr : QmpHdr) (b : QmpBody) : Option QmpStatus :=
  match b with
  | .esbRestore blk => if hdr.length.toNat = 0 then some .lenZero else if hdr.length.toNat ≠ blk.length then some .lenBad else none
  | _ =>
    if (hdr.length.toNat = 0 ∧ bodyLength b ≠ 0) ∨ noData b then some .lenZero
    else if hdr.length.toNat ≠ bodyLength b then some .lenBad
    else none

/-- A reserved byte or bit of the header or the body is not 0 (R328). -/
def reservedSet (hdr : QmpHdr) (b : Option QmpBody) : Bool :=
  hdr.flags != 0 || hdr.reserved != 0 || hdr.status != 0
    || match b with
      | some (.negotiate _ _ f _) => decide (f.toNat ≥ 8)
      | some (.fwChunk _ _ _ _ r _) => r != 0
      | some (.fwActivate _ f) => decide (f.toNat ≥ 2)
      | _ => false

/-! ## Carriers (Table 13-1, R325–R327) -/

/-- The carrier can bring a request; QMP is not carried on a link with a revision 1.1 partner (R62). -/
def carrierUp (s : State) : Carrier → Bool
  | .mailbox l => s.host.link[l].offersIo && s.host.link[l].partner != .r11 && coreUp s
  | .vdm l => s.host.link[l].offersIo && s.host.link[l].partner != .r11 && coreUp s
  | .smbus => s.power.aon && s.power.state != .off && s.power.state != .ship && !s.smb.stuck

/-- The response to a request (Table 13-2). -/
def respond (s : State) (hdr : QmpHdr) (op : BitVec 16) (st : QmpStatus) (replay : Bool) (body : List Byte) : State :=
  match hdr.carrier with
  | .smbus => respondSmb s (.response hdr.source op hdr.session hdr.seq st replay body)
  | c => emit s (.qmp c op hdr.session hdr.seq st replay body)

/-- A mailbox-level fault (R325): Invalid Input and Invalid Payload Length, by their CXL return codes
(in part PRESUMED, notes/assumptions/64). -/
def mailboxFault (hdr : QmpHdr) (op : BitVec 16) : Option Nat :=
  match hdr.carrier with
  | .mailbox _ => if hdr.mbxOpcode ≠ op then some 0x2 else if hdr.delivered ≠ hdr.length.toNat then some 0x16 else none
  | _ => none

/-- 16 requests are held on the carrier (R327). -/
def carrierFull (s : State) (c : Carrier) : Bool := decide ((s.qmp.held.filter fun h => h.hdr.carrier == c).length ≥ 16)

/-- A request waits (in part DEDUCED, notes/assumptions/31). -/
def hold (s : State) (hdr : QmpHdr) (b : QmpBody) : State := setQmp s fun q => { q with held := q.held ++ [⟨hdr, b⟩] }

/-! ## Sessions (R329–R333) -/

/-- The open session of a number. -/
def sessionOf (s : State) (id : Byte) : Option Session := s.qmp.sessions.find? fun x => x.id == id

/-- Changes a session. -/
def modSession (s : State) (id : Byte) (f : Session → Session) : State :=
  setQmp s fun q => { q with sessions := q.sessions.map fun x => if x.id = id then f x else x }

/-- Adds a session. -/
def addSession (s : State) (x : Session) : State := setQmp s fun q => { q with sessions := q.sessions ++ [x] }

/-- Takes a session away, and its results. -/
def dropSession (s : State) (id : Byte) : State := setQmp s fun q => { q with sessions := q.sessions.filter fun x => x.id != id }

/-- The last 64 of some results. -/
def last64 (rs : List CachedResult) : List CachedResult := rs.drop (rs.length - 64)

/-- NEXT of a saved session in the AON copy. -/
def aonNextOf (s : State) (id : Byte) : Option Word := (s.qmp.aonNext.find? fun p => p.1 == id).map (·.2)

/-- NEXT of every session is copied into AON (R333). -/
def copySessions (s : State) : State :=
  setQmp s fun q => { q with aonNext := (q.sessions.filter fun x => !x.isVolatile).map fun x => (x.id, x.next), aonClosed := [], aonCache := [] }

/-- The higher of two sequence numbers, modulo 2³². -/
def higherSeq (a b : Word) : Word := if (b - a).toNat < 2 ^ 31 then b else a

/-- The AON copy is merged into the session table at step 7 (R333). -/
def mergeAon (s : State) : State :=
  setQmp s fun q =>
    { q with
      sessions := (q.sessions.filter fun x => !q.aonClosed.contains x.id).map fun x =>
        match q.aonNext.find? fun p => p.1 == x.id with
        | some p => { x with next := higherSeq x.next p.2, results := last64 (x.results ++ q.aonCache.filter fun r => r.session == x.id) }
        | none => x,
      aonNext := [], aonCache := [], aonClosed := [] }

/-- The lowest session number that is not open (in part DEDUCED, notes/assumptions/69). -/
def freeSession (used : List Byte) : Option Byte :=
  ((List.range 256).map (BitVec.ofNat 8)).find? fun b => !used.contains b

/-- The session idle longest, of those idle for 24 h. -/
def idleLongest (s : State) : Option Session :=
  (s.qmp.sessions.filter fun x => decide (x.lastUse + dayMs ≤ s.clock.opTime)).foldl (fun best x =>
    match best with
    | none => some x
    | some b => if x.lastUse < b.lastUse then some x else some b) none

/-- Body of a NEGOTIATE response. -/
def negotiateBody (x : Session) (existing : Bool) : List Byte :=
  [x.version, x.id, BitVec.ofNat 8 (bit x.isVolatile + 2 * bit existing), 0] ++ leBytes 4 x.next.toNat ++ leBytes 2 4128
    ++ leBytes 2 x.chunkMs ++ leBytes 4 6

/-- NOTIFY registers the endpoint of the carrier (R341); version 1 pushes no notices on MCTP
(in part DEDUCED, notes/assumptions/69). -/
def register (s : State) (hdr : QmpHdr) (x : Session) (notify : Bool) : State :=
  if !notify || decide (x.version.toNat < 2) then s
  else match hdr.carrier with
    | .smbus => { s with smb := { s.smb with notify := some (hdr.source.setWidth 7) } }
    | .vdm l => setQmp s fun q => { q with notifyVdm := q.notifyVdm.set l (some hdr.source) }
    | .mailbox _ => s

/-- Sessions opened now are volatile (R332, R333) (in part DEDUCED, notes/assumptions/69). -/
def volatileNow (s : State) : Bool := s.power.minimal || inCrocus s || inStandby s

/-- A new session. -/
def newSession (s : State) (id version : Byte) (tag : Word) (chunkMs : Nat) : Session :=
  { id := id, version := version, next := 1, tag := tag, chunkMs := chunkMs, isVolatile := volatileNow s, lastUse := s.clock.opTime,
    results := [] }

/-- Opens a session under a number. -/
def openSession (s : State) (hdr : QmpHdr) (x : Session) (notify : Bool) : QmpStatus × List Byte × State :=
  (.ok, negotiateBody x false, register (addSession s x) hdr x notify)

/-- An opening NEGOTIATE (R329, R330, R332, R333). -/
def openNegotiate (s : State) (hdr : QmpHdr) (versions tag : Word) (flags : Byte) (chunkMs : BitVec 16) : QmpStatus × List Byte × State :=
  let notify := flags.getLsbD 1
  let timed := flags.getLsbD 2
  let ver : Byte := if versions.getLsbD 2 then 2 else 1
  let ms := if timed then chunkMs.toNat else 2000
  if timed && decide (chunkMs.toNat < 100 ∨ 30000 < chunkMs.toNat) then (.range, [], s)
  else if !timed && chunkMs != 0 then (.range, [], s)
  else if !versions.getLsbD 1 && !versions.getLsbD 2 then (.versionBad, [], s)
  else if inStandby s then
    match freeSession (s.qmp.sessions.map (·.id) ++ s.qmp.aonNext.map (·.1)) with
    | some id => openSession s hdr (newSession s id ver tag ms) notify
    | none => (.noSession, [], s)
  else match s.qmp.sessions.find? fun x => tag != 0 && x.tag == tag with
    | some x => (.ok, negotiateBody x true, register s hdr x notify)
    | none =>
      match freeSession (s.qmp.sessions.map (·.id)) with
      | some id => openSession s hdr (newSession s id ver tag ms) notify
      | none => match idleLongest s with
        | some x => openSession (raise (dropSession s x.id) 0x0E01 [x.id.toNat, x.tag.toNat]) hdr (newSession s x.id ver tag ms) notify
        | none => (.noSession, [], s)

/-- A NEGOTIATE with CLOSE (R330, R333) (in part DEDUCED, notes/assumptions/69). -/
def closeNegotiate (s : State) (hdr : QmpHdr) : QmpStatus × List Byte × State :=
  match sessionOf s hdr.session with
  | some x => (.ok, negotiateBody x false, dropSession s hdr.session)
  | none =>
    match (if inStandby s then aonNextOf s hdr.session else none) with
    | some n =>
      (.ok, negotiateBody { newSession s hdr.session hdr.version 0 2000 with next := n, isVolatile := false } false,
       setQmp s fun q => { q with aonNext := q.aonNext.filter fun p => p.1 != hdr.session, aonClosed := q.aonClosed ++ [hdr.session] })
    | none => (.noSession, [], s)

/-! ## Power states (R335, Tables 13-3 and 13-4) -/

/-- Mark R. Start-up counts as RESTORE (R420). -/
def markR (s : State) : Bool := (s.power.state == .run || s.power.state == .restore) && !s.power.minimal

/-- Mark I. -/
def markI (s : State) : Bool := s.power.state == .run && !s.power.minimal && !s.power.starting

/-- The command is marked X. -/
def markX : QmpBody → Bool
  | .esbGet | .esbRestore _ | .grantRest | .shipMode => true
  | _ => false

/-- The command is executed in the present power state. -/
def stateMarked (s : State) (b : QmpBody) : Bool :=
  let m := inMinimal s
  let st := inStandby s
  let c := inCrocus s
  match b with
  | .negotiate _ _ _ _ | .negotiateClose | .lastwordsRead _ _ | .noticeAck _ _ => markR s || m || st || c
  | .persistStatus => markR s || m || st || c || saving s
  | .esbGet | .esbRestore _ | .grantRest | .saveAndOff | .selftest _ _ => markR s
  | .logRead _ _ | .fwLockSet | .fwLockClear => markR s || m
  | .fwChunk _ _ _ _ _ _ | .fwActivate _ _ => markR s || m || c
  | .debugChallenge | .debugResponse _ _ => markI s || m
  | .shipMode | .clearTrip => st
  | .clearRailLatch => markR s || m || st
  | .outOfRange op => if op = 0xC060 then markI s || m else markR s || m

/-- CLEAR_TRIP came over another carrier (R336). -/
def wrongCarrier (hdr : QmpHdr) (b : QmpBody) : Bool :=
  match b, hdr.carrier with
  | .clearTrip, .smbus => false
  | .clearTrip, _ => true
  | _, _ => false

/-- The status of a command that the state, the carrier or its length stops (R335–R337)
(in part DEDUCED, notes/assumptions/69; DEDUCED, notes/assumptions/91). -/
def blockedStatus (s : State) (hdr : QmpHdr) (b : QmpBody) : Option QmpStatus :=
  if wrongCarrier hdr b then some .wrongCarrier
  else if inMinimal s && markX b then some .noSheet
  else if !stateMarked s b then some .wrongState
  else lengthStatus hdr b

/-! ## Commands without effect -/

/-- Highest pending class; 0xFF with none. -/
def highestClass (s : State) : Nat := if s.notices.pend.isEmpty then 0xFF else s.notices.pend.foldl (fun m n => min m n.cls) 3

/-- Body of PERSIST_STATUS. -/
def persistBody (s : State) : List Byte :=
  wordBytes [(regState s).toNat, (regCeilCause s).toNat, s.persist.dirtyNow, (regDirtyCeil s).toNat, (regSaveStat s).toNat,
    (regRstStat s).toNat, s.faults.availMs] ++ leBytes 2 s.notices.pend.length ++ leBytes 1 (highestClass s)

/-- Runs a command without effect. -/
def runPlain (s : State) (hdr : QmpHdr) (b : QmpBody) : QmpStatus × List Byte × State :=
  match blockedStatus s hdr b with
  | some st => (st, [], s)
  | none =>
    match b with
    | .esbGet => let t := touchEstimator s
                 (.ok, esbBlock t, t)
    | .persistStatus => (.ok, persistBody s, s)
    | .logRead start count => let r := logReadBody s start count
                              (.ok, r.1, r.2)
    | .lastwordsRead start count =>
      if start.toNat > 63 ∨ count.toNat > 64 then (.range, [], s) else (.ok, lastWordsBody s start count, s)
    | .negotiate versions tag flags ms => if flags.getLsbD 0 then closeNegotiate s hdr else openNegotiate s hdr versions tag flags ms
    | .negotiateClose => closeNegotiate s hdr
    | _ => (.unsupported, [], s)

/-! ## Commands with effect -/

/-- ESB_RESTORE (R255–R257, Table 09-5). On a mismatch PACK_CHANGED names the serial of the refused block as the old one and the present
serial as the new one, which R257 and Table 09-14 do not say (in part DESIGN CHOICE, notes/assumptions/102). -/
def restoreBlock (s : State) (blk : List Byte) : QmpStatus × List Byte × State :=
  match s.startup.settings with
  | none => (.wrongState, [], s)
  | some c =>
    let s := touchEstimator s
    match blockCheck s c blk with
    | some .serialMismatch => (.serialMismatch, [], packChanged s (slice blk 8 16) s.pack.serial)
    | some st => (st, [], s)
    | none => (.ok, [], commitBlock s blk)

/-- The rest window opens now (R250). -/
def openWindow (s : State) : State :=
  setPack s fun p => { p with restActive := true, restFrom := s.clock.now, quietSince := s.clock.now, lastRestRef := none }

/-- GRANT_REST (R250). -/
def grantWindow (s : State) : QmpStatus × List Byte × State :=
  let s := touchEstimator s
  if s.pack.restActive then (.restActive, [], s)
  else if !restTemp s then (.restTemp, [], s)
  else if s.pack.cond ≠ .qualified then (.packAbsent, [], s)
  else if saveStart s then (.energyBusy, [], s)
  else (.ok, [], updateCharger (openWindow s))

/-- The generation with the highest GEN is of KIND SAVE. -/
def newestIsSave (s : State) : Bool := s.flash.gens.any fun g => g.kind == .save && s.flash.gens.all fun h => decide (h.gen.toNat ≤ g.gen.toNat)

/-- SHIP_MODE (R261) (in part DEDUCED, notes/assumptions/58). -/
def shipAnswer (s : State) : QmpStatus × List Byte × State :=
  let s := touchEstimator s
  if !newestIsSave s then (.notSealed, [], s)
  else if s.pack.cond ≠ .qualified then (.packAbsent, [], s)
  else if saveStart s then (.energyBusy, [], s)
  else (.ok, [], enterShip s)

/-- Latches held: bit 0 failure to come up, bits 3 to 1 host PHY, DDR and NAND groups. -/
def heldLatches (s : State) : Nat :=
  bit s.rails.latched + 2 * bit s.rails.groupLatched[0] + 4 * bit s.rails.groupLatched[1] + 8 * bit s.rails.groupLatched[2]

/-- CLEAR_RAIL_LATCH (R289). -/
def clearLatches (s : State) : QmpStatus × List Byte × State :=
  if heldLatches s = 0 then (.notLatched, [], s)
  else (.ok, leBytes 1 (heldLatches s),
        { s with rails := { s.rails with latched := false, groupLatched := Vector.replicate 3 false } })

/-- CLEAR_TRIP (R277). -/
def clearTripLatch (s : State) : QmpStatus × List Byte × State :=
  if !s.thermal.latched then (.notTripped, [], s)
  else if !(s.thermal.aonCoolSince.any fun t => due s t 100) then (.tooHot, [], s)
  else (.ok, [], { s with thermal := { s.thermal with latched := false } })

/-- FW_LOCK is permitted to clear the lock on this path (R336). -/
def mayUnlock (s : State) (hdr : QmpHdr) : Bool :=
  match hdr.carrier with
  | .smbus => true
  | .mailbox l | .vdm l => isAdmin s l

/-- FW_LOCK (R392): the record is written and read back before the answer. -/
def lockAnswer (s : State) (b : Bool) : QmpStatus × List Byte × State :=
  let t := setOwnerLock s b
  (.ok, leBytes 1 (bit (ownerLock t)), t)

/-- The part that a SELFTEST names, or why it is refused (Table 14-5). -/
def selftestPart (s : State) (target : Byte) (index : Nat) : Part ⊕ QmpStatus :=
  match target.toNat with
  | 1 => if h : index < 64 then
      (if s.engines.eng[index].role = some .spare then .inl (.engine ⟨index, h⟩) else .inr .range) else .inr .range
  | 2 => if h : index < 8 then (if s.host.link[index].trained then .inl (.link ⟨index, h⟩) else .inr .wrongState) else .inr .range
  | 3 => if h : index < 32 then
      (if s.thermal.site[index].run = .unmapped then .inr .range else .inl (.site ⟨index, h⟩)) else .inr .range
  | 4 =>
    if s.power.state = .restore then .inr .wrongState
    else if h : index < 512 then
      let ch : FlashCh := ⟨index / 16, by omega⟩
      let row : Fin 16 := ⟨index % 16, by omega⟩
      if s.flash.ch[ch].dies.contains row then .inl (.die ch row) else .inr .range
    else .inr .range
  | 5 => if h : index < 17 then
      (if s.dram.ch[index].run = .inService then .inl (.dramChannel ⟨index, h⟩) else .inr .wrongState) else .inr .range
  | _ => .inr .range

/-- SELFTEST (R356): accepted with the next TEST_ID once the test is in its queue (in part DEDUCED, notes/assumptions/69). -/
def selftestAnswer (s : State) (target : Byte) (index : BitVec 16) : QmpStatus × List Byte × State :=
  match selftestPart s target index.toNat with
  | .inr st => (st, [], s)
  | .inl p =>
    let id := s.faults.nextTestId
    if (s.faults.tests.any fun t => t.part == p) || (!testless s p && !queueFull p s.faults.tests) then
      (.ok, leBytes 4 id.toNat, queueTest { s with faults := { s.faults with nextTestId := id + 1 } } p (some id))
    else (.wrongState, [], s)

/-- NOTICE_ACK (R342). -/
def ackNotices (s : State) (first last : Word) : QmpStatus × List Byte × State :=
  if last.toNat < first.toNat then (.range, [], s)
  else
    let left := s.notices.pend.filter fun n => !ackCovers first last n
    let n := s.notices.pend.length - left.length
    let t := { s with notices := { s.notices with pend := left } }
    (.ok, leBytes 4 n, clearRollback { t with smb := { t.smb with alert := t.smb.alert && owesSmbus t } })

/-- FW_ACTIVATE (R409): with CHAIN, the request goes downstream at once when this module does not activate
(in part DEDUCED, notes/assumptions/61). -/
def activateAnswer (s : State) (pkg : Word) (flags : Byte) : QmpStatus × List Byte × State :=
  let chain := flags.getLsbD 0
  let r := activatePackage (setFw s fun f => { f with chain := chain, chainDone := false }) pkg
  if r.2 then (.ok, [], r.1)
  else
    let t := if chain then sendActivate r.1 pkg else r.1
    (activateStatus t, statusList t, t)

/-- The command's own status, body and effect, once nothing stops it. -/
def effectOf (s : State) (hdr : QmpHdr) (b : QmpBody) : QmpStatus × List Byte × State :=
  match b with
  | .esbRestore blk => restoreBlock s blk
  | .grantRest => grantWindow s
  | .saveAndOff => (.ok, [], s)
  | .fwChunk pkg off total crc _ data =>
    fwChunkAnswer s { package := pkg, offset := off.toNat, total := total.toNat, crc := crc, data := data } hdr.session
  | .fwActivate pkg flags => activateAnswer s pkg flags
  | .fwLockSet => lockAnswer s true
  | .fwLockClear => if mayUnlock s hdr then lockAnswer s false else (.notPermitted, [], s)
  | .selftest target index => selftestAnswer s target index
  | .debugChallenge => giveChallenge s
  | .debugResponse _ verifies => takeResponse s hdr.carrier verifies
  | .shipMode => shipAnswer s
  | .clearRailLatch => clearLatches s
  | .clearTrip => clearTripLatch s
  | .noticeAck first last => ackNotices s first last
  | .outOfRange _ => (.range, [], s)
  | _ => (.unsupported, [], s)

/-- Runs a command with effect. -/
def runEffect (s : State) (hdr : QmpHdr) (b : QmpBody) : QmpStatus × List Byte × State :=
  match blockedStatus s hdr b with
  | some st => (st, [], s)
  | none => effectOf s hdr b

/-! ## What follows an answer -/

/-- Byte `i` of the package staged in a half. -/
def halfByte (s : State) (half : Bool) (i : Nat) : Byte :=
  let w := (cfGood s (sectorBase (halfSector half) + i / 8)).getD (BitVec.allOnes 64)
  (w >>> (8 * (i % 8))).setWidth 8

/-- The boot part of a package is copied from its half into the boot block not selected, and the block is verified; a block that
verifies is selected by a boot record (R391, R414) (in part DEDUCED, notes/assumptions/61). -/
def copyBoot (s : State) (half : Bool) (h : FwHeader) (verifies : Bool) : State :=
  let target := match bootRecord s with
    | some r => !r.2
    | none => !s.startup.twin
  let base := sectorBase (if target then 64 else 0)
  let ws := (List.range 32768).map fun j =>
    BitVec.ofNat 64 (fromLe ((List.range 8).map fun k => halfByte s half (512 + h.fwLen + 8 * j + k)))
  let t := cfEraseRange s (base / 512) (base / 512 + 64)
  let t := (List.range 32768).foldl (fun t j => cfPut t (base + j) (ws.getD j 0)) t
  let ver := Config.bootVersion h.packageId
  let t := setFw t fun f =>
    if target then { f with boot1 := verifies, bootVer1 := ver, bootDue := false } else { f with boot0 := verifies, bootVer0 := ver, bootDue := false }
  if verifies then selectBoot t target else t

/-- Start-up runs again from step 1 with the rails kept (R415, Table 18-4). -/
def restartKept (s : State) : State := bootSteps (dataPathReset s)

/-- FW_ACTIVATE in CROCUS: the boot copy, then step 1 again (R415). -/
def crocusRestart (s : State) : State :=
  if inCrocus s && s.fw.phase == .pendingRestart then
    let img := if s.fw.half then s.fw.imageB else s.fw.imageA
    let s := match img with
      | some h => if h.bootLen ≠ 0 then copyBoot s s.fw.half h true else s
      | none => s
    restartKept s
  else s

/-- A latch of a group that has been cleared lets the group be sequenced again (R293) (in part DEDUCED, notes/assumptions/52). -/
def resequenceCleared (s : State) (cleared : Nat) : State :=
  if inStandby s then tryStart { s with power := { s.power with standby := if s.power.standby = .byCooling then .byCooling else .byInput } }
  else if s.power.starting && s.startup.step == 0 then resumeBoot s
  else
    let gs := (fins 3).filter fun g => decide (cleared / 2 ^ (g.val + 1) % 2 = 1)
    match gs with
    | [] => s
    | g :: t =>
      let s := { s with rails := { s.rails with groupWait := s.rails.groupWait ++ t } }
      if s.rails.seqTodo.isEmpty && s.rails.downThen.isNone then
        let s := beginSequence s (groupRails g) (.groupAgain g)
        if s.rails.seqTodo.isEmpty then groupBack s g else s
      else { s with rails := { s.rails with groupWait := s.rails.groupWait ++ [g] } }

/-- What a command does once its response has been sent. -/
def afterAnswer (s : State) (b : QmpBody) (st : QmpStatus) (body : List Byte) : State :=
  if st ≠ .ok then (match b with
    | .fwActivate _ _ => crocusRestart s
    | _ => s)
  else match b with
    | .saveAndOff => triggerSave s .saveAndOff
    | .clearRailLatch => resequenceCleared s (field body 0 1)
    | .clearTrip => tryStart { s with power := { s.power with standby := .byInput } }
    | .fwActivate _ _ => crocusRestart s
    | _ => s

/-! ## Exactly once (R331, R333) -/

/-- A result is cached and its SEQ consumed. -/
def consume (s : State) (hdr : QmpHdr) (op : BitVec 16) (st : QmpStatus) (body : List Byte) : State :=
  let r : CachedResult := { session := hdr.session, seq := hdr.seq, opcode := op, status := st, body := body }
  modSession s hdr.session fun x => { x with next := hdr.seq + 1, results := last64 (x.results ++ [r]), lastUse := s.clock.opTime }

/-- The same in the AON responder. -/
def consumeAon (s : State) (hdr : QmpHdr) (op : BitVec 16) (st : QmpStatus) (body : List Byte) : State :=
  let r : CachedResult := { session := hdr.session, seq := hdr.seq, opcode := op, status := st, body := body }
  let s := setQmp s fun q => { q with aonCache := last64 (q.aonCache ++ [r]) }
  match sessionOf s hdr.session with
  | some _ => modSession s hdr.session fun x => { x with next := hdr.seq + 1, lastUse := s.clock.opTime }
  | none => setQmp s fun q => { q with aonNext := q.aonNext.map fun p => if p.1 = hdr.session then (p.1, hdr.seq + 1) else p }

/-- FW_ACTIVATE waits for step 5 of Table 17-5. -/
def waitsFor (s : State) (b : QmpBody) (st : QmpStatus) (body : List Byte) : Bool :=
  match b with
  | .fwActivate _ _ => st == .ok && body.isEmpty && (s.fw.phase == .loading || s.fw.waitRetrain)
  | _ => false

/-- Executes a command whose SEQ is NEXT, answers and does what follows. -/
def executeNext (s : State) (hdr : QmpHdr) (b : QmpBody) : State :=
  match runEffect s hdr b with
  | (st, body, t) =>
    if waitsFor t b st body then setFw t fun f => { f with waiting := some hdr }
    else afterAnswer (respond (consume t hdr (opcodeOf b) st body) hdr (opcodeOf b) st false body) b st body

/-- A command with effect on an open session (R331) (in part DEDUCED, notes/assumptions/69). -/
def sequenced (s : State) (hdr : QmpHdr) (b : QmpBody) (x : Session) : State :=
  let op := opcodeOf b
  let back := (x.next - hdr.seq).toNat
  if s.fw.waiting.any fun h => h.session == hdr.session && h.seq == hdr.seq then hold s hdr b
  else if s.fw.waiting.any fun h => h.session == hdr.session && hdr.seq == x.next then respond s hdr op .busy false []
  else if back = 0 then executeNext s hdr b
  else match (if back ≤ 64 then x.results.find? fun r => r.seq == hdr.seq else none) with
    | some r => respond s hdr r.opcode r.status true r.body
    | none => respond s hdr op .seqBad false (leBytes 4 x.next.toNat)

/-- The same in STANDBY (R333) (in part DEDUCED, notes/assumptions/94). -/
def sequencedAon (s : State) (hdr : QmpHdr) (b : QmpBody) (next : Word) : State :=
  let op := opcodeOf b
  let back := (next - hdr.seq).toNat
  if back = 0 then
    match runEffect s hdr b with
    | (st, body, t) => afterAnswer (respond (consumeAon t hdr op st body) hdr op st false body) b st body
  else if back ≤ 64 then
    match s.qmp.aonCache.find? fun r => r.session == hdr.session && r.seq == hdr.seq with
    | some r => respond s hdr r.opcode r.status true r.body
    | none => respond s hdr op .expired false (leBytes 4 next.toNat)
  else respond s hdr op .seqBad false (leBytes 4 next.toNat)

/-- Answers a command without effect. -/
def answerPlain (s : State) (hdr : QmpHdr) (b : QmpBody) : State :=
  match runPlain s hdr b with
  | (st, body, t) => respond t hdr (opcodeOf b) st false body

/-- Version and opcode of a request against a version (R329). -/
def versionStatus (hdr : QmpHdr) (b : QmpBody) (version : Byte) : Option QmpStatus :=
  if hdr.version ≠ version then some .versionBad
  else if version = 1 ∧ !inVersion1 (opcodeOf b) then some .unsupported
  else none

/-- A request that names a saved session carries version 1 or 2; so does one that no session can check (R332, R333). -/
def anyVersion (hdr : QmpHdr) (b : QmpBody) : Option QmpStatus :=
  if hdr.version = 1 ∨ hdr.version = 2 then versionStatus hdr b hdr.version else some .versionBad

/-- A request in its session (R329–R333) (in part DEDUCED, notes/assumptions/91). -/
def inSession (s : State) (hdr : QmpHdr) (b : QmpBody) : State :=
  let op := opcodeOf b
  match sessionOf s hdr.session with
  | some x =>
    let s := modSession s hdr.session fun y => { y with lastUse := s.clock.opTime }
    match versionStatus hdr b x.version with
    | some st => respond s hdr op st false []
    | none =>
      if !hasEffect b then answerPlain s hdr b
      else if inStandby s then sequencedAon s hdr b x.next
      else sequenced s hdr b x
  | none =>
    match (if inStandby s then aonNextOf s hdr.session else none) with
    | some n =>
      match anyVersion hdr b with
      | some st => respond s hdr op st false []
      | none => if hasEffect b then sequencedAon s hdr b n else answerPlain s hdr b
    | none => respond s hdr op .noSession false []

/-! ## Requests that wait (R26, R332, R334, Table 07-6) -/

/-- The masthead hands over (Table 17-5, step 4) (in part DEDUCED, notes/assumptions/31). -/
def handingOver (s : State) : Bool := s.fw.phase == .switching && decide (s.fw.nextEngine ≥ 64)

/-- Start-up before step 7 (R332). -/
def beforeTable (s : State) : Bool := s.power.starting && !s.qmp.tableLoaded

/-- Commands that a lowering lets run (R424) (in part DEDUCED, notes/assumptions/31). -/
def runsInLowering : QmpBody → Bool
  | .persistStatus | .lastwordsRead _ _ | .noticeAck _ _ => true
  | _ => false

/-- The request waits (in part DEDUCED, notes/assumptions/31). -/
def mustWait (s : State) (b : QmpBody) : Bool :=
  (saving s && b != .persistStatus) || (!saving s && (handingOver s || (beforeTable s && (hasEffect b || isNegotiate b))))

/-- QMP waits for the swap of the engine that has its sessions, or of the port engine of its link (R23)
(in part DESIGN CHOICE, notes/assumptions/108). -/
def carrierWaits (s : State) (c : Carrier) : Bool :=
  swapWaits s (.mgmt Config.qmpEngine) || match c with
    | .mailbox l | .vdm l => portWaits s l
    | .smbus => false

/-- A whole request is taken (R328–R333) (in part DEDUCED, notes/assumptions/91). -/
def admitRequest (s : State) (hdr : QmpHdr) (b : QmpBody) : State :=
  if mustWait s b || carrierWaits s hdr.carrier then hold s hdr b
  else if beforeTable s then
    match anyVersion hdr b with
    | some st => respond s hdr (opcodeOf b) st false []
    | none => answerPlain s hdr b
  else if s.security.lowering && !runsInLowering b then respond s hdr (opcodeOf b) .wrongState false []
  else if isNegotiate b then answerPlain s hdr b
  else inSession s hdr b

/-- LENGTH is above 4,128 or disagrees with what the carrier delivered (R328). -/
def badLength (hdr : QmpHdr) : Bool := decide (hdr.length.toNat > 4128 ∨ hdr.delivered ≠ hdr.length.toNat)

/-- A request arrives whole (R325–R328; on SMBus a full carrier does not acknowledge its address, R439): `op` is its OPCODE, and no
body says that Table 13-4 has no such command (in part DEDUCED, notes/assumptions/70; DEDUCED, notes/assumptions/91). -/
def receiveOp (s : State) (hdr : QmpHdr) (op : BitVec 16) (b : Option QmpBody) : State :=
  if !carrierUp s hdr.carrier then s
  else match mailboxFault hdr op, hdr.carrier with
    | some code, .mailbox l => emit s (.mailbox l code [])
    | _, c =>
      if badLength hdr then respond s hdr op .lenBad false []
      else if reservedSet hdr b then respond s hdr op .range false []
      else match b with
        | none => respond s hdr op .unsupported false []
        | some b =>
          if carrierFull s c then (if c = .smbus then s else respond s hdr op .busy false [])
          else admitRequest s hdr b

/-- A request that a row of the table gives whole. -/
def receive (s : State) (hdr : QmpHdr) (b : QmpBody) : State := receiveOp s hdr (opcodeOf b) (some b)

/-- What waited is taken in the order of its arrival; a request whose carrier has gone is dropped
(in part DEDUCED, notes/assumptions/31). -/
def runHeld (s : State) : State :=
  s.qmp.held.foldl (fun s h => if carrierUp s h.hdr.carrier then admitRequest s h.hdr h.body else s) (setQmp s fun q => { q with held := [] })

/-- The FW_ACTIVATE that waited is answered with the list as it stands (R409) (in part DEDUCED, notes/assumptions/61). -/
def finishActivate (s : State) : State :=
  match s.fw.waiting with
  | none => s
  | some hdr =>
    let s := setFw s fun f => { f with waiting := none }
    let st := activateStatus s
    let body := statusList s
    runHeld (respond (consume s hdr 0xC041 st body) hdr 0xC041 st false body)

end Sys2Proof.Machine
end

