-- ==== Sys2Proof/Machine/Activation.lean ====
section
/-! DEFINITION. The check of a package, the steps of an activation, its probation, commit and boot copy (R397–R401, R409–R414, Table
17-5). -/

namespace Sys2Proof.Machine

open Sys2Proof

/-! ## The check of a package (R397, R398, R401) -/

/-- A valid package is staged whole: reported, signalled, and its last chunk relayed (R401, R404). -/
def packageWhole (s : State) (g : Staging) (h : FwHeader) : State :=
  let s := setFw (setImage s (stagingHalf s) (some h)) fun f =>
    { f with staging := some { g with whole := true }, phase := .staged, verified := some g.packageId }
  checkReport (sendRelay 9 (signalAll (setOwn s .staged) 6))

/-- An invalid package is discarded (R398). -/
def packageBad (s : State) (svn : Bool) : State :=
  let s := setFw (setImage s (stagingHalf s) none) fun f => { f with staging := none, phase := .idle }
  if svn then sendStatus (refuseFw s 64) else setOwn s .sigBad

/-- A package that this module relays without staging has been checked (R404) (in part DEDUCED, notes/assumptions/56). -/
def relayVerified (s : State) (ok : Bool) : State :=
  match s.fw.relayed with
  | some (pkg, _) => if ok then sendRelay 9 (setFw s fun f => { f with verified := some pkg }) else s
  | none => s

/-- PACKAGE_VERIFY_COMPLETE (R397, R398, R401): every chunk has arrived and the signature and digest have been checked. -/
def execPackageVerifyComplete (signatureOk digestOk : Bool) (s : State) : Result :=
  .next (if !coreUp s then s
    else match s.fw.staging with
      | none => relayVerified s (signatureOk && digestOk)
      | some g =>
        if g.whole then relayVerified s (signatureOk && digestOk)
        else if g.missing < g.total then s
        else match g.header with
          | none => packageBad s false
          | some h =>
            if !(headerValid h && signatureOk && digestOk) then packageBad s false
            else if h.svn < svnNeeded s then packageBad s true
            else packageWhole s g h)

/-! ## Table 17-5 -/

/-- BANK_LOAD_COMPLETE (R409): step 2 has ended. -/
def execBankLoadComplete (s : State) : Result :=
  .next (if coreUp s && s.fw.phase == .loading then setFw s fun f => { f with phase := .switching, nextEngine := 0 } else s)

/-- Engines that run code. -/
def switches (s : State) (e : EngineId) : Bool := s.engines.eng[e].run != .retired

/-- The next engine that switches, from engine `n` on. -/
def nextSwitch (s : State) (n : Nat) : Option EngineId := (fins 64).find? fun e => decide (n ≤ e.val) && switches s e

/-- Nothing holds the next engine back: no save, and on the way to the new code no reason of Table 17-2 (R399, R411)
(in part DEDUCED, notes/assumptions/62). -/
def maySwitch (s : State) : Bool :=
  s.fw.phase == .switching && coreUp s && !saving s
    && (s.fw.reverting || match s.fw.staging.bind (·.header) with
      | some h => stateReasons s + headerReasons s (some h) == 0
      | none => false)

/-- An engine runs the code of the other bank. -/
def switchBank (s : State) (e : EngineId) : State :=
  let s := { s with engines := { s.engines with eng := s.engines.eng.set e { s.engines.eng[e] with bankNew := !s.fw.reverting } } }
  setFw s fun f => { f with nextEngine := e.val + 1 }

/-- ENGINE_SWITCH (R399, R409, R411, R413): the next engine in order switches; a rejected import is a fault of the new image. After
the last one of a reversion the old image runs (in part DEDUCED, notes/assumptions/62). -/
def execEngineSwitch (accepted : Bool) (s : State) : Result :=
  .next (if !maySwitch s then s
    else match nextSwitch s s.fw.nextEngine with
      | none => s
      | some e =>
        if !accepted && !s.fw.reverting then startRevert s 2
        else
          let t := switchBank s e
          if t.fw.reverting && (nextSwitch t t.fw.nextEngine).isNone then finishActivate (finishRevert t) else t)

/-- Probation begins (Table 17-5, step 5). -/
def beginProbation (s : State) (h : FwHeader) : State :=
  let b := stagingHalf s
  let s := setFw s fun f => { f with phase := .probation, old := f.active, active := some h, running := b, probFrom := s.clock.opTime, cause := 0 }
  let s := signalAll (raise (setOwn s .probation) 0x0C03 [h.version.toNat, 1]) 6
  if s.fw.chain then sendActivate s h.packageId else s

/-- MASTHEAD_HANDOVER_COMPLETE (R409): step 4 has ended, and the request that waited is answered. -/
def execMastheadHandoverComplete (accepted : Bool) (s : State) : Result :=
  .next (if s.fw.phase == .switching && !s.fw.reverting && coreUp s && !saving s && (nextSwitch s s.fw.nextEngine).isNone then
      match s.fw.staging.bind (·.header) with
      | none => s
      | some h => if accepted then checkChainDone (finishActivate (beginProbation s h)) else startRevert s 2
    else s)

/-! ## Probation and commit (R412–R414) -/

/-- The image is committed: the firmware selector names its half, and the package is no longer staged. -/
def commitImage (s : State) (h : FwHeader) : State :=
  let s := selectHalf s s.fw.running
  let s := { s with engines := { s.engines with eng := vecMap s.engines.eng fun _ e => { e with bankNew := false } } }
  let s := setFw s fun f => { f with staging := none, old := none, bootDue := h.bootLen != 0, phase := if h.bootLen = 0 then .idle else .bootCopy }
  renewSelector (setOwn s .committed)

/-- PROBATION_END (R412, R414): 60 s of operating time without a fault
(in part DESIGN CHOICE, notes/assumptions/3; DEDUCED, notes/assumptions/61). -/
def execProbationEnd (s : State) : Result :=
  .next (if s.fw.phase == .probation && coreUp s && !saving s && decide (60000 + s.fw.probFrom ≤ s.clock.opTime) then
      match s.fw.active with
      | some h =>
        let t := commitImage s h
        if h.bootLen = 0 then raise t 0x0C08 [h.version.toNat, 0] else t
      | none => s
    else s)

/-- BOOT_COPY_COMPLETE (R414): the boot part lies in the block not selected; once it verifies a boot record names it. -/
def execBootCopyComplete (verifies : Bool) (s : State) : Result :=
  .next (if s.fw.phase == .bootCopy && coreUp s && !saving s then
      match (if s.fw.half then s.fw.imageB else s.fw.imageA) with
      | some h =>
        let t := copyBoot s s.fw.half h verifies
        raise (setFw t fun f => { f with phase := .idle, bootDue := false }) 0x0C08 [h.version.toNat, bit verifies]
      | none => s
    else s)

end Sys2Proof.Machine
end

