-- ==== Sys2Proof/Machine/BusOps.lean ====
section
/-! DEFINITION. The bus-clear procedure of both two-wire buses and what a stuck bus does (R458, R459). -/

namespace Sys2Proof.Machine

open Sys2Proof

/-- Step 3 is in progress. -/
def readingSheet (s : State) : Bool :=
  s.power.state == .restore && s.power.starting && s.startup.step == 2 && s.rails.downThen.isNone

/-- Changes the local bus. -/
def setLb (s : State) (f : LocalBus → LocalBus) : State := { s with lb := f s.lb }

/-- After a bus clear every sensor pointer and the charger's set points are written again (R452, R453). -/
def afterClear (s : State) : State := setLb s fun b => { b with pointers := [], chargerSet := false }

/-- Every remote site is ignored (R459, Table 10-2). -/
def ignoreRemote (s : State) : State :=
  (fins 32).foldl (fun s i =>
    if decide (8 ≤ i.val) && s.thermal.site[i].run == .plausible then ignoreSite s i .busStuck else s) s

/-- The local bus is declared stuck (R459). -/
def localStuck (s : State) : State :=
  let s := setLb s fun b => { b with
    state := .stuck, stuckCount := satAdd 8 b.stuckCount 1, stuckSince := s.clock.now, retryAt := s.clock.now, chargerSet := false }
  let s := raise s 0x0E02 [s.lb.lastAddr.toNat, s.startup.step]
  let s := updateCharger (identityLost (ignoreRemote s) (regLbStat s).toNat)
  if readingSheet s then finishSheet s (readSheet none s.startup.fuse80) else s

/-- The SMBus is declared stuck (R459): in STANDBY the event is logged only. -/
def smbusStuck (s : State) (scl : Bool) : State :=
  let s := setSmb s fun b => { b with stuck := true, state := .idle, retryAt := s.clock.now }
  let line : Nat := if scl then 0 else 1
  if inStandby s then logEvent s 0x0E03 2 (wordBytes [line]) else raise s 0x0E03 [line]

/-- The local bus is back in service (R459). -/
def localCleared (s : State) : State :=
  raise (afterClear (setLb s fun b => { b with state := .inService })) 0x0E04 [s.clock.now - s.lb.stuckSince]

/-- The SMBus is back: what was held is sent. -/
def smbusCleared (s : State) : State :=
  let s := setSmb s fun b => { b with stuck := false }
  if s.smb.current.isSome then sendCurrent s else sendQueued s

/-- A run of the bus-clear procedure on the local bus, and what it ended in (R458, Table 19-5); none where the bus was idle. A bus
that is stuck already stays so until a run leaves it idle (R459). -/
def clearLocal (s : State) (c : Option ClearOutcome) : State :=
  match c with
  | none => s
  | some c =>
    let s := setLb s fun b => { b with clear := satAdd 8 b.clear 1 }
    match c, s.lb.state with
    | .idle, .stuck => localCleared s
    | .idle, _ => afterClear s
    | .stuck _, .stuck => s
    | .stuck _, _ => localStuck s

/-- A run on the SMBus, likewise. -/
def clearSmbus (s : State) (c : Option ClearOutcome) : State :=
  match c with
  | none => s
  | some c =>
    let s := setSmb s fun b => { b with clear := satAdd 8 b.clear 1 }
    match c with
    | .idle => if s.smb.stuck then smbusCleared s else s
    | .stuck scl => if s.smb.stuck then s else smbusStuck s scl

end Sys2Proof.Machine
end

