-- ==== Sys2Proof/Machine/Button.lean ====
section
/-! DEFINITION. Commands of MR_N and the push button (R296–R300). -/

namespace Sys2Proof.Machine

open Sys2Proof

/-- MR_N (R296): low for 10 µs. During a save, and from step 2 of a lowering on, it is latched (R425). -/
def execMrN (s : State) : Result :=
  .next (if !s.power.aon then s
    else
      let s := { s with button := { s.button with mrLow := true } }
      if saving s || loweringFixed s then { s with button := { s.button with mrLatched := true } }
      else if coreStates s then manualReset s
      else s)

/-- MR_N_RELEASE (R296, R458): the interfaces of both buses leave reset, each with a bus clear where its bus is not idle, and start-up
runs from step 1 with the rails kept. -/
def execMrNRelease (localBus smbus : Option ClearOutcome) (s : State) : Result :=
  .next (if s.button.mrLow then
      let s := clearSmbus (clearLocal { s with button := { s.button with mrLow := false } } localBus) smbus
      if s.power.state = .restore && s.power.starting && s.startup.step == 0 && s.rails.downThen.isNone && !s.rails.restartWait
          && s.rails.seqTodo.isEmpty then
        resumeBoot s
      else tryStart s
    else s)

/-- PB_PRESS_START (R297): PB_N low for 20 ms. Nothing runs in OFF and SHIP. -/
def execPbPressStart (s : State) : Result :=
  .next (if pbRow s = .none then s else { s with button := { s.button with held := true, markDone := false } })

/-- PB_RELEASE (R297, R300): PB_N high for 20 ms after a press of `duration` ms. -/
def execPbRelease (duration : Nat) (s : State) : Result :=
  .next (if !s.button.held then s
    else
      let done := s.button.markDone
      let s := { s with button := { s.button with held := false, markDone := false, duration := min 65535 (duration / 10) } }
      if done then s else pressReleased s duration)

/-- PB_FORCED_MARK (R298): the press has been held to 8 s. -/
def execPbForcedMark (s : State) : Result :=
  .next (if s.button.held then pressForced { s with button := { s.button with markDone := true } } else s)

/-- PB_HARD_OFF (R299): the press has been held to 15 s. -/
def execPbHardOff (s : State) : Result :=
  .next (if s.button.held then pressHard { s with button := { s.button with markDone := true } } else s)

end Sys2Proof.Machine
end

