-- ==== Sys2Proof/Machine/Recorder.lean ====
section
/-! DEFINITION. Commands of the event recorder: log pages, the hourly sweep, checkpoints of the operating time, and the record
window of the device block (R364, R366, R368, R375, R377). -/

namespace Sys2Proof.Machine

open Sys2Proof

/-- LOG_DROPPED, at most once per 10 min (Table 15-7): sent when a log page has been programmed, which is what ends a run of drops
(in part DESIGN CHOICE, notes/assumptions/95). -/
def reportDrops (s : State) : State :=
  if s.recorder.dropsOwed && !s.recorder.logDroppedAt.any (fun t => !due s t 600000) then
    raise { s with recorder := { s.recorder with dropsOwed := false, logDroppedAt := some s.clock.now } } 0x0B02 [s.recorder.drops]
  else s

/-- LOG_PAGE_PROGRAM (R368, R370–R372): a full assembly page is programmed to each mirror in service; `pass0` and `pass1` are the
program statuses of the two. No page is programmed in a save before its phase 6 (R369). -/
def execLogPageProgram (pass0 pass1 : Bool) (s : State) : Result :=
  .next (match s.recorder.fullPage with
    | some rs =>
      if !logWritable s || saving s then s
      else
        let ok0 := s.flash.mirrors[0].ok && pass0
        let ok1 := s.flash.mirrors[1].ok && pass1
        let s := if pass0 then s else mirrorFails s 0
        let s := if pass1 then s else mirrorFails s 1
        if ok0 || ok1 then reportDrops (programFull s rs) else s
    | none => s)

/-- SUPPRESSED_SWEEP (R366): every hour of operating time. -/
def execSuppressedSweep (s : State) : Result :=
  .next (if coreUp s && decide (3600000 + s.recorder.sweptAt ≤ s.clock.opTime) then sweepSuppressed s else s)

/-- Operating time of the newest checkpoint. -/
def checkpointTime (s : State) : Nat :=
  match newestCheckpoint s with
  | some c => c.2.1 % 2 ^ 48
  | none => 0

/-- OPTIME_CHECKPOINT (R364): every 60 s of operating time while the masthead runs. -/
def execOptimeCheckpoint (s : State) : Result :=
  .next (if coreUp s && !inCrocus s && !saving s && decide (60000 + checkpointTime s ≤ s.clock.opTime) then
      writeCheckpoint s
    else s)

/-- The function's device block takes writes: its link offers CXL.io, and not in CROCUS, where the ROM serves fewer registers
(R503). -/
def blockServes (s : State) (l : Link) : Bool := s.host.link[l].offersIo && coreUp s && !inCrocus s

/-- LOG_SEL (R375, Table 15-5): a record is selected and its fetch begins. -/
def execLogSel (link : Link) (recno : Word) (s : State) : Result :=
  .next (if blockServes s link then setFn s link fun r => { r with logSel := recno, logSelState := .fetching } else s)

/-- The words of a record. -/
def recordWords (r : Record) : List Word :=
  let bs := recordBytes r
  (List.range 8).map fun i => BitVec.ofNat 32 (field bs (4 * i) 4)

/-- The record that a function has selected, where the recorder holds it. -/
def selectedRecord (s : State) (l : Link) : Option Record := (heldRecords s).find? fun r => r.recno == s.host.fn[l].logSel

/-- The selected record lies in the NAND log, not in SRAM. -/
def inNandLog (s : State) (r : Record) : Bool := !((s.recorder.fullPage.getD [] ++ s.recorder.page).any fun x => x.recno == r.recno)

/-- A read of the NAND log (R371): `ok0` and `ok1` are the outcomes on the two mirrors; the second is read where the first fails, and a
mirror whose read fails has failed. -/
def readLog (s : State) (ok0 ok1 : Bool) : State :=
  if s.flash.mirrors[0].ok && ok0 then s
  else
    let s := if ok0 then s else mirrorFails s 0
    if ok1 then s else mirrorFails s 1

/-- LOG_FETCH_COMPLETE (R371, R377, Tables 15-4 and 15-6): a record that no mirror gives any more is not held. -/
def execLogFetchComplete (link : Link) (ok0 ok1 : Bool) (s : State) : Result :=
  .next (if s.host.fn[link].logSelState = .fetching ∧ !saving s then
      let s := match selectedRecord s link with
        | some r => if inNandLog s r then readLog s ok0 ok1 else s
        | none => s
      match selectedRecord s link with
      | some r => setFn s link fun k => { k with logSelState := .valid, logData := recordWords r }
      | none => setFn s link fun k => { k with logSelState := .notHeld }
    else s)

end Sys2Proof.Machine
end

