-- ==== Sys2Proof/Machine/Clocks.lean ====
section
/-! DEFINITION. Hold-and-flag, snapshots, the read latches and the FIFOs between clock domains (R171, R203, R252, R377, R468–R472,
R498). -/

namespace Sys2Proof.Machine

open Sys2Proof

/-- A register at an offset is served through a function (R503). -/
def regServes (s : State) (l : Link) (off : Nat) : Bool := s.host.link[l].offersIo && coreUp s && (!inCrocus s || servedInCrocus off)

/-- HOLDFLAG takes a value; the switch begins (R469). -/
def setHoldflag (s : State) (v : Bool) : State := { s with crossings := { s.crossings with holdflag := v } }

/-- HOLDFLAG (R469) (in part DEDUCED, notes/assumptions/46). -/
def execHoldflag (link : Link) (value : Bool) (s : State) : Result :=
  .next (if blockServes s link then setHoldflag s value else s)

/-- HF_SWITCH_COMPLETE (R469): every crossing has switched. -/
def execHfSwitchComplete (s : State) : Result :=
  .next (if coreUp s then { s with crossings := { s.crossings with hfActive := s.crossings.holdflag } } else s)

/-! ## Snapshots (R470, R471) -/

/-- The registers that a capture of a group holds: the live ones, the latched words of a group from the same computation. -/
def captured (s : State) (l : Link) (group : Nat) : List (Nat × Word) :=
  let base := captureRange s l (groupRange group)
  base.map fun p =>
    if p.1 = 0x0A0C then (p.1, BitVec.ofNat 32 ((newestSealed s).toNat / 2 ^ 32))
    else if 0x0294 ≤ p.1 ∧ p.1 ≤ 0x02A0 then (p.1, (planMarkRegs s).getD ((p.1 - 0x0294) / 4) 0)
    else p

/-- TAKE with the group in GROUP: codes 0 and above 5 have no effect (Table 20-5). -/
def takeSnapshot (s : State) (l : Link) : State :=
  let g := s.host.fn[l].snapGroup
  if g = 0 ∨ g > 5 then s
  else setFn s l fun f =>
    { f with snapSeq := (f.snapSeq + 1) % 256, snap := some { group := g, at_ := s.clock.now, regs := captured s l g } }

/-- The freeze ends. -/
def releaseSnapshot (s : State) (l : Link) : State := setFn s l fun f => { f with snap := none }

/-- TAKE (R470): GROUP is written together with it (in part DEDUCED, notes/assumptions/46; DEDUCED, notes/assumptions/72). -/
def execTake (link : Link) (group : Fin 16) (s : State) : Result :=
  .next (if blockServes s link then takeSnapshot (setFn s link fun f => { f with snapGroup := group.val }) link else s)

/-- RELEASE (R470). -/
def execRelease (link : Link) (s : State) : Result := .next (if blockServes s link then releaseSnapshot s link else s)

/-- SNAPSHOT_EXPIRY (R470): 10 ms after the capture. -/
def execSnapshotExpiry (link : Link) (s : State) : Result :=
  .next (if (s.host.fn[link].snap.any fun p => due s p.at_ 10) then releaseSnapshot s link else s)

/-! ## Read latches (R471, R498) -/

/-- A captured register, while a snapshot of its group is frozen. -/
def frozenReg (s : State) (l : Link) (group off : Nat) : Option Word :=
  match s.host.fn[l].snap with
  | some p => if p.group = group then kvGet p.regs off else none
  | none => none

/-- FL_GEN_LATCH (Table 06-10): a read of QV_FL_GEN_LO latches the high word. -/
def execFlGenLatch (link : Link) (s : State) : Result :=
  .next (if blockServes s link then
      let s := emit s (.register link 0x0A08 (hostReg s link 0x0A08).toNat)
      setFn s link fun f => { f with genHi := (frozenReg s link 5 0x0A0C).getD (BitVec.ofNat 32 ((newestSealed s).toNat / 2 ^ 32)) }
    else s)

/-- PLAN_INFO_LATCH (R203): a read of QV_PLAN_INFO latches the four marks of the same computation. -/
def execPlanInfoLatch (link : Link) (s : State) : Result :=
  .next (if blockServes s link then
      let s := emit s (.register link 0x0290 (hostReg s link 0x0290).toNat)
      setFn s link fun f =>
        { f with planMarks := (List.range 4).map fun i =>
            (frozenReg s link 1 (0x0294 + 4 * i)).getD ((planMarkRegs s).getD i 0) }
    else s)

/-- OPTIME_LATCH (Table 15-6): a read of QV_OPTIME_LO latches TIME_HI. -/
def execOptimeLatch (link : Link) (s : State) : Result :=
  .next (if regServes s link 0x0E30 then
      let s := emit s (.register link 0x0E30 (hostReg s link 0x0E30).toNat)
      setFn s link fun f => { f with optimeHi := BitVec.ofNat 32 (s.clock.opTime / 2 ^ 32 % 65536) }
    else s)

/-- ESB_WINDOW_LATCH (R252): a read at 0x0500 latches the window, unless an earlier latch is less than 10 ms old and the word at 0x05FC
(`endRead`) has not been read since. The read is an access of the estimator (R260) (in part DEDUCED, notes/assumptions/72). -/
def execEsbWindowLatch (link : Link) (endRead : Bool) (s : State) : Result :=
  .next (if blockServes s link then
      let s := touchEstimator s
      let held := !endRead && s.host.fn[link].esbAt.any fun t => !due s t 10
      let s := if held then s else setFn s link fun f => { f with esb := esbBlock s, esbAt := some s.clock.now }
      emit s (.register link 0x0500 (hostReg s link 0x0500).toNat)
    else s)

/-! ## FIFOs (R472) -/

/-- FIFO_RESYNC (R472): one side of a FIFO leaves reset and sends its toggle. The contents are discarded and both pointers are 0; once
the other side has left reset too, the handshake ends and the FIFO works again
(in part DEDUCED, notes/assumptions/46; DEDUCED, notes/assumptions/72). -/
def execFifoResync (fifo : Nat) (far : Bool) (s : State) : Result :=
  .next (match kvGet s.crossings.fifos fifo with
    | none => { s with crossings := { s.crossings with fifos := kvSet s.crossings.fifos fifo (!far, far) } }
    | some (a, b) =>
      let a := a || !far
      let b := b || far
      let fs := if (a && b) then kvErase s.crossings.fifos fifo else kvSet s.crossings.fifos fifo (a, b)
      { s with crossings := { s.crossings with fifos := fs } })

end Sys2Proof.Machine
end

