-- ==== Sys2Proof/Machine/CodeFlash.lean ====
section
/-! DEFINITION. The ROM routine of the code flash and its controller (R379–R388, Table 16-2). -/

namespace Sys2Proof.Machine

open Sys2Proof

/-- A call of the ROM routine returns a status and a word (R382) (in part DESIGN CHOICE, notes/assumptions/38). -/
def romReturn (s : State) (status value : Nat) : State := emit s (.romCall status value)

/-- Sectors of a boot block and of a firmware half. -/
def bootSectors (b : Bool) (sec : Nat) : Bool := if b then decide (64 ≤ sec ∧ sec < 128) else decide (sec < 64)

/-- Sectors of a firmware half. -/
def halfSectors (b : Bool) (sec : Nat) : Bool := if b then decide (4096 ≤ sec ∧ sec < 7936) else decide (256 ≤ sec ∧ sec < 4096)

/-- The sector is protected: the boot block selected for this start-up, the firmware half in use, both halves in a probation, the factory
sector (R382, R412) (in part DEDUCED, notes/assumptions/39). -/
def cfProtected (s : State) (sec : Nat) : Bool :=
  bootSectors s.startup.twin sec || halfSectors s.fw.running sec || (s.fw.phase == .probation && halfSectors (!s.fw.running) sec)
    || sec == secFactory

/-- A slot of the last-words ring lies in the sector. -/
def ringHolds (s : State) (sec : Nat) : Bool := (ringWithout s.recorder sec).length != s.recorder.ring.length

/-- The word is blank: nothing programmed at it, and its sector holds no boot block, image or ring record
(in part DEDUCED, notes/assumptions/39). -/
def cfWordBlank (s : State) (a : Nat) : Bool :=
  let sec := a / 512
  cfBlank s a && !(s.fw.boot0 && bootSectors false sec) && !(s.fw.boot1 && bootSectors true sec)
    && !(s.fw.imageA.isSome && halfSectors false sec) && !(s.fw.imageB.isSome && halfSectors true sec)
    && !(decide (138 ≤ sec ∧ sec ≤ 140) && ringHolds s sec)

/-- The masthead can call the routine: it runs, and no call is in progress (R381, R382). -/
def romFree (s : State) : Bool := coreUp s && s.cf.op != .program && s.cf.op != .erase

/-- Words of the array, by byte address. -/
def cfBytes : Nat := 0x2000000

/-- CF_PROGRAM (R382, R388): the refusals of Table 16-2, else the pulse begins (in part DEDUCED, notes/assumptions/39). -/
def execCfProgram (address : Nat) (data : DWord) (s : State) : Result :=
  let a := address / 8
  .next (if !romFree s then s
    else if address % 8 ≠ 0 ∨ cfBytes ≤ address then romReturn s romRange 0
    else if cfProtected s (a / 512) then romReturn s romProtected 0
    else if s.cf.suspended = some (a / 512) then romReturn s romBusy 0
    else if !cfWordBlank s a then romReturn s romNotBlank 0
    else if s.cf.blocked then romReturn { s with cf := { s.cf with notDone := true } } romNotDone 0
    else { s with cf := { s.cf with op := .program, sector := a / 512, target := some (a, data) } })

/-- CF_ERASE (R382): the masthead starts none in SAVE (R387) (in part DEDUCED, notes/assumptions/39). -/
def execCfErase (sector : Nat) (s : State) : Result :=
  .next (if !romFree s || saving s then s
    else if 8192 ≤ sector then romReturn s romRange 0
    else if cfProtected s sector then romReturn s romProtected 0
    else if s.cf.suspended.isSome then romReturn s romBusy 0
    else if s.cf.blocked then romReturn { s with cf := { s.cf with notDone := true } } romNotDone 0
    else { s with cf := { s.cf with op := .erase, sector := sector, target := none } })

/-- CF_RESUME (R382, R387): the suspended erase runs on (in part DEDUCED, notes/assumptions/39). -/
def execCfResume (s : State) : Result :=
  .next (if !romFree s || saving s then s
    else match s.cf.suspended with
      | none => romReturn s romRange 0
      | some sec =>
        if s.cf.blocked then romReturn { s with cf := { s.cf with notDone := true } } romNotDone 0
        else { s with cf := { s.cf with op := .erase, sector := sec, suspended := none, target := none } })

/-- CF_STATUS (R382). -/
def execCfStatus (s : State) : Result :=
  .next (if romFree s then romReturn s romOk (regCfStat s).toNat else s)

/-- CF_OPERATION_COMPLETE (R379, R384, R385): the program or erase in progress ends and its call returns OK; repair list entries that
waited for it are programmed. -/
def execCfOperationComplete (s : State) : Result :=
  .next (match s.cf.op, s.cf.target with
    | .program, some (a, d) =>
      let t := cfPut s a d
      programHeld (romReturn { t with cf := cfIdle t.cf false } romOk 0)
    | .erase, _ =>
      let t := sectorGone (cfEraseSector s s.cf.sector) s.cf.sector
      programHeld (romReturn { t with cf := cfIdle t.cf false } romOk 0)
    | _, _ => s)

/-- CF_BROWNOUT (R388): the pulse in progress ends NOT_DONE with free contents, and new pulses are blocked. -/
def execCfBrownout (s : State) : Result :=
  .next (if !coreUp s then s
    else
      let t := if s.cf.op = .program ∨ s.cf.op = .erase then romReturn (cfPowerLoss s) romNotDone 0 else s
      { t with cf := { t.cf with blocked := true } })

/-- CF_ACCESS_REFUSED (R381). -/
def execCfAccessRefused (s : State) : Result :=
  .next (if coreUp s then logEvent { s with cf := { s.cf with refusedAccess := true } } 0x0083 2 [] else s)

end Sys2Proof.Machine
end

