-- ==== Sys2Proof/Machine/HostLink.lean ====
section
/-! DEFINITION. Commands of the host links: resets, training, degradation and lane retirement, GPF, IDLE, and the HDM decoders
(R61–R67, R77, R345, R349, R419, R463). -/

namespace Sys2Proof.Machine

open Sys2Proof

/-- A link goes down (R65): not acted on while a save or a lowering holds it in electrical idle (Table 03-3, Table 07-6)
(in part DEDUCED, notes/assumptions/67). -/
def takeLinkDown (s : State) (l : Link) : State :=
  if s.host.link[l].heldIdle || saving s then s else linkGone (linkReset s l) l

/-- PERST_ASSERT (R65): every link of the port. -/
def execPerstAssert (port : Fin 4) (s : State) : Result :=
  .next (takeLinkDown (takeLinkDown s (Fin.ofNat 8 (2 * port.val))) (Fin.ofNat 8 (2 * port.val + 1)))

/-- LINK_DOWN (R65). -/
def execLinkDown (link : Link) (s : State) : Result := .next (takeLinkDown s link)

/-- HOT_RESET (R65) (in part DEDUCED, notes/assumptions/67). -/
def execHotReset (link : Link) (s : State) : Result := .next (takeLinkDown s link)

/-- CXL_RESET (R66): the function's state and its requests, as for PERST_N; the link stays trained, so the event logs are written
again at once (in part DEDUCED, notes/assumptions/67). -/
def execCxlReset (link : Link) (s : State) : Result :=
  .next (if s.host.link[link].heldIdle then s else rewriteLogs (linkReset s link) link)

/-- REFCLK_FAULT (R463): every link of the port is down (in part DEDUCED, notes/assumptions/67). -/
def execRefclkFault (port : Fin 4) (s : State) : Result :=
  .next (takeLinkDown (takeLinkDown s (Fin.ofNat 8 (2 * port.val))) (Fin.ofNat 8 (2 * port.val + 1)))

/-- The host PHY rails are up and nothing holds the link in electrical idle; an x16 port uses Pn.0 alone (R61, Table 03-3). -/
def mayTrain (s : State) (l : Link) : Bool :=
  coreUp s && !saving s && s.rails.rail[3].run == .qualified && s.rails.rail[4].run == .qualified && !s.host.link[l].heldIdle
    && (decide (l.val % 2 = 0) || onSplitPort s l)

/-- Memory_Active on a link that trains now (Table 03-3): step 9 has been reached and no minimal profile or CROCUS runs
(in part DEDUCED, notes/assumptions/68). -/
def memReady (s : State) : Bool :=
  s.startup.step9At.isSome && !s.power.starting && !s.power.minimal && (s.power.state == .run || s.power.state == .restore)
    && !s.security.lowering

/-- Lanes of a link at its full width. -/
def fullWidth (s : State) (l : Link) : Nat := if onSplitPort s l then 8 else 16

/-- The partner of a revision number: 3.1, 2.0 or 1.1. -/
def partnerOf (r : Fin 3) : Partner := if r = 0 then .r31 else if r = 1 then .r20 else .r11

/-- A link below its full width: LINK_DEGRADED, and a lane margin test (R63) (in part DEDUCED, notes/assumptions/68). -/
def degraded (s : State) (l : Link) : State :=
  if s.host.link[l].width < fullWidth s l then queueTest (raise s 0x0201 []) (.link l) none else s

/-- The interval of unavailability that ends with Memory_Active on a retrained link (Table 14-6). -/
def linkBack (s : State) : State := if memReady s && s.faults.interval.isSome then endInterval s else s

/-- LINK_TRAINED (R62–R65): the link offers CXL.io at its trained width, and notices still pending go into its logs again
(in part DEDUCED, notes/assumptions/49; DEDUCED, notes/assumptions/68). -/
def execLinkTrained (link : Link) (width : Nat) (revision : Fin 3) (s : State) : Result :=
  .next (if mayTrain s link then
      let act := memReady s
      let s := { s with
        host := { s.host with link := vecMod s.host.link link fun k =>
          { k with trained := true, width := min width (fullWidth s link), partner := partnerOf revision, offersIo := true,
                   memActive := act, resting := false } },
        power := { s.power with idle := false },
        startup := { s.startup with offeredAt := some (s.startup.offeredAt.getD s.clock.now) } }
      rewriteLogs (linkBack (degraded s link)) link
    else s)

/-- LINK_ERROR_BURST (R345): a lane margin test of the link. -/
def execLinkErrorBurst (link : Link) (s : State) : Result :=
  .next (if s.host.link[link].trained then queueTest s (.link link) none else s)

/-- One lane is retired (R349, Table 14-2) (in part DEDUCED, notes/assumptions/68). -/
def retireLane (s : State) (l : Link) (width : Nat) (lane : Fin 16) : State :=
  if s.faults.retiredLanes.contains (l, lane) then s
  else raise { s with faults := { s.faults with retiredLanes := s.faults.retiredLanes ++ [(l, lane)] } } 0x0A02 [l.val, lane.val, width]

/-- LANE_MARGIN_TEST_COMPLETE (R349, R352): the lanes that the test retires, and the width the link is retrained at without them. -/
def execLaneMarginTestComplete (link : Link) (failing : List (Fin 16)) (width : Nat) (s : State) : Result :=
  .next (match runningTest s (.link link) with
    | none => s
    | some t =>
      if failing.isEmpty then endTest (countTransient s (.link link)) t true
      else
        let s := endTest (failing.foldl (fun s x => retireLane s link width x) s) t false
        let s := { s with host := { s.host with link := vecMod s.host.link link fun k => { k with width := min k.width width } } }
        raise s 0x0201 [])

/-- GPF_PHASE2 (R62, R77): answered without flushing anything, in RESTORE as well. -/
def execGpfPhase2 (link : Link) (s : State) : Result :=
  .next (if s.host.link[link].offersIo && s.host.link[link].partner != .r11 && coreUp s then emit s (.gpfResponse link) else s)

/-! ## IDLE (R419) -/

/-- Every physical rank of a channel sleeps; index 2 × subchannel + rank. -/
def allAsleep (pranks : Nat) (d : ChanAccess) : Bool :=
  (fins 4).all fun i => decide (i.val % 2 ≥ pranks) || d.powerDown[i]

/-- The condition of IDLE (in part DEDUCED, notes/assumptions/50). -/
def idleCondition (s : State) : Bool :=
  s.power.state == .run && !s.power.minimal && match s.startup.settings with
    | some c => (fins 17).all (fun i => s.dram.ch[i].run != .inService || allAsleep c.dramPranks s.dram.acc[i])
        && s.host.link.toList.all fun k => !k.trained || k.resting
    | none => false

/-- QV_STATE.IDLE follows its condition. -/
def updateIdle (s : State) : State := { s with power := { s.power with idle := idleCondition s } }

/-- LINK_L1_OR_L0P_CHANGE (R419). -/
def execLinkL1OrL0pChange (link : Link) (resting : Bool) (s : State) : Result :=
  .next (if s.host.link[link].trained then
      updateIdle { s with host := { s.host with link := vecMod s.host.link link fun k => { k with resting := resting } } }
    else s)

/-! ## HDM decoders (R60, R67) -/

/-- Decoders of a link: 32 on an x16 link, 16 on an x8 link. -/
def decoderCount (s : State) (l : Link) : Nat := if onSplitPort s l then 16 else 32

/-- Interleave ways that the HDM decoders support (R67). -/
def hdmWays : List Nat := [1, 2, 3, 4, 6, 8, 12, 16]

/-- Interleave granularities that the HDM decoders support: powers of two from 256 bytes to 16 KiB (R67). -/
def hdmGranularity : List Nat := [256, 512, 1024, 2048, 4096, 8192, 16384]

/-- Interleave ways of R67. -/
def waysOk (n : Nat) : Bool := hdmWays.contains n

/-- Interleave granularity of R67: powers of two from 256 bytes to 16 KiB. -/
def granOk (n : Nat) : Bool := hdmGranularity.contains n

/-- The decoder is locked. -/
def decoderLocked (s : State) (l : Link) (index : Nat) : Bool := s.host.link[l].decoders.any fun d => d.index == index && d.locked

/-- HDM_DECODER_COMMIT (R67): a decoder of the function takes a range, unless it is locked or outside what the function supports. -/
def execHdmDecoderCommit (link : Link) (index base size dpaBase ways gran : Nat) (locked : Bool) (s : State) : Result :=
  .next (if s.host.link[link].offersIo && s.host.link[link].partner != .r11 && coreUp s && decide (index < decoderCount s link)
        && waysOk ways && granOk gran && !decoderLocked s link index then
      let d : Decoder := { index := index, base := base, size := size, dpaBase := dpaBase, ways := ways, gran := gran, committed := true,
                           locked := locked }
      { s with host := { s.host with link := vecMod s.host.link link fun k =>
          { k with decoders := (k.decoders.filter fun x => x.index != index) ++ [d] } } }
    else s)

end Sys2Proof.Machine
end

