-- ==== Sys2Proof/Machine/ConfigSpace.lean ====
section
/-! DEFINITION. A link function's configuration space and capability structures, its Media Status, and what host software sets outside
BAR2: the MSI-X table in BAR4, DVSEC Range 1 and Bus Master Enable (R3, R60–R62, R77, R85, R86, R495–R497, R509, Tables 03-1, 22-1,
22-2). -/

namespace Sys2Proof.Machine

open Sys2Proof

/-! ## Media Status (R497) -/

/-- Memory Device Status.MediaStatus: 0 Not Ready, 1 Ready, 2 Error, 3 Disabled. Admission that is stopped for another reason than the
three of R497 leaves it Not Ready. -/
def mediaStatus (s : State) (l : Link) : Nat :=
  if s.power.minimal || inCrocus s then 3
  else if s.security.lowering || s.shroud.channel2.isSome || s.flash.capGone || s.save.trigger == some .noDonor && s.host.stopped then 2
  else if s.host.link[l].memActive && !s.host.stopped && !s.restore.hold then 1
  else 0

/-! ## Configuration space (R3, R61, R496) -/

/-- What the function of a link reports (Table 22-2); a feature marked "No" in Table 03-1 has no structure, or reads 0
(in part DEDUCED, notes/assumptions/49; DESIGN CHOICE, notes/assumptions/101). -/
def functionConfig (s : State) (l : Link) : FnConfig :=
  { classCode := 0x050210, serial := (List.range 8).map Config.dieId, barSizes := [131072, 65536, 16384], msixVectors := 8,
    memCapable := true, ioCapable := true, cacheCapable := false, hdmCount := 1,
    range1Base := s.host.link[l].range1, range1Size := hvBytes s, range2Size := 0, memActive := s.host.link[l].memActive,
    multiLogical := false, memClearCapable := false, gpfPhase2Us := 5, gpfPhase2Mw := 0,
    locator := [(0, 0x0), (0, 0x10000), (2, 0x0)], decoders := decoderCount s l, ways := hdmWays, granularity := hdmGranularity,
    persistent := hvBytes s, isVolatile := 0, mediaStatus := mediaStatus s l }

/-! ## MSI-X (R86, Tables 03-12 and 22-1) -/

/-- Changes a link. -/
def setLink (s : State) (l : Link) (f : HostLink → HostLink) : State :=
  { s with host := { s.host with link := vecMod s.host.link l f } }

/-- Vector Control of a vector: masked, or unmasked, whereupon a pending message is sent and its pending bit cleared (R86)
(in part PRESUMED, notes/assumptions/106). -/
def maskVector (s : State) (l : Link) (v : Fin 8) (on : Bool) : State :=
  let k := s.host.link[l]
  let b : Byte := 1#8 <<< v.val
  if on then setLink s l fun k => { k with msixMask := k.msixMask ||| b }
  else
    let s := setLink s l fun k => { k with msixMask := k.msixMask &&& ~~~b, msixPend := k.msixPend &&& ~~~b }
    if k.msixMask.getLsbD v.val && k.msixPend.getLsbD v.val then emit s (.msix l v.val) else s

/-- A 4-byte word of an MSI-X table entry: message address, address above 4 GiB, message data, Vector Control
(in part PRESUMED, notes/assumptions/106). -/
def writeVector (s : State) (l : Link) (off : Nat) (v : Word) : State :=
  let i := off / 16 % 8
  let e := s.host.link[l].msixTable.getD i (0, 0)
  let put := fun (x : DWord × Word) => setLink s l fun k => { k with msixTable := k.msixTable.set i x }
  if off % 16 = 0 then put (BitVec.ofNat 64 (e.1.toNat / 2 ^ 32 * 2 ^ 32 + v.toNat), e.2)
  else if off % 16 = 4 then put (BitVec.ofNat 64 (v.toNat * 2 ^ 32 + e.1.toNat % 2 ^ 32), e.2)
  else if off % 16 = 8 then put (e.1, v)
  else maskVector s l (Fin.ofNat 8 i) (v.getLsbD 0)

/-! ## Writes outside BAR2 (in part DESIGN CHOICE, notes/assumptions/101) -/

/-- One 4-byte word: BAR4 from 0 on, with the MSI-X table at its start; behind its 16 KiB the base of DVSEC Range 1, 256 MiB aligned, low
and high word, and the command register with Bus Master Enable in bit 2 (R62, R85)
(in part DESIGN CHOICE, notes/assumptions/101). -/
def writeBeyondWord (s : State) (l : Link) (off : Nat) (v : Word) : State :=
  if off < 128 then writeVector s l off v
  else if off = 0x4000 then setLink s l fun k => { k with range1 := k.range1 / 2 ^ 32 * 2 ^ 32 + v.toNat / 2 ^ 28 * 2 ^ 28 }
  else if off = 0x4004 then setLink s l fun k => { k with range1 := v.toNat * 2 ^ 32 + k.range1 % 2 ^ 32 }
  else if off = 0x4008 then setLink s l fun k => { k with busMaster := v.getLsbD 2 }
  else s

/-- A naturally aligned access of 4 or 8 bytes; others leave these registers as they are
(in part DESIGN CHOICE, notes/assumptions/101). -/
def writeBeyond (s : State) (l : Link) (off size : Nat) (value : DWord) : State :=
  if size = 4 ∧ off % 4 = 0 then writeBeyondWord s l off (value.setWidth 32)
  else if size = 8 ∧ off % 8 = 0 then
    writeBeyondWord (writeBeyondWord s l off (value.setWidth 32)) l (off + 4) (BitVec.ofNat 32 (value.toNat / 2 ^ 32))
  else s

end Sys2Proof.Machine
end

