-- ==== Sys2Proof/Machine/Energy.lean ====
section
/-! DEFINITION. Commands of the energy system: samples, tests, the charger, references and ship mode (R232–R262). -/

namespace Sys2Proof.Machine

open Sys2Proof

/-- A sample of current and voltage reaches the estimator. -/
def takeSample (s : State) (milliamps : Int) (millivolts : Nat) : State :=
  let s := integrate s milliamps
  let s := setPack s fun p => { p with current := milliamps, voltage := millivolts }
  if milliamps.natAbs < 20 then s
  else setPack s fun p => { p with quietSince := s.clock.now, calmSince := s.clock.now, lastRestRef := none, hibernate := false }

/-- PACK_SAMPLE (R232, R233, R241, R260): one reading of current and voltage (in part DEDUCED, notes/assumptions/57). -/
def execPackSample (milliamps : Int) (millivolts : Nat) (s : State) : Result :=
  .next (if s.power.aon then shipReached (taperCheck (voltageCheck (takeSample s milliamps millivolts))) else s)

/-- The pack temperature from its source (R234): −10 °C when neither is plausible (in part DEDUCED, notes/assumptions/57). -/
def setPackTemp (s : State) (ntc remote : Option Int) : State :=
  match ntc, remote with
  | some t, _ => setPack s fun p => { p with temp := t, tempSrc := .ntc }
  | none, some t => setPack s fun p => { p with temp := t, tempSrc := .remote }
  | none, none => setPack s fun p => { p with temp := -100, tempSrc := .none }

/-- Outside 10 °C to 45 °C a quiet period and a rest window end (R247, R250). -/
def tempEndsRest (s : State) : State :=
  if restTemp s then s
  else endWindow (setPack s fun p => { p with calmSince := s.clock.now, lastRestRef := none }) 0 3

/-- PACK_TEMP_SAMPLE (R234, R241, Table 09-2): readings of PK_NTC and of the remote pack sensor in 0.1 °C, none where implausible. -/
def execPackTempSample (ntc remote : Option Int) (s : State) : Result :=
  .next (if s.power.aon then
      let s := setPackTemp s ntc remote
      settlePack (tempEndsRest (chargeWindow (dischargeWindow s (packTemp s)) (packTemp s)))
    else s)

/-- PACK_INSERTED (R257): PK_PRES_N is qualified low. -/
def execPackInserted (s : State) : Result :=
  .next (if s.power.aon && !s.pack.present then
      settlePack (setPack s fun p => { p with
        present := true, presentSince := some s.clock.now, idTried := false, readingDue := true, readingFrom := s.clock.now })
    else { s with pack := { s.pack with present := true } })

/-- PACK_REMOVED (R235): PK_PRES_N is high; a failure when the pack was in service. -/
def execPackRemoved (s : State) : Result :=
  .next (
    let was := s.pack.inService && s.pack.present
    let s := setPack s fun p => { p with present := false, presentSince := none, idTried := false, badVoltSince := none }
    if !s.power.aon then s else if was then failPack s .absent else settlePack s)

/-- The conditions of R236. -/
def qualifies (s : State) : Bool :=
  s.pack.present && s.pack.presentSince.any (fun t => due s t 1000) && decide (10000 ≤ s.pack.voltage ∧ s.pack.voltage ≤ 17200)
    && !s.pack.outWindow && s.pack.idTried && !activeFault s && s.pack.goodSince.any (fun t => due s t 1000)

/-- PACK_QUALIFIED (R236): the pack is in service; a larger ceiling follows at the next update (R46). -/
def execPackQualified (s : State) : Result :=
  .next (if s.power.aon && qualifies s && s.pack.cond != .qualified then
      evalPsub (updateCharger (setPack s fun p => { p with cond := .qualified, failure := none, inService := true }))
    else s)

/-- IMPEDANCE_MEASURE (R232, Table 09-2), in 0.1 mΩ. -/
def execImpedanceMeasure (tenthMilliohm : Nat) (s : State) : Result :=
  .next (if s.power.aon && s.pack.present then
      let s := setPack s fun p => { p with impedance := tenthMilliohm, impedanceAt := some s.clock.opTime }
      match s.startup.settings with
      | some c => if tenthMilliohm > c.pack.rLimit then failPack s .impedance else settlePack s
      | none => s
    else s)

/-- ZERO_CURRENT_CHECK (R236): the measured offset; for its 10 ms the last sample is carried forward, and none starts while a save-start
condition holds. -/
def execZeroCurrentCheck (offsetMilliamps : Int) (s : State) : Result :=
  .next (if s.power.aon && !saveStart s then
      let bad := decide (offsetMilliamps.natAbs > 5)
      let s := setPack (integrateFor s s.pack.current 10) fun p => { p with shuntBad := bad, zeroCheckAt := s.clock.now }
      if bad && s.pack.present then failPack s .shunt else settlePack s
    else s)

/-- PACK_ID_READ (R454): a pair of reads at start-up, at an insertion and every 60 s. -/
def execPackIdRead (first second : Option (List Byte)) (s : State) : Result :=
  .next (if s.power.aon then identityPair s first second else s)

/-- ID_READ (R454, Table 09-10): a pair of reads that a write of 1 to QV_E_CTL.ID_READ starts. -/
def execIdRead (first second : Option (List Byte)) (s : State) : Result :=
  .next (if s.power.aon then identityPair (touchEstimator s) first second else s)

/-- CB_TEST in a capacitance test: high for 200 ms once the leakage check of 60 s is over (R239). -/
def drawTest (s : State) : State :=
  if s.bank.testing then
    setBank s fun b => { b with cbTest := due s s.bank.testFrom 60000 && !due s s.bank.testFrom 60200 }
  else s

/-- BANK_SAMPLE (R237–R240). -/
def execBankSample (millivolts : Nat) (s : State) : Result :=
  .next (if s.power.aon then
      let s := drawTest (setBank s fun b => { b with voltage := millivolts })
      let r := slowCharge s
      let s := setBank s fun b => { b with lowSince := r.1 }
      let fails := (r.2 || decide (millivolts > 40000)) && (s.bank.run == .charging || s.bank.run == .qualified)
      let again := (r.2 || decide (millivolts > 40000)) && s.bank.run == .failed
      let s := if again then setBank s fun b => { b with passed := false } else s
      shipDrained (updateBank (bankReturns (bankLoss (if fails then failBank s else s))))
    else s)

/-- A capacitance test starts (R239): CB_EN is held low for the leakage check; none starts while a save-start condition holds
(in part DEDUCED, notes/assumptions/57). -/
def startCapTest (s : State) : State :=
  if s.power.aon && !saveStart s && !s.bank.testing && s.bank.run != .absent && s.startup.settings.isSome && s.pack.shipStep == 0 then
    let s := setPack s fun p => { p with hibernate := false }
    updateBank (setBank s fun b => { b with testing := true, testFrom := s.clock.now, testV := b.voltage, startedLow := false })
  else s

/-- CAP_TEST (R239). -/
def execCapTest (s : State) : Result := .next (startCapTest s)

/-- c_meas in mF from the test current in mA and the fall in mV over 200 ms (R239) (in part DESIGN CHOICE, notes/assumptions/37). -/
def capacitance (s : State) (testI drop : Nat) : Nat × State :=
  if drop = 0 then (Config.zeroDropCapacitance s.fresh, { s with fresh := s.fresh + 1 }) else (testI * 200 / drop, s)

/-- The test's result: a pass, or a failed bank (R240). -/
def capResult (s : State) (b : BankSet) (leak drop : Nat) : State :=
  let r := capacitance s b.testI drop
  let s := setBank r.2 fun k => { k with cMeas := r.1, testAt := some s.clock.opTime, testing := false, cbTest := false }
  if leak > 500 ∨ s.bank.cMeas < b.cMin then (if s.bank.run = .failed then setBank s fun k => { k with passed := false } else failBank s)
  else updateBank (bankReturns (bankLoss (setBank s fun k => { k with passed := k.run == .failed })))

/-- CAP_TEST_COMPLETE (R239, R240): 60 s of leakage check and 200 ms of test current have passed. -/
def execCapTestComplete (leakMillivolts dropMillivolts : Nat) (s : State) : Result :=
  .next (match s.startup.settings with
    | some c => match c.bank with
      | some b => if s.bank.testing && due s s.bank.testFrom 60200 then capResult s b leakMillivolts dropMillivolts else s
      | none => s
    | none => s)

/-- A charger that does not acknowledge holds CHG_EN low until its set points have been written (R453); logged
(in part DEDUCED, notes/assumptions/58). -/
def chargerSilent (s : State) : State :=
  let s := { s with lb := { s.lb with nack := satAdd 8 s.lb.nack 1, lastAddr := 0x09, chargerSet := false } }
  updateCharger (logEvent s (Config.unnamedEvent 0) 1 [])

/-- STATUS of the charger (Table 19-4). -/
def chargerStatus (s : State) (w : BitVec 16) : State :=
  let fault := w.getLsbD 1 || w.getLsbD 2 || w.getLsbD 3
  let s := { s with charger := { s.charger with fault := fault }, lb := { s.lb with chargerSet := true } }
  let s := if fault && s.pack.present then failPack s .charger else settlePack s
  if w.getLsbD 0 then terminateCharge s else s

/-- A STATUS read of the charger (R453): none where it does not acknowledge. -/
def pollCharger (s : State) (status : Option (BitVec 16)) : State :=
  if s.power.aon && s.lb.state == .inService && s.startup.settings.isSome then
    match status with
    | some w => chargerStatus s w
    | none => chargerSilent s
  else s

/-- CHARGER_STATUS_POLL (R242, R453): the set points are written first where they are owed (in part DEDUCED, notes/assumptions/58). -/
def execChargerStatusPoll (status : Option (BitVec 16)) (s : State) : Result := .next (pollCharger s status)

/-- CHARGE_HELD (R243): at most once in 24 h. -/
def execChargeHeld (s : State) : Result :=
  .next (if s.power.aon && s.charger.heldSince.any (fun t => due s t 3600000) && !s.charger.heldSent.any (fun t => !due s t dayMs) then
      raise { s with charger := { s.charger with heldSent := some s.clock.now } } 0x060A [signedBits 32 (packTemp s), socX s]
    else s)

/-- The conditions of a rest reference (R247): 600 s of quiet, or 1 h since the last one of the same quiet period. -/
def restReady (s : State) : Bool :=
  decide (s.pack.current.natAbs < 20) && s.charger.run != .charging && restTemp s && due s (max s.pack.quietSince s.pack.calmSince) 600000
    && (match s.pack.lastRestRef with
        | some t => due s t 3600000
        | none => true)

/-- REST_REFERENCE (R247, Table 09-3): 100 voltage samples over 1 s give their mean. -/
def execRestReference (millivolts : Nat) (s : State) : Result :=
  .next (match s.startup.settings with
    | some c =>
      if s.power.aon && restReady s then
        let s := voltageReference s c millivolts c.pack.uRest .rest
        let s := setPack s fun p =>
          { p with restDue := false, restOcv := millivolts, restTime := s.clock.opTime, lastRestRef := some s.clock.now }
        endWindow s 1 0
      else s
    | none => s)

/-- The conditions of a start-up or insertion reading (R248): below 20 mA for 2 s, and 10 °C to 45 °C
(in part DEDUCED, notes/assumptions/57). -/
def readingQuiet (s : State) : Bool :=
  decide (s.pack.current.natAbs < 20) && due s (max s.pack.quietSince s.pack.readingFrom) 2000 && restTemp s

/-- STARTUP_READING (R248): at a start-up from OFF and at each insertion, once its conditions hold or 5 s have passed without them.
REST_DUE stays as it was: R247 clears it at a rest reference (in part DESIGN CHOICE, notes/assumptions/102). -/
def execStartupReading (millivolts : Nat) (s : State) : Result :=
  .next (match s.startup.settings with
    | some c =>
      if s.power.aon && s.pack.present && s.pack.readingDue && s.charger.run != .charging
          && (readingQuiet s || due s s.pack.readingFrom 5000) then
        updateCharger (voltageReference s c millivolts (if readingQuiet s then c.pack.uStart else 250) .reading)
      else s
    | none => s)

/-- h, u and C of REST_REQUEST (Table 09-14) (in part DESIGN CHOICE, notes/assumptions/15). -/
def restPayload (s : State) : List Nat := [floorNat (hoursSince s), uTenths s, mibDown s.persist.ceiling.c]

/-- REST_DUE (R249): h reaches 72 h (in part DESIGN CHOICE, notes/assumptions/3). -/
def execRestDue (s : State) : Result :=
  .next (if s.power.aon && s.startup.settings.isSome && !s.pack.restDue && decide (hoursSince s ≥ 72) then
      let s := blockChanged (setPack s fun p => { p with restDue := true, restReqAt := s.clock.now })
      raise s 0x0607 (restPayload s)
    else s)

/-- REST_REQUEST (R249): again every 24 h while REST_DUE stays set. -/
def execRestRequest (s : State) : Result :=
  .next (if s.power.aon && s.pack.restDue && due s s.pack.restReqAt dayMs then
      raise (setPack s fun p => { p with restReqAt := s.clock.now }) 0x0607 (restPayload s)
    else s)

/-- REST_WINDOW_TIMEOUT (R250): 1,800 s from step 2 without step 4. -/
def execRestWindowTimeout (s : State) : Result :=
  .next (if due s s.pack.restFrom 1800000 then endWindow s 0 5 else s)

/-- ESB_CHANGED (R254): at most once per 10 min. -/
def execEsbChanged (s : State) : Result :=
  .next (if s.power.sram && s.pack.esbDirty && !s.pack.esbSentAt.any (fun t => !due s t 600000) then
      raise (setPack s fun p => { p with esbDirty := false, esbSentAt := some s.clock.now }) 0x0608 [s.pack.changeSeq]
    else s)

/-- ESTIMATOR_HIBERNATE (R260): 60 s below 20 mA and without an access; never in a rest window, a capacitance test or SAVE. -/
def execEstimatorHibernate (s : State) : Result :=
  .next (if s.power.aon && due s s.pack.quietSince 60000 && due s s.pack.accessAt 60000 && !s.pack.restActive && !s.bank.testing && !saving s then
      setPack s fun p => { p with hibernate := true }
    else s)

/-- ESTIMATOR_WAKE (R260): the comparator sees 20 mA or more. -/
def execEstimatorWake (s : State) : Result :=
  .next (if s.power.aon then
      setPack s fun p => { p with hibernate := false, quietSince := s.clock.now, calmSince := s.clock.now, lastRestRef := none }
    else s)

/-- SHIP_FAILED (R262): the pack voltage has not fallen below 1.0 V within 1 s of step 3 (in part DEDUCED, notes/assumptions/58). -/
def execShipFailed (s : State) : Result :=
  .next (if s.power.aon && s.pack.shipStep == 3 && due s s.pack.shipAt 1000 && decide (s.pack.voltage ≥ 1000) then
      updateCharger (updateBank (raise (setPack s fun p => { p with ship := false, shipStep := 0 }) 0x0606 [s.pack.voltage]))
    else s)

end Sys2Proof.Machine
end

