-- ==== Sys2Proof/Machine/Notice.lean ====
section
/-! DEFINITION. Commands on notices: delivery, re-announcement, disregard and the ring registers (R340–R343). -/

namespace Sys2Proof.Machine

open Sys2Proof

/-- Notices wait for the swap of the engine that has them, or of the port engine of a link (R23)
(in part DESIGN CHOICE, notes/assumptions/108). -/
def noticesWait (s : State) : Carrier → Bool
  | .mailbox l | .vdm l => swapWaits s (.mgmt Config.noticeEngine) || portWaits s l
  | .smbus => swapWaits s (.mgmt Config.noticeEngine)

/-- NOTICE_DELIVER (R84, R85, R341, R342): the next pending notice is sent on a carrier, unless notices wait for a swap (R23)
(in part DESIGN CHOICE, notes/assumptions/32). -/
def execNoticeDeliver (carrier : Carrier) (s : State) : Result :=
  .next (if noticesWait s carrier then s
    else match carrier with
      | .smbus => sendNextNotice s
      | _ => deliverNext s carrier)

/-- NOTICE_REANNOUNCE (R342): a class 0 or 1 notice that awaits NOTICE_ACK is announced by MSI-X on every link whose ring or log
holds it, and by SB_ALERT_N, once its interval has passed since the last time. -/
def execNoticeReannounce (seq : Word) (s : State) : Result :=
  .next (match s.notices.pend.find? fun n => n.seq == seq with
    | some n =>
      if decide (n.cls ≤ 1) && n.firstAt.isSome && decide (n.announcedAt + announceMs n.cls ≤ s.clock.opTime) && !saving s then
        let s := setNotice s seq fun m => { m with announcedAt := s.clock.opTime, smbHeld := none }
        let s := (n.onLinks.filter (linkCarries s)).foldl (fun s l => signal s l (if ringUsed s l then 5 else 1 + logOf n.cls)) s
        { s with smb := { s.smb with alert := true } }
      else s
    | none => s)

/-- NOTICE_DISREGARDED (R86, R342): the acknowledgement period passes; logged once. -/
def execNoticeDisregarded (seq : Word) (s : State) : Result :=
  .next (match s.notices.pend.find? fun n => n.seq == seq with
    | some n =>
      if decide (n.cls ≤ 1) && !n.disregarded && n.firstAt.any fun t => decide (t + ackMs n.cls ≤ s.clock.opTime) then
        logEvent (setNotice s seq fun m => { m with disregarded := true }) 0x0E81 1 []
      else s
    | none => s)

/-- A size that QV_NRING_SIZE takes (Table 13-9): 0 or a power of two from 16 to 65,536. -/
def ringSizeOk (n : Nat) : Bool := n == 0 || (List.range 13).any fun i => n == 2 ^ (4 + i)

/-- A pending notice goes into a ring that has just been sized: one of class 0 or 1 that meets it full is written once space frees,
one of class 2 or 3 is left out (R343). -/
def fillRing (l : Link) (s : State) (m : Notice) : State :=
  if ringFull s.host.fn[l] then
    setNotice (intoRing s l m) m.seq fun x => if x.cls ≤ 1 then { x with onLinks := x.onLinks.filter fun y => y != l } else x
  else setNotice (intoRing s l m) m.seq (noteDelivery (.mailbox l) s)

/-- A write of QV_NRING_SIZE: HEAD and TAIL 0, phase 1; after a nonzero size every notice still pending is written (R343). -/
def writeRingSize (s : State) (l : Link) (n : Nat) : State :=
  if !ringSizeOk n then s
  else
    let s := setFn s l fun r => { r with ringSize := n, ringHead := 0, ringTail := 0, ringPhase := true }
    let s := { s with notices := { s.notices with pend := s.notices.pend.map fun m =>
      { m with inRings := m.inRings.filter fun x => x != l } } }
    if n = 0 || !linkCarries s l || !ringUsed s l then s
    else retireDelivered ((inOrder s.notices.pend).foldl (fillRing l) s)

/-- NRING_SIZE_WRITE (R343, Table 13-9). -/
def execNringSizeWrite (link : Link) (value : Word) (busMaster : Bool) (s : State) : Result :=
  .next (
    let s := { s with host := { s.host with link := vecMod s.host.link link fun k => { k with busMaster := busMaster } } }
    writeRingSize s link (value.toNat % 2 ^ 17))

end Sys2Proof.Machine
end

