-- ==== Sys2Proof/Machine/ReqTable.lean ====
section
/-! DEFINITION. Writes to the requester table, the windows and the weights, and the commit (R69–R72, Tables 03-4 to 03-8). -/

namespace Sys2Proof.Machine

open Sys2Proof

/-- The function may write the tables (R70, R499): a link of ADMIN_LINKS, not at L2. -/
def tableWriter (s : State) (l : Link) : Bool := blockServes s l && isAdmin s l && s.security.level != .l2

/-- The bytes that an access enables, as a mask of a word: `off` is the offset in the word. -/
def enableMask (off size : Nat) : Word := BitVec.ofNat 32 ((2 ^ (8 * size) - 1) * 2 ^ (8 * off))

/-- A word under a write: the enabled bits of its writable fields take the value. -/
def maskWrite (old val fields enabled : Word) : Word := (old &&& ~~~(fields &&& enabled)) ||| (val &&& (fields &&& enabled))

/-- Writable bits of a requester table entry (Table 03-5). -/
def requesterFields : Word := 0x80FF3FFF

/-- Writable bits of a weight (Table 03-8). -/
def weightFields : Word := 0x000000FF

/-- Writable bits of a window's words, by the offset of the 4-byte half in its 16 bytes (Tables 03-6 and 03-7). -/
def windowFields (n : Nat) : Word := if n = 0 then 0xF0000003 else if n = 4 then 0xFFFFFFFF else if n = 8 then 0xF0000000 else 0xFFFFFFFF

/-- A word of a window after a write to one of its halves. -/
def writeHalf (d : DWord) (high : Bool) (w : Word) : DWord :=
  if high then BitVec.ofNat 64 (w.toNat * 2 ^ 32 + d.toNat % 2 ^ 32) else BitVec.ofNat 64 (d.toNat / 2 ^ 32 * 2 ^ 32 + w.toNat)

/-- A 4-byte word of the shadow copy takes a write. -/
def shadowWord (s : State) (off : Nat) (val enabled : Word) : State :=
  let t := s.rt.shadow
  if 0x4000 ≤ off ∧ off < 0x8000 then
    let id := (off - 0x4000) / 4
    { s with rt := { s.rt with shadow :=
      { t with requesters := kvSet t.requesters id (maskWrite (requesterEntry t id) val requesterFields enabled) } } }
  else if 0x8000 ≤ off ∧ off < 0x10000 then
    let i := (off - 0x8000) / 16
    let w := windowWords s t i
    let high := decide (off / 4 % 2 = 1)
    let second := decide (off / 8 % 2 = 1)
    let d := if second then w.2 else w.1
    let old : Word := if high then BitVec.ofNat 32 (d.toNat / 2 ^ 32) else d.setWidth 32
    let d := writeHalf d high (maskWrite old val (windowFields (off % 16)) enabled)
    { s with rt := { s.rt with shadow := { t with windows := kvSet t.windows i (if second then (w.1, d) else (d, w.2)) } } }
  else if 0x1700 ≤ off ∧ off < 0x1800 then
    let q := (off - 0x1700) / 4
    { s with rt := { s.rt with shadow := { t with weights := kvSet t.weights q (maskWrite (weightWord t q) val weightFields enabled) } } }
  else s

/-- A naturally aligned write to the tables: one word, or two for 8 bytes (R500). -/
def shadowWrite (s : State) (off size : Nat) (value : DWord) : State :=
  if size = 8 then
    shadowWord (shadowWord s off (value.setWidth 32) 0xFFFFFFFF) (off + 4) (BitVec.ofNat 32 (value.toNat / 2 ^ 32)) 0xFFFFFFFF
  else shadowWord s (off / 4 * 4) (BitVec.ofNat 32 (value.toNat * 2 ^ (8 * (off % 4)))) (enableMask (off % 4) size)

/-- The access is of 1, 2, 4 or 8 bytes and naturally aligned. -/
def aligned (off size : Nat) : Bool := (size == 1 || size == 2 || size == 4 || size == 8) && off % size == 0

/-- An offset of the three tables. -/
def inTables (off : Nat) : Bool := decide ((0x4000 ≤ off ∧ off < 0x10000) ∨ (0x1700 ≤ off ∧ off < 0x1800))

/-- A table write: held while COMMIT_BUSY is 1 (R71). -/
def tableWrite (s : State) (l : Link) (off size : Nat) (value : DWord) : State :=
  if !tableWriter s l then s
  else if s.rt.busy then { s with rt := { s.rt with waiting := s.rt.waiting ++ [.write l off size value] } }
  else shadowWrite s off size value

/-- RT_SHADOW_WRITE (R70, R71, R500). -/
def execRtShadowWrite (link : Link) (offset : Nat) (size : Nat) (value : DWord) (s : State) : Result :=
  .next (if aligned offset size && inTables offset then tableWrite s link offset size value else s)

/-- The shadow copy becomes the copy in force; what was held before admission is checked against it (R70). -/
def commitTables (s : State) : State :=
  retrySlots { s with rt := { s.rt with inForce := s.rt.shadow, commitSeq := (s.rt.commitSeq + 1) % 256, busy := true } }

/-- A write of 1 to COMMIT (R70, R71). -/
def commitWrite (s : State) (l : Link) : State :=
  if !tableWriter s l then s
  else if s.rt.busy then { s with rt := { s.rt with waiting := s.rt.waiting ++ [.commit l] } }
  else commitTables s

/-- COMMIT (R70) (in part DEDUCED, notes/assumptions/71). -/
def execCommit (link : Link) (s : State) : Result := .next (commitWrite s link)

/-- What waited for the refill is applied in order, up to the next commit (R71). -/
def applyWaiting (s : State) : List TableOp → State
  | [] => s
  | .write _ off size v :: t => applyWaiting (shadowWrite s off size v) t
  | .commit _ :: t => commitTables { s with rt := { s.rt with waiting := t } }

/-- COMMIT_REFILL_END (R71). -/
def execCommitRefillEnd (s : State) : Result :=
  .next (if s.rt.busy then
      applyWaiting { s with rt := { s.rt with busy := false, waiting := [] } } s.rt.waiting
    else s)

end Sys2Proof.Machine
end

