-- ==== Sys2Proof/Machine/Startup.lean ====
section
/-! DEFINITION. Commands of start-up: the Sheet image and the end of start-up (R311–R321). -/

namespace Sys2Proof.Machine

open Sys2Proof

/-- Attempts of the transfer from a word address that have failed so far. -/
def failedAttempts (s : State) (address : BitVec 16) : Nat := if s.startup.transfer = address then s.startup.attempts else 0

/-- SHEET_TRANSFER_RETRY (R311): an attempt of the transfer from a word address has failed; after the third of one transfer the image is
unreadable. -/
def execSheetTransferRetry (address : BitVec 16) (s : State) : Result :=
  .next (if readingSheet s then
      if failedAttempts s address ≥ 2 then finishSheet s (readSheet none s.startup.fuse80)
      else { s with startup := { s.startup with transfer := address, attempts := failedAttempts s address + 1 } }
    else s)

/-- SHEET_IMAGE_READ (R311, R458): the bus-clear procedure where the local bus was not idle, then the image as read, or none where it
could not be; a stuck bus makes it unreadable. -/
def execSheetImageRead (image : Option (List Byte)) (cleared : Option ClearOutcome) (s : State) : Result :=
  .next (if readingSheet s then
      let t := clearLocal s cleared
      if readingSheet t then finishSheet t (readSheet (if t.lb.state = .stuck then none else image) t.startup.fuse80) else t
    else s)

/-- Start-up has ended: RWL fields are locked (R321). -/
def lockStartup (s : State) : State := { s with startup := { s.startup with locked := true } }

/-- LOCK (R321): a write of 1 to QV_BOOT.LOCK. Writes to the device block take effect in the states that serve BAR2. -/
def execLock (link : Link) (s : State) : Result :=
  .next (if s.host.link[link].offersIo && coreUp s then lockStartup s else s)

/-- STARTUP_END_TIMEOUT (R321): 60 s after step 9, or after the links offered CXL.io in the minimal profile or CROCUS. -/
def execStartupEndTimeout (s : State) : Result :=
  let since := if inMinimal s || inCrocus s then s.startup.offeredAt else s.startup.step9At
  .next (if since.any fun t => due s t 60000 then lockStartup s else s)

end Sys2Proof.Machine
end

