-- ==== Sys2Proof/Machine/DeviceBlock.lean ====
section
/-! DEFINITION. Writes to the device block by register and field, and unaligned accesses (R96, R230, R430, R498–R503, Table 22-3). -/

namespace Sys2Proof.Machine

open Sys2Proof

/-! ## Unaligned accesses (R500) -/

/-- An access that is not naturally aligned is logged, at most once a second for a function. -/
def noteUnaligned (s : State) (l : Link) : State :=
  if s.host.fn[l].unalignedAt.any fun t => !due s t 1000 then s
  else logEvent (setFn s l fun f => { f with unalignedAt := some s.clock.now }) 0x0283 0 []

/-- The function's device block can be reached (R503). -/
def blockReached (s : State) (l : Link) : Bool := s.host.link[l].offersIo && coreUp s

/-- An unaligned read returns all ones; an unaligned write is discarded. -/
def unaligned (s : State) (l : Link) (isWrite : Bool) (off size : Nat) : State :=
  let s := noteUnaligned s l
  if isWrite then s else emit s (.register l off (2 ^ (8 * size) - 1))

/-- UNALIGNED_ACCESS (R500) (in part DEDUCED, notes/assumptions/71). -/
def execUnalignedAccess (link : Link) (isWrite : Bool) (offset size : Nat) (s : State) : Result :=
  .next (if blockReached s link && !aligned offset size then unaligned s link isWrite offset size else s)

/-! ## Fields (R500) -/

/-- An enabled byte of a write holds a 1 in bits [lo + w − 1 : lo]: it clears an RW1C field, and triggers a one-bit WO field. -/
def hits (val en : Word) (lo w : Nat) : Bool := bitsOf (val &&& en).toNat lo w != 0

/-- A field of `w` bits from `lo` under a write to its enabled bytes. -/
def fieldWrite (old : Nat) (val en : Word) (lo w : Nat) : Nat :=
  bitsOf (maskWrite (BitVec.ofNat 32 (old * 2 ^ lo)) val 0xFFFFFFFF en).toNat lo w

/-- A counter that a written 1 clears. -/
def clearIf (old : Nat) (val en : Word) (lo w : Nat) : Nat := if hits val en lo w then 0 else old

/-! ## Registers -/

/-- QV_DC_PD (R96, Table 04-3). -/
def writeDcPd (s : State) (val en : Word) : State :=
  if s.power.minimal then s
  else { s with dram := { s.dram with pdTimer := BitVec.ofNat 16 (fieldWrite s.dram.pdTimer.toNat val en 0 16) } }

/-- DC_PD_WRITE (R96) (in part DEDUCED, notes/assumptions/71). -/
def execDcPdWrite (link : Link) (value : Word) (s : State) : Result :=
  .next (if blockServes s link then writeDcPd s value 0xFFFFFFFF else s)

/-- CLOSE of QV_DBG_STATE (R430, R432): a session ends, or the port is closed at L0 until the next start-up. -/
def closePort (s : State) (l : Link) : State :=
  if !isAdmin s l then s
  else if s.security.dbg = .authenticated then endSession s 5
  else if s.security.level = .l0 then
    { s with security := { s.security with dbg := .closed, closed0 := true } }
  else s

/-- QV_DBG_STATE (Table 18-10). -/
def writeDbg (s : State) (l : Link) (val en : Word) : State :=
  let s := if hits val en 22 1 then { s with security := { s.security with scanRefused := false } } else s
  if hits val en 0 1 then closePort s l else s

/-- QV_RT_CTL (Table 03-4): ADMIN_LINKS until start-up ends, VIEW, COMMIT. -/
def writeRtCtl (s : State) (l : Link) (val en : Word) : State :=
  let lockable := isAdmin s l && !s.startup.locked && s.security.level != .l2
  let s := if lockable then
      { s with rt := { s.rt with adminLinks := BitVec.ofNat 8 (fieldWrite s.rt.adminLinks.toNat val en 24 8) } } else s
  let s := setFn s l fun f => { f with rtView := fieldWrite (bit f.rtView) val en 1 1 == 1 }
  if hits val en 0 1 then commitWrite s l else s

/-- QV_SNAP_CTL (Table 20-5): written together, TAKE acts and RELEASE is ignored. -/
def writeSnapCtl (s : State) (l : Link) (val en : Word) : State :=
  let s := setFn s l fun f => { f with snapGroup := fieldWrite f.snapGroup val en 20 4 }
  if hits val en 0 1 then takeSnapshot s l else if hits val en 1 1 then releaseSnapshot s l else s

/-- The notice ring registers (Tables 13-8 to 13-10). -/
def writeRing (s : State) (l : Link) (off : Nat) (val en : Word) : State :=
  let f := s.host.fn[l]
  let base := f.ringBase.toNat
  if off = 0x0C00 then
    let lo := (maskWrite (BitVec.ofNat 32 base) val 0xFFFFFFC0 en).toNat
    setFn s l fun f => { f with ringBase := BitVec.ofNat 64 (base / 2 ^ 32 * 2 ^ 32 + lo) }
  else if off = 0x0C04 then
    let hi := (maskWrite (BitVec.ofNat 32 (base / 2 ^ 32)) val 0xFFFFFFFF en).toNat
    setFn s l fun f => { f with ringBase := BitVec.ofNat 64 (hi * 2 ^ 32 + base % 2 ^ 32) }
  else if off = 0x0C08 then
    (if bitsOf en.toNat 0 17 = 0 then s else writeRingSize s l (fieldWrite f.ringSize val en 0 17))
  else if off = 0x0C0C then
    let h := fieldWrite f.ringHead val en 0 16
    if h ≥ f.ringSize then s else setFn s l fun f => { f with ringHead := h }
  else setFn s l fun f => { f with ringOverflow := clearIf f.ringOverflow val en 16 16 }

/-- The error counters of the two buses (Tables 19-8, 19-9 and 19-11). -/
def writeBusErrors (s : State) (off : Nat) (val en : Word) : State :=
  let b := s.smb
  let k := s.lb
  if off = 0x1804 then
    { s with smb := { b with rsAck := clearIf b.rsAck val en 24 8, arbSr := clearIf b.arbSr val en 16 8, arb := clearIf b.arb val en 8 8,
                             timeout := clearIf b.timeout val en 0 8 } }
  else if off = 0x1808 then
    { s with smb := { b with pec := clearIf b.pec val en 24 8, nacked := clearIf b.nacked val en 16 8,
                             badCmd := clearIf b.badCmd val en 8 8, clear := clearIf b.clear val en 0 8 } }
  else
    { s with lb := { k with timeout := clearIf k.timeout val en 24 8, nack := clearIf k.nack val en 16 8,
                            clear := clearIf k.clear val en 8 8, skipped := clearIf k.skipped val en 0 8 } }

/-- QV_E_CTL (Table 09-10): CAP_TEST and ID_READ, an access of the estimator (R260). -/
def writeECtl (s : State) (val en : Word) : State :=
  let s := if hits val en 0 2 then touchEstimator s else s
  if hits val en 0 1 then startCapTest s else s

/-- QV_LOG_SEL (Table 15-5). -/
def writeLogSel (s : State) (l : Link) (val en : Word) : State :=
  setFn s l fun r => { r with logSel := maskWrite r.logSel val 0xFFFFFFFF en, logSelState := .fetching }

/-- A write to a 4-byte word of the device block that is not one of the tables; what has no writable field ignores it (R501). -/
def writeReg (s : State) (l : Link) (off : Nat) (val en : Word) : State :=
  if off = 0x0180 then (if hits val en 0 1 then lockStartup s else s)
  else if off = 0x0194 then
    { s with cf := { s.cf with refusedAccess := s.cf.refusedAccess && !hits val en 15 1, corrected := clearIf s.cf.corrected val en 0 8 } }
  else if off = 0x02C4 then { s with restore := { s.restore with isOver := clearIf s.restore.isOver val en 0 8 } }
  else if off = 0x040C then writeECtl s val en
  else if off = 0x0860 then writeDcPd s val en
  else if off = 0x0888 then
    { s with shroud := { s.shroud with mismatch := clearIf s.shroud.mismatch val en 16 16, unrecov := clearIf s.shroud.unrecov val en 0 16 } }
  else if 0x0C00 ≤ off ∧ off ≤ 0x0C10 then writeRing s l off val en
  else if off = 0x0E00 then { s with recorder := { s.recorder with drops := clearIf s.recorder.drops val en 0 16 } }
  else if off = 0x0E0C then writeLogSel s l val en
  else if off = 0x1000 then (if en = 0xFFFFFFFF then writeSecLevel s l val else s)
  else if off = 0x1004 then writeDbg s l val en
  else if off = 0x1210 then { s with fw := { s.fw with crcErr := clearIf s.fw.crcErr val en 0 8 } }
  else if off = 0x1400 then setHoldflag s (fieldWrite (bit s.crossings.holdflag) val en 0 1 == 1)
  else if off = 0x1404 then writeSnapCtl s l val en
  else if off = 0x1600 then writeRtCtl s l val en
  else if off = 0x1804 ∨ off = 0x1808 ∨ off = 0x1814 then writeBusErrors s off val en
  else s

/-- A word write where the register is served; in CROCUS the ROM ignores a write to every other one (R503). -/
def writeServed (s : State) (l : Link) (off : Nat) (val en : Word) : State := if regServes s l off then writeReg s l off val en else s

/-- A naturally aligned write (R500): the tables, one word, or two consecutive words. -/
def writeBlock (s : State) (l : Link) (off size : Nat) (value : DWord) : State :=
  if inTables off then tableWrite s l off size value
  else if size = 8 then
    writeServed (writeServed s l off (value.setWidth 32) 0xFFFFFFFF) l (off + 4) (BitVec.ofNat 32 (value.toNat / 2 ^ 32)) 0xFFFFFFFF
  else
    writeServed s l (off / 4 * 4) (BitVec.ofNat 32 (value.toNat % 2 ^ (8 * size) * 2 ^ (8 * (off % 4)))) (enableMask (off % 4) size)

/-- REGISTER_WRITE (R499–R501): BAR2 from offset 0 on, behind it BAR4 and the registers of configuration space that host software sets
(in part DESIGN CHOICE, notes/assumptions/101; DEDUCED, notes/assumptions/71). -/
def execRegisterWrite (link : Link) (offset size : Nat) (value : DWord) (s : State) : Result :=
  .next (if !blockReached s link then s
    else if 0x10000 ≤ offset then writeBeyond s link (offset - 0x10000) size value
    else if aligned offset size then writeBlock s link offset size value
    else unaligned s link true offset size)

end Sys2Proof.Machine
end

