-- ==== Sys2Proof/Machine/PersistOps.lean ====
section
/-! DEFINITION. The persistence loop: HEAT, the wear governor, the CEIL cause of reefing, and the choice and issue of a flush (R41, R43,
R48, R50–R53, R193, R217, R273, R275). -/

namespace Sys2Proof.Machine

open Sys2Proof

/-- The persistence engine runs: settings in force, DRAM in service, and during a start-up from the end of step 2 on (R308)
(in part DEDUCED, notes/assumptions/25). -/
def loopRuns (s : State) : Bool :=
  coreUp s && !s.power.minimal && !inCrocus s && s.power.dramUp && s.startup.settings.isSome
    && (!s.power.starting || decide (s.startup.step ≥ 2)) && !(s.security.lowering && decide (s.security.step ≥ 1))

/-! ## HEAT (R41) -/

/-- Each region's HEAT gains the granules newly made dirty since the last update, saturating at 255. -/
def addHeat (s : State) : State :=
  let h := s.persist.newDirty.foldl (fun h p => kvSet h p.1 (min 255 (kvGetD h p.1 0 + p.2))) s.persist.heat
  { s with persist := { s.persist with heat := h, newDirty := [] } }

/-- Each region's HEAT is halved, rounding down. -/
def halveHeat (s : State) : State :=
  { s with persist := { s.persist with heat := (s.persist.heat.map fun p => (p.1, p.2 / 2)).filter fun p => p.2 != 0 } }

/-! ## Wear governor (R51, R52) -/

/-- The wear rate in bytes per second, and the capacity of the credit in bytes. -/
def wearRateBytes (c : Settings) : Nat := c.wearRate * 1000000

/-- One day of credit. -/
def wearCapacity (c : Settings) : Int := ((wearRateBytes c * 86400 : Nat) : Int)

/-- The gain of one update, up to the capacity (in part DESIGN CHOICE, notes/assumptions/10). -/
def gainWear (s : State) (c : Settings) : State :=
  let w := s.persist.wear + ((wearRateBytes c / 10 : Nat) : Int)
  let w := if wearCapacity c < w then wearCapacity c else w
  { s with persist := { s.persist with wear := w, wearPos := decide (0 < w) } }

/-- The level of the WEAR cause after an update (R52). -/
def nextWear (s : State) (c : Settings) : Nat :=
  let l := s.thermal.reef.wear
  if l = 0 then (if decide (0 < c.wearMax) && !s.persist.wearPos then 1 else 0)
  else if s.persist.wear * 100 ≥ wearCapacity c then 0
  else if s.persist.fIn * 10 > wearRateBytes c then min c.wearMax (l + 1)
  else max 1 (l - 1)

/-- Steps the WEAR cause; WEAR_REEF when it is set (in part DEDUCED, notes/assumptions/73). -/
def stepWear (s : State) (c : Settings) : State :=
  let l := s.thermal.reef.wear
  let n := nextWear s c
  let s := { s with thermal := { s.thermal with reef := { s.thermal.reef with wear := n } } }
  if l = 0 ∧ n ≠ 0 then raise s 0x0104 [] else s

/-! ## The rate that flush can reach (R50, R217, R273, R275) -/

/-- Flash pause of a level in FLC cycles (Table 10-5). -/
def flashPause (level : Nat) : Nat := [0, 12288, 16384, 24576, 32768, 49152, 65536, 131072].getD level 131072

/-- The highest level among the causes that pause a channel's program starts (Table 10-4); none in SAVE (R274). -/
def pauseLevel (s : State) (ch : FlashCh) : Nat :=
  if saving s then 0 else max s.thermal.reef.die (if s.thermal.nand[ch].isOver then s.thermal.reef.nand else 0)

/-- Host pause of a level in FAB cycles, after each admitted request of the paused kind on a link (Table 10-5, R273). -/
def hostPause (level : Nat) : Nat := [0, 2, 3, 4, 6, 8, 16, 32].getD level 32

/-- DRAM pause of a level in DMC cycles, after each ACTIVATE on a subchannel (Table 10-5, R273). -/
def dramPause (level : Nat) : Nat := [0, 1, 2, 4, 6, 10, 16, 30].getD level 30

/-- The highest level among the causes that pause host admissions of a kind (Table 10-4); none in SAVE (R274). -/
def hostLevel (s : State) (isWrite : Bool) : Nat :=
  let r := s.thermal.reef
  if saving s then 0 else max r.die (max r.dram (if isWrite then max r.ceil r.wear else 0))

/-- The highest level among the causes that pause a channel's activates (Table 10-4); none in SAVE (R274). -/
def dramLevel (s : State) (ch : DramCh) : Nat :=
  if saving s then 0 else max s.thermal.reef.die (if s.thermal.dram[ch].reef then s.thermal.reef.dram else 0)

/-- Bytes per second of program starts on a channel: a page group per pause at 450 MHz, or what its dies take
(in part DEDUCED, notes/assumptions/24). -/
def channelRate (s : State) (ch : FlashCh) : Rat :=
  let dies : Rat := (s.flash.ch[ch].dies.length * 327680000 : Nat)
  if pauseLevel s ch = 0 then dies else ratMin dies ((450000000 * 65536 : Nat) / (flashPause (pauseLevel s ch) : Rat))

/-- bw_save less the effect of flash pauses (in part DEDUCED, notes/assumptions/24). -/
def pausedRate (s : State) : Rat :=
  ratMin (bwSave s) (((fins 32).filter fun c => fcUp s.flash.ch[c]).foldl (fun a c => a + channelRate s c) 0)

/-- r_win, while any granule is absent (R217). -/
def windowRate (s : State) (c : Settings) (r : Rat) : Rat := if someAbsent s then ratMin r ((c.flashDies * 307800000 : Nat) : Rat) else r

/-- The flush rate that the controller can issue (R50) (in part DEDUCED, notes/assumptions/24). -/
def issuableRate (s : State) (c : Settings) : Rat :=
  let r := windowRate s c (pausedRate s)
  if s.persist.wearPos then r else ratMin r (wearRateBytes c : Rat)

/-- H, the high mark. -/
def highMark (s : State) : Rat := 9 / 10 * s.persist.ceiling.c

/-- Steps the CEIL cause (R50) (in part DEDUCED, notes/assumptions/73). -/
def stepCeil (s : State) (c : Settings) : State :=
  let d := (dirtyBytes s : Rat)
  let l := s.thermal.reef.ceil
  let up := decide (d > highMark s) && decide (((s.persist.fIn * 10 : Nat) : Rat) + (d - highMark s) > issuableRate s c)
  { s with thermal := { s.thermal with reef := { s.thermal.reef with ceil := if up then min 7 (l + 1) else l - 1 } } }

/-! ## The update of every 100 ms (R41, R44, R47–R57) -/

/-- The windows of f_in and of the issued programs turn. -/
def turnWindows (s : State) : State :=
  { s with persist := { s.persist with fIn := s.persist.freshBytes, freshBytes := 0, issuedLast := s.persist.issued, issued := 0 } }

/-- One update; the levels of CEIL and WEAR step at most once per 100 ms (R20, R50, R52) (in part DEDUCED, notes/assumptions/25). -/
def loopUpdate (s : State) (c : Settings) : State :=
  let s := updateCeiling (gainWear (addHeat (turnWindows s)) c)
  let s := if due s s.thermal.loopAt 100 then
      stepWear (stepCeil { s with thermal := { s.thermal with loopAt := s.clock.now } } c) c
    else s
  evalPsub s

/-! ## Flush (R43, R48, R52, R53, R150, R193, R217) -/

/-- Bytes per second that a class may issue now (in part DEDUCED, notes/assumptions/24). -/
def classRate (s : State) (c : Settings) : FlushClass → Rat
  | .coverage => bwSave s
  | .holding => if s.persist.wearPos then s.persist.holdRate else ratMin s.persist.holdRate (wearRateBytes c : Rat)
  | .background => 4060000000
  | .none => 0

/-- A flush of one more granule may be issued: within the rate of the class over the present 100 ms, and for background flush above half
of the wear capacity (in part DEDUCED, notes/assumptions/24). -/
def flushAllowed (s : State) (c : Settings) : Bool :=
  let k := flushClass s c s.persist.ceiling
  let r := windowRate s c (ratMin (pausedRate s) (classRate s c k))
  k != .none && decide (((s.persist.issued * 10 : Nat) : Rat) < r)
    && (k != .background || decide (2 * (s.persist.wear - (granuleBytes c : Int)) ≥ wearCapacity c))

/-- The partition of the region table that a region belongs to (Table 01-3): eight of 10,923 regions, then four of 10,922
(in part DEDUCED, notes/assumptions/54). -/
def partitionOf (r : Nat) : Fin 12 := Fin.ofNat 12 (if r < 87384 then r / 10923 else 8 + (r - 87384) / 10922)

/-- The flush of a granule waits for the swap of the engine that has its partition (R23). -/
def partitionWaits (s : State) (g : Nat) : Bool := swapWaits s (.persistence (partitionOf (regionOf g)))

/-- The granule that is flushed next: one in flight waits for its end (R43). In a save the metadata area comes first, and a granule that
was rewritten in flight is written again (R193); in service it comes after the granules of host-visible capacity, whose writes are
timed. A granule waits for the swap of its partition's engine (R23) (in part DESIGN CHOICE, notes/assumptions/13). -/
def flushPick (s : State) : Option Nat :=
  let host := s.persist.dirty.map (·.1)
  (if saving s then metaDirty s ++ host else host ++ metaDirty s).find? fun g => !isInFlight s g && !partitionWaits s g

/-- The rows that the next write uses: the open ones, or newly opened ones. -/
def rowsFor (s : State) (c : Settings) : State := ensureRows s c

/-- A program may be issued on a channel, in the band that is written now or next. -/
def takesFlush (s : State) (c : Settings) (ch : FlashCh) : Bool :=
  match openBand (rowsFor s c) with
  | some b => mayProgram (rowsFor s c) c ch (bandDie c b.num)
  | none => false

/-- The granule is in flight with the given page groups. -/
def putInFlight (s : State) (c : Settings) (g : Nat) (seqs : List Nat) (rows : List (Nat × Nat)) : State :=
  { s with persist := { s.persist with
      inflight := s.persist.inflight ++ [{ granule := g, pages := seqs, rows := rows, rewritten := false,
                                           image := if hvGranules s ≤ g then some (metaImage s) else none }],
      issued := s.persist.issued + granuleBytes c } }

/-- Issues the flush of a granule on a channel: it is read from DRAM with what the check bytes find, and programmed (R43, R129, R150). -/
def issueFlush (s : State) (c : Settings) (ch : FlashCh) (g : Nat) (errs : List (Nat × EccOutcome)) : State :=
  let s1 := rowsFor s c
  match openBand s1 with
  | none => s1
  | some b =>
    if !mayProgram s1 c ch (bandDie c b.num) then s1
    else
      let s2 := eccEffects (flushAccess s1 g) errs fun l => lineGranule s l == g
      match placeOn s2 c ch .granule g (keyIdNow s2) (granuleParts s2 c g) none with
      | none => s1
      | some (t, seqs, rows) => putInFlight (chargeWear t (granuleBytes c)) c g seqs rows

/-! ## Who goes first on a flash channel (R18, R32) -/

/-- A flush may be issued outside a save: service runs, and the class has rate left. -/
def flushRuns (s : State) (c : Settings) : Bool :=
  loopRuns s && !s.power.starting && s.flash.inService && !dramHeld s && flushAllowed s c && (flushPick s).isSome

/-- A flush at the required rate waits for the channel: class 3 of R18 (in part DEDUCED, notes/assumptions/24; DEDUCED,
notes/assumptions/104). -/
def requiredWaits (s : State) (c : Settings) (ch : FlashCh) : Bool :=
  flushRuns s c && flushClass s c s.persist.ceiling != .background && takesFlush s c ch

/-- Work on the restore runs: granules absent, memory and flash in service, no save. -/
def restoreRuns (s : State) : Bool :=
  s.restore.running && s.power.state == .restore && !s.power.starting && s.flash.inService && !s.flash.brownOut && !dramHeld s

/-- The lowest granule of a region that is neither present nor in hand. -/
def nextIn (s : State) (r : Nat) : Option Nat :=
  if s.restore.presentR.contains r || s.restore.lostR.contains r then none
  else ((List.range 1024).map fun i => 1024 * r + i).find? fun g =>
    decide (g < hvGranules s) && !s.restore.presence.contains g && !s.restore.inHand.contains g

/-- The granule that background restore takes next (R215) (in part DEDUCED, notes/assumptions/84). -/
def nextGranule (s : State) : Option Nat :=
  match s.restore.hotOrder.findSome? (nextIn s) with
  | some g => some g
  | none => (List.range (hvRegions s)).findSome? (nextIn s)

/-- The channel that a granule's copy is read from. -/
def copyChannel (s : State) (g : Nat) : Option FlashCh :=
  let e := entryOf s g
  if e.state = .present then some e.ch else none

/-- A background restore read waits for the channel: class 4 of R18 (in part DEDUCED, notes/assumptions/24; DEDUCED,
notes/assumptions/104). -/
def restoreWaits (s : State) (ch : FlashCh) : Bool := restoreRuns s && (nextGranule s).any fun g => copyChannel s g == some ch

/-- Maintenance of the flash waits for the channel: fetches, flush and restore come before class 6 of R18. -/
def flashQuiet (s : State) (c : Settings) (ch : FlashCh) : Bool :=
  !fetchOn s ch && !(flushRuns s c && takesFlush s c ch) && !restoreWaits s ch

/-- The flush engine of a channel looks for work: in phase 4 of a save without a limit, otherwise by class and rate; a background flush
comes after a background restore read (R18, R32). -/
def flushOn (s : State) (ch : FlashCh) (errs : List (Nat × EccOutcome)) : State :=
  match s.startup.settings with
  | none => s
  | some c =>
    let go := if saving s then decide (s.save.phase = 4) && s.flash.inService && !dramHeld s
      else flushRuns s c && (flushClass s c s.persist.ceiling != .background || !restoreWaits s ch)
    if !go then s
    else match flushPick s with
      | none => s
      | some g => issueFlush s c ch g errs

end Sys2Proof.Machine
end

