-- ==== Sys2Proof/Machine/FlashJobs.lean ====
section
/-! DEFINITION. Work on the flash medium behind the flush: program and erase status, copies that move out of a band, refresh, wear
leveling, seals, and the end of step 5 of a start-up (R148–R181, R207, R317, R319, R371). -/

namespace Sys2Proof.Machine

open Sys2Proof

/-! ## Mirrors and moves -/

/-- A mirror lies on a channel that is out of service, or whose die 0 is. -/
def mirrorGone (s : State) (ch : FlashCh) : Bool :=
  s.flash.ch[ch].run == .outOfService || (s.flash.ch[ch].run == .inService && !s.flash.ch[ch].dies.contains 0)

/-- Mirrors that a lost channel or die takes with it (R371). -/
def checkMirrors (s : State) : State :=
  (fins 2).foldl (fun s m => if s.flash.mirrors[m].ok && mirrorGone s s.flash.mirrors[m].ch then mirrorFails s m else s) s

/-- Why a band's live page groups are being moved out. -/
def moveReason (s : State) (n : Nat) : Option MoveReason := (s.flash.moves.find? fun m => m.1 == n).map (·.2)

/-- Step 5 of R167 once every live page group has left, with flash in service. -/
def finishRestripe (s : State) : State := if s.power.starting || !s.flash.inService then s else restripeEnd s

/-- Moves that a save or a reset has stopped begin again: bands on channels out of service, on retired dies and on retired block
sets (R165–R167, R194). -/
def renewMoves (s : State) : State :=
  match s.startup.settings with
  | none => s
  | some c =>
    s.flash.bands.foldl (fun s b =>
      match b.members.find? fun ch => s.flash.ch[ch].run == .outOfService with
      | some ch => moveBand { s with flash := { s.flash with
          restripe := if s.flash.restripe.contains ch then s.flash.restripe else s.flash.restripe ++ [ch] } } b.num (.restripeChannel ch)
      | none => match b.members.find? fun ch => s.flash.retiredDies.contains (ch, bandDie c b.num) with
        | some ch => moveBand s b.num (.restripeDie ch (bandDie c b.num))
        | none =>
          if b.members.any fun ch => (blockOf s ch (bandDie c b.num) (bandSet c b.num)).retired then moveBand s b.num .compaction
          else if b.members.any fun ch => (blockOf s ch (bandDie c b.num) (bandSet c b.num)).withheld then moveBand s b.num .test
          else s) s

/-! ## Program and erase status (R150, R165, R176) -/

/-- A program status failure: the block set is retired, and the page group is written again (R165). -/
def programFails (s : State) (c : Settings) (p : PageGroup) : State :=
  advanceSeal (issueWaiting (checkMirrors (tornPage (retireBlockSet s p.ch (bandDie c p.band) (bandSet c p.band)) c p)))

/-- The row of a page group is closed once every data member has been written and has passed. -/
def closeFullRow (s : State) (c : Settings) (band row : Nat) : State :=
  if (s.flash.openRows.any fun r => r.band == band && r.row == row && rowFull s r)
      && (pagesOfRow s band row).all (fun p => p.passed) then closeRow s c band row
  else s

/-- A copy of the granule has passed with its rows' parity: the working manifest points at it, and its old band is looked at (R166,
R179). A save has abandoned it (R194). -/
def copyPasses (s : State) (g : Nat) : State :=
  if saving s then s
  else
    let old := (entryOf s g).band
    let t := repoint s g
    if entryOf t g = entryOf s g then t else eraseReady (finishRestripe (noteRestriped t old))

/-- The row's parity has passed: it no longer keeps granules in flight, and copies in the row become the granules' copies. -/
def parityPasses (s : State) (band row : Nat) : State :=
  let s := { s with persist := { s.persist with
    inflight := s.persist.inflight.map fun f => { f with rows := f.rows.filter fun r => r != (band, row) } } }
  ((pagesOfRow s band row).filter fun p => p.kind == .compacted).foldl (fun s p => copyPasses s p.index) s

/-- A manifest chunk has passed: it is the chunk's newest copy (R178). -/
def chunkPasses (s : State) (p : PageGroup) : State :=
  let e : Entry := { state := .present, band := p.band, row := p.row, ch := p.ch, seq := p.seq }
  { s with flash := { s.flash with chunkMap := kvSet s.flash.chunkMap p.index e } }

/-- A granule's page group has passed. -/
def granulePasses (s : State) (p : PageGroup) : State :=
  { s with persist := { s.persist with inflight := s.persist.inflight.map fun f =>
      if f.granule = p.index then { f with pages := f.pages.filter fun q => q != p.seq } else f } }

/-- A page group has passed program status (R150, R177): what waited for it goes on, and the LUN takes the next program. -/
def programPasses (s : State) (c : Settings) (p : PageGroup) : State :=
  let s := { s with flash := { s.flash with pages := s.flash.pages.map fun q => if q = p then { q with passed := true } else q } }
  let s := match p.kind with
    | .parity => parityPasses s p.band p.row
    | .compacted => copyPasses s p.index
    | .chunk => chunkPasses s p
    | .root => s
    | .granule => granulePasses s p
  advanceSeal (issueWaiting (finishFlushes (closeFullRow s c p.band p.row)))

/-- The page group in progress of a sequence number. -/
def inProgress (s : State) (seq : Nat) : Option PageGroup := s.flash.pages.find? fun p => p.seq == seq && !p.passed && p.issuedAt.isSome

/-- Stage of LIFE_USED (Table 06-12). -/
def wearStageOf (life : Nat) : Nat := if life ≥ 100 then 3 else if life ≥ 95 then 2 else if life ≥ 80 then 1 else 0

/-- FLASH_WEAR when a stage is reached. -/
def wearNotice (s : State) (c : Settings) : State :=
  let n := wearStageOf (lifeUsed s c)
  if n > s.flash.wearStage then
    raiseClass { s with flash := { s.flash with wearStage := n } } 0x0404 (if n = 1 then 2 else 1) [n]
  else s

/-- The erase in progress of a block set. -/
def eraseOf (s : State) (ch : FlashCh) (die : Fin 16) (idx : Nat) : Option EraseOp :=
  s.flash.erases.find? fun e => e.ch == ch && e.die == die && e.index == idx && !e.suspended

/-- An erase leaves the list. -/
def dropErase (s : State) (ch : FlashCh) (die : Fin 16) (idx : Nat) : State :=
  { s with flash := { s.flash with erases := s.flash.erases.filter fun e => !(e.ch == ch && e.die == die && e.index == idx) } }

/-- The band of a block set returns to the free pool when it was the last one of it. -/
def afterErase (s : State) (c : Settings) (die : Fin 16) (idx : Nat) : State :=
  match bandOfSet c die idx with
  | some n => if (bandOf s n).isSome then dropErasedBand s c n else s
  | none => s

/-- An erase ends (R148, R158, R165, R172): the block set is ERASED with no learned offset, or it is retired. -/
def eraseEnds (s : State) (c : Settings) (ch : FlashCh) (die : Fin 16) (idx : Nat) (pass : Bool) : State :=
  let s := dropErase s ch die idx
  if pass then
    let s := setBlock s ch die idx fun b => { b with run := .erased, erases := b.erases + 1, learned := 0, refresh := false }
    issueWaiting (wearNotice (eraseReady (afterErase s c die idx)) c)
  else checkMirrors (afterErase (retireBlockSet s ch die idx) c die idx)

/-! ## Busy timeouts (R153) -/

/-- A timeout counts toward the die test; the third on one die within 1 s retires the die. -/
def countTimeout (s : State) (ch : FlashCh) (die : Fin 16) : State :=
  let ts := (s.flash.ch[ch].timeouts.filter fun t => decide (s.clock.now < t.2 + 1000)) ++ [(die, s.clock.now)]
  let s := { s with flash := { s.flash with ch := vecMod s.flash.ch ch fun f => { f with timeouts := ts } } }
  if (ts.filter fun t => t.1 == die).length ≥ 3 then checkMirrors (retireDie s ch die) else queueTest s (.die ch die) none

/-! ## Copies (R166, R172–R174, R179, R217) -/

/-- A copy of the granule is being programmed. -/
def copying (s : State) (g : Nat) : Bool := !(openCopy s g).isEmpty

/-- Copies run: flash in service, no save, no start-up. -/
def copiesRun (s : State) : Bool := coreUp s && s.flash.inService && !saving s && !s.power.starting && !s.power.minimal && !s.flash.brownOut

/-- The copy's read or program waits: behind a demand fetch on the channel it is read from, and as class 5 behind the required flush and
background restore (R18). -/
def copyYields (s : State) (c : Settings) (g : Nat) (ch : FlashCh) (low : Bool) : Bool :=
  (copyChannel s g).any (fetchOn s) || (low && (requiredWaits s c ch || restoreWaits s ch))

/-- Moves the live copy of a granule to a channel, where a program may be issued there; `low` says that it is class 5 of R18. -/
def copyTo (s : State) (c : Settings) (g : Nat) (ch : FlashCh) (low : Bool) : State :=
  let s1 := rowsFor s c
  match openBand s1 with
  | none => s1
  | some b =>
    if copying s g || copyYields s c g ch low || !mayProgram s1 c ch (bandDie c b.num) then s1 else copyOut s1 c g ch

/-- The wear credit is above 0 (R173). -/
def wearLeft (s : State) : Bool := decide (0 < s.persist.wear)

/-- A move of a reason may copy now: re-striping without the wear governor, compaction and block tests below the pool's target
likewise, everything else while W is above 0 (R173, R179). -/
def copyAllowed (s : State) (c : Settings) : MoveReason → Bool
  | .restripeDie _ _ | .restripeChannel _ => true
  | .compaction | .test => freeLow s c || wearLeft s
  | .wear | .refresh => wearLeft s

/-- A closed band with at least one stale page group that is not being moved. -/
def compactable (s : State) (b : Band) : Bool := b.closed && !b.moving && !(staleIn s b.num).isEmpty

/-- Live page groups of a band, its manifest chunks among them. -/
def liveCount (s : State) (n : Nat) : Nat := (s.flash.pages.filter fun p => p.band == n && (livePage s p || liveChunk s p)).length

/-- The one with the fewest live page groups (R179). -/
def fewestLive (s : State) : List Band → Option Band
  | [] => none
  | b :: t => match fewestLive s t with
    | none => some b
    | some x => some (if liveCount s b.num ≤ liveCount s x.num then b else x)

/-- The band that compaction starts now, if it may start one. -/
def compactPick (s : State) (c : Settings) : Option Band :=
  if freeLow s c || (decide (freeBands s < poolTarget c + 64) && wearLeft s) then fewestLive s (s.flash.bands.filter (compactable s)) else none

/-- A move belongs to a re-striping (R166, R167). -/
def restriping : MoveReason → Bool
  | .restripeDie _ _ | .restripeChannel _ => true
  | _ => false

/-- Copies a granule of a band that is being moved out, where the move may copy now. -/
def copyMoved (s : State) (c : Settings) (g : Nat) (ch : FlashCh) (r : MoveReason) : State :=
  if copyAllowed s c r then copyTo s c g ch (r != .compaction || !freeLow s c) else s

/-- Starts compacting the band that is picked, with a granule of it; one that holds no granule's copy needs none. -/
def compactPicked (s : State) (c : Settings) (g : Nat) (ch : FlashCh) (band : Nat) : State :=
  match compactPick s c with
  | some b =>
    if b.num = band then copyTo (moveBand s b.num .compaction) c g ch (!freeLow s c)
    else if (liveIn s b.num).isEmpty then moveBand s b.num .compaction else s
  | none => s

/-- Compaction copies a granule: of a band that is being moved out, or of the one it starts now. -/
def compactGranule (s : State) (c : Settings) (g : Nat) (ch : FlashCh) : State :=
  let e := entryOf s g
  if e.state ≠ .present then s
  else match moveReason s e.band with
    | some r => if restriping r then s else copyMoved s c g ch r
    | none => compactPicked s c g ch e.band

/-- Re-striping copies a granule of a band that holds a lost die or channel. -/
def restripeGranule (s : State) (c : Settings) (g : Nat) (ch : FlashCh) : State :=
  let e := entryOf s g
  if e.state ≠ .present then s
  else match moveReason s e.band with
    | some (.restripeDie _ _) | some (.restripeChannel _) => copyTo s c g ch true
    | _ => s

/-! ## Wear leveling and refresh (R172, R174) -/

/-- Block sets in service with their counts. -/
def wearCounts (s : State) : List Nat :=
  (s.flash.blocks.filter fun b => !b.retired && fcUp s.flash.ch[b.ch] && s.flash.ch[b.ch].dies.contains b.die).map (·.erases)

/-- The spread between the highest and the lowest count in service; a set never used counts 0. -/
def wearSpread (s : State) (c : Settings) : Nat :=
  let ns := wearCounts s
  let hi := ns.foldl max 0
  let lo := if ns.length < flashDies s * c.blockSets then 0 else ns.foldl min hi
  hi - lo

/-- Mean erase count of a band. -/
def bandMean (s : State) (c : Settings) (b : Band) : Rat := (bandErases s c b.num : Rat) / (max 1 b.members.length : Nat)

/-- The band with the lowest mean count. -/
def leastMean (s : State) (c : Settings) : List Band → Option Band
  | [] => none
  | b :: t => match leastMean s c t with
    | none => some b
    | some x => some (if bandMean s c b ≤ bandMean s c x then b else x)

/-- A band that holds live page groups is moved when the spread exceeds 1,000. -/
def wearMove (s : State) (c : Settings) : State :=
  if wearSpread s c > 1000 && wearLeft s then
    match leastMean s c (s.flash.bands.filter fun b => b.closed && !b.moving && !(liveIn s b.num).isEmpty) with
    | some b => moveBand s b.num .wear
    | none => s
  else s

/-- A band with a block set queued for refresh. -/
def refreshDue (s : State) (c : Settings) (b : Band) : Bool :=
  b.closed && !b.moving && b.members.any fun ch =>
    let x := blockOf s ch (bandDie c b.num) (bandSet c b.num)
    x.refresh && !x.retired

/-- Bands queued for refresh are moved out, while W is above 0. -/
def startRefresh (s : State) : State :=
  match s.startup.settings with
  | none => s
  | some c =>
    if copiesRun s && wearLeft s then (s.flash.bands.filter (refreshDue s c)).foldl (fun s b => moveBand s b.num .refresh) s else s

/-- Bands that the retention scrub reads: with live data or page groups of a protected generation. -/
def scrubBands (s : State) : List Nat := (s.flash.bands.filter fun b => bandNeeded s b.num).map (·.num)

/-- Bands of the newest generation, which a full scrub reads first (R174, R227). -/
def newestBands (s : State) : List Nat :=
  (s.flash.bands.filter fun b => s.flash.pages.any fun p => p.band == b.num && (newestGen s).any fun g => genNames g p).map (·.num)

/-- The scrub may read the band now: a pass runs or is due, 7 days after the last one began, and of a full scrub the bands of the newest
generation come first (R174). -/
def scrubTurn (s : State) (n : Nat) : Bool :=
  (s.flash.fullScrub || !s.flash.scrubbed.isEmpty || due s s.flash.scrubPassAt 604800000)
    && (scrubBands s).contains n && !s.flash.scrubbed.contains n
    && (!s.flash.fullScrub || (newestBands s).contains n || (newestBands s).all fun x => s.flash.scrubbed.contains x)

/-- No member of the band has work that comes before the scrub (R18, class 6). -/
def scrubQuiet (s : State) (c : Settings) (n : Nat) : Bool := (((bandOf s n).map (·.members)).getD []).all (flashQuiet s c)

/-- A band has been read by the retention scrub; after the last one the pass ends. -/
def scrubBand (s : State) (n : Nat) : State :=
  let s := if s.flash.scrubbed.isEmpty then { s with flash := { s.flash with scrubPassAt := s.clock.now } } else s
  let done := insertNat s.flash.scrubbed n
  if (scrubBands s).all fun x => done.contains x then { s with flash := { s.flash with scrubbed := [], fullScrub := false } }
  else { s with flash := { s.flash with scrubbed := done } }

/-! ## Seals (R177, R178, R207) -/

/-- A checkpoint is due (R178). -/
def checkpointDue (s : State) : Bool :=
  decide (s.flash.flushed ≥ 64 * 2 ^ 30) || (decide (s.flash.flushed > 0) && due s s.flash.sealedAt 60000)

/-- A checkpoint begins: changed chunks, the root, closed rows, and the seal. -/
def beginCheckpoint (s : State) : State := beginSeal s .checkpoint

/-- Step 7 of a save begins once its seal has ended: the after-seal action is chosen (R196). -/
def sealedSave (s : State) (ok : Bool) : State :=
  { s with save := { s.save with
      phase := 7, sealOk := ok, sealed := if ok then some s.flash.gen else none,
      returning := (s.save.trigger.any isInput) && s.save.after == .byInput && inputGood s } }

/-- Both mirrors have failed this attempt: the seal is tried on the next page of each ring, 3 times more (Table 07-5). -/
def sealFailed (s : State) (j : SealJob) : State :=
  if j.attempts < 3 then { s with flash := { s.flash with sealJob := some { j with attempts := j.attempts + 1, failed0 := false, failed1 := false } } }
  else
    let s := dropJob s
    if saving s && decide (s.save.phase = 6) then sealedSave s false else s

/-- The mirror in which a seal lies, as copies. -/
def oneCopy (m : Fin 2) : Bool × Bool := if m = 0 then (true, false) else (false, true)

/-- A later pass on the other mirror: the newest generation has both copies. -/
def otherCopy (s : State) (m : Fin 2) : State :=
  match newestGen s with
  | some g =>
    let k := if m = 0 then (true, g.copies.2) else (g.copies.1, true)
    { s with flash := { s.flash with gens := s.flash.gens.dropLast ++ [{ g with copies := k }] } }
  | none => s

/-- A generation is sealed, and what waited for it goes on: the end of a re-striping, step 7 of a save, the checkpoint of a format
(R167, R196, R207, R309, R333). What a first checkpoint releases is `serviceSealed`'s. -/
def sealDone (s : State) (j : SealJob) (d : Generation) (copies : Bool × Bool) : State :=
  let s := copySessions (sealNow s j.kind d copies)
  let s := if j.restripe.isEmpty then s
    else evalPsub { s with flash := { s.flash with restripe := s.flash.restripe.filter fun ch => !j.restripe.contains ch } }
  match j.kind with
  | .save => if s.save.phase = 6 then sealedSave s true else s
  | .format => beginCheckpoint { s with flash := { s.flash with formatting := false }, restore := { s.restore with phase := 6 } }
  | .checkpoint => s

/-- The seal's program ends on a mirror (R177); `k` is what follows a checkpoint. -/
def sealOn (s : State) (m : Fin 2) (pass : Bool) (k : State → State) : State :=
  if !s.flash.mirrors[m].ok then s
  else match s.flash.sealJob with
    | none => if pass then otherCopy s m else s
    | some j => match j.draft with
      | none => s
      | some d =>
        if !sealReady s j then s
        else
          let other : Fin 2 := 1 - m
          let otherFailed := (if m = 0 then j.failed1 else j.failed0) || !s.flash.mirrors[other].ok
          if pass then
            let s := sealDone s j d (oneCopy m)
            let s := if otherFailed && s.flash.mirrors[other].ok then mirrorFails s other else s
            if j.kind = .checkpoint then k s else s
          else if otherFailed then sealFailed s j
          else { s with flash := { s.flash with sealJob := some (if m = 0 then { j with failed0 := true } else { j with failed1 := true }) } }

/-! ## Step 5 of a start-up (R306, R317, R319) -/

/-- Channels of a kind that still train. -/
def stillTraining (s : State) : Bool :=
  s.dram.ch.toList.any (fun d => d.run == .training || d.run == .selfRefresh) || s.flash.ch.toList.any fun f => f.run == .training

/-- The flash medium is in service: its log is brought up (R372, R374), and the capacity left is looked at (R170). -/
def flashUp (s : State) : State := checkCapacity (bringLog { s with flash := { s.flash with inService := true } })

/-- Flash is not brought into service: the minimal profile (Table 12-7). -/
def flashStartFailed (s : State) : State :=
  let bad := (fins 32).filter fun i => s.flash.ch[i].run == .outOfService
  enterMinimal (raise s 0x0903 [(bad.map fun i => 2 ^ i.val).sum]) 4

/-- Step 5 has ended once every channel has. -/
def endStep5 (s : State) : State :=
  if !(s.power.state == .restore && s.power.starting && s.startup.step == 4) || stillTraining s then s
  else if flashChannels s < 2 then flashStartFailed s
  else
    let t := flashUp s
    { t with startup := { t.startup with step := 5 },
             restore := { t.restore with phase := if t.startup.retained then t.restore.phase else 1 } }

end Sys2Proof.Machine
end

