-- ==== Sys2Proof/Machine/DramJobs.lean ====
section
/-! DEFINITION. Work on the DRAM channels: ranks and refresh, retraining, training at start-up and on a retained path, and passes that a
save or a reset has stopped (R88, R97, R101, R108–R117, R131–R138). -/

namespace Sys2Proof.Machine

open Sys2Proof

/-! ## Ranks -/

/-- Physical rank `r` (2 × subchannel + physical rank) is populated. -/
def rankExists (c : Settings) (r : Fin 4) : Bool := decide (r.val % 2 < c.dramPranks)

/-- Logical rank `r` (16 × subchannel + 8 × physical rank + logical rank) is populated. -/
def lrankExists (c : Settings) (r : Fin 32) : Bool := decide (r.val / 8 % 2 < c.dramPranks ∧ r.val % 8 < c.dramStack)

/-- The channel is refreshed: powered, trained and not in self-refresh; on a retained path between the training steps too
(R103, R110, R116). -/
def refreshes (s : State) (ch : DramCh) : Bool :=
  let r := s.dram.ch[ch].run
  r == .inService || r == .sliced || r == .retraining || r == .rebuilding || (r == .training && s.startup.retained)

/-- The channel takes commands: powered and trained, and no rail fault holds its controller (R292). -/
def takesCommands (s : State) (ch : DramCh) : Bool := coreUp s && refreshes s ch && !dramHeld s

/-- The channel's calibrations run: it is in service. -/
def calibrates (s : State) (ch : DramCh) : Bool := coreUp s && chanUp s.dram.ch[ch] && !dramHeld s

/-- The postponement limit of the channel's band (Table 04-4); the pull-in limit is its negative. -/
def debtLimit (d : DramChan) : Int := if d.band2x then 2 else 4

/-- One more refresh. -/
def oneRefresh (d : DramChan) : DramChan := { d with refreshes := (d.refreshes + 1) % 2 ^ 32 }

/-- A tick raises the debt, or has a refresh issued at the limit (R101). -/
def tickDebt (d : DramChan) (r : Fin 32) : DramChan :=
  if debtLimit d < d.debt[r] + 1 then oneRefresh d else { d with debt := d.debt.set r (d.debt[r] + 1) }

/-- A refresh at the limit with accesses waiting: counted, and logged once per channel per 10 s (record type 0x8). -/
def noteForced (s : State) (ch : DramCh) (r : Fin 32) : State :=
  let n := s.dram.ch[ch].type8Count + 1
  if s.dram.ch[ch].type8At.any fun t => decide (s.clock.now < 10000 + t) then setChan s ch fun d => { d with type8Count := n }
  else
    let row : RowId := { sub := Fin.ofNat 2 (r.val / 16), prank := 0, lrank := Fin.ofNat 8 r.val, bg := 0, bank := 0, row := 0 }
    logEvent (setChan s ch fun d => { d with type8Count := 0, type8At := some s.clock.now }) 0x0388 1 (dramPayload 8 ch (some row) 0 0 0 0 n)

/-! ## Retraining (R112–R114) -/

/-- A channel retrains, or a stale map is rewritten. -/
def someRetrains (s : State) : Bool := s.dram.ch.toList.any (fun d => d.run == .retraining || d.run == .sliced) || s.shroud.pass == some .staleRewrite

/-- A whole-channel retraining may run (R113). -/
def wholeChannel (s : State) : Bool := shroudOn s && s.dram.ch.toList.all (fun d => d.run == .inService) && s.shroud.pass.isNone

/-- Slices of a sliced retraining: one for each device of each physical rank of both subchannels. -/
def sliceCount (c : Settings) : Nat := 20 * c.dramPranks

/-- A retraining starts on a channel. -/
def startRetrain (s : State) (c : Settings) (ch : DramCh) : State :=
  if wholeChannel s then
    let s := setChan s ch fun d => { d with run := .retraining }
    setShroudMode { s with shroud := { s.shroud with stale := [], staleCh := some ch } }
  else setChan s ch fun d => { d with run := .sliced, slicesLeft := sliceCount c }

/-- Retraining may run: not in a start-up or a save. -/
def mayRetrain (s : State) : Bool := coreUp s && s.power.dramUp && !s.power.starting && !saving s && !dramHeld s && !s.security.lowering

/-- The case temperature of a channel, kept with its training (R112). -/
def noteTrained (s : State) (ch : DramCh) : State :=
  setChan s ch fun d => { d with
    trainTemp := (dramMax s ch).getD d.trainTemp, crcTimes := [], mismatchTimes := [], laneErrors := [], replays := 0, replayAt := none }

/-- An activation that waited for MODE to leave RETRAIN tests its reasons again (R399). -/
def retryActivation (s : State) : State :=
  if !s.fw.waitRetrain || s.shroud.mode == .retrain || saving s then s
  else
    let s := setFw s fun f => { f with waitRetrain := false }
    match s.fw.staging.bind (·.header) with
    | none => finishActivate s
    | some h =>
      let t := beginActivation s h 0
      if t.fw.phase = .loading then t else finishActivate t

/-- A whole-channel retraining has ended: its stale regions are rewritten from parity (R114). -/
def endWhole (s : State) (ch : DramCh) : State :=
  if s.shroud.stale.isEmpty then
    setShroudMode (setChan { s with shroud := { s.shroud with staleCh := none } } ch fun d => { d with run := .inService })
  else beginPass s .staleRewrite

/-! ## Training (R108–R110) -/

/-- Steps of the common data rate, in 100 MT/s (R109). -/
def rateSteps : List Nat := [88, 84, 80, 72, 64]

/-- The next lower step. -/
def lowerRate (rate : Nat) : Option Nat := rateSteps.find? fun r => decide (r < rate)

/-- Channels that train at start-up. -/
def trainingChannels (s : State) : List DramCh := (fins 17).filter fun i => s.dram.ch[i].run == .training

/-- Channels in self-refresh with contents retained, or leaving it on a retained path. -/
def sleepingChannels (s : State) : List DramCh :=
  (fins 17).filter fun i => s.dram.ch[i].run == .selfRefresh || (s.dram.ch[i].run == .training && s.startup.retained)

/-- Every channel trains again one step lower. -/
def stepDown (s : State) (rate : Nat) : State :=
  logEvent { s with dram := { s.dram with rate := rate, rateSteps := s.dram.rateSteps + 1, ch := vecMap s.dram.ch fun _ d =>
    if d.run = .training then { d with rate := rate / 4 } else d } } 0x0981 1 (wordBytes [100 * rate])

/-- DRAM is not brought into service: the minimal profile (Table 12-7). -/
def dramStartFailed (s : State) (bad : List DramCh) : State :=
  enterMinimal (raise s 0x0902 [(bad.map fun i => 2 ^ i.val).sum, 100 * s.dram.rate]) 3

/-- Channels that trained are in service, and with them DRAM; the one that did not leaves service; a lower rate is reported (R108, R109,
R116, R142). -/
def trained (s : State) (bad : List DramCh) : State :=
  let good := (trainingChannels s).filter fun i => !bad.contains i
  let s := good.foldl (fun s i => noteTrained (setChan s i fun d => { d with run := .inService, resetN := true }) i) s
  let s := { s with shroud := { s.shroud with mode := if shroudOn s then .full else .off } }
  let s := bad.foldl trainingFails s
  if s.dram.rateSteps = 0 then s else raise s 0x0303 [100 * s.dram.rate]

/-- The margin checks of a start-up training have ended (R109). -/
def endTraining (s : State) (failing : List DramCh) : State :=
  let bad := (trainingChannels s).filter fun i => failing.contains i
  if bad.length < 2 then trained s bad
  else match (if s.dram.rateSteps < 2 then lowerRate s.dram.rate else none) with
    | some r => stepDown s r
    | none => dramStartFailed s bad

/-- A channel leaves self-refresh with its stored settings and one refresh of every logical rank (R110), back to what it was doing, a
sliced retraining apart; after more than 10 min it retrains (R112). -/
def wakeChannel (s : State) (c : Settings) (ch : DramCh) : State :=
  let long := decide (600000 + s.dram.ch[ch].selfRefreshAt < s.clock.now)
  let s := noteTrained (setChan s ch fun d => { d with
    run := if d.sleptFrom = .rebuilding ∨ d.sleptFrom = .retraining then d.sleptFrom else .inService, resetN := true,
    rate := s.dram.rate / 4, refreshes := (d.refreshes + 2 * c.dramPranks * c.dramStack) % 2 ^ 32 }) ch
  if long then queueRetrain s ch else s

/-- The pass that a save or a reset has stopped goes on from its watermark (R114, R133, R137, R138). -/
def resumePass (s : State) : State :=
  if s.shroud.pass.isSome then s
  else match s.shroud.channel with
    | none => s
    | some ch =>
      let go := fun (s : State) (k : PassKind) (left : Nat) => { s with shroud := { s.shroud with pass := some k, left := left } }
      let rest := ceilDiv (allStripes s - s.shroud.watermark) (regionStripes s)
      if s.shroud.mode = .relocate then go s .relocationFill (hvRegions s)
      else if s.dram.ch[ch].run = .rebuilding then go s (if shroudOn s then .rebuild else .copyBack) rest
      else if s.dram.ch[ch].run = .retraining then endWhole s ch
      else s

/-- Ranks leave self-refresh (R110); a channel that fails leaves service. -/
def wakeAll (s : State) (c : Settings) (failing : List DramCh) : State :=
  let all := sleepingChannels s
  let s := (all.filter fun i => !failing.contains i).foldl (fun s i => wakeChannel s c i) s
  (all.filter fun i => failing.contains i).foldl trainingFails s

/-! ## Passes over the stripes (R131–R134, R138) -/

/-- The granule of a stripe is in DRAM; a pass skips the others (R134). -/
def stripePresent (s : State) (st : Nat) : Bool := granulePresent s (st / (linesPerGranule s / 16))

/-- A stripe is rewritten whole: the 16 lines on the other channels are read, the channel's own line is reconstructed or the parity line
recomputed, and all 17 lines are written, under the stripe lock (R131, R132). `errs` is what the reads find; a line that cannot be
reconstructed is poisoned (R129). -/
def rewriteStripe (s : State) (ch : DramCh) (st : Nat) (errs : List (Nat × EccOutcome)) : State :=
  let s := touch { s with shroud := { s.shroud with locked := some st } } st false ((fins 17).filter fun i => i != ch)
  let s := errs.foldl (fun s e => if stripeOf e.1 = st then eccEffect s ((lineOn ch st).getD e.1) e.2 else s) s
  let s := touch (setParity s st (stripeXor s.dram.mem st)) st true (fins 17)
  { s with shroud := { s.shroud with locked := none } }

/-- A stripe of host-visible capacity goes back to the channel that has returned: its relocated line is read from the slot and written
home, under the stripe lock; the slot is free then (R138). -/
def copyStripeBack (s : State) (ch : DramCh) (st : Nat) (errs : List (Nat × EccOutcome)) : State :=
  match lineOn ch st with
  | none => s
  | some line =>
    let s := touch { s with shroud := { s.shroud with locked := some st } } st false [Config.parityChannel st]
    let s := touch (eccEffects s errs fun l => l == line) st true [ch]
    { s with shroud := { s.shroud with locked := none } }

/-- What a pass does to a stripe: a copy back rebuilds the reserved areas, and moves the lines of host-visible capacity (R131, R138). -/
def passStripe (s : State) (k : PassKind) (ch : DramCh) (st : Nat) (errs : List (Nat × EccOutcome)) : State :=
  if !stripePresent s st then s
  else if k = .copyBack && !underParity s st then copyStripeBack s ch st errs
  else rewriteStripe s ch st errs

/-- The watermark passes one stripe of a rebuild, a copy back or a stale-map rewrite (R131, R134, R138). MODE and KIND stay those of the
copy back while it rebuilds the reserved areas (in part DESIGN CHOICE, notes/assumptions/102). -/
def advancePass (s : State) (errs : List (Nat × EccOutcome)) : State :=
  match s.shroud.pass, s.shroud.channel with
  | some .staleRewrite, some ch =>
    let s := passStripe s .staleRewrite ch s.shroud.watermark errs
    let w := s.shroud.watermark + 1
    if w % regionStripes s ≠ 0 ∧ w < allStripes s then { s with shroud := { s.shroud with watermark := w } }
    else
      let rest := s.shroud.stale.drop 1
      let s := { s with shroud := { s.shroud with stale := rest, left := rest.length,
                                                  watermark := regionStripes s * rest.headD 0 } }
      if rest.isEmpty then endPass s else s
  | some .relocationFill, _ => s
  | some k, some ch =>
    let s := passStripe s k ch s.shroud.watermark errs
    let w := s.shroud.watermark + 1
    let s := { s with shroud := { s.shroud with watermark := w, left := ceilDiv (allStripes s - w) (regionStripes s) } }
    if w ≥ allStripes s then endPass s else s
  | _, _ => s

/-! ## Arbitration at a channel (R17) -/

/-- A higher class waits for DRAM: a buffered line that may drain, or a background granule whose writes are in progress. Maintenance
waits for both (R17) (in part DEDUCED, notes/assumptions/104). -/
def drainsWait (s : State) : Bool := s.host.buf.any fun b => (drainable s b.line).isSome

/-- Maintenance of a channel waits for the swap of its engine (R23) (in part DESIGN CHOICE, notes/assumptions/108). -/
def maintainerWaits (s : State) (ch : DramCh) : Bool := swapWaits s (.dram (Config.maintainer ch))

/-- Maintenance of a channel waits: for work of classes 1 to 3 (R17), or for the swap of its engine (R23)
(in part DEDUCED, notes/assumptions/104). -/
def maintenanceWaits (s : State) (ch : DramCh) : Bool :=
  saving s || maintainerWaits s ch || !s.restore.inHand.isEmpty
    || s.host.buf.any fun b => (drainable s b.line).isSome
        && (homeOf s b.line == ch || Config.parityChannel (stripeOf b.line) == ch || missesStripe s (stripeOf b.line) (homeOf s b.line))

/-! ## Return to service (R117, R138) -/

/-- A channel out of service has passed its training: it is rebuilt from parity, or its relocated lines are copied back. -/
def rejoin (s : State) (ch : DramCh) : State :=
  let s := noteTrained (setChan s ch fun d => { d with run := .rebuilding, resetN := true, rate := s.dram.rate / 4, retryAt := s.clock.now }) ch
  if shroudOn s then beginPass (setShroudMode s) .rebuild
  else if s.shroud.pass.isNone then beginPass s .copyBack
  else s

end Sys2Proof.Machine
end

