-- ==== Sys2Proof/Machine/Flash.lean ====
section
/-! DEFINITION. Commands of the flash medium (R145–R181, R371). -/

namespace Sys2Proof.Machine

open Sys2Proof

/-- With the settings in force. -/
def withSettings (s : State) (f : Settings → State) : State :=
  match s.startup.settings with
  | some c => f c
  | none => s

/-- The mirror that a system area block set on a die belongs to. -/
def mirrorAt (s : State) (ch : FlashCh) (die : Fin 16) (idx : Nat) : Option (Fin 2) :=
  if die = 0 ∧ idx < 64 then (fins 2).find? fun m => s.flash.mirrors[m].ch == ch && s.flash.mirrors[m].ok else none

/-- A demand fetch that a save has claimed fails (R199): the granule is kept, its written lines hold their data, every other line
is poisoned. -/
def claimedFetchFails (s : State) (g : Nat) : State :=
  let mine := s.host.buf.filter fun b => lineGranule s b.line == g
  let s := poisonGranule (setPresent (writeGranule s g []) g) g .internal
  let s := { s with restore := { s.restore with fetches := s.restore.fetches.filter fun f => f.granule != g } }
  let s := raise s 0x0203 []
  let s := mine.foldl (fun s b =>
    let s := { s with dram := { s.dram with mem := writeLine s.dram.mem b.line b.data } }
    markDirty (if b.poison then s else dropPoison s b.line) g) s
  { s with host := { s.host with buf := s.host.buf.filter fun b => lineGranule s b.line != g } }

/-- The live copy of the granule lies in the block set. -/
def copyIn (s : State) (ch : FlashCh) (die : Fin 16) (idx g : Nat) : Bool :=
  let e := entryOf s g
  e.state == .present && e.ch == ch && match s.startup.settings with
    | some c => bandDie c e.band == die && bandSet c e.band == idx
    | none => false

/-- A copy that neither ladder nor RAIN can read: DRAM holds the only copy, and the granule is flushed again; an absent one is a failed
fetch (R159) (in part DESIGN CHOICE, notes/assumptions/77). -/
def copyLost (s : State) (g : Nat) : State := if granulePresent s g then markDirty s g else bringIn s g false

/-- FLASH_READ_COMPLETE (R158–R161, R199, R371): a page read has ended at a ladder entry, by RAIN, or not at all; it is of class 2
where a demand fetch of the granule runs. -/
def execFlashReadComplete (ch : FlashCh) (die : Fin 16) (index granule : Nat) (outcome : DecodeOutcome) (s : State) : Result :=
  .next (if !fcUp s.flash.ch[ch] then s
    else
      let s := startRefresh (noteRead s ch die index (fetching s granule) outcome)
      let s := match mirrorAt s ch die index with
        | some m => if readOk outcome then s else mirrorFails s m
        | none => s
      if saving s && fetching s granule && !readOk outcome && (s.host.buf.any fun b => b.waitFetch && lineGranule s b.line == granule) then
        claimedFetchFails s granule
      else if !saving s && !fetching s granule && !readOk outcome && copyIn s ch die index granule then copyLost s granule
      else s)

/-- FLASH_PROGRAM_COMPLETE (R149–R151, R165): the status of the page group in progress. -/
def execFlashProgramComplete (seq : Nat) (pass : Bool) (s : State) : Result :=
  .next (withSettings s fun c =>
    match inProgress s seq with
    | some p => if s.flash.brownOut then s else if pass then programPasses s c p else programFails s c p
    | none => s)

/-- MIRROR_RELOCATED (R371): the surviving system area has been copied to die 0 of the next channel. -/
def execMirrorRelocated (ch : FlashCh) (s : State) : Result :=
  .next (match (fins 2).find? fun m => !s.flash.mirrors[m].ok with
    | some m =>
      let other : Fin 2 := 1 - m
      if s.flash.relocating && s.flash.mirrors[other].ok && relocateTo s s.flash.mirrors[m].ch == some ch then relocateMirror s m other ch else s
    | none => s)

/-- FLASH_ERASE_COMPLETE (R148, R165) (in part DESIGN CHOICE, notes/assumptions/3). -/
def execFlashEraseComplete (ch : FlashCh) (die : Fin 16) (index : Nat) (pass : Bool) (s : State) : Result :=
  .next (withSettings s fun c => if (eraseOf s ch die index).isSome && !s.flash.brownOut then eraseEnds s c ch die index pass else s)

/-- No class 1 or class 2 operation waits for the LUN. -/
def lunFree (s : State) (c : Settings) (ch : FlashCh) (die : Fin 16) : Bool :=
  !lunPrograms s c ch die && !(s.restore.fetches.any fun f => f.lun == some (ch, die))

/-- ERASE_RESUME (R154, R157): not in a save. -/
def execEraseResume (ch : FlashCh) (die : Fin 16) (s : State) : Result :=
  .next (withSettings s fun c =>
    if saving s || s.flash.brownOut || !lunFree s c ch die then s
    else { s with flash := { s.flash with erases := s.flash.erases.map fun e =>
      if e.ch = ch ∧ e.die = die ∧ e.suspended then { e with suspended := false, resumedAt := s.clock.now } else e } })

/-- The busy timeouts of a flash thermal band in µs: read, program and erase (Table 06-5). -/
def busyTimeouts (band : Nat) : Nat × Nat × Nat := [(60, 450, 10000), (65, 500, 11000), (70, 550, 12000)].getD band (70, 550, 12000)

/-- An operation that began at a time may have been busy beyond a timeout in µs: the model's clock counts whole milliseconds
(in part DESIGN CHOICE, notes/assumptions/77). -/
def busyBeyond (s : State) (since timeout : Nat) : Bool := decide (timeout < 1000 * (s.clock.now - since + 1))

/-- FLASH_BUSY_TIMEOUT (R152, R153): an operation has been busy beyond its timeout, and the LUN is reset; the program counts as
failed, the erase leaves its block set ERASE_INCOMPLETE, a read goes on with its next ladder entry (in part DESIGN CHOICE,
notes/assumptions/77). -/
def execFlashBusyTimeout (ch : FlashCh) (die : Fin 16) (op : BusyOp) (s : State) : Result :=
  .next (withSettings s fun c =>
    if !fcReady s ch then s
    else match op with
      | .read => countTimeout s ch die
      | .program seq =>
        (match inProgress s seq with
         | some p =>
           if p.ch = ch ∧ bandDie c p.band = die ∧ (p.issuedAt.any fun t => busyBeyond s t (busyTimeouts s.flash.ch[ch].band).2.1) then
             countTimeout (programFails s c p) ch die
           else s
         | none => s)
      | .erase index =>
        if (eraseOf s ch die index).any (fun e => busyBeyond s e.resumedAt (busyTimeouts s.flash.ch[ch].band).2.2) then
          countTimeout (issueWaiting (eraseBroken (dropErase s ch die index) ch die index)) ch die
        else s)

/-- RESTRIPE_COPY (R166, R167, R173): a live copy of a band that holds a lost die or channel is written to a new band
(in part DESIGN CHOICE, notes/assumptions/23). -/
def execRestripeCopy (granule : Nat) (ch : FlashCh) (s : State) : Result :=
  .next (withSettings s fun c => if copiesRun s then eraseReady (finishRestripe (restripeGranule s c granule ch)) else s)

/-- FLASH_CHANNEL_TRAINING (R143, R145, R167): the start-up of a channel, or a calibration in service, has ended. Dies whose parameter
page differs or does not check are treated as retired. -/
def execFlashChannelTraining (ch : FlashCh) (badDies : List (Fin 16)) (pass : Bool) (s : State) : Result :=
  .next (withSettings s fun c =>
    let bad := fun (s : State) => badDies.foldl (fun s d => retireDie s ch d) s
    match s.flash.ch[ch].run with
    | .training =>
      let s := if pass then
          bad { s with flash := { s.flash with ch := vecMod s.flash.ch ch fun f => { f with run := .inService, sdr := false, rate := c.flashRate / 2 } } }
        else flashChannelOut s ch
      endStep5 (checkMirrors s)
    | .inService => if pass then s else finishRestripe (checkMirrors (flashChannelOut s ch))
    | _ => s)

/-- FLASH_TRAINING_RETRY (R168): every 10 min on a channel out of service that has an engine
(in part DEDUCED, notes/assumptions/99). -/
def execFlashTrainingRetry (ch : FlashCh) (pass : Bool) (s : State) : Result :=
  .next (withSettings s fun c =>
    let f := s.flash.ch[ch]
    if f.run = .outOfService && f.hasEngine && copiesRun s && due s f.retryAt 600000 then
      let new := if pass && !(startDies s c ch).isEmpty then
          { f with run := .inService, sdr := false, dies := startDies s c ch, rate := c.flashRate / 2, retryAt := s.clock.now }
        else { f with retryAt := s.clock.now }
      let t := { s with flash := { s.flash with ch := s.flash.ch.set ch new } }
      if new.run = .inService then ceilingEvent t else t
    else s)

/-- ROW_CLOSE_TIMEOUT (R151): the row has been open for 100 ms. -/
def execRowCloseTimeout (band row : Nat) (s : State) : Result :=
  .next (withSettings s fun c =>
    if !s.flash.brownOut && (s.flash.openRows.any fun r => r.band == band && r.row == row && due s r.openedAt 100) then closeRow s c band row
    else s)

/-- CHECKPOINT_SEAL (R167, R178, R207): never more often than once per 1 s; the first checkpoint of a service, should its seal have
failed, without that spacing. -/
def execCheckpointSeal (s : State) : Result :=
  .next (if copiesRun s && s.flash.sealJob.isNone && !s.flash.formatting then
      if needsCheckpoint s then beginCheckpoint s
      else if restripeDue s && due s s.flash.sealedAt 1000 then restripeEnd s
      else if checkpointDue s && due s s.flash.sealedAt 1000 then beginCheckpoint s
      else s
    else s)

/-- COMPACTION (R173, R179): a live copy of the granule moves out of the band that is being compacted, refreshed, leveled or withheld
(in part DESIGN CHOICE, notes/assumptions/23). -/
def execCompaction (granule : Nat) (ch : FlashCh) (s : State) : Result :=
  .next (withSettings s fun c => if copiesRun s then eraseReady (compactGranule s c granule ch) else s)

/-- WEAR_LEVEL_MOVE (R172) (in part DESIGN CHOICE, notes/assumptions/23). -/
def execWearLevelMove (s : State) : Result := .next (withSettings s fun c => if copiesRun s then wearMove s c else s)

/-- RETENTION_SCRUB (R174): every page group of a band has been read, while nothing else waits for its channels. -/
def execRetentionScrub (band : Nat) (s : State) : Result :=
  .next (withSettings s fun c => if copiesRun s && scrubTurn s band && scrubQuiet s c band then startRefresh (scrubBand s band) else s)

/-- RETENTION_DUE (R175): 60 days of uninterrupted STANDBY. -/
def execRetentionDue (s : State) : Result :=
  .next (if inStandby s && !s.flash.retentionDue && (s.flash.standbySince.any fun t => due s t 5184000000) then
      raise { s with flash := { s.flash with retentionDue := true } } 0x0405 []
    else s)

/-- NAND_BROWNOUT (R176). -/
def execNandBrownout (s : State) : Result := .next (if s.flash.inService || s.flash.ch.toList.any fcUp then nandDown s else s)

/-- What a brown-out interrupted: torn page groups are written again elsewhere, erases leave their block sets ERASE_INCOMPLETE. -/
def recoverNand (s : State) (c : Settings) : State :=
  let torn := s.flash.pages.filter fun p => !p.passed && p.issuedAt.isSome
  let s := breakErases s
  let s := { s with flash := { s.flash with brownOut := false, wpN := false, erases := [] } }
  advanceSeal (issueWaiting (torn.foldl (fun s p => if s.flash.pages.contains p then tornPage s c p else s) s))

/-- NAND_RAIL_RECOVERY (R176): both NAND rails are good again. -/
def execNandRailRecovery (s : State) : Result :=
  .next (withSettings s fun c =>
    if s.flash.brownOut && s.rails.rail[9].run == .qualified && s.rails.rail[10].run == .qualified then recoverNand s c else s)

/-- ENGINE_PROGRAM_REFUSED (R149): logged as a firmware fault; no command reaches the die. -/
def execEngineProgramRefused (ch : FlashCh) (die : Fin 16) (index page : Nat) (s : State) : Result :=
  .next (if nextPage s ch die index page then s else logEvent s 0x0081 2 [])

end Sys2Proof.Machine
end

