-- ==== Sys2Proof/Machine/Dram.lean ====
section
/-! DEFINITION. Commands of the DRAM channels (R94–R117, R346, R347, R356). -/

namespace Sys2Proof.Machine

open Sys2Proof

/-- REFRESH_TICK (R101, R103, R292): while a rail fault holds the channel the tick adds to the debt and nothing is issued
(in part DESIGN CHOICE, notes/assumptions/6; DEDUCED, notes/assumptions/47). -/
def execRefreshTick (ch : DramCh) (rank : Fin 32) (accessWaiting : Bool) (s : State) : Result :=
  .next (withSettings s fun c =>
    let d := s.dram.ch[ch]
    if !coreUp s || !refreshes s ch || !lrankExists c rank then s
    else if dramHeld s then setChan s ch fun d => { d with debt := d.debt.set rank (d.debt[rank] + 1) }
    else
      let forced := decide (debtLimit d < d.debt[rank] + 1)
      let s := setChan s ch fun d => tickDebt d rank
      if forced && accessWaiting then noteForced s ch rank else s)

/-- REFRESH_PULL_IN (R101): never below the pull-in limit (in part DEDUCED, notes/assumptions/47). -/
def execRefreshPullIn (ch : DramCh) (rank : Fin 32) (s : State) : Result :=
  .next (withSettings s fun c =>
    if takesCommands s ch && lrankExists c rank && decide (-debtLimit s.dram.ch[ch] < s.dram.ch[ch].debt[rank]) then
      setChan s ch fun d => oneRefresh { d with debt := d.debt.set rank (d.debt[rank] - 1) }
    else s)

/-- MR4_POLL (R100, R102): a device asks for a rate above the channel's band. -/
def execMr4Poll (ch : DramCh) (above : Bool) (s : State) : Result :=
  .next (if takesCommands s ch && above && !s.dram.ch[ch].band2x then
      logEvent (setBand2x s ch true) (Config.unnamedEvent 4) 1 (leBytes 1 ch.val)
    else s)

/-- POWER_DOWN_ENTRY (R94): not with a timer of 0. -/
def execPowerDownEntry (ch : DramCh) (rank : Fin 4) (s : State) : Result :=
  .next (withSettings s fun c =>
    if takesCommands s ch && rankExists c rank && s.dram.pdTimer != 0 then
      updateIdle { s with dram := { s.dram with acc := vecMod s.dram.acc ch fun a => { a with powerDown := a.powerDown.set rank true } } }
    else s)

/-- Patrol scrub verifies the stripe: it keeps parity, and all its channels are in service, those of a rebuild from below the watermark
on (R135). -/
def verifiable (s : State) (st : Nat) : Bool :=
  underParity s st && s.shroud.locked != some st && (fins 17).all fun i =>
    s.dram.ch[i].run == .inService || (s.dram.ch[i].run == .rebuilding && decide (st < s.shroud.watermark))

/-- A parity line that differs from the XOR of its data lines is rewritten from them, counted and logged (R135). -/
def repairParity (s : State) (st : Nat) : State :=
  if verifiable s st then
    logEvent { touch (setParity s st (stripeXor s.dram.mem st)) st true [Config.parityChannel st] with
      shroud := { s.shroud with mismatch := satAdd 16 s.shroud.mismatch 1 } } 0x0389 1 []
  else s

/-- Lines read by scrub count toward the pass; the pass ends when every line of the channel has been read (R97). -/
def scrubCount (s : State) (ch : DramCh) (n : Nat) : State :=
  setChan s ch fun d =>
    if allStripes s ≤ d.scrubPos + n then { d with scrubPos := d.scrubPos + n - allStripes s, scrubPassAt := s.clock.now }
    else { d with scrubPos := d.scrubPos + n }

/-- Scrub reads a channel's lines of some stripes, but those of granules not yet restored: what its reads find is handled as for any
read, and the parity mismatches among them are repaired (R97, R119, R135). -/
def scrubStripes (s : State) (ch : DramCh) (sts mismatch : List Nat) (errs : List (Nat × EccOutcome)) : State :=
  let read := sts.filter (stripePresent s)
  let s := read.foldl (fun s st => touch s st false [ch]) (scrubCount s ch read.length)
  let s := eccEffects s errs fun l => read.contains (stripeOf l)
  (mismatch.filter read.contains).foldl repairParity s

/-- PATROL_SCRUB (R17, R97, R135): the next lines of a rank, one of each of `stripes`; the share of a rank in power-down accumulates; a
channel out of service is not read, and work of a higher class goes first (in part DEDUCED, notes/assumptions/76). -/
def execPatrolScrub (ch : DramCh) (rank : Fin 4) (stripes mismatch : List Nat) (errs : List (Nat × EccOutcome)) (s : State) : Result :=
  .next (withSettings s fun c =>
    if maintenanceWaits s ch || !calibrates s ch || !rankExists c rank then s
    else if s.dram.acc[ch].powerDown[rank] then
      setChan s ch fun d => { d with
        scrubOwed := d.scrubOwed.set rank (d.scrubOwed[rank] ++ stripes),
        owedAt := if d.scrubOwed[rank].isEmpty then d.owedAt.set rank s.clock.now else d.owedAt }
    else scrubStripes s ch stripes mismatch errs)

/-- SCRUB_WAKE (R97): 10 ms after its share began to accumulate the rank is woken and the share scrubbed at once. -/
def execScrubWake (ch : DramCh) (rank : Fin 4) (mismatch : List Nat) (errs : List (Nat × EccOutcome)) (s : State) : Result :=
  .next (let owed := s.dram.ch[ch].scrubOwed[rank]
    if !maintenanceWaits s ch && calibrates s ch && !owed.isEmpty && due s s.dram.ch[ch].owedAt[rank] 10 then
      let s := setChan s ch fun d => { d with scrubOwed := d.scrubOwed.set rank [] }
      updateIdle (scrubStripes { s with dram := { s.dram with acc := vecMod s.dram.acc ch fun a =>
        { a with powerDown := a.powerDown.set rank false } } } ch owed mismatch errs)
    else s)

/-- ZQ_CALIBRATION (R111): every 128 ms per physical rank. -/
def execZqCalibration (ch : DramCh) (rank : Fin 4) (s : State) : Result :=
  .next (withSettings s fun c =>
    if calibrates s ch && rankExists c rank then setChan s ch fun d => { d with zqCals := d.zqCals + 1 } else s)

/-- DQS_OSC_CALIBRATION (R111): delays are adjusted on drift. -/
def execDqsOscCalibration (ch : DramCh) (rank : Fin 4) (drift : Bool) (s : State) : Result :=
  .next (withSettings s fun c =>
    if calibrates s ch && rankExists c rank then
      setChan s ch fun d => { d with dqsCals := d.dqsCals + 1, dqsAdjust := if drift then d.dqsAdjust + 1 else d.dqsAdjust }
    else s)

/-- READ_CENTERING_TRACK (R111). -/
def execReadCenteringTrack (ch : DramCh) (rank : Fin 4) (s : State) : Result :=
  .next (withSettings s fun c =>
    if calibrates s ch && rankExists c rank then setChan s ch fun d => { d with readCals := d.readCals + 1 } else s)

/-- The writes of a channel that have not been released yet are repeated: data lines from the write buffers, parity lines from their
staging entries and from no new computation (R105, R124). -/
def replayWrites (s : State) (ch : DramCh) : State :=
  let s := s.host.buf.foldl (fun s b => if b.drained && homeOf s b.line == ch then touch s (stripeOf b.line) true [ch] else s) s
  s.shroud.staging.foldl (fun s e =>
    if e.written && Config.parityChannel e.stripe == ch then setParity (touch s e.stripe true [ch]) e.stripe e.parity else s) s

/-- WRITE_CRC_ERROR (R105, R112, R119, R124): the writes are replayed, up to 3 times; after the third failed replay the channel retrains
at once. Write CRC is used from 6400 MT/s on (in part DEDUCED, notes/assumptions/75). -/
def execWriteCrcError (ch : DramCh) (row : RowId) (column : Nat) (s : State) : Result :=
  .next (if takesCommands s ch && decide (s.dram.ch[ch].rate ≥ 16) then
      let s := logDram s 5 ch (some row) column 15 none
      if s.dram.ch[ch].replays ≥ 3 then queueRetrain (setChan s ch fun d => { d with replays := 0, replayAt := none }) ch
      else countCrc (replayWrites (setChan s ch fun d => { d with replays := d.replays + 1, replayAt := some s.clock.now }) ch) ch
    else s)

/-- CHANNEL_RETRAIN_START (R113): the first channel of the queue, one at a time (in part DEDUCED, notes/assumptions/76). -/
def execChannelRetrainStart (s : State) : Result :=
  .next (withSettings s fun c =>
    if !mayRetrain s || someRetrains s || s.dram.retrainQ.head?.any (maintainerWaits s) then s
    else match s.dram.retrainQ with
      | [] => s
      | ch :: rest =>
        let s := { s with dram := { s.dram with retrainQ := rest } }
        if s.dram.ch[ch].run = .inService then startRetrain s c ch else s)

/-- RETRAIN_SLICE (R113): slices start at least 10 ms apart. -/
def execRetrainSlice (ch : DramCh) (s : State) : Result :=
  .next (withSettings s fun c =>
    let d := s.dram.ch[ch]
    if mayRetrain s && d.run == .sliced && decide (0 < d.slicesLeft) && (d.slicesLeft == sliceCount c || due s d.sliceAt 10) then
      setChan s ch fun d => { d with slicesLeft := d.slicesLeft - 1, sliceAt := s.clock.now }
    else s)

/-- CHANNEL_RETRAIN_COMPLETE (R114, R116). -/
def execChannelRetrainComplete (ch : DramCh) (pass : Bool) (s : State) : Result :=
  .next (if saving s || !coreUp s then s
    else match s.dram.ch[ch].run with
      | .sliced =>
        if s.dram.ch[ch].slicesLeft ≠ 0 then s
        else if pass then setChan (noteTrained s ch) ch fun d => { d with run := .inService }
        else trainingFails s ch
      | .retraining =>
        if s.shroud.pass.isSome then s
        else retryActivation (if pass then endWhole (noteTrained s ch) ch else trainingFails s ch)
      | _ => s)

/-- LINE_TEST_COMPLETE (R346, R352, Table 14-2). -/
def execLineTestComplete (ch : DramCh) (row : RowId) (column : Nat) (pass : Bool) (device : Fin 10) (s : State) : Result :=
  .next (match runningTest s (.line ch row column) with
    | some t =>
      let s := endTest s t pass
      if pass then
        let s := countTransient s (.line ch row column)
        if rowIntermittent s ch row then retireRow s ch row device else s
      else retireRow s ch row device
    | none => s)

/-- ROW_TEST_COMPLETE (R346, R347, R352, Table 14-2): a failure in two or more bank groups at once marks the device. -/
def execRowTestComplete (ch : DramCh) (row : RowId) (pass : Bool) (device : Fin 10) (twoGroups : Bool) (s : State) : Result :=
  .next (match runningTest s (.row ch row) with
    | some t =>
      let s := endTest s t pass
      if pass then
        let s := countTransient s (.row ch row)
        if rowIntermittent s ch row then retireRow s ch row device else s
      else if twoGroups then markDevice s ch row.rank device
      else retireRow s ch row device
    | none => s)

/-- CHANNEL_PATTERN_TEST_COMPLETE (R352, R356): a failure is permanent, and takes the channel out of service. -/
def execChannelPatternTestComplete (ch : DramCh) (pass : Bool) (s : State) : Result :=
  .next (match runningTest s (.dramChannel ch) with
    | some t =>
      let s := endTest s t pass
      if pass then countTransient s (.dramChannel ch) else channelOut s ch
    | none => s)

/-- DRAM_TRAINING_COMPLETE (R108–R110): the margin checks of step 5 have ended, on a retained path those of R110. -/
def execDramTrainingComplete (failing : List DramCh) (s : State) : Result :=
  .next (withSettings s fun c =>
    if !(s.power.state == .restore && s.power.starting && s.startup.step == 4) then s
    else if s.startup.retained then endStep5 (wakeAll s c failing)
    else if (trainingChannels s).isEmpty then s
    else endStep5 (endTraining s failing))

/-- CHANNEL_TRAINING_RETRY (R117, R138): 10 min after the last try; a retry that fails changes nothing else and is logged
(in part DEDUCED, notes/assumptions/76; DEDUCED, notes/assumptions/99). -/
def execChannelTrainingRetry (ch : DramCh) (pass : Bool) (s : State) : Result :=
  .next (if mayRetrain s && s.dram.ch[ch].run == .outOfService && due s s.dram.ch[ch].retryAt 600000 then
      if pass then rejoin s ch else logDram (setChan s ch fun d => { d with retryAt := s.clock.now }) 7 ch none 0 0 none
    else s)

end Sys2Proof.Machine
end

