-- ==== Sys2Proof/Machine/Engines.lean ====
section
/-! DEFINITION. Commands of the masthead and the spar engines (R22–R26, R345, R350, R413). -/

namespace Sys2Proof.Machine

open Sys2Proof

/-- MASTHEAD_WATCHDOG_EXPIRY (R26, R413): the masthead alone is reset; all else goes on. In a probation it is a fault of the new
image. While a code flash operation runs the counter is held (R384) (in part DEDUCED, notes/assumptions/62). -/
def execMastheadWatchdogExpiry (s : State) : Result :=
  .next (if coreUp s && s.fw.phase == .probation && s.cf.op != .program && s.cf.op != .erase then startRevert s 3 else s)

/-- ENGINE_EXCEPTION (R345, R413): engine BIST starts; raised by new code in a probation it is a fault of the new image as well
(in part DEDUCED, notes/assumptions/54). -/
def execEngineException (engine : EngineId) (s : State) : Result :=
  let e := s.engines.eng[engine]
  .next (if !coreUp s || e.run == .retired || e.run == .resting then s
    else
      let new := s.fw.phase == .probation && e.bankNew
      let s := countTransient (setEngine s engine fun x => { x with run := .bist, suspect := new }) (.engine engine)
      let s := queueTest s (.engine engine) none
      if new then startRevert s 1 else s)

/-- The engine has raised a second exception within 24 h (Table 14-2) (in part DEDUCED, notes/assumptions/54). -/
def engineIntermittent (s : State) (e : EngineId) : Bool :=
  !s.engines.eng[e].suspect && decide (transients s dayMs (fun p => p == .engine e) ≥ 2)

/-- ENGINE_BIST_COMPLETE (R23, R24, R350, R352): a passing engine is reloaded and goes on; one that fails, or is intermittent, is
replaced. -/
def execEngineBistComplete (engine : EngineId) (pass : Bool) (s : State) : Result :=
  .next (match runningTest s (.engine engine) with
    | some t =>
      let s := endTest s t pass
      if pass && !engineIntermittent s engine then
        setEngine s engine fun x => { x with run := if x.run = .bist then .inService else x.run, suspect := false }
      else checkMirrors (failEngine s engine)
    | none => s)

end Sys2Proof.Machine
end

