-- ==== Sys2Proof/Machine/FaultTest.lean ====
section
/-! DEFINITION. The ends of block tests and die tests, and the end of a module-year (R348, R352, R357, Table 14-2). -/

namespace Sys2Proof.Machine

open Sys2Proof

/-! ## Block and die tests (R348, R352) -/

/-- No page group of the block set is needed any more: its live page groups have been moved out and no protected generation names one
(R148, R348) (in part DESIGN CHOICE, notes/assumptions/77). -/
def setVacant (s : State) (c : Settings) (ch : FlashCh) (die : Fin 16) (idx : Nat) : Bool :=
  match bandOfSet c die idx with
  | some n => !(s.flash.pages.any fun p => p.band == n && p.ch == ch && referenced s p)
  | none => true

/-- Passed block tests of a block set within 30 days make it intermittent. -/
def setIntermittent (s : State) (ch : FlashCh) (die : Fin 16) (idx : Nat) : Bool :=
  decide (transients s (30 * dayMs) (fun p => p == .blockSet ch die idx) ≥ 3)

/-- Passed die tests within 24 h make a die intermittent. -/
def dieIntermittent (s : State) (ch : FlashCh) (die : Fin 16) : Bool :=
  decide (transients s dayMs (fun p => p == .die ch die) ≥ 8)

/-- The block set as its test leaves it: erased before and after the test's programs, and no longer withheld. -/
def testedSet (s : State) (c : Settings) (ch : FlashCh) (die : Fin 16) (idx : Nat) : State :=
  let s := match bandOfSet c die idx with
    | some n => { s with flash := { s.flash with pages := s.flash.pages.filter fun p => !(p.band == n && p.ch == ch) } }
    | none => s
  setBlock s ch die idx fun b => { b with run := .erased, erases := b.erases + 2, learned := 0, refresh := false, withheld := false }

/-- BLOCK_TEST_COMPLETE (R348, R352) (in part DESIGN CHOICE, notes/assumptions/77). -/
def execBlockTestComplete (ch : FlashCh) (die : Fin 16) (index : Nat) (pass : Bool) (s : State) : Result :=
  .next (match runningTest s (.blockSet ch die index), s.startup.settings with
    | some t, some c =>
      if !setVacant s c ch die index || saving s then s
      else
        let s := endTest (testedSet s c ch die index) t pass
        let s := if pass then countTransient s (.blockSet ch die index) else s
        let s := if !pass || setIntermittent s ch die index then checkMirrors (retireBlockSet s ch die index) else s
        wearNotice (afterErase s c die index) c
    | _, _ => s)

/-- DIE_TEST_COMPLETE (R348, R352); a pass waits for the block tests in it, which RESTORE and a save defer (Table 14-4)
(in part DESIGN CHOICE, notes/assumptions/77). -/
def execDieTestComplete (ch : FlashCh) (die : Fin 16) (pass : Bool) (s : State) : Result :=
  .next (match runningTest s (.die ch die) with
    | some t =>
      if pass && (someAbsent s || saving s) then s else
      let s := endTest s t pass
      let s := if pass then countTransient s (.die ch die) else s
      if !pass || dieIntermittent s ch die then checkMirrors (retireDie s ch die) else s
    | none => s)

/-! ## Module-years (R357) -/

/-- Milliseconds of a module-year: 8,760 h of operating time (in part DEDUCED, notes/assumptions/51). -/
def yearMs : Nat := 8760 * 3600000

/-- MODULE_YEAR_END (R357): both sums are logged and begin again. -/
def execModuleYearEnd (s : State) : Result :=
  .next (if s.clock.opTime < s.faults.yearStart + yearMs then s
    else
      let t := logEvent s 0x0B87 0 (wordBytes [s.faults.availMs, s.faults.exclMs, s.faults.year])
      { t with faults := { t.faults with availMs := 0, exclMs := 0, availEvents := 0, year := min 255 (t.faults.year + 1),
                                         yearStart := t.faults.yearStart + yearMs } })

end Sys2Proof.Machine
end

