-- ==== Sys2Proof/Machine/Halyard.lean ====
section
/-! DEFINITION. The Halyard ports: HELLO, the relay of chunks with its credits, activation and status down and up the chain, and the
chain report (R402–R409, Table 17-3). -/

namespace Sys2Proof.Machine

open Sys2Proof

/-! ## Ports (R402, R403, R406) -/

/-- The ports work: powered by rail 12, with a HALYARD section in force or in pass-through (R401, R402, R407). -/
def portsWork (s : State) : Bool := coreUp s && s.rails.rail[11].run == .qualified && inChain s

/-- A port. -/
def portOf (s : State) (up : Bool) : HyPort := if up then s.fw.up else s.fw.dn

/-- Changes a port. -/
def setPort (s : State) (up : Bool) (f : HyPort → HyPort) : State :=
  setFw s fun x => if up then { x with up := f x.up } else { x with dn := f x.dn }

/-- A port is up. -/
def portUp (s : State) (up : Bool) : Bool := portsWork s && (portOf s up).version != 0

/-- A valid frame has come on a port. -/
def heard (s : State) (up : Bool) : State := setPort s up fun p => { p with lastAt := s.clock.now }

/-- The highest version in both bitmaps; this part offers versions 1 and 2 (R403). -/
def commonVersion (versions : Word) : Nat := if versions.getLsbD 2 then 2 else if versions.getLsbD 1 then 1 else 0

/-- The position that a neighbour has to report. -/
def positionFits (s : State) (up : Bool) (position : Nat) : Bool :=
  if up then position + 1 == positionInForce s else position == positionInForce s + 1

/-- A neighbour's POSITION is not the expected one: reported when the port comes up and when it changes; not across a version 1 hop
and not in pass-through (R403, R407) (in part DEDUCED, notes/assumptions/86). -/
def checkPosition (s : State) (up : Bool) (v position : Nat) : State :=
  let p := portOf s up
  if v ≠ 2 || s.power.minimal || inCrocus s || positionFits s up position || (p.version != 0 && p.peer == position) then s
  else raise s 0x0C05 [positionInForce s, position]

/-- HELLO (R402, R403): the port is up at the highest common version; a new upstream neighbour is granted 8 chunk credits. -/
def execHello (up : Bool) (versions : Word) (position _chainLen : Nat) (_part : BitVec 16) (_fwVersion : Word) (s : State) : Result :=
  .next (if !portsWork s then s
    else
      let v := commonVersion versions
      if v = 0 then logEvent s (Config.unnamedEvent 5) 1 []
      else
        let fresh := (portOf s up).version == 0
        let s := checkPosition s up v position
        let s := setPort s up fun p => { p with version := v, lastAt := s.clock.now, peer := if v = 2 then position else 0,
                                                credits := if fresh then 0 else p.credits, withheld := if fresh then 0 else p.withheld }
        if up && fresh then sendCredit s 8 else s)

/-- The payload of a HELLO (Table 17-3). -/
def helloPayload (s : State) : List Byte :=
  let chain := match s.startup.settings with | some c => c.chainLen | none => 0
  leBytes 4 6 ++ leBytes 1 (positionInForce s) ++ leBytes 1 chain ++ leBytes 2 0x6417 ++ leBytes 4 ((s.fw.active.map (·.version.toNat)).getD 0)

/-- Credits and relayed chunks that a save has held back go on after it (R404) (in part DEDUCED, notes/assumptions/86). -/
def afterSave (s : State) : State :=
  if saving s then s else sendRelay 9 (if s.fw.up.withheld = 0 then s else sendCredit s 0)

/-- HELLO_TIMER (R402): every 100 ms, on both ports. -/
def execHelloTimer (s : State) : Result :=
  .next (if portsWork s then afterSave (emit (emit s (.halyard true 1 (helloPayload s))) (.halyard false 1 (helloPayload s))) else s)

/-- Every entry that came from downstream is UNREACHABLE (R406). -/
def loseDownstream (s : State) : State :=
  setFw s fun f => { f with entries := f.entries.map fun e => { e with run := .unreachable, reasons := 0 }, relayQ := [], relayed := none }

/-- HALYARD_PORT_DOWN (R402, R406): 1 s without a valid frame or idle symbol; the chain ends at this port. -/
def execHalyardPortDown (up : Bool) (s : State) : Result :=
  .next (if !portUp s up || !due s (portOf s up).lastAt 1000 then s
    else
      let p := portOf s up
      let s := raise (setPort s up fun q => { resetPort with partialAt := q.partialAt, pieces := q.pieces }) 0x0C04 [bit (!up), p.peer]
      if up then s else checkChainDone (checkReport (sendStatus (loseDownstream s))))

/-- HALYARD_FRAME_TIMEOUT (R405): a frame that stopped part-way is discarded after the chunk timeout of 2 s. -/
def execHalyardFrameTimeout (up : Bool) (s : State) : Result :=
  .next (match (portOf s up).partialAt with
    | some t => if due s t 2000 then setPort s up fun p => { p with partialAt := none, pieces := [] } else s
    | none => s)

/-! ## Chunks and credits (R399, R404, R405) -/

/-- The chunk is formed as R338 asks. -/
def chunkFormed (k : HyChunk) : Bool :=
  k.offset % 4096 == 0 && decide (k.offset < k.total ∧ k.total ≤ 15 * 2 ^ 20) && k.data.length == min 4096 (k.total - k.offset)
    && (k.offset != 0 || (parseHeader k.data).packageId == k.package)

/-- The chunk is the next one of this module's own package: it is staged, or refused with its reasons (R399). -/
def applyChunk (s : State) (k : HyChunk) : State :=
  let expected := if startsPackage s k then 0 else missingByte s
  let same := startsPackage s k || s.fw.staging.any fun g => g.packageId == k.package && g.total == k.total && !g.whole
  if !same || k.offset ≠ expected || (s.fw.active.any fun h => h.packageId == k.package) then s
  else
    let why := chunkReasons s k
    if why ≠ 0 then sendStatus (refuseFw s why) else stageChunk (logIgnoredLock s) k none

/-- The relay stream of another package begins. -/
def newStream (s : State) (k : HyChunk) : Bool :=
  k.offset == 0 && match s.fw.relayed with
    | some (p, _) => p != k.package
    | none => true

/-- A whole chunk from upstream: relayed once its CRC-32 checks, and applied where it is the next one; one beyond a gap is dropped,
and the CREDIT that follows says where to resume (R404, R405) (in part DEDUCED, notes/assumptions/86). -/
def takeChunk (s : State) (k : HyChunk) : State :=
  if crc32 k.data ≠ k.crc || !chunkFormed k then
    sendCredit (setFw s fun f => { f with crcErr := satAdd 8 f.crcErr 1 }) 1
  else
    let next := if newStream s k then 0 else s.fw.resumeAt
    if next < k.offset then sendCredit s 1
    else
      let s := relayIn s k
      let s := setFw s fun f => { f with resumeAt := max next (k.offset + k.data.length) }
      sendCredit (applyChunk s k) 1

/-- CHUNK (R403–R405): on a version 1 hop the frames of a chunk are gathered first. -/
def execChunk (package offset total crc : Word) (data : List Byte) (s : State) : Result :=
  .next (if !portUp s true then s
    else
      let s := heard s true
      let whole := if s.fw.up.version = 1 then s.fw.up.pieces ++ data else data
      let want := min 4096 (total.toNat - offset.toNat)
      if s.fw.up.version = 1 && decide (whole.length < want) then
        setPort s true fun p => { p with pieces := whole, partialAt := some s.clock.now }
      else
        takeChunk (setPort s true fun p => { p with pieces := [], partialAt := none })
          { package := package, offset := offset.toNat, total := total.toNat, crc := crc, data := whole })

/-- CREDIT (R404, R405): chunks below RESUME_AT have left for good; with every credit back, the stream resumes there
(in part DEDUCED, notes/assumptions/86). -/
def execCredit (resumeAt : Word) (credits : Nat) (s : State) : Result :=
  .next (if !portUp s false then s
    else
      let s := heard s false
      let n := min 8 (s.fw.dn.credits + credits)
      let s := setFw s fun f =>
        { f with dn := { f.dn with credits := n },
                 relayQ := f.relayQ.filter fun k => decide (resumeAt.toNat ≤ k.offset),
                 relayed := match f.relayed with
                   | some (p, off) => if n = 8 ∧ resumeAt.toNat < off then some (p, resumeAt.toNat) else some (p, off)
                   | none => none }
      sendRelay 9 s)

/-! ## Activation and status (R408, R409) -/

/-- ACTIVATE (R409): as FW_ACTIVATE with CHAIN, without a response. -/
def execActivate (package : Word) (s : State) : Result :=
  .next (if !portUp s true then s
    else
      let r := activatePackage (setFw (heard s true) fun f => { f with chain := true, chainDone := false }) package
      if r.2 then r.1 else crocusRestart (sendActivate r.1 package))

/-- STATE of an entry code. -/
def entryRunOf (n : Nat) : Option EntryRun :=
  [EntryRun.none, .staging, .staged, .refused, .sigBad, .notStaged, .probation, .committed, .reverted, .pendingRestart, .unreachable][n]?

/-- A newer entry for a position replaces the one held. -/
def takeEntry (es : List StatusEntry) (e : StatusEntry) : List StatusEntry :=
  (es.filter fun x => x.position != e.position) ++ [e]

/-- STATUS (R408): entries from downstream are held and relayed upstream with the own one. -/
def execStatus (entries : List (Nat × Nat × Nat)) (s : State) : Result :=
  .next (if !portUp s false then s
    else
      let es := (entries.take 64).filterMap fun e =>
        (entryRunOf e.2.1).map fun r => ({ position := e.1, run := r, reasons := e.2.2 % 65536 } : StatusEntry)
      let s := setFw (heard s false) fun f => { f with entries := es.foldl takeEntry f.entries }
      checkChainDone (checkReport (sendStatus s)))

/-- CHAIN_REPORT_TIMEOUT (R408): 10 s after the last chunk relayed, positions without an entry are UNREACHABLE
(in part DEDUCED, notes/assumptions/86). -/
def execChainReportTimeout (s : State) : Result :=
  .next (match s.fw.lastRelayAt.orElse fun _ => s.fw.staging.map (·.lastAt) with
    | some t =>
      if portsWork s && !s.fw.reportDone && due s t 10000 then
        let lost := (missingPositions s).map fun p => ({ position := p, run := .unreachable, reasons := 0 } : StatusEntry)
        let s := setFw s fun f => { f with entries := f.entries ++ lost }
        checkChainDone (finishReport (if lost.isEmpty then s else sendStatus s))
      else s
    | none => s)

end Sys2Proof.Machine
end

