-- ==== Sys2Proof/Machine/HostMem.lean ====
section
/-! DEFINITION. CXL.mem commands: reads, writes, demand fetches, the drain and release of the write buffers, and held writes
(chapters 01 to 03, 05 and 08). -/

namespace Sys2Proof.Machine

open Sys2Proof

/-- A request reaches a link: decoded, given a slot, and admitted or kept waiting (R67–R73). No request comes over a link that is
not trained or without a credit (in part DEDUCED, notes/assumptions/33). -/
def receiveMem (s : State) (link : Link) (tag : Nat) (requester : Option (BitVec 12)) (hpa : Nat) (isWrite : Bool) (data : Line)
    (enables : DWord) (poison : Bool) (ecc : EccOutcome) : State :=
  if !s.host.link[link].trained || s.host.link[link].heldIdle || !hasCredit s link then s
  else match decodeHpa s link hpa with
    | none =>
      let s := logEvent s 0x0281 0 []
      if isWrite then s else emit s (.readPoison link tag 0)
    | some dpa =>
      enterSlot { s with host := { s.host with arrivals := s.host.arrivals + 1 } }
        { link := link, tag := tag, requester := requesterId s link requester, isWrite := isWrite, line := dpa / 64,
          data := data, enables := enables, poison := poison, why := .admission, ecc := ecc, arrival := s.host.arrivals, order := 0 }

/-- CXL_MEM_READ (R12, R67–R69, R104, R214, R219). -/
def execCxlMemRead (link : Link) (tag : Nat) (requester : Option (BitVec 12)) (hpa : Nat) (ecc : EccOutcome) (s : State) : Result :=
  .next (receiveMem s link tag requester hpa false 0 0 false ecc)

/-- CXL_MEM_WRITE (R13, R49, R67–R69, R74–R76, R104). `ecc` is what the read of the old line finds, in the merge of a partial write or in
the drain of a full one. -/
def execCxlMemWrite (link : Link) (tag : Nat) (requester : Option (BitVec 12)) (hpa : Nat) (data : Line) (enables : DWord)
    (poison : Bool) (ecc : EccOutcome) (s : State) : Result :=
  .next (receiveMem s link tag requester hpa true data enables poison ecc)

/-- DEMAND_FETCH_COMPLETE (R223–R225). -/
def execDemandFetchComplete (granule : Nat) (outcome : DecodeOutcome) (micros : Nat) (s : State) : Result :=
  .next (endFetch s granule outcome micros)

/-- WRITE_BUFFER_DRAIN (R14, R124–R126, R132). -/
def execWriteBufferDrain (line : Nat) (s : State) : Result :=
  .next (match drainable s line with
    | some b => drainLine s b
    | none => s)

/-- The last replay of a channel's writes has passed the write CRC window: it was not made in the present millisecond (R105)
(in part DESIGN CHOICE, notes/assumptions/107). -/
def crcPassed (s : State) (ch : DramCh) : Bool := s.dram.ch[ch].replayAt.all fun t => decide (t < s.clock.now)

/-- WRITE_BUFFER_RELEASE (R14, R105): the oldest entry of the line leaves once its data and its parity are written and past the write CRC
window (in part DESIGN CHOICE, notes/assumptions/107). -/
def execWriteBufferRelease (line : Nat) (s : State) : Result :=
  .next (let own := homeOf s line
    if (s.host.buf.any fun b => b.line == line && b.drained && b.parityOut)
        && crcPassed s own && crcPassed s (Config.parityChannel (stripeOf line)) then
      setChan (releaseLine s line) own fun d => { d with replays := 0, replayAt := none }
    else s)

/-- STAGING_ENTRY_CLOSE (R125): 500 ns after it opened the entry writes the parity line. -/
def execStagingEntryClose (stripe : Nat) (s : State) : Result := .next (closeStaging s stripe)

/-- The waiting request of a tag. -/
def waiting (s : State) (link : Link) (tag : Nat) : Option Slot :=
  s.host.slots.find? fun q => q.link == link && q.tag == tag && (q.why == .admission || q.why == .room)

/-- HELD_WRITE_ADMIT (R49, R70, R74): a held write is admitted once nothing holds it. -/
def execHeldWriteAdmit (link : Link) (tag : Nat) (s : State) : Result :=
  .next (match waiting s link tag with
    | some q =>
      match waitReason s q true with
      | some _ => s
      | none => admitSlot { s with host := { s.host with slots := s.host.slots.erase q } } q
    | none => s)

end Sys2Proof.Machine
end

