-- ==== Sys2Proof/Machine/Thermal.lean ====
section
/-! DEFINITION. Commands of the thermal system: samples, bands, reefing levels, the AON comparator (R265–R279). -/

namespace Sys2Proof.Machine

open Sys2Proof

/-- DIE_SITE_SAMPLE (R266): one reading of each die site, by site number; none is the diode fault code. -/
def execDieSiteSample (readings : List (Option Int)) (s : State) : Result :=
  .next (if coreUp s then
    afterSamples ((fins 8).foldl (fun s i => match readings[i.val]? with
      | some r => sampleSite s (Fin.ofNat 32 i.val) r
      | none => s) s)
  else s)

/-- The site is remote and its pointer byte has been lost with a failed read (R452). -/
def notePointer (s : State) (i : Site) (ok : Bool) : State :=
  { s with lb := { s.lb with pointers := if ok then (if s.lb.pointers.contains i then s.lb.pointers else s.lb.pointers ++ [i])
                                         else s.lb.pointers.filter fun x => x != i } }

/-- SENSOR_READMIT (R269, R271): an ignored site whose samples have been plausible for 10 s returns to use; a crossing that this causes
counts for the dwells. -/
def execSensorReadmit (site : Site) (s : State) : Result :=
  .next (if s.thermal.site[site].run = .ignored && (s.thermal.site[site].goodSince.any fun t => due s t 10000) then
    noteCrossings (checkMinimums (setSite s site fun t => { t with run := .plausible, reason := .none, goodSince := none, hist := [] }))
  else s)

/-- SENSOR_REREAD_COMPLETE (R269, R345): the re-read test of a site ends. Five failures make the fault permanent. -/
def execSensorRereadComplete (site : Site) (anyPlausible : Bool) (s : State) : Result :=
  .next (match runningTest s (.site site) with
    | none => s
    | some t =>
      if anyPlausible then endTest (countTransient s (.site site)) t true
      else
        let x := s.thermal.site[site]
        let s := setSite s site fun x => { x with run := .retired }
        checkMinimums (endTest (raise s 0x0A06 [site.val, domainCode x.domain, reasonCode x.reason]) t false))

/-- Sets a DRAM channel's reefing band, which QV_DC_STAT.HOT shows. -/
def setDramReef (s : State) (ch : DramCh) (b : Bool) : State :=
  { s with thermal := { s.thermal with dram := vecMod s.thermal.dram ch fun x => { x with reef := b } } }

/-- Changes the bands of a NAND channel. -/
def setNandBand (s : State) (ch : FlashCh) (f : NandBand → NandBand) : State :=
  { s with thermal := { s.thermal with nand := vecMod s.thermal.nand ch f } }

/-- A NAND band changes, and the channel's timing with it. -/
def nandBandChange (s : State) (ch : FlashCh) (f : NandBand → NandBand) : State :=
  let s := setNandBand s ch f
  { s with flash := { s.flash with ch := vecMod s.flash.ch ch fun x => { x with band := nandBandOf s.thermal.nand[ch] } } }

/-- DRAM bands are evaluated while DRAM is powered (R510). -/
def dramBands (s : State) : Bool := coreUp s && !s.power.minimal && !inCrocus s

/-- The band whose edge has been crossed for 100 ms changes (R271, Table 10-3). -/
def bandChange (s : State) (edge : BandEdge) (entering : Bool) : State :=
  match edge with
  | .dieHot =>
    if crossed (dieMax s) 95 entering s.thermal.dieHot then { s with thermal := { s.thermal with dieHot := entering } } else s
  | .dieReef =>
    if crossed (dieMax s) 100 entering s.thermal.dieReef then { s with thermal := { s.thermal with dieReef := entering } } else s
  | .dieTrip =>
    if entering && crossed (dieMax s) 112 true s.thermal.dieTrip then
      let t := { s with thermal := { s.thermal with dieTrip := true } }
      tripSave (setTrip t 1 (leadSite t fun x => x.domain == .die) 31 ((dieMax s).getD 0)) .dieTrip
    else s
  | .dram2x ch =>
    if dramBands s && !singleMode s && crossed (dramMax s ch) 85 entering s.dram.ch[ch].band2x then setBand2x s ch entering else s
  | .dramReef ch =>
    if dramBands s && crossed (dramMax s ch) 95 entering s.thermal.dram[ch].reef then setDramReef s ch entering else s
  | .dramEmergency ch =>
    if dramBands s && crossed (dramMax s ch) 100 entering s.thermal.dram[ch].emergency then
      let t := { s with thermal := { s.thermal with dram := vecMod s.thermal.dram ch fun x => { x with emergency := entering } } }
      if entering then
        tripSave (setTrip t 2 (leadSite t fun x => x.domain == .dram && x.channels.getLsbD ch) ch.val ((dramMax s ch).getD 0)) .dramEmergency
      else t
    else s
  | .nand1 ch =>
    if crossed (nandMax s ch) 40 entering s.thermal.nand[ch].band1 then nandBandChange s ch fun b => { b with band1 := entering } else s
  | .nand2 ch =>
    if crossed (nandMax s ch) 70 entering s.thermal.nand[ch].band2 then nandBandChange s ch fun b => { b with band2 := entering } else s
  | .nandOver ch =>
    if crossed (nandMax s ch) 85 entering s.thermal.nand[ch].isOver then setNandBand s ch fun b => { b with isOver := entering } else s

/-- THERMAL_BAND_DWELL (R20, R271): a filtered maximum has stayed across a band edge for 100 ms. -/
def execThermalBandDwell (edge : BandEdge) (entering : Bool) (s : State) : Result :=
  .next (if coreUp s && dwelt s edge entering then bandChange s edge entering else s)

/-! ## Reefing levels (R272) -/

/-- The target level inside a band: min(7, max(1, floor(T − edge) + 1)). -/
def bandTarget (m : Option Int) (edge : Int) : Nat :=
  match m with
  | some t => min 7 (max 1 ((t - edge * 1024) / 1024 + 1).toNat)
  | none => 1

/-- The highest filtered maximum among the DRAM channels in the reefing band. -/
def dramReefMax (s : State) : Option Int :=
  maxInt (((fins 17).filter fun c => s.thermal.dram[c].reef).filterMap fun c => dramMax s c)

/-- The highest filtered maximum among the NAND channels in the Over band. -/
def nandReefMax (s : State) : Option Int :=
  maxInt (((fins 32).filter fun c => s.thermal.nand[c].isOver).filterMap fun c => nandMax s c)

/-- Targets of the thermal causes. -/
def dieTarget (s : State) : Nat := if s.thermal.dieReef then bandTarget (dieMax s) 100 else 0

/-- Target of THERM_DRAM. -/
def dramTarget (s : State) : Nat := if s.thermal.dram.any fun b => b.reef then bandTarget (dramReefMax s) 95 else 0

/-- Target of THERM_NAND; never set in SINGLE mode (R268). -/
def nandTarget (s : State) : Nat :=
  if (s.thermal.nand.any fun b => b.isOver) && !singleMode s then bandTarget (nandReefMax s) 85 else 0

/-- One step toward a target. -/
def stepToward (l target : Nat) : Nat := if l < target then l + 1 else if target < l then l - 1 else l

/-- THERMAL_REEF when a cause becomes set, at most once per 10 min per cause; the causes THERM_DIE, THERM_DRAM and THERM_NAND go as 0, 1
and 2, in the order of Table 10-4 (R281) (in part DESIGN CHOICE, notes/assumptions/102). -/
def reefNotice (s : State) (cause old new : Nat) (m : Option Int) : State :=
  if old = 0 ∧ 0 < new ∧ (kvGet s.thermal.reefSent cause).all (fun t => due s t 600000) then
    raise { s with thermal := { s.thermal with reefSent := kvSet s.thermal.reefSent cause s.clock.now } } 0x0703
      [cause, new, signedBits 10 ((m.getD 0) / 512)]
  else s

/-- REEF_LEVEL_STEP (R20, R272): every thermal level moves one step toward its target, at most once per 100 ms (in part DEDUCED,
notes/assumptions/73). -/
def execReefLevelStep (s : State) : Result :=
  .next (if coreUp s && due s s.thermal.stepAt 100 then
    let r := s.thermal.reef
    let n : ReefLevels := { r with die := stepToward r.die (dieTarget s), dram := stepToward r.dram (dramTarget s),
                                   nand := stepToward r.nand (nandTarget s) }
    let t := { s with thermal := { s.thermal with reef := n, stepAt := s.clock.now } }
    reefNotice (reefNotice (reefNotice t 0 r.die n.die (dieMax s)) 1 r.dram n.dram (dramReefMax s)) 2 r.nand n.nand (nandReefMax s)
  else s)

/-! ## The AON comparator (R277–R279) -/

/-- AON_BACKSTOP_TRIP (R279): site 0 above 125 °C for 1 ms while VDD_CORE is powered. TEMP of the record is the comparator's last reading
(in part DESIGN CHOICE, notes/assumptions/102). -/
def execAonBackstopTrip (s : State) : Result :=
  .next (if s.rails.rail[1].en then
    let s := setTrip s 3 0 31 (s.thermal.aonSite0 * 8)
    let s := recordTrip { s with thermal := { s.thermal with latched := true } } (tripNow s 4 0) false
    beginShutdown { s with power := { s.power with idle := false } } .trip
  else s)

/-- AON_SITE0_SAMPLE (R266, R277): the comparator's reading of site 0, in 1/128 °C. A start that waited for it follows. -/
def execAonSite0Sample (temp : Int) (s : State) : Result :=
  .next (if s.power.aon then
    let cool := decide (temp < 109 * 128)
    tryStart { s with thermal := { s.thermal with
      aonSite0 := temp, aonCoolSince := if cool then some (s.thermal.aonCoolSince.getD s.clock.now) else none } }
  else s)

/-- EMERGENCY_STANDBY_EXIT (R278): every channel has stayed below 97 °C for 100 ms. -/
def execEmergencyStandbyExit (s : State) : Result :=
  .next (if inStandby s && s.power.standby == .byCooling && coolEnough s && mayStart s then startBoot s else s)

end Sys2Proof.Machine
end

