-- ==== Sys2Proof/Machine/LocalBus.lean ====
section
/-! DEFINITION. The cycle of the local bus with its sensor reads, alerts and regulator polls, and the timeouts and stuck buses of both
two-wire buses (R449, R451–R459). -/

namespace Sys2Proof.Machine

open Sys2Proof

/-- LB_ALERT_UNMASK (R456): LB_ALERT_N is watched again after 1 s. -/
def execLbAlertUnmask (s : State) : Result :=
  .next (if s.lb.alertMasked && due s s.lb.maskedAt 1000 then setLb s fun b => { b with alertMasked := false } else s)

/-- The last STATUS_WORD of a rail's regulator. -/
def lastStatus (s : State) (r : Rail) : Option (BitVec 16) := (s.lb.regStatus.find? fun x => x.1 == r).map (·.2)

/-- A regulator does not acknowledge: logged once, and not polled again until the next start-up (R455). -/
def regulatorSilent (s : State) (r : Rail) : State :=
  logEvent (setLb s fun b => { b with nack := satAdd 8 b.nack 1, lastAddr := BitVec.ofNat 7 (0x60 + r.val - 1), regSilent := b.regSilent ++ [r] })
    (Config.unnamedEvent 3) 1 [BitVec.ofNat 8 (railNo r)]

/-- A poll of a rail's regulator (R455): where the rail is qualified, while the bus is in service. -/
def pollRegulator (s : State) (rail : Rail) (status : Option (BitVec 16)) : State :=
  if s.lb.state = .inService && coreUp s && s.rails.rail[rail].run == .qualified && rail.val != 0 && !s.lb.regSilent.contains rail then
    match status with
    | none => regulatorSilent s rail
    | some w =>
      if lastStatus s rail = some w then s
      else logEvent (setLb s fun b => { b with regStatus := (b.regStatus.filter fun x => x.1 != rail) ++ [(rail, w)] }) 0x0E85 1
        ([BitVec.ofNat 8 (railNo rail)] ++ leBytes 2 w.toNat)
  else s

/-- REGULATOR_POLL (R455). -/
def execRegulatorPoll (rail : Rail) (status : Option (BitVec 16)) (s : State) : Result := .next (pollRegulator s rail status)

/-! ## The 1 ms cycle (R451, R452, R456) -/

/-- The reading of a sensor's word by its FORMAT code, in units of 1/128 °C (Table 19-3). -/
def sensorReading (format : Nat) (w : BitVec 16) : Int :=
  match format with
  | 1 => (w.extractLsb' 4 12).toInt * 8
  | 2 => (w.extractLsb' 3 13).toInt * 8
  | 3 => w.toInt
  | 4 => (w.extractLsb' 0 13).toInt * 8
  | _ => (w.extractLsb' 5 11).toInt * 16

/-- One read of a remote site: the word that its sensor gives, none where it does not acknowledge. -/
def readRemote (s : State) (r : Site × Option (BitVec 16)) : State :=
  match s.startup.settings.bind fun c => c.sensors.find? fun e => e.site == r.1 with
  | none => s
  | some e =>
    if s.thermal.site[r.1].run == .unmapped || s.thermal.site[r.1].run == .retired then s
    else
      let s := if r.2.isSome then s else setLb s fun b => { b with nack := satAdd 8 b.nack 1, lastAddr := e.addr }
      sampleSite (notePointer s r.1 r.2.isSome) r.1 (r.2.map (sensorReading e.format))

/-- The rail whose regulator has an address (Table 19-2). -/
def railAt (a : BitVec 7) : Option Rail := (fins 12).find? fun r => decide (1 ≤ r.val ∧ 0x60 + (r.val - 1) = a.toNat)

/-- The service of an answer of the Alert Response Address (R456): a read of the sensor out of turn, a STATUS read of the charger, or
a poll of the regulator; `w` is the word that it reads. -/
def serviceAlert (s : State) (r : BitVec 7 × Option (BitVec 16)) : State :=
  match s.startup.settings.bind fun c => c.sensors.find? fun e => e.addr == r.1 with
  | some e => readRemote s (e.site, r.2)
  | none =>
    if r.1 = 0x09 then pollCharger s r.2
    else match railAt r.1 with
      | some rail => pollRegulator s rail r.2
      | none => s

/-- An address that Table 19-2 names, with the settings in force. -/
def busAddress (s : State) (a : BitVec 7) : Bool :=
  a == 0x50 || a == 0x09 || a == 0x0C || (railAt a).isSome || match s.startup.settings with
    | some c => a == c.pack.idAddr || c.sensors.any fun e => e.addr == a
    | none => false

/-- The address that makes the controller ignore LB_ALERT_N (R456): one that is absent from Table 19-2, or the last of 8 reads that
leave it low. -/
def alertFault (s : State) (reads : List (BitVec 7)) (low : Bool) : Option (BitVec 7) :=
  match reads.find? fun a => !busAddress s a with
  | some a => some a
  | none => if low && decide (reads.length ≥ 8) then reads.getLast? else none

/-- The answers of the Alert Response Address in a service window, each serviced in the order of its arrival (R456). -/
def takeAlerts (s : State) (reads : List (BitVec 7 × Option (BitVec 16))) (low : Bool) : State :=
  if s.lb.alertMasked then s
  else
    let s := reads.foldl serviceAlert s
    match alertFault s (reads.map (·.1)) low with
    | some a => logEvent (setLb s fun b => { b with alertMasked := true, maskedAt := s.clock.now }) (Config.unnamedEvent 2) 1 [a.setWidth 8]
    | none => s

/-- LOCAL_BUS_CYCLE (R266, R451, R452, R456): the words of the remote sensors, then the answers of the Alert Response Address with the
word that the service of each reads, and the service window's length and the slots skipped. No cycle runs while the bus is stuck or
not in use (in part DESIGN CHOICE, notes/assumptions/6). -/
def execLocalBusCycle (readings : List (Site × Option (BitVec 16))) (araReads : List (BitVec 7 × Option (BitVec 16))) (alertLow : Bool)
    (window skipped : Nat) (s : State) : Result :=
  .next (if s.lb.state = .inService && (coreUp s || inStandby s) then
    let s := takeAlerts (readings.foldl readRemote s) araReads alertLow
    afterSamples { s with lb := { s.lb with window := min 255 (window / 4), skipped := satAdd 8 s.lb.skipped skipped } }
  else s)

/-- A transfer to a local target has failed (R452–R455). -/
def localFailed (s : State) (a : BitVec 7) : State :=
  match s.startup.settings with
  | none => s
  | some c =>
    match c.sensors.find? fun e => e.addr == a with
    | some e => if s.thermal.site[e.site].run = .unmapped ∨ s.thermal.site[e.site].run = .retired then s
                else failedRead (notePointer s e.site false) e.site
    | none =>
      if a = 0x09 then chargerSilent s
      else if a = c.pack.idAddr then identityPair s none none
      else match railAt a with
        | some r => if s.lb.regSilent.contains r then s else regulatorSilent s r
        | none => s

/-- A stretch timeout on the local bus (R457). -/
def localTimeout (s : State) (a : BitVec 7) (c : ClearOutcome) : State :=
  if s.lb.state = .stuck ∨ !s.power.aon then s
  else
    let s := logEvent (setLb s fun b => { b with timeout := satAdd 8 b.timeout 1, lastAddr := a }) 0x0E82 1 [a.setWidth 8]
    let t := clearLocal s (some c)
    if t.lb.state = .stuck then t else localFailed t a

/-- A stretch timeout of a transfer that the controller drives on the SMBus (R457): a failed transfer under R442. -/
def smbusTimeout (s : State) (a : BitVec 7) (c : ClearOutcome) : State :=
  if s.smb.state ≠ .sending then s
  else
    let s := logEvent (setSmb s fun b => { b with timeout := satAdd 8 b.timeout 1 }) 0x0E82 1 [a.setWidth 8]
    clearSmbus (failTransfer s) (some c)

/-- CLOCK_STRETCH_TIMEOUT (R457, R458): SCL held low for more than 25 ms, and what the bus-clear procedure ends in. -/
def execClockStretchTimeout (local_ : Bool) (address : BitVec 7) (cleared : ClearOutcome) (s : State) : Result :=
  .next (if local_ then localTimeout s address cleared else smbusTimeout s address cleared)

/-- BUS_CLEAR_RETRY (R459): every 60 s while a bus is stuck (in part DEDUCED, notes/assumptions/99). -/
def execBusClearRetry (local_ : Bool) (cleared : ClearOutcome) (s : State) : Result :=
  .next (if local_ then
      if s.lb.state = .stuck && due s s.lb.retryAt 60000 then clearLocal (setLb s fun b => { b with retryAt := s.clock.now }) (some cleared)
      else s
    else if s.smb.stuck && s.power.aon && due s s.smb.retryAt 60000 then
      clearSmbus (setSmb s fun b => { b with retryAt := s.clock.now }) (some cleared)
    else s)

end Sys2Proof.Machine
end

