-- ==== Sys2Proof/Machine/Mailbox.lean ====
section
/-! DEFINITION. Commands of the CXL mailbox beside QMP: shutdown state, health, poison, firmware information and the label storage
area (R60, R77–R81, R401). Return codes are those of the CXL mailbox. -/

namespace Sys2Proof.Machine

open Sys2Proof

/-- The function's mailbox takes commands: not through a revision 1.1 partner (R62). -/
def mailboxUp (s : State) (l : Link) : Bool := carrierUp s (.mailbox l)

/-- A command is queued: in a save (Table 03-3), and while the port engine of the link is swapped (R23)
(in part DEDUCED, notes/assumptions/65). -/
def mailboxQueues (s : State) (l : Link) : Bool := saving s || portWaits s l

/-- A mailbox command runs, or waits in the mailbox, which holds one (R23, R64). A queued command goes with its link's function when the
save isolates the link (R65, R191). -/
def throughMailbox (s : State) (l : Link) (c : Instr) (f : State) : State :=
  if !mailboxUp s l then s
  else if !mailboxQueues s l then f
  else { s with host := { s.host with link := vecMod s.host.link l fun k => { k with mbx := some (k.mbx.getD c) } } }

/-- The metadata area is available: DRAM is in service and step 7 has loaded it. -/
def metadataUp (s : State) : Bool := s.power.dramUp && !s.power.minimal && !s.power.starting && (s.power.state == .run || s.power.state == .restore)

/-- Return codes. -/
def mbxInvalidInput : Nat := 0x2
/-- Unsupported. -/
def mbxUnsupported : Nat := 0x3
/-- Retry required. -/
def mbxRetry : Nat := 0x5
/-- Media disabled. -/
def mbxMediaDisabled : Nat := 0x7
/-- Invalid physical address. -/
def mbxInvalidAddress : Nat := 0xF

/-- Runs a mailbox command that needs the metadata area: CROCUS serves download commands only, the minimal profile has no media. -/
def withMetadata (s : State) (l : Link) (f : State) : State :=
  if inCrocus s then emit s (.mailbox l mbxUnsupported [])
  else if !metadataUp s then emit s (.mailbox l mbxMediaDisabled [])
  else f

/-- What SET_SHUTDOWN_STATE does (R78). -/
def doSetShutdownState (link : Link) (dirty : Bool) (s : State) : State :=
  withMetadata s link (emit { s with host := { s.host with shutdownDirty := dirty } } (.mailbox link 0 []))

/-- SET_SHUTDOWN_STATE (R78). -/
def execSetShutdownState (link : Link) (dirty : Bool) (s : State) : Result :=
  .next (throughMailbox s link (.setShutdownState link dirty) (doSetShutdownState link dirty s))

/-- The payload of Get Health Info: the dirty shutdown count in its place; the chapters set no other field, and those are free. -/
def healthPayload (s : State) : List Byte :=
  ((List.range 6).map fun i => Config.healthByte s.fresh i) ++ leBytes 4 s.host.dirtyShutdowns
    ++ (List.range 8).map fun i => Config.healthByte s.fresh (10 + i)

/-- What GET_HEALTH_INFO does (R78) (in part DEDUCED, notes/assumptions/65). -/
def doGetHealthInfo (link : Link) (s : State) : State :=
  withMetadata s link (emit { s with fresh := s.fresh + 1 } (.mailbox link 0 (healthPayload s)))

/-- GET_HEALTH_INFO (R78). -/
def execGetHealthInfo (link : Link) (s : State) : Result :=
  .next (throughMailbox s link (.getHealthInfo link) (doGetHealthInfo link s))

/-! ## Poison (R79–R81) -/

/-- The runs of lines of a range that are not cleared: first line and count. -/
def lineRuns (cleared : List Nat) : Nat → Nat → List (Nat × Nat)
  | _, 0 => []
  | l, n + 1 =>
    let rest := lineRuns cleared (l + 1) n
    if cleared.contains l then rest
    else match rest with
      | (a, k) :: t => if a = l + 1 then (l, k + 1) :: t else (l, 1) :: (a, k) :: t
      | [] => [(l, 1)]

/-- Puts an entry into a list that rises by address. -/
def insertEntry (e : Nat × Nat × PoisonSource) : List (Nat × Nat × PoisonSource) → List (Nat × Nat × PoisonSource)
  | [] => [e]
  | x :: t => if e.1 < x.1 then e :: x :: t else x :: insertEntry e t

/-- Entries of the poison record in DPA order: first line, lines, source. A granule poisoned whole is one entry, less what has been
cleared. -/
def poisonEntries (s : State) : List (Nat × Nat × PoisonSource) :=
  let p := s.host.poison
  let n := linesPerGranule s
  let gs := p.granules.flatMap fun g => (lineRuns p.cleared (g.1 * n) n).map fun r => (r.1, r.2, g.2)
  let own := p.lines.filter fun l => !(p.granules.any (fun g => g.1 == lineGranule s l.1) && !p.cleared.contains l.1)
  (own.map fun l => (l.1, 1, l.2)).foldl (fun es e => insertEntry e es) gs

/-- The entry meets a range of lines. -/
def meets (lo n : Nat) (e : Nat × Nat × PoisonSource) : Bool := decide (e.1 < lo + n ∧ lo < e.1 + e.2.1)

/-- Payload of Get Poison List: flags (bit 1 overflow), a free timestamp, the count and the records. -/
def poisonPayload (s : State) (es : List (Nat × Nat × PoisonSource)) : List Byte :=
  let out := es.take 4096
  leBytes 1 (if es.length > 4096 then 2 else 0) ++ leBytes 1 0 ++ ((List.range 8).map fun i => Config.healthByte s.fresh (32 + i))
    ++ leBytes 2 out.length ++ List.replicate 20 0
    ++ out.flatMap fun e => leBytes 8 (64 * e.1 + sourceCode e.2.2) ++ leBytes 4 e.2.1 ++ leBytes 4 0

/-- What GET_POISON_LIST does (R81): `first` is a DPA and `length` a number of lines; an entry is returned when it
meets the range, and with length 0 when it holds the line `first` and begins before it (in part DESIGN CHOICE, notes/assumptions/102)
(in part PRESUMED, notes/assumptions/64; DEDUCED, notes/assumptions/65). -/
def doGetPoisonList (link : Link) (first : Nat) (length : Nat) (s : State) : State :=
  withMetadata s link
    (emit { s with fresh := s.fresh + 1 } (.mailbox link 0 (poisonPayload s ((poisonEntries s).filter (meets (first / 64) length)))))

/-- GET_POISON_LIST (R81). -/
def execGetPoisonList (link : Link) (first : Nat) (length : Nat) (s : State) : Result :=
  .next (throughMailbox s link (.getPoisonList link first length) (doGetPoisonList link first length s))

/-- The DPA names a line of the host-visible capacity. -/
def lineAddress (s : State) (dpa : Nat) : Bool := decide (dpa % 64 = 0 ∧ dpa < hvBytes s)

/-- A line is written whole and clean, behind the fetch of its granule where that is absent (R76, R80). -/
def writeClean (s : State) (line : Nat) (data : Line) : State :=
  let g := lineGranule s line
  let lost := needsFetch s line && regionState s (regionOf g) == .lost
  let s := if lost then zeroFill s g else s
  let wait := needsFetch s line
  let s := if wait then startFetch s g else s
  let b : BufLine := { line := line, data := data, poison := false, drained := false, parityOut := false, waitFetch := wait, ecc := .clean,
                       order := s.host.arrivals }
  dropPoison { s with host := { s.host with arrivals := s.host.arrivals + 1, buf := s.host.buf ++ [b] } } line

/-- A line's write has to wait: admission is stopped, the checkpoint of R207 is not sealed, the write buffers are full, or its granule's
fetch is held at its LUN or beyond the 4 MiB of R76 (R220) (in part DEDUCED, notes/assumptions/66). -/
def writeWaits (s : State) (line : Nat) : Bool :=
  s.host.stopped || dramHeld s || needsCheckpoint s || decide (s.host.buf.length ≥ bufferLines)
    || (fetchFirst s line && (lunBusy s (lineGranule s line) || waitingFull s))

/-- What CLEAR_POISON does (R76, R80, R207, R220): the line takes the data and is clean. While its write has to wait the host tries again
(in part PRESUMED, notes/assumptions/64; DEDUCED, notes/assumptions/66). -/
def doClearPoison (link : Link) (dpa : Nat) (data : Line) (s : State) : State :=
  withMetadata s link
    (if !lineAddress s dpa then emit s (.mailbox link mbxInvalidAddress [])
     else if writeWaits s (dpa / 64) then emit s (.mailbox link mbxRetry [])
     else emit (writeClean s (dpa / 64) data) (.mailbox link 0 []))

/-- CLEAR_POISON (R76, R80, R207, R220). -/
def execClearPoison (link : Link) (dpa : Nat) (data : Line) (s : State) : Result :=
  .next (throughMailbox s link (.clearPoison link dpa data) (doClearPoison link dpa data s))

/-- The latest buffered write to a line is poisoned. -/
def poisonBuffered (line : Nat) (bs : List BufLine) : List BufLine :=
  bs.map fun b => if b.line = line then { b with poison := true } else b

/-- What INJECT_POISON does (R79): at protection level L0 only (in part PRESUMED, notes/assumptions/64; DEDUCED,
notes/assumptions/66). -/
def doInjectPoison (link : Link) (dpa : Nat) (s : State) : State :=
  withMetadata s link
    (if s.security.level ≠ .l0 then emit s (.mailbox link mbxUnsupported [])
     else if !lineAddress s dpa then emit s (.mailbox link mbxInvalidAddress [])
     else
       let s := { s with host := { s.host with buf := poisonBuffered (dpa / 64) s.host.buf } }
       emit (addPoison s (dpa / 64) .injected) (.mailbox link 0 []))

/-- INJECT_POISON (R79). -/
def execInjectPoison (link : Link) (dpa : Nat) (s : State) : Result :=
  .next (throughMailbox s link (.injectPoison link dpa) (doInjectPoison link dpa s))

/-! ## Firmware information and labels -/

/-- Payload of Get FW Info (R401): two slots, the active image in slot 1 and the package staged whole in slot 2. -/
def fwInfoPayload (s : State) : List Byte :=
  let staged := stagedVersion s
  leBytes 1 2 ++ leBytes 1 (1 + if staged = 0 then 0 else 16) ++ List.replicate 14 0
    ++ padTo (leBytes 4 ((s.fw.active.map (·.version.toNat)).getD 0)) 16 ++ padTo (leBytes 4 staged.toNat) 16 ++ List.replicate 32 0

/-- What GET_FW_INFO does (R401) (in part DEDUCED, notes/assumptions/49; DEDUCED, notes/assumptions/65). -/
def doGetFwInfo (link : Link) (s : State) : State :=
  emit s (.mailbox link 0 (fwInfoPayload s))

/-- GET_FW_INFO (R401). -/
def execGetFwInfo (link : Link) (s : State) : Result :=
  .next (throughMailbox s link (.getFwInfo link) (doGetFwInfo link s))

/-- Bytes of the label storage area, 128 KiB (R60). -/
def labelBytes : Nat := 131072

/-- What LABEL_STORAGE_WRITE does (Table 03-1): bytes from an offset on. -/
def doLabelStorageWrite (link : Link) (offset : Nat) (data : List Byte) (s : State) : State :=
  withMetadata s link
    (if offset + data.length > labelBytes then emit s (.mailbox link mbxInvalidInput [])
     else
       let labels := (data.zipIdx).foldl (fun m b => kvSet m (offset + b.2) b.1) s.host.labels
       emit { s with host := { s.host with labels := labels } } (.mailbox link 0 []))

/-- LABEL_STORAGE_WRITE (Table 03-1). -/
def execLabelStorageWrite (link : Link) (offset : Nat) (data : List Byte) (s : State) : Result :=
  .next (throughMailbox s link (.labelStorageWrite link offset data) (doLabelStorageWrite link offset data s))

/-! ## Commands that have waited -/

/-- Runs a mailbox command that has waited. -/
def runMailbox (s : State) : Instr → State
  | .setShutdownState link dirty => doSetShutdownState link dirty s
  | .getHealthInfo link => doGetHealthInfo link s
  | .getPoisonList link first length => doGetPoisonList link first length s
  | .clearPoison link dpa data => doClearPoison link dpa data s
  | .injectPoison link dpa => doInjectPoison link dpa s
  | .getFwInfo link => doGetFwInfo link s
  | .labelStorageWrite link offset data => doLabelStorageWrite link offset data s
  | _ => s

/-- The mailbox of a link serves the command that has waited. -/
def serveMailbox (s : State) (l : Link) : State :=
  match s.host.link[l].mbx with
  | some c =>
    let t := { s with host := { s.host with link := vecMod s.host.link l fun k => { k with mbx := none } } }
    if mailboxUp s l && !mailboxQueues s l then runMailbox t c else if mailboxUp s l then s else t
  | none => s

/-- SPARE_SWAP_COMPLETE (R23): the swap ends, and the work that has waited for it goes on. -/
def execSpareSwapComplete (engine : EngineId) (s : State) : Result :=
  .next (runHeld ((fins 8).foldl serveMailbox (endSwap s engine)))

end Sys2Proof.Machine
end

