-- ==== Sys2Proof/Machine/Persist.lean ====
section
/-! DEFINITION. Commands of the persistence loop (R41–R57, R507). -/

namespace Sys2Proof.Machine

open Sys2Proof

/-- CEILING_UPDATE (R41, R44–R57, R507): every 100 ms, in a save and a restore as well (R58)
(in part DESIGN CHOICE, notes/assumptions/6). -/
def execCeilingUpdate (s : State) : Result :=
  .next (match s.startup.settings with
    | some c => if loopRuns s then loopUpdate s c else s
    | none => s)

/-- HEAT_HALVING (R41): once every 10 s (in part DESIGN CHOICE, notes/assumptions/6). -/
def execHeatHalving (s : State) : Result := .next (if loopRuns s then halveHeat s else s)

/-- FLUSH_ISSUE (R43, R48, R52, R193): a flash channel issues the flush of one granule; `errs` is what the check bytes of its lines
find (R104, R129). -/
def execFlushIssue (ch : FlashCh) (errs : List (Nat × EccOutcome)) (s : State) : Result := .next (flushOn (issueWaiting s) ch errs)

/-- DIRTY_NOW_REFRESH (R42, R507): every 1 ms (in part DESIGN CHOICE, notes/assumptions/6). -/
def execDirtyNowRefresh (s : State) : Result :=
  .next (if loopRuns s then { s with persist := { s.persist with dirtyNow := mibUp (dirtyBytes s) } } else s)

end Sys2Proof.Machine
end

