-- ==== Sys2Proof/Machine/Qmp.lean ====
section
/-! DEFINITION. The commands of the management protocol (Table 13-4), and the assembly of MCTP packets (R326, R339). -/

namespace Sys2Proof.Machine

open Sys2Proof

/-- GRANT_REST (R250). -/
def execGrantRest (hdr : QmpHdr) (s : State) : Result := .next (receive s hdr .grantRest)

/-- ESB_GET (R252). -/
def execEsbGet (hdr : QmpHdr) (s : State) : Result := .next (receive s hdr .esbGet)

/-- ESB_RESTORE (R255, Table 09-5). -/
def execEsbRestore (hdr : QmpHdr) (block : List Byte) (s : State) : Result := .next (receive s hdr (.esbRestore block))

/-- SHIP_MODE (R261). -/
def execShipMode (hdr : QmpHdr) (s : State) : Result := .next (receive s hdr .shipMode)

/-- SAVE_AND_OFF (R182, Table 07-1). -/
def execSaveAndOff (hdr : QmpHdr) (s : State) : Result := .next (receive s hdr .saveAndOff)

/-- CLEAR_TRIP (R277). -/
def execClearTrip (hdr : QmpHdr) (s : State) : Result := .next (receive s hdr .clearTrip)

/-- CLEAR_RAIL_LATCH (R289). -/
def execClearRailLatch (hdr : QmpHdr) (s : State) : Result := .next (receive s hdr .clearRailLatch)

/-- NEGOTIATE (R329, R330). -/
def execNegotiate (hdr : QmpHdr) (versions tag : Word) (flags : Byte) (chunkMs : BitVec 16) (s : State) : Result :=
  .next (receive s hdr (.negotiate versions tag flags chunkMs))

/-- NEGOTIATE with CLOSE (R330). -/
def execNegotiateClose (hdr : QmpHdr) (s : State) : Result := .next (receive s hdr .negotiateClose)

/-- PERSIST_STATUS (R335). -/
def execPersistStatus (hdr : QmpHdr) (s : State) : Result := .next (receive s hdr .persistStatus)

/-- LOG_READ (R376). -/
def execLogRead (hdr : QmpHdr) (start count : Word) (s : State) : Result := .next (receive s hdr (.logRead start count))

/-- LASTWORDS_READ (R376). -/
def execLastwordsRead (hdr : QmpHdr) (start count : Byte) (s : State) : Result := .next (receive s hdr (.lastwordsRead start count))

/-- FW_CHUNK (R338). -/
def execFwChunk (hdr : QmpHdr) (package offset total crc rsv : Word) (data : List Byte) (s : State) : Result :=
  .next (receive s hdr (.fwChunk package offset total crc rsv data))

/-- FW_ACTIVATE (R409). -/
def execFwActivate (hdr : QmpHdr) (package : Word) (flags : Byte) (s : State) : Result :=
  .next (receive s hdr (.fwActivate package flags))

/-- FW_LOCK, ACTION 0x01 (R392). -/
def execFwLockSet (hdr : QmpHdr) (s : State) : Result := .next (receive s hdr .fwLockSet)

/-- FW_LOCK, ACTION 0x02 (R336). -/
def execFwLockClear (hdr : QmpHdr) (s : State) : Result := .next (receive s hdr .fwLockClear)

/-- SELFTEST (R356). -/
def execSelftest (hdr : QmpHdr) (target : Byte) (index : BitVec 16) (s : State) : Result :=
  .next (receive s hdr (.selftest target index))

/-- DEBUG_UNLOCK, STEP 0x01 (R431). -/
def execDebugChallenge (hdr : QmpHdr) (s : State) : Result := .next (receive s hdr .debugChallenge)

/-- DEBUG_UNLOCK, STEP 0x02 (R431). -/
def execDebugResponse (hdr : QmpHdr) (signature : List Byte) (verifies : Bool) (s : State) : Result :=
  .next (receive s hdr (.debugResponse signature verifies))

/-- NOTICE_ACK (R342). -/
def execNoticeAck (hdr : QmpHdr) (first last : Word) (s : State) : Result := .next (receive s hdr (.noticeAck first last))

/-! ## MCTP (R326, R339) -/

/-- Reserved bytes of a body, joined. -/
def orBytes (bs : List Byte) : Byte := bs.foldl (fun a b => a ||| b) 0

/-- A body of Table 13-4 in bytes, with its reserved bytes joined; none for an opcode that the table lacks. -/
def parseBody (op : Nat) (b : List Byte) (verifies : Bool) : Option (QmpBody × Byte) :=
  let w := fun off => BitVec.ofNat 32 (field b off 4)
  let y := fun off => BitVec.ofNat 8 (field b off 1)
  match op with
  | 0xC001 => some (.negotiate (w 0) (w 4) (y 8) (BitVec.ofNat 16 (field b 10 2)), y 9)
  | 0xC010 => some (.esbGet, 0)
  | 0xC011 => some (.esbRestore b, 0)
  | 0xC012 => some (.grantRest, 0)
  | 0xC020 => some (.persistStatus, 0)
  | 0xC021 => some (.saveAndOff, 0)
  | 0xC030 => some (.logRead (w 0) (w 4), 0)
  | 0xC031 => some (.lastwordsRead (y 0) (y 1), 0)
  | 0xC040 => some (.fwChunk (w 0) (w 4) (w 8) (w 12) (w 16) (b.drop 20), 0)
  | 0xC041 => some (.fwActivate (w 0) (y 4), 0)
  | 0xC042 => some (if y 0 = 1 then .fwLockSet else if y 0 = 2 then .fwLockClear else .outOfRange 0xC042, 0)
  | 0xC050 => some (.selftest (y 0) (BitVec.ofNat 16 (field b 2 2)), y 1)
  | 0xC060 =>
    if y 0 = 1 then some (.debugChallenge, 0)
    else if y 0 = 2 then some (.debugResponse (slice b 2 96) verifies, y 1)
    else some (.outOfRange 0xC060, 0)
  | 0xC070 => some (.shipMode, 0)
  | 0xC080 => some (.clearRailLatch, 0)
  | 0xC081 => some (.clearTrip, 0)
  | 0xC090 => some (.noticeAck (w 0) (w 4), 0)
  | _ => none

/-- The header of Table 13-2, with the reserved bytes of the body joined to its own. -/
def parseHdr (c : Carrier) (source : BitVec 16) (m : List Byte) (rsv : Byte) : QmpHdr :=
  { carrier := c, mbxOpcode := BitVec.ofNat 16 (field m 0 2), source := source, version := BitVec.ofNat 8 (field m 2 1),
    flags := BitVec.ofNat 8 (field m 3 1), session := BitVec.ofNat 8 (field m 4 1), reserved := BitVec.ofNat 8 (field m 5 1) ||| rsv,
    status := BitVec.ofNat 16 (field m 6 2), seq := BitVec.ofNat 32 (field m 8 4), length := BitVec.ofNat 32 (field m 12 4),
    delivered := m.length - 16 }

/-- A whole MCTP message: message type 0x7E and 2 bytes of Vendor ID ahead of the QMP message (Table 13-1)
(in part DEDUCED, notes/assumptions/70). -/
def wholeMessage (s : State) (c : Carrier) (source : BitVec 16) (bytes : List Byte) (verifies : Bool) : State :=
  let m := bytes.drop 3
  if field bytes 0 1 ≠ 0x7E ∨ m.length < 16 then s
  else
    let op := field m 0 2
    let p := parseBody op (m.drop 16) verifies
    receiveOp s (parseHdr c source m (p.elim 0 (·.2))) (BitVec.ofNat 16 op) (p.map (·.1))

/-- A partial message belongs to the packet. -/
def sameMessage (c : Carrier) (source : BitVec 16) (tag : Nat) (p : PartialMsg) : Bool := p.carrier == c && p.source == source && p.tag == tag

/-- The partial message of a packet is discarded. -/
def dropPartial (s : State) (c : Carrier) (source : BitVec 16) (tag : Nat) : State :=
  setQmp s fun q => { q with partials := q.partials.filter fun p => !sameMessage c source tag p }

/-- A packet whose PEC checks (R326) (in part DEDUCED, notes/assumptions/70). -/
def takePacket (s : State) (c : Carrier) (source : BitVec 16) (som eom : Bool) (seq : Fin 4) (tag : Nat) (payload : List Byte)
    (verifies : Bool) : State :=
  let old := s.qmp.partials.find? (sameMessage c source tag)
  let bytes := match som, old with
    | true, none => some payload
    | false, some p => if p.nextSeq = seq.val then some (p.bytes ++ payload) else none
    | _, _ => none
  let s := dropPartial s c source tag
  match bytes with
  | none => s
  | some bs =>
    if eom then wholeMessage s c source bs verifies
    else setQmp s fun q =>
      { q with partials := q.partials ++ [{ carrier := c, source := source, tag := tag, nextSeq := (seq.val + 1) % 4, bytes := bs,
                                            lastAt := s.clock.now }] }

/-- MCTP_PACKET (R326, R438–R440). On SMBus the command code must be 0x0F, and the PEC is counted when it fails. -/
def execMctpPacket (carrier : Carrier) (source : BitVec 16) (command : Byte) (rate : Fin 3) (som eom : Bool) (seq : Fin 4) (tag : Nat)
    (pecOk : Bool) (payload : List Byte) (verifies : Bool) (s : State) : Result :=
  .next (match carrier with
    | .mailbox _ => s
    | .vdm _ =>
      if !carrierUp s carrier then s
      else if pecOk then takePacket s carrier source som eom seq tag payload verifies else dropPartial s carrier source tag
    | .smbus =>
      if !carrierUp s .smbus || carrierFull s .smbus then s
      else
        let s := setSmb (completeSmb s) fun b => { b with speed := rate.val }
        if command ≠ 0x0F then setSmb s fun b => { b with badCmd := satAdd 8 b.badCmd 1 }
        else
          if pecOk then takePacket s .smbus source som eom seq tag payload verifies
          else setSmb (dropPartial s .smbus source tag) fun b => { b with pec := satAdd 8 b.pec 1 })

/-- The chunk timeout of a partial message: its session's, or 2,000 ms (R339). -/
def chunkTimeout (s : State) (p : PartialMsg) : Nat :=
  if p.bytes.length < 8 then 2000
  else ((sessionOf s (BitVec.ofNat 8 (field p.bytes 7 1))).map (·.chunkMs)).getD 2000

/-- MCTP_MESSAGE_TIMEOUT (R339). -/
def execMctpMessageTimeout (carrier : Carrier) (s : State) : Result :=
  .next (setQmp s fun q =>
    { q with partials := q.partials.filter fun p => !(p.carrier == carrier && due s p.lastAt (chunkTimeout s p)) })

end Sys2Proof.Machine
end

