-- ==== Sys2Proof/Machine/Rails.lean ====
section
/-! DEFINITION. Commands of the rail supervisor: VDD_AON, the input, sequencing, faults and their reactions (R282–R295, R301, R304). -/

namespace Sys2Proof.Machine

open Sys2Proof

/-- AON_POWER_ON_RESET (R283, R304, R458): VDD_AON rises past its threshold; STRAP[2:0] are sampled, and the SMBus interface leaves
reset, with a bus clear where its bus is not idle (in part DESIGN CHOICE, notes/assumptions/53). -/
def execAonPowerOnReset (straps : Byte) (aux : Bool) (smbus : Option ClearOutcome) (s : State) : Result :=
  let t := if s.power.aon then aonLost s else s
  .next (tryStart (clearSmbus { t with power := { t.power with aon := true, aux := aux },
                                       startup := { t.startup with strapPins := straps, strapLow := straps.setWidth 3 } } smbus))

/-- AON_POWER_LOSS (R283). -/
def execAonPowerLoss (s : State) : Result := .next (if s.power.aon then aonLost s else s)

/-- AUX_INPUT_REMOVED (R418): with no 12 V input and no HOLD_EN, VDD_AON goes with it. -/
def execAuxInputRemoved (s : State) : Result :=
  .next (if s.power.aon && !s.power.inputOk && !s.charger.holdEn then
    { (aonLost s) with power := { (aonLost s).power with aux := false } }
  else { s with power := { s.power with aux := false } })

/-- The input falls out of a STANDBY that waits for a press: it may start again at its next qualification (R301). -/
def afterInputFall (s : State) : State :=
  if inStandby s && s.power.standby == .byPress && !s.power.inputOk then { s with power := { s.power with standby := .byInput } } else s

/-- The level of the 12 V input as qualified: PF_N high and 11.4 V for 10 ms (in part DESIGN CHOICE, notes/assumptions/34). -/
def inputIsGood (s : State) (straps : Byte) : State :=
  { s with power := { s.power with inputOk := true, pfLow := false }, startup := { s.startup with strapPins := straps } }

/-- INPUT_QUALIFIED (R287, R301, R420): a start-up begins where nothing holds it back
(in part DESIGN CHOICE, notes/assumptions/34). -/
def execInputQualified (straps : Byte) (s : State) : Result :=
  let t := tryStart (inputIsGood (afterInputFall s) straps)
  .next (if saving t || (t.power.starting && !s.power.starting) then beginInterval t .counted else t)

/-- The retry notice of a rail that qualified after a retry in its sequence. -/
def retryNotice (s : State) (r : Rail) : State :=
  if s.rails.rail[r].retries > 0 then raise s 0x0804 [railNo r, s.rails.rail[r].retries, 0] else s

/-- RAIL_QUALIFIED (R286, R291): a rail of the sequence qualifies, or one whose fault awaited recovery does. -/
def execRailQualified (rail : Rail) (halfMs : Nat) (s : State) : Result :=
  let x := s.rails.rail[rail]
  .next (if x.run = .qualifying ∧ s.rails.seqTodo.head? = some rail then
      let s := setRail s rail fun x => { x with run := .qualified, pg := true, qualHalf := min 255 halfMs }
      sequenceNext (retryNotice { s with rails := { s.rails with seqTop := max s.rails.seqTop (railNo rail) } } rail)
    else if x.run = .fault then recoverRail s rail halfMs
    else s)

/-- A rail has failed to come up (R289, R293). -/
def failToCome (s : State) (r : Rail) : State :=
  let s := setRail s r fun x => { x with run := .failed }
  match s.rails.seqFor with
  | .groupAgain g =>
    let todo := ((groupRails g).filter fun x => s.rails.rail[x].en).reverse
    { s with rails := { s.rails with seqTodo := [], downTodo := todo, downThen := some (.group g true) } }
  | _ => beginShutdown s (.latch r)

/-- RAIL_TIMEOUT (R286, R288): the timeout of the rail being brought up has run since EN_x rose; a RETRY rail is retried up to 3 times
(in part DESIGN CHOICE, notes/assumptions/3). -/
def execRailTimeout (rail : Rail) (s : State) : Result :=
  let x := s.rails.rail[rail]
  .next (if x.run = .qualifying ∧ s.rails.seqTodo.head? = some rail ∧ due s x.enAt x.set_.timeoutMs then
      if x.set_.cls = .retry ∧ x.retries < 3 then
        setRail s rail fun x => { x with run := .off, en := false, enAt := s.clock.now, pg := false, retries := x.retries + 1 }
      else failToCome s rail
    else s)

/-- RAIL_RETRY_REENABLE (R288): after 50 ms EN_x is driven high again. -/
def execRailRetryReenable (rail : Rail) (s : State) : Result :=
  let x := s.rails.rail[rail]
  .next (if x.run = .off ∧ !x.en ∧ 0 < x.retries ∧ s.rails.seqTodo.head? = some rail ∧ due s x.enAt 50 then enableRail s rail else s)

/-- PG_FALL (R286, R291): PG_x falls and returns, during qualification or in service for less than the fault filter: a drop. -/
def execPgFall (rail : Rail) (s : State) : Result :=
  let x := s.rails.rail[rail]
  .next (if rail.val ≠ 0 ∧ (x.run = .qualifying ∨ x.run = .qualified) then
      logEvent (setRail s rail fun x => { x with drops := satAdd 8 x.drops 1 }) 0x0881 0 []
    else s)

/-- RAIL_FAULT (R291–R295): PG_x low for the fault filter. -/
def execRailFault (rail : Rail) (s : State) : Result := .next (if rail.val = 0 then s else faultRail s rail)

/-- RAIL_RECOVERY_TIMEOUT (R291, R292): a RETRY fault without recovery escalates (in part DESIGN CHOICE, notes/assumptions/78). -/
def execRailRecoveryTimeout (rail : Rail) (s : State) : Result :=
  let x := s.rails.rail[rail]
  .next (if x.run = .fault ∧ x.set_.cls = .retry ∧ (x.faultAt.any fun t => due s t x.set_.timeoutMs) then
      react (setRail s rail fun x => { x with faultAt := none }) rail (escalated rail) true
    else s)

/-- IGNORE_FAULT_NOTICE (R291): an IGNORE rail's PG_x has been low 1 s. -/
def execIgnoreFaultNotice (rail : Rail) (s : State) : Result :=
  let x := s.rails.rail[rail]
  .next (if x.run = .fault ∧ x.set_.cls = .ignore ∧ (x.faultAt.any fun t => due s t 1000) then
      railFaultNotice (setRail s rail fun x => { x with faultAt := none }) rail .ignore false
    else s)

/-- GROUP_RESEQUENCE (R293): after 1 s the group is sequenced again, once. -/
def execGroupResequence (group : Fin 3) (s : State) : Result :=
  .next (if s.rails.groupWait.contains group && s.rails.seqTodo.isEmpty && s.rails.downThen.isNone
      && due s s.rails.groupAt[group] 1000 then
      let s := { s with rails := { s.rails with groupWait := s.rails.groupWait.filter fun g => g != group } }
      let s := beginSequence s (groupRails group) (.groupAgain group)
      if s.rails.seqTodo.isEmpty then groupBack s group else s
    else s)

/-- RESET_REACTION_RESTART (R294): 100 ms after every rail went down. -/
def execResetReactionRestart (s : State) : Result :=
  .next (if s.rails.restartWait && due s s.rails.restartAt 100 then
      let s := { s with rails := { s.rails with restartWait := false } }
      if mayStart s then beginInterval (startBoot s) .counted else enterStandby s .byInput
    else s)

/-- RAIL_DOWN_STEP (R290). -/
def execRailDownStep (s : State) : Result := .next (if s.rails.downThen.isSome then downStep s else s)

end Sys2Proof.Machine
end

