-- ==== Sys2Proof/Machine/Restore.lean ====
section
/-! DEFINITION. The commands of restore on demand: the choice of a generation, the load of its manifest and metadata, background restore,
and the checks of a retained path (R181, R204–R218, R227, R229, R309, R317). -/

namespace Sys2Proof.Machine

open Sys2Proof

/-! ## Step 6 (R204–R209, R309, R317) -/

/-- No generation is usable: the format of R181; cause 3 when records under the present key exist (R208). -/
def formatPath (s : State) (c : Settings) : State :=
  let cause := if (keyRecords s).isEmpty then 0 else 3
  beginFormat (rollBack (chosen s 2 cause 1 .format) cause 1) c

/-- GENERATION_SELECT (R204–R209): step 5 of a start-up whose DRAM is not retained has ended. -/
def execGenerationSelect (s : State) : Result :=
  .next (if s.power.state = .restore && s.power.starting && !s.startup.retained && decide (s.startup.step = 5) then
      match s.startup.settings with
      | none => s
      | some c => match highestOf (s.flash.gens.filter (candidate s c)) with
        | none => formatPath s c
        | some g => if g.gran128 = c.region128 then useGeneration s g else granMismatch s
    else s)

/-! ## Steps 7 and 8 (R207, R210, R213, R215, R340) -/

/-- The entries of a manifest chunk that could not be read are LOST (R210). -/
def loseChunk (m : List (Nat × Entry)) (k : Nat) : List (Nat × Entry) :=
  let lost : Entry := { state := .lost, band := 0, row := 0, ch := 0, seq := 0 }
  (m.filter fun e => decide (e.1 < 8192 * k)) ++ ((List.range 8192).map fun i => (8192 * k + i, lost))
    ++ m.filter fun e => decide (8192 * (k + 1) ≤ e.1)

/-- The working manifest of a generation: chunks that could not be read LOST, granules beyond the capacity left out (R210, R317)
(in part DEDUCED, notes/assumptions/81). -/
def loadedManifest (s : State) (g : Generation) (unreadable : List Nat) : List (Nat × Entry) :=
  (unreadable.foldl loseChunk g.entries).filter fun e => decide (e.1 < metaGranule s 5)

/-- Regions every granule of which is LOST (R213). -/
def lostRegions (s : State) (m : List (Nat × Entry)) : List Nat :=
  let gone := (m.filter fun e => e.2.state == .lost && decide (e.1 < hvGranules s)).map (·.1)
  ((gone.map regionOf).eraseDups).filter fun r =>
    decide ((gone.filter fun g => regionOf g == r).length ≥ min 1024 (hvGranules s - 1024 * r))

/-- Puts a region into an order of descending HEAT, equal ones by ascending number. -/
def insertHot (h : List (Nat × Nat)) (r : Nat) : List Nat → List Nat
  | [] => [r]
  | x :: t =>
    if kvGetD h x 0 < kvGetD h r 0 ∨ (kvGetD h x 0 = kvGetD h r 0 ∧ r < x) then r :: x :: t else x :: insertHot h r t

/-- Regions with HEAT above 0 in restore order; the others follow in ascending number (R215). -/
def hotRegions (s : State) (h : List (Nat × Nat)) : List Nat :=
  ((h.map (·.1)).filter fun r => decide (r < hvRegions s) && decide (0 < kvGetD h r 0)).foldl (fun o r => insertHot h r o) []

/-- A pending notice as the start-up finds it: the record that the image holds, or, for one whose header alone is left, PAYLOAD 0 with
LATE set (R340, R448) (in part DEDUCED, notes/assumptions/81). -/
def renewNotice (s : State) (img : Notices) (n : Notice) : Notice :=
  if n.aonFull || n.powerCycle == s.clock.pcycle then n
  else match img.pend.find? fun m => m.seq == n.seq with
    | some m => { m with deliveredOn := [], onLinks := [], inRings := [], firstAt := none }
    | none => { n with payload := n.payload.map fun _ => 0, late := true, deliveredOn := [], onLinks := [], inRings := [], firstAt := none }

/-- Gives the notices of this start-up the numbers that follow the image's (in part DEDUCED, notes/assumptions/81). -/
def renumber (first : Word) (ns : List Notice) : List Notice :=
  (ns.zipIdx).map fun x => { x.1 with seq := first + BitVec.ofNat 32 x.2 }

/-- The notices after step 7: the AON copy with the image's records; after a loss of VDD_AON the image's own, with this start-up's behind
them (R340) (in part DEDUCED, notes/assumptions/81). -/
def loadNotices (s : State) (img : Notices) : Notices :=
  if s.clock.timeEst || decide (s.notices.nextSeq.toNat < img.nextSeq.toNat) then
    { nextSeq := img.nextSeq + BitVec.ofNat 32 s.notices.pend.length, dropped := s.notices.dropped,
      pend := (img.pend.map fun n => { n with deliveredOn := [], onLinks := [], inRings := [], firstAt := none })
              ++ renumber img.nextSeq s.notices.pend }
  else { s.notices with pend := s.notices.pend.map (renewNotice s img) }

/-- LOST granules that the image's poison record does not hold yet are poisoned whole (R197, R210). -/
def poisonLostEntries (s : State) : State :=
  poisonLost s ((s.flash.manifest.filter fun e => e.2.state == .lost && decide (e.1 < hvGranules s)
    && !(s.host.poison.granules.any fun p => p.1 == e.1)).map (·.1))

/-- The metadata that a manifest brings back: parts whose granules are LOST hold nothing (R193, R197, R210). -/
def savedMeta (s : State) (img : MetaImage) (m : List (Nat × Entry)) : MetaImage :=
  (List.range 5).foldl (fun a k => if (kvGet m (metaGranule s k)).any fun e => e.state == .lost then flushPart a emptyMeta k else a) img

/-- Step 7 with a generation: its manifest, HEAT, wear credit and metadata area (R36, R51, R210, R333)
(in part DESIGN CHOICE, notes/assumptions/13; DEDUCED, notes/assumptions/79; DEDUCED, notes/assumptions/81). -/
def loadImage (s : State) (g : Generation) (unreadable : List Nat) : State :=
  let m := loadedManifest s g unreadable
  let img := savedMeta s g.metaImg m
  let s := { s with
    flash := { s.flash with manifest := m, chunks := unreadable, chunkMap := g.chunkMap },
    persist := { s.persist with heat := g.heat, wear := g.wear, wearPos := decide (0 < g.wear), metaFlushed := img },
    host := { s.host with poison := img.poison, labels := img.labels, shutdownDirty := img.shutdownDirty,
                          dirtyShutdowns := img.dirtyShutdowns + s.host.dirtyShutdowns },
    notices := loadNotices s img.notices,
    qmp := { s.qmp with sessions := img.sessions.filter fun x => !x.isVolatile } }
  let s := { s with persist := { s.persist with
    regionGen := regionGens s, poisonFlag := (s.host.poison.granules.map fun (p : Nat × PoisonSource) => regionOf p.1).foldl insertNat [] } }
  let s := poisonLostEntries s
  let s := unreadable.foldl (fun s k => raise s 0x0505 [k, 8192 * k, 8192]) s
  if g.entries.any (fun e => decide (metaGranule s 5 ≤ e.1)) then raise s 0x0904 [1, s.startup.sheetResult] else s

/-- Step 8: nothing of host-visible capacity is in DRAM, and RESTORE begins (R213). PHASE goes on showing a format whose seal is written
(R309). -/
def beginRestore (s : State) : State :=
  { s with
    startup := { s.startup with step := 8 },
    power := { s.power with state := .restore, starting := false, dramUp := true },
    flash := { s.flash with fullScrub := s.flash.fullScrub || s.flash.scrubOwed, scrubOwed := false, scrubbed := [] },
    restore := { s.restore with
      phase := if s.restore.phase = 6 then 6 else 3, running := true, window := true, presence := [], presentR := [], lostR := lostRegions s s.flash.manifest,
      hotOrder := hotRegions s s.persist.heat, inHand := [], fetches := [], poisoned := 0, maxUs := 0, fetchCount := 0,
      done := 0, slow := false, leftKept := 0, step8At := s.clock.now } }

/-- MANIFEST_LOAD_COMPLETE (R210): step 7 has ended; `unreadable` are the manifest chunks that neither ladder nor RAIN could read. -/
def execManifestLoadComplete (unreadable : List Nat) (s : State) : Result :=
  .next (if s.power.state = .restore && s.power.starting && decide (s.startup.step = 6) then
      let img := s.flash.gens.find? fun g => g.gen == s.restore.genUsed && s.restore.source != 2
      let s := match img with
        | some g => loadImage s g unreadable
        | none => s
      let s := beginRestore (mergeAon (setQmp s fun q => { q with tableLoaded := true }))
      let s := runHeld (renewMoves s)
      let s := if needsCheckpoint s && !s.flash.formatting then beginCheckpoint s else s
      endRestore (step9 s)
    else s)

/-! ## Background restore (R215, R216, R218) -/

/-- A restore read of the granule goes after what comes before it on its channel: demand fetches and the required flush; its DRAM writes
go after demand-fetch writes, the required flush reads and the buffered writes that may drain (R17, R18, R32)
(in part DEDUCED, notes/assumptions/84). -/
def restoreYields (s : State) (g : Nat) : Bool :=
  drainsWait s || match s.startup.settings, copyChannel s g with
    | some c, some ch => fetchOn s ch || requiredWaits s c ch
    | _, _ => false

/-- BACKGROUND_RESTORE_GRANULE (R17, R18, R215, R216) (in part DEDUCED, notes/assumptions/104). -/
def execBackgroundRestoreGranule (s : State) : Result :=
  .next (if restoreRuns s then
      match nextGranule s with
      | some g => if restoreYields s g then s else { s with restore := { s.restore with inHand := s.restore.inHand ++ [g] } }
      | none => s
    else s)

/-- RESTORE_GRANULE_COMPLETE (R216): the granule's DRAM writes are complete. One that a demand fetch has brought in meanwhile keeps what
it holds (in part DEDUCED, notes/assumptions/84). -/
def execRestoreGranuleComplete (granule : Nat) (outcome : DecodeOutcome) (s : State) : Result :=
  .next (if restoreRuns s && s.restore.inHand.contains granule then
      let t := { s with restore := { s.restore with inHand := s.restore.inHand.filter fun g => g != granule } }
      if granulePresent t granule then t else bringIn (noteCopyRead t granule false outcome) granule (readOk outcome)
    else s)

/-- RESTORE_SLOW (R218): 90 s have passed since step 8 with regions left. The flush rate is given in MB/s
(in part DEDUCED, notes/assumptions/84). -/
def execRestoreSlow (s : State) : Result :=
  .next (if restoreRuns s && !s.restore.slow && due s s.restore.step8At 90000 && decide (0 < regionsLeft s) then
      raise { s with restore := { s.restore with slow := true } } 0x0506 [regionsLeft s, reefLevel s, s.persist.issuedLast / 100000]
    else s)

/-! ## A retained path (R37, R141, R229) -/

/-- The Shroud setting stored with a channel's trained settings is the one in force (R141). -/
def shroudMatches (s : State) : Bool := s.dram.ch.toList.all fun d => d.stored.all fun x => x.2 == shroudOn s

/-- Every granule that DRAM holds is dirty: the bitmap SRAM failed its parity (R37) (in part DEDUCED, notes/assumptions/85). -/
def allDirty (s : State) : State :=
  { s with persist := { s.persist with dirty := ((List.range (hvGranules s)).filter (granulePresent s)).map fun g => (g, s.clock.now) } }

/-- The checks have passed: Memory_Active is set, unless HOLD is (R209), and the state before the reset is taken up again
(in part DEDUCED, notes/assumptions/85). -/
def retainedService (s : State) : State :=
  let s := { s with
    startup := { s.startup with path := .retained },
    restore := { s.restore with source := 3, phase := if s.restore.running then 3 else 5 },
    power := { s.power with state := if s.restore.running then .restore else .run, starting := false } }
  let s := if s.restore.running then s else debugReturns s
  let s := if s.restore.hold then { s with startup := { s.startup with step := 8 } } else beginService s
  runHeld (renewMoves (resumePass s))

/-- DRAM is not retained: start-up goes on at step 6 with the channels as they have trained (R229)
(in part DEDUCED, notes/assumptions/85). -/
def notRetained (s : State) : State :=
  let t := dramGone s
  setShroudMode { t with
    startup := { t.startup with retained := false },
    dram := { t.dram with ch := s.dram.ch, rate := s.dram.rate, rateSteps := s.dram.rateSteps, pdTimer := s.dram.pdTimer },
    shroud := { s.shroud with staging := [], pass := none, locked := none, left := 0, watermark := 0, stale := [], staleCh := none, filled := [] } }

/-- RETAINED_PATH_CHECK (R229): the stored Shroud setting, the bitmap SRAM's parity, and the CRC of the stored trained settings
(in part DEDUCED, notes/assumptions/85). -/
def execRetainedPathCheck (bitmapOk settingsOk : Bool) (s : State) : Result :=
  .next (if s.power.state = .restore && s.power.starting && s.startup.retained && decide (s.startup.step = 5) then
      if !shroudMatches s || !settingsOk then notRetained s
      else if bitmapOk then retainedService s
      else ceilingEvent (retainedService (allDirty s))
    else s)

end Sys2Proof.Machine
end

