-- ==== Sys2Proof/Machine/Save.lean ====
section
/-! DEFINITION. The commands of the power-fail save: its triggers, its phases, and the return after a Retained save (R182–R202, R228). -/

namespace Sys2Proof.Machine

open Sys2Proof

/-! ## Triggers and hold-up (R182, R183) -/

/-- An input trigger meets a reset that MR_N holds (R493): on a retained path the reset ends at once, the trigger held until step 2 has
ended, and MR_N is latched. Without DRAM to save it has no effect. -/
def endReset (s : State) (t : Trigger) : State :=
  if s.startup.retained then
    resumeBoot (holdTrigger { s with button := { s.button with mrLatched := true } } t)
  else s

/-- A trigger of the input (R182), in a reset that MR_N holds as R493 says. -/
def inputTrigger (s : State) (t : Trigger) : State :=
  if mrHolds s && s.power.state == .restore && s.power.starting && s.startup.step == 0 then endReset s t else triggerSave s t

/-- PF_N_FALL (R182, R493): PF_N has been low for 1 µs. -/
def execPfNFall (s : State) : Result :=
  .next (inputTrigger { s with power := { s.power with pfLow := true } } .pfN)

/-- VIN_SENSE_DROP (R182, R493): below 10.8 V for 10 µs. -/
def execVinSenseDrop (s : State) : Result :=
  .next (inputTrigger { s with power := { s.power with inputOk := false } } .vinSense)

/-- Phase 4 begins; the time of phase 3 is kept for the event log (R189). -/
def beginFlush (s : State) : State :=
  { s with save := { s.save with phase := 4, t3 := s.clock.now - s.save.phaseAt, phaseAt := s.clock.now } }

/-- VIN_SENSE_HOLD_UP (R183): below 10.2 V in RUN, IDLE, RESTORE or SAVE, whatever phase runs. -/
def execVinSenseHoldUp (s : State) : Result :=
  .next (if s.power.state = .run ∨ s.power.state = .restore ∨ s.power.state = .save then
      let t := assertHold { s with power := { s.power with inputOk := false } }
      if saving t then goOver t else t
    else s)

/-! ## Phases 2 and 3 (R191, R192) -/

/-- Phase 3 begins where the stores carry the save; on the input, phase 4 does (Table 07-3). A plan that names no store goes on with what
hold-up the module has (in part DEDUCED, notes/assumptions/26). -/
def beginStores (s : State) : State :=
  let s := { s with save := { s.save with phase := 3, phaseAt := s.clock.now } }
  if s.save.onStores then
    let s := if s.save.store = .input then switchOver s else s
    if s.save.store = .none || s.save.regulated then beginFlush s else s
  else { s with save := { s.save with phase := 4 } }

/-- SAVE_ISOLATE (R191): the write buffers are empty but for lines that wait on fetches; the links are held idle, requests without a
completion discarded, and rails 4 and 5 switched off. -/
def execSaveIsolate (s : State) : Result :=
  .next (if saving s && decide (s.save.phase = 1) && s.host.buf.all (fun b => b.waitFetch) then
      let s := idleLinks { s with host := { s.host with slots := [] } }
      beginStores (switchRailOff (switchRailOff s 4) 3)
    else s)

/-- SAVE_REGULATION_CONFIRMED (R192). -/
def execSaveRegulationConfirmed (s : State) : Result :=
  .next (if !saving s || !s.save.onStores || s.save.regulated || s.save.store == .input || decide (7 < s.save.phase) then s
    else
      let t := { s with save := { s.save with regulated := true } }
      if t.save.phase = 3 then beginFlush t else t)

/-! ## Charge, stores and guards (R188, R192, R193) -/

/-- The count reaches m_man in phase 4 (R193). -/
def atMark (s : State) : Bool :=
  decide (s.save.phase = 4) && (s.save.store == .pack || s.save.store == .bank) && decide ((s.save.charge : Rat) ≥ s.save.plan.mMan)

/-- The pack's charge in the one integral that the estimator counts too (R188, R233): what the pack carries of a save. -/
def feedEstimator (s : State) (drawn : Nat) : State := if packCarries s then countDrawn s (1000 * drawn) else s

/-- CHARGE_MARK_CHECK (R188, R193, R195, R308): the charge drawn from the store since the last check, in mC; for a trigger that is
held it counts from the trigger on (in part DEDUCED, notes/assumptions/26). -/
def execChargeMarkCheck (drawn : Nat) (s : State) : Result :=
  .next (if saving s && decide (s.save.phase < 8) && (s.save.onStores || s.charger.holdEn) then
      let s := feedEstimator { s with save := { s.save with charge := satAdd 32 s.save.charge drawn } } drawn
      checkOverrun (if atMark s then stopFlush s .mark else s)
    else if !s.save.heldTrigs.isEmpty then
      feedEstimator { s with save := { s.save with heldCharge := satAdd 32 s.save.heldCharge drawn } } drawn
    else s)

/-- The selected store is not to be used again in this save. -/
def dropStore (s : State) : State :=
  { s with save := { s.save with packOk := s.save.packOk && s.save.store != .pack, bankOk := s.save.bankOk && s.save.store != .bank } }

/-- SAVE_STORE_FAILURE (R192): the other store takes over when it was qualified at the trigger
(in part DEDUCED, notes/assumptions/26). -/
def execSaveStoreFailure (s : State) : Result :=
  .next (if saving s && s.save.onStores && decide (3 ≤ s.save.phase ∧ s.save.phase ≤ 7) then changeStore (dropStore s) else s)

/-- SAVE_VOLTAGE_GUARD (R193). -/
def execSaveVoltageGuard (s : State) : Result :=
  .next (if saving s && s.save.onStores then stopFlush s .voltage else s)

/-! ## End of phase 4 (R193, R197) -/

/-- Nothing is left to flush: no dirty granule, none in flight, and no buffered line that waits on a fetch. -/
def flushedAll (s : State) : Bool :=
  s.persist.dirty.isEmpty && (metaDirty s).isEmpty && s.persist.inflight.isEmpty && s.host.buf.isEmpty

/-- No erased page group takes a granule: flash is lost, or no band of the free pool is left (R193). -/
def noPageLeft (s : State) (c : Settings) : Bool :=
  decide (flashChannels s < 2)
    || (placeAny s c ((fins 32).filter fun i => fcUp s.flash.ch[i]) .granule 0 0 (List.replicate (halves c) []) none).isNone

/-- SAVE_FLUSH_END (R193): nothing is left to flush, or no page group to flush to. The charge mark, the guard voltage and the thermal
guard end the phase in the commands that bring them (in part DEDUCED, notes/assumptions/26). -/
def execSaveFlushEnd (s : State) : Result :=
  .next (if saving s && decide (s.save.phase = 4) then
      if flushedAll s then stopFlush s .empty
      else match s.startup.settings with
        | some c => if noPageLeft s c then stopFlush s .noPage else s
        | none => s
    else s)

/-! ## Phases 5 and 6 (R194, R177, R254, R369) -/

/-- FLAGS of the live block (R254) (in part DEDUCED, notes/assumptions/28). -/
def esbFlags (s : State) : Nat :=
  2 * bit s.pack.esbDefault + 4 * bit s.pack.changed + 8 * bit s.pack.restDue + 16 * bit s.pack.idUnknown

/-- The save record of R254: SAVE_PACK and SAVE_CYCLES, built in phase 6 ahead of the seal. Charge drawn after it counts in the AON
accumulator (R245) (in part DEDUCED, notes/assumptions/28). -/
def saveRecord (s : State) : State :=
  let serial := if s.pack.idUnknown then List.replicate 16 0 else s.pack.serial
  let s := logEvent s 0x0581 0 serial
  let s := logEvent s 0x0582 0 (leBytes 4 s.pack.nefc ++ leBytes 4 s.pack.qres ++ leBytes 2 (esbFlags s) ++ leBytes 3 s.save.t3 ++ leBytes 3 s.save.t4)
  { s with pack := { s.pack with lastRecord := some (serial, s.pack.nefc, s.pack.qres, s.pack.esbDefault), aonDrawn := 0, aonCounts := true } }

/-- Phase 6: the log page, the closed rows, and the seal record that the mirrors take. -/
def beginSaveSeal (s : State) (c : Settings) (j : SealJob) : State :=
  let s := saveRecord (sweepSuppressed { s with save := { s.save with phase := 6, phaseAt := s.clock.now } })
  startRecord (programPartial s) c j

/-- SAVE_MANIFEST_COMPLETE (R194): where flash took no further page group, phases 5 and 6 write nothing (R193)
(in part DEDUCED, notes/assumptions/26). -/
def execSaveManifestComplete (s : State) : Result :=
  .next (if saving s && decide (s.save.phase = 5) then
      if decide (flashChannels s < 2) || s.save.endCause == .noPage || s.flash.sealJob.isNone then sealedSave (dropJob s) false
      else match s.startup.settings, s.flash.sealJob with
        | some c, some j => if j.stage = .root && !metaWaits s .root then beginSaveSeal s c j else s
        | _, _ => s
    else s)

/-! ## Phase 7 (R98, R186, R196, R276, R295) -/

/-- The SAVE bits of a trip record (Table 10-6): sealed, granules LOST. -/
def tripSaveBits (s : State) : Nat := bit s.save.sealOk + 2 * bit s.save.lostFlag

/-- The trigger started the save or joined it. -/
def saveHas (s : State) (t : Trigger) : Bool := s.save.trigger == some t || s.save.joined.contains t

/-- A trip record for a save that a die trip or a DRAM emergency started or joined (R276, R278). -/
def saveTrip (s : State) : State :=
  if s.thermal.tripKind ≠ 0 && (saveHas s .dieTrip || saveHas s .dramEmergency) then
    recordTrip s (tripNow s (tripSaveBits s) (s.save.sealed.getD 0)) true
  else s

/-- What kind of STANDBY a save ends in (R278, R301). -/
def standbyAfter (s : State) : StandbyKind :=
  if saveHas s .dramEmergency then .byCooling
  else if s.save.after = .standby || s.rails.deferred.isSome then .byPress
  else .byInput

/-- A rail's reaction that the save deferred is reported: the shutdown carries it out (R291, R295). -/
def deferredNotice (s : State) : State :=
  match s.rails.deferred with
  | some (r, cls) => railFaultNotice s r cls (cls != s.rails.rail[r].set_.cls)
  | none => s

/-- The save leaves the module off: rails 12 to 2 go down; a die trip is latched (R196, R276). A deferred reaction is carried out by this
shutdown, in place of the after-seal action (R295). -/
def saveDown (s : State) : State :=
  let s := deferredNotice s
  let s := setCause { s with save := { s.save with report := true, returning := false }, rails := { s.rails with deferred := none } } 5 0
  beginShutdown s (if s.save.after = .powerOffTrip then .trip else .standby (standbyAfter s))

/-- Every rank enters self-refresh, and the checkpoint of the firmware is written; a die trip leaves its record. -/
def retire (s : State) : State := saveTrip (writeCheckpoint (channelsSleep s))

/-- SAVE_RETIRE_COMPLETE (R139, R196, R203): the staging SRAM is empty and the ranks are in self-refresh; the after-seal action
follows, a Retained return with HOLD_EN released, or the rails' way down, after which the save is complete. `inputHeld` says that the
input met the Retained condition until HOLD_EN was released. -/
def execSaveRetireComplete (inputHeld : Bool) (s : State) : Result :=
  .next (if saving s && decide (s.save.phase = 7) && s.rails.downThen.isNone && s.shroud.staging.isEmpty then
      let keep := s.save.returning && inputHeld && inputGood s && s.rails.deferred.isNone
      let t := retire s
      if keep then saveEnded (releaseHold t) else saveDown t
    else s)

/-! ## The Retained return (R110, R196, R198, R228) -/

/-- Content of SAVE_COMPLETE: trigger, store, RETAINED, GEN, charge drawn, duration
(in part DESIGN CHOICE, notes/assumptions/15; DESIGN CHOICE, notes/assumptions/29). -/
def saveCompletePayload (s : State) (gen : DWord) : List Nat :=
  [s.save.trigger.elim 0 triggerCode, storeCode s.save.store, bit s.save.retained] ++ words2 gen.toNat ++ [s.save.charge, s.save.time]

/-- The ranks leave self-refresh with their training; stopped passes and moves go on (in part DEDUCED, notes/assumptions/30). -/
def wakeRetained (s : State) (c : Settings) : State :=
  let s := renewMoves (resumePass (wakeAll s c []))
  { s with pack := { s.pack with aonDrawn := 0, aonCounts := false } }

/-- The state the save left is taken up again: RUN or RESTORE, or step 3 of the start-up on a retained path. Rails 4 and 5 come back for
the links. -/
def resumeState (s : State) : State :=
  let s := takeUp { s with host := { s.host with stopped := false },
                           save := { s.save with retained := true, returning := false, sealWait := false } }
  if s.save.fromStart then s
  else beginSequence (if s.power.state = .run then debugReturns s else s) [3, 4] (.groupAgain 0)

/-- What waited for the end of the save: requests, tests, the alert, MR_N (Tables 07-6, 14-4; R196). -/
def afterReturn (s : State) : State :=
  let s := startTests (runHeld (raise s 0x0503 (saveCompletePayload s (s.save.sealed.getD 0))))
  actLatchedReset { s with smb := { s.smb with alert := s.smb.alert || !s.notices.pend.isEmpty } }

/-- The checkpoint of R207 is sealed before the state is taken up again; without need of one the return is complete. -/
def sealReturn (s : State) : State :=
  if needsCheckpoint s then beginCheckpoint { s with save := { s.save with sealWait := true } } else afterReturn (resumeState s)

/-- RETAINED_RETURN_COMPLETE (R196, R207, R228): the ranks have left self-refresh and trained; a held trigger starts its save as in
the state that was left. A return whose training fails gives up the contents and starts up again (in part DESIGN CHOICE,
notes/assumptions/29; DEDUCED, notes/assumptions/30). -/
def execRetainedReturnComplete (trained : Bool) (s : State) : Result :=
  .next (if saving s && decide (s.save.phase = 8) && s.save.returning && !s.save.sealWait then
      match s.startup.settings with
      | none => s
      | some c =>
        if !trained then saveDown s
        else
          let t := wakeRetained s c
          if t.save.heldTrigs.isEmpty then sealReturn t else startHeld (takeUp t)
    else s)

/-- What a sealed checkpoint lets go on: the end of a Retained return, step 9 of a start-up, host writes (R196, R207). -/
def serviceSealed (s : State) : State :=
  if saving s then
    if s.save.sealWait then afterReturn (resumeState s) else s
  else retrySlots (step9 s)

/-- A checkpoint that a return waits for and that has failed is written again (R207). -/
def renewSeal (s : State) : State := if s.save.sealWait && s.flash.sealJob.isNone then beginCheckpoint s else s

/-- SEAL_COMPLETE (R177, R196, R207): the seal's program has ended on a mirror. -/
def execSealComplete (mirror : Fin 2) (pass : Bool) (s : State) : Result :=
  .next (if s.flash.brownOut then s else renewSeal (sealOn s mirror pass serviceSealed))

end Sys2Proof.Machine
end

