-- ==== Sys2Proof/Machine/Security.lean ====
section
/-! DEFINITION. Commands on the protection level, the debug port and the TAP (R421–R434, Tables 18-4, 18-9 and 18-10). -/

namespace Sys2Proof.Machine

open Sys2Proof

/-! ## QV_SEC_LEVEL (R422, R423) -/

/-- ARM and REQ of a write. -/
def armOf (v : Word) : Nat := bitsOf v.toNat 8 8

/-- REQ of a write. -/
def reqOf (v : Word) : Nat := bitsOf v.toNat 0 2

/-- SEC_LEVEL_RAISE (R422): a write with ARM 0x00 and a REQ that is not below the level in force. -/
def execSecLevelRaise (link : Link) (value : Word) (s : State) : Result :=
  .next (if regServes s link 0x1000 && decide (armOf value = 0 ∧ levelCode s.security.level ≤ reqOf value) then writeSecLevel s link value else s)

/-- SEC_LEVEL_ARM (R423): a write with an ARM other than 0x00; only 0xA5 arms. -/
def execSecLevelArm (link : Link) (value : Word) (s : State) : Result :=
  .next (if regServes s link 0x1000 && decide (armOf value ≠ 0) then writeSecLevel s link value else s)

/-- SEC_LEVEL_LOWER (R423, R424): a write with ARM 0x00 and REQ below the level in force. -/
def execSecLevelLower (link : Link) (value : Word) (s : State) : Result :=
  .next (if regServes s link 0x1000 && decide (armOf value = 0 ∧ reqOf value < levelCode s.security.level) then writeSecLevel s link value else s)

/-! ## Table 18-4, steps 4 to 7 -/

/-- Step 4: usable DRAM reads zeros, and the metadata area with it (R424) (in part DESIGN CHOICE, notes/assumptions/87). -/
def clearDram (s : State) : State :=
  { s with
    dram := { s.dram with mem := [], parity := [], ch := vecMap s.dram.ch fun _ d => { d with ceTimes := [] } },
    host := { s.host with labels := [], poison := resetPoison, shutdownDirty := false, dirtyShutdowns := 0 },
    persist := { s.persist with dirty := [], inflight := [], heat := [], newDirty := [], poisonFlag := [], regionGen := [] },
    flash := { s.flash with manifest := [], chunks := [], chunkMap := [] },
    qmp := { s.qmp with sessions := [] },
    security := { s.security with step := 4 } }

/-- LOWERING_DRAM_CLEAR_COMPLETE (R424): step 4 has ended; steps 2 and 3 come before it. -/
def execLoweringDramClearComplete (s : State) : Result :=
  .next (let t := lowerOn s
    if s.security.lowering && decide (t.security.step = 3) && s.rails.downThen.isNone then clearDram t else s)

/-- LOWERING_ERASE_COMPLETE (R424, R427): steps 5 and 6, then start-up at step 1 with the rails kept; time spent lowering is not counted,
and an MR_N latched meanwhile is acted on (R425). -/
def execLoweringEraseComplete (s : State) : Result :=
  .next (if s.security.lowering && decide (s.security.step = 4) && s.rails.downThen.isNone then
      let id := lastKeyId s
      let t := commitLowering (dramGone (eraseUnkept s)) s.security.level s.security.target id
      actLatchedReset (restartKept (beginInterval t .notCounted))
    else s)

/-! ## Debug port and TAP (R429, R430, R432) -/

/-- CLOSE (R430, R432): a write of 1 to QV_DBG_STATE.CLOSE. -/
def execClose (link : Link) (s : State) : Result :=
  .next (if regServes s link 0x1004 then closePort s link else s)

/-- DEBUG_SESSION_EXPIRY (R432): 8 h after the session opened. -/
def execDebugSessionExpiry (s : State) : Result :=
  .next (if s.security.dbg = .authenticated && due s s.security.openedAt 28800000 then endSession s 6 else s)

/-- The TAP is powered from rail 12 (R429). -/
def tapPowered (s : State) : Bool := coreUp s && s.rails.rail[11].run == .qualified

/-- Pin-driving instructions are accepted: in CROCUS, and in RUN while Memory_Active is 0 on every link (R429, Table 18-7). -/
def mayDrivePins (s : State) : Bool := inCrocus s || (s.power.state == .run && !anyMemActive s)

/-- The instructions by number: IDCODE, BYPASS, SAMPLE/PRELOAD, EXTEST, CLAMP, HIGHZ, and the vendor instruction of the debug access port
(in part DESIGN CHOICE, notes/assumptions/87). -/
def tapOf (code : Fin 7) : TapInstr :=
  match code.val with
  | 0 => .idcode | 1 => .bypass | 2 => .sample | 3 => .extest | 4 => .clamp | 5 => .highz | _ => .debug

/-- An instruction that drives pins. -/
def drivesPins (t : TapInstr) : Bool := t == .extest || t == .clamp || t == .highz

/-- TAP_INSTRUCTION (R429, Table 18-7): a pin-driving instruction where none is accepted selects BYPASS
(in part DESIGN CHOICE, notes/assumptions/87). -/
def execTapInstruction (code : Fin 7) (s : State) : Result :=
  .next (if !tapPowered s then s
    else if drivesPins (tapOf code) && !mayDrivePins s then setSec s fun x => { x with tap := .bypass, scanRefused := true }
    else setSec s fun x => { x with tap := tapOf code })

/-- TAP_RESET (R429): TRST_N resets the TAP and ends no debug session. -/
def execTapReset (s : State) : Result :=
  .next (if tapPowered s then setSec s fun x => { x with tap := .idcode } else s)

end Sys2Proof.Machine
end

