-- ==== Sys2Proof/Machine/Shroud.lean ====
section
/-! DEFINITION. Commands of Shroud: rebuild, relocation fill and copy back (R114, R131–R138). -/

namespace Sys2Proof.Machine

open Sys2Proof

/-- Passes run: not in a save, nor while a rail fault holds DRAM, work of a higher class waits for it, or the engine of the channel is
swapped (R17, R23, R133, R139, R292). -/
def passesRun (s : State) : Bool :=
  coreUp s && !saving s && !dramHeld s && !s.power.starting && !drainsWait s && s.restore.inHand.isEmpty
    && !s.shroud.channel.any (maintainerWaits s)

/-- REBUILD_STRIPE (R17, R114, R131): the next stripe is locked, rebuilt, written whole and unlocked, when no work of a higher class
waits. `errs` is what its reads find. -/
def execRebuildStripe (errs : List (Nat × EccOutcome)) (s : State) : Result :=
  .next (if passesRun s && (s.shroud.pass == some .rebuild || s.shroud.pass == some .staleRewrite) then
      retryActivation (advancePass s errs)
    else s)

/-- No region that still has granules to fill is hotter than the granule's: the fill goes by descending HEAT (R137). -/
def hottestLeft (s : State) (granule : Nat) : Bool :=
  s.persist.heat.all fun h => decide (h.2 ≤ kvGetD s.persist.heat (regionOf granule) 0) || regionFilled s h.1

/-- RELOCATION_FILL (R137): the lost lines of a clean granule are filled into their parity slots, by descending HEAT; a granule that was
dirty at the loss is not filled. -/
def execRelocationFill (granule : Nat) (outcome : DecodeOutcome) (s : State) : Result :=
  .next (if passesRun s && s.shroud.mode == .relocate && s.shroud.pass == some .relocationFill && granulePresent s granule
        && decide (granule < hvGranules s) && !s.shroud.filled.contains granule && !fillLost s granule && !fetching s granule
        && hottestLeft s granule then
      bringIn (noteCopyRead s granule false outcome) granule ((entryOf s granule).state != .present || readOk outcome)
    else s)

/-- RELOCATION_COPY_BACK (R138): the next stripe goes back to the channel that has returned. -/
def execRelocationCopyBack (errs : List (Nat × EccOutcome)) (s : State) : Result :=
  .next (if passesRun s && s.shroud.pass == some .copyBack then advancePass s errs else s)

end Sys2Proof.Machine
end

