-- ==== Sys2Proof/Machine/Smb.lean ====
section
/-! DEFINITION. Commands of the host SMBus: errors as target, failed and repeated transfers, arbitration and the alert
(R442–R448). -/

namespace Sys2Proof.Machine

open Sys2Proof

/-- The packet being received is abandoned with no effect, and the partial message with it (R445). -/
def abandonPacket (s : State) : State :=
  { s with qmp := { s.qmp with partials := s.qmp.partials.filter fun p => p.carrier != .smbus },
           smb := { s.smb with state := if s.smb.state = .receiving then .idle else s.smb.state } }

/-- SMB_REPEATED_START_ERROR (R445). -/
def execSmbRepeatedStartError (s : State) : Result :=
  .next (if s.power.aon then
      logEvent (abandonPacket (setSmb s fun b => { b with rsAck := satAdd 8 b.rsAck 1 })) 0x0E84 1 []
    else s)

/-- SMB_TARGET_TIMEOUT (R446). -/
def execSmbTargetTimeout (s : State) : Result :=
  .next (if s.power.aon then abandonPacket (setSmb s fun b => { b with timeout := satAdd 8 b.timeout 1 }) else s)

/-- SMB_NACK (R442): the receiver does not acknowledge the message being sent. -/
def execSmbNack (s : State) : Result := .next (failTransfer s)

/-- SMB_RESEND (R442): 1 ms after a transfer failed the whole message is sent again (in part DEDUCED, notes/assumptions/99). -/
def execSmbResend (s : State) : Result := .next (if s.smb.state = .idle ∧ due s s.smb.failedAt 1 then sendCurrent s else s)

/-- SMB_ARBITRATION_LOST (R443). -/
def execSmbArbitrationLost (s : State) : Result :=
  .next (if s.smb.state = .sending then loseBus (setSmb s fun b => { b with arb := satAdd 8 b.arb 1 }) else s)

/-- ARB_SR (R444): arbitration lost at a STOP or a repeated START. -/
def execArbSr (s : State) : Result :=
  .next (if s.smb.state = .sending then
      loseBus (logEvent (setSmb s fun b => { b with arbSr := satAdd 8 b.arbSr 1 }) 0x0E83 1 [])
    else s)

/-- SMB_BUS_FREE (R443, R444): the whole message goes again, with its message tag and notice sequence number. -/
def execSmbBusFree (s : State) : Result :=
  .next (if s.smb.state = .waitFree then
      match s.smb.current with
      | some (m, n, t) => sendCurrent (setSmb s fun b => { b with current := some (m, n - 1, t) })
      | none => setSmb s fun b => { b with state := .idle }
    else s)

/-- SMB_ALERT_RESPONSE (R447): a master reads 0x0C while SB_ALERT_N is low. -/
def execSmbAlertResponse (won : Bool) (s : State) : Result :=
  .next (if s.smb.alert && s.power.aon then
      let s := emit s (.alertResponse (BitVec.ofNat 8 (2 * smbAddress s)))
      if won then setSmb s fun b => { b with alert := false } else s
    else s)

end Sys2Proof.Machine
end

