-- ==== Sys2Proof/Machine/Dispatch.lean ====
section
/-! DEFINITION. What each command does to everything but the queue: one arm for each row of the opcode table. -/

namespace Sys2Proof.Machine

open Sys2Proof

/-- The effect of a command (the queue is left to `step`). -/
def exec (i : Instr) (s : State) : Host.Outcome State Fault Refusal :=
  match i with
  | .cxlMemRead link tag requester hpa ecc => Sys2Proof.Machine.execCxlMemRead link tag requester hpa ecc s
  | .cxlMemWrite link tag requester hpa data enables poison ecc => Sys2Proof.Machine.execCxlMemWrite link tag requester hpa data enables poison ecc s
  | .demandFetchComplete granule outcome micros => Sys2Proof.Machine.execDemandFetchComplete granule outcome micros s
  | .writeBufferDrain line => Sys2Proof.Machine.execWriteBufferDrain line s
  | .writeBufferRelease line => Sys2Proof.Machine.execWriteBufferRelease line s
  | .stagingEntryClose stripe => Sys2Proof.Machine.execStagingEntryClose stripe s
  | .heldWriteAdmit link tag => Sys2Proof.Machine.execHeldWriteAdmit link tag s
  | .perstAssert port => Sys2Proof.Machine.execPerstAssert port s
  | .linkDown link => Sys2Proof.Machine.execLinkDown link s
  | .hotReset link => Sys2Proof.Machine.execHotReset link s
  | .cxlReset link => Sys2Proof.Machine.execCxlReset link s
  | .linkTrained link width revision => Sys2Proof.Machine.execLinkTrained link width revision s
  | .refclkFault port => Sys2Proof.Machine.execRefclkFault port s
  | .linkErrorBurst link => Sys2Proof.Machine.execLinkErrorBurst link s
  | .laneMarginTestComplete link failing width => Sys2Proof.Machine.execLaneMarginTestComplete link failing width s
  | .gpfPhase2 link => Sys2Proof.Machine.execGpfPhase2 link s
  | .setShutdownState link dirty => Sys2Proof.Machine.execSetShutdownState link dirty s
  | .getHealthInfo link => Sys2Proof.Machine.execGetHealthInfo link s
  | .getPoisonList link first length => Sys2Proof.Machine.execGetPoisonList link first length s
  | .clearPoison link dpa data => Sys2Proof.Machine.execClearPoison link dpa data s
  | .injectPoison link dpa => Sys2Proof.Machine.execInjectPoison link dpa s
  | .getFwInfo link => Sys2Proof.Machine.execGetFwInfo link s
  | .rtShadowWrite link offset size value => Sys2Proof.Machine.execRtShadowWrite link offset size value s
  | .commit link => Sys2Proof.Machine.execCommit link s
  | .commitRefillEnd => Sys2Proof.Machine.execCommitRefillEnd s
  | .ceilingUpdate => Sys2Proof.Machine.execCeilingUpdate s
  | .heatHalving => Sys2Proof.Machine.execHeatHalving s
  | .flushIssue ch errs => Sys2Proof.Machine.execFlushIssue ch errs s
  | .dirtyNowRefresh => Sys2Proof.Machine.execDirtyNowRefresh s
  | .mastheadWatchdogExpiry => Sys2Proof.Machine.execMastheadWatchdogExpiry s
  | .engineException engine => Sys2Proof.Machine.execEngineException engine s
  | .engineBistComplete engine pass => Sys2Proof.Machine.execEngineBistComplete engine pass s
  | .spareSwapComplete engine => Sys2Proof.Machine.execSpareSwapComplete engine s
  | .refreshTick ch rank accessWaiting => Sys2Proof.Machine.execRefreshTick ch rank accessWaiting s
  | .refreshPullIn ch rank => Sys2Proof.Machine.execRefreshPullIn ch rank s
  | .mr4Poll ch above => Sys2Proof.Machine.execMr4Poll ch above s
  | .powerDownEntry ch rank => Sys2Proof.Machine.execPowerDownEntry ch rank s
  | .dcPdWrite link value => Sys2Proof.Machine.execDcPdWrite link value s
  | .patrolScrub ch rank stripes mismatch errs => Sys2Proof.Machine.execPatrolScrub ch rank stripes mismatch errs s
  | .scrubWake ch rank mismatch errs => Sys2Proof.Machine.execScrubWake ch rank mismatch errs s
  | .zqCalibration ch rank => Sys2Proof.Machine.execZqCalibration ch rank s
  | .dqsOscCalibration ch rank drift => Sys2Proof.Machine.execDqsOscCalibration ch rank drift s
  | .readCenteringTrack ch rank => Sys2Proof.Machine.execReadCenteringTrack ch rank s
  | .writeCrcError ch row column => Sys2Proof.Machine.execWriteCrcError ch row column s
  | .channelRetrainStart => Sys2Proof.Machine.execChannelRetrainStart s
  | .retrainSlice ch => Sys2Proof.Machine.execRetrainSlice ch s
  | .channelRetrainComplete ch pass => Sys2Proof.Machine.execChannelRetrainComplete ch pass s
  | .lineTestComplete ch row column pass device => Sys2Proof.Machine.execLineTestComplete ch row column pass device s
  | .rowTestComplete ch row pass device twoGroups => Sys2Proof.Machine.execRowTestComplete ch row pass device twoGroups s
  | .dramTrainingComplete failing => Sys2Proof.Machine.execDramTrainingComplete failing s
  | .channelTrainingRetry ch pass => Sys2Proof.Machine.execChannelTrainingRetry ch pass s
  | .rebuildStripe errs => Sys2Proof.Machine.execRebuildStripe errs s
  | .relocationFill granule outcome => Sys2Proof.Machine.execRelocationFill granule outcome s
  | .relocationCopyBack errs => Sys2Proof.Machine.execRelocationCopyBack errs s
  | .flashReadComplete ch die index granule outcome => Sys2Proof.Machine.execFlashReadComplete ch die index granule outcome s
  | .flashProgramComplete seq pass => Sys2Proof.Machine.execFlashProgramComplete seq pass s
  | .mirrorRelocated ch => Sys2Proof.Machine.execMirrorRelocated ch s
  | .flashEraseComplete ch die index pass => Sys2Proof.Machine.execFlashEraseComplete ch die index pass s
  | .eraseResume ch die => Sys2Proof.Machine.execEraseResume ch die s
  | .flashBusyTimeout ch die op => Sys2Proof.Machine.execFlashBusyTimeout ch die op s
  | .restripeCopy granule ch => Sys2Proof.Machine.execRestripeCopy granule ch s
  | .flashChannelTraining ch badDies pass => Sys2Proof.Machine.execFlashChannelTraining ch badDies pass s
  | .flashTrainingRetry ch pass => Sys2Proof.Machine.execFlashTrainingRetry ch pass s
  | .rowCloseTimeout band row => Sys2Proof.Machine.execRowCloseTimeout band row s
  | .checkpointSeal => Sys2Proof.Machine.execCheckpointSeal s
  | .sealComplete mirror pass => Sys2Proof.Machine.execSealComplete mirror pass s
  | .compaction granule ch => Sys2Proof.Machine.execCompaction granule ch s
  | .wearLevelMove => Sys2Proof.Machine.execWearLevelMove s
  | .retentionScrub band => Sys2Proof.Machine.execRetentionScrub band s
  | .retentionDue => Sys2Proof.Machine.execRetentionDue s
  | .nandBrownout => Sys2Proof.Machine.execNandBrownout s
  | .nandRailRecovery => Sys2Proof.Machine.execNandRailRecovery s
  | .engineProgramRefused ch die index page => Sys2Proof.Machine.execEngineProgramRefused ch die index page s
  | .pfNFall => Sys2Proof.Machine.execPfNFall s
  | .vinSenseDrop => Sys2Proof.Machine.execVinSenseDrop s
  | .vinSenseHoldUp => Sys2Proof.Machine.execVinSenseHoldUp s
  | .saveAndOff hdr => Sys2Proof.Machine.execSaveAndOff hdr s
  | .saveIsolate => Sys2Proof.Machine.execSaveIsolate s
  | .saveRegulationConfirmed => Sys2Proof.Machine.execSaveRegulationConfirmed s
  | .chargeMarkCheck drawn => Sys2Proof.Machine.execChargeMarkCheck drawn s
  | .saveStoreFailure => Sys2Proof.Machine.execSaveStoreFailure s
  | .saveVoltageGuard => Sys2Proof.Machine.execSaveVoltageGuard s
  | .saveFlushEnd => Sys2Proof.Machine.execSaveFlushEnd s
  | .saveManifestComplete => Sys2Proof.Machine.execSaveManifestComplete s
  | .saveRetireComplete inputHeld => Sys2Proof.Machine.execSaveRetireComplete inputHeld s
  | .retainedReturnComplete trained => Sys2Proof.Machine.execRetainedReturnComplete trained s
  | .generationSelect => Sys2Proof.Machine.execGenerationSelect s
  | .manifestLoadComplete unreadable => Sys2Proof.Machine.execManifestLoadComplete unreadable s
  | .backgroundRestoreGranule => Sys2Proof.Machine.execBackgroundRestoreGranule s
  | .restoreGranuleComplete granule outcome => Sys2Proof.Machine.execRestoreGranuleComplete granule outcome s
  | .restoreSlow => Sys2Proof.Machine.execRestoreSlow s
  | .retainedPathCheck bitmapOk settingsOk => Sys2Proof.Machine.execRetainedPathCheck bitmapOk settingsOk s
  | .packSample milliamps millivolts => Sys2Proof.Machine.execPackSample milliamps millivolts s
  | .packTempSample ntc remote => Sys2Proof.Machine.execPackTempSample ntc remote s
  | .packInserted => Sys2Proof.Machine.execPackInserted s
  | .packRemoved => Sys2Proof.Machine.execPackRemoved s
  | .packQualified => Sys2Proof.Machine.execPackQualified s
  | .impedanceMeasure tenthMilliohm => Sys2Proof.Machine.execImpedanceMeasure tenthMilliohm s
  | .zeroCurrentCheck offsetMilliamps => Sys2Proof.Machine.execZeroCurrentCheck offsetMilliamps s
  | .packIdRead first second => Sys2Proof.Machine.execPackIdRead first second s
  | .idRead first second => Sys2Proof.Machine.execIdRead first second s
  | .bankSample millivolts => Sys2Proof.Machine.execBankSample millivolts s
  | .capTest => Sys2Proof.Machine.execCapTest s
  | .capTestComplete leakMillivolts dropMillivolts => Sys2Proof.Machine.execCapTestComplete leakMillivolts dropMillivolts s
  | .chargerStatusPoll status => Sys2Proof.Machine.execChargerStatusPoll status s
  | .chargeHeld => Sys2Proof.Machine.execChargeHeld s
  | .restReference millivolts => Sys2Proof.Machine.execRestReference millivolts s
  | .startupReading millivolts => Sys2Proof.Machine.execStartupReading millivolts s
  | .restDue => Sys2Proof.Machine.execRestDue s
  | .restRequest => Sys2Proof.Machine.execRestRequest s
  | .grantRest hdr => Sys2Proof.Machine.execGrantRest hdr s
  | .restWindowTimeout => Sys2Proof.Machine.execRestWindowTimeout s
  | .esbGet hdr => Sys2Proof.Machine.execEsbGet hdr s
  | .esbRestore hdr block => Sys2Proof.Machine.execEsbRestore hdr block s
  | .esbChanged => Sys2Proof.Machine.execEsbChanged s
  | .estimatorHibernate => Sys2Proof.Machine.execEstimatorHibernate s
  | .estimatorWake => Sys2Proof.Machine.execEstimatorWake s
  | .shipMode hdr => Sys2Proof.Machine.execShipMode hdr s
  | .shipFailed => Sys2Proof.Machine.execShipFailed s
  | .auxInputRemoved => Sys2Proof.Machine.execAuxInputRemoved s
  | .localBusCycle readings araReads alertLow window skipped => Sys2Proof.Machine.execLocalBusCycle readings araReads alertLow window skipped s
  | .sensorReadmit site => Sys2Proof.Machine.execSensorReadmit site s
  | .sensorRereadComplete site anyPlausible => Sys2Proof.Machine.execSensorRereadComplete site anyPlausible s
  | .thermalBandDwell edge entering => Sys2Proof.Machine.execThermalBandDwell edge entering s
  | .reefLevelStep => Sys2Proof.Machine.execReefLevelStep s
  | .aonBackstopTrip => Sys2Proof.Machine.execAonBackstopTrip s
  | .aonSite0Sample temp => Sys2Proof.Machine.execAonSite0Sample temp s
  | .clearTrip hdr => Sys2Proof.Machine.execClearTrip hdr s
  | .emergencyStandbyExit => Sys2Proof.Machine.execEmergencyStandbyExit s
  | .aonPowerOnReset straps aux smbus => Sys2Proof.Machine.execAonPowerOnReset straps aux smbus s
  | .aonPowerLoss => Sys2Proof.Machine.execAonPowerLoss s
  | .inputQualified straps => Sys2Proof.Machine.execInputQualified straps s
  | .railQualified rail halfMs => Sys2Proof.Machine.execRailQualified rail halfMs s
  | .railTimeout rail => Sys2Proof.Machine.execRailTimeout rail s
  | .railRetryReenable rail => Sys2Proof.Machine.execRailRetryReenable rail s
  | .pgFall rail => Sys2Proof.Machine.execPgFall rail s
  | .railFault rail => Sys2Proof.Machine.execRailFault rail s
  | .ignoreFaultNotice rail => Sys2Proof.Machine.execIgnoreFaultNotice rail s
  | .groupResequence group => Sys2Proof.Machine.execGroupResequence group s
  | .resetReactionRestart => Sys2Proof.Machine.execResetReactionRestart s
  | .railDownStep => Sys2Proof.Machine.execRailDownStep s
  | .clearRailLatch hdr => Sys2Proof.Machine.execClearRailLatch hdr s
  | .mrN => Sys2Proof.Machine.execMrN s
  | .mrNRelease localBus smbus => Sys2Proof.Machine.execMrNRelease localBus smbus s
  | .pbRelease duration => Sys2Proof.Machine.execPbRelease duration s
  | .pbForcedMark => Sys2Proof.Machine.execPbForcedMark s
  | .pbHardOff => Sys2Proof.Machine.execPbHardOff s
  | .sheetTransferRetry address => Sys2Proof.Machine.execSheetTransferRetry address s
  | .sheetImageRead image cleared => Sys2Proof.Machine.execSheetImageRead image cleared s
  | .lock link => Sys2Proof.Machine.execLock link s
  | .startupEndTimeout => Sys2Proof.Machine.execStartupEndTimeout s
  | .mctpPacket carrier source command rate som eom seq tag pecOk payload verifies => Sys2Proof.Machine.execMctpPacket carrier source command rate som eom seq tag pecOk payload verifies s
  | .mctpMessageTimeout carrier => Sys2Proof.Machine.execMctpMessageTimeout carrier s
  | .negotiate hdr versions tag flags chunkMs => Sys2Proof.Machine.execNegotiate hdr versions tag flags chunkMs s
  | .negotiateClose hdr => Sys2Proof.Machine.execNegotiateClose hdr s
  | .persistStatus hdr => Sys2Proof.Machine.execPersistStatus hdr s
  | .logRead hdr start count => Sys2Proof.Machine.execLogRead hdr start count s
  | .lastwordsRead hdr start count => Sys2Proof.Machine.execLastwordsRead hdr start count s
  | .fwChunk hdr package offset total crc rsv data => Sys2Proof.Machine.execFwChunk hdr package offset total crc rsv data s
  | .fwActivate hdr package flags => Sys2Proof.Machine.execFwActivate hdr package flags s
  | .fwLockSet hdr => Sys2Proof.Machine.execFwLockSet hdr s
  | .fwLockClear hdr => Sys2Proof.Machine.execFwLockClear hdr s
  | .selftest hdr target index => Sys2Proof.Machine.execSelftest hdr target index s
  | .debugChallenge hdr => Sys2Proof.Machine.execDebugChallenge hdr s
  | .debugResponse hdr signature verifies => Sys2Proof.Machine.execDebugResponse hdr signature verifies s
  | .noticeAck hdr first last => Sys2Proof.Machine.execNoticeAck hdr first last s
  | .noticeDeliver carrier => Sys2Proof.Machine.execNoticeDeliver carrier s
  | .noticeReannounce seq => Sys2Proof.Machine.execNoticeReannounce seq s
  | .noticeDisregarded seq => Sys2Proof.Machine.execNoticeDisregarded seq s
  | .nringSizeWrite link value busMaster => Sys2Proof.Machine.execNringSizeWrite link value busMaster s
  | .blockTestComplete ch die index pass => Sys2Proof.Machine.execBlockTestComplete ch die index pass s
  | .dieTestComplete ch die pass => Sys2Proof.Machine.execDieTestComplete ch die pass s
  | .moduleYearEnd => Sys2Proof.Machine.execModuleYearEnd s
  | .logPageProgram pass0 pass1 => Sys2Proof.Machine.execLogPageProgram pass0 pass1 s
  | .suppressedSweep => Sys2Proof.Machine.execSuppressedSweep s
  | .optimeCheckpoint => Sys2Proof.Machine.execOptimeCheckpoint s
  | .logSel link recno => Sys2Proof.Machine.execLogSel link recno s
  | .logFetchComplete link ok0 ok1 => Sys2Proof.Machine.execLogFetchComplete link ok0 ok1 s
  | .cfProgram address data => Sys2Proof.Machine.execCfProgram address data s
  | .cfErase sector => Sys2Proof.Machine.execCfErase sector s
  | .cfResume => Sys2Proof.Machine.execCfResume s
  | .cfStatus => Sys2Proof.Machine.execCfStatus s
  | .cfOperationComplete => Sys2Proof.Machine.execCfOperationComplete s
  | .cfBrownout => Sys2Proof.Machine.execCfBrownout s
  | .cfAccessRefused => Sys2Proof.Machine.execCfAccessRefused s
  | .hello up versions position chainLen part fwVersion => Sys2Proof.Machine.execHello up versions position chainLen part fwVersion s
  | .helloTimer => Sys2Proof.Machine.execHelloTimer s
  | .chunk package offset total crc data => Sys2Proof.Machine.execChunk package offset total crc data s
  | .credit resumeAt credits => Sys2Proof.Machine.execCredit resumeAt credits s
  | .activate package => Sys2Proof.Machine.execActivate package s
  | .status entries => Sys2Proof.Machine.execStatus entries s
  | .halyardPortDown up => Sys2Proof.Machine.execHalyardPortDown up s
  | .halyardFrameTimeout up => Sys2Proof.Machine.execHalyardFrameTimeout up s
  | .chainReportTimeout => Sys2Proof.Machine.execChainReportTimeout s
  | .packageVerifyComplete signatureOk digestOk => Sys2Proof.Machine.execPackageVerifyComplete signatureOk digestOk s
  | .bankLoadComplete => Sys2Proof.Machine.execBankLoadComplete s
  | .engineSwitch accepted => Sys2Proof.Machine.execEngineSwitch accepted s
  | .mastheadHandoverComplete accepted => Sys2Proof.Machine.execMastheadHandoverComplete accepted s
  | .probationEnd => Sys2Proof.Machine.execProbationEnd s
  | .bootCopyComplete verifies => Sys2Proof.Machine.execBootCopyComplete verifies s
  | .secLevelRaise link value => Sys2Proof.Machine.execSecLevelRaise link value s
  | .secLevelArm link value => Sys2Proof.Machine.execSecLevelArm link value s
  | .secLevelLower link value => Sys2Proof.Machine.execSecLevelLower link value s
  | .loweringDramClearComplete => Sys2Proof.Machine.execLoweringDramClearComplete s
  | .loweringEraseComplete => Sys2Proof.Machine.execLoweringEraseComplete s
  | .close link => Sys2Proof.Machine.execClose link s
  | .debugSessionExpiry => Sys2Proof.Machine.execDebugSessionExpiry s
  | .tapInstruction code => Sys2Proof.Machine.execTapInstruction code s
  | .tapReset => Sys2Proof.Machine.execTapReset s
  | .smbRepeatedStartError => Sys2Proof.Machine.execSmbRepeatedStartError s
  | .smbTargetTimeout => Sys2Proof.Machine.execSmbTargetTimeout s
  | .smbNack => Sys2Proof.Machine.execSmbNack s
  | .smbResend => Sys2Proof.Machine.execSmbResend s
  | .smbArbitrationLost => Sys2Proof.Machine.execSmbArbitrationLost s
  | .arbSr => Sys2Proof.Machine.execArbSr s
  | .smbBusFree => Sys2Proof.Machine.execSmbBusFree s
  | .smbAlertResponse won => Sys2Proof.Machine.execSmbAlertResponse won s
  | .lbAlertUnmask => Sys2Proof.Machine.execLbAlertUnmask s
  | .regulatorPoll rail status => Sys2Proof.Machine.execRegulatorPoll rail status s
  | .clockStretchTimeout local_ address cleared => Sys2Proof.Machine.execClockStretchTimeout local_ address cleared s
  | .busClearRetry local_ cleared => Sys2Proof.Machine.execBusClearRetry local_ cleared s
  | .holdflag link value => Sys2Proof.Machine.execHoldflag link value s
  | .hfSwitchComplete => Sys2Proof.Machine.execHfSwitchComplete s
  | .take link group => Sys2Proof.Machine.execTake link group s
  | .release link => Sys2Proof.Machine.execRelease link s
  | .snapshotExpiry link => Sys2Proof.Machine.execSnapshotExpiry link s
  | .flGenLatch link => Sys2Proof.Machine.execFlGenLatch link s
  | .planInfoLatch link => Sys2Proof.Machine.execPlanInfoLatch link s
  | .optimeLatch link => Sys2Proof.Machine.execOptimeLatch link s
  | .esbWindowLatch link endRead => Sys2Proof.Machine.execEsbWindowLatch link endRead s
  | .fifoResync fifo far => Sys2Proof.Machine.execFifoResync fifo far s
  | .unalignedAccess link isWrite offset size => Sys2Proof.Machine.execUnalignedAccess link isWrite offset size s
  | .registerWrite link offset size value => Sys2Proof.Machine.execRegisterWrite link offset size value s
  | .dieSiteSample readings => Sys2Proof.Machine.execDieSiteSample readings s
  | .linkL1OrL0pChange link resting => Sys2Proof.Machine.execLinkL1OrL0pChange link resting s
  | .hdmDecoderCommit link index base size dpaBase ways gran locked => Sys2Proof.Machine.execHdmDecoderCommit link index base size dpaBase ways gran locked s
  | .labelStorageWrite link offset data => Sys2Proof.Machine.execLabelStorageWrite link offset data s
  | .channelPatternTestComplete ch pass => Sys2Proof.Machine.execChannelPatternTestComplete ch pass s
  | .railRecoveryTimeout rail => Sys2Proof.Machine.execRailRecoveryTimeout rail s
  | .pbPressStart => Sys2Proof.Machine.execPbPressStart s

end Sys2Proof.Machine
end

