-- ==== Sys2Proof/Machine/Step.lean ====
section
/-! DEFINITION. One step: the command at the front of the queue, or a millisecond of time when the queue is empty. -/

namespace Sys2Proof.Machine

open Sys2Proof

/-- What happens on an empty queue: a lowering goes on, and a millisecond passes (in part DESIGN CHOICE, notes/assumptions/2). -/
def idleStep (s : State) : State := tick (lowerOn s)

/-- Takes the front command of the queue and runs it on the state with the queue's rest. On an empty queue the block idles
for 1 ms (`idleStep`) (in part DESIGN CHOICE, notes/assumptions/2; DEDUCED, notes/assumptions/5). -/
def step (s : State) : Host.Outcome State Fault Refusal :=
  match s.pending with
  | [] => .next (idleStep s)
  | c :: rest => exec c { s with pending := rest }

/-- The state with the command that a table word spells at the front of its queue; no word spells one
(in part DESIGN CHOICE, notes/assumptions/41). -/
def State.withFetchWord (s : State) (nbits w : Nat) : State :=
  match decodeTableWord nbits w with
  | some c => { s with pending := c :: s.pending }
  | none => s

end Sys2Proof.Machine
end

