-- ==== Sys2Proof/Safety.lean ====
section
/-! DEFINITION. What the statements call a sound state, and the frames they speak of: what a command may change, component by
component. -/

namespace Sys2Proof.Machine

open Sys2Proof

/-- The recorder's buffers hold no more than the spec gives them room for (R367, R368): 512 staged records, 2,048 records in
each assembly page. -/
def Recorder.fits (rc : Recorder) : Prop :=
  rc.staging.length ≤ 512 ∧ rc.page.length ≤ 2048 ∧ ∀ p ∈ rc.fullPage, p.length ≤ 2048

/-- The invariant of the machine: the bytes of usable DRAM and those of its parity lines are in their canonical form (addresses rising,
no byte 0 listed), and the recorder's buffers fit. -/
def State.sound (s : State) : Prop := Memory.wf s.dram.mem = true ∧ Memory.wf s.dram.parity = true ∧ s.recorder.fits

/-- The state after a notice or an event record: `s` with the notices, the recorder and the SMBus alert of `t`. -/
def withNotes (s t : State) : State :=
  { s with notices := t.notices, recorder := t.recorder, smb := { s.smb with alert := t.smb.alert } }

/-! ## Requests of CXL.mem -/

/-- A request on the link is taken: the link is trained, nothing holds it idle, and it has a credit (R73). -/
abbrev linkTakes (s : State) (link : Link) : Prop :=
  s.host.link[link].trained = true ∧ s.host.link[link].heldIdle = false ∧ hasCredit s link = true

/-- The slot a CXL.mem request takes (R67, R73), at DPA `dpa`; `ecc` is what the read of its line from DRAM finds. -/
def requestSlot (s : State) (link : Link) (tag : Nat) (requester : Option (BitVec 12)) (isWrite : Bool) (dpa : Nat) (data : Line)
    (enables : DWord) (poison : Bool) (ecc : EccOutcome) : Slot :=
  { link := link, tag := tag, requester := requesterId s link requester, isWrite := isWrite, line := dpa / 64, data := data,
    enables := enables, poison := poison, why := .admission, ecc := ecc, arrival := s.host.arrivals, order := 0 }

/-- The state with one more arrival or admission numbered (R74). -/
def numbered (s : State) : State := { s with host := { s.host with arrivals := s.host.arrivals + 1 } }

/-- Nothing holds the request, and the copy in force of the requester table admits it (R69, R70, R72, R74). -/
abbrev admitted (s : State) (q : Slot) : Prop :=
  waitReason s q false = none ∧ admits s q.link q.requester (64 * q.line) q.isWrite = true

/-- The answer to a read: data, or data with the poison indication. -/
def readAnswer (link : Link) (tag : Nat) (poison : Bool) (data : Line) : Output :=
  if poison then .readPoison link tag data else .readData link tag data

/-- A line as an accepted write puts it into the write buffers; `order` is its place in the order of admission. -/
def heldLine (line : Nat) (data : Line) (poison wait : Bool) (ecc : EccOutcome) (order : Nat) : BufLine :=
  { line := line, data := data, poison := poison, drained := false, parityOut := false, waitFetch := wait, ecc := ecc, order := order }

/-! ## Links -/

/-- A link's own record when the link is down and its function reset (R65). -/
def downLink (k : HostLink) : HostLink :=
  { k with trained := false, width := 0, offersIo := false, memActive := false, resting := false, decoders := [], busMaster := false,
           range1 := 0, msixTable := List.replicate 8 (0, 0), msixMask := 0xFF, msixPend := 0, mbx := none, logs := [] }

/-- The two links of a port. -/
def portLinks (port : Fin 4) : Link × Link := (⟨2 * port.val, by omega⟩, ⟨2 * port.val + 1, by omega⟩)

/-- A function's mailbox runs commands: it is served, and neither a save nor a swap of its port's engine queues them (R23, R64). -/
abbrev mailboxRuns (s : State) (link : Link) : Prop := mailboxUp s link = true ∧ mailboxQueues s link = false

/-- A function's mailbox answers with data: it runs commands, DRAM is up and step 7 done. -/
abbrev metadataServed (s : State) (link : Link) : Prop := mailboxRuns s link ∧ inCrocus s = false ∧ metadataUp s = true

/-- A test of the part waits in its queue, or runs (R345). -/
def tested (s : State) (p : Part) : Bool := s.faults.tests.any fun t => t.part == p

/-! ## One part of the state -/

/-- The state with another record of one DRAM channel. -/
def withChan (s : State) (ch : DramCh) (d : DramChan) : State := { s with dram := { s.dram with ch := s.dram.ch.set ch d } }

/-- The state with another record of one engine. -/
def withEngine (s : State) (e : EngineId) (x : Engine) : State := { s with engines := { s.engines with eng := s.engines.eng.set e x } }

/-- The state with another record of one flash channel. -/
def withFlashCh (s : State) (ch : FlashCh) (f : FlashChan) : State := { s with flash := { s.flash with ch := s.flash.ch.set ch f } }

/-- The targeted test of a part runs (R345). -/
abbrev endsTest (s : State) (p : Part) : Prop := (runningTest s p).isSome = true

/-- No request waits, and no channel's lost lines are being filled: a granule that comes in serves nothing else (R223). -/
abbrev quietFetch (s : State) : Prop := s.host.slots = [] ∧ s.shroud.mode ≠ .relocate

/-- Every byte of DRAM outside a granule reads as before; of what the granule's copy stores, the addresses count from its start. -/
def outsideGranuleStands (s t : State) (g : Nat) : Prop :=
  ∀ a, a < granuleStart s g ∨ granuleStart s g + gBytes s ≤ a → (∀ c ∈ copyCells s g (entryOf s g), granuleStart s g + c.1 ≠ a) →
    readByte t.dram.mem a = readByte s.dram.mem a

/-- Phase 4 has ended by a cause other than an empty dirty set: every granule listed as lost is LOST in the manifest, and their number is
kept (R193, R197). -/
def endedFlush (s t : State) (cause : EndCause) : Prop :=
  t.save.phase = 5 ∧ t.save.endCause = cause ∧ (∀ g ∈ t.save.lostList, (entryOf t g).state = .lost) ∧
    t.save.lost = t.save.lostList.length ∧ (∀ g, g ∉ t.save.lostList → entryOf t g = entryOf s g) ∧ t.dram = s.dram ∧ t.host = s.host

/-- The state with another record of one rail. -/
def withRail (s : State) (r : Rail) (x : RailState) : State := { s with rails := { s.rails with rail := s.rails.rail.set r x } }

/-- The boot stage of a start-up has begun (R287, R304): RESTORE, no settings in force, the boot rails being sequenced. -/
abbrev bootBegins (t : State) : Prop :=
  t.power.state = .restore ∧ t.power.starting = true ∧ t.startup.step = 0 ∧ t.startup.settings = none ∧ t.startup.retained = false ∧
    t.rails.seqFor = .boot

/-! ## Registers at reset -/

/-- The Reset column of Tables 22-3 and 22-4 (R504): offset and value of every register whose value does not depend on the module. -/
def resetColumn : List (Nat × Word) :=
  [(0x0000, 0x64171001), (0x0004, 0x11200041), (0x0008, 0x02060602), (0x000C, 0), (0x0100, 0x03000000), (0x0104, 0x80000000), (0x0108, 0),
   (0x010C, 0), (0x0110, 0), (0x0180, 0), (0x0184, 0), (0x0188, 0), (0x018C, 0), (0x0190, 0x00400000), (0x0194, 0), (0x0198, 0)] ++
  [(0x0200, 0), (0x0204, 0), (0x0208, 0), (0x020C, 0x0000080F), (0x0210, 0), (0x0214, 0), (0x0280, 0), (0x0284, 0), (0x0288, 0), (0x028C, 0),
   (0x0290, 0x00C00000), (0x0294, 0), (0x0298, 0), (0x029C, 0), (0x02A0, 0), (0x02C0, 0), (0x02C4, 0x19000000), (0x02C8, 0), (0x02CC, 0),
   (0x02D0, 0)] ++
  [(0x0400, 0), (0x0404, 0), (0x0408, 0xFAFA0000), (0x040C, 0x08E00000), (0x0410, 0), (0x0414, 0x00800000), (0x0418, 0x0000FFFF), (0x041C, 0),
   (0x0420, 0x0000FFFF), (0x0600, 0), (0x0604, 0), (0x0608, 0), (0x060C, 0x00001F00), (0x0700, 0x00001001), (0x0704, 0), (0x0708, 0)] ++
  [(0x0744, 0x41000000), (0x0748, 0x18000000), (0x074C, 0x18000000), (0x0750, 0x10000000), (0x0754, 0x10000000), (0x0758, 0x08000000),
   (0x075C, 0x18000000), (0x0760, 0x18000000), (0x0764, 0x08000000), (0x0768, 0x08000000), (0x076C, 0x08000000), (0x0770, 0)] ++
  [(0x0860, 0x0000007D), (0x0880, 0x1FF80000), (0x0884, 0), (0x0888, 0), (0x0A00, 0x00003FC0), (0x0A04, 0), (0x0A08, 0), (0x0A0C, 0), (0x0C00, 0),
   (0x0C04, 0), (0x0C08, 0), (0x0C0C, 0), (0x0C10, 0), (0x0E00, 0xE0000000), (0x0E04, 0), (0x0E08, 0), (0x0E0C, 0), (0x0E30, 0),
   (0x0E34, 0x80000000), (0x0E38, 0)] ++
  [(0x1000, 0), (0x1004, 0), (0x1200, 0), (0x1204, 0), (0x1208, 0), (0x120C, 0), (0x1210, 0), (0x1400, 0), (0x1404, 0), (0x1600, 0x01000000),
   (0x1604, 0), (0x1800, 0), (0x1804, 0), (0x1808, 0), (0x1810, 0), (0x1814, 0)] ++
  ((List.range 32).map fun n => (0x0680 + 4 * n, 0)) ++ ((List.range 17).map fun n => (0x0800 + 4 * n, 0)) ++
  ((List.range 32).map fun n => (0x0A80 + 4 * n, 0)) ++ ((List.range 8).map fun n => (0x0E10 + 4 * n, 0)) ++
  ((List.range 64).map fun n => (0x1700 + 4 * n, 0x00000010))

/-! ## The management protocol -/

/-- The command of the table that carries a body with effect (R331). -/
def effectCommand (hdr : QmpHdr) : QmpBody → Option Instr
  | .esbRestore block => some (.esbRestore hdr block)
  | .grantRest => some (.grantRest hdr)
  | .saveAndOff => some (.saveAndOff hdr)
  | .fwChunk package offset total crc rsv data => some (.fwChunk hdr package offset total crc rsv data)
  | .fwActivate package flags => some (.fwActivate hdr package flags)
  | .fwLockSet => some (.fwLockSet hdr)
  | .fwLockClear => some (.fwLockClear hdr)
  | .selftest target index => some (.selftest hdr target index)
  | .debugChallenge => some (.debugChallenge hdr)
  | .debugResponse signature verifies => some (.debugResponse hdr signature verifies)
  | .shipMode => some (.shipMode hdr)
  | .clearRailLatch => some (.clearRailLatch hdr)
  | .clearTrip => some (.clearTrip hdr)
  | .noticeAck first last => some (.noticeAck hdr first last)
  | .negotiate .. | .negotiateClose | .esbGet | .persistStatus | .logRead .. | .lastwordsRead .. | .outOfRange _ => none

/-- A request arrives whole and well formed over a carrier that is up, and nothing makes it wait or turns it away (R23, R325–R328, R332,
R334, R424). -/
abbrev requestArrives (s : State) (hdr : QmpHdr) (b : QmpBody) : Prop :=
  carrierUp s hdr.carrier = true ∧ mailboxFault hdr (opcodeOf b) = none ∧ badLength hdr = false ∧ reservedSet hdr (some b) = false ∧
    carrierFull s hdr.carrier = false ∧ mustWait s b = false ∧ carrierWaits s hdr.carrier = false ∧ beforeTable s = false ∧
    (s.security.lowering = true → runsInLowering b = true)

/-- The request names the open session `x`, at its version, outside STANDBY; no FW_ACTIVATE waits for its answer (R329–R331). -/
abbrev inOpenSession (s : State) (hdr : QmpHdr) (b : QmpBody) (x : Session) : Prop :=
  requestArrives s hdr b ∧ hdr.carrier ≠ .smbus ∧ sessionOf s hdr.session = some x ∧ versionStatus hdr b x.version = none ∧
    inStandby s = false ∧ s.fw.waiting = none

/-- The request carries the session's NEXT, and the power state, the carrier and its length let the command run (R331, R335–R337). -/
abbrev runsNext (s : State) (hdr : QmpHdr) (b : QmpBody) (x : Session) : Prop :=
  inOpenSession s hdr b x ∧ hdr.seq = x.next ∧ blockedStatus s hdr b = none

/-- The response to a request, on a mailbox or PCIe VDM. -/
def answerOf (hdr : QmpHdr) (b : QmpBody) (st : QmpStatus) (body : List Byte) : Output :=
  .qmp hdr.carrier (opcodeOf b) hdr.session hdr.seq st false body

/-- The sessions once a request has used its session. -/
def usedSessions (s : State) (hdr : QmpHdr) : List Session :=
  s.qmp.sessions.map fun y => if y.id = hdr.session then { y with lastUse := s.clock.opTime } else y

/-- A command with effect has been answered once: its SEQ is consumed, its result cached, other sessions stand, and its answer has left
(R331). -/
def answeredOnce (s t : State) (hdr : QmpHdr) (b : QmpBody) (x : Session) (st : QmpStatus) (body : List Byte) : Prop :=
  sessionOf t hdr.session = some { x with
      next := hdr.seq + 1, lastUse := s.clock.opTime,
      results := last64 (x.results ++ [⟨hdr.session, hdr.seq, opcodeOf b, st, body⟩]) } ∧
    (∀ id, id ≠ hdr.session → sessionOf t id = sessionOf s id) ∧ answerOf hdr b st body ∈ t.out

/-- A packet with this SMBus command code is taken on the carrier: the carrier is served and, on SMBus, has room, and the code is that of
MCTP, 0x0F (R438, R439). -/
def takesPacket (s : State) : Carrier → Byte → Bool
  | .mailbox _, _ => false
  | .vdm l, _ => carrierUp s (.vdm l)
  | .smbus, command => carrierUp s .smbus && !carrierFull s .smbus && command == 0x0F

/-- The state in which a packet is taken. On SMBus the message that was being sent has ended, and the bus rate is the packet's (R440). -/
def packetState (s : State) (c : Carrier) (rate : Fin 3) : State :=
  match c with
  | .smbus => setSmb (completeSmb s) fun b => { b with speed := rate.val }
  | _ => s

/-- The state with the partial message of a carrier, a source and a tag gone. -/
abbrev withoutPartial (s : State) (c : Carrier) (source : BitVec 16) (tag : Nat) : State :=
  { s with qmp := { s.qmp with partials := s.qmp.partials.filter fun p => !sameMessage c source tag p } }

/-- The bytes are a whole QMP message behind the MCTP message type 0x7E and a vendor ID: its opcode and its body, no reserved byte
set. -/
def isRequest (bytes : List Byte) (verifies : Bool) (op : Nat) (b : QmpBody) : Prop :=
  bytes.length ≥ 19 ∧ field bytes 0 1 = 0x7E ∧ field bytes 3 2 = op ∧ parseBody op (bytes.drop 19) verifies = some (b, 0)

end Sys2Proof.Machine
end

