-- ==== Sys2Proof/Certificates/Slice0/Obligations.lean ====
section
/-! DEFINITION. The statements, one `def` for each. A statement named after what a command completes with gives the command's next
state on the states and operands it names. -/

open Sys2Proof Sys2Proof.Machine

/-! ## CXL.mem service -/

/-- R12: a read of a line that a held write addresses returns the buffered data and changes nothing else; a read of a line that lies
in DRAM alone, found clean or with an error of a device that is marked failed (R106), returns DRAM's content, and no byte of memory
changes. What else the read can find (Table 04-7): a corrected error, and two devices in error where the stripe keeps parity and
misses no channel, leave the data as it is; an error that nothing can reconstruct is answered with poison, and the line is on the
poison record (R79, R129). Completes: cxlMemRead. -/
def Obligations.ReadReturnsTheLatestLine : Prop :=
  ∀ (s : State) (link : Link) (tag : Nat) (requester : Option (BitVec 12)) (hpa dpa : Nat) (ecc : EccOutcome),
    linkTakes s link → decodeHpa s link hpa = some dpa →
    admitted s (requestSlot s link tag requester false dpa 0 0 false ecc) →
    (∀ b, buffered s (dpa / 64) = some b →
      exec (.cxlMemRead link tag requester hpa ecc) s =
        .next { numbered s with out := s.out ++ [readAnswer link tag b.poison b.data] }) ∧
    (buffered s (dpa / 64) = none → needsFetch s (dpa / 64) = false →
      (ecc = .clean ∨ (∃ ch row col dev dq, ecc = .corrected ch row col dev dq ∧ (row.rank, dev) ∈ s.dram.ch[ch].failed) →
        ∃ t, exec (.cxlMemRead link tag requester hpa ecc) s = .next t ∧
          t.out = s.out ++ [readAnswer link tag (poisoned s (dpa / 64)) (readLine s.dram.mem (dpa / 64))] ∧
          t = { numbered s with
            out := t.out, power := { s.power with idle := false }, dram := { s.dram with acc := t.dram.acc } }) ∧
      (∀ (ch : DramCh) (row : RowId) (col : Nat),
        ((∃ dev dq, ecc = .corrected ch row col dev dq ∧ (∀ f ∈ s.dram.ch[ch].failed, f.1 ≠ row.rank) ∧
              s.dram.ch[ch].laneErrors.length < 63) ∨
            (∃ again, ecc = .twoDevices ch row col again ∧ underParity s (stripeOf (dpa / 64)) = true ∧
              missingIn s (stripeOf (dpa / 64)) = []) →
          ∃ t, exec (.cxlMemRead link tag requester hpa ecc) s = .next t ∧
            t.out = s.out ++ [readAnswer link tag (poisoned s (dpa / 64)) (readLine s.dram.mem (dpa / 64))] ∧
            t.dram.mem = s.dram.mem ∧ t.host = (numbered s).host) ∧
        (ecc = .unreconstructable ch row col ∨
            (∃ again, ecc = .twoDevices ch row col again ∧
              (underParity s (stripeOf (dpa / 64)) = false ∨ missingIn s (stripeOf (dpa / 64)) ≠ [])) →
          ∃ t, exec (.cxlMemRead link tag requester hpa ecc) s = .next t ∧
            t.out = s.out ++ [readAnswer link tag true (readLine s.dram.mem (dpa / 64))] ∧ poisoned t (dpa / 64) = true ∧
            t.shroud.unrecov = (if shroudOn s then satAdd 16 s.shroud.unrecov 1 else s.shroud.unrecov) ∧
            t.dram.mem = s.dram.mem ∧ t.host.buf = s.host.buf)))

/-- R13: a full write is held whole in the write buffers and then completed; a partial write is merged into the current line
first; and a held write that nothing holds any more is admitted the same way. Memory stands.
Completes: cxlMemWrite, heldWriteAdmit. -/
def Obligations.WriteIsHeldWholeThenCompletes : Prop :=
  ∀ (s : State) (link : Link) (tag : Nat),
    (∀ (requester : Option (BitVec 12)) (hpa dpa : Nat) (data : Line) (enables : DWord) (poison : Bool) (ecc : EccOutcome),
      linkTakes s link → decodeHpa s link hpa = some dpa →
      admitted s (requestSlot s link tag requester true dpa data enables poison ecc) → needsFetch s (dpa / 64) = false →
      (enables = BitVec.allOnes 64 →
        exec (.cxlMemWrite link tag requester hpa data enables poison ecc) s = .next { s with
          host := { s.host with
            arrivals := s.host.arrivals + 2,
            buf := s.host.buf ++ [heldLine (dpa / 64) data poison false ecc (s.host.arrivals + 1)] },
          out := s.out ++ [.writeDone link tag] }) ∧
      (enables ≠ BitVec.allOnes 64 → (buffered s (dpa / 64)).isSome = true ∨ ecc = .clean →
        ∃ t, exec (.cxlMemWrite link tag requester hpa data enables poison ecc) s = .next t ∧
          t.host.buf = s.host.buf ++ [heldLine (dpa / 64) (mergeLine (currentLine s (dpa / 64)).1 data enables)
            ((currentLine s (dpa / 64)).2 || poison) false .clean (s.host.arrivals + 1)] ∧
          t.out = s.out ++ [.writeDone link tag] ∧ t.dram.mem = s.dram.mem)) ∧
    (∀ q : Slot, waiting s link tag = some q → waitReason s q true = none → admits s q.link q.requester (64 * q.line) true = true →
      q.isWrite = true → q.enables = BitVec.allOnes 64 → needsFetch s q.line = false →
      exec (.heldWriteAdmit link tag) s = .next { s with
        host := { s.host with
          slots := s.host.slots.erase q, arrivals := s.host.arrivals + 1,
          buf := s.host.buf ++ [heldLine q.line q.data q.poison false q.ecc s.host.arrivals] },
        out := s.out ++ [.writeDone q.link q.tag] })

/-- R12, R13 together: once a full write has completed, a read of its line that is admitted next returns its data. -/
def Obligations.ReadAfterWriteReturnsTheData : Prop :=
  ∀ (s t : State) (link link2 : Link) (tag tag2 : Nat) (requester requester2 : Option (BitVec 12)) (hpa hpa2 dpa dpa2 : Nat)
    (data : Line) (poison : Bool) (ecc ecc2 : EccOutcome),
    linkTakes s link → decodeHpa s link hpa = some dpa →
    admitted s (requestSlot s link tag requester true dpa data (BitVec.allOnes 64) poison ecc) → needsFetch s (dpa / 64) = false →
    exec (.cxlMemWrite link tag requester hpa data (BitVec.allOnes 64) poison ecc) s = .next t →
    linkTakes t link2 → decodeHpa t link2 hpa2 = some dpa2 → dpa2 / 64 = dpa / 64 →
    admitted t (requestSlot t link2 tag2 requester2 false dpa2 0 0 false ecc2) →
    exec (.cxlMemRead link2 tag2 requester2 hpa2 ecc2) t =
      .next { numbered t with out := t.out ++ [readAnswer link2 tag2 poison data] }

/-- R14 and the drain of chapter 05: a line that may drain is written to DRAM, every byte outside the line reads as before, and the
line's granule is dirty from then on; a line that may not drain yet stays. What else the drain touches is said for an old line that is
read clean. Completes: writeBufferDrain. -/
def Obligations.DrainWritesTheLineAndMarksItsGranule : Prop :=
  ∀ (s : State) (line : Nat),
    (drainable s line = none → exec (.writeBufferDrain line) s = .next s) ∧
    (∀ b : BufLine, s.sound → drainable s line = some b →
      ∃ t, exec (.writeBufferDrain line) s = .next t ∧ readLine t.dram.mem line = b.data ∧
        isDirty t (lineGranule t line) = true ∧
        (takesParity s line = false ∨ b.ecc = .clean →
          (∀ a, a / 64 ≠ line → readByte t.dram.mem a = readByte s.dram.mem a) ∧ t.dram.ch = s.dram.ch ∧
          t.startup = s.startup ∧ t.out = s.out ∧ t.rt = s.rt ∧ t.flash = s.flash ∧ t.security = s.security ∧ t.rails = s.rails ∧
          t.host.fn = s.host.fn))

/-- R14: an entry leaves the write buffers only with its data and its parity in DRAM, the oldest of its line first, and with its
writes past the write CRC window (R105); with the last of its stripe the written staging entry is freed. Of two held writes to one
line the older is written to DRAM first. A staging entry that closes writes its parity line once and marks every drained line of its
stripe (R125); where the channel of the parity line is missing nothing is written (R128). Completes: writeBufferRelease,
writeBufferDrain, stagingEntryClose. -/
def Obligations.BufferEntryLeavesAfterItsParity : Prop :=
  (∀ (s : State) (line : Nat),
    ∃ t, exec (.writeBufferRelease line) s = .next t ∧
      (if s.host.buf.any (fun b => b.line == line && b.drained && b.parityOut) && crcPassed s (homeOf s line)
          && crcPassed s (Config.parityChannel (stripeOf line)) then
        (∃ pre b post, s.host.buf = pre ++ b :: post ∧ b.line = line ∧ b.drained = true ∧ b.parityOut = true ∧
          (∀ x ∈ pre, ¬ (x.line = line ∧ x.drained = true ∧ x.parityOut = true)) ∧ t.host.buf = pre ++ post) ∧
        ((∀ x ∈ t.host.buf, ¬ (stripeOf x.line = stripeOf line ∧ x.drained = true ∧ x.parityOut = true)) →
          ∀ e ∈ t.shroud.staging, ¬ (e.stripe = stripeOf line ∧ e.written = true))
      else t = s) ∧
      t = { s with
        host := { s.host with buf := t.host.buf }, dram := { s.dram with ch := t.dram.ch },
        shroud := { s.shroud with staging := t.shroud.staging } }) ∧
  (∀ (s : State) (line : Nat) (b : BufLine), drainable s line = some b →
    (∃ pre post, s.host.buf = pre ++ b :: post ∧ b.line = line ∧ b.drained = false ∧ ∀ x ∈ pre, x.line = line → x.drained = true) ∧
    (s.sound → ∃ t, exec (.writeBufferDrain line) s = .next t ∧ readLine t.dram.mem line = b.data)) ∧
  (∀ (s : State) (stripe : Nat) (e : StagingEntry), s.sound → openEntry s stripe = some e →
    ∃ t, exec (.stagingEntryClose stripe) s = .next t ∧
      t.shroud.staging = s.shroud.staging.map (fun x => if x.stripe = stripe then { x with written := true } else x) ∧
      t.host.buf = s.host.buf.map (fun b => if b.drained && stripeOf b.line == stripe then { b with parityOut := true } else b) ∧
      (missesStripe s stripe (Config.parityChannel stripe) = false → readLine t.dram.parity stripe = e.parity) ∧
      (missesStripe s stripe (Config.parityChannel stripe) = true → t.dram = s.dram) ∧
      (∀ a, a / 64 ≠ stripe → readByte t.dram.parity a = readByte s.dram.parity a) ∧ t.dram.mem = s.dram.mem ∧
      t = { s with
        host := { s.host with buf := t.host.buf }, shroud := { s.shroud with staging := t.shroud.staging }, dram := t.dram,
        power := { s.power with idle := t.power.idle } })

/-! ## Links -/

/-- R65: PERST_N, link down, a hot reset and a lost reference clock take a link's function to its reset values and discard its
requests; writes that were accepted stay in the write buffers, and every other link stands.

R66: CXL Reset does what PERST_N does to the function and its requests, and the link stays trained.
Completes: linkDown, hotReset, perstAssert, refclkFault, cxlReset.

That CXL Reset leaves the link trained is the model's reading (notes/assumptions/67). -/
def Obligations.LinkResetsTakeTheFunctionBack : Prop :=
  (∀ (s : State) (link : Link), s.host.link[link].heldIdle = false → saving s = false →
    ∃ t, exec (.linkDown link) s = .next t ∧ exec (.hotReset link) s = .next t ∧
      t.host.fn[link] = resetFn ∧ t.host.link[link] = downLink s.host.link[link] ∧
      t.host.slots = s.host.slots.filter (fun q => q.link != link) ∧ t.host.buf = s.host.buf ∧
      (∀ l, l ≠ link → t.host.link[l] = s.host.link[l] ∧ t.host.fn[l] = s.host.fn[l]) ∧
      t = { s with host := { s.host with fn := t.host.fn, link := t.host.link, slots := t.host.slots }, notices := t.notices }) ∧
  (∀ (s : State) (port : Fin 4), (∀ l, l = (portLinks port).1 ∨ l = (portLinks port).2 → s.host.link[l].heldIdle = false) →
    saving s = false →
    ∃ t, exec (.perstAssert port) s = .next t ∧ exec (.refclkFault port) s = .next t ∧
      (∀ l, l = (portLinks port).1 ∨ l = (portLinks port).2 →
        t.host.fn[l] = resetFn ∧ t.host.link[l] = downLink s.host.link[l] ∧ ∀ q ∈ t.host.slots, q.link ≠ l) ∧
      (∀ l, l ≠ (portLinks port).1 → l ≠ (portLinks port).2 → t.host.link[l] = s.host.link[l] ∧ t.host.fn[l] = s.host.fn[l]) ∧
      t.host.buf = s.host.buf ∧ t.dram = s.dram ∧ t.persist = s.persist) ∧
  (∀ (s : State) (link : Link), s.host.link[link].heldIdle = false →
    ∃ t, exec (.cxlReset link) s = .next t ∧
      t.host.fn[link] = resetFn ∧ t.host.link[link].decoders = [] ∧ t.host.link[link].trained = s.host.link[link].trained ∧
      t.host.link[link].width = s.host.link[link].width ∧ t.host.slots = s.host.slots.filter (fun q => q.link != link) ∧
      t.host.buf = s.host.buf ∧ (∀ l, l ≠ link → t.host.link[l] = s.host.link[l] ∧ t.host.fn[l] = s.host.fn[l]) ∧
      t = { s with
        host := { s.host with fn := t.host.fn, link := t.host.link, slots := t.host.slots }, notices := t.notices, out := t.out })

/-- R62 to R67, R77, R419: a link that trains offers CXL.io at its width, at most its full one, with Memory_Active as start-up allows; a
GPF Phase 2 request is answered and flushes nothing; a link's rest is noted for IDLE; and a decoder that is free takes its range.
Completes: linkTrained, gpfPhase2, linkL1OrL0pChange, hdmDecoderCommit. -/
def Obligations.LinkServiceCompletes : Prop :=
  (∀ (s : State) (link : Link) (width : Nat) (revision : Fin 3), mayTrain s link = true →
    ∃ t, exec (.linkTrained link width revision) s = .next t ∧ t.host.link[link].trained = true ∧ t.host.link[link].offersIo = true ∧
      t.host.link[link].width = min width (fullWidth s link) ∧ t.host.link[link].partner = partnerOf revision ∧
      t.host.link[link].memActive = memReady s ∧
      (∀ l, l ≠ link → t.host.link[l] = s.host.link[l]) ∧ t.host.buf = s.host.buf ∧ t.dram = s.dram ∧ t.persist = s.persist) ∧
  (∀ (s : State) (link : Link), s.host.link[link].offersIo = true → s.host.link[link].partner ≠ .r11 → coreUp s = true →
    exec (.gpfPhase2 link) s = .next { s with out := s.out ++ [.gpfResponse link] }) ∧
  (∀ (s : State) (link : Link) (resting : Bool), s.host.link[link].trained = true →
    ∃ t, exec (.linkL1OrL0pChange link resting) s = .next t ∧ t.host.link[link].resting = resting ∧
      t.power.idle = idleCondition t ∧
      t = { s with host := { s.host with link := t.host.link }, power := { s.power with idle := t.power.idle } }) ∧
  (∀ (s : State) (link : Link) (index base size dpaBase ways gran : Nat) (locked : Bool),
    s.host.link[link].offersIo = true → s.host.link[link].partner ≠ .r11 → coreUp s = true → index < decoderCount s link →
    waysOk ways = true → granOk gran = true → decoderLocked s link index = false →
    ∃ t, exec (.hdmDecoderCommit link index base size dpaBase ways gran locked) s = .next t ∧
      t.host.link[link].decoders = (s.host.link[link].decoders.filter fun d => d.index != index) ++
        [(⟨index, base, size, dpaBase, ways, gran, true, locked⟩ : Decoder)] ∧
      (∀ l, l ≠ link → t.host.link[l] = s.host.link[l]) ∧ t = { s with host := { s.host with link := t.host.link } })

/-- R345, R349, R352: a burst of link errors asks for the lane margin test; a lane that fails it is retired and stays retired, and a
link whose lanes all pass counts one transient. Completes: linkErrorBurst, laneMarginTestComplete. -/
def Obligations.LaneMarginTestRetiresFailingLanes : Prop :=
  (∀ (s : State) (link : Link), s.host.link[link].trained = true →
    ∃ t, exec (.linkErrorBurst link) s = .next t ∧ (testless s (.link link) = false → queueFull (.link link) s.faults.tests = false →
      tested t (.link link) = true) ∧ t.host = s.host ∧ t.dram = s.dram) ∧
  (∀ (s : State) (link : Link) (failing : List (Fin 16)) (width : Nat) (test : Test),
    runningTest s (.link link) = some test → failing ≠ [] →
    ∃ t, exec (.laneMarginTestComplete link failing width) s = .next t ∧
      (∀ lane ∈ failing, (link, lane) ∈ t.faults.retiredLanes) ∧ (∀ x ∈ s.faults.retiredLanes, x ∈ t.faults.retiredLanes) ∧
      t.host.link[link].width = min s.host.link[link].width width ∧ tested t (.link link) = false ∧ t.dram = s.dram) ∧
  (∀ (s : State) (link : Link) (width : Nat) (test : Test), runningTest s (.link link) = some test →
    ∃ t, exec (.laneMarginTestComplete link [] width) s = .next t ∧
      t.faults.transients = s.faults.transients ++ [⟨.link link, s.clock.opTime⟩] ∧ tested t (.link link) = false ∧
      t.faults.retiredLanes = s.faults.retiredLanes ∧ t.host = s.host ∧ t.dram = s.dram)

/-! ## CXL mailbox -/

/-- R78, R401, Table 03-1: the mailbox commands that read or set what the metadata area holds; each answers code 0 (Success). The
payload bytes that no chapter sets are free values.

R79, R80: Clear Poison writes the line whole and clean and takes it off the poison record; Inject Poison, at L0, puts it on.

R23, R64: in a save, or while the engine of the link's port is swapped, a command waits in the mailbox and nothing else changes.
Completes: setShutdownState, getHealthInfo, getFwInfo, labelStorageWrite, getPoisonList, clearPoison, injectPoison.

The number 0 of Success is that of CXL 3.1 (presumed, notes/assumptions/64). -/
def Obligations.MailboxCommandsAnswer : Prop :=
  ((∀ (s : State) (link : Link) (dirty : Bool), metadataServed s link →
    exec (.setShutdownState link dirty) s = .next { s with
      host := { s.host with shutdownDirty := dirty }, out := s.out ++ [.mailbox link 0 []] }) ∧
  (∀ (s : State) (link : Link), metadataServed s link →
    ∃ p, exec (.getHealthInfo link) s = .next { s with fresh := s.fresh + 1, out := s.out ++ [.mailbox link 0 p] } ∧
      p.length = 18 ∧ slice p 6 4 = leBytes 4 s.host.dirtyShutdowns) ∧
  (∀ (s : State) (link : Link), mailboxRuns s link →
    ∃ p, exec (.getFwInfo link) s = .next { s with out := s.out ++ [.mailbox link 0 p] } ∧ p.length = 80 ∧
      slice p 16 4 = leBytes 4 ((s.fw.active.map (·.version.toNat)).getD 0)) ∧
  (∀ (s : State) (link : Link) (offset : Nat) (data : List Byte), metadataServed s link → offset + data.length ≤ 131072 →
    ∃ t, exec (.labelStorageWrite link offset data) s = .next t ∧
      (∀ i b, data[i]? = some b → kvGet t.host.labels (offset + i) = some b) ∧
      (∀ a, a < offset ∨ offset + data.length ≤ a → kvGet t.host.labels a = kvGet s.host.labels a) ∧
      t = { s with host := { s.host with labels := t.host.labels }, out := s.out ++ [.mailbox link 0 []] }) ∧
  (∀ (s : State) (link : Link) (first length : Nat), metadataServed s link →
    exec (.getPoisonList link first length) s = .next { s with
      fresh := s.fresh + 1,
      out := s.out ++ [.mailbox link 0 (poisonPayload s ((poisonEntries s).filter (meets (first / 64) length)))] }) ∧
  (∀ (s : State) (link : Link) (dirty : Bool), mailboxUp s link = true → mailboxQueues s link = true → s.host.link[link].mbx = none →
    ∃ t, exec (.setShutdownState link dirty) s = .next t ∧ t.host.link[link].mbx = some (.setShutdownState link dirty) ∧
      (∀ l, l ≠ link → t.host.link[l] = s.host.link[l]) ∧ t = { s with host := { s.host with link := t.host.link } })) ∧
  ((∀ (s : State) (link : Link) (dpa : Nat) (data : Line), metadataServed s link → lineAddress s dpa = true →
    writeWaits s (dpa / 64) = false →
    ∃ t, exec (.clearPoison link dpa data) s = .next t ∧ currentLine t (dpa / 64) = (data, false) ∧
      t.out = s.out ++ [.mailbox link 0 []] ∧
      (needsFetch s (dpa / 64) = false → t = { s with
        host := { s.host with buf := t.host.buf, poison := t.host.poison, arrivals := s.host.arrivals + 1 }, out := t.out })) ∧
  (∀ (s : State) (link : Link) (dpa : Nat), metadataServed s link → s.security.level = .l0 → lineAddress s dpa = true →
    ∃ t, exec (.injectPoison link dpa) s = .next t ∧ (currentLine t (dpa / 64)).2 = true ∧
      t.out = s.out ++ [.mailbox link 0 []] ∧ t.dram = s.dram ∧
      t = { s with host := { s.host with buf := t.host.buf, poison := t.host.poison }, out := t.out }) ∧
  (∀ (s : State) (link : Link) (dpa : Nat), metadataServed s link → s.security.level ≠ .l0 →
    exec (.injectPoison link dpa) s = .next { s with out := s.out ++ [.mailbox link mbxUnsupported []] }))

/-! ## Requester tables -/

/-- R70, R71: a write to the tables goes into the shadow copy and leaves the copy in force alone; COMMIT puts the shadow copy in
force and counts it, and every request that waits is tried again under it; what arrives until the refill ends is held, and applied then.
Completes: rtShadowWrite, commit, commitRefillEnd. -/
def Obligations.CommitPutsTheShadowCopyInForce : Prop :=
  (∀ (s : State) (link : Link) (id : Nat) (value : DWord), tableWriter s link = true → id < 4096 →
    (s.rt.busy = false →
      ∃ t, exec (.rtShadowWrite link (0x4000 + 4 * id) 4 value) s = .next t ∧
        requesterEntry t.rt.shadow id = (value.setWidth 32 &&& 0x80FF3FFF#32) ||| (requesterEntry s.rt.shadow id &&& ~~~0x80FF3FFF#32) ∧
        (∀ j, j ≠ id → requesterEntry t.rt.shadow j = requesterEntry s.rt.shadow j) ∧
        t = { s with rt := { s.rt with shadow := { s.rt.shadow with requesters := t.rt.shadow.requesters } } }) ∧
    (s.rt.busy = true →
      exec (.rtShadowWrite link (0x4000 + 4 * id) 4 value) s = .next { s with
        rt := { s.rt with waiting := s.rt.waiting ++ [.write link (0x4000 + 4 * id) 4 value] } })) ∧
  (∀ (s : State) (link : Link), tableWriter s link = true →
    (s.rt.busy = false →
      exec (.commit link) s = .next (retrySlots { s with
        rt := { s.rt with inForce := s.rt.shadow, commitSeq := (s.rt.commitSeq + 1) % 256, busy := true } }) ∧
      (s.host.slots = [] → exec (.commit link) s = .next { s with
        rt := { s.rt with inForce := s.rt.shadow, commitSeq := (s.rt.commitSeq + 1) % 256, busy := true } })) ∧
    (s.rt.busy = true →
      exec (.commit link) s = .next { s with rt := { s.rt with waiting := s.rt.waiting ++ [.commit link] } })) ∧
  (∀ (s : State), s.rt.busy = true →
    (s.rt.waiting = [] → exec .commitRefillEnd s = .next { s with rt := { s.rt with busy := false } }) ∧
    (∀ link rest, s.rt.waiting = .commit link :: rest →
      exec .commitRefillEnd s = .next (retrySlots { s with
        rt := { s.rt with inForce := s.rt.shadow, commitSeq := (s.rt.commitSeq + 1) % 256, busy := true, waiting := rest } })))

/-! ## DRAM channels -/

/-- R101: the debt of a logical rank stays within its band. A tick raises it, or issues a refresh at the limit; while a rail fault
holds DRAM the tick is only counted (R103); a pull-in lowers it, never below the limit.

R100, R102: a device that asks for a higher refresh rate moves its channel to the 2x band at once; negative debts become 0 and
those above the new limit come down to it, and the tick timer begins again. No other channel and no other kind of state is touched.
Completes: refreshTick, refreshPullIn, mr4Poll.

That a tick in a rail fault is counted and issues nothing is the model's reading (notes/assumptions/94). -/
def Obligations.RefreshFollowsItsDebtAndTemperature : Prop :=
  (∀ (s : State) (c : Settings) (ch : DramCh) (rank : Fin 32), s.startup.settings = some c → coreUp s = true →
    refreshes s ch = true → lrankExists c rank = true →
    (∀ accessWaiting, dramHeld s = true ∨ s.dram.ch[ch].debt[rank] < debtLimit s.dram.ch[ch] →
      exec (.refreshTick ch rank accessWaiting) s = .next (withChan s ch { s.dram.ch[ch] with
        debt := s.dram.ch[ch].debt.set rank (s.dram.ch[ch].debt[rank] + 1) })) ∧
    (dramHeld s = false → debtLimit s.dram.ch[ch] ≤ s.dram.ch[ch].debt[rank] →
      exec (.refreshTick ch rank false) s = .next (withChan s ch { s.dram.ch[ch] with
        refreshes := (s.dram.ch[ch].refreshes + 1) % 2 ^ 32 }) ∧
      ∃ t, exec (.refreshTick ch rank true) s = .next t ∧ t.dram.ch[ch].debt = s.dram.ch[ch].debt ∧
        t.dram.ch[ch].refreshes = (s.dram.ch[ch].refreshes + 1) % 2 ^ 32 ∧
        t = { withNotes s t with dram := { s.dram with ch := t.dram.ch } }) ∧
    (dramHeld s = false → -debtLimit s.dram.ch[ch] < s.dram.ch[ch].debt[rank] →
      exec (.refreshPullIn ch rank) s = .next (withChan s ch { s.dram.ch[ch] with
        debt := s.dram.ch[ch].debt.set rank (s.dram.ch[ch].debt[rank] - 1),
        refreshes := (s.dram.ch[ch].refreshes + 1) % 2 ^ 32 })) ∧
    (s.dram.ch[ch].debt[rank] ≤ -debtLimit s.dram.ch[ch] → exec (.refreshPullIn ch rank) s = .next s)) ∧
  (∀ (s : State) (ch : DramCh), takesCommands s ch = true →
    exec (.mr4Poll ch false) s = .next s ∧
    (s.dram.ch[ch].band2x = false →
      ∃ t, exec (.mr4Poll ch true) s = .next t ∧ t.dram.ch[ch].band2x = true ∧ t.dram.ch[ch].tickFrom = s.clock.now ∧
        (∀ r : Fin 32, t.dram.ch[ch].debt[r] = max 0 (min 2 s.dram.ch[ch].debt[r])) ∧
        (∀ c, c ≠ ch → t.dram.ch[c] = s.dram.ch[c]) ∧ t = { withNotes s t with dram := { s.dram with ch := t.dram.ch } }))

/-- R111, R94, R97, R135: the calibrations of a channel in service are counted, and drift adjusts the write timing; a rank that rests
enters power-down, its share of the scrub is owed, and a wake pays it once it has been owed for 10 ms; a parity line that differs is
written again from its data lines. What the reads of a scrub find is an operand; the clauses that give the whole next state are for
reads that find nothing. Completes: zqCalibration, readCenteringTrack, dqsOscCalibration, powerDownEntry, patrolScrub, scrubWake. -/
def Obligations.ChannelUpkeepCompletes : Prop :=
  ∀ (s : State) (c : Settings) (ch : DramCh) (rank : Fin 4), s.startup.settings = some c → rankExists c rank = true →
    (calibrates s ch = true →
      exec (.zqCalibration ch rank) s = .next (withChan s ch { s.dram.ch[ch] with zqCals := s.dram.ch[ch].zqCals + 1 }) ∧
      exec (.readCenteringTrack ch rank) s = .next (withChan s ch { s.dram.ch[ch] with readCals := s.dram.ch[ch].readCals + 1 }) ∧
      ∀ drift, exec (.dqsOscCalibration ch rank drift) s = .next (withChan s ch { s.dram.ch[ch] with
        dqsCals := s.dram.ch[ch].dqsCals + 1, dqsAdjust := if drift then s.dram.ch[ch].dqsAdjust + 1 else s.dram.ch[ch].dqsAdjust })) ∧
    (s.dram.pdTimer ≠ 0 → takesCommands s ch = true →
      ∃ t, exec (.powerDownEntry ch rank) s = .next t ∧
        t.dram.acc[ch] = { s.dram.acc[ch] with powerDown := s.dram.acc[ch].powerDown.set rank true } ∧
        (∀ k, k ≠ ch → t.dram.acc[k] = s.dram.acc[k]) ∧ t.power.idle = idleCondition t ∧
        t = { s with dram := { s.dram with acc := t.dram.acc }, power := { s.power with idle := t.power.idle } }) ∧
    (calibrates s ch = true → maintenanceWaits s ch = false →
      (∀ (stripes mismatch : List Nat) (errs : List (Nat × EccOutcome)), s.dram.acc[ch].powerDown[rank] = true →
        exec (.patrolScrub ch rank stripes mismatch errs) s = .next (withChan s ch { s.dram.ch[ch] with
          scrubOwed := s.dram.ch[ch].scrubOwed.set rank (s.dram.ch[ch].scrubOwed[rank] ++ stripes),
          owedAt := if s.dram.ch[ch].scrubOwed[rank] = [] then s.dram.ch[ch].owedAt.set rank s.clock.now else s.dram.ch[ch].owedAt })) ∧
      (∀ (stripes : List Nat), s.dram.acc[ch].powerDown[rank] = false →
        ∃ t, exec (.patrolScrub ch rank stripes [] []) s = .next t ∧
          t.dram.ch = (scrubCount s ch (stripes.filter (stripePresent s)).length).dram.ch ∧
          t = { s with
            dram := { s.dram with ch := t.dram.ch, acc := t.dram.acc }, power := { s.power with idle := t.power.idle } }) ∧
      (∀ st : Nat, s.sound → s.dram.acc[ch].powerDown[rank] = false → stripePresent s st = true → verifiable s st = true →
        ∃ t, exec (.patrolScrub ch rank [st] [st] []) s = .next t ∧ readLine t.dram.parity st = stripeXor s.dram.mem st ∧
          t.shroud.mismatch = satAdd 16 s.shroud.mismatch 1 ∧ t.dram.mem = s.dram.mem ∧ t.host = s.host) ∧
      (∀ mismatch : List Nat, s.dram.ch[ch].scrubOwed[rank] ≠ [] → s.dram.ch[ch].owedAt[rank] + 10 ≤ s.clock.now →
        ∃ t, exec (.scrubWake ch rank mismatch []) s = .next t ∧ t.dram.ch[ch].scrubOwed[rank] = [] ∧
          t.dram.acc[ch].powerDown[rank] = false ∧ (∀ k, k ≠ ch → t.dram.ch[k] = s.dram.ch[k]) ∧ t.dram.mem = s.dram.mem ∧
          t.host = s.host))

/-- R105, R112, R119, R124: a write CRC error is replayed and logged; when the third replay has failed too, the channel is queued for a
retraining. Data in DRAM and the write buffers stand.

R116, R119: a channel that trains no more leaves service: RESET_N asserted, its refreshes stopped, and with Shroud on its lines
are reconstructed from then on. Completes: writeCrcError, channelRetrainComplete.

What a replay counts and logs is the model's reading (notes/assumptions/75). -/
def Obligations.WriteErrorsAndLostChannelsAreCovered : Prop :=
  (∀ (s : State) (ch : DramCh) (row : RowId) (column : Nat), takesCommands s ch = true → 16 ≤ s.dram.ch[ch].rate →
    (s.dram.ch[ch].replays < 3 → (recent s 1000 s.dram.ch[ch].crcTimes).length < 7 →
      ∃ t, exec (.writeCrcError ch row column) s = .next t ∧
        t.dram.ch = (withChan s ch { s.dram.ch[ch] with
          replays := s.dram.ch[ch].replays + 1, replayAt := some s.clock.now,
          crcTimes := recent s 1000 s.dram.ch[ch].crcTimes ++ [s.clock.now] }).dram.ch ∧
        t.dram.mem = s.dram.mem ∧
        t = { withNotes s t with dram := t.dram, fresh := s.fresh + 1, power := { s.power with idle := t.power.idle } }) ∧
    (3 ≤ s.dram.ch[ch].replays → s.dram.ch[ch].run = .inService →
      ∃ t, exec (.writeCrcError ch row column) s = .next t ∧ ch ∈ t.dram.retrainQ ∧ t.dram.ch[ch].replays = 0 ∧
        t.dram.mem = s.dram.mem ∧ t.host = s.host)) ∧
  (∀ (s : State) (ch : DramCh), saving s = false → coreUp s = true → s.dram.ch[ch].run = .sliced → s.dram.ch[ch].slicesLeft = 0 →
    missingChannels s = [] → shroudOn s = true →
    ∃ t, exec (.channelRetrainComplete ch false) s = .next t ∧ t.dram.ch[ch].run = .outOfService ∧ t.dram.ch[ch].resetN = false ∧
      (∀ c, c ≠ ch → t.dram.ch[c] = s.dram.ch[c]) ∧ ch ∉ t.dram.retrainQ ∧ t.shroud.mode = .reconstruct ∧
      t.shroud.channel = some ch ∧ t.dram.mem = s.dram.mem ∧ t.host = s.host ∧ t.power = s.power ∧ t.rails = s.rails)

/-- R113, R114: retraining takes the first channel of the queue, whole with Shroud on and every channel in service, in slices
otherwise; a slice at a time, at least 10 ms apart; and a channel that trained returns to service, its stale regions to be rewritten
first. A training retry is made 10 min after the last one (R117). Completes: channelRetrainStart, retrainSlice,
channelRetrainComplete, channelTrainingRetry. -/
def Obligations.RetrainingRunsOneChannelAtATime : Prop :=
  (∀ (s : State) (c : Settings) (ch : DramCh) (rest : List DramCh), s.startup.settings = some c → mayRetrain s = true →
    s.dram.retrainQ = ch :: rest → s.dram.ch[ch].run = .inService → maintainerWaits s ch = false →
    (someRetrains s = true → exec .channelRetrainStart s = .next s) ∧
    (someRetrains s = false → wholeChannel s = true →
      ∃ t, exec .channelRetrainStart s = .next t ∧ t.dram.ch[ch].run = .retraining ∧ t.dram.retrainQ = rest ∧
        t.shroud.mode = .retrain ∧ t.shroud.channel = some ch ∧ t.dram.mem = s.dram.mem) ∧
    (someRetrains s = false → wholeChannel s = false →
      exec .channelRetrainStart s = .next (withChan { s with dram := { s.dram with retrainQ := rest } } ch
        { s.dram.ch[ch] with run := .sliced, slicesLeft := 20 * c.dramPranks }))) ∧
  (∀ (s : State) (c : Settings) (ch : DramCh), s.startup.settings = some c → mayRetrain s = true →
    s.dram.ch[ch].run = .sliced → 0 < s.dram.ch[ch].slicesLeft →
    (s.dram.ch[ch].slicesLeft = 20 * c.dramPranks ∨ s.dram.ch[ch].sliceAt + 10 ≤ s.clock.now) →
    exec (.retrainSlice ch) s = .next (withChan s ch { s.dram.ch[ch] with
      slicesLeft := s.dram.ch[ch].slicesLeft - 1, sliceAt := s.clock.now })) ∧
  (∀ (s : State) (ch : DramCh), saving s = false → coreUp s = true →
    (s.dram.ch[ch].run = .sliced → s.dram.ch[ch].slicesLeft = 0 →
      ∃ t, exec (.channelRetrainComplete ch true) s = .next t ∧ t.dram.ch[ch].run = .inService ∧
        (∀ c, c ≠ ch → t.dram.ch[c] = s.dram.ch[c]) ∧ t = { s with dram := { s.dram with ch := t.dram.ch } }) ∧
    (s.dram.ch[ch].run = .retraining → s.shroud.pass = none → s.fw.waitRetrain = false →
      ∃ t, exec (.channelRetrainComplete ch true) s = .next t ∧ t.dram.mem = s.dram.mem ∧
        if s.shroud.stale = [] then t.dram.ch[ch].run = .inService else t.shroud.pass = some .staleRewrite ∧
          t.dram.ch[ch].run = .retraining)) ∧
  (∀ (s : State) (ch : DramCh), mayRetrain s = true → s.dram.ch[ch].run = .outOfService →
    s.dram.ch[ch].retryAt + 600000 ≤ s.clock.now →
    (∃ t, exec (.channelTrainingRetry ch true) s = .next t ∧ t.dram.ch[ch].run = .rebuilding ∧ t.dram.ch[ch].resetN = true ∧
      (shroudOn s = true → t.shroud.pass = some .rebuild ∧ t.shroud.watermark = 0) ∧ t.dram.mem = s.dram.mem) ∧
    ∃ t, exec (.channelTrainingRetry ch false) s = .next t ∧
      t = { withNotes s t with
        fresh := s.fresh + 1, dram := (withChan s ch { s.dram.ch[ch] with retryAt := s.clock.now }).dram })

/-- R346, R352, R353: a DRAM test that passes classes the error transient, unless that makes its row intermittent; a line or row that
fails is retired in the repair list, or its device is marked where the list or the day's repairs are full, as it is by a failure in
two bank groups. The test leaves its queue.

R348, R352: a block set that passes its test is erased and serves programs again; a die that passes is classed transient, and nothing
of the flash medium changes.

R357: at the end of a module-year the sums of the year are logged and begin again; before it nothing happens. Completes:
lineTestComplete, rowTestComplete, channelPatternTestComplete, blockTestComplete, dieTestComplete, moduleYearEnd.

A module-year of 8,760 h of operating time is the model's reading of R357 (notes/assumptions/51). -/
def Obligations.TargetedTestsClassTheError : Prop :=
  ((∀ (s : State) (ch : DramCh) (row : RowId) (column : Nat) (device : Fin 10), endsTest s (.line ch row column) →
    (rowIntermittent (countTransient s (.line ch row column)) ch row = false →
      ∃ t, exec (.lineTestComplete ch row column true device) s = .next t ∧ tested t (.line ch row column) = false ∧
        t.faults.transients = s.faults.transients ++ [⟨.line ch row column, s.clock.opTime⟩] ∧ t.dram = s.dram ∧ t.cf = s.cf) ∧
    (fourthRepair s ch row device = false → rowEntriesOf s ch < 24 →
      ∃ t, exec (.lineTestComplete ch row column false device) s = .next t ∧ tested t (.line ch row column) = false ∧
        t.cf = (addRepair s (.row ch row device)).cf ∧ t.faults.transients = s.faults.transients ∧ t.dram = s.dram ∧
        ∀ a, cfBusy s = false → firstBlankWord s secRepair = some a →
          t.cf.words = kvSet s.cf.words a ⟨repairWord (.row ch row device), false⟩) ∧
    (fourthRepair s ch row device = true ∨ 24 ≤ rowEntriesOf s ch → (∀ f ∈ s.dram.ch[ch].failed, f.1 ≠ row.rank) →
      ∃ t, exec (.lineTestComplete ch row column false device) s = .next t ∧ tested t (.line ch row column) = false ∧
        t.dram.ch[ch].failed = s.dram.ch[ch].failed ++ [(row.rank, device)] ∧ t.dram.mem = s.dram.mem ∧ t.host = s.host)) ∧
  (∀ (s : State) (ch : DramCh) (row : RowId) (device : Fin 10), endsTest s (.row ch row) →
    (∀ two, rowIntermittent (countTransient s (.row ch row)) ch row = false →
      ∃ t, exec (.rowTestComplete ch row true device two) s = .next t ∧ tested t (.row ch row) = false ∧
        t.faults.transients = s.faults.transients ++ [⟨.row ch row, s.clock.opTime⟩] ∧ t.dram = s.dram ∧ t.cf = s.cf) ∧
    (fourthRepair s ch row device = false → rowEntriesOf s ch < 24 →
      ∃ t, exec (.rowTestComplete ch row false device false) s = .next t ∧ tested t (.row ch row) = false ∧
        t.cf = (addRepair s (.row ch row device)).cf ∧ t.faults.transients = s.faults.transients ∧ t.dram = s.dram ∧
        ∀ a, cfBusy s = false → firstBlankWord s secRepair = some a →
          t.cf.words = kvSet s.cf.words a ⟨repairWord (.row ch row device), false⟩) ∧
    ((∀ f ∈ s.dram.ch[ch].failed, f.1 ≠ row.rank) →
      ∃ t, exec (.rowTestComplete ch row false device true) s = .next t ∧ tested t (.row ch row) = false ∧
        t.dram.ch[ch].failed = s.dram.ch[ch].failed ++ [(row.rank, device)] ∧ t.dram.mem = s.dram.mem ∧ t.host = s.host)) ∧
  (∀ (s : State) (ch : DramCh), endsTest s (.dramChannel ch) →
    (∃ t, exec (.channelPatternTestComplete ch true) s = .next t ∧ tested t (.dramChannel ch) = false ∧
      t.faults.transients = s.faults.transients ++ [⟨.dramChannel ch, s.clock.opTime⟩] ∧ t.dram = s.dram) ∧
    (missingChannels s = [] →
      ∃ t, exec (.channelPatternTestComplete ch false) s = .next t ∧ t.dram.ch[ch].run = .outOfService ∧ t.dram.ch[ch].rate = 0))) ∧
  (∀ (s : State) (c : Settings) (ch : FlashCh) (die : Fin 16), s.startup.settings = some c →
    (∀ index, endsTest s (.blockSet ch die index) → setVacant s c ch die index = true → saving s = false →
      transients s (30 * dayMs) (fun p => p == .blockSet ch die index) < 2 →
      ∃ t, exec (.blockTestComplete ch die index true) s = .next t ∧ tested t (.blockSet ch die index) = false ∧
        blockOf t ch die index = { blockOf s ch die index with
          run := .erased, erases := (blockOf s ch die index).erases + 2, learned := 0, refresh := false, withheld := false } ∧
        t.dram = s.dram ∧ t.host = s.host) ∧
    (endsTest s (.die ch die) → someAbsent s = false → saving s = false → transients s dayMs (fun p => p == .die ch die) < 7 →
      ∃ t, exec (.dieTestComplete ch die true) s = .next t ∧ tested t (.die ch die) = false ∧
        t.faults.transients = s.faults.transients ++ [⟨.die ch die, s.clock.opTime⟩] ∧ t.flash = s.flash ∧ t.dram = s.dram)) ∧
  (∀ (s : State),
    (s.clock.opTime < s.faults.yearStart + yearMs → exec .moduleYearEnd s = .next s) ∧
    (s.faults.yearStart + yearMs ≤ s.clock.opTime →
      ∃ t, exec .moduleYearEnd s = .next t ∧
        t = { s with
          recorder := t.recorder,
          faults := { s.faults with availMs := 0, exclMs := 0, availEvents := 0, year := min 255 (s.faults.year + 1),
                                    yearStart := s.faults.yearStart + yearMs } }))

/-- R131, R134, R138: a rebuild and a copy back pass one stripe at a time, and a stripe whose granule is not in DRAM is skipped; a
stripe that is rebuilt has its parity line from its data lines; the last one returns the channel to service, unless a restore still
writes it. A copy back that ends frees the parity slots and turns Shroud's mode off. What the reads of a stripe find is an operand:
the line of the missing channel is poisoned where a read of the rebuild cannot be corrected (R129), and the other clauses are for
reads that find nothing. Completes: rebuildStripe, relocationCopyBack. -/
def Obligations.PassesAdvanceStripeByStripe : Prop :=
  (∀ (s : State) (ch : DramCh), passesRun s = true → s.shroud.pass = some .rebuild → s.shroud.channel = some ch →
    s.fw.waitRetrain = false →
    (s.shroud.watermark + 1 < allStripes s →
      ∃ t, exec (.rebuildStripe []) s = .next t ∧ t.shroud.watermark = s.shroud.watermark + 1 ∧
        t.shroud.left = ceilDiv (allStripes s - (s.shroud.watermark + 1)) (regionStripes s) ∧ t.shroud.pass = some .rebuild ∧
        (s.sound → stripePresent s s.shroud.watermark = true →
          readLine t.dram.parity s.shroud.watermark = stripeXor s.dram.mem s.shroud.watermark) ∧
        (stripePresent s s.shroud.watermark = false → t.dram = s.dram) ∧
        t.dram.mem = s.dram.mem ∧ t.dram.ch = s.dram.ch ∧ t.host = s.host ∧ t.persist = s.persist) ∧
    (s.shroud.watermark + 1 < allStripes s → stripePresent s s.shroud.watermark = true →
      ∀ (l : Nat) (k : DramCh) (row : RowId) (col : Nat), stripeOf l = s.shroud.watermark →
        ∃ t, exec (.rebuildStripe [(l, .unreconstructable k row col)]) s = .next t ∧ t.shroud.watermark = s.shroud.watermark + 1 ∧
          poisoned t ((lineOn ch s.shroud.watermark).getD l) = true ∧ t.dram.mem = s.dram.mem ∧ t.host.buf = s.host.buf) ∧
    (allStripes s ≤ s.shroud.watermark + 1 → s.restore.running = false →
      ∃ t, exec (.rebuildStripe []) s = .next t ∧ t.dram.ch[ch].run = .inService ∧ t.shroud.pass = none ∧ t.shroud.watermark = 0 ∧
        t.dram.mem = s.dram.mem ∧ t.host = s.host)) ∧
  (∀ (s : State) (ch : DramCh), passesRun s = true → s.shroud.pass = some .copyBack → s.shroud.channel = some ch →
    (s.shroud.watermark + 1 < allStripes s →
      ∃ t, exec (.relocationCopyBack []) s = .next t ∧ t.shroud.watermark = s.shroud.watermark + 1 ∧
        t.shroud.left = ceilDiv (allStripes s - (s.shroud.watermark + 1)) (regionStripes s) ∧ t.shroud.pass = some .copyBack ∧
        t.dram.mem = s.dram.mem ∧ t.dram.ch = s.dram.ch ∧ t.host = s.host ∧ t.persist = s.persist) ∧
    (allStripes s ≤ s.shroud.watermark + 1 → s.restore.running = false →
      ∃ t, exec (.relocationCopyBack []) s = .next t ∧ t.dram.ch[ch].run = .inService ∧ t.shroud.pass = none ∧ t.shroud.watermark = 0 ∧
        (shroudOn s = false → t.shroud.mode = .off ∧ t.shroud.channel = none) ∧ t.dram.mem = s.dram.mem ∧ t.host = s.host))

/-- R137, R216, R223, R225: the granule that a fetch or a relocation fill brings in is present from then on; every byte of another
granule reads as before. A fetch that ends is counted, its longest time kept, and what waited for its granule is served
(R223). Completes: demandFetchComplete, relocationFill. -/
def Obligations.GranuleComesIn : Prop :=
  (∀ (s : State) (g micros : Nat) (outcome : DecodeOutcome) (f : Fetch),
    (s.restore.fetches.find? fun x => x.granule == g) = some f →
    (∃ u, exec (.demandFetchComplete g outcome micros) s = .next (issueWaiting (bringIn u g (!f.lun.isSome || readOk outcome))) ∧
      u.restore = { s.restore with
        fetches := s.restore.fetches.filter fun x => x.granule != g,
        fetchCount := if f.lun.isSome then satAdd 32 s.restore.fetchCount 1 else s.restore.fetchCount,
        maxUs := max s.restore.maxUs (min 4095 micros),
        isOver := if s.restore.boundUs < micros then satAdd 8 s.restore.isOver 1 else s.restore.isOver } ∧
      u.dram = s.dram ∧ u.host = s.host) ∧
    (s.host.slots = [] →
      ∃ t, exec (.demandFetchComplete g outcome micros) s = .next t ∧ granulePresent t g = true ∧ fetching t g = false ∧
        t.restore.maxUs = max s.restore.maxUs (min 4095 micros) ∧ (s.sound → outsideGranuleStands s t g))) ∧
  (∀ (s : State) (g : Nat) (outcome : DecodeOutcome), passesRun s = true → s.shroud.mode = .relocate →
    s.shroud.pass = some .relocationFill → granulePresent s g = true → g < hvGranules s → g ∉ s.shroud.filled → fillLost s g = false →
    fetching s g = false → hottestLeft s g = true → s.shroud.watermark < allStripes s →
    exec (.relocationFill g outcome) s =
      .next (bringIn (noteCopyRead s g false outcome) g ((entryOf s g).state != .present || readOk outcome)) ∧
    (s.host.slots = [] →
      ∃ t, exec (.relocationFill g outcome) s = .next t ∧ (g ∈ t.shroud.filled ∨ t.shroud.mode = .relocated) ∧
        (s.sound → outsideGranuleStands s t g)))

/-! ## Flash -/

/-- R43, R150: a program that passes marks its page group; when the last page group of a flush passes, its row's parity already
in, the granule's manifest entry names the copy and the granule is clean. A flush that was overtaken by a write leaves it dirty. A
generation that is being written goes on with what has passed. Completes: flashProgramComplete. -/
def Obligations.FlushedGranuleBecomesClean : Prop :=
  ∀ (s : State) (c : Settings) (seq : Nat) (p : PageGroup), s.startup.settings = some c → s.flash.brownOut = false →
    inProgress s seq = some p → p.kind = .granule →
    ∃ u, exec (.flashProgramComplete seq true) s = .next (advanceSeal u) ∧ { p with passed := true } ∈ u.flash.pages ∧ u.dram = s.dram ∧
      u.host = s.host ∧ u.security = s.security ∧ u.flash.sealJob = s.flash.sealJob ∧
      ∀ f, p.half = 0 → s.persist.inflight = [f] → f.granule = p.index → f.pages = [seq] → f.rows = [] →
        (entryOf u p.index).state = .present ∧ u.persist.inflight = [] ∧ (∀ g, g ≠ p.index → entryOf u g = entryOf s g) ∧
        isDirty u p.index = (f.rewritten && s.persist.dirty.any fun d => d.1 == p.index)

/-- R148, R153, R154, R158: an erase that passes leaves its block set ERASED with one more erase and no learned offset; a suspended
erase resumes outside a save; a read busy timeout is counted against its die; a page read leaves its ladder entry behind, and its reads
on the channel. Completes: flashEraseComplete, eraseResume, flashBusyTimeout, flashReadComplete. -/
def Obligations.BlockSetsFollowTheirStatus : Prop :=
  ∀ (s : State) (c : Settings) (ch : FlashCh) (die : Fin 16) (index : Nat), s.startup.settings = some c →
    s.flash.brownOut = false →
    ((eraseOf s ch die index).isSome = true →
      ∃ t, exec (.flashEraseComplete ch die index true) s = .next t ∧
        blockOf t ch die index = { blockOf s ch die index with
          run := .erased, erases := (blockOf s ch die index).erases + 1, learned := 0, refresh := false } ∧
        t.dram = s.dram ∧ t.host = s.host) ∧
    (saving s = false → lunFree s c ch die = true →
      exec (.eraseResume ch die) s = .next { s with
        flash := { s.flash with erases := s.flash.erases.map fun e =>
          if e.ch = ch ∧ e.die = die ∧ e.suspended = true then { e with suspended := false, resumedAt := s.clock.now } else e } }) ∧
    (fcReady s ch = true → (∀ x ∈ s.flash.ch[ch].timeouts, x.1 ≠ die) →
      ∃ t, exec (.flashBusyTimeout ch die .read) s = .next t ∧ (die, s.clock.now) ∈ t.flash.ch[ch].timeouts ∧
        (∀ k, k ≠ ch → t.flash.ch[k] = s.flash.ch[k]) ∧ t.flash.pages = s.flash.pages ∧ t.dram = s.dram) ∧
    (∀ (granule : Nat) (n : Fin 9) (many : Bool), fcUp s.flash.ch[ch] = true → n.val < 4 →
      ∃ u, exec (.flashReadComplete ch die index granule (.entry n many)) s = .next (startRefresh u) ∧
        (blockOf u ch die index).learned = (if n.val = 0 then 0 else c.ladder.getD (n.val - 1) (blockOf s ch die index).learned) ∧
        (many = true → (blockOf u ch die index).refresh = true) ∧ u.flash.ch[ch].reads = s.flash.ch[ch].reads + n.val + 1 ∧
        u.flash.pages = s.flash.pages ∧ u.dram = s.dram ∧ u.host = s.host)

/-- R149, R151: a program that is not for the next page of its block set never reaches the die and is logged; a row that has been
open for 100 ms, the lowest open row of its band, is closed with its parity, which waits for its own program; no page group that was
placed before is touched but for the start of its program. Completes: engineProgramRefused, rowCloseTimeout. -/
def Obligations.RowsCloseWithTheirParity : Prop :=
  (∀ (s : State) (ch : FlashCh) (die : Fin 16) (index page : Nat), nextPage s ch die index page = false →
    ∃ t, exec (.engineProgramRefused ch die index page) s = .next t ∧ t = { s with recorder := t.recorder }) ∧
  (∀ (s : State) (c : Settings) (b : Band) (r : OpenRow) (ch : FlashCh), s.startup.settings = some c → s.flash.brownOut = false →
    r ∈ s.flash.openRows → (∀ x ∈ s.flash.openRows, x.band = r.band → r.row ≤ x.row) → r.openedAt + 100 ≤ s.clock.now →
    bandOf s r.band = some b → parityChannel b r.row = some ch → memberTakes s c b ch r.row = true → pagesOfRow s r.band r.row ≠ [] →
    ∃ t, exec (.rowCloseTimeout r.band r.row) s = .next t ∧ (∀ x ∈ t.flash.openRows, ¬ (x.band = r.band ∧ x.row = r.row)) ∧
      (∃ p ∈ t.flash.pages, p.kind = .parity ∧ p.band = r.band ∧ p.row = r.row ∧ p.ch = ch ∧ p.passed = false) ∧
      (∀ p ∈ s.flash.pages, ∃ a, { p with issuedAt := a } ∈ t.flash.pages) ∧ t.dram = s.dram ∧ t.host = s.host)

/-- R178, R207: a checkpoint that is due is asked for, once a second at most; the first one of a service without that spacing. Until
its seal is written no generation is added.

R177: the seal that passes, its chunks, root and referenced rows all in, is the newest generation, with the manifest its chunks carry,
and the count of flushed bytes begins again; a seal that fails on one mirror waits for the other. Completes: checkpointSeal,
sealComplete. -/
def Obligations.SealMakesTheNewestGeneration : Prop :=
  (∀ (s : State) (c : Settings), s.startup.settings = some c → copiesRun s = true → s.flash.sealJob = none →
    s.flash.formatting = false →
    needsCheckpoint s = true ∨ restripeDue s = false ∧ checkpointDue s = true ∧ s.flash.sealedAt + 1000 ≤ s.clock.now →
    ∃ t, exec .checkpointSeal s = .next t ∧
      t = advanceSeal { s with flash := { s.flash with sealJob := some {
        kind := .checkpoint, stage := .asked, every := false, chunks := [], draft := none, attempts := 0, failed0 := false,
        failed1 := false, restripe := [] } } } ∧
      t.flash.gens = s.flash.gens ∧ t.dram = s.dram ∧ t.host = s.host) ∧
  (∀ (s : State) (m : Fin 2) (j : SealJob) (d : Generation), s.flash.brownOut = false → s.flash.mirrors[m].ok = true →
    s.flash.mirrors[1 - m].ok = true → s.flash.sealJob = some j → j.draft = some d → sealReady s j = true → j.kind = .checkpoint →
    j.failed0 = false → j.failed1 = false → j.restripe = [] →
    (∃ u, exec (.sealComplete m true) s = .next (renewSeal (serviceSealed u)) ∧ u.flash.sealJob = none ∧
      u.flash.gen = s.flash.gen + 1 ∧
      (∃ g, u.flash.gens = s.flash.gens ++ [g] ∧ g.gen = s.flash.gen + 1 ∧ g.kind = .checkpoint ∧ g.entries = d.entries ∧
        g.wear = s.persist.wear) ∧ u.flash.flushed = 0 ∧ u.flash.sealedAt = s.clock.now ∧ u.dram = s.dram ∧ u.save = s.save) ∧
    exec (.sealComplete m false) s = .next { s with
      flash := { s.flash with sealJob := some (if m = 0 then { j with failed0 := true } else { j with failed1 := true }) } })

/-- R166, R172 to R175, R179: copies of a band that is moved out are programmed elsewhere with their header unchanged, by compaction
or by re-striping; wear leveling moves the band of the lowest mean count; a retention scrub reads every band once, while nothing else
waits for its channels (R18); and 60 days of STANDBY call for a retention. Completes: compaction, restripeCopy, wearLevelMove,
retentionScrub, retentionDue. -/
def Obligations.CopiesMoveOutOfTheirBand : Prop :=
  (∀ (s : State) (c : Settings) (g : Nat) (ch : FlashCh) (r : MoveReason) (p : PageGroup) (b : Band) (rows : List OpenRow),
    s.startup.settings = some c → copiesRun s = true → (entryOf s g).state = .present →
    moveReason s (entryOf s g).band = some r → copying s g = false → openBand (rowsFor s c) = some b →
    mayProgram (rowsFor s c) c ch (bandDie c b.num) = true → freeRows (rowsFor s c) c b ch 1 = some rows →
    ((rowsFor s c).flash.pages.filter fun p => p.passed && p.index == g && livePage (rowsFor s c) p) = [p] →
    let moved (u : State) : Prop :=
      u.dram = s.dram ∧ u.host = s.host ∧
        ∃ q ∈ u.flash.pages, q.kind = .compacted ∧ q.index = g ∧ q.ch = ch ∧ q.band = b.num ∧ q.seq = (entryOf s g).seq ∧
          q.gen = p.gen ∧ q.keyId = p.keyId ∧ q.cells = p.cells
    (restriping r = false → copyAllowed s c r = true → copyYields s c g ch (r != .compaction || !freeLow s c) = false →
      ∃ u, exec (.compaction g ch) s = .next (eraseReady u) ∧ moved u) ∧
    (restriping r = true → copyYields s c g ch true = false →
      ∃ u, exec (.restripeCopy g ch) s = .next (eraseReady (finishRestripe u)) ∧ moved u)) ∧
  (∀ (s : State) (c : Settings) (b : Band), s.startup.settings = some c → copiesRun s = true → wearLeft s = true →
    1000 < wearSpread s c →
    leastMean s c (s.flash.bands.filter fun b => b.closed && !b.moving && !(liveIn s b.num).isEmpty) = some b →
    ∃ t, exec .wearLevelMove s = .next t ∧ (∃ r, moveReason t b.num = some r) ∧ t.flash.manifest = s.flash.manifest ∧
      t.dram = s.dram ∧ t.host = s.host) ∧
  (∀ (s : State) (c : Settings) (band : Nat), s.startup.settings = some c → copiesRun s = true → scrubTurn s band = true →
    scrubQuiet s c band = true →
    ∃ u, exec (.retentionScrub band) s = .next (startRefresh u) ∧
      (u.flash.scrubbed = [] ∧ u.flash.fullScrub = false ∨
        u.flash.scrubbed = insertNat s.flash.scrubbed band ∧ u.flash.fullScrub = s.flash.fullScrub) ∧
      u.flash.scrubPassAt = (if s.flash.scrubbed.isEmpty then s.clock.now else s.flash.scrubPassAt) ∧
      u = { s with flash := { s.flash with
        scrubbed := u.flash.scrubbed, fullScrub := u.flash.fullScrub, scrubPassAt := u.flash.scrubPassAt } }) ∧
  (∀ (s : State) (since : Nat), inStandby s = true → s.flash.retentionDue = false → s.flash.standbySince = some since →
    since + 5184000000 ≤ s.clock.now →
    ∃ t, exec .retentionDue s = .next t ∧ t.flash.retentionDue = true ∧
      t = { withNotes s t with flash := { s.flash with retentionDue := true } })

/-- R145, R167, R168, R176, R371: a flash channel that trains comes into service at the module's rate, one that does not leaves it,
and the last one ends step 5 of the start-up; a lost one is tried again every 10 min and returns by a later training; a brown-out
asserts WP_N and stops every command until both NAND rails are good, and what it tore is written again; and the failed mirror of the
system area comes back on the next channel. Completes: flashChannelTraining, flashTrainingRetry, nandBrownout, nandRailRecovery,
mirrorRelocated. -/
def Obligations.FlashChannelsComeAndGo : Prop :=
  (∀ (s : State) (c : Settings) (ch : FlashCh), s.startup.settings = some c → s.flash.ch[ch].run = .training →
    let up := withFlashCh s ch { s.flash.ch[ch] with run := .inService, sdr := false, rate := c.flashRate / 2 }
    exec (.flashChannelTraining ch [] true) s = .next (endStep5 (checkMirrors up)) ∧
    exec (.flashChannelTraining ch [] false) s = .next (endStep5 (checkMirrors (flashChannelOut s ch))) ∧
    ((∀ m : Fin 2, s.flash.mirrors[m].ok = true → mirrorGone up s.flash.mirrors[m].ch = false) →
      (s.dram.ch.toList.any fun d => d.run == .training || d.run == .selfRefresh) = true →
      exec (.flashChannelTraining ch [] true) s = .next up)) ∧
  (∀ (s : State) (c : Settings) (ch : FlashCh), s.startup.settings = some c → s.flash.ch[ch].run = .outOfService →
    s.flash.ch[ch].hasEngine = true → copiesRun s = true → s.flash.ch[ch].retryAt + 600000 ≤ s.clock.now →
    (startDies s c ch ≠ [] →
      ∃ t, exec (.flashTrainingRetry ch true) s = .next t ∧ t.flash.ch[ch].run = .inService ∧ t.flash.ch[ch].dies = startDies s c ch ∧
        t.flash.ch[ch].rate = c.flashRate / 2 ∧ (∀ k, k ≠ ch → t.flash.ch[k] = s.flash.ch[k]) ∧ t.flash.pages = s.flash.pages) ∧
    exec (.flashTrainingRetry ch false) s = .next (withFlashCh s ch { s.flash.ch[ch] with retryAt := s.clock.now })) ∧
  (∀ (s : State), s.flash.inService = true →
    exec .nandBrownout s = .next { s with flash := { s.flash with brownOut := true, wpN := true } }) ∧
  (∀ (s : State) (c : Settings), s.startup.settings = some c → s.flash.brownOut = true → s.rails.rail[9].run = .qualified →
    s.rails.rail[10].run = .qualified →
    ∃ u, exec .nandRailRecovery s = .next (advanceSeal (issueWaiting u)) ∧ u.flash.brownOut = false ∧ u.flash.wpN = false ∧
      u.flash.erases = [] ∧ u.flash.manifest = s.flash.manifest ∧ u.dram = s.dram ∧
      ((∀ p ∈ s.flash.pages, p.passed = false → p.issuedAt = none) → u.flash.pages = s.flash.pages)) ∧
  (∀ (s : State) (m : Fin 2) (ch : FlashCh), s.flash.mirrors[m].ok = false → s.flash.mirrors[1 - m].ok = true →
    s.flash.relocating = true → relocateTo s s.flash.mirrors[m].ch = some ch →
    ∃ t, exec (.mirrorRelocated ch) s = .next t ∧ t.flash.mirrors[m] = ⟨ch, true⟩ ∧ t.flash.mirrors[1 - m] = s.flash.mirrors[1 - m] ∧
      t.flash.relocating = false ∧ t.flash.pages = s.flash.pages ∧ t.dram = s.dram)

/-! ## Engines, tests and module-years -/

/-- R26, R345, R350, R413: a watchdog expiry of the masthead leaves all else alone, and reverts the new image in its probation; an
exception sends an engine into its BIST, counted as transient; an engine that passes goes on.

R23, R350, R353: an engine whose BIST fails is retired, and the lowest-numbered spare takes its role; the role's work resumes
when the swap ends, and what has waited for it is served.
Completes: mastheadWatchdogExpiry, engineException, engineBistComplete, spareSwapComplete.

That a watchdog reset of the masthead takes no time is the model's reading (notes/assumptions/62). -/
def Obligations.EngineFaultsAreTestedAndSpared : Prop :=
  ((∀ (s : State), (s.fw.phase ≠ .probation → exec .mastheadWatchdogExpiry s = .next s) ∧
    (coreUp s = true → s.fw.phase = .probation → s.cf.op ≠ .program → s.cf.op ≠ .erase →
      exec .mastheadWatchdogExpiry s = .next { s with
        fw := { s.fw with phase := .switching, reverting := true, nextEngine := 0, cause := 3 } })) ∧
  (∀ (s : State) (e : EngineId), coreUp s = true → s.engines.eng[e].run ≠ .retired → s.engines.eng[e].run ≠ .resting →
    s.fw.phase ≠ .probation →
    ∃ t, exec (.engineException e) s = .next t ∧ t.engines.eng[e].run = .bist ∧ tested t (.engine e) = true ∧
      t.faults.transients = s.faults.transients ++ [⟨.engine e, s.clock.opTime⟩] ∧
      (∀ k, k ≠ e → t.engines.eng[k] = s.engines.eng[k]) ∧ t.dram = s.dram ∧ t.flash = s.flash ∧ t.host = s.host) ∧
  (∀ (s : State) (e : EngineId), endsTest s (.engine e) → engineIntermittent s e = false → s.engines.eng[e].run = .bist →
    ∃ t, exec (.engineBistComplete e true) s = .next t ∧ t.engines.eng[e].run = .inService ∧ t.engines.eng[e].suspect = false ∧
      t.engines.eng[e].role = s.engines.eng[e].role ∧ tested t (.engine e) = false ∧
      (∀ k, k ≠ e → t.engines.eng[k] = s.engines.eng[k]) ∧ t.dram = s.dram ∧ t.flash = s.flash ∧ t.host = s.host)) ∧
  ((∀ (s : State) (e x : EngineId) (r : Role), endsTest s (.engine e) → s.engines.eng[e].run ≠ .retired →
    s.engines.eng[e].role = some r → r ≠ .spare → spareOf s.engines.eng = some x →
    ∃ t, exec (.engineBistComplete e false) s = .next t ∧ t.engines.eng[e].run = .retired ∧ t.engines.eng[e].role = none ∧
      t.engines.eng[x].role = some r ∧ t.engines.eng[x].run = .swapping ∧ (r, x) ∈ t.engines.swaps ∧
      (∀ k, k ≠ e → k ≠ x → t.engines.eng[k] = s.engines.eng[k]) ∧ t.dram = s.dram ∧ t.host = s.host) ∧
  (∀ (s : State) (x : EngineId) (r : Role), (s.engines.swaps.find? fun w => w.2 == x) = some (r, x) →
    ∃ u, exec (.spareSwapComplete x) s = .next (runHeld ((fins 8).foldl serveMailbox u)) ∧
      u.engines.eng[x].run = .inService ∧ u.engines.eng[x].role = s.engines.eng[x].role ∧
      (∀ w ∈ u.engines.swaps, w.2 ≠ x) ∧ (∀ c, r = .flash c → s.flash.ch[c].run = .engineSwap → u.flash.ch[c].run = .inService) ∧
      u = { s with engines := u.engines, flash := { s.flash with ch := u.flash.ch } } ∧
      (s.qmp.held = [] → (∀ l : Link, s.host.link[l].mbx = none) → exec (.spareSwapComplete x) s = .next u)))

/-! ## Save -/

/-- R182, R183, R190: in RUN or RESTORE a fall of PF_N or of the input starts a save. Admission stops, the plan of the last update is
fixed, the count of charge begins with what was drawn while a trigger was held, and every accepted write stays held; the hold-up
threshold asserts HOLD_EN. Completes: pfNFall, vinSenseDrop, vinSenseHoldUp. -/
def Obligations.InputLossStartsTheSave : Prop :=
  (∀ (s : State), s.power.state = .run ∨ s.power.state = .restore → s.power.starting = false →
    s.power.minimal = false → s.security.lowering = false →
    let begun (trig : Trigger) (t : State) : Prop :=
      t.power.state = .save ∧ t.save.phase = 1 ∧ t.save.trigger = some trig ∧ t.save.onStores = true ∧
        t.save.plan = s.persist.plan ∧ t.save.prior = s.power.state ∧ t.save.charge = s.save.heldCharge ∧ t.host.stopped = true ∧
        t.host.buf = s.host.buf ∧ t.host.slots = s.host.slots ∧ t.persist = s.persist ∧ t.dram.mem = s.dram.mem ∧ t.rails = s.rails ∧
        t.flash.erases = [] ∧ t.flash.sealJob = none ∧ t.flash.manifest = s.flash.manifest
    (∃ t, exec .pfNFall s = .next t ∧ begun .pfN t) ∧ ∃ t, exec .vinSenseDrop s = .next t ∧ begun .vinSense t) ∧
  (∀ (s : State), s.power.state = .run ∨ s.power.state = .restore →
    ∃ t, exec .vinSenseHoldUp s = .next t ∧ t.charger.holdEn = true ∧ t.charger.run = .forcedLow ∧ t.bank.cbTest = false ∧
      t = { s with power := { s.power with inputOk := false }, charger := t.charger, bank := t.bank })

/-- R191, R192: once the write buffers hold only lines that wait on fetches, the links are held idle and their rails switched off; a save
that runs on the stores selects the store of its plan, unless it has gone over to one already, and flushes when the store regulates; a
save on the input flushes at once. A store that fails hands over to the other one while it is qualified, under marks rebased on it.

R188, R193, R197: the charge drawn is counted against the plan, and by the pack's own estimator where the pack carries it; the flush ends
empty, at its mark, at the guard voltage or without a free page group. What is left then is LOST in the manifest and counted, and the
manifest of the save is written.
Completes: saveIsolate, saveRegulationConfirmed, saveStoreFailure, chargeMarkCheck, saveVoltageGuard, saveFlushEnd.

The order of the phases in unusual cases is the model's reading (notes/assumptions/26, notes/assumptions/27). -/
def Obligations.SaveFlushesFromItsStore : Prop :=
  ((∀ (s : State), s.power.state = .save → s.save.phase = 1 → s.host.buf.all (fun b => b.waitFetch) = true →
    ∃ t, exec .saveIsolate s = .next t ∧ t.host.slots = [] ∧ t.host.buf = s.host.buf ∧
      (∀ l : Link, t.host.link[l].heldIdle = true ∧ t.host.link[l].trained = false) ∧
      (∀ r : Rail, r.val = 3 ∨ r.val = 4 → t.rails.rail[r].run = .switchedOff ∧ t.rails.rail[r].en = false) ∧
      (s.save.onStores = false → t.save.phase = 4 ∧ t.charger = s.charger) ∧
      (s.save.onStores = true → s.save.store = .input → t.save.store = planStore s.save.plan ∧ t.charger.holdEn = true ∧
        t.save.phase = if planStore s.save.plan = .none then 4 else 3) ∧
      (s.save.onStores = true → s.save.store ≠ .input → t.save.store = s.save.store ∧
        t.save.phase = if s.save.store = .none ∨ s.save.regulated = true then 4 else 3) ∧
      t.dram = s.dram ∧ t.flash = s.flash ∧ t.persist = s.persist) ∧
  (∀ (s : State), s.power.state = .save → s.save.onStores = true → s.save.regulated = false → s.save.store ≠ .input →
    (s.save.phase = 3 → exec .saveRegulationConfirmed s = .next { s with
      save := { s.save with regulated := true, phase := 4, t3 := s.clock.now - s.save.phaseAt, phaseAt := s.clock.now } }) ∧
    (s.save.phase < 3 ∨ 3 < s.save.phase ∧ s.save.phase ≤ 7 →
      exec .saveRegulationConfirmed s = .next { s with save := { s.save with regulated := true } })) ∧
  (∀ (s : State), s.power.state = .save → s.save.onStores = true → 3 ≤ s.save.phase → s.save.phase ≤ 7 →
    let used := { s with save := { s.save with
      packOk := s.save.packOk && s.save.store != .pack, bankOk := s.save.bankOk && s.save.store != .bank } }
    (s.save.store = .pack → s.save.bankOk = true → exec .saveStoreFailure s = .next { used with
      save := { used.save with store := .bank, switched := true, regulated := false, plan := rebase used .bank } }) ∧
    (s.save.store = .bank → s.save.packOk = true → exec .saveStoreFailure s = .next { used with
      save := { used.save with store := .pack, switched := true, regulated := false, plan := rebase used .pack } }) ∧
    (s.save.store = .pack → s.save.bankOk = false → exec .saveStoreFailure s = .next used) ∧
    (s.save.store = .bank → s.save.packOk = false → exec .saveStoreFailure s = .next used))) ∧
  (∀ (s : State), s.power.state = .save → s.save.phase = 4 → s.save.onStores = true →
    (∀ g ∈ s.save.lostList, (entryOf s g).state = .lost) →
    (∀ drawn, s.save.store = .pack ∨ s.save.store = .bank →
      let counted := { s with save := { s.save with charge := satAdd 32 s.save.charge drawn } }
      let fed := if packCarries s then countDrawn counted (1000 * drawn) else counted
      (((satAdd 32 s.save.charge drawn : Nat) : Rat) < s.save.plan.mMan → exec (.chargeMarkCheck drawn) s = .next fed) ∧
      (s.save.plan.mMan ≤ ((satAdd 32 s.save.charge drawn : Nat) : Rat) →
        ∃ u, exec (.chargeMarkCheck drawn) s = .next (checkOverrun (beginSeal u .save)) ∧
          u.save.charge = satAdd 32 s.save.charge drawn ∧ u.pack = fed.pack ∧ endedFlush s u .mark)) ∧
    (∃ u, exec .saveVoltageGuard s = .next (beginSeal u .save) ∧ endedFlush s u .voltage) ∧
    (flushedAll s = true → exec .saveFlushEnd s = .next (beginSeal { s with
      save := { s.save with phase := 5, endCause := .empty, lost := s.save.lostList.length, lostFlag := !s.save.lostList.isEmpty,
                            t4 := s.clock.now - s.save.phaseAt, phaseAt := s.clock.now } } .save)) ∧
    (∀ c, s.startup.settings = some c → flushedAll s = false → noPageLeft s c = true →
      ∃ t, exec .saveFlushEnd s = .next t ∧ endedFlush s t .noPage))

/-- R177, R194, R196: the chunks and the root of the save's manifest written, its seal record is asked for; with the seal passed, or with
no page group to write, phase 7 begins. With the staging SRAM empty phase 7 ends with every rank of a channel in service in self-refresh:
the input held, HOLD_EN is released and the module returns; otherwise its rails go down.

R110, R196, R207, R228: a Retained return whose training holds brings RUN back with memory as the save left it, after the checkpoint
that the SAVE generation asks for; one whose training fails shuts the rails down.
Completes: saveManifestComplete, sealComplete, saveRetireComplete, retainedReturnComplete.

The unusual ends of a save are the model's reading (notes/assumptions/26, notes/assumptions/30). -/
def Obligations.SaveSealsThenRetiresOrReturns : Prop :=
  ((∀ (s : State) (c : Settings), s.startup.settings = some c → s.power.state = .save → s.save.phase = 5 →
    (∀ j, 2 ≤ flashChannels s → s.save.endCause ≠ .noPage → s.flash.sealJob = some j → j.stage = .root → metaWaits s .root = false →
      ∃ t, exec .saveManifestComplete s = .next t ∧ t.save.phase = 6 ∧ t.flash.sealJob = some { j with stage := .record } ∧
        t.flash.openRows = [] ∧ t.flash.gens = s.flash.gens ∧ t.dram = s.dram ∧ t.host = s.host) ∧
    (s.save.endCause = .noPage → ∃ t, exec .saveManifestComplete s = .next t ∧ t.save.phase = 7 ∧ t.save.sealOk = false ∧
      t.save.sealed = none ∧ t.flash.sealJob = none ∧ t.flash.gens = s.flash.gens ∧ t.dram = s.dram ∧ t.host = s.host)) ∧
  (∀ (s : State) (m : Fin 2) (j : SealJob) (d : Generation), s.flash.brownOut = false → s.flash.mirrors[m].ok = true →
    s.save.phase = 6 → s.save.sealWait = false → s.flash.sealJob = some j → j.draft = some d → sealReady s j = true →
    j.kind = .save → j.failed0 = false → j.failed1 = false → j.restripe = [] →
    ∃ t, exec (.sealComplete m true) s = .next t ∧ t.save.phase = 7 ∧ t.save.sealOk = true ∧
      t.save.sealed = some (s.flash.gen + 1) ∧ t.flash.gens.getLast?.map (·.kind) = some .save ∧ t.dram = s.dram) ∧
  (∀ (s : State) (inputHeld : Bool), s.power.state = .save → s.save.phase = 7 → s.rails.downThen = none → s.shroud.staging = [] →
    ∃ t, exec (.saveRetireComplete inputHeld) s = .next t ∧
      (∀ ch : DramCh, s.dram.ch[ch].run = .inService → t.dram.ch[ch].run = .selfRefresh) ∧ t.dram.mem = s.dram.mem ∧
      if s.save.returning && inputHeld && inputGood s && s.rails.deferred.isNone then
        t.save.phase = 8 ∧ t.charger.holdEn = false ∧ t.charger.run = .held ∧ t.rails = s.rails
      else t.save.phase = 7 ∧ t.rails.downTodo = enabledRails s ∧ t.rails.downThen.isSome = true ∧ t.button.cause = 5)) ∧
  (∀ (s : State) (c : Settings), s.startup.settings = some c → s.power.state = .save → s.save.phase = 8 → s.save.returning = true →
    s.save.sealWait = false →
    (s.save.heldTrigs = [] →
      (needsCheckpoint s = true →
        ∃ u, exec (.retainedReturnComplete true) s = .next (beginCheckpoint u) ∧ u.power.state = .save ∧ u.save.sealWait = true ∧
          u.dram.mem = s.dram.mem ∧ u.host.buf = s.host.buf) ∧
      (needsCheckpoint s = false → s.save.prior = .run → s.save.fromStart = false → s.qmp.held = [] → s.button.mrLatched = false →
        ∃ t, exec (.retainedReturnComplete true) s = .next t ∧ t.power.state = .run ∧ t.host.stopped = false ∧
          t.save.retained = true ∧ t.save.returning = false ∧ t.dram.mem = s.dram.mem ∧ t.host.buf = s.host.buf ∧
          (∀ ch : DramCh, s.dram.ch[ch].run = .selfRefresh → s.dram.ch[ch].sleptFrom = .inService →
            t.dram.ch[ch].run = .inService))) ∧
    ∃ t, exec (.retainedReturnComplete false) s = .next t ∧ t.rails.downTodo = enabledRails s ∧ t.save.returning = false ∧
      t.dram = s.dram ∧ t.flash = s.flash ∧ t.host = s.host)

/-! ## Restore -/

/-- R204 to R210, R213: step 6 takes the generation of the highest GEN among the candidates, holds where that is a rollback, and step
8 begins the restore with nothing present and memory as it was, under the manifest and the HEAT of the generation. Service follows at
once, but after a SAVE or FORMAT generation only when its first checkpoint has been sealed (R207). Completes: generationSelect,
manifestLoadComplete. -/
def Obligations.NewestGenerationIsRestored : Prop :=
  (∀ (s : State) (c : Settings) (g : Generation), s.startup.settings = some c → s.power.state = .restore →
    s.power.starting = true → s.startup.retained = false → s.startup.step = 5 →
    highestOf (s.flash.gens.filter (candidate s c)) = some g → g.gran128 = c.region128 →
    ∃ t, exec .generationSelect s = .next t ∧ t.startup.step = 6 ∧ t.restore.phase = 2 ∧ t.restore.genUsed = g.gen ∧
      t.restore.hold = decide (rollbackCause s g ≠ 0) ∧ t.restore.cause = rollbackCause s g ∧
      t.restore.source = (if rollbackCause s g = 0 then 0 else 1) ∧ t.flash.gens.getLast? = some g ∧ t.flash.gen = highestSeen s ∧
      t.dram = s.dram ∧ t.rails = s.rails) ∧
  (∀ (s : State) (g : Generation), s.power.state = .restore →
    s.power.starting = true → s.startup.step = 6 → s.qmp.held = [] → s.button.deferred = none → s.restore.source ≠ 2 →
    (s.flash.gens.find? fun x => x.gen == s.restore.genUsed) = some g → 0 < hvRegions s → lostRegions s (loadedManifest s g []) = [] →
    ∃ u, exec (.manifestLoadComplete []) s =
        .next (endRestore (step9 (if needsCheckpoint s && !s.flash.formatting then beginCheckpoint u else u))) ∧
      u.power.starting = false ∧ u.power.dramUp = true ∧ u.startup.step = 8 ∧ u.restore.running = true ∧ u.restore.presence = [] ∧
      u.restore.step8At = s.clock.now ∧ u.flash.manifest = loadedManifest s g [] ∧ u.persist.heat = g.heat ∧ u.dram = s.dram ∧
      (needsCheckpoint s = false →
        ∃ t, exec (.manifestLoadComplete []) s = .next t ∧ t.power.starting = false ∧ t.power.dramUp = true ∧
          t.startup.step = (if s.restore.hold then 8 else 9) ∧ t.restore.running = true ∧ t.restore.presence = [] ∧
          t.restore.step8At = s.clock.now ∧ t.dram.mem = s.dram.mem))

/-- R215, R216, R218: background restore takes the next granule in order, where nothing that comes before it on its channel or in DRAM
waits (R17, R18); its copy makes it present, and a granule that a demand fetch brought in meanwhile keeps what it holds; 90 s without an
end are reported once. Completes: backgroundRestoreGranule, restoreGranuleComplete, restoreSlow.

That a granule present meanwhile keeps what it holds is the model's reading (notes/assumptions/84). -/
def Obligations.BackgroundRestoreFollowsItsOrder : Prop :=
  (∀ (s : State) (g : Nat), restoreRuns s = true → nextGranule s = some g →
    (restoreYields s g = false →
      exec .backgroundRestoreGranule s = .next { s with restore := { s.restore with inHand := s.restore.inHand ++ [g] } }) ∧
    (restoreYields s g = true → exec .backgroundRestoreGranule s = .next s)) ∧
  (∀ (s : State) (g : Nat) (outcome : DecodeOutcome), restoreRuns s = true → g ∈ s.restore.inHand →
    let taken := { s with restore := { s.restore with inHand := s.restore.inHand.filter fun x => x != g } }
    (granulePresent s g = true → exec (.restoreGranuleComplete g outcome) s = .next taken) ∧
    (granulePresent s g = false →
      exec (.restoreGranuleComplete g outcome) s = .next (bringIn (noteCopyRead taken g false outcome) g (readOk outcome))) ∧
    (granulePresent s g = false → quietFetch s →
      ∃ t, exec (.restoreGranuleComplete g outcome) s = .next t ∧ granulePresent t g = true ∧
        (s.sound → outsideGranuleStands s t g))) ∧
  (∀ (s : State), restoreRuns s = true → s.restore.slow = false → s.restore.step8At + 90000 ≤ s.clock.now → 0 < regionsLeft s →
    ∃ t, exec .restoreSlow s = .next t ∧ t.restore.slow = true ∧
      t = { withNotes s t with restore := { s.restore with slow := true } })

/-- R108, R109, R229: the channels that train at a start-up come into service, and the last channel that trains ends step 5; on a
retained path the checks either take the state before the reset up again or give the contents up. Completes: dramTrainingComplete,
retainedPathCheck. -/
def Obligations.DramComesIntoService : Prop :=
  (∀ (s : State) (c : Settings), s.startup.settings = some c → s.power.state = .restore → s.power.starting = true →
    s.startup.step = 4 → s.startup.retained = false → trainingChannels s ≠ [] →
    (∀ failing, exec (.dramTrainingComplete failing) s = .next (endStep5 (endTraining s failing))) ∧
    (s.dram.rateSteps = 0 → (s.flash.ch.toList.any fun f => f.run == .training) = true →
      ∃ t, exec (.dramTrainingComplete []) s = .next t ∧
        (∀ ch : DramCh, s.dram.ch[ch].run = .training → t.dram.ch[ch].run = .inService ∧ t.dram.ch[ch].resetN = true) ∧
        (∀ ch : DramCh, s.dram.ch[ch].run ≠ .training → t.dram.ch[ch] = s.dram.ch[ch]) ∧
        t.shroud.mode = (if shroudOn s then .full else .off) ∧
        t = { s with dram := { s.dram with ch := t.dram.ch }, shroud := { s.shroud with mode := t.shroud.mode } })) ∧
  (∀ (s : State), s.power.state = .restore → s.power.starting = true → s.startup.retained = true → s.startup.step = 5 →
    s.qmp.held = [] → s.button.deferred = none →
    (shroudMatches s = true → s.restore.hold = false →
      ∃ t, exec (.retainedPathCheck true true) s = .next t ∧ t.power.starting = false ∧ t.startup.step = 9 ∧
        t.restore.source = 3 ∧ t.power.state = (if s.restore.running then .restore else .run) ∧ t.dram.mem = s.dram.mem) ∧
    ∃ t, exec (.retainedPathCheck true false) s = .next t ∧ t.startup.retained = false ∧ t.power.dramUp = false ∧
      t.dram.mem = [] ∧ t.dram.ch = s.dram.ch ∧ t.flash.gens = s.flash.gens)

/-! ## Energy -/

/-- R232 to R236, R260: a reading of the pack reaches the estimator; charge drawn is counted over the sampling interval; the
temperature comes from the first plausible sensor, else is taken as -10 °C; an impedance above its limit, or a shunt off by more than
5 mA, fails the pack. Memory and flash are not touched.

R235, R236, R257, R454: a pack that is inserted waits for its identity and a reading; one that meets every condition is in service;
one that is removed in service has failed; two equal reads of another serial take it as a changed pack with the default counts.

Completes: packSample, packTempSample, impedanceMeasure, zeroCurrentCheck, estimatorHibernate, estimatorWake, packInserted, packRemoved,
packQualified, packIdRead, idRead.

Charge is not taken into the counts while the live block holds defaults: the model's reading (notes/assumptions/57). -/
def Obligations.PackIsReadAndFollowed : Prop :=
  (∀ (s : State), s.power.aon = true →
    (∀ (milliamps : Int) (millivolts : Nat), 0 < milliamps → s.charger.taperSince = none →
      ∃ t, exec (.packSample milliamps millivolts) s = .next t ∧ t.pack.current = milliamps ∧ t.pack.voltage = millivolts ∧
        t.pack.qDis = s.pack.qDis + (if packCarries s then 0 else milliamps.natAbs * (if s.pack.hibernate then 1000 else 10)) ∧
        t.pack.qChg = s.pack.qChg ∧
        t.dram = s.dram ∧ t.flash = s.flash ∧ t.host = s.host ∧ t.rails = s.rails) ∧
    (∀ (ntc remote : Option Int),
      ∃ t, exec (.packTempSample ntc remote) s = .next t ∧
        t.pack.temp = (ntc.orElse fun _ => remote).getD (-100) ∧
        t.pack.tempSrc = (if ntc.isSome then .ntc else if remote.isSome then .remote else .none) ∧
        t.dram = s.dram ∧ t.flash = s.flash ∧ t.host = s.host) ∧
    (∀ (c : Settings) (tenth : Nat), s.startup.settings = some c → s.pack.present = true →
      ∃ t, exec (.impedanceMeasure tenth) s = .next t ∧ t.pack.impedance = tenth ∧ t.pack.impedanceAt = some s.clock.opTime ∧
        (c.pack.rLimit < tenth → s.pack.failure = none → t.pack.cond = .impedance ∧ t.pack.inService = false) ∧ t.dram = s.dram) ∧
    (∀ (offset : Int), saveStart s = false →
      ∃ t, exec (.zeroCurrentCheck offset) s = .next t ∧ t.pack.shuntBad = decide (5 < offset.natAbs) ∧
        t.pack.zeroCheckAt = s.clock.now ∧ t.dram = s.dram) ∧
    (s.pack.quietSince + 60000 ≤ s.clock.now → s.pack.accessAt + 60000 ≤ s.clock.now → s.pack.restActive = false →
      s.bank.testing = false → saving s = false →
      exec .estimatorHibernate s = .next { s with pack := { s.pack with hibernate := true } }) ∧
    exec .estimatorWake s = .next { s with
      pack := { s.pack with hibernate := false, quietSince := s.clock.now, calmSince := s.clock.now, lastRestRef := none } }) ∧
  (∀ (s : State), s.power.aon = true →
    (s.pack.present = false →
      ∃ t, exec .packInserted s = .next t ∧ t.pack.present = true ∧ t.pack.presentSince = some s.clock.now ∧
        t.pack.idTried = false ∧ t.pack.readingDue = true ∧ t.dram = s.dram) ∧
    (s.pack.present = true → s.pack.inService = true → s.pack.failure = none →
      ∃ t, exec .packRemoved s = .next t ∧ t.pack.present = false ∧ t.pack.cond = .absent ∧ t.pack.failure = some .absent ∧
        t.pack.inService = false ∧ t.dram = s.dram) ∧
    (qualifies s = true → s.pack.cond ≠ .qualified →
      ∃ t, exec .packQualified s = .next t ∧ t.pack.cond = .qualified ∧ t.pack.failure = none ∧ t.pack.inService = true ∧
        t.dram = s.dram) ∧
    (∀ serial : List Byte, s.lb.state = .inService → s.pack.present = true → serial.length = 16 →
      let identified (t : State) : Prop :=
        t.pack.serial = serial ∧ t.pack.idUnknown = false ∧ t.pack.idTried = true ∧ t.lb.idFailures = 0 ∧
          (serial ≠ s.pack.serial → noSerial s = false →
            t.pack.changed = true ∧ t.pack.esbDefault = true ∧ t.pack.nefc = defaultCycles s ∧ t.pack.qres = 0) ∧ t.dram = s.dram
      (∃ t, exec (.packIdRead (some serial) (some serial)) s = .next t ∧ identified t) ∧
      ∃ t, exec (.idRead (some serial) (some serial)) s = .next t ∧ identified t))

/-- R237 to R240: a sample of the bank's voltage is kept; a capacitance test holds CB_EN low and measures I × 200 ms ÷ the fall; a bank
that leaks has failed.

R242, R243, R453: the charger's status bits are taken over; a charger that is silent charges no longer until its set points are
written again; charging held for an hour is reported once a day.
Completes: bankSample, capTest, capTestComplete, chargerStatusPoll, chargeHeld. -/
def Obligations.BankIsTestedAndChargerPolled : Prop :=
  (∀ (s : State), s.power.aon = true →
    (∀ millivolts, ∃ t, exec (.bankSample millivolts) s = .next t ∧ t.bank.voltage = millivolts ∧ t.dram = s.dram ∧ t.flash = s.flash ∧
      t.host = s.host) ∧
    (saveStart s = false → s.bank.testing = false → s.bank.run ≠ .absent → s.startup.settings.isSome = true → s.pack.shipStep = 0 →
      ∃ t, exec .capTest s = .next t ∧ t.bank.testing = true ∧ t.bank.testFrom = s.clock.now ∧ t.bank.cbEn = false ∧
        t = { s with bank := t.bank }) ∧
    (∀ (c : Settings) (b : BankSet) (leak drop : Nat), s.startup.settings = some c → c.bank = some b → s.bank.testing = true →
      s.bank.testFrom + 60200 ≤ s.clock.now → 0 < drop →
      ∃ t, exec (.capTestComplete leak drop) s = .next t ∧ t.bank.cMeas = b.testI * 200 / drop ∧
        t.bank.testAt = some s.clock.opTime ∧ t.bank.testing = false ∧ (500 < leak → s.bank.run ≠ .failed → t.bank.run = .failed) ∧
        t.dram = s.dram ∧ t.flash = s.flash)) ∧
  (∀ (s : State), s.power.aon = true →
    (s.lb.state = .inService → s.startup.settings.isSome = true →
      (∀ w : BitVec 16, ∃ t, exec (.chargerStatusPoll (some w)) s = .next t ∧
        t.charger.fault = (w.getLsbD 1 || w.getLsbD 2 || w.getLsbD 3) ∧ t.lb.chargerSet = true ∧ t.dram = s.dram ∧ t.flash = s.flash) ∧
      ∃ t, exec (.chargerStatusPoll none) s = .next t ∧ t.lb.chargerSet = false ∧ t.lb.nack = satAdd 8 s.lb.nack 1 ∧
        t.charger.run ≠ .charging ∧ t.dram = s.dram ∧ t.flash = s.flash) ∧
    (∀ since, s.charger.heldSince = some since → since + 3600000 ≤ s.clock.now → s.charger.heldSent = none →
      ∃ t, exec .chargeHeld s = .next t ∧ t = { withNotes s t with charger := { s.charger with heldSent := some s.clock.now } }))

/-- R244 to R250, R254: a voltage reference sets the state of charge and clears the counts of charge since; REST_DUE is set after 72
h, asked for again daily, and a rest window without its reference ends after 1,800 s; a changed block is reported, and a ship mode
whose rail does not fall is given up. Completes: restReference, startupReading, restDue, restRequest, restWindowTimeout, esbChanged,
shipFailed. -/
def Obligations.ReferencesSetTheStateOfCharge : Prop :=
  ∀ (s : State), s.power.aon = true →
    (∀ (c : Settings) (mv : Nat), s.startup.settings = some c → restReady s = true →
      ∃ t, exec (.restReference mv) s = .next t ∧ t.pack.socSrc = .rest ∧ t.pack.qChg = 0 ∧ t.pack.qDis = 0 ∧
        t.pack.uBase = c.pack.uRest ∧ t.pack.refAt = s.clock.opTime ∧ t.pack.restDue = false ∧ t.pack.restOcv = mv ∧
        t.pack.restActive = false ∧ t.pack.changeSeq = s.pack.changeSeq + 1 ∧ t.dram = s.dram) ∧
    (∀ (c : Settings) (mv : Nat), s.startup.settings = some c → s.pack.present = true → s.pack.readingDue = true →
      s.charger.run ≠ .charging → readingQuiet s = true ∨ s.pack.readingFrom + 5000 ≤ s.clock.now →
      ∃ t, exec (.startupReading mv) s = .next t ∧ t.pack.socSrc = .reading ∧ t.pack.qChg = 0 ∧ t.pack.qDis = 0 ∧
        t.pack.uBase = (if readingQuiet s then c.pack.uStart else 250) ∧ t.pack.readingDue = false ∧ t.dram = s.dram) ∧
    (s.startup.settings.isSome = true → s.pack.restDue = false → 72 ≤ hoursSince s →
      ∃ t, exec .restDue s = .next t ∧ t = { withNotes s t with
        pack := { s.pack with restDue := true, restReqAt := s.clock.now, changeSeq := s.pack.changeSeq + 1, esbDirty := true } }) ∧
    (s.pack.restDue = true → s.pack.restReqAt + 86400000 ≤ s.clock.now →
      ∃ t, exec .restRequest s = .next t ∧ t = { withNotes s t with pack := { s.pack with restReqAt := s.clock.now } }) ∧
    (s.pack.restFrom + 1800000 ≤ s.clock.now →
      ∃ t, exec .restWindowTimeout s = .next t ∧ t.pack.restActive = false ∧ t.dram = s.dram ∧ t.flash = s.flash) ∧
    (s.power.sram = true → s.pack.esbDirty = true → s.pack.esbSentAt = none →
      ∃ t, exec .esbChanged s = .next t ∧ t = { withNotes s t with
        pack := { s.pack with esbDirty := false, esbSentAt := some s.clock.now } }) ∧
    (s.pack.shipStep = 3 → s.pack.shipAt + 1000 ≤ s.clock.now → 1000 ≤ s.pack.voltage →
      ∃ t, exec .shipFailed s = .next t ∧ t.pack.ship = false ∧ t.pack.shipStep = 0 ∧ t.dram = s.dram ∧ t.flash = s.flash)

/-! ## Temperature -/

/-- R266, R267, R269, R277, R451, R452: a sample in range joins the last eight of its site and touches no other; the local bus cycle
reads a sensor's word by its FORMAT code and keeps its window and the slots it skipped; an ignored site that has been plausible for 10
s returns; one that fails its re-read test is retired; the AON comparator's reading of site 0 is kept in AON.

R20, R271, R272, R276, R279: a band whose edge has been crossed for 100 ms is entered or left, and no sooner; the die trip band starts
a save; every level moves one step toward its target, at most once per 100 ms; and the AON comparator shuts every rail down.
Completes: dieSiteSample, localBusCycle, sensorReadmit, sensorRereadComplete, aonSite0Sample, thermalBandDwell, reefLevelStep,
aonBackstopTrip. -/
def Obligations.TemperaturesSetBandsAndLevels : Prop :=
  ((∀ (s : State) (t : Int), coreUp s = true → s.thermal.site[(0 : Site)].run = .plausible → inSiteRange 0 t = true →
    (∀ h ∈ s.thermal.site[(0 : Site)].hist, s.clock.now < 10000 + h.1) →
    ∃ u, exec (.dieSiteSample [some t]) s = .next u ∧
      u.thermal.site[(0 : Site)].samples = (t :: s.thermal.site[(0 : Site)].samples).take 8 ∧ u.thermal.site[(0 : Site)].badRange = 0 ∧
      (∀ i : Site, i ≠ 0 → u.thermal.site[i] = s.thermal.site[i]) ∧ u.dram.mem = s.dram.mem ∧ u.rails = s.rails) ∧
  (∀ (s : State) (window skipped : Nat), coreUp s = true → s.lb.state = .inService →
    ∃ u, exec (.localBusCycle [] [] false window skipped) s = .next u ∧
      u.lb = { s.lb with window := min 255 (window / 4), skipped := satAdd 8 s.lb.skipped skipped } ∧
      u.thermal.site = s.thermal.site ∧ u.dram.mem = s.dram.mem) ∧
  (∀ (s : State) (c : Settings) (i : Site) (e : SensorSet) (w : BitVec 16) (window skipped : Nat), coreUp s = true →
    s.lb.state = .inService → s.startup.settings = some c → c.sensors.find? (fun k => k.site == i) = some e → 8 ≤ i.val →
    s.thermal.site[i].run = .plausible → inSiteRange i (sensorReading e.format w) = true →
    (∀ h ∈ s.thermal.site[i].hist, s.clock.now < 10000 + h.1) →
    ∃ u, exec (.localBusCycle [(i, some w)] [] false window skipped) s = .next u ∧
      u.thermal.site[i].samples = (sensorReading e.format w :: s.thermal.site[i].samples).take 8 ∧ u.thermal.site[i].badRange = 0 ∧
      (∀ k : Site, k ≠ i → u.thermal.site[k] = s.thermal.site[k]) ∧ u.dram.mem = s.dram.mem) ∧
  (∀ (s : State) (i : Site) (since : Nat), s.thermal.site[i].run = .ignored → s.thermal.site[i].goodSince = some since →
    since + 10000 ≤ s.clock.now →
    ∃ u, exec (.sensorReadmit i) s = .next u ∧ u.thermal.site[i].run = .plausible ∧
      (∀ k : Site, k ≠ i → u.thermal.site[k] = s.thermal.site[k]) ∧ u.dram.mem = s.dram.mem ∧ u.host = s.host) ∧
  (∀ (s : State) (i : Site), endsTest s (.site i) →
    (∃ u, exec (.sensorRereadComplete i true) s = .next u ∧ tested u (.site i) = false ∧ u.thermal = s.thermal ∧
      u.faults.transients = s.faults.transients ++ [⟨.site i, s.clock.opTime⟩]) ∧
    ∃ u, exec (.sensorRereadComplete i false) s = .next u ∧ tested u (.site i) = false ∧ u.thermal.site[i].run = .retired) ∧
  (∀ (s : State) (t : Int), s.power.aon = true → s.power.state = .run →
    exec (.aonSite0Sample t) s = .next { s with
      thermal := { s.thermal with
        aonSite0 := t, aonCoolSince := if t < 109 * 128 then some (s.thermal.aonCoolSince.getD s.clock.now) else none } })) ∧
  ((∀ (s : State) (edge : BandEdge) (entering : Bool), coreUp s = true →
    exec (.thermalBandDwell edge entering) s = .next (if dwelt s edge entering then bandChange s edge entering else s)) ∧
  (∀ (s : State) (entering : Bool), coreUp s = true →
    (dwelt s .dieReef entering = true → crossed (dieMax s) 100 entering s.thermal.dieReef = true →
      exec (.thermalBandDwell .dieReef entering) s = .next { s with thermal := { s.thermal with dieReef := entering } }) ∧
    (∀ ch, dwelt s (.nand2 ch) entering = true → crossed (nandMax s ch) 70 entering s.thermal.nand[ch].band2 = true →
      ∃ t, exec (.thermalBandDwell (.nand2 ch) entering) s = .next t ∧ t.thermal.nand[ch].band2 = entering ∧
        t.flash.ch[ch].band = (if entering then 2 else if s.thermal.nand[ch].band1 then 1 else 0) ∧
        (∀ k, k ≠ ch → t.flash.ch[k] = s.flash.ch[k] ∧ t.thermal.nand[k] = s.thermal.nand[k]) ∧ t.dram = s.dram)) ∧
  (∀ (s : State), s.power.state = .run → s.power.starting = false → s.power.minimal = false → s.security.lowering = false →
    dwelt s .dieTrip true = true → crossed (dieMax s) 112 true s.thermal.dieTrip = true →
    ∃ t, exec (.thermalBandDwell .dieTrip true) s = .next t ∧ t.power.state = .save ∧ t.save.trigger = some .dieTrip ∧
      t.save.after = .powerOffTrip ∧ t.thermal.tripKind = 1 ∧ t.thermal.dieTrip = true ∧ t.dram.mem = s.dram.mem) ∧
  (∀ (s : State), coreUp s = true → s.thermal.stepAt + 100 ≤ s.clock.now →
    ∃ t, exec .reefLevelStep s = .next t ∧
      t.thermal.reef = { s.thermal.reef with
        die := stepToward s.thermal.reef.die (dieTarget s), dram := stepToward s.thermal.reef.dram (dramTarget s),
        nand := stepToward s.thermal.reef.nand (nandTarget s) } ∧
      t = { withNotes s t with
        thermal := { s.thermal with reef := t.thermal.reef, reefSent := t.thermal.reefSent, stepAt := s.clock.now } }) ∧
  (∀ (s : State), s.rails.rail[(1 : Rail)].en = true →
    ∃ t, exec .aonBackstopTrip s = .next t ∧ t.thermal.latched = true ∧ t.thermal.tripKind = 3 ∧
      t.rails.downTodo = enabledRails s ∧ t.rails.downThen = some .trip ∧ t.dram = s.dram ∧ t.flash = s.flash))

/-! ## Rails and VDD_AON -/

/-- R286 to R288: rails come up one after the other, the next enabled when the one before it qualifies; a RETRY rail that misses its
timeout is tried again, and one that has used its retries takes every rail down and is latched.

R286, R291 to R293, R295: a dip of PG is counted and logged; a fault of a rail of class IGNORE is counted and held for its notice;
in a save the reaction of a fault is deferred; a group that was taken down is sequenced again.
Completes: railQualified, railTimeout, railRetryReenable, railDownStep, pgFall, railFault, ignoreFaultNotice, railRecoveryTimeout,
groupResequence.

The windows of rail retries are the model's choice (notes/assumptions/78). -/
def Obligations.RailsComeUpAndFaultsAreReacted : Prop :=
  (∀ (s : State) (rail : Rail),
    (∀ (next : Rail) (rest : List Rail) (half : Nat), s.rails.rail[rail].run = .qualifying → s.rails.seqTodo = rail :: next :: rest →
      next ≠ rail →
      ∃ t, exec (.railQualified rail half) s = .next t ∧ t.rails.rail[rail].run = .qualified ∧ t.rails.rail[rail].pg = true ∧
        t.rails.rail[rail].qualHalf = min 255 half ∧ t.rails.rail[next].run = .qualifying ∧ t.rails.rail[next].en = true ∧
        t.rails.seqTodo = next :: rest ∧ t = { withNotes s t with rails := t.rails }) ∧
    (s.rails.rail[rail].run = .qualifying → s.rails.seqTodo.head? = some rail →
      s.rails.rail[rail].enAt + s.rails.rail[rail].set_.timeoutMs ≤ s.clock.now →
      (s.rails.rail[rail].set_.cls = .retry → s.rails.rail[rail].retries < 3 →
        exec (.railTimeout rail) s = .next (withRail s rail { s.rails.rail[rail] with
          run := .off, en := false, enAt := s.clock.now, pg := false, retries := s.rails.rail[rail].retries + 1 })) ∧
      (s.rails.rail[rail].set_.cls ≠ .retry → s.rails.seqFor = .boot →
        ∃ t, exec (.railTimeout rail) s = .next t ∧ t.rails.rail[rail].run = .failed ∧ t.rails.downThen = some (.latch rail) ∧
          t.rails.downTodo = enabledRails s ∧ t = { s with rails := t.rails })) ∧
    (s.rails.rail[rail].run = .off → s.rails.rail[rail].en = false → 0 < s.rails.rail[rail].retries →
      s.rails.seqTodo.head? = some rail → s.rails.rail[rail].enAt + 50 ≤ s.clock.now →
      exec (.railRetryReenable rail) s = .next (withRail s rail { s.rails.rail[rail] with
        run := .qualifying, en := true, enAt := s.clock.now, pg := false, faultAt := none })) ∧
    (∀ (next : Rail) (rest : List Rail), s.rails.downTodo = rail :: next :: rest → s.rails.downThen.isSome = true →
      ∃ t, exec .railDownStep s = .next t ∧ t.rails.rail[rail].run = .switchedOff ∧ t.rails.rail[rail].en = false ∧
        t.rails.downTodo = next :: rest ∧ (∀ k : Rail, k ≠ rail → t.rails.rail[k] = s.rails.rail[k]))) ∧
  (∀ (s : State) (rail : Rail), rail.val ≠ 0 →
    (s.rails.rail[rail].run = .qualified →
      ∃ t, exec (.pgFall rail) s = .next t ∧
        t = { s with
          recorder := t.recorder,
          rails := (withRail s rail { s.rails.rail[rail] with drops := satAdd 8 s.rails.rail[rail].drops 1 }).rails }) ∧
    (s.rails.rail[rail].run = .qualified → s.rails.rail[rail].set_.cls = .ignore ∨ s.rails.rail[rail].set_.cls = .reset ∧ saving s = true →
      ∃ t, exec (.railFault rail) s = .next t ∧ t.rails.rail[rail].run = .fault ∧ t.rails.rail[rail].pg = false ∧
        t.rails.rail[rail].faults = satAdd 8 s.rails.rail[rail].faults 1 ∧ t.rails.rail[rail].faultAt = some s.clock.now ∧
        (s.rails.rail[rail].set_.cls = .reset → t.rails.deferred = some (rail, .reset)) ∧
        (∀ k : Rail, k ≠ rail → t.rails.rail[k] = s.rails.rail[k]) ∧ t.dram = s.dram) ∧
    (∀ since, s.rails.rail[rail].run = .fault → s.rails.rail[rail].set_.cls = .ignore → s.rails.rail[rail].faultAt = some since →
      since + 1000 ≤ s.clock.now →
      ∃ t, exec (.ignoreFaultNotice rail) s = .next t ∧
        t = { withNotes s t with rails := (withRail s rail { s.rails.rail[rail] with faultAt := none }).rails }) ∧
    (∀ since, s.rails.rail[rail].run = .fault → s.rails.rail[rail].set_.cls = .retry → s.rails.rail[rail].faultAt = some since →
      since + s.rails.rail[rail].set_.timeoutMs ≤ s.clock.now → saving s = true →
      exec (.railRecoveryTimeout rail) s = .next { s with
        rails := { (withRail s rail { s.rails.rail[rail] with faultAt := none }).rails with deferred := some (rail, escalated rail) } }) ∧
    (∀ g : Fin 3, g ∈ s.rails.groupWait → s.rails.seqTodo = [] → s.rails.downThen = none → s.rails.groupAt[g] + 1000 ≤ s.clock.now →
      ∃ t, exec (.groupResequence g) s = .next t ∧ t.rails.groupWait = s.rails.groupWait.filter (fun k => k != g) ∧
        t.rails.seqTodo = (groupRails g).filter (fun r => s.rails.rail[r].run != .qualified) ∧ t.rails.seqFor = .groupAgain g ∧
        t.dram = s.dram))

/-- R283, R284, R287, R294, R304, R418, R458: VDD_AON rising samples the straps, and an SMBus that stays held is stuck; its loss
leaves only what the media keep; a qualified input starts a module that waits for nothing else, and is noted in one that runs.
Completes: aonPowerOnReset, aonPowerLoss, auxInputRemoved, inputQualified, resetReactionRestart, emergencyStandbyExit. -/
def Obligations.AonPowerComesAndGoes : Prop :=
  (∀ (s : State) (straps : Byte) (aux : Bool) (smbus : Option ClearOutcome), s.power.aon = false →
    ∃ t, exec (.aonPowerOnReset straps aux smbus) s = .next t ∧ t.power.aon = true ∧ t.power.aux = aux ∧ t.startup.strapPins = straps ∧
      t.startup.strapLow = straps.setWidth 3 ∧ (∀ scl, smbus = some (.stuck scl) → s.smb.stuck = false → t.smb.stuck = true)) ∧
  (∀ (s : State), s.power.aon = true → s.cf.op = .idle → s.cf.suspended = none →
    let lost (t : State) : Prop :=
      t.power.aon = false ∧ t.notices.pend = [] ∧ t.qmp.sessions = [] ∧ t.dram.mem = [] ∧ t.flash.gens = s.flash.gens ∧
        t.cf.words = s.cf.words ∧ t.recorder.ring = s.recorder.ring ∧ t.pack.present = s.pack.present
    (∃ t, exec .aonPowerLoss s = .next t ∧ lost t) ∧
    (s.power.inputOk = false → s.charger.holdEn = false → ∃ t, exec .auxInputRemoved s = .next t ∧ lost t)) ∧
  (∀ (s : State), s.power.inputOk = true → exec .auxInputRemoved s = .next { s with power := { s.power with aux := false } }) ∧
  (∀ (s : State) (straps : Byte),
    (s.power.state = .run → exec (.inputQualified straps) s = .next { s with
      power := { s.power with inputOk := true, pfLow := false }, startup := { s.startup with strapPins := straps } }) ∧
    (s.power.state = .standby → s.power.standby = .byInput → mayStart (inputIsGood s straps) = true →
      ∃ t, exec (.inputQualified straps) s = .next t ∧ bootBegins t)) ∧
  (∀ (s : State), s.rails.restartWait = true → s.rails.restartAt + 100 ≤ s.clock.now →
    mayStart { s with rails := { s.rails with restartWait := false } } = true →
    ∃ t, exec .resetReactionRestart s = .next t ∧ bootBegins t ∧ t.rails.restartWait = false) ∧
  (∀ (s : State), s.power.state = .standby → s.power.standby = .byCooling → coolEnough s = true → mayStart s = true →
    ∃ t, exec .emergencyStandbyExit s = .next t ∧ bootBegins t)

/-! ## MR_N, the button and start-up -/

/-- R296, R458: MR_N resets the data path with the rails kept, on a retained path where DRAM serves; it is latched during a save; on its
release a bus that is not idle is cleared.

R297 to R300, Table 11-6: a press is taken where a row of the table applies; in service a short one sends a notice, one of 4 s to
8 s is cancelled, one held to 8 s starts a save, and one held to 15 s switches every rail off at once. In STANDBY it is recorded.
Completes: mrN, mrNRelease, pbPressStart, pbRelease, pbForcedMark, pbHardOff. -/
def Obligations.ResetAndButtonAct : Prop :=
  (∀ (s : State), s.power.aon = true →
    (s.power.state = .save → exec .mrN s = .next { s with button := { s.button with mrLow := true, mrLatched := true } }) ∧
    (s.power.state = .run → s.power.starting = false → s.security.lowering = false → s.host.buf = [] →
      ∃ t, exec .mrN s = .next t ∧ t.power.state = .restore ∧ t.power.starting = true ∧ t.startup.step = 0 ∧
        t.startup.retained = dramServing s ∧ t.button.mrCount = min 65535 (s.button.mrCount + 1) ∧ t.button.cause = 1 ∧
        t.rails.rail = s.rails.rail ∧ t.host.slots = [] ∧
        (dramServing s = true → t.dram.mem = s.dram.mem ∧ t.persist.dirty = s.persist.dirty)) ∧
    (s.power.state = .run → s.power.starting = false → s.button.mrLow = true →
      exec (.mrNRelease none none) s = .next { s with button := { s.button with mrLow := false } } ∧
      (s.lb.state = .inService → s.smb.stuck = false →
        exec (.mrNRelease (some .idle) (some .idle)) s = .next { s with
          button := { s.button with mrLow := false },
          lb := { s.lb with clear := satAdd 8 s.lb.clear 1, pointers := [], chargerSet := false },
          smb := { s.smb with clear := satAdd 8 s.smb.clear 1 } } ∧
        ∀ scl, ∃ t, exec (.mrNRelease none (some (.stuck scl))) s = .next t ∧ t.smb.stuck = true ∧ t.button.mrLow = false))) ∧
  ((∀ (s : State), pbRow s ≠ .none →
    exec .pbPressStart s = .next { s with button := { s.button with held := true, markDone := false } }) ∧
  (∀ (s : State) (duration : Nat), s.button.held = true → s.button.markDone = false → pbRow s = .service →
    (duration < 1000 → ∃ t, exec (.pbRelease duration) s = .next t ∧ t = { withNotes s t with
      button := { s.button with held := false, markDone := false, duration := min 65535 (duration / 10), action := .notice } }) ∧
    (4000 ≤ duration → duration < 8000 → ∃ t, exec (.pbRelease duration) s = .next t ∧ t = { s with
      recorder := t.recorder,
      button := { s.button with held := false, markDone := false, duration := min 65535 (duration / 10), action := .cancelled } })) ∧
  (∀ (s : State), s.button.held = true → pbRow s = .service → s.security.lowering = false →
    (∃ t, exec .pbForcedMark s = .next t ∧ t.power.state = .save ∧ t.save.trigger = some .forcedPress ∧
      t.button.action = .forcedOff ∧ t.dram.mem = s.dram.mem) ∧
    (s.power.inputOk = true → ∃ t, exec .pbHardOff s = .next t ∧ t.power.state = .standby ∧ t.button.action = .hardOff ∧ t.button.cause = 4 ∧
      t.charger.holdEn = false ∧ (∀ r : Rail, r.val ≠ 0 → t.rails.rail[r].en = false))) ∧
  (∀ (s : State), s.button.held = true → pbRow s = .standby →
    (∃ t, exec .pbForcedMark s = .next t ∧
      t = { s with recorder := t.recorder, button := { s.button with markDone := true, action := .logged } }) ∧
    exec .pbHardOff s = .next { s with button := { s.button with markDone := true, action := .logged } }))

/-- R311 to R314, R319, R321: a failed transfer of the Sheet is tried again, each up to three times; an image that cannot be read
brings the minimal profile up; one that checks comes into force, and the main rails follow; the end of start-up locks the fields of
access RWL. Completes: sheetTransferRetry, sheetImageRead, lock, startupEndTimeout. -/
def Obligations.SheetComesIntoForce : Prop :=
  (∀ (s : State) (address : BitVec 16), readingSheet s = true → failedAttempts s address < 2 →
    exec (.sheetTransferRetry address) s = .next { s with
      startup := { s.startup with transfer := address, attempts := failedAttempts s address + 1 } }) ∧
  (∀ (s : State) (address : BitVec 16), readingSheet s = true → s.startup.retained = false →
    let minimal (t : State) : Prop :=
      t.power.minimal = true ∧ t.power.state = .run ∧ t.startup.minCause = 1 ∧ t.startup.settings = none ∧ t.startup.sheetResult = 2 ∧
        t.dram.mem = []
    (∃ t, exec (.sheetImageRead none none) s = .next t ∧ minimal t) ∧
    (2 ≤ failedAttempts s address → ∃ t, exec (.sheetTransferRetry address) s = .next t ∧ minimal t)) ∧
  (∀ (s : State) (image : List Byte) (c : Settings) (cleared : Option ClearOutcome), cleared = none ∨ cleared = some .idle → readingSheet s = true → s.startup.retained = false → s.lb.state ≠ .stuck →
    (readSheet (some image) s.startup.fuse80).fail = none → (readSheet (some image) s.startup.fuse80).settings = some c →
    (∃ r ∈ mainRails, s.rails.rail[r].run ≠ .qualified) →
    ∃ t, exec (.sheetImageRead (some image) cleared) s = .next t ∧ t.startup.settings = some c ∧ t.startup.sheetResult = 1 ∧
      t.startup.sheetCrc = (readSheet (some image) s.startup.fuse80).crc ∧ t.startup.step = 3 ∧ t.rails.seqFor = .main ∧ t.dram.mem = s.dram.mem) ∧
  (∀ (s : State) (link : Link), s.host.link[link].offersIo = true → coreUp s = true →
    exec (.lock link) s = .next { s with startup := { s.startup with locked := true } }) ∧
  (∀ (s : State) (since : Nat), (if inMinimal s || inCrocus s then s.startup.offeredAt else s.startup.step9At) = some since →
    (s.clock.now < since + 60000 → exec .startupEndTimeout s = .next s) ∧
    (since + 60000 ≤ s.clock.now → exec .startupEndTimeout s = .next { s with startup := { s.startup with locked := true } }))

/-! ## Persistence -/

/-- R41, R44, R47, R51: every 100 ms the ceiling is computed afresh with its causes, the windows of f_in and of the issued flushes turn,
HEAT gains what was newly made dirty, and the wear credit its gain up to one day's. HEAT halves every 10 s, DIRTY_NOW is taken every
1 ms (R42), and a channel that may issue the flush of the next dirty granule has it in flight from then on (R43), once a lower class does
not come before it (R18). What the check bytes find while the granule is read is an operand; with nothing found memory stands.
Completes: ceilingUpdate, heatHalving, dirtyNowRefresh, flushIssue.

The grain of the wear credit is the model's choice (notes/assumptions/10). -/
def Obligations.PersistenceLoopKeepsItsAccounts : Prop :=
  (∀ (s : State) (c : Settings), loopRuns s = true → s.startup.settings = some c →
    ∃ t, exec .ceilingUpdate s = .next t ∧
      t.persist.ceiling.updateSeq = (s.persist.ceiling.updateSeq + 1) % 256 ∧
      t.persist.ceiling.cE = ratMax t.persist.ceiling.cPack t.persist.ceiling.cBp ∧
      (c.capMib ≠ 0 → t.persist.ceiling.c ≤ capBytes c) ∧
      t.persist.ceiling.uncov = decide (t.persist.ceiling.cE < (dirtyBytes s : Rat)) ∧
      t.persist.fIn = s.persist.freshBytes ∧ t.persist.freshBytes = 0 ∧ t.persist.issuedLast = s.persist.issued ∧
      t.persist.issued = 0 ∧ t.persist.newDirty = [] ∧
      t.persist.wear = min (s.persist.wear + ((c.wearRate * 100000 : Nat) : Int)) ((c.wearRate * 86400000000 : Nat) : Int) ∧
      (∀ r n, s.persist.newDirty = [(r, n)] → kvGetD t.persist.heat r 0 = min 255 (kvGetD s.persist.heat r 0 + n)) ∧
      t.persist.dirty = s.persist.dirty ∧ t.persist.inflight = s.persist.inflight ∧
      t = { withNotes s t with
        persist := t.persist, bank := { s.bank with run := t.bank.run },
        thermal := { s.thermal with
          reef := { s.thermal.reef with ceil := t.thermal.reef.ceil, wear := t.thermal.reef.wear }, loopAt := t.thermal.loopAt } }) ∧
  (∀ (s : State), loopRuns s = true →
    (∃ t, exec .heatHalving s = .next t ∧ t = { s with persist := { s.persist with heat := t.persist.heat } } ∧
      ((∀ p ∈ s.persist.heat, ∀ q ∈ s.persist.heat, p.1 = q.1 → p = q) →
        ∀ r, kvGetD t.persist.heat r 0 = kvGetD s.persist.heat r 0 / 2)) ∧
    exec .dirtyNowRefresh s = .next { s with persist := { s.persist with dirtyNow := mibUp (dirtyBytes s) } }) ∧
  (∀ (s w u : State) (c : Settings) (ch : FlashCh) (g : Nat) (b : Band) (seqs : List Nat) (rows : List (Nat × Nat))
      (errs : List (Nat × EccOutcome)),
    w = issueWaiting s → w.startup.settings = some c → saving w = false → flushRuns w c = true →
    (flushClass w c w.persist.ceiling ≠ .background ∨ restoreWaits w ch = false) → flushPick w = some g →
    openBand (rowsFor w c) = some b → mayProgram (rowsFor w c) c ch (bandDie c b.num) = true →
    (let read := eccEffects (flushAccess (rowsFor w c) g) errs fun l => lineGranule w l == g
     placeOn read c ch .granule g (keyIdNow read) (granuleParts read c g) none = some (u, seqs, rows)) →
    exec (.flushIssue ch errs) s = .next (putInFlight (chargeWear u (granuleBytes c)) c g seqs rows) ∧
    (errs = [] →
      ∃ t, exec (.flushIssue ch errs) s = .next t ∧
        (∃ f, t.persist.inflight = s.persist.inflight ++ [f] ∧ f.granule = g ∧ f.pages = seqs ∧ f.rows = rows ∧ f.rewritten = false) ∧
        t.persist.wear = s.persist.wear - (granuleBytes c : Int) ∧ t.persist.issued = s.persist.issued + granuleBytes c ∧
        (halves c = 1 → ∀ q ∈ seqs, ∃ p ∈ t.flash.pages, p.seq = q ∧ p.kind = .granule ∧ p.index = g ∧ p.ch = ch ∧ p.passed = false) ∧
        (∀ p ∈ s.flash.pages, ∃ a, { p with issuedAt := a } ∈ t.flash.pages) ∧ t.persist.dirty = s.persist.dirty ∧
        t.dram = { s.dram with acc := t.dram.acc } ∧ t.host = s.host))

/-! ## The management protocol -/

/-- R331: a request with effect whose result is still cached is answered with that result again and does nothing; one whose SEQ is
neither the session's NEXT nor among the 64 before it with a result is refused with NEXT. Nothing else changes. This holds of every
command with effect; where each of them runs, ManagementCommandsTakeEffect and FirmwareAndDebugCommandsTakeEffect say. -/
def Obligations.CommandsWithEffectRunOnce : Prop :=
  ∀ (s : State) (hdr : QmpHdr) (b : QmpBody) (x : Session) (cmd : Instr),
    effectCommand hdr b = some cmd → inOpenSession s hdr b x →
    (∀ r, hdr.seq ≠ x.next → (x.next - hdr.seq).toNat ≤ 64 → x.results.find? (fun y => y.seq == hdr.seq) = some r →
      exec cmd s = .next { s with
        qmp := { s.qmp with sessions := usedSessions s hdr },
        out := s.out ++ [.qmp hdr.carrier r.opcode hdr.session hdr.seq r.status true r.body] }) ∧
    (64 < (x.next - hdr.seq).toNat →
      exec cmd s = .next { s with
        qmp := { s.qmp with sessions := usedSessions s hdr },
        out := s.out ++ [answerOf hdr b .seqBad (leBytes 4 x.next.toNat)] }) ∧
    (∀ st, hdr.seq = x.next → blockedStatus s hdr b = some st → (∀ p f, b ≠ .fwActivate p f) →
      ∃ t, exec cmd s = .next t ∧ answeredOnce s t hdr b x st [] ∧
        t = { s with qmp := { s.qmp with sessions := t.qmp.sessions }, out := t.out })

/-- The energy, power and self-test commands of Table 13-4 that a session runs with effect: GRANT_REST (R250), ESB_RESTORE (R255),
SAVE_AND_OFF (R182), CLEAR_RAIL_LATCH (R289), SELFTEST (R356) and NOTICE_ACK (R342).

R261, R277: over the SMBus in STANDBY, SHIP_MODE forces the charger low and begins the steps of Table 09-6, its result kept by the AON
responder (R333); CLEAR_TRIP clears the thermal latch once the AON sensor has been cool for 100 ms. Completes: grantRest, esbRestore,
saveAndOff, clearRailLatch, selftest, noticeAck, shipMode, clearTrip. -/
def Obligations.ManagementCommandsTakeEffect : Prop :=
  (∀ (s : State) (hdr : QmpHdr) (x : Session),
    (runsNext s hdr .grantRest x → s.pack.restActive = false → restTemp s = true → s.pack.cond = .qualified → saveStart s = false →
      ∃ t, exec (.grantRest hdr) s = .next t ∧ answeredOnce s t hdr .grantRest x .ok [] ∧ t.pack.restActive = true ∧
        t.pack.restFrom = s.clock.now ∧ t.charger.run = .forcedLow ∧ t.dram = s.dram ∧ t.persist = s.persist ∧ t.bank = s.bank) ∧
    (∀ (c : Settings) (block : List Byte), runsNext s hdr (.esbRestore block) x → s.startup.settings = some c →
      blockCheck s c block = none →
      ∃ t, exec (.esbRestore hdr block) s = .next t ∧ answeredOnce s t hdr (.esbRestore block) x .ok [] ∧
        t.pack.esbDefault = false ∧ t.pack.changed = false ∧ t.pack.aonDrawn = 0 ∧ t.pack.serial = s.pack.serial ∧
        t.dram = s.dram ∧ t.persist = s.persist ∧ t.charger = s.charger) ∧
    (runsNext s hdr .saveAndOff x → saving s = false → s.power.minimal = false → s.power.starting = false →
      s.security.lowering = false →
      ∃ t, exec (.saveAndOff hdr) s = .next t ∧ answeredOnce s t hdr .saveAndOff x .ok [] ∧ t.power.state = .save ∧
        t.save.phase = 1 ∧ t.save.trigger = some .saveAndOff ∧ t.host.stopped = true ∧ t.host.buf = s.host.buf ∧
        t.dram.mem = s.dram.mem ∧ t.persist = s.persist) ∧
    (runsNext s hdr .clearRailLatch x → heldLatches s ≠ 0 → s.power.state = .run → s.power.starting = false →
      ∃ t, exec (.clearRailLatch hdr) s = .next t ∧
        answeredOnce s t hdr .clearRailLatch x .ok (leBytes 1 (heldLatches s)) ∧ heldLatches t = 0 ∧ t.dram = s.dram ∧
        t.persist = s.persist ∧ t.host.buf = s.host.buf) ∧
    (∀ (target : Byte) (index : BitVec 16) (p : Part), runsNext s hdr (.selftest target index) x →
      selftestPart s target index.toNat = .inl p →
      (tested s p = true ∨ testless s p = false ∧ queueFull p s.faults.tests = false) →
      ∃ t, exec (.selftest hdr target index) s = .next t ∧
        answeredOnce s t hdr (.selftest target index) x .ok (leBytes 4 s.faults.nextTestId.toNat) ∧ tested t p = true ∧
        t.faults.nextTestId = s.faults.nextTestId + 1 ∧ t.dram.mem = s.dram.mem ∧ t.persist = s.persist) ∧
    (∀ (first last : Word), runsNext s hdr (.noticeAck first last) x → first.toNat ≤ last.toNat → s.restore.hold = false →
      ∃ t n, exec (.noticeAck hdr first last) s = .next t ∧ answeredOnce s t hdr (.noticeAck first last) x .ok (leBytes 4 n) ∧
        t.notices.pend = s.notices.pend.filter (fun m => !ackCovers first last m) ∧
        n + t.notices.pend.length = s.notices.pend.length ∧ t.dram = s.dram ∧ t.host = s.host)) ∧
  (∀ (s : State) (hdr : QmpHdr) (x : Session), hdr.carrier = .smbus → inStandby s = true → sessionOf s hdr.session = some x →
    hdr.seq = x.next →
    (requestArrives s hdr .shipMode → versionStatus hdr .shipMode x.version = none → blockedStatus s hdr .shipMode = none →
      newestIsSave s = true → s.pack.cond = .qualified → saveStart s = false →
      ∃ t, exec (.shipMode hdr) s = .next t ∧ t.pack.shipStep ≠ 0 ∧ t.charger.run = .forcedLow ∧ t.bank.cbEn = false ∧
        t.qmp.aonCache = last64 (s.qmp.aonCache ++ [⟨hdr.session, hdr.seq, 0xC070, .ok, []⟩]) ∧
        (sessionOf t hdr.session).map (·.next) = some (hdr.seq + 1) ∧ t.dram = s.dram ∧ t.flash = s.flash) ∧
    (requestArrives s hdr .clearTrip → versionStatus hdr .clearTrip x.version = none → blockedStatus s hdr .clearTrip = none →
      s.thermal.latched = true → (s.thermal.aonCoolSince.any fun t0 => due s t0 100) = true →
      ∃ t, exec (.clearTrip hdr) s = .next t ∧ t.thermal.latched = false ∧
        t.qmp.aonCache = last64 (s.qmp.aonCache ++ [⟨hdr.session, hdr.seq, 0xC081, .ok, []⟩]) ∧ t.cf = s.cf))

/-- The commands without effect, on a mailbox or PCIe VDM: ESB_GET (R252), PERSIST_STATUS (R335), LOG_READ and LASTWORDS_READ (R376)
answer and leave everything but their session's last use and what they answer from as it was; NEGOTIATE opens the lowest free session
at the highest common version, or answers the session of a tag it knows, and its CLOSE closes a session (R329, R330).

A message that reached an MCTP carrier whole is taken as one request (R325); a message whose next packet stays out is discarded at the
chunk timeout (R339). Completes: esbGet, persistStatus, logRead, lastwordsRead, negotiate, negotiateClose, mctpPacket,
mctpMessageTimeout.

Where the QMP message lies behind the message type and the vendor ID is the model's reading (notes/assumptions/70). -/
def Obligations.PlainCommandsAnswer : Prop :=
  (∀ (s : State) (hdr : QmpHdr) (x : Session),
    (inOpenSession s hdr .esbGet x → blockedStatus s hdr .esbGet = none →
      exec (.esbGet hdr) s = .next { s with
        qmp := { s.qmp with sessions := usedSessions s hdr },
        pack := { s.pack with accessAt := s.clock.now, hibernate := false },
        out := s.out ++ [answerOf hdr .esbGet .ok (esbBlock (touchEstimator s))] }) ∧
    (inOpenSession s hdr .persistStatus x → blockedStatus s hdr .persistStatus = none →
      exec (.persistStatus hdr) s = .next { s with
        qmp := { s.qmp with sessions := usedSessions s hdr },
        out := s.out ++ [answerOf hdr .persistStatus .ok (persistBody s)] }) ∧
    (∀ start count r, inOpenSession s hdr (.logRead start count) x → blockedStatus s hdr (.logRead start count) = none →
      (((heldRecords s).filter fun r => decide (start.toNat ≤ r.recno.toNat)).take (min count.toNat 128)).getLast? = some r →
      exec (.logRead hdr start count) s = .next { s with
        qmp := { s.qmp with sessions := usedSessions s hdr },
        out := s.out ++ [answerOf hdr (.logRead start count) .ok (logReadBody s start count).1] }) ∧
    (∀ start count, inOpenSession s hdr (.lastwordsRead start count) x → blockedStatus s hdr (.lastwordsRead start count) = none →
      start.toNat ≤ 63 → count.toNat ≤ 64 →
      exec (.lastwordsRead hdr start count) s = .next { s with
        qmp := { s.qmp with sessions := usedSessions s hdr },
        out := s.out ++ [answerOf hdr (.lastwordsRead start count) .ok (lastWordsBody s start count)] })) ∧
  (∀ (s : State) (hdr : QmpHdr) (versions tag : Word) (flags : Byte) (chunkMs : BitVec 16), hdr.carrier ≠ .smbus →
    requestArrives s hdr (.negotiate versions tag flags chunkMs) →
    blockedStatus s hdr (.negotiate versions tag flags chunkMs) = none → inStandby s = false →
    flags.getLsbD 0 = false → flags.getLsbD 1 = false → (versions.getLsbD 1 = true ∨ versions.getLsbD 2 = true) →
    (if flags.getLsbD 2 then 100 ≤ chunkMs.toNat ∧ chunkMs.toNat ≤ 30000 else chunkMs = 0) →
    (∀ x, s.qmp.sessions.find? (fun y => tag != 0 && y.tag == tag) = some x →
      exec (.negotiate hdr versions tag flags chunkMs) s = .next { s with
        out := s.out ++ [answerOf hdr (.negotiate versions tag flags chunkMs) .ok (negotiateBody x true)] }) ∧
    (∀ id, s.qmp.sessions.find? (fun y => tag != 0 && y.tag == tag) = none → freeSession (s.qmp.sessions.map (·.id)) = some id →
      ∃ y : Session, y.id = id ∧ y.version = (if versions.getLsbD 2 then 2 else 1) ∧ y.next = 1 ∧ y.tag = tag ∧
        y.chunkMs = (if flags.getLsbD 2 then chunkMs.toNat else 2000) ∧ y.results = [] ∧
        exec (.negotiate hdr versions tag flags chunkMs) s = .next { s with
          qmp := { s.qmp with sessions := s.qmp.sessions ++ [y] },
          out := s.out ++ [answerOf hdr (.negotiate versions tag flags chunkMs) .ok (negotiateBody y false)] })) ∧
  (∀ (s : State) (hdr : QmpHdr) (x : Session), hdr.carrier ≠ .smbus → requestArrives s hdr .negotiateClose →
    blockedStatus s hdr .negotiateClose = none → sessionOf s hdr.session = some x →
    exec (.negotiateClose hdr) s = .next { s with
      qmp := { s.qmp with sessions := s.qmp.sessions.filter fun y => y.id != hdr.session },
      out := s.out ++ [answerOf hdr .negotiateClose .ok (negotiateBody x false)] }) ∧
  (∀ (s u : State) (c : Carrier) (source : BitVec 16) (command : Byte) (rate : Fin 3) (seq : Fin 4) (tag : Nat) (payload : List Byte)
    (verifies : Bool) (op : Nat) (b : QmpBody), takesPacket s c command = true → u = packetState s c rate →
    u.qmp.partials.find? (sameMessage c source tag) = none → isRequest payload verifies op b →
    exec (.mctpPacket c source command rate true true seq tag true payload verifies) s =
      .next (receiveOp u (parseHdr c source (payload.drop 3) 0) (BitVec.ofNat 16 op) (some b))) ∧
  (∀ (s : State) (carrier : Carrier),
    ∃ t, exec (.mctpMessageTimeout carrier) s = .next t ∧ t = { s with qmp := { s.qmp with partials := t.qmp.partials } } ∧
      ∀ p, p ∈ t.qmp.partials ↔ p ∈ s.qmp.partials ∧ (p.carrier = carrier → s.clock.now < chunkTimeout s p + p.lastAt))

/-- R326, on both MCTP carriers: a packet in order begins or continues a message, and one that ends it makes of the payloads, in the
order of their sequence numbers, what one packet with all of them makes. A packet with a PEC error, a sequence gap or an unexpected
SOM is discarded with its message, and nothing is sent. -/
def Obligations.MctpPacketsMakeMessages : Prop :=
  ∀ (s u : State) (c : Carrier) (source : BitVec 16) (command : Byte) (rate : Fin 3) (som eom : Bool) (seq : Fin 4) (tag : Nat)
    (payload : List Byte) (verifies : Bool), takesPacket s c command = true → u = packetState s c rate →
    (∃ t, exec (.mctpPacket c source command rate som eom seq tag false payload verifies) s = .next t ∧
      t = { withoutPartial u c source tag with smb := t.smb } ∧ (c ≠ .smbus → t.smb = u.smb) ∧
      (c = .smbus → t.smb = { u.smb with pec := satAdd 8 u.smb.pec 1 })) ∧
    (u.qmp.partials.find? (sameMessage c source tag) = none →
      exec (.mctpPacket c source command rate false eom seq tag true payload verifies) s = .next u ∧
      exec (.mctpPacket c source command rate true false seq tag true payload verifies) s = .next { u with
        qmp := { u.qmp with partials := u.qmp.partials ++
          [{ carrier := c, source := source, tag := tag, nextSeq := (seq.val + 1) % 4, bytes := payload, lastAt := u.clock.now }] } }) ∧
    (∀ p, u.qmp.partials.find? (sameMessage c source tag) = some p →
      exec (.mctpPacket c source command rate true eom seq tag true payload verifies) s = .next (withoutPartial u c source tag) ∧
      (p.nextSeq ≠ seq.val →
        exec (.mctpPacket c source command rate false eom seq tag true payload verifies) s = .next (withoutPartial u c source tag)) ∧
      (p.nextSeq = seq.val →
        exec (.mctpPacket c source command rate false false seq tag true payload verifies) s = .next { u with
          qmp := { u.qmp with partials := (withoutPartial u c source tag).qmp.partials ++
            [{ carrier := c, source := source, tag := tag, nextSeq := (seq.val + 1) % 4, bytes := p.bytes ++ payload,
               lastAt := u.clock.now }] } } ∧
        ∃ t, exec (.mctpPacket c source command rate false true seq tag true payload verifies) s = .next t ∧
          exec (.mctpPacket c source command rate true true seq tag true (p.bytes ++ payload) verifies) (withoutPartial s c source tag) =
            .next t))

/-! ## Notices and the event recorder -/

/-- R84, R85, R341 to R343, R448: a pending notice goes into the event log of its class and into the ring, or out as a message, on the
carrier that is served, unless notices wait for a swap (R23); one of class 2 or 3 then goes into the logs and rings of every other
link and retires, one of class 0 or 1 is announced again until it is acknowledged, and marked once its period passes. A write of the
ring's size starts the ring afresh. Completes: noticeDeliver, noticeReannounce, noticeDisregarded, nringSizeWrite.

When a message on SMBus counts as delivered is the model's choice (notes/assumptions/36). -/
def Obligations.NoticesReachTheirCarriers : Prop :=
  (∀ (s : State) (l : Link) (n : Notice), linkCarries s l = true →
    (noticesWait s (.mailbox l) = false → nextFor s (fun m => !m.onLinks.contains l) = some n →
      ∃ u, exec (.noticeDeliver (.mailbox l)) s = .next (retireDelivered u) ∧ (logOf n.cls, n.seq) ∈ u.host.link[l].logs ∧
        (∀ m ∈ u.notices.pend, m.seq = n.seq → Carrier.mailbox l ∈ m.deliveredOn) ∧
        (ringUsed s l = true → l ∉ n.inRings → ringFull s.host.fn[l] = false →
          .hostWrite l (s.host.fn[l].ringBase.toNat + 64 * s.host.fn[l].ringTail) (noticeBytes n s.host.fn[l].ringPhase true) ∈ u.out ∧
          u.host.fn[l].ringTail = (s.host.fn[l].ringTail + 1) % s.host.fn[l].ringSize) ∧
        (∀ k, k ≠ l → u.host.link[k] = s.host.link[k] ∧ u.host.fn[k] = s.host.fn[k]) ∧
        u = { s with host := { s.host with link := u.host.link, fn := u.host.fn }, notices := u.notices, out := u.out } ∧
        (∀ m ∈ (retireDelivered u).notices.pend, m.seq = n.seq → m.cls ≤ 1) ∧
        (2 ≤ n.cls → ∀ k, linkCarries s k = true → k ∉ n.onLinks → (logOf n.cls, n.seq) ∈ (retireDelivered u).host.link[k].logs)) ∧
    (noticesWait s (.vdm l) = false → s.qmp.notifyVdm[l].isSome = true →
      nextFor s (fun m => !m.deliveredOn.contains (.vdm l)) = some n →
      ∃ u, exec (.noticeDeliver (.vdm l)) s = .next (retireDelivered u) ∧
        (∀ m ∈ u.notices.pend, m.seq = n.seq → Carrier.vdm l ∈ m.deliveredOn) ∧
        (∀ m ∈ (retireDelivered u).notices.pend, m.seq = n.seq → m.cls ≤ 1) ∧
        u = { s with notices := u.notices, out := s.out ++ [.qmpNotice (.vdm l) n.seq (noticeBytes n false true)] })) ∧
  (∀ (s : State) (a : BitVec 7) (n : Notice), s.smb.notify = some a → s.smb.current = none → saving s = false → s.power.aon = true →
    s.smb.stuck = false → noticesWait s .smbus = false → nextFor s (fun m => !m.deliveredOn.contains .smbus) = some n →
    ∃ t, exec (.noticeDeliver .smbus) s = .next t ∧ t.smb.state = .sending ∧ t.smb.current = some (.notice a n.seq, 1, s.smb.nextTag) ∧
      t.notices = s.notices ∧ t.out.length = s.out.length + 1 ∧ t = { s with smb := t.smb, out := t.out }) ∧
  (∀ (s : State) (seq : Word) (n : Notice) (at_ : Nat), s.notices.pend.find? (fun m => m.seq == seq) = some n → n.cls ≤ 1 →
    n.firstAt = some at_ →
    (n.announcedAt + announceMs n.cls ≤ s.clock.opTime → saving s = false →
      ∃ t, exec (.noticeReannounce seq) s = .next t ∧ t.smb.alert = true ∧
        (∀ m ∈ t.notices.pend, m.seq = seq → m.announcedAt = s.clock.opTime) ∧
        (∀ l ∈ n.onLinks, linkCarries s l = true → s.host.link[l].msixMask = 0 →
          .msix l (if ringUsed s l then 5 else 1 + logOf n.cls) ∈ t.out) ∧
        t.notices.pend.length = s.notices.pend.length ∧ t.dram = s.dram ∧ t.host.fn = s.host.fn) ∧
    (at_ + ackMs n.cls ≤ s.clock.opTime → n.disregarded = false →
      ∃ t, exec (.noticeDisregarded seq) s = .next t ∧ (∀ m ∈ t.notices.pend, m.seq = seq → m.disregarded = true) ∧
        t = { s with notices := t.notices, recorder := t.recorder })) ∧
  (∀ (s : State) (l : Link) (value : Word) (busMaster : Bool),
    (ringSizeOk (value.toNat % 2 ^ 17) = false →
      exec (.nringSizeWrite l value busMaster) s = .next { s with
        host := { s.host with link := vecMod s.host.link l fun k => { k with busMaster := busMaster } } }) ∧
    (ringSizeOk (value.toNat % 2 ^ 17) = true → (value.toNat % 2 ^ 17 = 0 ∨ s.notices.pend = []) →
      ∃ t, exec (.nringSizeWrite l value busMaster) s = .next t ∧ t.host.fn[l] = { s.host.fn[l] with
          ringSize := value.toNat % 2 ^ 17, ringHead := 0, ringTail := 0, ringPhase := true } ∧
        t.host.link[l].busMaster = busMaster ∧ t.out = s.out ∧ t.notices = { s.notices with
          pend := s.notices.pend.map fun m => { m with inRings := m.inRings.filter fun x => x != l } }) ∧
    (ringSizeOk (value.toNat % 2 ^ 17) = true → value.toNat % 2 ^ 17 ≠ 0 → busMaster = true → linkCarries s l = true →
      (∀ m ∈ s.notices.pend, m.cls ≤ 3) →
      ∃ t, exec (.nringSizeWrite l value busMaster) s = .next t ∧
        t.host.fn[l].ringTail = min s.notices.pend.length (value.toNat % 2 ^ 17 - 1) ∧ t.host.fn[l].ringHead = 0 ∧ t.dram = s.dram))

/-- R364, R366, R368, R371, R375, R377: a full assembly page goes into the NAND log, charged to the wear credit, and LOG_DROPPED
follows where records were dropped; a mirror whose program fails leaves service. The hourly sweep leaves no drop unreported; a
checkpoint holds the operating time; and a selected record is shown when it is held, where it lies in SRAM or a mirror gives it.
Completes: logPageProgram, suppressedSweep, optimeCheckpoint, logSel, logFetchComplete.

The places of a checkpoint's contents in its words, and when LOG_DROPPED is sent, are the model's choice (notes/assumptions/40,
notes/assumptions/95). -/
def Obligations.RecorderKeepsItsRecords : Prop :=
  (∀ (s : State) (rs : List Record) (pass0 pass1 : Bool), s.recorder.fullPage = some rs → logWritable s = true → saving s = false →
    s.flash.mirrors[0].ok = true → s.flash.mirrors[1].ok = true →
    ∃ t, exec (.logPageProgram pass0 pass1) s = .next t ∧ t.flash.mirrors[0].ok = pass0 ∧ t.flash.mirrors[1].ok = pass1 ∧
      (pass0 = true ∨ pass1 = true → rs <:+ t.recorder.nand) ∧
      (pass0 = true → pass1 = true → t.persist.wear = s.persist.wear - 131072 ∧ t.flash = s.flash) ∧
      (pass0 = true → s.recorder.dropsOwed = true → s.recorder.logDroppedAt = none → s.notices.pend = [] →
        t.recorder.logDroppedAt = some s.clock.now ∧ ∃ n ∈ t.notices.pend, n.code = 0x0B02) ∧
      (pass0 = false → pass1 = false → t.recorder.sramOnly = true ∧ t.recorder.nand = s.recorder.nand) ∧
      t.dram = s.dram ∧ t.host = s.host ∧ t.cf = s.cf) ∧
  (∀ (s : State), coreUp s = true → 3600000 + s.recorder.sweptAt ≤ s.clock.opTime →
    ∃ t, exec .suppressedSweep s = .next t ∧ t = { s with recorder := t.recorder } ∧ t.recorder.sweptAt = s.clock.opTime ∧
      ∀ b ∈ t.recorder.buckets, b.drops = 0) ∧
  (∀ (s : State) (a : Nat), coreUp s = true → inCrocus s = false → saving s = false → 60000 + checkpointTime s ≤ s.clock.opTime →
    (newestCheckpoint s = none ∧ a = sectorBase secCheckpoint ∨
      (∃ c, newestCheckpoint s = some c ∧ a = nextCheckpointSlot c.1 ∧ a % 512 ≠ 0 ∧ ∀ i < 4, cfBlank s (a + i) = true)) →
    ∃ t, exec .optimeCheckpoint s = .next t ∧ t = { s with cf := { s.cf with words := t.cf.words } } ∧
      (∀ i < 3, kvGet t.cf.words (a + i) = some ⟨BitVec.ofNat 64 ((checkpointWords s).getD i 0), false⟩) ∧
      (∀ x, x / 512 ≠ a / 512 → kvGet t.cf.words x = kvGet s.cf.words x)) ∧
  (∀ (s : State) (l : Link) (recno : Word),
    (blockServes s l = true →
      exec (.logSel l recno) s = .next { s with
        host := { s.host with fn := vecMod s.host.fn l fun f => { f with logSel := recno, logSelState := .fetching } } }) ∧
    (s.host.fn[l].logSelState = .fetching → saving s = false →
      (∀ r ok0 ok1, selectedRecord s l = some r →
        (inNandLog s r = false ∨ ok0 = true ∧ (s.flash.mirrors[0].ok = true ∨ ok1 = true)) →
        exec (.logFetchComplete l ok0 ok1) s = .next { s with
          host := { s.host with fn := vecMod s.host.fn l fun f => { f with logSelState := .valid, logData := recordWords r } } }) ∧
      (∀ ok0 ok1, selectedRecord s l = none →
        exec (.logFetchComplete l ok0 ok1) s = .next { s with
          host := { s.host with fn := vecMod s.host.fn l fun f => { f with logSelState := .notHeld } } })))

/-! ## Code flash -/

/-- R381, R382, R384, R387, R388: a call of the ROM routine with no call in progress begins its pulse, or returns why it does not; the
operation that ends returns OK, with the word programmed or the sector erased, and repair list entries that waited for it follow
(R385); a brown-out ends it NOT_DONE and blocks new pulses; and a refused access is logged. Completes: cfProgram, cfErase, cfResume,
cfStatus, cfOperationComplete, cfBrownout, cfAccessRefused. The status numbers are the model's choice (notes/assumptions/38). -/
def Obligations.CodeFlashCallsReturn : Prop :=
  (∀ (s : State) (address : Nat) (data : DWord), romFree s = true →
    (address % 8 ≠ 0 ∨ cfBytes ≤ address →
      exec (.cfProgram address data) s = .next { s with out := s.out ++ [.romCall romRange 0] }) ∧
    (address % 8 = 0 → address < cfBytes →
      (cfProtected s (address / 8 / 512) = true →
        exec (.cfProgram address data) s = .next { s with out := s.out ++ [.romCall romProtected 0] }) ∧
      (cfProtected s (address / 8 / 512) = false → s.cf.suspended ≠ some (address / 8 / 512) →
        (cfWordBlank s (address / 8) = false →
          exec (.cfProgram address data) s = .next { s with out := s.out ++ [.romCall romNotBlank 0] }) ∧
        (cfWordBlank s (address / 8) = true → s.cf.blocked = false →
          exec (.cfProgram address data) s = .next { s with
            cf := { s.cf with op := .program, sector := address / 8 / 512, target := some (address / 8, data) } })))) ∧
  (∀ (s : State) (sector : Nat), romFree s = true → saving s = false →
    (8192 ≤ sector → exec (.cfErase sector) s = .next { s with out := s.out ++ [.romCall romRange 0] }) ∧
    (sector < 8192 → cfProtected s sector = true →
      exec (.cfErase sector) s = .next { s with out := s.out ++ [.romCall romProtected 0] }) ∧
    (sector < 8192 → cfProtected s sector = false → s.cf.suspended = none → s.cf.blocked = false →
      exec (.cfErase sector) s = .next { s with cf := { s.cf with op := .erase, sector := sector, target := none } }) ∧
    (s.cf.suspended = some sector → s.cf.blocked = false →
      exec .cfResume s = .next { s with
        cf := { s.cf with op := .erase, sector := sector, suspended := none, target := none } })) ∧
  (∀ (s : State), romFree s = true →
    exec .cfStatus s = .next { s with out := s.out ++ [.romCall romOk (regCfStat s).toNat] }) ∧
  (∀ (s : State), s.cf.suspended = none →
    (∀ a d, s.cf.op = .program → s.cf.target = some (a, d) → cfBlank s a = true →
      exec .cfOperationComplete s = .next (programHeld { s with
        cf := { s.cf with words := kvSet s.cf.words a ⟨d, false⟩, op := .idle, notDone := false, target := none },
        out := s.out ++ [.romCall romOk 0] })) ∧
    (s.cf.op = .erase →
      ∃ u, exec .cfOperationComplete s = .next (programHeld u) ∧ u.cf = { s.cf with
          words := s.cf.words.filter (fun w => w.1 / 512 != s.cf.sector), op := .idle, notDone := false, target := none } ∧
        u.out = s.out ++ [.romCall romOk 0] ∧ u.dram = s.dram ∧ u.host = s.host ∧ u.flash = s.flash ∧ u.security = s.security) ∧
    (s.cf.held = [] → programHeld s = s)) ∧
  (∀ (s : State), coreUp s = true →
    (∃ t, exec .cfBrownout s = .next t ∧ t.cf.blocked = true ∧ t.dram = s.dram ∧ t.host = s.host ∧
      (s.cf.op = .program ∨ s.cf.op = .erase → t.out = s.out ++ [.romCall romNotDone 0] ∧ t.cf.notDone = true)) ∧
    ∃ t, exec .cfAccessRefused s = .next t ∧ t.cf = { s.cf with refusedAccess := true } ∧
      t = { s with cf := t.cf, recorder := t.recorder })

/-! ## Firmware -/

/-- R338, R400, R409, R392, R431: a chunk that is the next one is programmed into the half not running and counted; an activation of a
package that is staged whole begins to load, its answer waiting; one that is active already is answered at once; the owner lock is
written and read back; and a debug challenge and its response open, or do not open, the debug port. Completes: fwChunk, fwActivate,
fwLockSet, fwLockClear, debugChallenge, debugResponse. -/
def Obligations.FirmwareAndDebugCommandsTakeEffect : Prop :=
  (∀ (s : State) (hdr : QmpHdr) (x : Session) (package offset total crc : Word) (data : List Byte) (k : HyChunk),
    k = { package := package, offset := offset.toNat, total := total.toNat, crc := crc, data := data } →
    runsNext s hdr (.fwChunk package offset total crc 0 data) x → k.offset % 4096 = 0 → k.data.length = min 4096 (k.total - k.offset) →
    k.total ≤ 15 * 2 ^ 20 → crc32 data = crc → inChain s = false → chunkReasons s k = 0 →
    (s.fw.staging = none ∧ k.offset = 0 ∧ (parseHeader data).packageId = package ∨
      k.offset ≠ 0 ∧ ∃ g, s.fw.staging = some g ∧ g.packageId = package ∧ g.total = k.total ∧ g.missing = k.offset ∧
        g.owner = some hdr.session) →
    ∃ t, exec (.fwChunk hdr package offset total crc 0 data) s = .next t ∧
      answeredOnce s t hdr (.fwChunk package offset total crc 0 data) x .ok (leBytes 4 (k.offset + data.length)) ∧
      t.fw.phase = .staging ∧ t.fw.entry = .staging ∧
      (t.fw.staging.map fun g => (g.packageId, g.missing)) = some (package, k.offset + data.length) ∧
      (∀ i < (chunkWords data).length,
        kvGet t.cf.words (sectorBase (halfSector (stagingHalf s) + k.offset / 4096) + i) = some ⟨(chunkWords data).getD i 0, false⟩) ∧
      t.dram = s.dram ∧ t.host = s.host ∧ t.security = s.security) ∧
  (∀ (s : State) (hdr : QmpHdr) (x : Session) (package : Word) (flags : Byte), runsNext s hdr (.fwActivate package flags) x →
    inCrocus s = false →
    (alreadyActive s package = true → flags = 0 →
      ∃ t, exec (.fwActivate hdr package flags) s = .next t ∧
        answeredOnce s t hdr (.fwActivate package flags) x (activateStatus s) (statusList s) ∧ t.fw.phase = s.fw.phase ∧
        t.fw.staging = s.fw.staging ∧ t.dram = s.dram ∧ t.cf = s.cf) ∧
    (∀ g h, alreadyActive s package = false → bothHalvesUsed s = false → s.fw.staging = some g → g.packageId = package →
      g.whole = true → g.header = some h → s.shroud.mode ≠ .retrain → stateReasons s + headerReasons s (some h) = 0 →
      hitless s h = true →
      exec (.fwActivate hdr package flags) s = .next { s with
        qmp := { s.qmp with sessions := usedSessions s hdr },
        fw := { s.fw with chain := flags.getLsbD 0, chainDone := false, phase := .loading, nextEngine := 0, reverting := false,
                          waitRetrain := false, waiting := some hdr } })) ∧
  (∀ (s : State) (hdr : QmpHdr) (x : Session),
    (runsNext s hdr .fwLockSet x →
      ∃ t, exec (.fwLockSet hdr) s = .next t ∧ answeredOnce s t hdr .fwLockSet x .ok (leBytes 1 (bit (ownerLock t))) ∧
        t.cf = (setOwnerLock s true).cf ∧ t.dram = s.dram ∧ t.host = s.host ∧ t.fw = s.fw) ∧
    (runsNext s hdr .fwLockClear x →
      (mayUnlock s hdr = true →
        ∃ t, exec (.fwLockClear hdr) s = .next t ∧ answeredOnce s t hdr .fwLockClear x .ok (leBytes 1 (bit (ownerLock t))) ∧
          t.cf = (setOwnerLock s false).cf ∧ t.dram = s.dram ∧ t.host = s.host ∧ t.fw = s.fw) ∧
      (mayUnlock s hdr = false →
        ∃ t, exec (.fwLockClear hdr) s = .next t ∧ answeredOnce s t hdr .fwLockClear x .notPermitted [] ∧ t.cf = s.cf)) ∧
    (runsNext s hdr .debugChallenge x → s.security.level ≠ .l0 → challengeBlocked s = false →
      ∃ t bs, exec (.debugChallenge hdr) s = .next t ∧ answeredOnce s t hdr .debugChallenge x .ok bs ∧ bs.length = 48 ∧
        t.security.challenge = some (bs, s.clock.now) ∧ t.security.dbg ≠ .authenticated ∧ t.security.level = s.security.level ∧
        t.dram = s.dram ∧ t.cf = s.cf) ∧
    (∀ (signature : List Byte) (bs : List Byte) (t0 : Nat), s.security.level ≠ .l0 → s.security.challenge = some (bs, t0) →
      due s t0 60000 = false →
      (runsNext s hdr (.debugResponse signature true) x →
        ∃ t, exec (.debugResponse hdr signature true) s = .next t ∧
          answeredOnce s t hdr (.debugResponse signature true) x .ok [] ∧ t.security = { s.security with
            challenge := none, dbg := .authenticated, fails := 0, sessions := satAdd 15 s.security.sessions 1,
            openedAt := s.clock.now } ∧ t.dram = s.dram ∧ t.cf = s.cf) ∧
      (runsNext s hdr (.debugResponse signature false) x →
        ∃ t, exec (.debugResponse hdr signature false) s = .next t ∧
          answeredOnce s t hdr (.debugResponse signature false) x .authFail [] ∧ t.security.challenge = none ∧
          t.security.fails = min 4 (s.security.fails + 1) ∧ t.security.dbg = s.security.dbg ∧
          (3 ≤ s.security.fails → t.security.blockedAt = some s.clock.now) ∧ t.dram = s.dram ∧ t.cf = s.cf)))

/-- R397, R398, R401, R409, R412 to R414: a package whose check passes is staged whole, one that fails it is discarded; an activation
loads, switches the engines one by one, hands the masthead over into probation, and is committed after 60 s; a fault turns it back.
Completes: packageVerifyComplete, bankLoadComplete, engineSwitch, mastheadHandoverComplete, probationEnd, bootCopyComplete.

When an activation's request is answered is the model's reading (notes/assumptions/61, notes/assumptions/62). -/
def Obligations.ActivationFollowsItsSteps : Prop :=
  (∀ (s : State) (g : Staging) (h : FwHeader) (sig dig : Bool), coreUp s = true → s.fw.staging = some g → g.whole = false →
    g.total ≤ g.missing → g.header = some h →
    ((headerValid h && sig && dig) = false →
      ∃ t, exec (.packageVerifyComplete sig dig) s = .next t ∧ t.fw.staging = none ∧ t.fw.phase = .idle ∧ t.fw.entry = .sigBad ∧
        t.cf = s.cf ∧ t.dram = s.dram) ∧
    (headerValid h = true → sig = true → dig = true →
      (h.svn < svnNeeded s →
        ∃ t, exec (.packageVerifyComplete sig dig) s = .next t ∧ t.fw.staging = none ∧ t.fw.entry = .refused ∧ t.fw.reasons = 64) ∧
      (svnNeeded s ≤ h.svn →
        ∃ t, exec (.packageVerifyComplete sig dig) s = .next t ∧ t.fw.staging = some { g with whole := true } ∧ t.fw.phase = .staged ∧
          t.fw.entry = .staged ∧ (if stagingHalf s then t.fw.imageB else t.fw.imageA) = some h ∧ t.cf = s.cf ∧ t.dram = s.dram))) ∧
  (∀ (s : State), coreUp s = true → s.fw.phase = .loading →
    exec .bankLoadComplete s = .next { s with fw := { s.fw with phase := .switching, nextEngine := 0 } }) ∧
  (∀ (s : State) (e : EngineId), maySwitch s = true → nextSwitch s s.fw.nextEngine = some e →
    (s.fw.reverting = false →
      exec (.engineSwitch true) s = .next { s with
        engines := { s.engines with eng := s.engines.eng.set e { s.engines.eng[e] with bankNew := true } },
        fw := { s.fw with nextEngine := e.val + 1 } } ∧
      exec (.engineSwitch false) s = .next { s with
        fw := { s.fw with phase := .switching, reverting := true, nextEngine := 0, cause := 2 } }) ∧
    (∀ accepted, s.fw.reverting = true → s.fw.waiting = none →
      (nextSwitch s (e.val + 1) = none →
        ∃ t, exec (.engineSwitch accepted) s = .next t ∧ t.fw.phase = .staged ∧ t.fw.entry = .reverted ∧ t.fw.running = s.fw.half ∧
          (∀ i : EngineId, t.engines.eng[i].bankNew = false) ∧ t.fw.staging = s.fw.staging ∧ t.cf = s.cf) ∧
      ((nextSwitch s (e.val + 1)).isSome = true →
        exec (.engineSwitch accepted) s = .next { s with
          engines := { s.engines with eng := s.engines.eng.set e { s.engines.eng[e] with bankNew := false } },
          fw := { s.fw with nextEngine := e.val + 1 } }))) ∧
  (∀ (s : State) (g : Staging) (h : FwHeader), s.fw.phase = .switching → s.fw.reverting = false → coreUp s = true → saving s = false →
    nextSwitch s s.fw.nextEngine = none → s.fw.staging = some g → g.header = some h →
    (s.fw.waiting = none →
      ∃ t, exec (.mastheadHandoverComplete true) s = .next t ∧ t.fw.phase = .probation ∧ t.fw.active = some h ∧
        t.fw.old = s.fw.active ∧ t.fw.running = stagingHalf s ∧ t.fw.probFrom = s.clock.opTime ∧ t.fw.entry = .probation ∧
        t.cf = s.cf ∧ t.dram = s.dram ∧ t.engines = s.engines) ∧
    exec (.mastheadHandoverComplete false) s = .next { s with
      fw := { s.fw with phase := .switching, reverting := true, nextEngine := 0, cause := 2 } }) ∧
  (∀ (s : State) (h : FwHeader), coreUp s = true → saving s = false →
    (s.fw.phase = .probation → 60000 + s.fw.probFrom ≤ s.clock.opTime → s.fw.active = some h →
      ∃ t, exec .probationEnd s = .next t ∧ t.fw.phase = (if h.bootLen = 0 then .idle else .bootCopy) ∧ t.fw.staging = none ∧
        t.fw.old = none ∧ t.fw.entry = .committed ∧ t.fw.half = s.fw.running ∧ t.fw.active = some h ∧
        (∀ i : EngineId, t.engines.eng[i].bankNew = false) ∧ t.dram = s.dram) ∧
    (∀ verifies, s.fw.phase = .bootCopy → (if s.fw.half then s.fw.imageB else s.fw.imageA) = some h →
      ∃ t, exec (.bootCopyComplete verifies) s = .next t ∧ t.fw.phase = .idle ∧ t.fw.bootDue = false ∧
        (match bootRecord s with
          | some r => (if r.2 then t.fw.boot0 else t.fw.boot1) = verifies
          | none => (if s.startup.twin then t.fw.boot0 else t.fw.boot1) = verifies) ∧
        (verifies = false → t.fw.boot0 = s.fw.boot0 ∨ t.fw.boot1 = s.fw.boot1) ∧ t.dram = s.dram ∧ t.engines = s.engines))

/-! ## Halyard -/

/-- R402 to R409: a HELLO brings a port up at the highest common version; the own HELLO goes out on both ports, and with the first one
after a save the credits that it withheld; a port that hears
nothing is down, and what is below it UNREACHABLE; a broken frame is dropped. Completes: hello, helloTimer, halyardPortDown,
halyardFrameTimeout.

When HALYARD_POSITION and withheld credits are sent is the model's reading (notes/assumptions/86). -/
def Obligations.HalyardPortsComeAndGo : Prop :=
  (∀ (s : State) (up : Bool) (versions : Word) (position chainLen : Nat) (part : BitVec 16) (fwVersion : Word), portsWork s = true →
    (commonVersion versions = 0 →
      ∃ t, exec (.hello up versions position chainLen part fwVersion) s = .next t ∧ t = { s with recorder := t.recorder }) ∧
    (commonVersion versions ≠ 0 →
      ∃ t, exec (.hello up versions position chainLen part fwVersion) s = .next t ∧
        (portOf t up).version = commonVersion versions ∧ (portOf t up).lastAt = s.clock.now ∧
        (portOf t up).peer = (if commonVersion versions = 2 then position else 0) ∧ portOf t (!up) = portOf s (!up) ∧
        (up = true → (portOf s up).version = 0 → saving s = false →
          .halyard true 3 (leBytes 4 s.fw.resumeAt ++ leBytes 1 8) ∈ t.out) ∧
        t = { withNotes s t with fw := t.fw, out := t.out })) ∧
  (∀ (s : State), portsWork s = true →
    let sent := s.out ++ [.halyard true 1 (helloPayload s)] ++ [.halyard false 1 (helloPayload s)]
    (saving s = true ∨ s.fw.up.withheld = 0 ∧ s.fw.relayed = none → exec .helloTimer s = .next { s with out := sent }) ∧
    (saving s = false → s.fw.up.withheld ≠ 0 → s.fw.up.version ≠ 0 → s.fw.relayed = none →
      exec .helloTimer s = .next { s with
        fw := { s.fw with up := { s.fw.up with withheld := 0 } },
        out := sent ++ [.halyard true 3 (leBytes 4 s.fw.resumeAt ++ leBytes 1 s.fw.up.withheld)] })) ∧
  (∀ (s : State) (up : Bool), portUp s up = true → due s (portOf s up).lastAt 1000 = true →
    ∃ t, exec (.halyardPortDown up) s = .next t ∧ (portOf t up).version = 0 ∧ portOf t (!up) = portOf s (!up) ∧
      (up = false → ∀ e ∈ t.fw.entries, e.run = .unreachable) ∧ (up = true → t.fw.entries = s.fw.entries) ∧
      t = { withNotes s t with fw := t.fw, out := t.out }) ∧
  (∀ (s : State) (up : Bool) (at_ : Nat), (portOf s up).partialAt = some at_ → due s at_ 2000 = true →
    ∃ t, exec (.halyardFrameTimeout up) s = .next t ∧ portOf t up = { portOf s up with partialAt := none, pieces := [] } ∧
      portOf t (!up) = portOf s (!up) ∧ t = { s with fw := t.fw })

/-- R403 to R405, R408, R409: a chunk whose CRC-32 fails is counted and its credit returned; one in order moves RESUME_AT on and, as
this module's own next chunk, is staged; a CREDIT drops what has left for good; ACTIVATE and STATUS are applied here and passed on;
and 10 s after the last chunk a position without an entry is UNREACHABLE. Completes: chunk, credit, activate, status,
chainReportTimeout.

When the report timeout runs is the model's reading (notes/assumptions/86). -/
def Obligations.HalyardRelaysTheChain : Prop :=
  (∀ (s : State) (package offset total crc : Word) (data : List Byte) (k : HyChunk),
    k = { package := package, offset := offset.toNat, total := total.toNat, crc := crc, data := data } →
    portUp s true = true → s.fw.up.version = 2 → saving s = false →
    (crc32 data ≠ crc ∨ chunkFormed k = false →
      ∃ t, exec (.chunk package offset total crc data) s = .next t ∧ t.fw.crcErr = satAdd 8 s.fw.crcErr 1 ∧
        t.fw.staging = s.fw.staging ∧ t.fw.resumeAt = s.fw.resumeAt ∧ t.cf = s.cf ∧
        t.out = s.out ++ [.halyard true 3 (leBytes 4 s.fw.resumeAt ++ leBytes 1 1)]) ∧
    (crc32 data = crc → chunkFormed k = true → (newStream s k = true ∨ k.offset ≤ s.fw.resumeAt) →
      ∃ t, exec (.chunk package offset total crc data) s = .next t ∧
        t.fw.resumeAt = max (if newStream s k then 0 else s.fw.resumeAt) (k.offset + data.length) ∧
        .halyard true 3 (leBytes 4 t.fw.resumeAt ++ leBytes 1 1) ∈ t.out ∧ t.dram = s.dram ∧
        (k.offset = 0 → s.fw.staging = none → (s.fw.active.any fun h => h.packageId == package) = false → chunkReasons s k = 0 →
          (t.fw.staging.map fun g => (g.packageId, g.missing)) = some (package, data.length) ∧ t.fw.phase = .staging))) ∧
  (∀ (s : State) (resumeAt : Word) (credits : Nat), portUp s false = true →
    ∃ t, exec (.credit resumeAt credits) s = .next t ∧ (∀ k ∈ t.fw.relayQ, resumeAt.toNat ≤ k.offset) ∧
      (s.fw.relayed = none → t.fw.dn.credits = min 8 (s.fw.dn.credits + credits) ∧ t.out = s.out) ∧
      t = { s with fw := t.fw, out := t.out }) ∧
  (∀ (s : State) (package : Word), portUp s true = true → inCrocus s = false → alreadyActive s package = false →
    bothHalvesUsed s = false → s.fw.staging = none →
    ∃ t, exec (.activate package) s = .next t ∧ t.fw.entry = .notStaged ∧ t.fw.chain = true ∧
      (s.fw.dn.version ≠ 0 → .halyard false 4 (leBytes 4 package.toNat) ∈ t.out) ∧ t = { s with fw := t.fw, out := t.out }) ∧
  (∀ (s : State) (position code reasons : Nat) (r : EntryRun), portUp s false = true → entryRunOf code = some r →
    ∃ t, exec (.status [(position, code, reasons)]) s = .next t ∧
      t.fw.entries = (s.fw.entries.filter fun e => e.position != position) ++ [⟨position, r, reasons % 65536⟩] ∧
      t = { withNotes s t with fw := t.fw, out := t.out }) ∧
  (∀ (s : State) (g : Staging), portsWork s = true → s.fw.reportDone = false → s.fw.lastRelayAt = none → s.fw.staging = some g →
    due s g.lastAt 10000 = true →
    ∃ t, exec .chainReportTimeout s = .next t ∧ t.fw.reportDone = true ∧
      (∀ p ∈ missingPositions s, (⟨p, .unreachable, 0⟩ : StatusEntry) ∈ t.fw.entries) ∧ (∀ e ∈ s.fw.entries, e ∈ t.fw.entries) ∧
      t = { withNotes s t with fw := t.fw, out := t.out })

/-! ## Protection level and debug -/

/-- R422 to R424, Table 18-4, Table 18-9: an admin link raises the level at once, and lowers it only when it was armed within 100 ms;
a lowering clears DRAM with the metadata area, then erases what is not kept, and the start-up that follows finds no boot block.

R429, R430, R432: CLOSE and the 8 h limit end a debug session; at L0 CLOSE closes the port until the next start-up. The TAP takes an
instruction, and BYPASS for one that would drive pins where none is accepted; its reset selects IDCODE and ends no session. Completes:
secLevelRaise, secLevelArm, secLevelLower, loweringDramClearComplete, loweringEraseComplete, close, debugSessionExpiry,
tapInstruction, tapReset.

The numbers of the TAP's instructions are the model's choice (notes/assumptions/87). -/
def Obligations.ProtectionLevelAndDebugPortAct : Prop :=
  ((∀ (s : State) (link : Link) (value : Word), regServes s link 0x1000 = true → s.security.lowering = false →
    (armOf value = 0 → levelCode s.security.level < reqOf value → reqOf value < 3 → adminLink s link = true → levelState s = true →
      ∃ t, exec (.secLevelRaise link value) s = .next t ∧ t.security.level = levelOfCode (reqOf value) ∧ t.security.result = 1 ∧
        t.security.dbg = .closed ∧ t.cf = (writeLevel s true (levelOfCode (reqOf value))).cf ∧ t.dram = s.dram ∧ t.host = s.host) ∧
    (armOf value = 0xA5 → adminLink s link = true → levelState s = true →
      exec (.secLevelArm link value) s = .next { s with
        security := { s.security with armedAt := some s.clock.now, result := 3, refuse := 0 } }) ∧
    (armOf value ≠ 0 → armOf value ≠ 0xA5 → exec (.secLevelArm link value) s = .next s) ∧
    (armOf value = 0 → reqOf value < levelCode s.security.level → adminLink s link = true → levelState s = true →
      ((s.security.armedAt.any fun t0 => !due s t0 101) = false →
        exec (.secLevelLower link value) s = .next { s with
          security := { s.security with result := 2, refuse := 3, armedAt := none } }) ∧
      ((s.security.armedAt.any fun t0 => !due s t0 101) = true → fwPhaseOk s = true →
        (s.security.level = .l2 → s.security.dbg = .authenticated) →
        ∃ t, exec (.secLevelLower link value) s = .next t ∧ t.security.lowering = true ∧ t.security.step = 1 ∧
          t.security.target = levelOfCode (reqOf value) ∧ t.security.level = s.security.level ∧ t.security.dbg = .closed ∧
          t.host.stopped = true ∧ (∀ l : Link, t.host.link[l].heldIdle = true ∧ t.host.link[l].memActive = false) ∧ t.cf = s.cf))) ∧
  (∀ (s : State), s.security.lowering = true → s.rails.downThen = none →
    (s.security.step = 1 ∨ s.security.step = 3 →
      ∃ t, exec .loweringDramClearComplete s = .next t ∧ t.dram.mem = [] ∧ t.flash.manifest = [] ∧ t.host.labels = [] ∧
        t.persist.dirty = [] ∧ t.security.step = 4 ∧ (s.security.step = 1 → t.security.key = none) ∧
        t.security.level = s.security.level) ∧
    (s.security.step = 4 → bootRailsUp s = true → s.button.mrLow = false → s.button.mrLatched = false →
      ∃ t, exec .loweringEraseComplete s = .next t ∧ t.security.lowering = false ∧ t.power.state = .crocus ∧ t.dram.mem = [] ∧
        t.security.key = none ∧ t.fw.imageA = none ∧ t.fw.imageB = none ∧ t.fw.boot0 = false ∧ t.fw.boot1 = false))) ∧
  ((∀ (s : State) (link : Link), regServes s link 0x1004 = true →
    (isAdmin s link = false → exec (.close link) s = .next s) ∧
    (isAdmin s link = true → s.security.dbg = .authenticated →
      ∃ t, exec (.close link) s = .next t ∧ t.security = { s.security with dbg := .closed, endCause := 5 } ∧
        t = { withNotes s t with security := t.security }) ∧
    (isAdmin s link = true → s.security.dbg ≠ .authenticated → s.security.level = .l0 →
      exec (.close link) s = .next { s with security := { s.security with dbg := .closed, closed0 := true } })) ∧
  (∀ (s : State), s.security.dbg = .authenticated → due s s.security.openedAt 28800000 = true →
    ∃ t, exec .debugSessionExpiry s = .next t ∧ t.security = { s.security with dbg := .closed, endCause := 6 } ∧
      t = { withNotes s t with security := t.security }) ∧
  (∀ (s : State) (code : Fin 7), tapPowered s = true →
    ((drivesPins (tapOf code) = false ∨ mayDrivePins s = true) →
      exec (.tapInstruction code) s = .next { s with security := { s.security with tap := tapOf code } }) ∧
    (drivesPins (tapOf code) = true → mayDrivePins s = false →
      exec (.tapInstruction code) s = .next { s with security := { s.security with tap := .bypass, scanRefused := true } }) ∧
    exec .tapReset s = .next { s with security := { s.security with tap := .idcode } }))

/-! ## Two-wire buses -/

/-- R442 to R448, Table 19-8: a message that is not acknowledged goes again after 1 ms, up to three times, and is then given up; one
that loses the bus goes again when the bus is free, with its number kept; a target error abandons the packet and is counted; and an
alert is answered with the controller's address, withdrawn when it wins. Completes: smbNack, smbResend, smbArbitrationLost, arbSr,
smbBusFree, smbRepeatedStartError, smbTargetTimeout, smbAlertResponse.

How long a message counts as being sent is the model's choice (notes/assumptions/36). -/
def Obligations.SmbusTransfersAreRepeated : Prop :=
  (∀ (s : State) (m : SmbMsg) (n tag : Nat), s.smb.current = some (m, n, tag) →
    (s.smb.state = .sending → n < 4 →
      exec .smbNack s = .next { s with smb := { s.smb with state := .idle, failedAt := s.clock.now } }) ∧
    (s.smb.state = .sending → 4 ≤ n → s.smb.queue = [] →
      ∃ t, exec .smbNack s = .next t ∧ t.smb.current = none ∧ t.smb.state = .idle ∧ t.smb.nacked = satAdd 8 s.smb.nacked 1 ∧
        ((∃ a q, m = .notice a q) → t.smb.alert = true) ∧
        (∀ a q, m = .notice a q → ∀ k ∈ t.notices.pend, k.seq = q → k.smbHeld = some s.notices.nextSeq) ∧
        t = { s with smb := t.smb, notices := { s.notices with pend := t.notices.pend } } ∧
        ((∀ a q, m ≠ .notice a q) → t.notices = s.notices)) ∧
    (s.smb.state = .idle → s.smb.stuck = false → s.smb.failedAt + 1 ≤ s.clock.now →
      exec .smbResend s = .next { s with
        smb := { s.smb with state := .sending, current := some (m, n + 1, tag) }, out := s.out ++ [smbOutput s m] }) ∧
    (s.smb.state = .sending →
      exec .smbArbitrationLost s = .next { s with smb := { s.smb with state := .waitFree, arb := satAdd 8 s.smb.arb 1 } } ∧
      ∃ t, exec .arbSr s = .next t ∧ t.smb = { s.smb with state := .waitFree, arbSr := satAdd 8 s.smb.arbSr 1 } ∧
        t = { s with smb := t.smb, recorder := t.recorder }) ∧
    (s.smb.state = .waitFree → s.smb.stuck = false → 1 ≤ n →
      exec .smbBusFree s = .next { s with
        smb := { s.smb with state := .sending, current := some (m, n, tag) }, out := s.out ++ [smbOutput s m] })) ∧
  (∀ (s : State), s.power.aon = true →
    (∃ t, exec .smbRepeatedStartError s = .next t ∧ t.smb.rsAck = satAdd 8 s.smb.rsAck 1 ∧ t.smb.state ≠ .receiving ∧
      (∀ p, p ∈ t.qmp.partials ↔ p ∈ s.qmp.partials ∧ p.carrier ≠ .smbus) ∧
      t = { s with smb := t.smb, recorder := t.recorder, qmp := { s.qmp with partials := t.qmp.partials } }) ∧
    (∃ t, exec .smbTargetTimeout s = .next t ∧ t.smb.timeout = satAdd 8 s.smb.timeout 1 ∧ t.smb.state ≠ .receiving ∧
      (∀ p, p ∈ t.qmp.partials ↔ p ∈ s.qmp.partials ∧ p.carrier ≠ .smbus) ∧
      t = { s with smb := t.smb, qmp := { s.qmp with partials := t.qmp.partials } }) ∧
    (∀ won, s.smb.alert = true →
      exec (.smbAlertResponse won) s = .next { s with
        smb := { s.smb with alert := !won }, out := s.out ++ [.alertResponse (BitVec.ofNat 8 (2 * smbAddress s))] }))

/-- R455 to R459: the alert pin is watched again after 1 s; a regulator's STATUS_WORD is logged when it changes, and one that does not
answer is polled no more; a stretched clock is counted and followed by a bus clear; and a stuck bus, tried again every 60 s, is in
service again once it clears. Completes: lbAlertUnmask, regulatorPoll, clockStretchTimeout, busClearRetry. -/
def Obligations.LocalBusRecovers : Prop :=
  (∀ (s : State), s.lb.alertMasked = true → due s s.lb.maskedAt 1000 = true →
    exec .lbAlertUnmask s = .next { s with lb := { s.lb with alertMasked := false } }) ∧
  (∀ (s : State) (r : Rail), s.lb.state = .inService → coreUp s = true → s.rails.rail[r].run = .qualified → r.val ≠ 0 →
    s.lb.regSilent.contains r = false →
    (∃ t, exec (.regulatorPoll r none) s = .next t ∧ t.lb.regSilent = s.lb.regSilent ++ [r] ∧ t.lb.nack = satAdd 8 s.lb.nack 1 ∧
      t = { s with lb := t.lb, recorder := t.recorder }) ∧
    (∀ w, lastStatus s r = some w → exec (.regulatorPoll r (some w)) s = .next s) ∧
    (∀ w, lastStatus s r ≠ some w →
      ∃ t, exec (.regulatorPoll r (some w)) s = .next t ∧ lastStatus t r = some w ∧ (∀ k, k ≠ r → lastStatus t k = lastStatus s k) ∧
        t = { s with lb := { s.lb with regStatus := t.lb.regStatus }, recorder := t.recorder })) ∧
  (∀ (s : State) (a : BitVec 7), s.power.aon = true →
    (s.lb.state ≠ .stuck → s.startup.settings = none →
      ∃ t, exec (.clockStretchTimeout true a .idle) s = .next t ∧ t.lb = { s.lb with
          timeout := satAdd 8 s.lb.timeout 1, lastAddr := a, clear := satAdd 8 s.lb.clear 1, pointers := [], chargerSet := false } ∧
        t = { s with lb := t.lb, recorder := t.recorder }) ∧
    (s.lb.state ≠ .stuck → ∀ scl, readingSheet s = false →
      ∃ t, exec (.clockStretchTimeout true a (.stuck scl)) s = .next t ∧ t.lb.state = .stuck ∧
        t.lb.stuckCount = satAdd 8 s.lb.stuckCount 1 ∧ t.lb.stuckSince = s.clock.now ∧ t.charger.run ≠ .charging ∧ t.dram.mem = s.dram.mem)) ∧
  (∀ (s : State) (a : BitVec 7) (m : SmbMsg) (n tag : Nat), s.smb.state = .sending → s.smb.current = some (m, n, tag) → n < 4 →
    s.smb.stuck = false →
    (∃ t, exec (.clockStretchTimeout false a .idle) s = .next t ∧ t.smb.timeout = satAdd 8 s.smb.timeout 1 ∧ t.smb.state = .idle ∧
      t.smb.current = some (m, n, tag) ∧ t = { s with smb := t.smb, recorder := t.recorder }) ∧
    (∀ scl, ∃ t, exec (.clockStretchTimeout false a (.stuck scl)) s = .next t ∧ t.smb.stuck = true ∧ t.smb.state = .idle ∧
      t = { s with smb := t.smb, recorder := t.recorder, notices := t.notices })) ∧
  (∀ (s : State), (s.lb.state = .stuck → due s s.lb.retryAt 60000 = true →
      (∃ t, exec (.busClearRetry true .idle) s = .next t ∧ t.lb = { s.lb with
          state := .inService, clear := satAdd 8 s.lb.clear 1, retryAt := s.clock.now, pointers := [], chargerSet := false } ∧
        t = { withNotes s t with lb := t.lb }) ∧
      ∀ scl, exec (.busClearRetry true (.stuck scl)) s = .next { s with
        lb := { s.lb with clear := satAdd 8 s.lb.clear 1, retryAt := s.clock.now } }) ∧
    (s.smb.stuck = true → s.power.aon = true → due s s.smb.retryAt 60000 = true →
      (∃ t, exec (.busClearRetry false .idle) s = .next t ∧ t.smb.stuck = false ∧ t.smb.clear = satAdd 8 s.smb.clear 1 ∧
        t.smb.retryAt = s.clock.now ∧ t = { s with smb := t.smb, out := t.out }) ∧
      ∀ scl, exec (.busClearRetry false (.stuck scl)) s = .next { s with
        smb := { s.smb with clear := satAdd 8 s.smb.clear 1, retryAt := s.clock.now } }))

/-! ## Register block -/

/-- R469 to R472, R252, R203, R498: HOLDFLAG switches once every crossing has; TAKE freezes the group that is written with it for 10
ms; a read of a latching register answers and latches the rest of its group from the same moment; a FIFO works again once both of its
sides have left reset. Completes: holdflag, hfSwitchComplete, take, release, snapshotExpiry, flGenLatch, planInfoLatch, optimeLatch,
esbWindowLatch, fifoResync.

Which events of the two sides end a FIFO's reset handshake is the model's reading (notes/assumptions/72). -/
def Obligations.SnapshotsAndLatchesHoldOneMoment : Prop :=
  (∀ (s : State) (link : Link) (value : Bool),
    (blockServes s link = true →
      exec (.holdflag link value) s = .next { s with crossings := { s.crossings with holdflag := value } }) ∧
    (coreUp s = true →
      exec .hfSwitchComplete s = .next { s with crossings := { s.crossings with hfActive := s.crossings.holdflag } })) ∧
  (∀ (s : State) (link : Link) (group : Fin 16), blockServes s link = true →
    ((group.val = 0 ∨ 5 < group.val) →
      exec (.take link group) s = .next { s with
        host := { s.host with fn := vecMod s.host.fn link fun f => { f with snapGroup := group.val } } }) ∧
    (1 ≤ group.val → group.val ≤ 5 →
      ∃ t p, exec (.take link group) s = .next t ∧ t.host.fn[link].snap = some p ∧ p.group = group.val ∧ p.at_ = s.clock.now ∧
        t.host.fn[link].snapSeq = (s.host.fn[link].snapSeq + 1) % 256 ∧ (∀ l, l ≠ link → t.host.fn[l] = s.host.fn[l]) ∧
        t = { s with host := { s.host with fn := t.host.fn } }) ∧
    exec (.release link) s = .next { s with host := { s.host with fn := vecMod s.host.fn link fun f => { f with snap := none } } } ∧
    (∀ p, s.host.fn[link].snap = some p →
      (due s p.at_ 10 = true →
        exec (.snapshotExpiry link) s = .next { s with
          host := { s.host with fn := vecMod s.host.fn link fun f => { f with snap := none } } }) ∧
      (due s p.at_ 10 = false → exec (.snapshotExpiry link) s = .next s))) ∧
  (∀ (s : State) (link : Link), blockServes s link = true → s.host.fn[link].snap = none →
    exec (.flGenLatch link) s = .next { s with
      host := { s.host with fn := vecMod s.host.fn link fun f =>
        { f with genHi := BitVec.ofNat 32 ((newestSealed s).toNat / 2 ^ 32) } },
      out := s.out ++ [.register link 0x0A08 (hostReg s link 0x0A08).toNat] } ∧
    (∃ t, exec (.planInfoLatch link) s = .next t ∧
      t.host.fn[link].planMarks = (List.range 4).map (fun i => (planMarkRegs s).getD i 0) ∧
      t = { s with host := { s.host with fn := t.host.fn }, out := s.out ++ [.register link 0x0290 (hostReg s link 0x0290).toNat] }) ∧
    exec (.optimeLatch link) s = .next { s with
      host := { s.host with fn := vecMod s.host.fn link fun f => { f with optimeHi := BitVec.ofNat 32 (s.clock.opTime / 2 ^ 32 % 65536) } },
      out := s.out ++ [.register link 0x0E30 (hostReg s link 0x0E30).toNat] }) ∧
  (∀ (s : State) (link : Link) (endRead : Bool), blockServes s link = true →
    ∃ t, exec (.esbWindowLatch link endRead) s = .next t ∧ t.pack = { s.pack with accessAt := s.clock.now, hibernate := false } ∧
      (if endRead = false ∧ (s.host.fn[link].esbAt.any fun t0 => !due s t0 10) = true then t.host = s.host
        else t.host.fn[link].esb = esbBlock (touchEstimator s) ∧ t.host.fn[link].esbAt = some s.clock.now) ∧
      t.out = s.out ++ [.register link 0x0500 (hostReg { s with host := t.host, pack := t.pack } link 0x0500).toNat] ∧
      t = { s with host := { s.host with fn := t.host.fn }, pack := t.pack, out := t.out }) ∧
  (∀ (s : State) (fifo : Nat) (far : Bool),
    (∀ near, kvGet s.crossings.fifos fifo = none → near = !far →
      exec (.fifoResync fifo far) s = .next { s with
        crossings := { s.crossings with fifos := kvSet s.crossings.fifos fifo (near, far) } }) ∧
    (kvGet s.crossings.fifos fifo = some (far, !far) →
      exec (.fifoResync fifo far) s = .next { s with
        crossings := { s.crossings with fifos := kvErase s.crossings.fifos fifo } }))

/-- R96, R499 to R501: an access that is not naturally aligned reads all ones or writes nothing, and is logged at most once a second
for its function; an aligned write reaches the writable fields of its word alone, a written 1 clears a clearing field, and a word
without writable fields ignores it.

R86: an MSI-X vector that is unmasked sends its pending message. Where the MSI-X table lies among the offsets is the model's choice
(notes/assumptions/101). Completes: unalignedAccess, registerWrite, dcPdWrite. -/
def Obligations.RegisterWritesReachTheirFields : Prop :=
  (∀ (s : State) (link : Link) (isWrite : Bool) (offset size : Nat), blockReached s link = true → aligned offset size = false →
    ∃ t, exec (.unalignedAccess link isWrite offset size) s = .next t ∧
      t.out = s.out ++ (if isWrite then [] else [.register link offset (2 ^ (8 * size) - 1)]) ∧
      (∀ l, l ≠ link → t.host.fn[l] = s.host.fn[l]) ∧
      t = { s with host := { s.host with fn := t.host.fn }, recorder := t.recorder, out := t.out }) ∧
  (∀ (s : State) (link : Link) (value : DWord) (v : Word), blockReached s link = true → inCrocus s = false → v = value.setWidth 32 →
    (s.power.minimal = false →
      exec (.registerWrite link 0x0860 4 value) s = .next { s with dram := { s.dram with pdTimer := v.setWidth 16 } }) ∧
    exec (.registerWrite link 0x0E00 4 value) s = .next { s with
      recorder := { s.recorder with drops := if v.setWidth 16 = 0#16 then s.recorder.drops else 0 } } ∧
    exec (.registerWrite link 0x1400 4 value) s = .next { s with crossings := { s.crossings with holdflag := v.getLsbD 0 } } ∧
    exec (.registerWrite link 0x0C0C 4 value) s = .next { s with
      host := { s.host with fn := vecMod s.host.fn link fun f =>
        { f with ringHead := if f.ringSize ≤ (v.setWidth 16).toNat then f.ringHead else (v.setWidth 16).toNat } } } ∧
    exec (.registerWrite link 0x0E0C 4 value) s = .next { s with
      host := { s.host with fn := vecMod s.host.fn link fun f => { f with logSel := v, logSelState := .fetching } } } ∧
    (∀ off, off % 4 = 0 → off < 4096 → off ∉ [0x0180, 0x0194, 0x02C4, 0x040C, 0x0860, 0x0888, 0x0C00, 0x0C04, 0x0C08, 0x0C0C, 0x0C10,
        0x0E00, 0x0E0C] → exec (.registerWrite link off 4 value) s = .next s)) ∧
  (∀ (s : State) (link : Link) (value : Word), blockReached s link = true → inCrocus s = false → s.power.minimal = false →
    exec (.dcPdWrite link value) s = .next { s with dram := { s.dram with pdTimer := value.setWidth 16 } }) ∧
  (∀ (s : State) (link : Link) (vec : Fin 8) (value : DWord), blockReached s link = true → value.getLsbD 0 = false →
    s.host.link[link].msixMask.getLsbD vec.val = true → s.host.link[link].msixPend.getLsbD vec.val = true →
    ∃ t, exec (.registerWrite link (0x1000C + 16 * vec.val) 4 value) s = .next t ∧ t.host.link[link].msixMask.getLsbD vec.val = false ∧
      t.host.link[link].msixPend.getLsbD vec.val = false ∧ (∀ k, k ≠ link → t.host.link[k] = s.host.link[k]) ∧
      t = { s with host := { s.host with link := t.host.link }, out := s.out ++ [.msix link vec.val] }) ∧
  (∀ (s : State) (link : Link) (off : Nat) (value : DWord), off % 8 = 0 → inTables off = false →
    ∃ t, exec (.registerWrite link off 4 value) s = .next t ∧
      exec (.registerWrite link off 8 value) s = exec (.registerWrite link (off + 4) 4 (value >>> 32)) t)

/-! ## The machine -/

/-- A step takes the command at the front of the queue and runs it on the state with the queue's rest; on an empty queue the block
idles for 1 ms (the model's choice, notes/assumptions/2). -/
def Obligations.StepRunsTheFrontCommand : Prop :=
  (∀ (s : State) (c : Instr) (rest : List Instr), s.pending = c :: rest → step s = exec c { s with pending := rest }) ∧
  (∀ (s : State), s.pending = [] → s.security.lowering = false →
    ∃ t, step s = .next t ∧ t.clock.now = s.clock.now + 1 ∧ t.pending = [] ∧ t.dram = s.dram ∧ t.host = s.host ∧ t.persist = s.persist)

/-- No command changes what waits in the queue: whatever it does, it leaves the queue as it found it. -/
def Obligations.CommandsLeaveTheQueue : Prop :=
  ∀ (c : Instr) (s t : State), exec c s = .next t → t.pending = s.pending

/-- Every command is executed: none is refused and none ends in a fault, in any state. Each step from a state whose memory and parity
lines are in their canonical form and whose recorder's buffers fit (R367, R368) ends in such a state.

That no command is refused is the model's reading (notes/assumptions/8). -/
def Obligations.EveryStepKeepsTheStateSound : Prop :=
  ∀ (s : State), s.sound → ∃ t, step s = .next t ∧ t.sound

/-- The state after reset is sound, and holds nothing that waits: no command, no dirty granule, no byte of DRAM, no notice.

Reset values that the spec does not give are the model's choice (notes/assumptions/1). -/
def Obligations.ResetStateIsSound : Prop :=
  State.reset.sound ∧ State.reset.pending = [] ∧ State.reset.persist.dirty = [] ∧ (∀ a, readByte State.reset.dram.mem a = 0) ∧
    State.reset.notices.pend = []

/-- R504: after reset every register of Table 22-3 with a fixed Reset value reads as its Reset column says, through every function,
and so do the default requester IDs. -/
def Obligations.ResetRegistersReadTheirResetColumn : Prop :=
  (∀ (l : Link), ∀ p ∈ resetColumn, hostReg State.reset l p.1 = p.2) ∧
  (∀ (l : Link) (k : Fin 8), hostReg State.reset l (0x4000 + 4 * (0xFF0 + k.val)) = BitVec.ofNat 32 (0x80000000 + 0x100 * k.val + 2 ^ k.val)) ∧
  (∀ (l : Link) (id : Nat), id < 0xFF0 → hostReg State.reset l (0x4000 + 4 * id) = 0)
end

