-- ==== Sys2Proof/Laws/Memory.lean ====
section
/-! SUPPORT. The bytes of usable DRAM: every operation keeps the canonical form, a read after a write gives what was
written, and a write leaves every other byte alone. -/

namespace Sys2Proof.Machine

open Sys2Proof

/-- The canonical form in words: addresses strictly rising, and no byte 0. -/
theorem memory_wf_iff (m : List Host.Cell) :
    Memory.wf m = true ↔ m.Pairwise (fun a b => a.1 < b.1) ∧ ∀ c ∈ m, c.2 ≠ 0 := by
  induction m with
  | nil => simp [Memory.wf]
  | cons c t ih =>
    obtain ⟨a, v⟩ := c
    cases t with
    | nil => simp [Memory.wf]
    | cons d u =>
      obtain ⟨b, w⟩ := d
      rw [Memory.wf, Bool.and_eq_true, Bool.and_eq_true, ih]
      constructor
      · rintro ⟨⟨hv, hab⟩, hp, hz⟩
        have hab : a < b := of_decide_eq_true hab
        refine ⟨List.pairwise_cons.2 ⟨fun x hx => ?_, hp⟩, fun x hx => ?_⟩
        · rcases List.mem_cons.1 hx with rfl | hx
          · exact hab
          · exact Nat.lt_trans hab ((List.pairwise_cons.1 hp).1 x hx)
        · rcases List.mem_cons.1 hx with rfl | hx
          · simpa using hv
          · exact hz x hx
      · rintro ⟨hp, hz⟩
        have h := List.pairwise_cons.1 hp
        exact ⟨⟨by simpa using hz (a, v) (by simp), by simpa using h.1 (b, w) (by simp)⟩, h.2,
          fun x hx => hz x (List.mem_cons_of_mem _ hx)⟩

/-- Taking cells out keeps the canonical form. -/
theorem memory_wf_filter {m : List Host.Cell} (p : Host.Cell → Bool) (h : Memory.wf m = true) :
    Memory.wf (m.filter p) = true := by
  rw [memory_wf_iff] at h ⊢
  exact ⟨h.1.filter p, fun c hc => h.2 c ((List.mem_filter.1 hc).1)⟩

/-- A cell of memory after a byte's write is the byte written or a cell of before. -/
theorem mem_writeByte {m : List Host.Cell} {a : Nat} {v : Byte} {c : Host.Cell} (h : c ∈ writeByte m a v) :
    (c = (a, v) ∧ v ≠ 0) ∨ c ∈ m := by
  induction m with
  | nil =>
    simp only [writeByte] at h
    split at h
    · simp at h
    · exact .inl ⟨by simpa using h, ‹_›⟩
  | cons d t ih =>
    obtain ⟨k, b⟩ := d
    simp only [writeByte] at h
    split at h
    · split at h
      · exact .inr h
      · rcases List.mem_cons.1 h with rfl | h
        · exact .inl ⟨rfl, ‹_›⟩
        · exact .inr h
    · split at h
      · split at h
        · exact .inr (List.mem_cons_of_mem _ h)
        · rcases List.mem_cons.1 h with rfl | h
          · exact .inl ⟨rfl, ‹_›⟩
          · exact .inr (List.mem_cons_of_mem _ h)
      · rcases List.mem_cons.1 h with rfl | h
        · exact .inr (by simp)
        · exact (ih h).imp id (List.mem_cons_of_mem _)

/-- A byte's write keeps the canonical form. -/
theorem memory_wf_writeByte {m : List Host.Cell} (a : Nat) (v : Byte) (h : Memory.wf m = true) :
    Memory.wf (writeByte m a v) = true := by
  rw [memory_wf_iff] at h ⊢
  refine ⟨?_, fun c hc => (mem_writeByte hc).elim (fun e => by rw [e.1]; exact e.2) (h.2 c)⟩
  have hp := h.1
  clear h
  induction m with
  | nil => simp only [writeByte]; split <;> simp
  | cons d t ih =>
    obtain ⟨k, b⟩ := d
    have hc := List.pairwise_cons.1 hp
    simp only [writeByte]
    split
    · split
      · exact hp
      · refine List.pairwise_cons.2 ⟨fun x hx => ?_, hp⟩
        rcases List.mem_cons.1 hx with rfl | hx
        · assumption
        · exact Nat.lt_trans ‹_› (hc.1 x hx)
    · split
      · subst a
        split
        · exact hc.2
        · exact List.pairwise_cons.2 ⟨hc.1, hc.2⟩
      · refine List.pairwise_cons.2 ⟨fun x hx => ?_, ih hc.2⟩
        rcases mem_writeByte hx with ⟨rfl, _⟩ | hx
        · dsimp only; omega
        · exact hc.1 x hx

/-- A byte string's write keeps the canonical form. -/
theorem memory_wf_writeBytes (bs : List Byte) {m : List Host.Cell} (a : Nat) (h : Memory.wf m = true) :
    Memory.wf (writeBytes m a bs) = true := by
  induction bs generalizing m a with
  | nil => exact h
  | cons v t ih => exact ih _ (memory_wf_writeByte a v h)

/-- A line's write keeps the canonical form. -/
theorem memory_wf_writeLine {m : List Host.Cell} (n : Nat) (d : Line) (h : Memory.wf m = true) :
    Memory.wf (writeLine m n d) = true := memory_wf_writeBytes _ _ h

/-- Writing cells keeps the canonical form. -/
theorem memory_wf_writeCells (cs : List Host.Cell) {m : List Host.Cell} (base : Nat) (h : Memory.wf m = true) :
    Memory.wf (writeCells m base cs) = true := by
  unfold writeCells
  induction cs generalizing m with
  | nil => exact h
  | cons c t ih => exact ih (memory_wf_writeByte _ _ h)

theorem memory_wf_clearRange {m : List Host.Cell} (a n : Nat) (h : Memory.wf m = true) : Memory.wf (clearRange m a n) = true :=
  memory_wf_filter _ h

theorem memory_wf_xorByte {m : List Host.Cell} (a : Nat) (v : Byte) (h : Memory.wf m = true) : Memory.wf (xorByte m a v) = true :=
  memory_wf_writeByte a _ h

/-- An address below every listed one reads 0. -/
theorem readByte_below {m : List Host.Cell} {a : Nat} (h : ∀ c ∈ m, a < c.1) : readByte m a = 0 := by
  cases m with
  | nil => rfl
  | cons d t =>
    obtain ⟨k, b⟩ := d
    have hk : a < k := h (k, b) (by simp)
    simp only [readByte]
    rw [if_neg (by omega), if_pos hk]

/-- A read after a write of the same byte gives the byte written. -/
theorem readByte_writeByte_same {m : List Host.Cell} (a : Nat) (v : Byte) (h : Memory.wf m = true) :
    readByte (writeByte m a v) a = v := by
  have hp := ((memory_wf_iff m).1 h).1
  clear h
  induction m with
  | nil =>
    simp only [writeByte]
    split
    · subst v; rfl
    · simp [readByte]
  | cons d t ih =>
    obtain ⟨k, b⟩ := d
    have hc := List.pairwise_cons.1 hp
    simp only [writeByte]
    split
    · split
      · subst v; simp only [readByte]; rw [if_neg (by omega), if_pos ‹_›]
      · simp [readByte]
    · split
      · subst a
        split
        · subst v; exact readByte_below hc.1
        · simp [readByte]
      · simp only [readByte]
        rw [if_neg ‹_›, if_neg ‹_›]
        exact ih hc.2

/-- A write of one byte leaves every other byte alone. -/
theorem readByte_writeByte_ne {m : List Host.Cell} {a x : Nat} (v : Byte) (hx : x ≠ a) (h : Memory.wf m = true) :
    readByte (writeByte m a v) x = readByte m x := by
  have hp := ((memory_wf_iff m).1 h).1
  clear h
  induction m with
  | nil =>
    simp only [writeByte]
    split
    · rfl
    · simp only [readByte]; rw [if_neg hx]; split <;> rfl
  | cons d t ih =>
    obtain ⟨k, b⟩ := d
    have hc := List.pairwise_cons.1 hp
    simp only [writeByte]
    split
    · split
      · rfl
      · simp only [readByte]
        rw [if_neg hx]
        by_cases hxa : x < a
        · rw [if_pos hxa, if_neg (by omega), if_pos (by omega)]
        · rw [if_neg hxa]
    · split
      · subst a
        split
        · by_cases hlt : x < k
          · simp only [readByte]
            rw [if_neg hx, if_pos hlt]
            exact readByte_below fun c hcm => Nat.lt_trans hlt (hc.1 c hcm)
          · simp only [readByte]; rw [if_neg hx, if_neg hlt]
        · simp only [readByte]
          rw [if_neg hx, if_neg hx]
      · simp only [readByte]
        rw [ih hc.2]

/-- A write of a byte string leaves every byte outside it alone. -/
theorem readByte_writeBytes_outside (bs : List Byte) {m : List Host.Cell} {a x : Nat} (hx : x < a ∨ a + bs.length ≤ x)
    (h : Memory.wf m = true) : readByte (writeBytes m a bs) x = readByte m x := by
  induction bs generalizing m a with
  | nil => rfl
  | cons v t ih =>
    simp only [List.length_cons] at hx
    rw [writeBytes, ih (by omega) (memory_wf_writeByte a v h), readByte_writeByte_ne v (by omega) h]

/-- A read inside a byte string just written gives its byte. -/
theorem readByte_writeBytes_inside (bs : List Byte) {m : List Host.Cell} {a i : Nat} (hi : i < bs.length)
    (h : Memory.wf m = true) : readByte (writeBytes m a bs) (a + i) = bs[i] := by
  induction bs generalizing m a i with
  | nil => simp at hi
  | cons v t ih =>
    cases i with
    | zero =>
      rw [writeBytes, readByte_writeBytes_outside t (by omega) (memory_wf_writeByte a v h)]
      simpa using readByte_writeByte_same a v h
    | succ i =>
      have e : a + (i + 1) = a + 1 + i := by omega
      simp only [List.length_cons, Nat.add_lt_add_iff_right] at hi
      rw [writeBytes, e, ih hi (memory_wf_writeByte a v h)]
      rfl

/-- A line has 64 bytes. -/
@[simp] theorem lineBytes_length (d : Line) : (lineBytes d).length = 64 := by simp [lineBytes]

/-- A line's write leaves every byte outside the line alone. -/
theorem readByte_writeLine_outside {m : List Host.Cell} {n x : Nat} (d : Line) (hx : x / 64 ≠ n)
    (h : Memory.wf m = true) : readByte (writeLine m n d) x = readByte m x :=
  readByte_writeBytes_outside _ (by rw [lineBytes_length]; omega) h

/-- A line's write leaves every other line alone. -/
theorem readLine_writeLine_ne {m : List Host.Cell} {n k : Nat} (d : Line) (hk : k ≠ n) (h : Memory.wf m = true) :
    readLine (writeLine m n d) k = readLine m k := by
  refine congrArg bytesLine (List.map_congr_left fun i hi => readByte_writeLine_outside d ?_ h)
  have := List.mem_range.1 hi
  omega

/-- The number that bytes spell with one more byte behind them. -/
theorem fromLe_append_one (l : List Byte) (b : Byte) : fromLe (l ++ [b]) = fromLe l + 256 ^ l.length * b.toNat := by
  induction l with
  | nil => simp [fromLe]
  | cons c t ih => simp only [List.cons_append, fromLe, ih, List.length_cons, Nat.pow_succ]; rw [Nat.mul_add, ← Nat.mul_assoc, Nat.mul_comm 256 (256 ^ _)]; omega

/-- The first `n` bytes of a line spell its low bits. -/
theorem fromLe_line (d : Line) (n : Nat) :
    fromLe ((List.range n).map fun i => ((d >>> (8 * i)).setWidth 8 : Byte)) = d.toNat % 256 ^ n := by
  induction n with
  | zero => simp [fromLe, Nat.mod_one]
  | succ n ih =>
    rw [List.range_succ, List.map_append, List.map_singleton, fromLe_append_one, ih, List.length_map, List.length_range,
      Nat.pow_succ, Nat.mod_mul]
    congr 2
    rw [BitVec.toNat_setWidth, BitVec.toNat_ushiftRight, Nat.shiftRight_eq_div_pow, Nat.pow_mul]

/-- The bytes of a line make the line. -/
theorem bytesLine_lineBytes (d : Line) : bytesLine (lineBytes d) = d := by
  unfold bytesLine lineBytes
  rw [fromLe_line]
  apply BitVec.eq_of_toNat_eq
  rw [BitVec.toNat_ofNat]
  have h := d.isLt
  have e : 256 ^ 64 = 2 ^ 512 := Nat.pow_mul 2 8 64 |>.symm
  rw [e, Nat.mod_mod, Nat.mod_eq_of_lt h]

/-- A read of a line just written gives the line. -/
theorem readLine_writeLine_same {m : List Host.Cell} (n : Nat) (d : Line) (h : Memory.wf m = true) :
    readLine (writeLine m n d) n = d := by
  have e : (List.range 64).map (fun i => readByte (writeLine m n d) (64 * n + i)) = lineBytes d := by
    apply List.ext_getElem
    · simp
    · intro i hi _
      have hi : i < (lineBytes d).length := by simpa using hi
      rw [List.getElem_map, List.getElem_range]
      exact readByte_writeBytes_inside (lineBytes d) hi h
  rw [readLine, e, bytesLine_lineBytes]

end Sys2Proof.Machine
end

