-- ==== Sys2Proof/Laws/Kept.lean ====
section
/-! SUPPORT. What every command keeps: the queue is left to `step`, memory keeps its canonical form, and the recorder's buffers
    keep within their room
(R367, R368). Here the predicate, and the recorder's own operations. -/

namespace Sys2Proof.Machine

open Sys2Proof

/-- What a command leaves of the queue, of memory, of the parity lines and of the recorder: the queue is `pq`, both memories are
canonical, the buffers fit. -/
def KeptP (pq q : List Instr) (m p : List Host.Cell) (rc : Recorder) : Prop :=
  q = pq ∧ Memory.wf m = true ∧ Memory.wf p = true ∧ rc.fits

/-- The queue is `pq` and the state is sound. -/
def Kept (pq : List Instr) (s : State) : Prop := KeptP pq s.pending s.dram.mem s.dram.parity s.recorder

/-- A command ends in a next state, with the queue as it was and the state sound. -/
def KeptR (pq : List Instr) (r : Result) : Prop := ∃ t, r = .next t ∧ Kept pq t

theorem kept_of_sound {s : State} (h : s.sound) : Kept s.pending s := ⟨rfl, h⟩

theorem keptR_next {pq : List Instr} {t : State} (h : Kept pq t) : KeptR pq (.next t) := ⟨t, rfl, h⟩

theorem kept_parts {pq : List Instr} {s : State} (h : Kept pq s) :
    KeptP pq s.pending s.dram.mem s.dram.parity s.recorder := h

/-- A state written out is kept when its queue, memory and recorder are. -/
theorem kept_mk {pq : List Instr} {f_pending f_out f_fresh f_clock f_power f_startup f_rails f_button f_thermal f_pack f_bank
    f_charger f_security f_host f_rt f_persist f_dram f_shroud f_flash f_save f_restore f_notices f_qmp f_recorder f_faults f_cf
    f_fw f_smb f_lb f_engines f_crossings}
    (h : KeptP pq f_pending f_dram.mem f_dram.parity f_recorder) :
    Kept pq (State.mk f_pending f_out f_fresh f_clock f_power f_startup f_rails f_button f_thermal f_pack f_bank f_charger f_security f_host f_rt f_persist f_dram f_shroud f_flash f_save f_restore f_notices f_qmp f_recorder f_faults f_cf f_fw f_smb f_lb f_engines f_crossings) := h

theorem kept_ite {pq : List Instr} {c : Prop} [Decidable c] {a b : State} (ha : Kept pq a) (hb : Kept pq b) :
    Kept pq (if c then a else b) := by split <;> assumption

theorem kept_foldl {α : Type} {pq : List Instr} {f : State → α → State} (h : ∀ s x, Kept pq s → Kept pq (f s x)) :
    ∀ (l : List α) {s : State}, Kept pq s → Kept pq (l.foldl f s)
  | [], _, hs => hs
  | x :: l, _, hs => kept_foldl h l (h _ x hs)

/-- A line's write into memory keeps. -/
theorem keptP_writeLine {pq q : List Instr} {m p n d rc} (h : KeptP pq q m p rc) : KeptP pq q (writeLine m n d) p rc :=
  ⟨h.1, memory_wf_writeLine n d h.2.1, h.2.2⟩

/-- A line's write into the parity lines keeps. -/
theorem keptP_parity {pq q : List Instr} {m p n d rc} (h : KeptP pq q m p rc) : KeptP pq q m (writeLine p n d) rc :=
  ⟨h.1, h.2.1, memory_wf_writeLine n d h.2.2.1, h.2.2.2⟩

/-- The parity lines of a range follow its data in the canonical form. -/
theorem memory_wf_parityOver {mem par : List Host.Cell} (st n : Nat) (h : Memory.wf par = true) :
    Memory.wf (parityOver mem par st n) = true := by
  unfold parityOver
  have hp := memory_wf_clearRange (64 * st) (64 * n) h
  revert hp
  generalize clearRange par (64 * st) (64 * n) = p
  induction cellsIn mem (1024 * st) (1024 * n) generalizing p with
  | nil => exact id
  | cons x l ih => exact fun hp => ih _ (memory_wf_xorByte _ _ hp)

/-- The recorder of a sound state. -/
theorem kept_fits {pq : List Instr} {s : State} (h : Kept pq s) : s.recorder.fits := h.2.2.2

/-- A state of the same queue and memory, whose recorder fits, is kept. -/
theorem kept_recorder {pq : List Instr} {s t : State} (h : Kept pq s) (hq : t.pending = s.pending) (hd : t.dram = s.dram)
    (hr : t.recorder.fits) : Kept pq t := ⟨hq.trans h.1, hd ▸ h.2.1, hd ▸ h.2.2.1, hr⟩

/-! The recorder's own operations (R365–R372). -/

theorem ringWrite_fits {now : Nat} {rc : Recorder} {r : Record} (h : rc.fits) : (ringWrite now rc r).fits := by
  unfold ringWrite
  dsimp only
  split <;> exact h

theorem turnPage_fits {rc : Recorder} (h : rc.fits) : (turnPage rc).fits := by
  unfold turnPage
  split
  · exact h
  · split
    · exact ⟨h.1, Nat.zero_le _, fun p hp => by cases hp; exact h.2.1⟩
    · split
      · exact ⟨h.1, Nat.zero_le _, fun p hp => by cases hp; exact h.2.1⟩
      · exact h

theorem pageAdd_fits {now sev : Nat} {rc : Recorder} {r : Record} (h : rc.fits) (ho : pageOpen rc = true) :
    (pageAdd now sev rc r).fits := by
  have hl : rc.page.length < 2048 := of_decide_eq_true ho
  have hp : ∀ n : Record, ({ rc with page := rc.page ++ [n], nextRecno := rc.nextRecno + 1 } : Recorder).fits := fun n =>
    ⟨h.1, by simp only [List.length_append, List.length_singleton]; omega, h.2.2⟩
  unfold pageAdd
  extract_lets n rc1
  have h1 : rc1.fits := hp n
  clear_value rc1
  apply turnPage_fits
  split
  · exact ringWrite_fits h1
  · exact h1

theorem moveStaged_fits {now sev : Nat} {base : Record} : ∀ (fuel : Nat) {rc : Recorder}, rc.fits → (moveStaged fuel now sev base
    rc).fits
  | 0, _, h => h
  | fuel + 1, rc, h => by
    unfold moveStaged
    split
    · exact h
    · rename_i ho
      have ho : pageOpen rc = true := by simpa using ho
      split
      · exact moveStaged_fits fuel (pageAdd_fits (rc := { rc with overflow := none }) h ho)
      · split
        · exact h
        · rename_i r t hs
          have ht : ({ rc with staging := t } : Recorder).fits :=
            ⟨Nat.le_trans (Nat.le_succ _) (by have := h.1; rw [hs] at this; exact this), h.2⟩
          exact moveStaged_fits fuel (pageAdd_fits ht ho)

theorem countDrop_fits {now sev : Nat} {rc : Recorder} (h : rc.fits) : (countDrop now sev rc).fits := h

/-- A severity below the default of `lowestSev` is that of some record. -/
theorem lowestSev_mem : ∀ (rs : List Record) (d : Nat), lowestSev rs d < d → ∃ r ∈ rs, r.severity = lowestSev rs d
  | [], d, h => absurd h (Nat.lt_irrefl d)
  | r :: t, d, h => by
    have e : lowestSev (r :: t) d = lowestSev t (min d r.severity) := rfl
    rw [e] at h ⊢
    by_cases hl : lowestSev t (min d r.severity) < min d r.severity
    · obtain ⟨x, hx, hs⟩ := lowestSev_mem t _ hl
      exact ⟨x, List.mem_cons_of_mem _ hx, hs⟩
    · have hle : ∀ (l : List Record) (k : Nat), lowestSev l k ≤ k := by
        intro l
        induction l with
        | nil => exact fun k => Nat.le_refl k
        | cons y l ih => exact fun k => Nat.le_trans (ih _) (Nat.min_le_left _ _)
      have := hle t (min d r.severity)
      exact ⟨r, List.mem_cons_self, by omega⟩

theorem dropNewest_length {sev : Nat} {rs : List Record} (h : ∃ r ∈ rs, r.severity = sev) :
    (dropNewest sev rs).length + 1 = rs.length := by
  obtain ⟨r, hr, hs⟩ := h
  unfold dropNewest
  rw [List.length_reverse, List.length_eraseP, if_pos (by
    rw [List.any_eq_true]
    exact ⟨r, List.mem_reverse.2 hr, by simpa using hs⟩), List.length_reverse]
  have := List.length_pos_of_mem hr
  omega

theorem stageRecord_fits {now : Nat} {rc : Recorder} {r : Record} (h : rc.fits) : (stageRecord now rc r).fits := by
  unfold stageRecord
  dsimp only
  split
  · exact ⟨by simp only [List.length_append, List.length_singleton]; omega, h.2⟩
  · split
    · exact countDrop_fits h
    · rename_i hl
      have := dropNewest_length (lowestSev_mem rc.staging r.severity (by omega))
      have h1 := h.1
      exact countDrop_fits ⟨by simp only [List.length_append, List.length_singleton]; omega, h.2⟩

theorem recorderMedium_fits (r : Recorder) : (recorderMedium r).fits := by
  refine ⟨?_, ?_, ?_⟩
  · exact Nat.zero_le _
  · exact Nat.zero_le _
  · intro p hp; cases hp

theorem keptP_medium {pq : List Instr} {s : State} {r : Recorder} (h : Kept pq s) :
    KeptP pq s.pending s.dram.mem s.dram.parity (recorderMedium r) := ⟨h.1, h.2.1, h.2.2.1, recorderMedium_fits r⟩

theorem keptP_drops {pq : List Instr} {s : State} {d : Nat} (h : Kept pq s) :
    KeptP pq s.pending s.dram.mem s.dram.parity { s.recorder with drops := d } := h

theorem appendLog_fits {rc : Recorder} {rs : List Record} (h : rc.fits) : (appendLog rc rs).fits := by
  unfold appendLog
  split <;> exact h

theorem appendLog_page (rc : Recorder) (rs : List Record) : (appendLog rc rs).page = rc.page := by
  unfold appendLog
  split <;> rfl

end Sys2Proof.Machine
end

