-- ==== Sys2Proof/Laws/KeptShared.lean ====
section
/-! SUPPORT. Every shared operation keeps (Laws/Kept.lean): one lemma for each. -/

namespace Sys2Proof.Machine

open Sys2Proof

/-! ## Machine/Ops.lean -/

theorem emit_kept {pq : List Instr} (s : State) (o : Output) (hk : Kept pq s) : Kept pq (emit s o) := hk

theorem drawRandom_kept {pq : List Instr} (s : State) (n : Nat) (hk : Kept pq s) : Kept pq (drawRandom s n).2 := hk

theorem drawRandom_keptE {pq : List Instr} {s : State} {n : Nat} {ra} {rb} (hk : Kept pq s) (he : drawRandom s n = (ra, rb)) :
    Kept pq rb := by
  have := drawRandom_kept (pq := pq) s n hk
  rw [he] at this; exact this

theorem setBucket_kept {pq : List Instr} (s : State) (b : Bucket) (hk : Kept pq s) : Kept pq (setBucket s b) :=
  kept_recorder hk rfl rfl (kept_fits hk)

theorem stage_kept {pq : List Instr} (s : State) (r : Record) (hk : Kept pq s) : Kept pq (stage s r) :=
  kept_recorder hk rfl rfl (moveStaged_fits _ (stageRecord_fits (kept_fits hk)))

theorem logEvent_kept {pq : List Instr} (s : State) (code : BitVec 16) (sev : Nat) (payload : List Byte) (hk : Kept pq s) :
    Kept pq (logEvent s code sev payload) := by
  unfold logEvent
  repeat' (with_reducible first | exact hk | apply stage_kept | apply setBucket_kept | apply kept_ite)

theorem queueNotice_kept {pq : List Instr} (s : State) (code : BitVec 16) (cls : Nat) (payload : List Word) (hk : Kept pq s) :
    Kept pq (queueNotice s code cls payload) := by
  unfold queueNotice
  repeat' (with_reducible first | exact hk | apply kept_ite | fail_if_no_progress refine kept_mk (kept_parts ?_) | split)

theorem raiseClass_kept {pq : List Instr} (s : State) (code cls : Nat) (payload : List Nat) (hk : Kept pq s) :
    Kept pq (raiseClass s code cls payload) := by
  unfold raiseClass
  repeat' (with_reducible first | exact hk | apply logEvent_kept | apply queueNotice_kept)

theorem raise_kept {pq : List Instr} (s : State) (code : Nat) (payload : List Nat) (hk : Kept pq s) :
    Kept pq (raise s code payload) := by
  unfold raise
  repeat' (with_reducible first | exact hk | apply raiseClass_kept)

theorem endSession_kept {pq : List Instr} (s : State) (c : Nat) (hk : Kept pq s) : Kept pq (endSession s c) := by
  unfold endSession
  repeat' (with_reducible first | exact hk | apply raise_kept | apply kept_ite | fail_if_no_progress refine kept_mk (kept_parts ?_))

theorem debugReturns_kept {pq : List Instr} (s : State) (hk : Kept pq s) : Kept pq (debugReturns s) := hk

theorem passTime_kept {pq : List Instr} (s : State) (hk : Kept pq s) : Kept pq (passTime s) := hk

theorem addPoison_kept {pq : List Instr} (s : State) (line : Nat) (src : PoisonSource) (hk : Kept pq s) :
    Kept pq (addPoison s line src) := hk

theorem dropPoison_kept {pq : List Instr} (s : State) (line : Nat) (hk : Kept pq s) : Kept pq (dropPoison s line) := hk

theorem poisonGranule_kept {pq : List Instr} (s : State) (g : Nat) (src : PoisonSource) (hk : Kept pq s) :
    Kept pq (poisonGranule s g src) := hk

theorem countDirtyShutdown_kept {pq : List Instr} (s : State) (hk : Kept pq s) : Kept pq (countDirtyShutdown s) := by
  unfold countDirtyShutdown
  repeat' (with_reducible first | exact hk | apply kept_ite | fail_if_no_progress refine kept_mk (kept_parts ?_) | split)

theorem markDirty_kept {pq : List Instr} (s : State) (g : Nat) (hk : Kept pq s) : Kept pq (markDirty s g) := hk

theorem clearDirty_kept {pq : List Instr} (s : State) (g : Nat) (hk : Kept pq s) : Kept pq (clearDirty s g) := hk

theorem resetFunction_kept {pq : List Instr} (s : State) (l : Link) (hk : Kept pq s) : Kept pq (resetFunction s l) := hk

theorem dropRequests_kept {pq : List Instr} (s : State) (l : Link) (hk : Kept pq s) : Kept pq (dropRequests s l) := hk

theorem linkReset_kept {pq : List Instr} (s : State) (l : Link) (hk : Kept pq s) : Kept pq (linkReset s l) := by
  unfold linkReset
  repeat' (with_reducible first | exact hk | apply dropRequests_kept | apply resetFunction_kept
                                | fail_if_no_progress refine kept_mk (kept_parts ?_))

theorem linkGone_kept {pq : List Instr} (s : State) (l : Link) (hk : Kept pq s) : Kept pq (linkGone s l) := hk

theorem idleLinks_kept {pq : List Instr} (s : State) (hk : Kept pq s) : Kept pq (idleLinks s) := by
  unfold idleLinks
  repeat' (with_reducible first | exact hk | assumption | apply linkGone_kept | apply linkReset_kept | refine kept_foldl ?_ _ ?_
                                | intro _ _ _ | fail_if_no_progress refine kept_mk (kept_parts ?_))

/-! ## Machine/Ceiling.lean -/

theorem bankQualify_kept {pq : List Instr} (s : State) (hk : Kept pq s) : Kept pq (bankQualify s) := by
  unfold bankQualify
  repeat' (with_reducible first | exact hk | apply kept_ite | fail_if_no_progress refine kept_mk (kept_parts ?_) | split)

theorem firstPartNotices_kept {pq : List Instr} (s : State) (parts : List Nat) (hk : Kept pq s) :
    Kept pq (firstPartNotices s parts) := by
  unfold firstPartNotices
  repeat' (with_reducible first | exact hk | assumption | apply raise_kept | apply kept_ite | refine kept_foldl ?_ _ ?_
                                | intro _ _ _)

theorem transitionNotices_kept {pq : List Instr} (s : State) (old new : Psub) (returned : Bool) (hk : Kept pq s) :
    Kept pq (transitionNotices s old new returned) := by
  unfold transitionNotices
  repeat' (with_reducible first | exact hk | apply raise_kept | apply kept_ite)

theorem evalPsub_kept {pq : List Instr} (s : State) (hk : Kept pq s) : Kept pq (evalPsub s) := by
  unfold evalPsub
  repeat' (with_reducible first | exact hk | apply transitionNotices_kept | apply firstPartNotices_kept | apply kept_ite
                                | fail_if_no_progress refine kept_mk (kept_parts ?_) | split)

theorem followD_kept {pq : List Instr} (s : State) (hk : Kept pq s) : Kept pq (followD s) := by
  unfold followD
  repeat' (with_reducible first | exact hk | apply evalPsub_kept | apply kept_ite | split)

theorem limitNotice_kept {pq : List Instr} (s : State) (hk : Kept pq s) : Kept pq (limitNotice s) := by
  unfold limitNotice
  repeat' (with_reducible first | exact hk | apply raise_kept | apply kept_ite | fail_if_no_progress refine kept_mk (kept_parts ?_))

theorem publish_kept {pq : List Instr} (s : State) (c : Settings) (k : Ceiling) (hk : Kept pq s) : Kept pq (publish s c k) := by
  unfold publish
  repeat' (with_reducible first | exact hk | apply limitNotice_kept | fail_if_no_progress refine kept_mk (kept_parts ?_))

theorem updateCeiling_kept {pq : List Instr} (s : State) (hk : Kept pq s) : Kept pq (updateCeiling s) := by
  unfold updateCeiling
  repeat' (with_reducible first | exact hk | apply bankQualify_kept | apply publish_kept | split)

theorem ceilingEvent_kept {pq : List Instr} (s : State) (hk : Kept pq s) : Kept pq (ceilingEvent s) := by
  unfold ceilingEvent
  repeat' (with_reducible first | exact hk | apply bankQualify_kept | apply evalPsub_kept | apply publish_kept
                                | apply kept_ite | fail_if_no_progress refine kept_mk (kept_parts ?_) | split)

/-! ## Machine/CodeOps.lean -/

theorem cfPut_kept {pq : List Instr} (s : State) (a : Nat) (d : DWord) (hk : Kept pq s) : Kept pq (cfPut s a d) := by
  unfold cfPut
  repeat' (with_reducible first | exact hk | apply kept_ite | fail_if_no_progress refine kept_mk (kept_parts ?_))

theorem cfEraseSector_kept {pq : List Instr} (s : State) (sec : Nat) (hk : Kept pq s) : Kept pq (cfEraseSector s sec) := hk

theorem sectorGone_kept {pq : List Instr} (s : State) (sec : Nat) (hk : Kept pq s) : Kept pq (sectorGone s sec) := by
  unfold sectorGone
  refine kept_recorder hk rfl rfl ?_
  dsimp only
  split <;> exact kept_fits hk

theorem cfEraseRange_kept {pq : List Instr} (s : State) (lo hi : Nat) (hk : Kept pq s) : Kept pq (cfEraseRange s lo hi) := hk

theorem writeSwap_kept {pq : List Instr} (s : State) (magic base slots low : Nat) (hk : Kept pq s) :
    Kept pq (writeSwap s magic base slots low) := by
  unfold writeSwap
  repeat' (with_reducible first | exact hk | apply cfPut_kept | split)

theorem setOwnerLock_kept {pq : List Instr} (s : State) (b : Bool) (hk : Kept pq s) : Kept pq (setOwnerLock s b) := by
  unfold setOwnerLock
  repeat' (with_reducible first | exact hk | apply writeSwap_kept | apply cfEraseSector_kept | apply cfPut_kept | apply kept_ite)

theorem writeLevel_kept {pq : List Instr} (s : State) (isLevel : Bool) (l : Level) (hk : Kept pq s) :
    Kept pq (writeLevel s isLevel l) := by
  unfold writeLevel
  repeat' (with_reducible first | exact hk | apply writeSwap_kept)

theorem writeKeySlot_kept {pq : List Instr} (s : State) (i : Nat) (wrapped : List DWord) (keyId : Word) (hk : Kept pq s) :
    Kept pq (writeKeySlot s i wrapped keyId) := by
  unfold writeKeySlot
  repeat' (with_reducible first | exact hk | assumption | apply cfPut_kept | refine kept_foldl ?_ _ ?_ | intro _ _ _)

theorem killKey_kept {pq : List Instr} (s : State) (hk : Kept pq s) : Kept pq (killKey s) := by
  unfold killKey
  repeat' (with_reducible first | exact hk | apply cfPut_kept | split)

theorem programRepair_kept {pq : List Instr} (s : State) (r : Repair) (hk : Kept pq s) : Kept pq (programRepair s r) := by
  unfold programRepair
  repeat' (with_reducible first | exact hk | apply cfPut_kept | fail_if_no_progress refine kept_mk (kept_parts ?_) | split)

theorem addRepair_kept {pq : List Instr} (s : State) (r : Repair) (hk : Kept pq s) : Kept pq (addRepair s r) := by
  unfold addRepair
  repeat' (with_reducible first | exact hk | apply programRepair_kept | apply kept_ite
                                | fail_if_no_progress refine kept_mk (kept_parts ?_) | split)

theorem programHeld_kept {pq : List Instr} (s : State) (hk : Kept pq s) : Kept pq (programHeld s) := by
  unfold programHeld
  repeat' (with_reducible first | exact hk | assumption | apply programRepair_kept | apply kept_ite
                                | refine kept_foldl ?_ _ ?_ | intro _ _ _ | fail_if_no_progress refine kept_mk (kept_parts ?_)
                                | split)

theorem writeCheckpoint_kept {pq : List Instr} (s : State) (hk : Kept pq s) : Kept pq (writeCheckpoint s) := by
  unfold writeCheckpoint
  repeat' (with_reducible first | exact hk | assumption | apply cfEraseSector_kept | apply cfPut_kept | apply kept_ite
                                | refine kept_foldl ?_ _ ?_ | intro _ _ _)

theorem writeTrip_kept {pq : List Instr} (s : State) (r : TripRecord) (hk : Kept pq s) : Kept pq (writeTrip s r) := by
  unfold writeTrip
  repeat' (with_reducible first | exact hk | assumption | apply cfPut_kept | refine kept_foldl ?_ _ ?_ | intro _ _ _ | split)

/-! ## Machine/FaultOps.lean -/

theorem setTests_kept {pq : List Instr} (s : State) (ts : List Test) (hk : Kept pq s) : Kept pq (setTests s ts) := hk

theorem startTests_kept {pq : List Instr} (s : State) (hk : Kept pq s) : Kept pq (startTests s) := hk

theorem countTransient_kept {pq : List Instr} (s : State) (p : Part) (hk : Kept pq s) : Kept pq (countTransient s p) := hk

theorem withholdSet_kept {pq : List Instr} (s : State) (ch : FlashCh) (die : Fin 16) (idx : Nat) (hk : Kept pq s) :
    Kept pq (withholdSet s ch die idx) := by
  unfold withholdSet
  repeat' (with_reducible first | exact hk | apply kept_ite | fail_if_no_progress refine kept_mk (kept_parts ?_) | split)

theorem moveTested_kept {pq : List Instr} (s : State) (ch : FlashCh) (n : Nat) (hk : Kept pq s) : Kept pq (moveTested s ch n) := by
  unfold moveTested
  repeat' (with_reducible first | exact hk | apply kept_ite | fail_if_no_progress refine kept_mk (kept_parts ?_))

theorem prepareTest_kept {pq : List Instr} (s : State) (v0 : Part) (hk : Kept pq s) : Kept pq (prepareTest s v0) := by
  unfold prepareTest
  repeat' (with_reducible first | exact hk | apply moveTested_kept | apply withholdSet_kept | split)

theorem queueTest_kept {pq : List Instr} (s : State) (p : Part) (cmd : Option Word) (hk : Kept pq s) :
    Kept pq (queueTest s p cmd) := by
  unfold queueTest
  repeat' (with_reducible first | exact hk | apply setTests_kept | apply logEvent_kept | apply countTransient_kept
                                | apply startTests_kept | apply prepareTest_kept | apply kept_ite)

theorem endTest_kept {pq : List Instr} (s : State) (t : Test) (pass : Bool) (hk : Kept pq s) : Kept pq (endTest s t pass) := by
  unfold endTest
  repeat' (with_reducible first | exact hk | apply setTests_kept | apply logEvent_kept | apply raise_kept | apply startTests_kept
                                | apply kept_ite | split)

theorem removeTest_kept {pq : List Instr} (s : State) (p : Part) (hk : Kept pq s) : Kept pq (removeTest s p) := hk

theorem pauseTest_kept {pq : List Instr} (s : State) (p : Part) (hk : Kept pq s) : Kept pq (pauseTest s p) := hk

theorem eraseBroken_kept {pq : List Instr} (s : State) (ch : FlashCh) (die : Fin 16) (idx : Nat) (hk : Kept pq s) :
    Kept pq (eraseBroken s ch die idx) := hk

theorem abandonTest_kept {pq : List Instr} (s : State) (t : Test) (hk : Kept pq s) : Kept pq (abandonTest s t) := by
  unfold abandonTest
  repeat' (with_reducible first | exact hk | apply countTransient_kept | apply removeTest_kept | apply eraseBroken_kept
                                | apply pauseTest_kept | apply kept_ite | split)

theorem abandonTests_kept {pq : List Instr} (s : State) (hk : Kept pq s) : Kept pq (abandonTests s) := by
  unfold abandonTests
  repeat' (with_reducible first | exact hk | assumption | apply abandonTest_kept | refine kept_foldl ?_ _ ?_)

/-! ## Machine/SaveOps.lean -/

theorem beginShutdown_kept {pq : List Instr} (s : State) (k : DownThen) (hk : Kept pq s) : Kept pq (beginShutdown s k) := hk

theorem switchRailOff_kept {pq : List Instr} (s : State) (r : Rail) (hk : Kept pq s) : Kept pq (switchRailOff s r) := hk

theorem assertHold_kept {pq : List Instr} (s : State) (hk : Kept pq s) : Kept pq (assertHold s) := hk

theorem releaseHold_kept {pq : List Instr} (s : State) (hk : Kept pq s) : Kept pq (releaseHold s) := hk

theorem switchOver_kept {pq : List Instr} (s : State) (hk : Kept pq s) : Kept pq (switchOver s) := hk

theorem changeStore_kept {pq : List Instr} (s : State) (hk : Kept pq s) : Kept pq (changeStore s) := by
  unfold changeStore
  repeat' (with_reducible first | exact hk | apply kept_ite | fail_if_no_progress refine kept_mk (kept_parts ?_))

theorem beginInterval_kept {pq : List Instr} (s : State) (k : AvailKind) (hk : Kept pq s) : Kept pq (beginInterval s k) := by
  unfold beginInterval
  repeat' (with_reducible first | exact hk | fail_if_no_progress refine kept_mk (kept_parts ?_) | split)

theorem forceDebugClosed_kept {pq : List Instr} (s : State) (hk : Kept pq s) : Kept pq (forceDebugClosed s) := by
  unfold forceDebugClosed
  repeat' (with_reducible first | exact hk | apply endSession_kept | fail_if_no_progress refine kept_mk (kept_parts ?_))

theorem stopRetraining_kept {pq : List Instr} (s : State) (hk : Kept pq s) : Kept pq (stopRetraining s) := hk

theorem stopWork_kept {pq : List Instr} (s : State) (hk : Kept pq s) : Kept pq (stopWork s) := by
  unfold stopWork
  repeat' (with_reducible first | exact hk | assumption | apply abandonTests_kept | apply stopRetraining_kept
                                | apply eraseBroken_kept | apply forceDebugClosed_kept | apply programHeld_kept
                                | apply kept_ite | refine kept_foldl ?_ _ ?_ | intro _ _ _
                                | fail_if_no_progress refine kept_mk (kept_parts ?_) | split)

theorem endRest_kept {pq : List Instr} (s : State) (cause : Nat) (hk : Kept pq s) : Kept pq (endRest s cause) := by
  unfold endRest
  repeat' (with_reducible first | exact hk | apply raise_kept | apply kept_ite | fail_if_no_progress refine kept_mk (kept_parts ?_))

theorem startSave_kept {pq : List Instr} (s : State) (t : Trigger) (hk : Kept pq s) : Kept pq (startSave s t) := by
  unfold startSave
  repeat' (with_reducible first | exact hk | apply stopWork_kept | apply endRest_kept | apply beginInterval_kept
                                | apply kept_ite | fail_if_no_progress refine kept_mk (kept_parts ?_) | split)

theorem goOver_kept {pq : List Instr} (s : State) (hk : Kept pq s) : Kept pq (goOver s) := by
  unfold goOver
  repeat' (with_reducible first | exact hk | apply switchOver_kept | apply kept_ite | split)

theorem mergeTrigger_kept {pq : List Instr} (s : State) (t : Trigger) (hk : Kept pq s) : Kept pq (mergeTrigger s t) := by
  unfold mergeTrigger
  repeat' (with_reducible first | exact hk | apply goOver_kept | apply kept_ite
                                | fail_if_no_progress refine kept_mk (kept_parts ?_) | split)

theorem noSave_kept {pq : List Instr} (s : State) (t : Trigger) (hk : Kept pq s) : Kept pq (noSave s t) := by
  unfold noSave
  repeat' (with_reducible first | exact hk | apply beginShutdown_kept | apply logEvent_kept
                                | fail_if_no_progress refine kept_mk (kept_parts ?_) | split)

theorem holdTrigger_kept {pq : List Instr} (s : State) (t : Trigger) (hk : Kept pq s) : Kept pq (holdTrigger s t) := hk

theorem takeUp_kept {pq : List Instr} (s : State) (hk : Kept pq s) : Kept pq (takeUp s) := by
  unfold takeUp
  repeat' (with_reducible first | exact hk | apply kept_ite | fail_if_no_progress refine kept_mk (kept_parts ?_) | split)

theorem startHeld_kept {pq : List Instr} (s : State) (hk : Kept pq s) : Kept pq (startHeld s) := by
  unfold startHeld
  repeat' (with_reducible first | exact hk | assumption | apply mergeTrigger_kept | apply startSave_kept
                                | refine kept_foldl ?_ _ ?_ | intro _ _ _ | fail_if_no_progress refine kept_mk (kept_parts ?_)
                                | split)

theorem triggerSave_kept {pq : List Instr} (s : State) (t : Trigger) (hk : Kept pq s) : Kept pq (triggerSave s t) := by
  unfold triggerSave
  repeat' (with_reducible first | exact hk | apply startSave_kept | apply takeUp_kept | apply holdTrigger_kept
                                | apply mergeTrigger_kept | apply beginShutdown_kept | apply refuse_kept | apply noSave_kept
                                | apply kept_ite | fail_if_no_progress refine kept_mk (kept_parts ?_) | split)

theorem setEntry_kept {pq : List Instr} (s : State) (g : Nat) (e : Entry) (hk : Kept pq s) : Kept pq (setEntry s g e) := hk

theorem markLost_kept {pq : List Instr} (s : State) (g : Nat) (hk : Kept pq s) : Kept pq (markLost s g) := hk

theorem dropRewritten_kept {pq : List Instr} (s : State) (hk : Kept pq s) : Kept pq (dropRewritten s) := hk

theorem beginManifest_kept {pq : List Instr} (s : State) (cause : EndCause) (left : List Nat) (hk : Kept pq s) :
    Kept pq (beginManifest s cause left) := hk

theorem endFlush_kept {pq : List Instr} (s : State) (cause : EndCause) (hk : Kept pq s) : Kept pq (endFlush s cause) := by
  unfold endFlush
  repeat' (with_reducible first | exact hk | assumption | apply beginManifest_kept | apply markLost_kept
                                | apply dropRewritten_kept | apply kept_ite | refine kept_foldl ?_ _ ?_)

theorem checkOverrun_kept {pq : List Instr} (s : State) (hk : Kept pq s) : Kept pq (checkOverrun s) := by
  unfold checkOverrun
  repeat' (with_reducible first | exact hk | assumption | apply raise_kept | refine kept_foldl ?_ _ ?_ | intro _ _ _
                                | fail_if_no_progress refine kept_mk (kept_parts ?_))

/-! ## Machine/FlashOps.lean -/

theorem setBlock_kept {pq : List Instr} (s : State) (ch : FlashCh) (die : Fin 16) (idx : Nat) (f : BlockSet → BlockSet) (hk : Kept
    pq s) :
    Kept pq (setBlock s ch die idx f) := hk

theorem setBand_kept {pq : List Instr} (s : State) (n : Nat) (f : Band → Band) (hk : Kept pq s) : Kept pq (setBand s n f) := hk

theorem openNewBand_kept {pq : List Instr} (s : State) (c : Settings) (hk : Kept pq s) : Kept pq (openNewBand s c) := by
  unfold openNewBand
  repeat' (with_reducible first | exact hk | apply kept_ite | fail_if_no_progress refine kept_mk (kept_parts ?_) | split)

theorem issuePage_kept {pq : List Instr} (s : State) (p : PageGroup) (hk : Kept pq s) : Kept pq (issuePage s p) := by
  unfold issuePage
  repeat' (with_reducible first | exact hk | apply kept_ite | fail_if_no_progress refine kept_mk (kept_parts ?_) | split)

theorem issueWaiting_kept {pq : List Instr} (s : State) (hk : Kept pq s) : Kept pq (issueWaiting s) := by
  unfold issueWaiting
  repeat' (with_reducible first | exact hk | assumption | apply issuePage_kept | apply kept_ite | refine kept_foldl ?_ _ ?_
                                | intro _ _ _ | fail_if_no_progress refine kept_mk (kept_parts ?_) | split)

theorem takePage_kept {pq : List Instr} (s : State) (c : Settings) (p : PageGroup) (hk : Kept pq s) : Kept pq (takePage s c p) := by
  unfold takePage
  repeat' (with_reducible first | exact hk | apply setBlock_kept | apply kept_ite
                                | fail_if_no_progress refine kept_mk (kept_parts ?_) | split)

theorem programPage_kept {pq : List Instr} (s : State) (c : Settings) (p : PageGroup) (hk : Kept pq s) :
    Kept pq (programPage s c p) := by
  unfold programPage
  repeat' (with_reducible first | exact hk | apply logEvent_kept | apply takePage_kept | apply openRows_kept | apply kept_ite
                                | fail_if_no_progress refine kept_mk (kept_parts ?_) | split)

theorem endRow_kept {pq : List Instr} (s : State) (band row : Nat) (hk : Kept pq s) : Kept pq (endRow s band row) := by
  unfold endRow
  repeat' (with_reducible first | exact hk | apply openRows_kept | fail_if_no_progress refine kept_mk (kept_parts ?_))

theorem closeOne_kept {pq : List Instr} (s : State) (c : Settings) (band row : Nat) (hk : Kept pq s) :
    Kept pq (closeOne s c band row) := by
  unfold closeOne
  repeat' (with_reducible first | exact hk | apply endRow_kept | apply programPage_kept | apply kept_ite
                                | fail_if_no_progress refine kept_mk (kept_parts ?_) | split)

theorem closeRow_kept {pq : List Instr} (s : State) (c : Settings) (band row : Nat) (hk : Kept pq s) :
    Kept pq (closeRow s c band row) := by
  unfold closeRow
  repeat' (with_reducible first | exact hk | assumption | apply issueWaiting_kept | apply openRows_kept | apply closeOne_kept
                                | refine kept_foldl ?_ _ ?_ | intro _ _ _)

theorem closeAllRows_kept {pq : List Instr} (s : State) (c : Settings) (hk : Kept pq s) : Kept pq (closeAllRows s c) := by
  unfold closeAllRows
  repeat' (with_reducible first | exact hk | assumption | apply issueWaiting_kept | apply openRows_kept | apply closeOne_kept
                                | refine kept_foldl ?_ _ ?_ | intro _ _ _)

theorem closeBand_kept {pq : List Instr} (s : State) (n : Nat) (hk : Kept pq s) : Kept pq (closeBand s n) := by
  unfold closeBand
  repeat' (with_reducible first | exact hk | assumption | apply setBand_kept | apply openRows_kept | apply closeOne_kept
                                | apply issueWaiting_kept | apply kept_ite | refine kept_foldl ?_ _ ?_ | intro _ _ _
                                | fail_if_no_progress refine kept_mk (kept_parts ?_) | split)

theorem openRows_kept {pq : List Instr} (s : State) (c : Settings) (hk : Kept pq s) : Kept pq (openRows s c) := by
  unfold openRows
  extract_lets t rows
  have ht : Kept pq t := by
    show Kept pq (match openBand s with | some b => _ | none => _)
    repeat' (with_reducible first | exact hk | apply openNewBand_kept | apply closeBand_kept | apply kept_ite | split)
  clear_value t
  repeat' (with_reducible first | exact ht | apply setBand_kept | apply kept_ite
                                | fail_if_no_progress refine kept_mk (kept_parts ?_) | split)

theorem placeOn_keptE {pq : List Instr} {s : State} {c ch kind idx keyId parts head t a b} (hk : Kept pq s)
    (he : placeOn s c ch kind idx keyId parts head = some (t, a, b)) : Kept pq t := by
  unfold placeOn at he
  split at he
  · cases he
  · split at he
    · cases he
    · cases he
      exact issueWaiting_kept _ (kept_foldl (fun s p h => programPage_kept s c p h) _ hk)

theorem ensureRows_kept {pq : List Instr} (s : State) (c : Settings) (hk : Kept pq s) : Kept pq (ensureRows s c) := by
  unfold ensureRows
  repeat' (with_reducible first | exact hk | apply openRows_kept | apply kept_ite | split)

theorem placeAny_keptE {pq : List Instr} {s : State} {c chs kind idx keyId parts head t a b} (hk : Kept pq s)
    (he : placeAny s c chs kind idx keyId parts head = some (t, a, b)) : Kept pq t := by
  unfold placeAny at he
  dsimp only at he
  split at he
  · rename_i r hr
    cases he
    obtain ⟨ch, _, h⟩ := List.exists_of_findSome?_eq_some hr
    exact placeOn_keptE (ensureRows_kept s c hk) h
  · obtain ⟨ch, _, h⟩ := List.exists_of_findSome?_eq_some he
    exact placeOn_keptE (openRows_kept _ c (closeAllRows_kept _ c (ensureRows_kept s c hk))) h

theorem settleFlush_kept {pq : List Instr} (s : State) (f : InFlight) (hk : Kept pq s) : Kept pq (settleFlush s f) := by
  unfold settleFlush
  repeat' (with_reducible first | exact hk | apply setEntry_kept | fail_if_no_progress refine kept_mk (kept_parts ?_) | split)

theorem finishFlush_kept {pq : List Instr} (s : State) (f : InFlight) (hk : Kept pq s) : Kept pq (finishFlush s f) := by
  unfold finishFlush
  repeat' (with_reducible first | exact hk | apply settleFlush_kept | apply clearDirty_kept | apply followD_kept
                                | apply kept_ite | fail_if_no_progress refine kept_mk (kept_parts ?_) | split)

theorem finishFlushes_kept {pq : List Instr} (s : State) (hk : Kept pq s) : Kept pq (finishFlushes s) := by
  unfold finishFlushes
  repeat' (with_reducible first | exact hk | assumption | apply finishFlush_kept | refine kept_foldl ?_ _ ?_)

theorem chargeWear_kept {pq : List Instr} (s : State) (bytes : Nat) (hk : Kept pq s) : Kept pq (chargeWear s bytes) := hk

theorem moveBand_kept {pq : List Instr} (s : State) (n : Nat) (why : MoveReason) (hk : Kept pq s) : Kept pq (moveBand s n why) := by
  unfold moveBand
  repeat' (with_reducible first | exact hk | assumption | apply closeBand_kept | apply setBand_kept | apply kept_ite
                                | refine kept_foldl ?_ _ ?_ | intro _ _ _ | fail_if_no_progress refine kept_mk (kept_parts ?_)
                                | split)

theorem copyOut_kept {pq : List Instr} (s : State) (c : Settings) (g : Nat) (ch : FlashCh) (hk : Kept pq s) :
    Kept pq (copyOut s c g ch) := by
  unfold copyOut
  repeat' (with_reducible first | exact hk | apply ensureRows_kept | apply chargeWear_kept
                                | refine placeAny_keptE ?_ (by assumption) | refine placeOn_keptE ?_ (by assumption)
                                | refine placeOn_keptE ?_ (by assumption) | split | dsimp only)

theorem repoint_kept {pq : List Instr} (s : State) (g : Nat) (hk : Kept pq s) : Kept pq (repoint s g) := by
  unfold repoint
  repeat' (with_reducible first | exact hk | apply setEntry_kept | apply kept_ite
                                | fail_if_no_progress refine kept_mk (kept_parts ?_) | split)

theorem dropPage_kept {pq : List Instr} (s : State) (p : PageGroup) (hk : Kept pq s) : Kept pq (dropPage s p) := hk

theorem reflush_kept {pq : List Instr} (s : State) (c : Settings) (f : InFlight) (ch : FlashCh) (hk : Kept pq s) :
    Kept pq (reflush s c f ch) := by
  unfold reflush
  dsimp only
  split
  · rename_i he
    exact kept_mk (kept_parts (chargeWear_kept _ _ (placeAny_keptE (kept_mk (kept_parts hk)) he)))
  · exact kept_mk (kept_parts hk)

theorem dropJob_kept {pq : List Instr} (s : State) (hk : Kept pq s) : Kept pq (dropJob s) := by
  unfold dropJob
  repeat' (with_reducible first | exact hk | assumption | refine kept_foldl ?_ _ ?_ | intro _ _ _
                                | fail_if_no_progress refine kept_mk (kept_parts ?_) | split)

theorem rewriteMeta_kept {pq : List Instr} (s : State) (c : Settings) (p : PageGroup) (hk : Kept pq s) : Kept pq (rewriteMeta s c p) := by
  unfold rewriteMeta
  split
  · rename_i he
    exact chargeWear_kept _ _ (placeAny_keptE hk he)
  · exact dropJob_kept s hk

theorem recopy_kept {pq : List Instr} (s : State) (c : Settings) (p : PageGroup) (hk : Kept pq s) : Kept pq (recopy s c p) := by
  unfold recopy
  repeat' (with_reducible first | exact hk | apply placeOn_kept | apply ensureRows_kept | apply copyOut_kept | apply kept_ite
                                | fail_if_no_progress refine kept_mk (kept_parts ?_) | split)

theorem rewritePage_kept {pq : List Instr} (s : State) (c : Settings) (p : PageGroup) (hk : Kept pq s) :
    Kept pq (rewritePage s c p) := by
  unfold rewritePage
  repeat' (with_reducible first | exact hk | apply reflush_kept | apply rewriteMeta_kept | apply recopy_kept | apply kept_ite
                                | fail_if_no_progress refine kept_mk (kept_parts ?_) | split)

theorem mendRows_kept {pq : List Instr} (s : State) (c : Settings) (hk : Kept pq s) : Kept pq (mendRows s c) := by
  unfold mendRows
  repeat' (with_reducible first | exact hk | assumption | apply rewritePage_kept | apply dropPage_kept
                                | refine kept_foldl ?_ _ ?_ | intro _ _ _)

theorem tornPage_kept {pq : List Instr} (s : State) (c : Settings) (p : PageGroup) (hk : Kept pq s) : Kept pq (tornPage s c p) := by
  unfold tornPage
  repeat' (with_reducible first | exact hk | apply dropPage_kept | apply mendRows_kept | apply rewritePage_kept
                                | apply kept_ite | split)

theorem checkCapacity_kept {pq : List Instr} (s : State) (hk : Kept pq s) : Kept pq (checkCapacity s) := by
  unfold checkCapacity
  repeat' (with_reducible first | exact hk | apply raise_kept | apply triggerSave_kept | apply kept_ite
                                | fail_if_no_progress refine kept_mk (kept_parts ?_) | split)

theorem leaveBands_kept {pq : List Instr} (s : State) (ns : List Nat) (why : MoveReason) (hk : Kept pq s) :
    Kept pq (leaveBands s ns why) := by
  unfold leaveBands
  repeat' (with_reducible first | exact hk | assumption | apply closeBand_kept | apply moveBand_kept | apply kept_ite
                                | refine kept_foldl ?_ _ ?_ | intro _ _ _ | split)

theorem rewriteLost_kept {pq : List Instr} (s : State) (ch : FlashCh) (die : Option (Fin 16)) (hk : Kept pq s) :
    Kept pq (rewriteLost s ch die) := by
  unfold rewriteLost
  repeat' (with_reducible first | exact hk | assumption | apply mendRows_kept | apply rewritePage_kept | apply dropPage_kept
                                | refine kept_foldl ?_ _ ?_ | intro _ _ _ | fail_if_no_progress refine kept_mk (kept_parts ?_)
                                | split)

theorem flashChannelOut_kept {pq : List Instr} (s : State) (ch : FlashCh) (hk : Kept pq s) : Kept pq (flashChannelOut s ch) := by
  unfold flashChannelOut
  repeat' (with_reducible first | exact hk | apply rewriteLost_kept | apply leaveBands_kept | apply checkCapacity_kept
                                | apply ceilingEvent_kept | apply raise_kept | apply kept_ite
                                | fail_if_no_progress refine kept_mk (kept_parts ?_) | split)

theorem retireDie_kept {pq : List Instr} (s : State) (ch : FlashCh) (die : Fin 16) (hk : Kept pq s) :
    Kept pq (retireDie s ch die) := by
  unfold retireDie
  repeat' (with_reducible first | exact hk | apply rewriteLost_kept | apply leaveBands_kept | apply raise_kept
                                | apply flashChannelOut_kept | apply checkCapacity_kept | apply kept_ite
                                | fail_if_no_progress refine kept_mk (kept_parts ?_) | split)

theorem retireBlockSet_kept {pq : List Instr} (s : State) (ch : FlashCh) (die : Fin 16) (idx : Nat) (hk : Kept pq s) :
    Kept pq (retireBlockSet s ch die idx) := by
  unfold retireBlockSet
  repeat' (with_reducible first | exact hk | apply setBlock_kept | apply logEvent_kept | apply mendRows_kept
                                | apply leaveBands_kept | apply retireDie_kept | apply checkCapacity_kept | apply kept_ite
                                | fail_if_no_progress refine kept_mk (kept_parts ?_) | split)

theorem startErases_kept {pq : List Instr} (s : State) (c : Settings) (b : Band) (hk : Kept pq s) : Kept pq (startErases s c b) := hk

theorem eraseReady_kept {pq : List Instr} (s : State) (hk : Kept pq s) : Kept pq (eraseReady s) := by
  unfold eraseReady
  repeat' (with_reducible first | exact hk | assumption | apply startErases_kept | apply kept_ite | refine kept_foldl ?_ _ ?_
                                | intro _ _ _ | fail_if_no_progress refine kept_mk (kept_parts ?_) | split)

theorem endMove_kept {pq : List Instr} (s : State) (n : Nat) (hk : Kept pq s) : Kept pq (endMove s n) := hk

theorem dropErasedBand_kept {pq : List Instr} (s : State) (c : Settings) (n : Nat) (hk : Kept pq s) :
    Kept pq (dropErasedBand s c n) := by
  unfold dropErasedBand
  repeat' (with_reducible first | exact hk | apply endMove_kept | apply kept_ite
                                | fail_if_no_progress refine kept_mk (kept_parts ?_) | split)

theorem noteRestriped_kept {pq : List Instr} (s : State) (n : Nat) (hk : Kept pq s) : Kept pq (noteRestriped s n) := by
  unfold noteRestriped
  repeat' (with_reducible first | exact hk | apply logEvent_kept | apply kept_ite | split)

theorem suspendErase_kept {pq : List Instr} (s : State) (ch : FlashCh) (die : Fin 16) (hk : Kept pq s) :
    Kept pq (suspendErase s ch die) := hk

theorem countReads_kept {pq : List Instr} (s : State) (c : Settings) (ch : FlashCh) (die : Fin 16) (idx : Nat) (demand : Bool)
    (o : DecodeOutcome) (hk : Kept pq s) :
    Kept pq (countReads s c ch die idx demand o) := by
  unfold countReads
  repeat' (with_reducible first | exact hk | apply kept_ite | fail_if_no_progress refine kept_mk (kept_parts ?_) | split)

theorem noteDecode_kept {pq : List Instr} (s : State) (ch : FlashCh) (die : Fin 16) (idx : Nat) (o : DecodeOutcome) (hk : Kept pq s) :
    Kept pq (noteDecode s ch die idx o) := by
  unfold noteDecode
  repeat' (with_reducible first | exact hk | apply queueTest_kept | apply setBlock_kept | apply logEvent_kept | apply kept_ite
                                | fail_if_no_progress refine kept_mk (kept_parts ?_) | split)

theorem noteRead_kept {pq : List Instr} (s : State) (ch : FlashCh) (die : Fin 16) (idx : Nat) (demand : Bool)
    (o : DecodeOutcome) (hk : Kept pq s) :
    Kept pq (noteRead s ch die idx demand o) := by
  unfold noteRead
  repeat' (with_reducible first | exact hk | apply countReads_kept | apply noteDecode_kept
                                | fail_if_no_progress refine kept_mk (kept_parts ?_) | split)

theorem poisonLost_kept {pq : List Instr} (s : State) (gs : List Nat) (hk : Kept pq s) : Kept pq (poisonLost s gs) := by
  unfold poisonLost
  repeat' (with_reducible first | exact hk | assumption | apply poisonGranule_kept | refine kept_foldl ?_ _ ?_ | intro _ _ _)

theorem programMeta_kept {pq : List Instr} {s t : State} {c kind idx} (hk : Kept pq s) (he : programMeta s c kind idx = some t) :
    Kept pq t := by
  have step : ∀ (l : List Nat) (o : Option State), (∀ x, o = some x → Kept pq x) → ∀ t,
      l.foldl (fun s i => s.bind fun s =>
        (placeAny s c (readyChannels s) kind i (keyIdNow s) [[]] none).map fun r => chargeWear r.1 65536) o = some t → Kept pq t := by
    intro l
    induction l with
    | nil => exact fun o h t ht => h t ht
    | cons i l ih =>
      refine fun o h t ht => ih _ (fun x hx => ?_) t ht
      obtain ⟨y, hy, hx⟩ := Option.bind_eq_some_iff.1 hx
      obtain ⟨r, hr, rfl⟩ := Option.map_eq_some_iff.1 hx
      exact chargeWear_kept _ _ (placeAny_keptE (h y hy) hr)
  exact step idx (some s) (fun x hx => by cases hx; exact hk) t he

theorem startChunks_kept {pq : List Instr} (s : State) (c : Settings) (j : SealJob) (hk : Kept pq s) : Kept pq (startChunks s c j) := by
  unfold startChunks
  split
  · exact hk
  · extract_lets t ks
    have ht : Kept pq t := kept_ite (kept_foldl (fun s f h => settleFlush_kept s f h) _ hk) hk
    split
    · rename_i he
      exact kept_mk (kept_parts (programMeta_kept (kept_mk (kept_parts ht)) he))
    · exact kept_mk (kept_parts ht)

theorem startRoot_kept {pq : List Instr} (s : State) (c : Settings) (j : SealJob) (hk : Kept pq s) : Kept pq (startRoot s c j) := by
  unfold startRoot
  split
  · exact hk
  · split
    · rename_i he
      exact kept_mk (kept_parts (programMeta_kept hk he))
    · exact dropJob_kept s hk

theorem startRecord_kept {pq : List Instr} (s : State) (c : Settings) (j : SealJob) (hk : Kept pq s) :
    Kept pq (startRecord s c j) := by
  unfold startRecord
  repeat' (with_reducible first | exact hk | apply closeAllRows_kept | apply stage_kept | apply kept_ite
                                | fail_if_no_progress refine kept_mk (kept_parts ?_) | split)

theorem advanceSeal_kept {pq : List Instr} (s : State) (hk : Kept pq s) : Kept pq (advanceSeal s) := by
  unfold advanceSeal
  split
  · exact hk
  · rename_i c _
    have go : ∀ (st : SealStage) (f : State → SealJob → State), (∀ s j, Kept pq s → Kept pq (f s j)) → ∀ s, Kept pq s →
        Kept pq (match s.flash.sealJob with | some j => if j.stage = st then f s j else s | none => s) := by
      intro st f hf s hs
      split
      · exact kept_ite (hf _ _ hs) hs
      · exact hs
    exact go .root (fun s j => if j.kind = .save then s else startRecord s c j) (fun s j h => kept_ite h (startRecord_kept s c j h)) _
      (go .chunks (fun s j => startRoot s c j) (fun s j h => startRoot_kept s c j h) _
        (go .asked (fun s j => startChunks s c j) (fun s j h => startChunks_kept s c j h) _ hk))

theorem sealNow_kept {pq : List Instr} (s : State) (kind : SealKind) (d : Generation) (copies : Bool × Bool) (hk : Kept pq s) :
    Kept pq (sealNow s kind d copies) := by
  unfold sealNow
  repeat' (with_reducible first | exact hk | apply eraseReady_kept | fail_if_no_progress refine kept_mk (kept_parts ?_))

theorem beginSeal_kept {pq : List Instr} (s : State) (kind : SealKind) (hk : Kept pq s) : Kept pq (beginSeal s kind) := by
  unfold beginSeal
  repeat' (with_reducible first | exact hk | apply advanceSeal_kept | fail_if_no_progress refine kept_mk (kept_parts ?_))

theorem stopFlush_kept {pq : List Instr} (s : State) (cause : EndCause) (hk : Kept pq s) : Kept pq (stopFlush s cause) := by
  unfold stopFlush
  repeat' (with_reducible first | exact hk | apply endFlush_kept | apply beginSeal_kept | apply kept_ite | split)

theorem restripeEnd_kept {pq : List Instr} (s : State) (hk : Kept pq s) : Kept pq (restripeEnd s) := by
  unfold restripeEnd
  repeat' (with_reducible first | exact hk | apply advanceSeal_kept | apply kept_ite
                                | fail_if_no_progress refine kept_mk (kept_parts ?_) | split)

/-! ## Machine/DramOps.lean -/

theorem setChan_kept {pq : List Instr} (s : State) (ch : DramCh) (f : DramChan → DramChan) (hk : Kept pq s) :
    Kept pq (setChan s ch f) := hk

theorem touch_kept {pq : List Instr} (s : State) (st : Nat) (isWrite : Bool) (chs : List DramCh) (hk : Kept pq s) :
    Kept pq (touch s st isWrite chs) := by
  unfold touch
  repeat' (with_reducible first | exact hk | fail_if_no_progress refine kept_mk (kept_parts ?_))

theorem readAccess_kept {pq : List Instr} (s : State) (line : Nat) (hk : Kept pq s) : Kept pq (readAccess s line) := by
  unfold readAccess
  repeat' (with_reducible first | exact hk | apply touch_kept | apply kept_ite | split)

theorem granuleAccess_kept {pq : List Instr} (s : State) (g : Nat) (isWrite : Bool) (chs : Nat → List DramCh) (hk : Kept pq s) :
    Kept pq (granuleAccess s g isWrite chs) := by
  unfold granuleAccess
  repeat' (with_reducible first | exact hk | assumption | refine kept_foldl ?_ _ ?_ | intro _ _ _
                                | fail_if_no_progress refine kept_mk (kept_parts ?_))

theorem flushAccess_kept {pq : List Instr} (s : State) (g : Nat) (hk : Kept pq s) : Kept pq (flushAccess s g) := by
  unfold flushAccess
  repeat' (with_reducible first | exact hk | apply granuleAccess_kept | apply kept_ite | split)

theorem restoreAccess_kept {pq : List Instr} (s : State) (g : Nat) (hk : Kept pq s) : Kept pq (restoreAccess s g) := by
  unfold restoreAccess
  repeat' (with_reducible first | exact hk | apply granuleAccess_kept | apply kept_ite | split)

theorem setParity_kept {pq : List Instr} (s : State) (st : Nat) (l : Line) (hk : Kept pq s) : Kept pq (setParity s st l) := by
  unfold setParity
  with_reducible refine kept_mk (keptP_parity (kept_parts ?_))
  exact hk

theorem granuleParity_kept {pq : List Instr} (s : State) (g : Nat) (hk : Kept pq s) : Kept pq (granuleParity s g) := by
  unfold granuleParity
  refine kept_ite (kept_mk ?_) hk
  exact ⟨hk.1, hk.2.1, memory_wf_parityOver _ _ hk.2.2.1, hk.2.2.2⟩

theorem logDram_kept {pq : List Instr} (s : State) (type : Nat) (ch : DramCh) (row : Option RowId) (column device : Nat)
    (lanes : Option (BitVec 4)) (hk : Kept pq s) :
    Kept pq (logDram s type ch row column device lanes) := by
  unfold logDram
  repeat' (with_reducible first | exact hk | apply logEvent_kept | apply kept_ite
                                | fail_if_no_progress refine kept_mk (kept_parts ?_) | split)

theorem setShroudMode_kept {pq : List Instr} (s : State) (hk : Kept pq s) : Kept pq (setShroudMode s) := by
  unfold setShroudMode
  repeat' (with_reducible first | exact hk | apply kept_ite | fail_if_no_progress refine kept_mk (kept_parts ?_))

theorem poisonDirty_kept {pq : List Instr} (s : State) (g : Nat) (hk : Kept pq s) : Kept pq (poisonDirty s g) := by
  unfold poisonDirty
  repeat' (with_reducible first | exact hk | apply raise_kept | apply markLost_kept | apply poisonGranule_kept)

theorem loseInSave_kept {pq : List Instr} (s : State) (hit : List Nat) (hk : Kept pq s) : Kept pq (loseInSave s hit) := by
  unfold loseInSave
  repeat' (with_reducible first | exact hk | assumption | apply markLost_kept | refine kept_foldl ?_ _ ?_ | intro _ _ _
                                | fail_if_no_progress refine kept_mk (kept_parts ?_))

theorem loseUnshrouded_kept {pq : List Instr} (s : State) (ch : DramCh) (hk : Kept pq s) : Kept pq (loseUnshrouded s ch) := by
  unfold loseUnshrouded
  repeat' (with_reducible first | exact hk | assumption | apply loseInSave_kept | apply poisonDirty_kept
                                | apply countDirtyShutdown_kept | apply kept_ite | refine kept_foldl ?_ _ ?_ | intro _ _ _
                                | fail_if_no_progress refine kept_mk (kept_parts ?_) | split)

theorem channelOut_kept {pq : List Instr} (s : State) (ch : DramCh) (hk : Kept pq s) : Kept pq (channelOut s ch) := by
  unfold channelOut
  repeat' (with_reducible first | exact hk | apply setChan_kept | apply raise_kept | apply triggerSave_kept
                                | apply evalPsub_kept | apply loseInSave_kept | apply setShroudMode_kept
                                | apply loseUnshrouded_kept | apply kept_ite
                                | fail_if_no_progress refine kept_mk (kept_parts ?_) | split)

theorem trainingFails_kept {pq : List Instr} (s : State) (ch : DramCh) (hk : Kept pq s) : Kept pq (trainingFails s ch) := by
  unfold trainingFails
  repeat' (with_reducible first | exact hk | apply channelOut_kept | apply logDram_kept)

theorem queueRetrain_kept {pq : List Instr} (s : State) (ch : DramCh) (hk : Kept pq s) : Kept pq (queueRetrain s ch) := by
  unfold queueRetrain
  repeat' (with_reducible first | exact hk | apply kept_ite | fail_if_no_progress refine kept_mk (kept_parts ?_))

theorem errorRetrain_kept {pq : List Instr} (s : State) (ch : DramCh) (hk : Kept pq s) : Kept pq (errorRetrain s ch) := by
  unfold errorRetrain
  repeat' (with_reducible first | exact hk | apply setChan_kept | apply channelOut_kept | apply queueRetrain_kept | apply kept_ite)

theorem countCrc_kept {pq : List Instr} (s : State) (ch : DramCh) (hk : Kept pq s) : Kept pq (countCrc s ch) := by
  unfold countCrc
  repeat' (with_reducible first | exact hk | apply setChan_kept | apply errorRetrain_kept | apply kept_ite)

theorem countMismatch_kept {pq : List Instr} (s : State) (ch : DramCh) (hk : Kept pq s) : Kept pq (countMismatch s ch) := by
  unfold countMismatch
  repeat' (with_reducible first | exact hk | apply setChan_kept | apply errorRetrain_kept | apply kept_ite)

theorem countCorrectable_kept {pq : List Instr} (s : State) (ch : DramCh) (rank : Fin 4) (dev : Fin 10) (dq : BitVec 4)
    (hk : Kept pq s) :
    Kept pq (countCorrectable s ch rank dev dq) := by
  unfold countCorrectable
  repeat' (with_reducible first | exact hk | apply setChan_kept | apply errorRetrain_kept | apply kept_ite
                                | fail_if_no_progress refine kept_mk (kept_parts ?_) | split)

theorem markDevice_kept {pq : List Instr} (s : State) (ch : DramCh) (rank : Fin 4) (dev : Fin 10) (hk : Kept pq s) :
    Kept pq (markDevice s ch rank dev) := by
  unfold markDevice
  repeat' (with_reducible first | exact hk | apply setChan_kept | apply logDram_kept | apply raise_kept
                                | apply channelOut_kept | apply evalPsub_kept | apply kept_ite
                                | fail_if_no_progress refine kept_mk (kept_parts ?_) | split)

theorem retireRow_kept {pq : List Instr} (s : State) (ch : DramCh) (row : RowId) (dev : Fin 10) (hk : Kept pq s) :
    Kept pq (retireRow s ch row dev) := by
  unfold retireRow
  repeat' (with_reducible first | exact hk | apply markDevice_kept | apply addRepair_kept | apply raise_kept | apply kept_ite
                                | fail_if_no_progress refine kept_mk (kept_parts ?_) | split)

theorem poisonLine_kept {pq : List Instr} (s : State) (line : Nat) (hk : Kept pq s) : Kept pq (poisonLine s line) := by
  unfold poisonLine
  repeat' (with_reducible first | exact hk | apply raise_kept | apply addPoison_kept | apply kept_ite
                                | fail_if_no_progress refine kept_mk (kept_parts ?_))

theorem uncorrectable_kept {pq : List Instr} (s : State) (line : Nat) (ch : DramCh) (row : RowId) (col : Nat) (hk : Kept pq s) :
    Kept pq (uncorrectable s line ch row col) := by
  unfold uncorrectable
  repeat' (with_reducible first | exact hk | apply queueTest_kept | apply logDram_kept | apply poisonLine_kept)

theorem detected_kept {pq : List Instr} (s : State) (line : Nat) (ch : DramCh) (row : RowId) (col : Nat) (clean : Bool)
    (hk : Kept pq s) :
    Kept pq (detected s line ch row col clean) := by
  unfold detected
  repeat' (with_reducible first | exact hk | apply logDram_kept | apply touch_kept | apply setChan_kept | apply queueTest_kept
                                | apply uncorrectable_kept | apply kept_ite
                                | fail_if_no_progress refine kept_mk (kept_parts ?_) | split)

theorem eccEffect_kept {pq : List Instr} (s : State) (line : Nat) (e : EccOutcome) (hk : Kept pq s) :
    Kept pq (eccEffect s line e) := by
  unfold eccEffect
  repeat' (with_reducible first | exact hk | apply detected_kept | apply countCorrectable_kept | apply touch_kept
                                | apply queueTest_kept | apply logDram_kept | apply uncorrectable_kept
                                | apply countMismatch_kept | apply kept_ite
                                | fail_if_no_progress refine kept_mk (kept_parts ?_) | split)

theorem eccEffects_kept {pq : List Instr} (s : State) (errs : List (Nat × EccOutcome)) (p : Nat → Bool) (hk : Kept pq s) :
    Kept pq (eccEffects s errs p) := by
  unfold eccEffects
  repeat' (with_reducible first | exact hk | assumption | apply eccEffect_kept | apply kept_ite | refine kept_foldl ?_ _ ?_
                                | intro _ _ _ | split)

theorem beginPass_kept {pq : List Instr} (s : State) (k : PassKind) (hk : Kept pq s) : Kept pq (beginPass s k) := hk

theorem endPass_kept {pq : List Instr} (s : State) (hk : Kept pq s) : Kept pq (endPass s) := by
  unfold endPass
  repeat' (with_reducible first | exact hk | apply setChan_kept | apply setShroudMode_kept | apply evalPsub_kept
                                | apply beginPass_kept | apply kept_ite | fail_if_no_progress refine kept_mk (kept_parts ?_)
                                | split)

/-! ## Machine/ThermalOps.lean -/

theorem setSite_kept {pq : List Instr} (s : State) (i : Site) (f : SiteState → SiteState) (hk : Kept pq s) :
    Kept pq (setSite s i f) := hk

theorem setBand2x_kept {pq : List Instr} (s : State) (ch : DramCh) (on : Bool) (hk : Kept pq s) : Kept pq (setBand2x s ch on) := by
  unfold setBand2x
  repeat' (with_reducible first | exact hk | apply setChan_kept | apply kept_ite
                                | fail_if_no_progress refine kept_mk (kept_parts ?_) | split)

theorem enterForced_kept {pq : List Instr} (s : State) (d : Domain) (hk : Kept pq s) : Kept pq (enterForced s d) := by
  unfold enterForced
  repeat' (with_reducible first | exact hk | assumption | apply setBand2x_kept | refine kept_foldl ?_ _ ?_ | intro _ _ _
                                | fail_if_no_progress refine kept_mk (kept_parts ?_) | split)

theorem leaveForced_kept {pq : List Instr} (s : State) (d : Domain) (hk : Kept pq s) : Kept pq (leaveForced s d) := by
  unfold leaveForced
  repeat' (with_reducible first | exact hk | fail_if_no_progress refine kept_mk (kept_parts ?_) | split)

theorem setAtMin_kept {pq : List Instr} (s : State) (d : Domain) (b : Bool) (hk : Kept pq s) : Kept pq (setAtMin s d b) := by
  unfold setAtMin
  repeat' (with_reducible first | exact hk | fail_if_no_progress refine kept_mk (kept_parts ?_) | split)

theorem checkDomain_kept {pq : List Instr} (s : State) (c : Settings) (d : Domain) (hk : Kept pq s) :
    Kept pq (checkDomain s c d) := by
  unfold checkDomain
  repeat' (with_reducible first | exact hk | apply raise_kept | apply setAtMin_kept | apply enterForced_kept
                                | apply leaveForced_kept | apply kept_ite)

theorem checkMinimums_kept {pq : List Instr} (s : State) (hk : Kept pq s) : Kept pq (checkMinimums s) := by
  unfold checkMinimums
  repeat' (with_reducible first | exact hk | apply evalPsub_kept | apply checkDomain_kept | apply kept_ite | split)

theorem ignoreSite_kept {pq : List Instr} (s : State) (i : Site) (why : SiteReason) (hk : Kept pq s) :
    Kept pq (ignoreSite s i why) := by
  unfold ignoreSite
  repeat' (with_reducible first | exact hk | apply setSite_kept | apply raise_kept | apply queueTest_kept
                                | apply checkMinimums_kept | apply kept_ite)

theorem goodSample_kept {pq : List Instr} (s : State) (i : Site) (t : Int) (hk : Kept pq s) : Kept pq (goodSample s i t) := by
  unfold goodSample
  repeat' (with_reducible first | exact hk | apply setSite_kept | apply ignoreSite_kept | apply kept_ite)

theorem badSample_kept {pq : List Instr} (s : State) (i : Site) (hk : Kept pq s) : Kept pq (badSample s i) := by
  unfold badSample
  repeat' (with_reducible first | exact hk | apply setSite_kept | apply ignoreSite_kept | apply kept_ite)

theorem failedRead_kept {pq : List Instr} (s : State) (i : Site) (hk : Kept pq s) : Kept pq (failedRead s i) := by
  unfold failedRead
  repeat' (with_reducible first | exact hk | apply setSite_kept | apply ignoreSite_kept | apply kept_ite)

theorem sampleSite_kept {pq : List Instr} (s : State) (i : Site) (reading : Option Int) (hk : Kept pq s) :
    Kept pq (sampleSite s i reading) := by
  unfold sampleSite
  repeat' (with_reducible first | exact hk | apply failedRead_kept | apply goodSample_kept | apply badSample_kept
                                | apply kept_ite | split)

theorem noteCrossings_kept {pq : List Instr} (s : State) (hk : Kept pq s) : Kept pq (noteCrossings s) := by
  unfold noteCrossings
  repeat' (with_reducible first | exact hk | apply kept_ite | fail_if_no_progress refine kept_mk (kept_parts ?_) | split)

theorem checkRetrain_kept {pq : List Instr} (s : State) (hk : Kept pq s) : Kept pq (checkRetrain s) := by
  unfold checkRetrain
  repeat' (with_reducible first | exact hk | assumption | apply queueRetrain_kept | apply kept_ite | refine kept_foldl ?_ _ ?_
                                | intro _ _ _ | split)

theorem afterSamples_kept {pq : List Instr} (s : State) (hk : Kept pq s) : Kept pq (afterSamples s) := by
  unfold afterSamples
  repeat' (with_reducible first | exact hk | apply checkRetrain_kept | apply noteCrossings_kept | apply stopFlush_kept
                                | apply kept_ite | fail_if_no_progress refine kept_mk (kept_parts ?_) | split)

theorem recordTrip_kept {pq : List Instr} (s : State) (r : TripRecord) (canWrite : Bool) (hk : Kept pq s) :
    Kept pq (recordTrip s r canWrite) := by
  unfold recordTrip
  repeat' (with_reducible first | exact hk | apply logEvent_kept | apply writeTrip_kept | apply kept_ite
                                | fail_if_no_progress refine kept_mk (kept_parts ?_))

theorem setTrip_kept {pq : List Instr} (s : State) (kind site ch : Nat) (temp : Int) (hk : Kept pq s) :
    Kept pq (setTrip s kind site ch temp) := hk

theorem tripSave_kept {pq : List Instr} (s : State) (t : Trigger) (hk : Kept pq s) : Kept pq (tripSave s t) := by
  unfold tripSave
  repeat' (with_reducible first | exact hk | apply triggerSave_kept | apply recordTrip_kept | apply kept_ite
                                | fail_if_no_progress refine kept_mk (kept_parts ?_) | split)

/-! ## Machine/RecorderOps.lean -/

theorem sweepSuppressed_kept {pq : List Instr} (s : State) (hk : Kept pq s) : Kept pq (sweepSuppressed s) := by
  have h := kept_foldl (f := fun s (b : Bucket) =>
      setBucket (stage s (suppressed s (codeSeverity b.code.toNat) b)) { b with drops := 0 })
    (fun s b h => setBucket_kept _ _ (stage_kept s _ h)) (s.recorder.buckets.filter fun b => b.drops != 0) hk
  exact kept_recorder h rfl rfl (kept_fits h)

theorem restage_kept {pq : List Instr} (s : State) (hk : Kept pq s) : Kept pq (restage s) :=
  kept_recorder hk rfl rfl (moveStaged_fits _ (kept_fits hk))

theorem setMirror_kept {pq : List Instr} (s : State) (m : Fin 2) (f : Mirror → Mirror) (hk : Kept pq s) :
    Kept pq (setMirror s m f) := hk

theorem mirrorFails_kept {pq : List Instr} (s : State) (m : Fin 2) (hk : Kept pq s) : Kept pq (mirrorFails s m) := by
  have h1 := setMirror_kept s m (fun x => { x with ok := false }) hk
  unfold mirrorFails
  split
  · exact hk
  · with_reducible apply kept_ite
    · exact raise_kept _ _ _ (logEvent_kept _ _ _ _ (kept_recorder h1 rfl rfl (kept_fits h1)))
    · exact logEvent_kept _ _ _ _ (kept_recorder h1 rfl rfl (kept_fits h1))

theorem mirrorOfChannel_kept {pq : List Instr} (s : State) (ch : FlashCh) (hk : Kept pq s) : Kept pq (mirrorOfChannel s ch) := by
  unfold mirrorOfChannel
  repeat' (with_reducible first | exact hk | assumption | apply mirrorFails_kept | apply kept_ite | refine kept_foldl ?_ _ ?_
                                | intro _ _ _)

theorem relocateMirror_kept {pq : List Instr} (s : State) (m other : Fin 2) (ch : FlashCh) (hk : Kept pq s) :
    Kept pq (relocateMirror s m other ch) := by
  unfold relocateMirror
  repeat' (with_reducible first | exact hk | apply setMirror_kept | apply logEvent_kept | apply kept_ite
                                | fail_if_no_progress refine kept_mk (kept_parts ?_))

theorem programFull_kept {pq : List Instr} (s : State) (rs : List Record) (hk : Kept pq s) : Kept pq (programFull s rs) := by
  unfold programFull
  have h := chargeWear_kept s (logPageBytes s) hk
  refine restage_kept _ (kept_recorder h rfl rfl (turnPage_fits ?_))
  have ha := appendLog_fits (rs := rs) (kept_fits h)
  exact ⟨ha.1, ha.2.1, fun p hp => by cases hp⟩

theorem programPartial_kept {pq : List Instr} (s : State) (hk : Kept pq s) : Kept pq (programPartial s) := by
  unfold programPartial
  split
  · exact hk
  · have h1 : ∀ o : Option (List Record), Kept pq (match o with | some rs => programFull s rs | none => s) := fun o => by
      cases o with
      | none => exact hk
      | some rs => exact programFull_kept s rs hk
    have h1 := h1 s.recorder.fullPage
    extract_lets s1 s2
    have h1 : Kept pq s1 := h1
    clear_value s1
    split
    · exact h1
    · have h := chargeWear_kept s1 (logPageBytes s1) h1
      have ha := appendLog_fits (rs := s2.recorder.page) (kept_fits h)
      exact restage_kept _ (kept_recorder h rfl rfl ⟨ha.1, Nat.zero_le _, ha.2.2⟩)

theorem bringLog_kept {pq : List Instr} (s : State) (hk : Kept pq s) : Kept pq (bringLog s) := by
  have hr : (if bothLost s then { s.recorder with nand := [], inSet := 0, logPage := 0, logSet := 0 } else s.recorder).fits := by
    split <;> exact kept_fits hk
  unfold bringLog
  split
  · exact hk
  · with_reducible apply kept_ite
    · exact restage_kept _ (kept_recorder hk rfl rfl hr)
    · exact restage_kept _ (logEvent_kept _ _ _ _ (kept_recorder hk rfl rfl (appendLog_fits hr)))

theorem logReadBody_kept {pq : List Instr} (s : State) (start count : Word) (hk : Kept pq s) :
    Kept pq (logReadBody s start count).2 := by
  unfold logReadBody
  repeat' (with_reducible first | exact hk | fail_if_no_progress refine kept_mk (kept_parts ?_) | split | dsimp only)

theorem logReadBody_keptE {pq : List Instr} {s : State} {start count : Word} {ra} {rb} (hk : Kept pq s) (he : logReadBody s start
    count = (ra, rb)) :
    Kept pq rb := by
  have := logReadBody_kept (pq := pq) s start count hk
  rw [he] at this; exact this

/-! ## Machine/MemOps.lean -/

theorem refuse_kept {pq : List Instr} (s : State) (l : Link) (id : Nat) (isWrite : Bool) (hk : Kept pq s) :
    Kept pq (refuse s l id isWrite) := by
  unfold refuse
  repeat' (with_reducible first | exact hk | apply logEvent_kept | apply raise_kept | apply kept_ite
                                | fail_if_no_progress refine kept_mk (kept_parts ?_))

theorem noteFilled_kept {pq : List Instr} (s : State) (g : Nat) (hk : Kept pq s) : Kept pq (noteFilled s g) := by
  unfold noteFilled
  repeat' (with_reducible first | exact hk | apply kept_ite | fail_if_no_progress refine kept_mk (kept_parts ?_) | split)

theorem setPresent_kept {pq : List Instr} (s : State) (g : Nat) (hk : Kept pq s) : Kept pq (setPresent s g) := by
  unfold setPresent
  repeat' (with_reducible first | exact hk | apply noteFilled_kept | apply kept_ite
                                | fail_if_no_progress refine kept_mk (kept_parts ?_) | split)

theorem staleRegion_kept {pq : List Instr} (s : State) (r : Nat) (hk : Kept pq s) : Kept pq (staleRegion s r) := by
  unfold staleRegion
  repeat' (with_reducible first | exact hk | apply kept_ite | fail_if_no_progress refine kept_mk (kept_parts ?_) | split)

theorem writeGranule_kept {pq : List Instr} (s : State) (g : Nat) (cells : List Host.Cell) (hk : Kept pq s) :
    Kept pq (writeGranule s g cells) := by
  unfold writeGranule
  extract_lets lo lost mem
  have hm : Memory.wf mem = true := by
    show Memory.wf (if _ then _ else _) = true
    split
    · exact memory_wf_writeCells _ _ (memory_wf_filter _ hk.2.1)
    · exact memory_wf_writeCells _ _ (memory_wf_filter _ hk.2.1)
  clear_value mem
  exact staleRegion_kept _ _ (granuleParity_kept _ _ (restoreAccess_kept _ _ ⟨hk.1, hm, hk.2.2⟩))

theorem zeroFill_kept {pq : List Instr} (s : State) (g : Nat) (hk : Kept pq s) : Kept pq (zeroFill s g) := by
  unfold zeroFill
  repeat' (with_reducible first | exact hk | apply setPresent_kept | apply writeGranule_kept)

theorem acceptWrite_kept {pq : List Instr} (s : State) (q : Slot) (data : Line) (poison wait : Bool) (ecc : EccOutcome)
    (hk : Kept pq s) :
    Kept pq (acceptWrite s q data poison wait ecc) := by
  unfold acceptWrite
  repeat' (with_reducible first | exact hk | apply waitFetch_kept | apply emit_kept
                                | fail_if_no_progress refine kept_mk (kept_parts ?_))

theorem answerWith_kept {pq : List Instr} (s : State) (q : Slot) (c : Line × Bool) (hk : Kept pq s) :
    Kept pq (answerWith s q c) := by
  unfold answerWith
  repeat' (with_reducible first | exact hk | apply emit_kept | apply kept_ite | split)

theorem answerRead_kept {pq : List Instr} (s : State) (q : Slot) (hk : Kept pq s) : Kept pq (answerRead s q) := by
  unfold answerRead
  repeat' (with_reducible first | exact hk | apply answerWith_kept)

theorem readDram_kept {pq : List Instr} (s : State) (q : Slot) (hk : Kept pq s) : Kept pq (readDram s q) := by
  unfold readDram
  repeat' (with_reducible first | exact hk | apply answerRead_kept | apply eccEffect_kept | apply readAccess_kept)

theorem acceptPartial_kept {pq : List Instr} (s : State) (q : Slot) (wait : Bool) (hk : Kept pq s) :
    Kept pq (acceptPartial s q wait) := by
  unfold acceptPartial
  repeat' (with_reducible first | exact hk | apply eccEffect_kept | apply readAccess_kept | apply acceptWrite_kept
                                | apply kept_ite | split)

theorem startFetch_kept {pq : List Instr} (s : State) (g : Nat) (hk : Kept pq s) : Kept pq (startFetch s g) := by
  unfold startFetch
  repeat' (with_reducible first | exact hk | apply suspendErase_kept | apply kept_ite
                                | fail_if_no_progress refine kept_mk (kept_parts ?_) | split | dsimp only)

theorem waitIn_kept {pq : List Instr} (s : State) (q : Slot) (w : WaitFor) (hk : Kept pq s) : Kept pq (waitIn s q w) := hk

theorem waitFetch_kept {pq : List Instr} (s : State) (q : Slot) (hk : Kept pq s) : Kept pq (waitFetch s q) := by
  unfold waitFetch
  repeat' (with_reducible first | exact hk | apply startFetch_kept | apply waitIn_kept
                                | fail_if_no_progress refine kept_mk (kept_parts ?_))

theorem admitRead_kept {pq : List Instr} (s : State) (q : Slot) (hk : Kept pq s) : Kept pq (admitRead s q) := by
  unfold admitRead
  repeat' (with_reducible first | exact hk | apply answerRead_kept | apply readDram_kept | apply zeroFill_kept
                                | apply waitFetch_kept | apply kept_ite | split)

theorem admitWrite_kept {pq : List Instr} (s : State) (q : Slot) (hk : Kept pq s) : Kept pq (admitWrite s q) := by
  unfold admitWrite
  repeat' (with_reducible first | exact hk | apply zeroFill_kept | apply acceptWrite_kept | apply startFetch_kept
                                | apply waitFetch_kept | apply acceptPartial_kept | apply kept_ite | split)

theorem admitSlot_kept {pq : List Instr} (s : State) (q : Slot) (hk : Kept pq s) : Kept pq (admitSlot s q) := by
  unfold admitSlot
  repeat' (with_reducible first | exact hk | apply refuse_kept | apply emit_kept | apply admitWrite_kept
                                | apply admitRead_kept | apply kept_ite | split)

theorem keepWaiting_kept {pq : List Instr} (s : State) (q : Slot) (w : WaitFor) (hk : Kept pq s) : Kept pq (keepWaiting s q w) := by
  unfold keepWaiting
  repeat' (with_reducible first | exact hk | apply startFetch_kept | apply waitIn_kept | apply kept_ite | split)

theorem enterSlot_kept {pq : List Instr} (s : State) (q : Slot) (hk : Kept pq s) : Kept pq (enterSlot s q) := by
  unfold enterSlot
  repeat' (with_reducible first | exact hk | apply keepWaiting_kept | apply admitSlot_kept
                                | fail_if_no_progress refine kept_mk (kept_parts ?_) | split)

theorem takeTurn_kept {pq : List Instr} (s : State) (n : Nat) (hk : Kept pq s) : Kept pq (takeTurn s n) := by
  unfold takeTurn
  repeat' (with_reducible first | exact hk | apply kept_ite | fail_if_no_progress refine kept_mk (kept_parts ?_) | split)

theorem admitNext_keptE {pq : List Instr} {s t : State} (hk : Kept pq s) (he : admitNext s = some t) : Kept pq t := by
  unfold admitNext at he
  split at he
  · cases he
  · obtain ⟨q, _, rfl⟩ := Option.map_eq_some_iff.1 he
    exact admitSlot_kept _ _ (takeTurn_kept _ _ (kept_mk (kept_parts hk)))

theorem admitAll_kept {pq : List Instr} : ∀ (n : Nat) (s : State), Kept pq s → Kept pq (admitAll n s)
  | 0, _, hk => hk
  | n + 1, s, hk => by
    unfold admitAll
    split
    · rename_i he
      exact admitAll_kept n _ (admitNext_keptE hk he)
    · exact hk

theorem renewWaits_kept {pq : List Instr} (s : State) (hk : Kept pq s) : Kept pq (renewWaits s) := by
  unfold renewWaits
  repeat' (with_reducible first | exact hk | assumption | apply waitIn_kept | apply keepWaiting_kept | apply kept_ite
                                | refine kept_foldl ?_ _ ?_ | intro _ _ _ | fail_if_no_progress refine kept_mk (kept_parts ?_)
                                | split)

theorem retrySlots_kept {pq : List Instr} (s : State) (hk : Kept pq s) : Kept pq (retrySlots s) := by
  unfold retrySlots
  repeat' (with_reducible first | exact hk | apply renewWaits_kept | apply admitAll_kept | apply kept_ite | split)

theorem serveOne_kept {pq : List Instr} (s : State) (q : Slot) (hk : Kept pq s) : Kept pq (serveOne s q) := by
  unfold serveOne
  repeat' (with_reducible first | exact hk | apply answerWith_kept | apply waitIn_kept | apply acceptPartial_kept
                                | apply kept_ite | split)

theorem serveWaiting_kept {pq : List Instr} (s : State) (g : Nat) (hk : Kept pq s) : Kept pq (serveWaiting s g) := by
  unfold serveWaiting
  repeat' (with_reducible first | exact hk | assumption | apply serveOne_kept | refine kept_foldl ?_ _ ?_ | intro _ _ _
                                | fail_if_no_progress refine kept_mk (kept_parts ?_))

theorem releaseWaiting_kept {pq : List Instr} (s : State) (g : Nat) (hk : Kept pq s) : Kept pq (releaseWaiting s g) := hk

theorem restoreToRun_kept {pq : List Instr} (s : State) (hk : Kept pq s) : Kept pq (restoreToRun s) := by
  unfold restoreToRun
  repeat' (with_reducible first | exact hk | apply debugReturns_kept | apply kept_ite
                                | fail_if_no_progress refine kept_mk (kept_parts ?_))

theorem rebuildAfterRestore_kept {pq : List Instr} (s : State) (hk : Kept pq s) : Kept pq (rebuildAfterRestore s) := by
  unfold rebuildAfterRestore
  repeat' (with_reducible first | exact hk | apply endPass_kept | apply kept_ite
                                | fail_if_no_progress refine kept_mk (kept_parts ?_) | split)

theorem endRestore_kept {pq : List Instr} (s : State) (hk : Kept pq s) : Kept pq (endRestore s) := by
  unfold endRestore
  repeat' (with_reducible first | exact hk | apply rebuildAfterRestore_kept | apply restoreToRun_kept | apply raise_kept
                                | apply kept_ite | fail_if_no_progress refine kept_mk (kept_parts ?_))

theorem endFill_kept {pq : List Instr} (s : State) (hk : Kept pq s) : Kept pq (endFill s) := by
  unfold endFill
  repeat' (with_reducible first | exact hk | apply endPass_kept | apply kept_ite | split)

theorem bringIn_kept {pq : List Instr} (s : State) (g : Nat) (ok : Bool) (hk : Kept pq s) : Kept pq (bringIn s g ok) := by
  unfold bringIn
  repeat' (with_reducible first | exact hk | apply writeGranule_kept | apply poisonGranule_kept | apply raise_kept
                                | apply endFill_kept | apply endRestore_kept | apply retrySlots_kept | apply serveWaiting_kept
                                | apply releaseWaiting_kept | apply setPresent_kept | apply kept_ite
                                | fail_if_no_progress refine kept_mk (kept_parts ?_))

theorem noteCopyRead_kept {pq : List Instr} (s : State) (g : Nat) (demand : Bool) (o : DecodeOutcome) (hk : Kept pq s) :
    Kept pq (noteCopyRead s g demand o) := by
  unfold noteCopyRead
  repeat' (with_reducible first | exact hk | apply noteRead_kept | apply kept_ite
                                | fail_if_no_progress refine kept_mk (kept_parts ?_) | split)

theorem endFetch_kept {pq : List Instr} (s : State) (g : Nat) (o : DecodeOutcome) (micros : Nat) (hk : Kept pq s) :
    Kept pq (endFetch s g o micros) := by
  unfold endFetch
  repeat' (with_reducible first | exact hk | apply noteCopyRead_kept | apply issueWaiting_kept | apply bringIn_kept
                                | apply kept_ite | fail_if_no_progress refine kept_mk (kept_parts ?_) | split)

theorem closeStaging_kept {pq : List Instr} (s : State) (st : Nat) (hk : Kept pq s) : Kept pq (closeStaging s st) := by
  unfold closeStaging
  repeat' (with_reducible first | exact hk | apply setParity_kept | apply touch_kept | apply kept_ite
                                | fail_if_no_progress refine kept_mk (kept_parts ?_) | split)

theorem foldParity_kept {pq : List Instr} (s : State) (st : Nat) (delta : Line) (hk : Kept pq s) :
    Kept pq (foldParity s st delta) := by
  unfold foldParity
  repeat' (with_reducible first | exact hk | apply closeStaging_kept | apply kept_ite
                                | fail_if_no_progress refine kept_mk (kept_parts ?_) | split)

theorem markStale_kept {pq : List Instr} (s : State) (line : Nat) (hk : Kept pq s) : Kept pq (markStale s line) := by
  unfold markStale
  repeat' (with_reducible first | exact hk | apply staleRegion_kept | apply kept_ite | split)

theorem drainAccess_kept {pq : List Instr} (s : State) (line : Nat) (hk : Kept pq s) : Kept pq (drainAccess s line) := by
  unfold drainAccess
  repeat' (with_reducible first | exact hk | apply touch_kept | apply kept_ite | split)

theorem drainLine_kept {pq : List Instr} (s : State) (b : BufLine) (hk : Kept pq s) : Kept pq (drainLine s b) := by
  unfold drainLine
  repeat' (with_reducible first | exact hk | apply followD_kept | apply markDirty_kept | apply foldParity_kept | apply markStale_kept
                                | apply addPoison_kept | apply dropPoison_kept | apply drainAccess_kept | apply eccEffect_kept
                                | apply kept_ite | refine kept_mk (keptP_writeLine (kept_parts ?_)))

theorem releaseLine_kept {pq : List Instr} (s : State) (line : Nat) (hk : Kept pq s) : Kept pq (releaseLine s line) := by
  unfold releaseLine
  repeat' (with_reducible first | exact hk | apply kept_ite | fail_if_no_progress refine kept_mk (kept_parts ?_) | split)

theorem drainAll_kept {pq : List Instr} : ∀ (n : Nat) (s : State), Kept pq s → Kept pq (drainAll n s)
  | 0, _, hk => hk
  | n + 1, s, hk => by
    unfold drainAll
    split
    · exact kept_mk (kept_parts (kept_foldl (fun s e h => closeStaging_kept s e.stripe h) _ hk))
    · exact drainAll_kept n _ (drainLine_kept s _ hk)

theorem drainBuffers_kept {pq : List Instr} (s : State) (hk : Kept pq s) : Kept pq (drainBuffers s) := by
  unfold drainBuffers
  repeat' (with_reducible first | exact hk | apply drainAll_kept)

/-! ## Machine/PowerOps.lean -/

theorem checkBudget_kept {pq : List Instr} (s : State) (old : Nat) (hk : Kept pq s) : Kept pq (checkBudget s old) := by
  unfold checkBudget
  repeat' (with_reducible first | exact hk | apply raise_kept | apply kept_ite)

theorem endInterval_kept {pq : List Instr} (s : State) (hk : Kept pq s) : Kept pq (endInterval s) := by
  unfold endInterval
  repeat' (with_reducible first | exact hk | apply hold_kept | apply checkBudget_kept
                                | fail_if_no_progress refine kept_mk (kept_parts ?_) | split)

theorem breakErases_kept {pq : List Instr} (s : State) (hk : Kept pq s) : Kept pq (breakErases s) := by
  unfold breakErases
  repeat' (with_reducible first | exact hk | assumption | apply eraseBroken_kept | refine kept_foldl ?_ _ ?_ | intro _ _ _)

theorem brokenSector_kept {pq : List Instr} (s : State) (sec : Nat) (hk : Kept pq s) : Kept pq (brokenSector s sec) := by
  unfold brokenSector
  repeat' (with_reducible first | exact hk | apply sectorGone_kept | fail_if_no_progress refine kept_mk (kept_parts ?_))

theorem breakCfErase_kept {pq : List Instr} (s : State) (hk : Kept pq s) : Kept pq (breakCfErase s) := by
  unfold breakCfErase
  repeat' (with_reducible first | exact hk | apply brokenSector_kept | apply kept_ite | split | dsimp only)

theorem aonLost_kept {pq : List Instr} (s : State) (hk : Kept pq s) : Kept pq (aonLost s) :=
  ⟨(breakCfErase_kept _ (breakErases_kept s hk)).1, rfl, rfl, recorderMedium_fits _⟩

theorem linksReset_kept {pq : List Instr} (s : State) (hk : Kept pq s) : Kept pq (linksReset s) := by
  unfold linksReset
  repeat' (with_reducible first | exact hk | assumption | apply linkGone_kept | apply linkReset_kept
                                | refine kept_foldl ?_ _ ?_ | intro _ _ _ | fail_if_no_progress refine kept_mk (kept_parts ?_))

theorem channelsSleep_kept {pq : List Instr} (s : State) (hk : Kept pq s) : Kept pq (channelsSleep s) := by
  unfold channelsSleep
  repeat' (with_reducible first | exact hk | apply kept_ite | fail_if_no_progress refine kept_mk (kept_parts ?_) | split)

theorem dramGone_kept {pq : List Instr} (s : State) (hk : Kept pq s) : Kept pq (dramGone s) := ⟨hk.1, rfl, rfl, hk.2.2.2⟩

theorem debugReset_kept {pq : List Instr} (s : State) (hk : Kept pq s) : Kept pq (debugReset s) := by
  unfold debugReset
  repeat' (with_reducible first | exact hk | apply endSession_kept | apply refuse_kept
                                | fail_if_no_progress refine kept_mk (kept_parts ?_))

theorem resetCore_kept {pq : List Instr} (s : State) (keep : Bool) (hk : Kept pq s) : Kept pq (resetCore s keep) := by
  unfold resetCore
  repeat' (with_reducible first | exact hk | apply linksReset_kept | apply debugReset_kept | apply breakErases_kept
                                | apply channelsSleep_kept | apply dramGone_kept | apply kept_ite
                                | refine kept_mk (keptP_medium ?_))

theorem sramLost_kept {pq : List Instr} (s : State) (hk : Kept pq s) : Kept pq (sramLost s) := hk

theorem cfPowerLoss_kept {pq : List Instr} (s : State) (hk : Kept pq s) : Kept pq (cfPowerLoss s) := by
  unfold cfPowerLoss
  repeat' (with_reducible first | exact hk | apply brokenSector_kept | fail_if_no_progress refine kept_mk (kept_parts ?_) | split)

theorem coreLost_kept {pq : List Instr} (s : State) (hk : Kept pq s) : Kept pq (coreLost s) := by
  unfold coreLost
  repeat' (with_reducible first | exact hk | apply sramLost_kept | apply resetCore_kept | apply cfPowerLoss_kept
                                | fail_if_no_progress refine kept_mk (kept_parts ?_))

theorem finishFetches_kept {pq : List Instr} (s : State) (hk : Kept pq s) : Kept pq (finishFetches s) := by
  unfold finishFetches
  repeat' (with_reducible first | exact hk | assumption | apply waitFetch_kept | apply bringIn_kept
                                | refine kept_foldl ?_ _ ?_ | intro _ _ _ | fail_if_no_progress refine kept_mk (kept_parts ?_))

theorem selfRefreshAll_kept {pq : List Instr} (s : State) (hk : Kept pq s) : Kept pq (selfRefreshAll s) := by
  unfold selfRefreshAll
  repeat' (with_reducible first | exact hk | apply channelsSleep_kept | apply programPartial_kept | apply drainBuffers_kept
                                | apply finishFetches_kept)

theorem dataPathReset_kept {pq : List Instr} (s : State) (hk : Kept pq s) : Kept pq (dataPathReset s) := by
  unfold dataPathReset
  repeat' (with_reducible first | exact hk | apply selfRefreshAll_kept | apply beginInterval_kept | apply resetCore_kept
                                | apply kept_ite | fail_if_no_progress refine kept_mk (kept_parts ?_))

theorem setRail_kept {pq : List Instr} (s : State) (r : Rail) (f : RailState → RailState) (hk : Kept pq s) :
    Kept pq (setRail s r f) := hk

theorem enableRail_kept {pq : List Instr} (s : State) (r : Rail) (hk : Kept pq s) : Kept pq (enableRail s r) := by
  unfold enableRail
  repeat' (with_reducible first | exact hk | apply setRail_kept | fail_if_no_progress refine kept_mk (kept_parts ?_))

theorem beginSequence_kept {pq : List Instr} (s : State) (rs : List Rail) (p : SeqPurpose) (hk : Kept pq s) :
    Kept pq (beginSequence s rs p) := by
  unfold beginSequence
  repeat' (with_reducible first | exact hk | assumption | apply setRail_kept | apply enableRail_kept | refine kept_foldl ?_ _ ?_
                                | intro _ _ _ | fail_if_no_progress refine kept_mk (kept_parts ?_) | split | dsimp only)

theorem startBoot_kept {pq : List Instr} (s : State) (hk : Kept pq s) : Kept pq (startBoot s) := by
  unfold startBoot
  repeat' (with_reducible first | exact hk | apply sramLost_kept | apply resetCore_kept | apply beginSequence_kept
                                | apply kept_ite | fail_if_no_progress refine kept_mk (kept_parts ?_) | split)

theorem tryStart_kept {pq : List Instr} (s : State) (hk : Kept pq s) : Kept pq (tryStart s) := by
  unfold tryStart
  repeat' (with_reducible first | exact hk | apply startBoot_kept | apply kept_ite)

theorem enterStandby_kept {pq : List Instr} (s : State) (k : StandbyKind) (hk : Kept pq s) : Kept pq (enterStandby s k) := by
  unfold enterStandby
  repeat' (with_reducible first | exact hk | apply releaseHold_kept | apply aonLost_kept | apply kept_ite
                                | fail_if_no_progress refine kept_mk (kept_parts ?_) | split)

theorem setCause_kept {pq : List Instr} (s : State) (c rail : Nat) (hk : Kept pq s) : Kept pq (setCause s c rail) := hk

theorem saveEnded_kept {pq : List Instr} (s : State) (hk : Kept pq s) : Kept pq (saveEnded s) := by
  unfold saveEnded
  repeat' (with_reducible first | exact hk | apply kept_ite | fail_if_no_progress refine kept_mk (kept_parts ?_) | split)

theorem finishDown_kept {pq : List Instr} (s : State) (hk : Kept pq s) : Kept pq (finishDown s) := by
  unfold finishDown
  repeat' (with_reducible first | exact hk | apply tryStart_kept | apply enterStandby_kept | apply saveEnded_kept
                                | apply beginInterval_kept | apply setCause_kept | apply setRail_kept | apply raise_kept
                                | apply kept_ite | fail_if_no_progress refine kept_mk (kept_parts ?_) | split)

theorem railGone_kept {pq : List Instr} (s : State) (r : Rail) (hk : Kept pq s) : Kept pq (railGone s r) := by
  unfold railGone
  repeat' (with_reducible first | exact hk | apply idleLinks_kept | apply coreLost_kept | apply kept_ite | split)

theorem downStep_kept {pq : List Instr} (s : State) (hk : Kept pq s) : Kept pq (downStep s) := by
  unfold downStep
  repeat' (with_reducible first | exact hk | apply finishDown_kept | apply railGone_kept | apply switchRailOff_kept
                                | apply kept_ite | fail_if_no_progress refine kept_mk (kept_parts ?_) | split)

theorem nandDown_kept {pq : List Instr} (s : State) (hk : Kept pq s) : Kept pq (nandDown s) := hk

theorem portsDown_kept {pq : List Instr} (s : State) (hk : Kept pq s) : Kept pq (portsDown s) := hk

theorem linksDown_kept {pq : List Instr} (s : State) (hk : Kept pq s) : Kept pq (linksDown s) := by
  unfold linksDown
  repeat' (with_reducible first | exact hk | apply idleLinks_kept)

theorem holdConsumers_kept {pq : List Instr} (s : State) (r : Rail) (hk : Kept pq s) : Kept pq (holdConsumers s r) := by
  unfold holdConsumers
  repeat' (with_reducible first | exact hk | apply linksDown_kept | apply nandDown_kept | apply portsDown_kept | apply kept_ite)

theorem resumeConsumers_kept {pq : List Instr} (s : State) (r : Rail) (hk : Kept pq s) : Kept pq (resumeConsumers s r) := by
  unfold resumeConsumers
  repeat' (with_reducible first | exact hk | assumption | apply retrySlots_kept | apply queueRetrain_kept | apply kept_ite
                                | refine kept_foldl ?_ _ ?_ | intro _ _ _ | fail_if_no_progress refine kept_mk (kept_parts ?_))

theorem railFaultNotice_kept {pq : List Instr} (s : State) (r : Rail) (reaction : RailClass) (escalated : Bool) (hk : Kept pq s) :
    Kept pq (railFaultNotice s r reaction escalated) := by
  unfold railFaultNotice
  repeat' (with_reducible first | exact hk | apply raise_kept)

theorem resetReaction_kept {pq : List Instr} (s : State) (r : Rail) (hk : Kept pq s) : Kept pq (resetReaction s r) := by
  unfold resetReaction
  repeat' (with_reducible first | exact hk | apply setCause_kept | apply dataPathReset_kept | apply setRail_kept
                                | apply beginShutdown_kept | apply kept_ite)

theorem groupOut_kept {pq : List Instr} (s : State) (g : Fin 3) (hk : Kept pq s) : Kept pq (groupOut s g) := by
  unfold groupOut
  repeat' (with_reducible first | exact hk | assumption | apply beginInterval_kept | apply linksDown_kept
                                | apply breakErases_kept | apply ceilingEvent_kept | apply kept_ite | refine kept_foldl ?_ _ ?_
                                | intro _ _ _ | fail_if_no_progress refine kept_mk (kept_parts ?_))

theorem groupReaction_kept {pq : List Instr} (s : State) (r : Rail) (g : Fin 3) (hk : Kept pq s) :
    Kept pq (groupReaction s r g) := by
  unfold groupReaction
  repeat' (with_reducible first | exact hk | apply resetReaction_kept | apply groupOut_kept | apply kept_ite
                                | fail_if_no_progress refine kept_mk (kept_parts ?_))

theorem deferReaction_kept {pq : List Instr} (s : State) (r : Rail) (cls : RailClass) (hk : Kept pq s) :
    Kept pq (deferReaction s r cls) := by
  unfold deferReaction
  repeat' (with_reducible first | exact hk | apply nandDown_kept | apply kept_ite
                                | fail_if_no_progress refine kept_mk (kept_parts ?_) | split)

theorem react_kept {pq : List Instr} (s : State) (r : Rail) (cls : RailClass) (escalated : Bool) (hk : Kept pq s) :
    Kept pq (react s r cls escalated) := by
  unfold react
  repeat' (with_reducible first | exact hk | apply deferReaction_kept | apply railFaultNotice_kept | apply groupReaction_kept
                                | apply resetReaction_kept | apply kept_ite
                                | fail_if_no_progress refine kept_mk (kept_parts ?_) | split)

theorem logFault_kept {pq : List Instr} (s : State) (r : Rail) (hk : Kept pq s) : Kept pq (logFault s r) := by
  unfold logFault
  repeat' (with_reducible first | exact hk | apply logEvent_kept | apply kept_ite | split)

theorem faultRail_kept {pq : List Instr} (s : State) (r : Rail) (hk : Kept pq s) : Kept pq (faultRail s r) := by
  unfold faultRail
  repeat' (with_reducible first | exact hk | apply setRail_kept | apply logFault_kept | apply react_kept
                                | apply holdConsumers_kept | apply kept_ite
                                | fail_if_no_progress refine kept_mk (kept_parts ?_) | split)

theorem recoverRail_kept {pq : List Instr} (s : State) (r : Rail) (half : Nat) (hk : Kept pq s) :
    Kept pq (recoverRail s r half) := by
  unfold recoverRail
  repeat' (with_reducible first | exact hk | apply setRail_kept | apply railFaultNotice_kept | apply raise_kept
                                | apply resumeConsumers_kept | apply kept_ite)

/-! ## Machine/EngineOps.lean -/

theorem setEngine_kept {pq : List Instr} (s : State) (e : EngineId) (f : Engine → Engine) (hk : Kept pq s) :
    Kept pq (setEngine s e f) := hk

theorem withoutEngine_kept {pq : List Instr} (s : State) (c : FlashCh) (hk : Kept pq s) : Kept pq (withoutEngine s c) := hk

theorem thinRole_kept {pq : List Instr} (x : State × Bool) (e : EngineId) (hk : Kept pq x.1) : Kept pq (thinRole x e).1 := by
  unfold thinRole
  repeat' (with_reducible first | exact hk | apply withoutEngine_kept | fail_if_no_progress refine kept_mk (kept_parts ?_) | split)

theorem retestHeld_kept {pq : List Instr} (s : State) (hk : Kept pq s) : Kept pq (retestHeld s) := by
  unfold retestHeld
  repeat' (with_reducible first | exact hk | assumption | apply queueTest_kept | apply setEngine_kept | apply kept_ite
                                | refine kept_foldl ?_ _ ?_ | intro _ _ _ | fail_if_no_progress refine kept_mk (kept_parts ?_)
                                | split)

theorem assignEngines_kept {pq : List Instr} (s : State) (hk : Kept pq s) : Kept pq (assignEngines s).1 := by
  unfold assignEngines
  extract_lets first t
  have fold : ∀ (l : List EngineId) (x : State × Bool), Kept pq x.1 → Kept pq (l.foldl thinRole x).1 := by
    intro l
    induction l with
    | nil => exact fun x h => h
    | cons e l ih => exact fun x h => ih _ (thinRole_kept x e h)
  exact fold _ _ (kept_mk (kept_parts hk))

theorem swapChannel_kept {pq : List Instr} (s : State) (r : Role) (hk : Kept pq s) : Kept pq (swapChannel s r) := by
  unfold swapChannel
  repeat' (with_reducible first | exact hk | apply kept_ite | fail_if_no_progress refine kept_mk (kept_parts ?_) | split)

theorem roleLost_kept {pq : List Instr} (s : State) (r : Role) (hk : Kept pq s) : Kept pq (roleLost s r) := by
  unfold roleLost
  repeat' (with_reducible first | exact hk | apply mirrorOfChannel_kept | apply withoutEngine_kept | apply flashChannelOut_kept
                                | apply triggerSave_kept | fail_if_no_progress refine kept_mk (kept_parts ?_) | split)

theorem spareNotice_kept {pq : List Instr} (s : State) (before : Bool) (hk : Kept pq s) : Kept pq (spareNotice s before) := by
  unfold spareNotice
  repeat' (with_reducible first | exact hk | apply evalPsub_kept | apply raise_kept | apply kept_ite)

theorem failEngine_kept {pq : List Instr} (s : State) (e : EngineId) (hk : Kept pq s) : Kept pq (failEngine s e) := by
  unfold failEngine
  repeat' (with_reducible first | exact hk | apply addRepair_kept | apply raise_kept | apply setEngine_kept
                                | apply swapChannel_kept | apply roleLost_kept | apply spareNotice_kept | apply kept_ite
                                | fail_if_no_progress refine kept_mk (kept_parts ?_) | split)

theorem endSwap_kept {pq : List Instr} (s : State) (x : EngineId) (hk : Kept pq s) : Kept pq (endSwap s x) := by
  unfold endSwap
  repeat' (with_reducible first | exact hk | apply setEngine_kept | apply kept_ite
                                | fail_if_no_progress refine kept_mk (kept_parts ?_) | split)

/-! ## Machine/StartOps.lean -/

theorem resumeClock_kept {pq : List Instr} (s : State) (hk : Kept pq s) : Kept pq (resumeClock s) := by
  unfold resumeClock
  repeat' (with_reducible first | exact hk | apply logEvent_kept | apply kept_ite
                                | fail_if_no_progress refine kept_mk (kept_parts ?_) | split)

theorem writePending_kept {pq : List Instr} (s : State) (hk : Kept pq s) : Kept pq (writePending s) := by
  unfold writePending
  repeat' (with_reducible first | exact hk | apply writeTrip_kept | apply kept_ite
                                | fail_if_no_progress refine kept_mk (kept_parts ?_) | split)

theorem eraseUnkept_kept {pq : List Instr} (s : State) (hk : Kept pq s) : Kept pq (eraseUnkept s) := hk

theorem commitLowering_kept {pq : List Instr} (s : State) (old new : Level) (keyId : Word) (hk : Kept pq s) :
    Kept pq (commitLowering s old new keyId) := by
  unfold commitLowering
  repeat' (with_reducible first | exact hk | apply writeLevel_kept | apply cfEraseSector_kept | apply raise_kept
                                | fail_if_no_progress refine kept_mk (kept_parts ?_))

theorem completeLowering_kept {pq : List Instr} (s : State) (target : Level) (hk : Kept pq s) :
    Kept pq (completeLowering s target) := by
  unfold completeLowering
  repeat' (with_reducible first | exact hk | apply dramGone_kept | apply killKey_kept | apply commitLowering_kept
                                | apply eraseUnkept_kept | fail_if_no_progress refine kept_mk (kept_parts ?_))

theorem missingRecord_kept {pq : List Instr} (s : State) (hk : Kept pq s) : Kept pq (missingRecord s) := by
  unfold missingRecord
  repeat' (with_reducible first | exact hk | apply writeLevel_kept | apply cfEraseSector_kept | apply writeKeySlot_kept
                                | apply countDirtyShutdown_kept | apply raise_kept | apply kept_ite
                                | fail_if_no_progress refine kept_mk (kept_parts ?_) | split)

theorem readLevel_kept {pq : List Instr} (s : State) (hk : Kept pq s) : Kept pq (readLevel s) := by
  unfold readLevel
  repeat' (with_reducible first | exact hk | apply completeLowering_kept | apply missingRecord_kept
                                | fail_if_no_progress refine kept_mk (kept_parts ?_) | split)

theorem memoryRailsDown_kept {pq : List Instr} (s : State) (hk : Kept pq s) : Kept pq (memoryRailsDown s) := by
  unfold memoryRailsDown
  repeat' (with_reducible first | exact hk | assumption | apply switchRailOff_kept | refine kept_foldl ?_ _ ?_)

theorem mapSites_kept {pq : List Instr} (s : State) (single : Bool) (sensors : List SensorSet) (hk : Kept pq s) :
    Kept pq (mapSites s single sensors) := hk

theorem enterCrocus_kept {pq : List Instr} (s : State) (why : Nat) (hk : Kept pq s) : Kept pq (enterCrocus s why) := by
  unfold enterCrocus
  repeat' (with_reducible first | exact hk | apply mapSites_kept | apply memoryRailsDown_kept | apply dramGone_kept
                                | apply beginSequence_kept | apply raise_kept | apply debugReturns_kept | apply kept_ite
                                | fail_if_no_progress refine kept_mk (kept_parts ?_) | split)

theorem mapPresent_kept {pq : List Instr} (s : State) (hk : Kept pq s) : Kept pq (mapPresent s) := by
  unfold mapPresent
  repeat' (with_reducible first | exact hk | apply mapSites_kept | fail_if_no_progress refine kept_mk (kept_parts ?_) | split)

theorem enterMinimal_kept {pq : List Instr} (s : State) (cause : Nat) (hk : Kept pq s) : Kept pq (enterMinimal s cause) := by
  unfold enterMinimal
  repeat' (with_reducible first | exact hk | apply mapSites_kept | apply memoryRailsDown_kept | apply dramGone_kept
                                | apply beginSequence_kept | apply debugReturns_kept
                                | fail_if_no_progress refine kept_mk (kept_parts ?_))

theorem twinNotice_kept {pq : List Instr} (s : State) (hk : Kept pq s) : Kept pq (twinNotice s) := by
  unfold twinNotice
  repeat' (with_reducible first | exact hk | apply raise_kept | apply kept_ite)

theorem step1_kept {pq : List Instr} (s : State) (hk : Kept pq s) : Kept pq (step1 s).1 := by
  unfold step1
  repeat' (with_reducible first | exact hk | apply readLevel_kept | apply writePending_kept | apply resumeClock_kept
                                | apply twinNotice_kept | apply enterCrocus_kept | apply kept_ite
                                | fail_if_no_progress refine kept_mk (kept_parts ?_) | split | dsimp only)

theorem step1_keptE {pq : List Instr} {s : State} {ra} {rb} (hk : Kept pq s) (he : step1 s = (ra, rb)) : Kept pq ra := by
  have := step1_kept (pq := pq) s hk
  rw [he] at this; exact this

theorem firmwareUp_kept {pq : List Instr} (s : State) (h : Bool) (x : FwHeader) (hk : Kept pq s) : Kept pq (firmwareUp s h x) := by
  unfold firmwareUp
  repeat' (with_reducible first | exact hk | apply raise_kept | apply kept_ite | fail_if_no_progress refine kept_mk (kept_parts ?_))

theorem finishCfErase_kept {pq : List Instr} (s : State) (hk : Kept pq s) : Kept pq (finishCfErase s) := by
  unfold finishCfErase
  repeat' (with_reducible first | exact hk | apply sectorGone_kept | apply cfEraseSector_kept
                                | fail_if_no_progress refine kept_mk (kept_parts ?_) | split)

theorem ageTrips_kept {pq : List Instr} (s : State) (hk : Kept pq s) : Kept pq (ageTrips s) := by
  unfold ageTrips
  repeat' (with_reducible first | exact hk | apply cfEraseSector_kept | apply kept_ite)

theorem owedReports_kept {pq : List Instr} (s : State) (hk : Kept pq s) : Kept pq (owedReports s) := by
  unfold owedReports
  repeat' (with_reducible first | exact hk | apply raise_kept | apply hardOff_kept | apply logEvent_kept
                                | fail_if_no_progress refine kept_mk (kept_parts ?_) | split | dsimp only)

theorem loadKey_kept {pq : List Instr} (s : State) (hk : Kept pq s) : Kept pq (loadKey s) := hk

theorem step2Rest_kept {pq : List Instr} (s : State) (lost : Bool) (hk : Kept pq s) : Kept pq (step2Rest s lost) := by
  unfold step2Rest
  repeat' (with_reducible first | exact hk | apply mapPresent_kept | apply retestHeld_kept | apply bringLog_kept
                                | apply owedReports_kept | apply writeCheckpoint_kept | apply ageTrips_kept
                                | apply startHeld_kept | apply triggerSave_kept | apply kept_ite
                                | fail_if_no_progress refine kept_mk (kept_parts ?_) | split)

theorem step2_kept {pq : List Instr} (s : State) (hk : Kept pq s) : Kept pq (step2 s) := by
  unfold step2
  extract_lets s1
  have h1 : Kept pq s1 := finishCfErase_kept s hk
  clear_value s1
  split
  · exact enterCrocus_kept _ _ h1
  · rename_i h x _
    exact step2Rest_kept _ _ (assignEngines_kept _ (firmwareUp_kept _ h x (loadKey_kept _ h1)))

theorem bootSteps_kept {pq : List Instr} (s : State) (hk : Kept pq s) : Kept pq (bootSteps s) := by
  unfold bootSteps
  repeat' (first | with_reducible exact hk | with_reducible assumption | with_reducible refine keptR_next ?_
                 | with_reducible apply step1_kept | with_reducible refine step1_keptE ?_ (by assumption)
                 | with_reducible apply step2_kept | with_reducible apply kept_ite | with_reducible refine kept_foldl ?_ _ ?_
                 | (intro _ _ _) | (intro _)
                 | (fail_if_no_progress (with_reducible refine kept_mk ?_; with_reducible refine kept_parts ?_)) | split)

theorem railsSettings_kept {pq : List Instr} (s : State) (c : Settings) (hk : Kept pq s) : Kept pq (railsSettings s c) := hk

theorem defaultNefc_kept {pq : List Instr} (s : State) (c : Settings) (hk : Kept pq s) : Kept pq (defaultNefc s c) := by
  unfold defaultNefc
  repeat' (with_reducible first | exact hk | apply kept_ite | fail_if_no_progress refine kept_mk (kept_parts ?_))

theorem acceptSettings_kept {pq : List Instr} (s : State) (c : Settings) (r : SheetRead) (hk : Kept pq s) :
    Kept pq (acceptSettings s c r) := by
  unfold acceptSettings
  repeat' (with_reducible first | exact hk | apply mapSites_kept | apply defaultNefc_kept | apply railsSettings_kept
                                | apply kept_ite | fail_if_no_progress refine kept_mk (kept_parts ?_))

theorem startFlash_kept {pq : List Instr} (s : State) (c : Settings) (hk : Kept pq s) : Kept pq (startFlash s c) := by
  unfold startFlash
  repeat' (with_reducible first | exact hk | assumption | apply flashChannelOut_kept | apply kept_ite
                                | refine kept_foldl ?_ _ ?_ | intro _ _ _ | fail_if_no_progress refine kept_mk (kept_parts ?_)
                                | split)

theorem step5Begins_kept {pq : List Instr} (s : State) (hk : Kept pq s) : Kept pq (step5Begins s) := by
  unfold step5Begins
  repeat' (with_reducible first | exact hk | apply startFlash_kept | apply kept_ite
                                | fail_if_no_progress refine kept_mk (kept_parts ?_) | split)

theorem mainDone_kept {pq : List Instr} (s : State) (hk : Kept pq s) : Kept pq (mainDone s) := by
  unfold mainDone
  repeat' (with_reducible first | exact hk | apply step5Begins_kept | apply kept_ite)

theorem step4_kept {pq : List Instr} (s : State) (hk : Kept pq s) : Kept pq (step4 s) := by
  unfold step4
  repeat' (with_reducible first | exact hk | apply beginSequence_kept | apply mainDone_kept | apply kept_ite
                                | fail_if_no_progress refine kept_mk (kept_parts ?_))

theorem sheetRegs_kept {pq : List Instr} (s : State) (r : SheetRead) (result : Nat) (hk : Kept pq s) :
    Kept pq (sheetRegs s r result) := hk

theorem sheetInvalid_kept {pq : List Instr} (s : State) (result : Nat) (f : SheetFail) (seq : Nat) (hk : Kept pq s) :
    Kept pq (sheetInvalid s result f seq) := by
  unfold sheetInvalid
  repeat' (with_reducible first | exact hk | apply raise_kept)

theorem logRate_kept {pq : List Instr} (s : State) (r : SheetRead) (hk : Kept pq s) : Kept pq (logRate s r) := by
  unfold logRate
  repeat' (with_reducible first | exact hk | apply logEvent_kept | apply kept_ite | split)

theorem finishSheet_kept {pq : List Instr} (s : State) (r : SheetRead) (hk : Kept pq s) : Kept pq (finishSheet s r) := by
  unfold finishSheet
  repeat' (with_reducible first | exact hk | apply step4_kept | apply sheetRegs_kept | apply raise_kept
                                | apply sheetInvalid_kept | apply logRate_kept | apply acceptSettings_kept
                                | apply enterMinimal_kept | apply kept_ite
                                | fail_if_no_progress refine kept_mk (kept_parts ?_) | split)

theorem groupBack_kept {pq : List Instr} (s : State) (g : Fin 3) (hk : Kept pq s) : Kept pq (groupBack s g) := by
  unfold groupBack
  repeat' (with_reducible first | exact hk | apply startFlash_kept | apply kept_ite
                                | fail_if_no_progress refine kept_mk (kept_parts ?_) | split)

theorem sequenceNext_kept {pq : List Instr} (s : State) (hk : Kept pq s) : Kept pq (sequenceNext s) := by
  unfold sequenceNext
  repeat' (with_reducible first | exact hk | apply enableRail_kept | apply bootSteps_kept | apply mainDone_kept
                                | apply groupBack_kept | fail_if_no_progress refine kept_mk (kept_parts ?_) | split | dsimp only)

theorem activateMemory_kept {pq : List Instr} (s : State) (hk : Kept pq s) : Kept pq (activateMemory s) := hk

/-! ## Machine/ButtonOps.lean -/

theorem pbAct_kept {pq : List Instr} (s : State) (a : PbAction) (hk : Kept pq s) : Kept pq (pbAct s a) := hk

theorem pbNotice_kept {pq : List Instr} (s : State) (d : Nat) (a : PbAction) (hk : Kept pq s) : Kept pq (pbNotice s d a) := by
  unfold pbNotice
  repeat' (with_reducible first | exact hk | apply raise_kept | apply pbAct_kept)

theorem pbLog_kept {pq : List Instr} (s : State) (d : Nat) (a : PbAction) (hk : Kept pq s) : Kept pq (pbLog s d a) := by
  unfold pbLog
  repeat' (with_reducible first | exact hk | apply logEvent_kept | apply pbAct_kept)

theorem hardOff_kept {pq : List Instr} (s : State) (hk : Kept pq s) : Kept pq (hardOff s) := by
  unfold hardOff
  repeat' (with_reducible first | exact hk | assumption | apply beginInterval_kept | apply coreLost_kept
                                | apply switchRailOff_kept | apply setCause_kept | apply enterStandby_kept | apply kept_ite
                                | refine kept_foldl ?_ _ ?_ | intro _ _ _ | fail_if_no_progress refine kept_mk (kept_parts ?_)
                                | split)

theorem pressService_kept {pq : List Instr} (s : State) (d : Nat) (hk : Kept pq s) : Kept pq (pressService s d) := by
  unfold pressService
  repeat' (with_reducible first | exact hk | apply pbNotice_kept | apply triggerSave_kept | apply pbAct_kept
                                | apply pbLog_kept | apply hardOff_kept | apply kept_ite | split)

theorem pressReleased_kept {pq : List Instr} (s : State) (d : Nat) (hk : Kept pq s) : Kept pq (pressReleased s d) := by
  unfold pressReleased
  repeat' (with_reducible first | exact hk | apply pressService_kept | apply pbLog_kept | apply pbNotice_kept
                                | apply beginShutdown_kept | apply pbAct_kept | apply startBoot_kept | apply raise_kept
                                | apply kept_ite | fail_if_no_progress refine kept_mk (kept_parts ?_) | split)

theorem pressForced_kept {pq : List Instr} (s : State) (hk : Kept pq s) : Kept pq (pressForced s) := by
  unfold pressForced
  repeat' (with_reducible first | exact hk | apply triggerSave_kept | apply pbAct_kept | apply beginShutdown_kept
                                | apply pbLog_kept | fail_if_no_progress refine kept_mk (kept_parts ?_) | split)

theorem pressHard_kept {pq : List Instr} (s : State) (hk : Kept pq s) : Kept pq (pressHard s) := by
  unfold pressHard
  repeat' (with_reducible first | exact hk | apply hardOff_kept | apply pbAct_kept | apply kept_ite
                                | fail_if_no_progress refine kept_mk (kept_parts ?_) | split)

theorem actDeferred_kept {pq : List Instr} (s : State) (hk : Kept pq s) : Kept pq (actDeferred s) := by
  unfold actDeferred
  repeat' (with_reducible first | exact hk | apply pressService_kept | fail_if_no_progress refine kept_mk (kept_parts ?_) | split)

theorem manualReset_kept {pq : List Instr} (s : State) (hk : Kept pq s) : Kept pq (manualReset s) := by
  unfold manualReset
  repeat' (with_reducible first | exact hk | apply dataPathReset_kept | apply raise_kept | apply endSession_kept
                                | fail_if_no_progress refine kept_mk (kept_parts ?_))

theorem resumeBoot_kept {pq : List Instr} (s : State) (hk : Kept pq s) : Kept pq (resumeBoot s) := by
  unfold resumeBoot
  repeat' (with_reducible first | exact hk | apply bootSteps_kept | apply beginSequence_kept | apply kept_ite)

theorem actLatchedReset_kept {pq : List Instr} (s : State) (hk : Kept pq s) : Kept pq (actLatchedReset s) := by
  unfold actLatchedReset
  repeat' (with_reducible first | exact hk | apply manualReset_kept | apply resumeBoot_kept | apply kept_ite
                                | fail_if_no_progress refine kept_mk (kept_parts ?_) | split)

/-! ## Machine/EnergyOps.lean -/

theorem setPack_kept {pq : List Instr} (s : State) (f : Pack → Pack) (hk : Kept pq s) : Kept pq (setPack s f) := hk

theorem setBank_kept {pq : List Instr} (s : State) (f : Bank → Bank) (hk : Kept pq s) : Kept pq (setBank s f) := hk

theorem blockChanged_kept {pq : List Instr} (s : State) (hk : Kept pq s) : Kept pq (blockChanged s) := hk

theorem touchEstimator_kept {pq : List Instr} (s : State) (hk : Kept pq s) : Kept pq (touchEstimator s) := hk

theorem carryCycles_kept {pq : List Instr} (s : State) (hk : Kept pq s) : Kept pq (carryCycles s) := by
  unfold carryCycles
  repeat' (with_reducible first | exact hk | apply blockChanged_kept | apply setPack_kept | apply kept_ite
                                | fail_if_no_progress refine kept_mk (kept_parts ?_) | split)

theorem countDrawn_kept {pq : List Instr} (s : State) (uc : Nat) (hk : Kept pq s) : Kept pq (countDrawn s uc) := by
  unfold countDrawn
  repeat' (with_reducible first | exact hk | apply carryCycles_kept | apply setPack_kept)

theorem integrateFor_kept {pq : List Instr} (s : State) (milliamps : Int) (ms : Nat) (hk : Kept pq s) :
    Kept pq (integrateFor s milliamps ms) := by
  unfold integrateFor
  repeat' (with_reducible first | exact hk | apply countDrawn_kept | apply setPack_kept | apply kept_ite
                                | fail_if_no_progress refine kept_mk (kept_parts ?_) | split)

theorem integrate_kept {pq : List Instr} (s : State) (milliamps : Int) (hk : Kept pq s) : Kept pq (integrate s milliamps) := by
  unfold integrate
  repeat' (with_reducible first | exact hk | apply integrateFor_kept | apply kept_ite | split)

theorem setReference_kept {pq : List Instr} (s : State) (soc : Rat) (src : SocSource) (hk : Kept pq s) :
    Kept pq (setReference s soc src) := hk

theorem ocvSoc_kept {pq : List Instr} (s : State) (p : PackSet) (millivolts : Nat) (hk : Kept pq s) :
    Kept pq (ocvSoc s p millivolts).2 := by
  unfold ocvSoc
  repeat' (with_reducible first | exact hk | fail_if_no_progress refine kept_mk (kept_parts ?_) | split)

theorem ocvSoc_keptE {pq : List Instr} {s : State} {p : PackSet} {millivolts : Nat} {ra} {rb} (hk : Kept pq s) (he : ocvSoc s p
    millivolts = (ra, rb)) :
    Kept pq rb := by
  have := ocvSoc_kept (pq := pq) s p millivolts hk
  rw [he] at this; exact this

theorem voltageReference_kept {pq : List Instr} (s : State) (c : Settings) (millivolts uBase : Nat) (src : SocSource) (hk : Kept pq
    s) :
    Kept pq (voltageReference s c millivolts uBase src) := by
  unfold voltageReference
  repeat' (with_reducible first | exact hk | apply ocvSoc_kept | apply blockChanged_kept | apply setPack_kept
                                | apply setReference_kept)

theorem updateCharger_kept {pq : List Instr} (s : State) (hk : Kept pq s) : Kept pq (updateCharger s) := by
  unfold updateCharger
  repeat' (with_reducible first | exact hk | apply setPack_kept | apply kept_ite
                                | fail_if_no_progress refine kept_mk (kept_parts ?_))

theorem terminateCharge_kept {pq : List Instr} (s : State) (hk : Kept pq s) : Kept pq (terminateCharge s) := by
  unfold terminateCharge
  repeat' (with_reducible first | exact hk | apply setReference_kept | apply updateCharger_kept | apply kept_ite
                                | fail_if_no_progress refine kept_mk (kept_parts ?_))

theorem taperCheck_kept {pq : List Instr} (s : State) (hk : Kept pq s) : Kept pq (taperCheck s) := by
  unfold taperCheck
  repeat' (with_reducible first | exact hk | apply terminateCharge_kept | apply kept_ite
                                | fail_if_no_progress refine kept_mk (kept_parts ?_) | split)

theorem endWindow_kept {pq : List Instr} (s : State) (success cause : Nat) (hk : Kept pq s) :
    Kept pq (endWindow s success cause) := by
  unfold endWindow
  repeat' (with_reducible first | exact hk | apply updateCharger_kept | apply raise_kept | apply setPack_kept | apply kept_ite)

theorem settlePack_kept {pq : List Instr} (s : State) (hk : Kept pq s) : Kept pq (settlePack s) := by
  unfold settlePack
  repeat' (with_reducible first | exact hk | apply setPack_kept | apply ceilingEvent_kept | apply endWindow_kept
                                | apply updateCharger_kept | apply kept_ite)

theorem failPack_kept {pq : List Instr} (s : State) (f : PackCond) (hk : Kept pq s) : Kept pq (failPack s f) := by
  unfold failPack
  repeat' (with_reducible first | exact hk | apply evalPsub_kept | apply settlePack_kept | apply raise_kept
                                | apply setPack_kept | apply kept_ite | fail_if_no_progress refine kept_mk (kept_parts ?_)
                                | split)

theorem voltageCheck_kept {pq : List Instr} (s : State) (hk : Kept pq s) : Kept pq (voltageCheck s) := by
  unfold voltageCheck
  repeat' (with_reducible first | exact hk | apply setPack_kept | apply failPack_kept | apply settlePack_kept | apply kept_ite)

theorem dischargeWindow_kept {pq : List Instr} (s : State) (t : Int) (hk : Kept pq s) : Kept pq (dischargeWindow s t) := hk

theorem chargeWindow_kept {pq : List Instr} (s : State) (t : Int) (hk : Kept pq s) : Kept pq (chargeWindow s t) := hk

theorem packChanged_kept {pq : List Instr} (s : State) (old new : List Byte) (hk : Kept pq s) : Kept pq (packChanged s old new) := by
  unfold packChanged
  repeat' (with_reducible first | exact hk | apply setPack_kept | apply ceilingEvent_kept | apply raise_kept
                                | apply blockChanged_kept | fail_if_no_progress refine kept_mk (kept_parts ?_))

theorem acceptSerial_kept {pq : List Instr} (s : State) (serial : List Byte) (hk : Kept pq s) : Kept pq (acceptSerial s serial) := by
  unfold acceptSerial
  repeat' (with_reducible first | exact hk | apply setPack_kept | apply blockChanged_kept | apply packChanged_kept
                                | apply kept_ite | fail_if_no_progress refine kept_mk (kept_parts ?_) | split)

theorem identityLost_kept {pq : List Instr} (s : State) (stat : Nat) (hk : Kept pq s) : Kept pq (identityLost s stat) := by
  unfold identityLost
  repeat' (with_reducible first | exact hk | apply blockChanged_kept | apply setPack_kept | apply raise_kept | apply kept_ite)

theorem failedPair_kept {pq : List Instr} (s : State) (hk : Kept pq s) : Kept pq (identityPair.failedPair s) := by
  unfold identityPair.failedPair
  repeat' (first | with_reducible exact hk | with_reducible apply settlePack_kept | with_reducible apply identityLost_kept
                 | with_reducible apply setPack_kept | with_reducible apply kept_ite
                 | (fail_if_no_progress (with_reducible refine kept_mk ?_; with_reducible refine kept_parts ?_)) | split)

theorem identityPair_kept {pq : List Instr} (s : State) (first second : Option (List Byte)) (hk : Kept pq s) :
    Kept pq (identityPair s first second) := by
  unfold identityPair
  repeat' (first | with_reducible exact hk | with_reducible apply settlePack_kept | with_reducible apply acceptSerial_kept
                 | with_reducible apply failedPair_kept | with_reducible apply kept_ite
                 | (fail_if_no_progress (with_reducible refine kept_mk ?_; with_reducible refine kept_parts ?_)) | split)

theorem updateBank_kept {pq : List Instr} (s : State) (hk : Kept pq s) : Kept pq (updateBank s) := hk

theorem failBank_kept {pq : List Instr} (s : State) (hk : Kept pq s) : Kept pq (failBank s) := by
  unfold failBank
  repeat' (with_reducible first | exact hk | apply updateBank_kept | apply setBank_kept | apply ceilingEvent_kept
                                | apply raise_kept)

theorem bankReturns_kept {pq : List Instr} (s : State) (hk : Kept pq s) : Kept pq (bankReturns s) := by
  unfold bankReturns
  repeat' (with_reducible first | exact hk | apply bankQualify_kept | apply setBank_kept | apply evalPsub_kept | apply kept_ite)

theorem bankLoss_kept {pq : List Instr} (s : State) (hk : Kept pq s) : Kept pq (bankLoss s) := by
  unfold bankLoss
  repeat' (with_reducible first | exact hk | apply bankQualify_kept | apply ceilingEvent_kept | apply kept_ite)

theorem commitBlock_kept {pq : List Instr} (s : State) (b : List Byte) (hk : Kept pq s) : Kept pq (commitBlock s b) := by
  unfold commitBlock
  repeat' (with_reducible first | exact hk | apply setPack_kept | apply carryCycles_kept | apply blockChanged_kept
                                | fail_if_no_progress refine kept_mk (kept_parts ?_))

theorem shipPulse_kept {pq : List Instr} (s : State) (hk : Kept pq s) : Kept pq (shipPulse s) := hk

theorem shipDrained_kept {pq : List Instr} (s : State) (hk : Kept pq s) : Kept pq (shipDrained s) := by
  unfold shipDrained
  repeat' (with_reducible first | exact hk | apply shipPulse_kept | apply setBank_kept | apply kept_ite)

theorem shipReached_kept {pq : List Instr} (s : State) (hk : Kept pq s) : Kept pq (shipReached s) := by
  unfold shipReached
  repeat' (with_reducible first | exact hk | apply raise_kept | apply setPack_kept | apply kept_ite)

theorem enterShip_kept {pq : List Instr} (s : State) (hk : Kept pq s) : Kept pq (enterShip s) := by
  unfold enterShip
  repeat' (with_reducible first | exact hk | apply shipDrained_kept | apply updateCharger_kept | apply setBank_kept
                                | apply setPack_kept)

/-! ## Machine/NoticeOps.lean -/

theorem signal_kept {pq : List Instr} (s : State) (l : Link) (v : Nat) (hk : Kept pq s) : Kept pq (signal s l v) := by
  unfold signal
  repeat' (with_reducible first | exact hk | apply emit_kept | apply kept_ite | fail_if_no_progress refine kept_mk (kept_parts ?_))

theorem setFn_kept {pq : List Instr} (s : State) (l : Link) (f : FnRegs → FnRegs) (hk : Kept pq s) : Kept pq (setFn s l f) := hk

theorem writeRecord_kept {pq : List Instr} (s : State) (l : Link) (log kind : Nat) (seq : Word) (hk : Kept pq s) :
    Kept pq (writeRecord s l log kind seq) := hk

theorem intoLogs_kept {pq : List Instr} (s : State) (l : Link) (n : Notice) (hk : Kept pq s) : Kept pq (intoLogs s l n) := by
  unfold intoLogs
  repeat' (with_reducible first | exact hk | apply writeRecord_kept | apply signal_kept | apply kept_ite | split)

theorem setNotice_kept {pq : List Instr} (s : State) (seq : Word) (f : Notice → Notice) (hk : Kept pq s) :
    Kept pq (setNotice s seq f) := hk

theorem intoRing_kept {pq : List Instr} (s : State) (l : Link) (n : Notice) (hk : Kept pq s) : Kept pq (intoRing s l n) := by
  unfold intoRing
  repeat' (with_reducible first | exact hk | apply setFn_kept | apply emit_kept | apply signal_kept | apply setNotice_kept
                                | apply kept_ite | fail_if_no_progress refine kept_mk (kept_parts ?_) | split)

theorem deliverLink_kept {pq : List Instr} (s : State) (l : Link) (n : Notice) (hk : Kept pq s) : Kept pq (deliverLink s l n) := by
  unfold deliverLink
  repeat' (with_reducible first | exact hk | apply intoRing_kept | apply intoLogs_kept | apply setNotice_kept | apply kept_ite
                                | fail_if_no_progress refine kept_mk (kept_parts ?_) | split)

theorem writeEverywhere_kept {pq : List Instr} (s : State) (n : Notice) (hk : Kept pq s) : Kept pq (writeEverywhere s n) := by
  unfold writeEverywhere
  repeat' (with_reducible first | exact hk | assumption | apply deliverLink_kept | apply kept_ite | refine kept_foldl ?_ _ ?_
                                | intro _ _ _ | split)

theorem retireDelivered_kept {pq : List Instr} (s : State) (hk : Kept pq s) : Kept pq (retireDelivered s) := by
  unfold retireDelivered
  repeat' (with_reducible first | exact hk | assumption | apply writeEverywhere_kept | refine kept_foldl ?_ _ ?_ | intro _ _ _
                                | fail_if_no_progress refine kept_mk (kept_parts ?_))

theorem deliverNext_kept {pq : List Instr} (s : State) (c : Carrier) (hk : Kept pq s) : Kept pq (deliverNext s c) := by
  unfold deliverNext
  repeat' (with_reducible first | exact hk | apply retireDelivered_kept | apply deliverLink_kept | apply setNotice_kept
                                | apply emit_kept | apply kept_ite | split)

theorem rewriteLogs_kept {pq : List Instr} (s : State) (l : Link) (hk : Kept pq s) : Kept pq (rewriteLogs s l) := by
  unfold rewriteLogs
  repeat' (with_reducible first | exact hk | assumption | apply setNotice_kept | apply intoLogs_kept | apply kept_ite
                                | refine kept_foldl ?_ _ ?_ | intro _ _ _)

/-! ## Machine/SmbOps.lean -/

theorem setSmb_kept {pq : List Instr} (s : State) (f : Smb → Smb) (hk : Kept pq s) : Kept pq (setSmb s f) := hk

theorem sendCurrent_kept {pq : List Instr} (s : State) (hk : Kept pq s) : Kept pq (sendCurrent s) := by
  unfold sendCurrent
  repeat' (with_reducible first | exact hk | apply emit_kept | apply setSmb_kept | apply kept_ite
                                | fail_if_no_progress refine kept_mk (kept_parts ?_) | split)

theorem sendMessage_kept {pq : List Instr} (s : State) (m : SmbMsg) (hk : Kept pq s) : Kept pq (sendMessage s m) := by
  unfold sendMessage
  repeat' (with_reducible first | exact hk | apply sendCurrent_kept | apply setSmb_kept)

theorem messageSent_kept {pq : List Instr} (s : State) (m : SmbMsg) (hk : Kept pq s) : Kept pq (messageSent s m) := by
  unfold messageSent
  repeat' (with_reducible first | exact hk | apply retireDelivered_kept | apply setNotice_kept | apply setSmb_kept
                                | apply kept_ite | fail_if_no_progress refine kept_mk (kept_parts ?_) | split)

theorem sendQueued_kept {pq : List Instr} (s : State) (hk : Kept pq s) : Kept pq (sendQueued s) := by
  unfold sendQueued
  repeat' (with_reducible first | exact hk | apply sendMessage_kept | apply setSmb_kept | apply kept_ite
                                | fail_if_no_progress refine kept_mk (kept_parts ?_) | split)

theorem completeSmb_kept {pq : List Instr} (s : State) (hk : Kept pq s) : Kept pq (completeSmb s) := by
  unfold completeSmb
  repeat' (with_reducible first | exact hk | apply sendQueued_kept | apply messageSent_kept | apply setSmb_kept
                                | fail_if_no_progress refine kept_mk (kept_parts ?_) | split)

theorem respondSmb_kept {pq : List Instr} (s : State) (m : SmbMsg) (hk : Kept pq s) : Kept pq (respondSmb s m) := by
  unfold respondSmb
  repeat' (with_reducible first | exact hk | apply completeSmb_kept | apply sendQueued_kept | apply setSmb_kept)

theorem sendNextNotice_kept {pq : List Instr} (s : State) (hk : Kept pq s) : Kept pq (sendNextNotice s) := by
  unfold sendNextNotice
  repeat' (with_reducible first | exact hk | apply completeSmb_kept | apply sendMessage_kept | apply kept_ite | split | dsimp only)

theorem failTransfer_kept {pq : List Instr} (s : State) (hk : Kept pq s) : Kept pq (failTransfer s) := by
  unfold failTransfer
  repeat' (with_reducible first | exact hk | apply setSmb_kept | apply setNotice_kept | apply sendQueued_kept | apply kept_ite
                                | fail_if_no_progress refine kept_mk (kept_parts ?_) | split)

theorem loseBus_kept {pq : List Instr} (s : State) (hk : Kept pq s) : Kept pq (loseBus s) := by
  unfold loseBus
  repeat' (with_reducible first | exact hk | apply setSmb_kept | apply kept_ite)

theorem tick_kept {pq : List Instr} (s : State) (hk : Kept pq s) : Kept pq (tick s) := by
  unfold tick
  repeat' (with_reducible first | exact hk | apply programHeld_kept | apply passTime_kept | apply completeSmb_kept)

/-! ## Machine/FwOps.lean -/

theorem setFw_kept {pq : List Instr} (s : State) (f : Firmware → Firmware) (hk : Kept pq s) : Kept pq (setFw s f) := hk

theorem setImage_kept {pq : List Instr} (s : State) (b : Bool) (h : Option FwHeader) (hk : Kept pq s) :
    Kept pq (setImage s b h) := hk

theorem selectHalf_kept {pq : List Instr} (s : State) (b : Bool) (hk : Kept pq s) : Kept pq (selectHalf s b) := by
  unfold selectHalf
  repeat' (with_reducible first | exact hk | apply cfEraseSector_kept | apply setFw_kept | apply writeSwap_kept | apply kept_ite)

theorem renewSelector_kept {pq : List Instr} (s : State) (hk : Kept pq s) : Kept pq (renewSelector s) := by
  unfold renewSelector
  repeat' (with_reducible first | exact hk | apply selectHalf_kept | apply cfEraseSector_kept | apply setImage_kept
                                | apply cfEraseRange_kept | apply kept_ite)

theorem selectBoot_kept {pq : List Instr} (s : State) (b : Bool) (hk : Kept pq s) : Kept pq (selectBoot s b) := by
  unfold selectBoot
  repeat' (with_reducible first | exact hk | apply writeSwap_kept | apply cfEraseSector_kept | apply cfEraseRange_kept
                                | apply setFw_kept | apply kept_ite)

theorem refuseFw_kept {pq : List Instr} (s : State) (reasons : Nat) (hk : Kept pq s) : Kept pq (refuseFw s reasons) := hk

theorem logIgnoredLock_kept {pq : List Instr} (s : State) (hk : Kept pq s) : Kept pq (logIgnoredLock s) := by
  unfold logIgnoredLock
  repeat' (with_reducible first | exact hk | apply logEvent_kept | apply kept_ite)

theorem signalAll_kept {pq : List Instr} (s : State) (v : Nat) (hk : Kept pq s) : Kept pq (signalAll s v) := by
  unfold signalAll
  repeat' (with_reducible first | exact hk | assumption | apply signal_kept | refine kept_foldl ?_ _ ?_ | intro _ _ _)

theorem sendRelay_kept {pq : List Instr} : ∀ (n : Nat) (s : State), Kept pq s → Kept pq (sendRelay n s)
  | 0, _, hk => hk
  | n + 1, s, hk => by
    unfold sendRelay
    split
    · exact hk
    · split
      · exact hk
      · dsimp only
        split
        · exact hk
        · exact sendRelay_kept n _ (setFw_kept _ _ (kept_foldl (fun s b h => emit_kept s _ h) _ hk))

theorem relayIn_kept {pq : List Instr} (s : State) (k : HyChunk) (hk : Kept pq s) : Kept pq (relayIn s k) := by
  unfold relayIn
  repeat' (with_reducible first | exact hk | apply setFw_kept | apply sendRelay_kept | apply kept_ite)

theorem sendStatus_kept {pq : List Instr} (s : State) (hk : Kept pq s) : Kept pq (sendStatus s) := by
  unfold sendStatus
  repeat' (with_reducible first | exact hk | apply emit_kept | apply kept_ite)

theorem setOwn_kept {pq : List Instr} (s : State) (r : EntryRun) (hk : Kept pq s) : Kept pq (setOwn s r) := by
  unfold setOwn
  repeat' (with_reducible first | exact hk | apply sendStatus_kept | apply setFw_kept | apply kept_ite)

theorem sendCredit_kept {pq : List Instr} (s : State) (credits : Nat) (hk : Kept pq s) : Kept pq (sendCredit s credits) := by
  unfold sendCredit
  repeat' (with_reducible first | exact hk | apply setFw_kept | apply emit_kept | apply kept_ite
                                | fail_if_no_progress refine kept_mk (kept_parts ?_) | split)

theorem sendActivate_kept {pq : List Instr} (s : State) (pkg : Word) (hk : Kept pq s) : Kept pq (sendActivate s pkg) := by
  unfold sendActivate
  repeat' (with_reducible first | exact hk | apply emit_kept | apply kept_ite)

theorem finishReport_kept {pq : List Instr} (s : State) (hk : Kept pq s) : Kept pq (finishReport s) := by
  unfold finishReport
  repeat' (with_reducible first | exact hk | apply setFw_kept | apply raise_kept | apply kept_ite
                                | fail_if_no_progress refine kept_mk (kept_parts ?_) | split | dsimp only)

theorem checkReport_kept {pq : List Instr} (s : State) (hk : Kept pq s) : Kept pq (checkReport s) := by
  unfold checkReport
  repeat' (with_reducible first | exact hk | apply finishReport_kept | apply kept_ite)

theorem checkChainDone_kept {pq : List Instr} (s : State) (hk : Kept pq s) : Kept pq (checkChainDone s) := by
  unfold checkChainDone
  repeat' (with_reducible first | exact hk | apply raise_kept | apply setFw_kept | apply kept_ite)

theorem programChunk_kept {pq : List Instr} (s : State) (sec : Nat) (data : List Byte) (hk : Kept pq s) :
    Kept pq (programChunk s sec data) := by
  unfold programChunk
  repeat' (with_reducible first | exact hk | assumption | apply cfEraseSector_kept | apply cfPut_kept | refine kept_foldl ?_ _ ?_
                                | intro _ _ _)

theorem stageChunk_kept {pq : List Instr} (s : State) (k : HyChunk) (owner : Option Byte) (hk : Kept pq s) :
    Kept pq (stageChunk s k owner) := by
  unfold stageChunk
  repeat' (with_reducible first | exact hk | apply programChunk_kept | apply setImage_kept | apply setOwn_kept | apply setFw_kept
                                | apply kept_ite)

theorem fwChunkAnswer_kept {pq : List Instr} (s : State) (k : HyChunk) (session : Byte) (hk : Kept pq s) :
    Kept pq (fwChunkAnswer s k session).2.2 := by
  unfold fwChunkAnswer
  repeat' (with_reducible first | exact hk | apply relayIn_kept | apply sendStatus_kept | apply refuseFw_kept
                                | apply stageChunk_kept | apply logIgnoredLock_kept | apply kept_ite | split | dsimp only)

theorem fwChunkAnswer_keptE {pq : List Instr} {s : State} {k : HyChunk} {session : Byte} {ra} {rb rc} (hk : Kept pq s) (he :
    fwChunkAnswer s k session = (ra, rb, rc)) :
    Kept pq rc := by
  have := fwChunkAnswer_kept (pq := pq) s k session hk
  rw [he] at this; exact this

theorem pendRestart_kept {pq : List Instr} (s : State) (h : FwHeader) (hk : Kept pq s) : Kept pq (pendRestart s h) := by
  unfold pendRestart
  repeat' (with_reducible first | exact hk | apply selectHalf_kept | apply setOwn_kept | apply setFw_kept | apply signalAll_kept
                                | apply raise_kept)

theorem beginActivation_kept {pq : List Instr} (s : State) (h : FwHeader) (whole : Nat) (hk : Kept pq s) :
    Kept pq (beginActivation s h whole) := by
  unfold beginActivation
  repeat' (with_reducible first | exact hk | apply sendStatus_kept | apply refuseFw_kept | apply pendRestart_kept
                                | apply logIgnoredLock_kept | apply setFw_kept | apply kept_ite)

theorem activatePackage_kept {pq : List Instr} (s : State) (pkg : Word) (hk : Kept pq s) : Kept pq (activatePackage s pkg).1 := by
  unfold activatePackage
  repeat' (with_reducible first | exact hk | apply setOwn_kept | apply sendStatus_kept | apply refuseFw_kept | apply setFw_kept
                                | apply beginActivation_kept | apply kept_ite
                                | fail_if_no_progress refine kept_mk (kept_parts ?_) | split)

theorem activatePackage_keptE {pq : List Instr} {s : State} {pkg : Word} {ra} {rb} (hk : Kept pq s) (he : activatePackage s pkg =
    (ra, rb)) :
    Kept pq ra := by
  have := activatePackage_kept (pq := pq) s pkg hk
  rw [he] at this; exact this

theorem startRevert_kept {pq : List Instr} (s : State) (cause : Nat) (hk : Kept pq s) : Kept pq (startRevert s cause) := hk

theorem finishRevert_kept {pq : List Instr} (s : State) (hk : Kept pq s) : Kept pq (finishRevert s) := by
  unfold finishRevert
  dsimp only
  split
  · exact sendActivate_kept _ _ (signalAll_kept _ _ (raise_kept _ _ _ (setOwn_kept _ _ (setFw_kept _ _ (kept_mk (kept_parts hk))))))
  · exact signalAll_kept _ _ (raise_kept _ _ _ (setOwn_kept _ _ (setFw_kept _ _ (kept_mk (kept_parts hk)))))

/-! ## Machine/SecOps.lean -/

theorem setSec_kept {pq : List Instr} (s : State) (f : Security → Security) (hk : Kept pq s) : Kept pq (setSec s f) := hk

theorem refuseLevel_kept {pq : List Instr} (s : State) (why : Nat) (hk : Kept pq s) : Kept pq (refuseLevel s why) := hk

theorem loweringStep1_kept {pq : List Instr} (s : State) (target : Level) (hk : Kept pq s) : Kept pq (loweringStep1 s target) := by
  unfold loweringStep1
  repeat' (with_reducible first | exact hk | apply endSession_kept | apply idleLinks_kept | apply drainBuffers_kept
                                | apply setSec_kept | apply refuse_kept | fail_if_no_progress refine kept_mk (kept_parts ?_))

theorem loweringSteps23_kept {pq : List Instr} (s : State) (hk : Kept pq s) : Kept pq (loweringSteps23 s) := by
  unfold loweringSteps23
  repeat' (with_reducible first | exact hk | apply writeLevel_kept | apply setSec_kept | apply killKey_kept
                                | fail_if_no_progress refine kept_mk (kept_parts ?_))

theorem requestLowering_kept {pq : List Instr} (s : State) (l : Link) (target : Level) (hk : Kept pq s) :
    Kept pq (requestLowering s l target) := by
  unfold requestLowering
  repeat' (with_reducible first | exact hk | apply refuseLevel_kept | apply loweringStep1_kept | apply kept_ite)

theorem lowerOn_kept {pq : List Instr} (s : State) (hk : Kept pq s) : Kept pq (lowerOn s) := by
  unfold lowerOn
  repeat' (with_reducible first | exact hk | apply loweringSteps23_kept | apply kept_ite)

theorem raiseLevel_kept {pq : List Instr} (s : State) (l : Link) (target : Level) (hk : Kept pq s) :
    Kept pq (raiseLevel s l target) := by
  unfold raiseLevel
  repeat' (with_reducible first | exact hk | apply refuseLevel_kept | apply endSession_kept | apply writeLevel_kept
                                | apply setSec_kept | apply refuse_kept | apply raise_kept | apply kept_ite)

theorem armLowering_kept {pq : List Instr} (s : State) (l : Link) (hk : Kept pq s) : Kept pq (armLowering s l) := by
  unfold armLowering
  repeat' (with_reducible first | exact hk | apply refuseLevel_kept | apply setSec_kept | apply refuse_kept | apply kept_ite)

theorem writeSecLevel_kept {pq : List Instr} (s : State) (l : Link) (v : Word) (hk : Kept pq s) :
    Kept pq (writeSecLevel s l v) := by
  unfold writeSecLevel
  repeat' (with_reducible first | exact hk | apply armLowering_kept | apply refuseLevel_kept | apply raiseLevel_kept
                                | apply requestLowering_kept | apply kept_ite)

theorem giveChallenge_kept {pq : List Instr} (s : State) (hk : Kept pq s) : Kept pq (giveChallenge s).2.2 := by
  unfold giveChallenge
  repeat' (with_reducible first | exact hk | apply endSession_kept | apply drawRandom_kept | apply setSec_kept
                                | refine drawRandom_keptE ?_ (by assumption) | apply kept_ite
                                | fail_if_no_progress refine kept_mk (kept_parts ?_) | split)

theorem giveChallenge_keptE {pq : List Instr} {s : State} {ra} {rb rc} (hk : Kept pq s) (he : giveChallenge s = (ra, rb, rc)) :
    Kept pq rc := by
  have := giveChallenge_kept (pq := pq) s hk
  rw [he] at this; exact this

theorem takeResponse_kept {pq : List Instr} (s : State) (c : Carrier) (verifies : Bool) (hk : Kept pq s) :
    Kept pq (takeResponse s c verifies).2.2 := by
  unfold takeResponse
  repeat' (with_reducible first | exact hk | apply setSec_kept | apply raise_kept | apply kept_ite
                                | fail_if_no_progress refine kept_mk (kept_parts ?_) | split)

theorem takeResponse_keptE {pq : List Instr} {s : State} {c : Carrier} {verifies : Bool} {ra} {rb rc} (hk : Kept pq s) (he :
    takeResponse s c verifies = (ra, rb, rc)) :
    Kept pq rc := by
  have := takeResponse_kept (pq := pq) s c verifies hk
  rw [he] at this; exact this

/-! ## Machine/RestoreOps.lean -/

theorem beginService_kept {pq : List Instr} (s : State) (hk : Kept pq s) : Kept pq (beginService s) := by
  unfold beginService
  repeat' (with_reducible first | exact hk | apply activateMemory_kept | apply actDeferred_kept | apply logEvent_kept
                                | apply endInterval_kept | fail_if_no_progress refine kept_mk (kept_parts ?_))

theorem step9_kept {pq : List Instr} (s : State) (hk : Kept pq s) : Kept pq (step9 s) := by
  unfold step9
  repeat' (with_reducible first | exact hk | apply hold_kept | apply beginService_kept | apply kept_ite
                                | fail_if_no_progress refine kept_mk (kept_parts ?_) | split)

theorem clearRollback_kept {pq : List Instr} (s : State) (hk : Kept pq s) : Kept pq (clearRollback s) := by
  unfold clearRollback
  repeat' (with_reducible first | exact hk | apply step9_kept | apply hold_kept | apply kept_ite
                                | fail_if_no_progress refine kept_mk (kept_parts ?_))

theorem rollBack_kept {pq : List Instr} (s : State) (cause : Nat) (used : DWord) (hk : Kept pq s) :
    Kept pq (rollBack s cause used) := by
  unfold rollBack
  repeat' (with_reducible first | exact hk | apply raise_kept | apply countDirtyShutdown_kept | apply hold_kept | apply kept_ite
                                | fail_if_no_progress refine kept_mk (kept_parts ?_))

theorem chosen_kept {pq : List Instr} (s : State) (source cause : Nat) (used : DWord) (path : BootPath) (hk : Kept pq s) :
    Kept pq (chosen s source cause used path) := hk

theorem reportSave_kept {pq : List Instr} (s : State) (g : Generation) (hk : Kept pq s) : Kept pq (reportSave s g) := by
  unfold reportSave
  repeat' (with_reducible first | exact hk | apply raise_kept | apply countDirtyShutdown_kept | apply kept_ite)

theorem useGeneration_kept {pq : List Instr} (s : State) (g : Generation) (hk : Kept pq s) : Kept pq (useGeneration s g) := by
  unfold useGeneration
  repeat' (with_reducible first | exact hk | apply rollBack_kept | apply chosen_kept | apply reportSave_kept | apply kept_ite
                                | fail_if_no_progress refine kept_mk (kept_parts ?_))

theorem granMismatch_kept {pq : List Instr} (s : State) (hk : Kept pq s) : Kept pq (granMismatch s) := by
  unfold granMismatch
  repeat' (with_reducible first | exact hk | apply enterMinimal_kept | apply sheetInvalid_kept
                                | fail_if_no_progress refine kept_mk (kept_parts ?_))

theorem readySlot_kept {pq : List Instr} (s : State) (hk : Kept pq s) : Kept pq (readySlot s).1 := by
  unfold readySlot
  repeat' (with_reducible first | exact hk | apply writeLevel_kept | apply cfEraseSector_kept | split)

theorem readySlot_keptE {pq : List Instr} {s : State} {ra} {rb} (hk : Kept pq s) (he : readySlot s = (ra, rb)) : Kept pq ra := by
  have := readySlot_kept (pq := pq) s hk
  rw [he] at this; exact this

theorem makeKey_kept {pq : List Instr} (s : State) (hk : Kept pq s) : Kept pq (makeKey s) := by
  unfold makeKey
  repeat' (with_reducible first | exact hk | apply drawRandom_kept | apply readySlot_kept | apply writeKeySlot_kept
                                | apply kept_ite | fail_if_no_progress refine kept_mk (kept_parts ?_) | split)

theorem retireFactory_kept {pq : List Instr} (s : State) (c : Settings) (hk : Kept pq s) : Kept pq (retireFactory s c) := by
  unfold retireFactory
  repeat' (with_reducible first | exact hk | assumption | apply setBlock_kept | apply retireDie_kept | apply kept_ite
                                | refine kept_foldl ?_ _ ?_ | intro _ _ _)

theorem beginFormat_kept {pq : List Instr} (s : State) (c : Settings) (hk : Kept pq s) : Kept pq (beginFormat s c) := by
  unfold beginFormat
  repeat' (with_reducible first | exact hk | apply retireFactory_kept | apply makeKey_kept | apply openRows_kept
                                | apply beginSeal_kept | fail_if_no_progress refine kept_mk (kept_parts ?_))

/-! ## Machine/QmpOps.lean -/

theorem setQmp_kept {pq : List Instr} (s : State) (f : Qmp → Qmp) (hk : Kept pq s) : Kept pq (setQmp s f) := hk

theorem respond_kept {pq : List Instr} (s : State) (hdr : QmpHdr) (op : BitVec 16) (st : QmpStatus) (replay : Bool) (body : List
    Byte) (hk : Kept pq s) :
    Kept pq (respond s hdr op st replay body) := by
  unfold respond
  repeat' (with_reducible first | exact hk | apply respondSmb_kept | apply emit_kept | split)

theorem hold_kept {pq : List Instr} (s : State) (hdr : QmpHdr) (b : QmpBody) (hk : Kept pq s) : Kept pq (hold s hdr b) := hk

theorem modSession_kept {pq : List Instr} (s : State) (id : Byte) (f : Session → Session) (hk : Kept pq s) :
    Kept pq (modSession s id f) := hk

theorem addSession_kept {pq : List Instr} (s : State) (x : Session) (hk : Kept pq s) : Kept pq (addSession s x) := hk

theorem dropSession_kept {pq : List Instr} (s : State) (id : Byte) (hk : Kept pq s) : Kept pq (dropSession s id) := hk

theorem copySessions_kept {pq : List Instr} (s : State) (hk : Kept pq s) : Kept pq (copySessions s) := hk

theorem mergeAon_kept {pq : List Instr} (s : State) (hk : Kept pq s) : Kept pq (mergeAon s) := hk

theorem register_kept {pq : List Instr} (s : State) (hdr : QmpHdr) (x : Session) (notify : Bool) (hk : Kept pq s) :
    Kept pq (register s hdr x notify) := by
  unfold register
  repeat' (with_reducible first | exact hk | apply setQmp_kept | apply kept_ite
                                | fail_if_no_progress refine kept_mk (kept_parts ?_) | split)

theorem openSession_kept {pq : List Instr} (s : State) (hdr : QmpHdr) (x : Session) (notify : Bool) (hk : Kept pq s) :
    Kept pq (openSession s hdr x notify).2.2 := by
  unfold openSession
  repeat' (with_reducible first | exact hk | apply register_kept | apply addSession_kept)

theorem openSession_keptE {pq : List Instr} {s : State} {hdr : QmpHdr} {x : Session} {notify : Bool} {ra} {rb rc} (hk : Kept pq s)
    (he : openSession s hdr x notify = (ra, rb, rc)) :
    Kept pq rc := by
  have := openSession_kept (pq := pq) s hdr x notify hk
  rw [he] at this; exact this

theorem openNegotiate_kept {pq : List Instr} (s : State) (hdr : QmpHdr) (versions tag : Word) (flags : Byte) (chunkMs : BitVec 16)
    (hk : Kept pq s) :
    Kept pq (openNegotiate s hdr versions tag flags chunkMs).2.2 := by
  unfold openNegotiate
  repeat' (with_reducible first | exact hk | apply openSession_kept | apply register_kept | apply raise_kept
                                | apply dropSession_kept | refine openSession_keptE ?_ (by assumption) | apply kept_ite | split
                                | dsimp only)

theorem openNegotiate_keptE {pq : List Instr} {s : State} {hdr : QmpHdr} {versions tag : Word} {flags : Byte} {chunkMs : BitVec 16}
    {ra} {rb rc} (hk : Kept pq s) (he : openNegotiate s hdr versions tag flags chunkMs = (ra, rb, rc)) :
    Kept pq rc := by
  have := openNegotiate_kept (pq := pq) s hdr versions tag flags chunkMs hk
  rw [he] at this; exact this

theorem closeNegotiate_kept {pq : List Instr} (s : State) (hdr : QmpHdr) (hk : Kept pq s) : Kept pq (closeNegotiate s hdr).2.2 := by
  unfold closeNegotiate
  repeat' (with_reducible first | exact hk | apply dropSession_kept | apply setQmp_kept | apply kept_ite
                                | fail_if_no_progress refine kept_mk (kept_parts ?_) | split)

theorem closeNegotiate_keptE {pq : List Instr} {s : State} {hdr : QmpHdr} {ra} {rb rc} (hk : Kept pq s) (he : closeNegotiate s hdr
    = (ra, rb, rc)) :
    Kept pq rc := by
  have := closeNegotiate_kept (pq := pq) s hdr hk
  rw [he] at this; exact this

theorem runPlain_kept {pq : List Instr} (s : State) (hdr : QmpHdr) (b : QmpBody) (hk : Kept pq s) :
    Kept pq (runPlain s hdr b).2.2 := by
  unfold runPlain
  split
  · exact hk
  · cases b with
    | esbGet => exact touchEstimator_kept s hk
    | logRead start count => exact logReadBody_kept s start count hk
    | lastwordsRead start count => dsimp only; split <;> exact hk
    | negotiate v t f m =>
      dsimp only
      split
      · exact closeNegotiate_kept s hdr hk
      · exact openNegotiate_kept s hdr v t f m hk
    | negotiateClose => exact closeNegotiate_kept s hdr hk
    | _ => exact hk

theorem runPlain_keptE {pq : List Instr} {s : State} {hdr : QmpHdr} {b : QmpBody} {ra} {rb rc} (hk : Kept pq s) (he : runPlain s
    hdr b = (ra, rb, rc)) :
    Kept pq rc := by
  have := runPlain_kept (pq := pq) s hdr b hk
  rw [he] at this; exact this

theorem restoreBlock_kept {pq : List Instr} (s : State) (blk : List Byte) (hk : Kept pq s) : Kept pq (restoreBlock s blk).2.2 := by
  unfold restoreBlock
  repeat' (with_reducible first | exact hk | apply touchEstimator_kept | apply packChanged_kept | apply commitBlock_kept | split
                                | dsimp only)

theorem restoreBlock_keptE {pq : List Instr} {s : State} {blk : List Byte} {ra} {rb rc} (hk : Kept pq s) (he : restoreBlock s blk =
    (ra, rb, rc)) :
    Kept pq rc := by
  have := restoreBlock_kept (pq := pq) s blk hk
  rw [he] at this; exact this

theorem openWindow_kept {pq : List Instr} (s : State) (hk : Kept pq s) : Kept pq (openWindow s) := by
  unfold openWindow
  repeat' (with_reducible first | exact hk | apply setPack_kept | fail_if_no_progress refine kept_mk (kept_parts ?_))

theorem grantWindow_kept {pq : List Instr} (s : State) (hk : Kept pq s) : Kept pq (grantWindow s).2.2 := by
  unfold grantWindow
  extract_lets s1
  have h1 : Kept pq s1 := touchEstimator_kept s hk
  clear_value s1
  repeat' (with_reducible first | exact h1 | split | apply updateCharger_kept | apply openWindow_kept)

theorem grantWindow_keptE {pq : List Instr} {s : State} {ra} {rb rc} (hk : Kept pq s) (he : grantWindow s = (ra, rb, rc)) :
    Kept pq rc := by
  have := grantWindow_kept (pq := pq) s hk
  rw [he] at this; exact this

theorem shipAnswer_kept {pq : List Instr} (s : State) (hk : Kept pq s) : Kept pq (shipAnswer s).2.2 := by
  unfold shipAnswer
  repeat' (with_reducible first | exact hk | apply touchEstimator_kept | apply enterShip_kept | apply kept_ite | split | dsimp only)

theorem shipAnswer_keptE {pq : List Instr} {s : State} {ra} {rb rc} (hk : Kept pq s) (he : shipAnswer s = (ra, rb, rc)) :
    Kept pq rc := by
  have := shipAnswer_kept (pq := pq) s hk
  rw [he] at this; exact this

theorem clearLatches_kept {pq : List Instr} (s : State) (hk : Kept pq s) : Kept pq (clearLatches s).2.2 := by
  unfold clearLatches
  repeat' (with_reducible first | exact hk | apply kept_ite | fail_if_no_progress refine kept_mk (kept_parts ?_) | split)

theorem clearLatches_keptE {pq : List Instr} {s : State} {ra} {rb rc} (hk : Kept pq s) (he : clearLatches s = (ra, rb, rc)) :
    Kept pq rc := by
  have := clearLatches_kept (pq := pq) s hk
  rw [he] at this; exact this

theorem clearTripLatch_kept {pq : List Instr} (s : State) (hk : Kept pq s) : Kept pq (clearTripLatch s).2.2 := by
  unfold clearTripLatch
  repeat' (with_reducible first | exact hk | apply kept_ite | fail_if_no_progress refine kept_mk (kept_parts ?_) | split)

theorem clearTripLatch_keptE {pq : List Instr} {s : State} {ra} {rb rc} (hk : Kept pq s) (he : clearTripLatch s = (ra, rb, rc)) :
    Kept pq rc := by
  have := clearTripLatch_kept (pq := pq) s hk
  rw [he] at this; exact this

theorem lockAnswer_kept {pq : List Instr} (s : State) (b : Bool) (hk : Kept pq s) : Kept pq (lockAnswer s b).2.2 := by
  unfold lockAnswer
  repeat' (with_reducible first | exact hk | apply setOwnerLock_kept)

theorem lockAnswer_keptE {pq : List Instr} {s : State} {b : Bool} {ra} {rb rc} (hk : Kept pq s) (he : lockAnswer s b = (ra, rb,
    rc)) :
    Kept pq rc := by
  have := lockAnswer_kept (pq := pq) s b hk
  rw [he] at this; exact this

theorem selftestAnswer_kept {pq : List Instr} (s : State) (target : Byte) (index : BitVec 16) (hk : Kept pq s) :
    Kept pq (selftestAnswer s target index).2.2 := by
  unfold selftestAnswer
  repeat' (with_reducible first | exact hk | apply queueTest_kept | apply kept_ite
                                | fail_if_no_progress refine kept_mk (kept_parts ?_) | split)

theorem selftestAnswer_keptE {pq : List Instr} {s : State} {target : Byte} {index : BitVec 16} {ra} {rb rc} (hk : Kept pq s) (he :
    selftestAnswer s target index = (ra, rb, rc)) :
    Kept pq rc := by
  have := selftestAnswer_kept (pq := pq) s target index hk
  rw [he] at this; exact this

theorem ackNotices_kept {pq : List Instr} (s : State) (first last : Word) (hk : Kept pq s) :
    Kept pq (ackNotices s first last).2.2 := by
  unfold ackNotices
  repeat' (with_reducible first | exact hk | apply clearRollback_kept | apply kept_ite
                                | fail_if_no_progress refine kept_mk (kept_parts ?_) | split)

theorem ackNotices_keptE {pq : List Instr} {s : State} {first last : Word} {ra} {rb rc} (hk : Kept pq s) (he : ackNotices s first
    last = (ra, rb, rc)) :
    Kept pq rc := by
  have := ackNotices_kept (pq := pq) s first last hk
  rw [he] at this; exact this

theorem activateAnswer_kept {pq : List Instr} (s : State) (pkg : Word) (flags : Byte) (hk : Kept pq s) :
    Kept pq (activateAnswer s pkg flags).2.2 := by
  unfold activateAnswer
  repeat' (with_reducible first | exact hk | apply activatePackage_kept | apply setFw_kept | apply sendActivate_kept
                                | refine activatePackage_keptE ?_ (by assumption) | apply kept_ite
                                | fail_if_no_progress refine kept_mk (kept_parts ?_) | split | dsimp only)

theorem activateAnswer_keptE {pq : List Instr} {s : State} {pkg : Word} {flags : Byte} {ra} {rb rc} (hk : Kept pq s) (he :
    activateAnswer s pkg flags = (ra, rb, rc)) :
    Kept pq rc := by
  have := activateAnswer_kept (pq := pq) s pkg flags hk
  rw [he] at this; exact this

theorem effectOf_kept {pq : List Instr} (s : State) (hdr : QmpHdr) (b : QmpBody) (hk : Kept pq s) :
    Kept pq (effectOf s hdr b).2.2 := by
  cases b with
  | esbRestore blk => exact restoreBlock_kept s blk hk
  | grantRest => exact grantWindow_kept s hk
  | fwChunk pkg off total crc rsv data => exact fwChunkAnswer_kept s _ _ hk
  | fwActivate pkg flags => exact activateAnswer_kept s pkg flags hk
  | fwLockSet => exact lockAnswer_kept s true hk
  | fwLockClear =>
    unfold effectOf
    dsimp only
    split
    · exact lockAnswer_kept s false hk
    · exact hk
  | selftest target index => exact selftestAnswer_kept s target index hk
  | debugChallenge => exact giveChallenge_kept s hk
  | debugResponse sig verifies => exact takeResponse_kept s hdr.carrier verifies hk
  | shipMode => exact shipAnswer_kept s hk
  | clearRailLatch => exact clearLatches_kept s hk
  | clearTrip => exact clearTripLatch_kept s hk
  | noticeAck first last => exact ackNotices_kept s first last hk
  | _ => exact hk

theorem effectOf_keptE {pq : List Instr} {s : State} {hdr : QmpHdr} {b : QmpBody} {ra} {rb rc} (hk : Kept pq s) (he : effectOf s
    hdr b = (ra, rb, rc)) :
    Kept pq rc := by
  have := effectOf_kept (pq := pq) s hdr b hk
  rw [he] at this; exact this

theorem runEffect_kept {pq : List Instr} (s : State) (hdr : QmpHdr) (b : QmpBody) (hk : Kept pq s) :
    Kept pq (runEffect s hdr b).2.2 := by
  unfold runEffect
  repeat' (with_reducible first | exact hk | apply effectOf_kept | refine effectOf_keptE ?_ (by assumption) | split)

theorem runEffect_keptE {pq : List Instr} {s : State} {hdr : QmpHdr} {b : QmpBody} {ra} {rb rc} (hk : Kept pq s) (he : runEffect s
    hdr b = (ra, rb, rc)) :
    Kept pq rc := by
  have := runEffect_kept (pq := pq) s hdr b hk
  rw [he] at this; exact this

theorem copyBoot_kept {pq : List Instr} (s : State) (half : Bool) (h : FwHeader) (verifies : Bool) (hk : Kept pq s) :
    Kept pq (copyBoot s half h verifies) := by
  unfold copyBoot
  repeat' (with_reducible first | exact hk | assumption | apply cfEraseRange_kept | apply cfPut_kept | apply setFw_kept
                                | apply selectBoot_kept | apply kept_ite | refine kept_foldl ?_ _ ?_ | intro _ _ _)

theorem restartKept_kept {pq : List Instr} (s : State) (hk : Kept pq s) : Kept pq (restartKept s) := by
  unfold restartKept
  repeat' (with_reducible first | exact hk | apply bootSteps_kept | apply dataPathReset_kept)

theorem crocusRestart_kept {pq : List Instr} (s : State) (hk : Kept pq s) : Kept pq (crocusRestart s) := by
  unfold crocusRestart
  repeat' (with_reducible first | exact hk | apply copyBoot_kept | apply restartKept_kept | apply kept_ite | split)

theorem resequenceCleared_kept {pq : List Instr} (s : State) (cleared : Nat) (hk : Kept pq s) :
    Kept pq (resequenceCleared s cleared) := by
  unfold resequenceCleared
  repeat' (with_reducible first | exact hk | apply tryStart_kept | apply resumeBoot_kept | apply beginSequence_kept
                                | apply groupBack_kept | apply kept_ite | fail_if_no_progress refine kept_mk (kept_parts ?_)
                                | split | dsimp only)

theorem afterAnswer_kept {pq : List Instr} (s : State) (b : QmpBody) (st : QmpStatus) (body : List Byte) (hk : Kept pq s) :
    Kept pq (afterAnswer s b st body) := by
  unfold afterAnswer
  repeat' (with_reducible first | exact hk | apply crocusRestart_kept | apply triggerSave_kept | apply resequenceCleared_kept
                                | apply tryStart_kept | apply kept_ite | fail_if_no_progress refine kept_mk (kept_parts ?_) | split)

theorem consume_kept {pq : List Instr} (s : State) (hdr : QmpHdr) (op : BitVec 16) (st : QmpStatus) (body : List Byte) (hk : Kept
    pq s) :
    Kept pq (consume s hdr op st body) := hk

theorem consumeAon_kept {pq : List Instr} (s : State) (hdr : QmpHdr) (op : BitVec 16) (st : QmpStatus) (body : List Byte) (hk :
    Kept pq s) :
    Kept pq (consumeAon s hdr op st body) := by
  unfold consumeAon
  repeat' (with_reducible first | exact hk | apply setQmp_kept | apply modSession_kept | apply kept_ite
                                | fail_if_no_progress refine kept_mk (kept_parts ?_) | split | dsimp only)

theorem executeNext_kept {pq : List Instr} (s : State) (hdr : QmpHdr) (b : QmpBody) (hk : Kept pq s) :
    Kept pq (executeNext s hdr b) := by
  unfold executeNext
  repeat' (with_reducible first | exact hk | apply runEffect_kept | apply setFw_kept | apply afterAnswer_kept
                                | apply respond_kept | apply consume_kept | refine runEffect_keptE ?_ (by assumption)
                                | apply kept_ite)

theorem sequenced_kept {pq : List Instr} (s : State) (hdr : QmpHdr) (b : QmpBody) (x : Session) (hk : Kept pq s) :
    Kept pq (sequenced s hdr b x) := by
  unfold sequenced
  repeat' (with_reducible first | exact hk | apply hold_kept | apply respond_kept | apply executeNext_kept | apply kept_ite | split)

theorem sequencedAon_kept {pq : List Instr} (s : State) (hdr : QmpHdr) (b : QmpBody) (next : Word) (hk : Kept pq s) :
    Kept pq (sequencedAon s hdr b next) := by
  unfold sequencedAon
  repeat' (with_reducible first | exact hk | apply runEffect_kept | apply afterAnswer_kept | apply respond_kept
                                | apply consumeAon_kept | refine runEffect_keptE ?_ (by assumption) | apply kept_ite | split)

theorem answerPlain_kept {pq : List Instr} (s : State) (hdr : QmpHdr) (b : QmpBody) (hk : Kept pq s) :
    Kept pq (answerPlain s hdr b) := by
  unfold answerPlain
  repeat' (with_reducible first | exact hk | apply runPlain_kept | apply respond_kept)

theorem inSession_kept {pq : List Instr} (s : State) (hdr : QmpHdr) (b : QmpBody) (hk : Kept pq s) :
    Kept pq (inSession s hdr b) := by
  unfold inSession
  repeat' (with_reducible first | exact hk | apply modSession_kept | apply respond_kept | apply answerPlain_kept
                                | apply sequencedAon_kept | apply sequenced_kept | apply kept_ite
                                | fail_if_no_progress refine kept_mk (kept_parts ?_) | split)

theorem admitRequest_kept {pq : List Instr} (s : State) (hdr : QmpHdr) (b : QmpBody) (hk : Kept pq s) :
    Kept pq (admitRequest s hdr b) := by
  unfold admitRequest
  repeat' (with_reducible first | exact hk | apply hold_kept | apply respond_kept | apply answerPlain_kept
                                | apply inSession_kept | apply kept_ite | fail_if_no_progress refine kept_mk (kept_parts ?_)
                                | split)

theorem receiveOp_kept {pq : List Instr} (s : State) (hdr : QmpHdr) (op : BitVec 16) (b : Option QmpBody) (hk : Kept pq s) :
    Kept pq (receiveOp s hdr op b) := by
  unfold receiveOp
  repeat' (with_reducible first | exact hk | apply emit_kept | apply respond_kept | apply admitRequest_kept | apply kept_ite
                                | split)

theorem receive_kept {pq : List Instr} (s : State) (hdr : QmpHdr) (b : QmpBody) (hk : Kept pq s) : Kept pq (receive s hdr b) := by
  unfold receive
  repeat' (with_reducible first | exact hk | apply receiveOp_kept)

theorem runHeld_kept {pq : List Instr} (s : State) (hk : Kept pq s) : Kept pq (runHeld s) := by
  unfold runHeld
  repeat' (with_reducible first | exact hk | assumption | apply admitRequest_kept | apply setQmp_kept | apply kept_ite
                                | refine kept_foldl ?_ _ ?_ | intro _ _ _)

theorem finishActivate_kept {pq : List Instr} (s : State) (hk : Kept pq s) : Kept pq (finishActivate s) := by
  unfold finishActivate
  repeat' (with_reducible first | exact hk | apply setFw_kept | apply runHeld_kept | apply respond_kept | apply consume_kept
                                | fail_if_no_progress refine kept_mk (kept_parts ?_) | split)

/-! ## Machine/BusOps.lean -/

theorem setLb_kept {pq : List Instr} (s : State) (f : LocalBus → LocalBus) (hk : Kept pq s) : Kept pq (setLb s f) := hk

theorem afterClear_kept {pq : List Instr} (s : State) (hk : Kept pq s) : Kept pq (afterClear s) := hk

theorem ignoreRemote_kept {pq : List Instr} (s : State) (hk : Kept pq s) : Kept pq (ignoreRemote s) := by
  unfold ignoreRemote
  repeat' (with_reducible first | exact hk | assumption | apply ignoreSite_kept | apply kept_ite | refine kept_foldl ?_ _ ?_
                                | intro _ _ _)

theorem localStuck_kept {pq : List Instr} (s : State) (hk : Kept pq s) : Kept pq (localStuck s) := by
  unfold localStuck
  repeat' (with_reducible first | exact hk | apply setLb_kept | apply raise_kept | apply updateCharger_kept
                                | apply identityLost_kept | apply ignoreRemote_kept | apply finishSheet_kept | apply kept_ite
                                | fail_if_no_progress refine kept_mk (kept_parts ?_) | split)

theorem smbusStuck_kept {pq : List Instr} (s : State) (scl : Bool) (hk : Kept pq s) : Kept pq (smbusStuck s scl) := by
  unfold smbusStuck
  repeat' (with_reducible first | exact hk | apply setSmb_kept | apply logEvent_kept | apply raise_kept | apply kept_ite
                                | fail_if_no_progress refine kept_mk (kept_parts ?_) | split)

theorem localCleared_kept {pq : List Instr} (s : State) (hk : Kept pq s) : Kept pq (localCleared s) := by
  unfold localCleared
  repeat' (with_reducible first | exact hk | apply raise_kept | apply afterClear_kept | apply setLb_kept)

theorem smbusCleared_kept {pq : List Instr} (s : State) (hk : Kept pq s) : Kept pq (smbusCleared s) := by
  unfold smbusCleared
  repeat' (with_reducible first | exact hk | apply setSmb_kept | apply sendCurrent_kept | apply sendQueued_kept | apply kept_ite)

theorem clearLocal_kept {pq : List Instr} (s : State) (c : Option ClearOutcome) (hk : Kept pq s) : Kept pq (clearLocal s c) := by
  unfold clearLocal
  split
  · exact hk
  · extract_lets t
    have h : Kept pq t := setLb_kept _ _ hk
    clear_value t
    split
    · exact localCleared_kept _ h
    · exact afterClear_kept _ h
    · exact h
    · exact localStuck_kept _ h

theorem clearSmbus_kept {pq : List Instr} (s : State) (c : Option ClearOutcome) (hk : Kept pq s) : Kept pq (clearSmbus s c) := by
  unfold clearSmbus
  repeat' (with_reducible first | exact hk | apply setSmb_kept | apply smbusCleared_kept | apply smbusStuck_kept
                                | apply kept_ite | fail_if_no_progress refine kept_mk (kept_parts ?_) | split)

/-! ## Machine/PersistOps.lean -/

theorem addHeat_kept {pq : List Instr} (s : State) (hk : Kept pq s) : Kept pq (addHeat s) := hk

theorem halveHeat_kept {pq : List Instr} (s : State) (hk : Kept pq s) : Kept pq (halveHeat s) := hk

theorem gainWear_kept {pq : List Instr} (s : State) (c : Settings) (hk : Kept pq s) : Kept pq (gainWear s c) := hk

theorem stepWear_kept {pq : List Instr} (s : State) (c : Settings) (hk : Kept pq s) : Kept pq (stepWear s c) := by
  unfold stepWear
  repeat' (with_reducible first | exact hk | apply raise_kept | apply kept_ite | fail_if_no_progress refine kept_mk (kept_parts ?_))

theorem stepCeil_kept {pq : List Instr} (s : State) (c : Settings) (hk : Kept pq s) : Kept pq (stepCeil s c) := hk

theorem turnWindows_kept {pq : List Instr} (s : State) (hk : Kept pq s) : Kept pq (turnWindows s) := hk

theorem loopUpdate_kept {pq : List Instr} (s : State) (c : Settings) (hk : Kept pq s) : Kept pq (loopUpdate s c) := by
  unfold loopUpdate
  repeat' (with_reducible first | exact hk | apply updateCeiling_kept | apply gainWear_kept | apply addHeat_kept
                                | apply turnWindows_kept | apply stepWear_kept | apply stepCeil_kept | apply evalPsub_kept
                                | apply kept_ite | fail_if_no_progress refine kept_mk (kept_parts ?_) | split)

theorem rowsFor_kept {pq : List Instr} (s : State) (c : Settings) (hk : Kept pq s) : Kept pq (rowsFor s c) := by
  unfold rowsFor
  repeat' (with_reducible first | exact hk | apply ensureRows_kept)

theorem putInFlight_kept {pq : List Instr} (s : State) (c : Settings) (g : Nat) (seqs : List Nat) (rows : List (Nat × Nat))
    (hk : Kept pq s) :
    Kept pq (putInFlight s c g seqs rows) := by
  unfold putInFlight
  repeat' (with_reducible first | exact hk | apply kept_ite | fail_if_no_progress refine kept_mk (kept_parts ?_) | split)

theorem issueFlush_kept {pq : List Instr} (s : State) (c : Settings) (ch : FlashCh) (g : Nat) (errs : List (Nat × EccOutcome))
    (hk : Kept pq s) : Kept pq (issueFlush s c ch g errs) := by
  unfold issueFlush
  extract_lets s1
  have h1 : Kept pq s1 := rowsFor_kept s c hk
  clear_value s1
  split
  · exact h1
  · split
    · exact h1
    · split
      · exact h1
      · rename_i he
        exact putInFlight_kept _ _ _ _ _ (chargeWear_kept _ _ (placeOn_keptE (eccEffects_kept _ _ _ (flushAccess_kept _ _ h1)) he))

theorem flushOn_kept {pq : List Instr} (s : State) (ch : FlashCh) (errs : List (Nat × EccOutcome)) (hk : Kept pq s) :
    Kept pq (flushOn s ch errs) := by
  unfold flushOn
  repeat' (with_reducible first | exact hk | apply issueFlush_kept | apply kept_ite
                                | fail_if_no_progress refine kept_mk (kept_parts ?_) | split)

end Sys2Proof.Machine
end

