-- ==== Sys2Proof/Laws/KeptCommands.lean ====
section
/-! SUPPORT. Every command's meaning keeps (Laws/Kept.lean): one lemma for each definition of a family file. -/

namespace Sys2Proof.Machine

open Sys2Proof

/-! ## Machine/Activation.lean -/

theorem packageWhole_kept {pq : List Instr} (s : State) (g : Staging) (h : FwHeader) (hk : Kept pq s) :
    Kept pq (packageWhole s g h) := by
  unfold packageWhole
  repeat' (with_reducible first | exact hk | apply setFw_kept | apply setImage_kept | apply checkReport_kept
                                | apply sendRelay_kept | apply signalAll_kept | apply setOwn_kept)

theorem packageBad_kept {pq : List Instr} (s : State) (svn : Bool) (hk : Kept pq s) : Kept pq (packageBad s svn) := by
  unfold packageBad
  repeat' (with_reducible first | exact hk | apply setFw_kept | apply setImage_kept | apply sendStatus_kept | apply refuseFw_kept
                                | apply setOwn_kept | apply kept_ite)

theorem relayVerified_kept {pq : List Instr} (s : State) (ok : Bool) (hk : Kept pq s) : Kept pq (relayVerified s ok) := by
  unfold relayVerified
  repeat' (with_reducible first | exact hk | apply sendRelay_kept | apply setFw_kept | apply kept_ite
                                | fail_if_no_progress refine kept_mk (kept_parts ?_) | split)

theorem execPackageVerifyComplete_kept {pq : List Instr} (signatureOk digestOk : Bool) (s : State) (hk : Kept pq s) :
    KeptR pq (execPackageVerifyComplete signatureOk digestOk s) := by
  unfold execPackageVerifyComplete
  repeat' (with_reducible first | exact hk | refine keptR_next ?_ | apply relayVerified_kept | apply packageBad_kept
                                | apply packageWhole_kept | apply kept_ite | split)

theorem execBankLoadComplete_kept {pq : List Instr} (s : State) (hk : Kept pq s) : KeptR pq (execBankLoadComplete s) := by
  unfold execBankLoadComplete
  repeat' (with_reducible first | exact hk | refine keptR_next ?_ | apply setFw_kept | apply kept_ite)

theorem switchBank_kept {pq : List Instr} (s : State) (e : EngineId) (hk : Kept pq s) : Kept pq (switchBank s e) := hk

theorem execEngineSwitch_kept {pq : List Instr} (accepted : Bool) (s : State) (hk : Kept pq s) :
    KeptR pq (execEngineSwitch accepted s) := by
  unfold execEngineSwitch
  repeat' (with_reducible first | exact hk | refine keptR_next ?_ | apply startRevert_kept | apply switchBank_kept
                                | apply finishActivate_kept | apply finishRevert_kept | apply kept_ite | split)

theorem beginProbation_kept {pq : List Instr} (s : State) (h : FwHeader) (hk : Kept pq s) : Kept pq (beginProbation s h) := by
  unfold beginProbation
  repeat' (with_reducible first | exact hk | apply setFw_kept | apply signalAll_kept | apply raise_kept | apply setOwn_kept
                                | apply sendActivate_kept | apply kept_ite)

theorem execMastheadHandoverComplete_kept {pq : List Instr} (accepted : Bool) (s : State) (hk : Kept pq s) :
    KeptR pq (execMastheadHandoverComplete accepted s) := by
  unfold execMastheadHandoverComplete
  repeat' (with_reducible first | exact hk | refine keptR_next ?_ | apply checkChainDone_kept | apply finishActivate_kept
                                | apply beginProbation_kept | apply startRevert_kept | apply kept_ite | split)

theorem commitImage_kept {pq : List Instr} (s : State) (h : FwHeader) (hk : Kept pq s) : Kept pq (commitImage s h) := by
  unfold commitImage
  repeat' (with_reducible first | exact hk | apply selectHalf_kept | apply setFw_kept | apply renewSelector_kept
                                | apply setOwn_kept | apply kept_ite | fail_if_no_progress refine kept_mk (kept_parts ?_))

theorem execProbationEnd_kept {pq : List Instr} (s : State) (hk : Kept pq s) : KeptR pq (execProbationEnd s) := by
  unfold execProbationEnd
  repeat' (with_reducible first | exact hk | refine keptR_next ?_ | apply commitImage_kept | apply raise_kept | apply kept_ite
                                | split)

theorem execBootCopyComplete_kept {pq : List Instr} (verifies : Bool) (s : State) (hk : Kept pq s) :
    KeptR pq (execBootCopyComplete verifies s) := by
  unfold execBootCopyComplete
  repeat' (with_reducible first | exact hk | refine keptR_next ?_ | apply copyBoot_kept | apply raise_kept | apply setFw_kept
                                | apply kept_ite | fail_if_no_progress refine kept_mk (kept_parts ?_) | split)

/-! ## Machine/Button.lean -/

theorem execMrN_kept {pq : List Instr} (s : State) (hk : Kept pq s) : KeptR pq (execMrN s) := by
  unfold execMrN
  repeat' (with_reducible first | exact hk | refine keptR_next ?_ | apply manualReset_kept | apply kept_ite
                                | fail_if_no_progress refine kept_mk (kept_parts ?_))

theorem execMrNRelease_kept {pq : List Instr} (localBus smbus : Option ClearOutcome) (s : State) (hk : Kept pq s) :
    KeptR pq (execMrNRelease localBus smbus s) := by
  unfold execMrNRelease
  repeat' (with_reducible first | exact hk | refine keptR_next ?_ | apply clearSmbus_kept | apply clearLocal_kept
                                | apply resumeBoot_kept | apply tryStart_kept | apply kept_ite
                                | fail_if_no_progress refine kept_mk (kept_parts ?_) | split)

theorem execPbPressStart_kept {pq : List Instr} (s : State) (hk : Kept pq s) : KeptR pq (execPbPressStart s) := by
  unfold execPbPressStart
  repeat' (with_reducible first | exact hk | refine keptR_next ?_ | apply kept_ite
                                | fail_if_no_progress refine kept_mk (kept_parts ?_))

theorem execPbRelease_kept {pq : List Instr} (duration : Nat) (s : State) (hk : Kept pq s) :
    KeptR pq (execPbRelease duration s) := by
  unfold execPbRelease
  repeat' (with_reducible first | exact hk | refine keptR_next ?_ | apply pressReleased_kept | apply kept_ite
                                | fail_if_no_progress refine kept_mk (kept_parts ?_))

theorem execPbForcedMark_kept {pq : List Instr} (s : State) (hk : Kept pq s) : KeptR pq (execPbForcedMark s) := by
  unfold execPbForcedMark
  repeat' (with_reducible first | exact hk | refine keptR_next ?_ | apply pressForced_kept | apply kept_ite
                                | fail_if_no_progress refine kept_mk (kept_parts ?_))

theorem execPbHardOff_kept {pq : List Instr} (s : State) (hk : Kept pq s) : KeptR pq (execPbHardOff s) := by
  unfold execPbHardOff
  repeat' (with_reducible first | exact hk | refine keptR_next ?_ | apply pressHard_kept | apply kept_ite
                                | fail_if_no_progress refine kept_mk (kept_parts ?_))

/-! ## Machine/Recorder.lean -/

theorem reportDrops_kept {pq : List Instr} (s : State) (hk : Kept pq s) : Kept pq (reportDrops s) := by
  unfold reportDrops
  repeat' (with_reducible first | exact hk | apply raise_kept | apply kept_ite
                                | fail_if_no_progress refine kept_mk (kept_parts ?_) | split)

theorem execLogPageProgram_kept {pq : List Instr} (pass0 pass1 : Bool) (s : State) (hk : Kept pq s) :
    KeptR pq (execLogPageProgram pass0 pass1 s) := by
  unfold execLogPageProgram
  repeat' (with_reducible first | exact hk | refine keptR_next ?_ | apply mirrorFails_kept | apply reportDrops_kept
                                | apply programFull_kept | apply kept_ite | fail_if_no_progress refine kept_mk (kept_parts ?_)
                                | split)

theorem execSuppressedSweep_kept {pq : List Instr} (s : State) (hk : Kept pq s) : KeptR pq (execSuppressedSweep s) := by
  unfold execSuppressedSweep
  repeat' (with_reducible first | exact hk | refine keptR_next ?_ | apply sweepSuppressed_kept | apply kept_ite)

theorem execOptimeCheckpoint_kept {pq : List Instr} (s : State) (hk : Kept pq s) : KeptR pq (execOptimeCheckpoint s) := by
  unfold execOptimeCheckpoint
  repeat' (with_reducible first | exact hk | refine keptR_next ?_ | apply writeCheckpoint_kept | apply kept_ite)

theorem execLogSel_kept {pq : List Instr} (link : Link) (recno : Word) (s : State) (hk : Kept pq s) :
    KeptR pq (execLogSel link recno s) := by
  unfold execLogSel
  repeat' (with_reducible first | exact hk | refine keptR_next ?_ | apply setFn_kept | apply kept_ite)

theorem readLog_kept {pq : List Instr} (s : State) (ok0 ok1 : Bool) (hk : Kept pq s) : Kept pq (readLog s ok0 ok1) := by
  unfold readLog
  repeat' (with_reducible first | exact hk | apply mirrorFails_kept | apply kept_ite | split)

theorem execLogFetchComplete_kept {pq : List Instr} (link : Link) (ok0 ok1 : Bool) (s : State) (hk : Kept pq s) :
    KeptR pq (execLogFetchComplete link ok0 ok1 s) := by
  unfold execLogFetchComplete
  refine keptR_next (kept_ite ?_ hk)
  extract_lets s1
  have h1 : Kept pq s1 := by
    show Kept pq (match selectedRecord s link with | some r => _ | none => _)
    split
    · exact kept_ite (readLog_kept s ok0 ok1 hk) hk
    · exact hk
  clear_value s1
  split <;> exact setFn_kept _ _ _ h1

/-! ## Machine/Clocks.lean -/

theorem setHoldflag_kept {pq : List Instr} (s : State) (v : Bool) (hk : Kept pq s) : Kept pq (setHoldflag s v) := hk

theorem execHoldflag_kept {pq : List Instr} (link : Link) (value : Bool) (s : State) (hk : Kept pq s) :
    KeptR pq (execHoldflag link value s) := by
  unfold execHoldflag
  repeat' (with_reducible first | exact hk | refine keptR_next ?_ | apply setHoldflag_kept | apply kept_ite)

theorem execHfSwitchComplete_kept {pq : List Instr} (s : State) (hk : Kept pq s) : KeptR pq (execHfSwitchComplete s) := by
  unfold execHfSwitchComplete
  repeat' (with_reducible first | exact hk | refine keptR_next ?_ | apply kept_ite
                                | fail_if_no_progress refine kept_mk (kept_parts ?_))

theorem takeSnapshot_kept {pq : List Instr} (s : State) (l : Link) (hk : Kept pq s) : Kept pq (takeSnapshot s l) := by
  unfold takeSnapshot
  repeat' (with_reducible first | exact hk | apply setFn_kept | apply kept_ite)

theorem releaseSnapshot_kept {pq : List Instr} (s : State) (l : Link) (hk : Kept pq s) : Kept pq (releaseSnapshot s l) := hk

theorem execTake_kept {pq : List Instr} (link : Link) (group : Fin 16) (s : State) (hk : Kept pq s) :
    KeptR pq (execTake link group s) := by
  unfold execTake
  repeat' (with_reducible first | exact hk | refine keptR_next ?_ | apply takeSnapshot_kept | apply setFn_kept | apply kept_ite)

theorem execRelease_kept {pq : List Instr} (link : Link) (s : State) (hk : Kept pq s) : KeptR pq (execRelease link s) := by
  unfold execRelease
  repeat' (with_reducible first | exact hk | refine keptR_next ?_ | apply releaseSnapshot_kept | apply kept_ite)

theorem execSnapshotExpiry_kept {pq : List Instr} (link : Link) (s : State) (hk : Kept pq s) :
    KeptR pq (execSnapshotExpiry link s) := by
  unfold execSnapshotExpiry
  repeat' (with_reducible first | exact hk | refine keptR_next ?_ | apply releaseSnapshot_kept | apply kept_ite)

theorem execFlGenLatch_kept {pq : List Instr} (link : Link) (s : State) (hk : Kept pq s) : KeptR pq (execFlGenLatch link s) := by
  unfold execFlGenLatch
  repeat' (with_reducible first | exact hk | refine keptR_next ?_ | apply emit_kept | apply setFn_kept | apply kept_ite)

theorem execPlanInfoLatch_kept {pq : List Instr} (link : Link) (s : State) (hk : Kept pq s) :
    KeptR pq (execPlanInfoLatch link s) := by
  unfold execPlanInfoLatch
  repeat' (with_reducible first | exact hk | refine keptR_next ?_ | apply emit_kept | apply setFn_kept | apply kept_ite)

theorem execOptimeLatch_kept {pq : List Instr} (link : Link) (s : State) (hk : Kept pq s) : KeptR pq (execOptimeLatch link s) := by
  unfold execOptimeLatch
  repeat' (with_reducible first | exact hk | refine keptR_next ?_ | apply emit_kept | apply setFn_kept | apply kept_ite)

theorem execEsbWindowLatch_kept {pq : List Instr} (link : Link) (endRead : Bool) (s : State) (hk : Kept pq s) :
    KeptR pq (execEsbWindowLatch link endRead s) := by
  unfold execEsbWindowLatch
  repeat' (with_reducible first | exact hk | refine keptR_next ?_ | apply touchEstimator_kept | apply setFn_kept
                                | apply emit_kept | apply kept_ite)

theorem execFifoResync_kept {pq : List Instr} (fifo : Nat) (far : Bool) (s : State) (hk : Kept pq s) :
    KeptR pq (execFifoResync fifo far s) := by
  unfold execFifoResync
  repeat' (with_reducible first | exact hk | refine keptR_next ?_ | apply kept_ite
                                | fail_if_no_progress refine kept_mk (kept_parts ?_) | split)

/-! ## Machine/CodeFlash.lean -/

theorem romReturn_kept {pq : List Instr} (s : State) (status value : Nat) (hk : Kept pq s) :
    Kept pq (romReturn s status value) := hk

theorem execCfProgram_kept {pq : List Instr} (address : Nat) (data : DWord) (s : State) (hk : Kept pq s) :
    KeptR pq (execCfProgram address data s) := by
  unfold execCfProgram
  repeat' (with_reducible first | exact hk | refine keptR_next ?_ | apply romReturn_kept | apply kept_ite
                                | fail_if_no_progress refine kept_mk (kept_parts ?_))

theorem execCfErase_kept {pq : List Instr} (sector : Nat) (s : State) (hk : Kept pq s) : KeptR pq (execCfErase sector s) := by
  unfold execCfErase
  repeat' (with_reducible first | exact hk | refine keptR_next ?_ | apply romReturn_kept | apply kept_ite
                                | fail_if_no_progress refine kept_mk (kept_parts ?_))

theorem execCfResume_kept {pq : List Instr} (s : State) (hk : Kept pq s) : KeptR pq (execCfResume s) := by
  unfold execCfResume
  repeat' (with_reducible first | exact hk | refine keptR_next ?_ | apply romReturn_kept | apply kept_ite
                                | fail_if_no_progress refine kept_mk (kept_parts ?_) | split)

theorem execCfStatus_kept {pq : List Instr} (s : State) (hk : Kept pq s) : KeptR pq (execCfStatus s) := by
  unfold execCfStatus
  repeat' (with_reducible first | exact hk | refine keptR_next ?_ | apply romReturn_kept | apply kept_ite)

theorem execCfOperationComplete_kept {pq : List Instr} (s : State) (hk : Kept pq s) : KeptR pq (execCfOperationComplete s) := by
  unfold execCfOperationComplete
  repeat' (with_reducible first | exact hk | refine keptR_next ?_ | apply cfPut_kept | apply programHeld_kept
                                | apply romReturn_kept | apply sectorGone_kept | apply cfEraseSector_kept
                                | fail_if_no_progress refine kept_mk (kept_parts ?_) | split)

theorem execCfBrownout_kept {pq : List Instr} (s : State) (hk : Kept pq s) : KeptR pq (execCfBrownout s) := by
  unfold execCfBrownout
  repeat' (with_reducible first | exact hk | refine keptR_next ?_ | apply romReturn_kept | apply cfPowerLoss_kept
                                | apply kept_ite | fail_if_no_progress refine kept_mk (kept_parts ?_))

theorem execCfAccessRefused_kept {pq : List Instr} (s : State) (hk : Kept pq s) : KeptR pq (execCfAccessRefused s) := by
  unfold execCfAccessRefused
  repeat' (with_reducible first | exact hk | refine keptR_next ?_ | apply logEvent_kept | apply kept_ite
                                | fail_if_no_progress refine kept_mk (kept_parts ?_))

/-! ## Machine/HostLink.lean -/

theorem takeLinkDown_kept {pq : List Instr} (s : State) (l : Link) (hk : Kept pq s) : Kept pq (takeLinkDown s l) := by
  unfold takeLinkDown
  repeat' (with_reducible first | exact hk | apply linkGone_kept | apply linkReset_kept | apply kept_ite)

theorem execPerstAssert_kept {pq : List Instr} (port : Fin 4) (s : State) (hk : Kept pq s) : KeptR pq (execPerstAssert port s) := by
  unfold execPerstAssert
  repeat' (with_reducible first | exact hk | refine keptR_next ?_ | apply takeLinkDown_kept)

theorem execLinkDown_kept {pq : List Instr} (link : Link) (s : State) (hk : Kept pq s) : KeptR pq (execLinkDown link s) := by
  unfold execLinkDown
  repeat' (with_reducible first | exact hk | refine keptR_next ?_ | apply takeLinkDown_kept)

theorem execHotReset_kept {pq : List Instr} (link : Link) (s : State) (hk : Kept pq s) : KeptR pq (execHotReset link s) := by
  unfold execHotReset
  repeat' (with_reducible first | exact hk | refine keptR_next ?_ | apply takeLinkDown_kept)

theorem execCxlReset_kept {pq : List Instr} (link : Link) (s : State) (hk : Kept pq s) : KeptR pq (execCxlReset link s) := by
  unfold execCxlReset
  repeat' (with_reducible first | exact hk | refine keptR_next ?_ | apply rewriteLogs_kept | apply linkReset_kept | apply kept_ite)

theorem execRefclkFault_kept {pq : List Instr} (port : Fin 4) (s : State) (hk : Kept pq s) : KeptR pq (execRefclkFault port s) := by
  unfold execRefclkFault
  repeat' (with_reducible first | exact hk | refine keptR_next ?_ | apply takeLinkDown_kept)

theorem degraded_kept {pq : List Instr} (s : State) (l : Link) (hk : Kept pq s) : Kept pq (degraded s l) := by
  unfold degraded
  repeat' (with_reducible first | exact hk | apply queueTest_kept | apply raise_kept | apply kept_ite)

theorem linkBack_kept {pq : List Instr} (s : State) (hk : Kept pq s) : Kept pq (linkBack s) := by
  unfold linkBack
  repeat' (with_reducible first | exact hk | apply endInterval_kept | apply kept_ite)

theorem execLinkTrained_kept {pq : List Instr} (link : Link) (width : Nat) (revision : Fin 3) (s : State) (hk : Kept pq s) :
    KeptR pq (execLinkTrained link width revision s) := by
  unfold execLinkTrained
  repeat' (with_reducible first | exact hk | refine keptR_next ?_ | apply trained_kept | apply rewriteLogs_kept
                                | apply linkBack_kept | apply degraded_kept | apply kept_ite
                                | fail_if_no_progress refine kept_mk (kept_parts ?_))

theorem execLinkErrorBurst_kept {pq : List Instr} (link : Link) (s : State) (hk : Kept pq s) :
    KeptR pq (execLinkErrorBurst link s) := by
  unfold execLinkErrorBurst
  repeat' (with_reducible first | exact hk | refine keptR_next ?_ | apply queueTest_kept | apply kept_ite)

theorem retireLane_kept {pq : List Instr} (s : State) (l : Link) (width : Nat) (lane : Fin 16) (hk : Kept pq s) :
    Kept pq (retireLane s l width lane) := by
  unfold retireLane
  repeat' (with_reducible first | exact hk | apply raise_kept | apply kept_ite | fail_if_no_progress refine kept_mk (kept_parts ?_))

theorem execLaneMarginTestComplete_kept {pq : List Instr} (link : Link) (failing : List (Fin 16)) (width : Nat) (s : State) (hk :
    Kept pq s) :
    KeptR pq (execLaneMarginTestComplete link failing width s) := by
  unfold execLaneMarginTestComplete
  repeat' (with_reducible first | exact hk | refine keptR_next ?_ | assumption | apply endTest_kept | apply countTransient_kept
                                | apply retireLane_kept | apply raise_kept | apply kept_ite | refine kept_foldl ?_ _ ?_
                                | intro _ _ _ | fail_if_no_progress refine kept_mk (kept_parts ?_) | split)

theorem execGpfPhase2_kept {pq : List Instr} (link : Link) (s : State) (hk : Kept pq s) : KeptR pq (execGpfPhase2 link s) := by
  unfold execGpfPhase2
  repeat' (with_reducible first | exact hk | refine keptR_next ?_ | apply emit_kept | apply kept_ite)

theorem updateIdle_kept {pq : List Instr} (s : State) (hk : Kept pq s) : Kept pq (updateIdle s) := hk

theorem execLinkL1OrL0pChange_kept {pq : List Instr} (link : Link) (resting : Bool) (s : State) (hk : Kept pq s) :
    KeptR pq (execLinkL1OrL0pChange link resting s) := by
  unfold execLinkL1OrL0pChange
  repeat' (with_reducible first | exact hk | refine keptR_next ?_ | apply updateIdle_kept | apply kept_ite
                                | fail_if_no_progress refine kept_mk (kept_parts ?_))

theorem execHdmDecoderCommit_kept {pq : List Instr} (link : Link) (index base size dpaBase ways gran : Nat) (locked : Bool) (s :
    State) (hk : Kept pq s) :
    KeptR pq (execHdmDecoderCommit link index base size dpaBase ways gran locked s) := by
  unfold execHdmDecoderCommit
  repeat' (with_reducible first | exact hk | refine keptR_next ?_ | apply kept_ite
                                | fail_if_no_progress refine kept_mk (kept_parts ?_))

/-! ## Machine/ConfigSpace.lean -/

theorem setLink_kept {pq : List Instr} (s : State) (l : Link) (f : HostLink → HostLink) (hk : Kept pq s) :
    Kept pq (setLink s l f) := hk

theorem maskVector_kept {pq : List Instr} (s : State) (l : Link) (v : Fin 8) (on : Bool) (hk : Kept pq s) :
    Kept pq (maskVector s l v on) := by
  unfold maskVector
  repeat' (with_reducible first | exact hk | apply setLink_kept | apply emit_kept | apply kept_ite
                                | fail_if_no_progress refine kept_mk (kept_parts ?_) | split)

theorem writeVector_kept {pq : List Instr} (s : State) (l : Link) (off : Nat) (v : Word) (hk : Kept pq s) :
    Kept pq (writeVector s l off v) := by
  unfold writeVector
  repeat' (with_reducible first | exact hk | apply setLink_kept | apply maskVector_kept | apply kept_ite
                                | fail_if_no_progress refine kept_mk (kept_parts ?_) | split)

theorem writeBeyondWord_kept {pq : List Instr} (s : State) (l : Link) (off : Nat) (v : Word) (hk : Kept pq s) :
    Kept pq (writeBeyondWord s l off v) := by
  unfold writeBeyondWord
  repeat' (with_reducible first | exact hk | apply writeVector_kept | apply setLink_kept | apply kept_ite
                                | fail_if_no_progress refine kept_mk (kept_parts ?_) | split)

theorem writeBeyond_kept {pq : List Instr} (s : State) (l : Link) (off size : Nat) (value : DWord) (hk : Kept pq s) :
    Kept pq (writeBeyond s l off size value) := by
  unfold writeBeyond
  repeat' (with_reducible first | exact hk | apply writeBeyondWord_kept | apply kept_ite | split)

/-! ## Machine/ReqTable.lean -/

theorem shadowWord_kept {pq : List Instr} (s : State) (off : Nat) (val enabled : Word) (hk : Kept pq s) :
    Kept pq (shadowWord s off val enabled) := by
  unfold shadowWord
  repeat' (with_reducible first | exact hk | apply kept_ite | fail_if_no_progress refine kept_mk (kept_parts ?_))

theorem shadowWrite_kept {pq : List Instr} (s : State) (off size : Nat) (value : DWord) (hk : Kept pq s) :
    Kept pq (shadowWrite s off size value) := by
  unfold shadowWrite
  repeat' (with_reducible first | exact hk | apply shadowWord_kept | apply kept_ite)

theorem tableWrite_kept {pq : List Instr} (s : State) (l : Link) (off size : Nat) (value : DWord) (hk : Kept pq s) :
    Kept pq (tableWrite s l off size value) := by
  unfold tableWrite
  repeat' (with_reducible first | exact hk | apply shadowWrite_kept | apply kept_ite
                                | fail_if_no_progress refine kept_mk (kept_parts ?_))

theorem execRtShadowWrite_kept {pq : List Instr} (link : Link) (offset : Nat) (size : Nat) (value : DWord) (s : State) (hk : Kept
    pq s) :
    KeptR pq (execRtShadowWrite link offset size value s) := by
  unfold execRtShadowWrite
  repeat' (with_reducible first | exact hk | refine keptR_next ?_ | apply tableWrite_kept | apply kept_ite)

theorem commitTables_kept {pq : List Instr} (s : State) (hk : Kept pq s) : Kept pq (commitTables s) := by
  unfold commitTables
  repeat' (with_reducible first | exact hk | apply retrySlots_kept | fail_if_no_progress refine kept_mk (kept_parts ?_))

theorem commitWrite_kept {pq : List Instr} (s : State) (l : Link) (hk : Kept pq s) : Kept pq (commitWrite s l) := by
  unfold commitWrite
  repeat' (with_reducible first | exact hk | apply commitTables_kept | apply kept_ite
                                | fail_if_no_progress refine kept_mk (kept_parts ?_))

theorem execCommit_kept {pq : List Instr} (link : Link) (s : State) (hk : Kept pq s) : KeptR pq (execCommit link s) := by
  unfold execCommit
  repeat' (with_reducible first | exact hk | refine keptR_next ?_ | apply commitWrite_kept)

theorem applyWaiting_kept {pq : List Instr} : ∀ (l : List TableOp) (s : State), Kept pq s → Kept pq (applyWaiting s l)
  | [], _, hk => hk
  | .write _ off size v :: t, s, hk => applyWaiting_kept t _ (shadowWrite_kept s off size v hk)
  | .commit _ :: _, s, hk => commitTables_kept _ hk

theorem execCommitRefillEnd_kept {pq : List Instr} (s : State) (hk : Kept pq s) : KeptR pq (execCommitRefillEnd s) := by
  unfold execCommitRefillEnd
  repeat' (with_reducible first | exact hk | refine keptR_next ?_ | apply applyWaiting_kept | apply kept_ite
                                | fail_if_no_progress refine kept_mk (kept_parts ?_))

/-! ## Machine/Energy.lean -/

theorem takeSample_kept {pq : List Instr} (s : State) (milliamps : Int) (millivolts : Nat) (hk : Kept pq s) :
    Kept pq (takeSample s milliamps millivolts) := by
  unfold takeSample
  repeat' (with_reducible first | exact hk | apply integrate_kept | apply setPack_kept | apply kept_ite)

theorem execPackSample_kept {pq : List Instr} (milliamps : Int) (millivolts : Nat) (s : State) (hk : Kept pq s) :
    KeptR pq (execPackSample milliamps millivolts s) := by
  unfold execPackSample
  repeat' (with_reducible first | exact hk | refine keptR_next ?_ | apply shipReached_kept | apply taperCheck_kept
                                | apply voltageCheck_kept | apply takeSample_kept | apply kept_ite)

theorem setPackTemp_kept {pq : List Instr} (s : State) (ntc remote : Option Int) (hk : Kept pq s) :
    Kept pq (setPackTemp s ntc remote) := by
  unfold setPackTemp
  repeat' (with_reducible first | exact hk | apply setPack_kept | fail_if_no_progress refine kept_mk (kept_parts ?_) | split)

theorem tempEndsRest_kept {pq : List Instr} (s : State) (hk : Kept pq s) : Kept pq (tempEndsRest s) := by
  unfold tempEndsRest
  repeat' (with_reducible first | exact hk | apply endWindow_kept | apply setPack_kept | apply kept_ite)

theorem execPackTempSample_kept {pq : List Instr} (ntc remote : Option Int) (s : State) (hk : Kept pq s) :
    KeptR pq (execPackTempSample ntc remote s) := by
  unfold execPackTempSample
  repeat' (with_reducible first | exact hk | refine keptR_next ?_ | apply setPackTemp_kept | apply settlePack_kept
                                | apply tempEndsRest_kept | apply chargeWindow_kept | apply dischargeWindow_kept | apply kept_ite)

theorem execPackInserted_kept {pq : List Instr} (s : State) (hk : Kept pq s) : KeptR pq (execPackInserted s) := by
  unfold execPackInserted
  repeat' (with_reducible first | exact hk | refine keptR_next ?_ | apply settlePack_kept | apply setPack_kept
                                | apply kept_ite | fail_if_no_progress refine kept_mk (kept_parts ?_) | split)

theorem execPackRemoved_kept {pq : List Instr} (s : State) (hk : Kept pq s) : KeptR pq (execPackRemoved s) := by
  unfold execPackRemoved
  repeat' (with_reducible first | exact hk | refine keptR_next ?_ | apply setPack_kept | apply failPack_kept
                                | apply settlePack_kept | apply kept_ite)

theorem execPackQualified_kept {pq : List Instr} (s : State) (hk : Kept pq s) : KeptR pq (execPackQualified s) := by
  unfold execPackQualified
  repeat' (with_reducible first | exact hk | refine keptR_next ?_ | apply evalPsub_kept | apply updateCharger_kept
                                | apply setPack_kept | apply kept_ite)

theorem execImpedanceMeasure_kept {pq : List Instr} (tenthMilliohm : Nat) (s : State) (hk : Kept pq s) :
    KeptR pq (execImpedanceMeasure tenthMilliohm s) := by
  unfold execImpedanceMeasure
  repeat' (with_reducible first | exact hk | refine keptR_next ?_ | apply setPack_kept | apply failPack_kept
                                | apply settlePack_kept | apply kept_ite | fail_if_no_progress refine kept_mk (kept_parts ?_)
                                | split | dsimp only)

theorem execZeroCurrentCheck_kept {pq : List Instr} (offsetMilliamps : Int) (s : State) (hk : Kept pq s) :
    KeptR pq (execZeroCurrentCheck offsetMilliamps s) := by
  unfold execZeroCurrentCheck
  repeat' (with_reducible first | exact hk | refine keptR_next ?_ | apply setPack_kept | apply integrateFor_kept
                                | apply failPack_kept | apply settlePack_kept | apply kept_ite
                                | fail_if_no_progress refine kept_mk (kept_parts ?_) | split)

theorem execPackIdRead_kept {pq : List Instr} (first second : Option (List Byte)) (s : State) (hk : Kept pq s) :
    KeptR pq (execPackIdRead first second s) := by
  unfold execPackIdRead
  repeat' (with_reducible first | exact hk | refine keptR_next ?_ | apply identityPair_kept | apply kept_ite)

theorem execIdRead_kept {pq : List Instr} (first second : Option (List Byte)) (s : State) (hk : Kept pq s) :
    KeptR pq (execIdRead first second s) := by
  unfold execIdRead
  repeat' (with_reducible first | exact hk | refine keptR_next ?_ | apply identityPair_kept | apply touchEstimator_kept
                                | apply kept_ite)

theorem drawTest_kept {pq : List Instr} (s : State) (hk : Kept pq s) : Kept pq (drawTest s) := by
  unfold drawTest
  repeat' (with_reducible first | exact hk | apply setBank_kept | apply kept_ite
                                | fail_if_no_progress refine kept_mk (kept_parts ?_) | split)

theorem execBankSample_kept {pq : List Instr} (millivolts : Nat) (s : State) (hk : Kept pq s) :
    KeptR pq (execBankSample millivolts s) := by
  unfold execBankSample
  repeat' (with_reducible first | exact hk | refine keptR_next ?_ | apply drawTest_kept | apply setBank_kept
                                | apply shipDrained_kept | apply updateBank_kept | apply bankReturns_kept
                                | apply bankLoss_kept | apply failBank_kept | apply kept_ite
                                | fail_if_no_progress refine kept_mk (kept_parts ?_) | split)

theorem startCapTest_kept {pq : List Instr} (s : State) (hk : Kept pq s) : Kept pq (startCapTest s) := by
  unfold startCapTest
  repeat' (with_reducible first | exact hk | apply setPack_kept | apply updateBank_kept | apply setBank_kept | apply kept_ite
                                | fail_if_no_progress refine kept_mk (kept_parts ?_) | split)

theorem execCapTest_kept {pq : List Instr} (s : State) (hk : Kept pq s) : KeptR pq (execCapTest s) := by
  unfold execCapTest
  repeat' (with_reducible first | exact hk | refine keptR_next ?_ | apply startCapTest_kept)

theorem capacitance_kept {pq : List Instr} (s : State) (testI drop : Nat) (hk : Kept pq s) :
    Kept pq (capacitance s testI drop).2 := by
  unfold capacitance
  repeat' (with_reducible first | exact hk | apply kept_ite | fail_if_no_progress refine kept_mk (kept_parts ?_) | split)

theorem capacitance_keptE {pq : List Instr} {s : State} {testI drop : Nat} {ra} {rb} (hk : Kept pq s) (he : capacitance s testI
    drop = (ra, rb)) :
    Kept pq rb := by
  have := capacitance_kept (pq := pq) s testI drop hk
  rw [he] at this; exact this

theorem capResult_kept {pq : List Instr} (s : State) (b : BankSet) (leak drop : Nat) (hk : Kept pq s) :
    Kept pq (capResult s b leak drop) := by
  unfold capResult
  repeat' (with_reducible first | exact hk | apply capacitance_kept | apply setBank_kept | apply failBank_kept
                                | apply updateBank_kept | apply bankReturns_kept | apply bankLoss_kept
                                | refine capacitance_keptE ?_ (by assumption) | apply kept_ite)

theorem execCapTestComplete_kept {pq : List Instr} (leakMillivolts dropMillivolts : Nat) (s : State) (hk : Kept pq s) :
    KeptR pq (execCapTestComplete leakMillivolts dropMillivolts s) := by
  unfold execCapTestComplete
  repeat' (with_reducible first | exact hk | refine keptR_next ?_ | apply capResult_kept | apply kept_ite | split)

theorem chargerSilent_kept {pq : List Instr} (s : State) (hk : Kept pq s) : Kept pq (chargerSilent s) := by
  unfold chargerSilent
  repeat' (with_reducible first | exact hk | apply updateCharger_kept | apply logEvent_kept
                                | fail_if_no_progress refine kept_mk (kept_parts ?_))

theorem chargerStatus_kept {pq : List Instr} (s : State) (w : BitVec 16) (hk : Kept pq s) : Kept pq (chargerStatus s w) := by
  unfold chargerStatus
  repeat' (with_reducible first | exact hk | apply failPack_kept | apply settlePack_kept | apply terminateCharge_kept
                                | apply kept_ite | fail_if_no_progress refine kept_mk (kept_parts ?_))

theorem pollCharger_kept {pq : List Instr} (s : State) (status : Option (BitVec 16)) (hk : Kept pq s) :
    Kept pq (pollCharger s status) := by
  unfold pollCharger
  repeat' (with_reducible first | exact hk | apply chargerStatus_kept | apply chargerSilent_kept | apply kept_ite
                                | fail_if_no_progress refine kept_mk (kept_parts ?_) | split)

theorem execChargerStatusPoll_kept {pq : List Instr} (status : Option (BitVec 16)) (s : State) (hk : Kept pq s) :
    KeptR pq (execChargerStatusPoll status s) := by
  unfold execChargerStatusPoll
  repeat' (with_reducible first | exact hk | refine keptR_next ?_ | apply pollCharger_kept)

theorem execChargeHeld_kept {pq : List Instr} (s : State) (hk : Kept pq s) : KeptR pq (execChargeHeld s) := by
  unfold execChargeHeld
  repeat' (with_reducible first | exact hk | refine keptR_next ?_ | apply raise_kept | apply kept_ite
                                | fail_if_no_progress refine kept_mk (kept_parts ?_))

theorem execRestReference_kept {pq : List Instr} (millivolts : Nat) (s : State) (hk : Kept pq s) :
    KeptR pq (execRestReference millivolts s) := by
  unfold execRestReference
  repeat' (with_reducible first | exact hk | refine keptR_next ?_ | apply voltageReference_kept | apply setPack_kept
                                | apply endWindow_kept | apply kept_ite | fail_if_no_progress refine kept_mk (kept_parts ?_)
                                | split)

theorem execStartupReading_kept {pq : List Instr} (millivolts : Nat) (s : State) (hk : Kept pq s) :
    KeptR pq (execStartupReading millivolts s) := by
  unfold execStartupReading
  repeat' (with_reducible first | exact hk | refine keptR_next ?_ | apply updateCharger_kept | apply voltageReference_kept
                                | apply kept_ite | fail_if_no_progress refine kept_mk (kept_parts ?_) | split)

theorem execRestDue_kept {pq : List Instr} (s : State) (hk : Kept pq s) : KeptR pq (execRestDue s) := by
  unfold execRestDue
  repeat' (with_reducible first | exact hk | refine keptR_next ?_ | apply blockChanged_kept | apply setPack_kept
                                | apply raise_kept | apply kept_ite)

theorem execRestRequest_kept {pq : List Instr} (s : State) (hk : Kept pq s) : KeptR pq (execRestRequest s) := by
  unfold execRestRequest
  repeat' (with_reducible first | exact hk | refine keptR_next ?_ | apply raise_kept | apply setPack_kept | apply kept_ite)

theorem execRestWindowTimeout_kept {pq : List Instr} (s : State) (hk : Kept pq s) : KeptR pq (execRestWindowTimeout s) := by
  unfold execRestWindowTimeout
  repeat' (with_reducible first | exact hk | refine keptR_next ?_ | apply endWindow_kept | apply kept_ite)

theorem execEsbChanged_kept {pq : List Instr} (s : State) (hk : Kept pq s) : KeptR pq (execEsbChanged s) := by
  unfold execEsbChanged
  repeat' (with_reducible first | exact hk | refine keptR_next ?_ | apply raise_kept | apply setPack_kept | apply kept_ite)

theorem execEstimatorHibernate_kept {pq : List Instr} (s : State) (hk : Kept pq s) : KeptR pq (execEstimatorHibernate s) := by
  unfold execEstimatorHibernate
  repeat' (with_reducible first | exact hk | refine keptR_next ?_ | apply setPack_kept | apply kept_ite)

theorem execEstimatorWake_kept {pq : List Instr} (s : State) (hk : Kept pq s) : KeptR pq (execEstimatorWake s) := by
  unfold execEstimatorWake
  repeat' (with_reducible first | exact hk | refine keptR_next ?_ | apply setPack_kept | apply kept_ite)

theorem execShipFailed_kept {pq : List Instr} (s : State) (hk : Kept pq s) : KeptR pq (execShipFailed s) := by
  unfold execShipFailed
  repeat' (with_reducible first | exact hk | refine keptR_next ?_ | apply updateCharger_kept | apply updateBank_kept
                                | apply raise_kept | apply setPack_kept | apply kept_ite)

/-! ## Machine/Startup.lean -/

theorem execSheetTransferRetry_kept {pq : List Instr} (address : BitVec 16) (s : State) (hk : Kept pq s) :
    KeptR pq (execSheetTransferRetry address s) := by
  unfold execSheetTransferRetry
  repeat' (with_reducible first | exact hk | refine keptR_next ?_ | apply finishSheet_kept | apply kept_ite
                                | fail_if_no_progress refine kept_mk (kept_parts ?_) | split)

theorem execSheetImageRead_kept {pq : List Instr} (image : Option (List Byte)) (cleared : Option ClearOutcome) (s : State)
    (hk : Kept pq s) :
    KeptR pq (execSheetImageRead image cleared s) := by
  unfold execSheetImageRead
  repeat' (with_reducible first | exact hk | refine keptR_next ?_ | apply clearLocal_kept | apply finishSheet_kept
                                | apply kept_ite | split)

theorem lockStartup_kept {pq : List Instr} (s : State) (hk : Kept pq s) : Kept pq (lockStartup s) := hk

theorem execLock_kept {pq : List Instr} (link : Link) (s : State) (hk : Kept pq s) : KeptR pq (execLock link s) := by
  unfold execLock
  repeat' (with_reducible first | exact hk | refine keptR_next ?_ | apply lockStartup_kept | apply kept_ite)

theorem execStartupEndTimeout_kept {pq : List Instr} (s : State) (hk : Kept pq s) : KeptR pq (execStartupEndTimeout s) := by
  unfold execStartupEndTimeout
  repeat' (with_reducible first | exact hk | refine keptR_next ?_ | apply lockStartup_kept | apply kept_ite)

/-! ## Machine/Notice.lean -/

theorem execNoticeDeliver_kept {pq : List Instr} (carrier : Carrier) (s : State) (hk : Kept pq s) :
    KeptR pq (execNoticeDeliver carrier s) := by
  unfold execNoticeDeliver
  repeat' (with_reducible first | exact hk | refine keptR_next ?_ | apply sendNextNotice_kept | apply deliverNext_kept
                                | apply kept_ite | fail_if_no_progress refine kept_mk (kept_parts ?_) | split)

theorem execNoticeReannounce_kept {pq : List Instr} (seq : Word) (s : State) (hk : Kept pq s) :
    KeptR pq (execNoticeReannounce seq s) := by
  unfold execNoticeReannounce
  repeat' (with_reducible first | exact hk | refine keptR_next ?_ | assumption | apply setNotice_kept | apply signal_kept
                                | apply kept_ite | refine kept_foldl ?_ _ ?_ | intro _ _ _
                                | fail_if_no_progress refine kept_mk (kept_parts ?_) | split)

theorem execNoticeDisregarded_kept {pq : List Instr} (seq : Word) (s : State) (hk : Kept pq s) :
    KeptR pq (execNoticeDisregarded seq s) := by
  unfold execNoticeDisregarded
  repeat' (with_reducible first | exact hk | refine keptR_next ?_ | apply logEvent_kept | apply setNotice_kept | apply kept_ite
                                | fail_if_no_progress refine kept_mk (kept_parts ?_) | split)

theorem fillRing_kept {pq : List Instr} (l : Link) (s : State) (m : Notice) (hk : Kept pq s) : Kept pq (fillRing l s m) := by
  unfold fillRing
  repeat' (with_reducible first | exact hk | apply setNotice_kept | apply intoRing_kept | apply kept_ite
                                | fail_if_no_progress refine kept_mk (kept_parts ?_) | split)

theorem writeRingSize_kept {pq : List Instr} (s : State) (l : Link) (n : Nat) (hk : Kept pq s) : Kept pq (writeRingSize s l n) := by
  unfold writeRingSize
  repeat' (with_reducible first | exact hk | assumption | apply setFn_kept | apply retireDelivered_kept | apply fillRing_kept
                                | apply kept_ite | refine kept_foldl ?_ _ ?_ | intro _ _ _
                                | fail_if_no_progress refine kept_mk (kept_parts ?_) | split)

theorem execNringSizeWrite_kept {pq : List Instr} (link : Link) (value : Word) (busMaster : Bool) (s : State) (hk : Kept pq s) :
    KeptR pq (execNringSizeWrite link value busMaster s) := by
  unfold execNringSizeWrite
  repeat' (with_reducible first | exact hk | refine keptR_next ?_ | apply writeRingSize_kept
                                | fail_if_no_progress refine kept_mk (kept_parts ?_))

/-! ## Machine/DeviceBlock.lean -/

theorem noteUnaligned_kept {pq : List Instr} (s : State) (l : Link) (hk : Kept pq s) : Kept pq (noteUnaligned s l) := by
  unfold noteUnaligned
  repeat' (with_reducible first | exact hk | apply logEvent_kept | apply setFn_kept | apply kept_ite)

theorem unaligned_kept {pq : List Instr} (s : State) (l : Link) (isWrite : Bool) (off size : Nat) (hk : Kept pq s) :
    Kept pq (unaligned s l isWrite off size) := by
  unfold unaligned
  repeat' (with_reducible first | exact hk | apply noteUnaligned_kept | apply emit_kept | apply kept_ite)

theorem execUnalignedAccess_kept {pq : List Instr} (link : Link) (isWrite : Bool) (offset size : Nat) (s : State) (hk : Kept pq s) :
    KeptR pq (execUnalignedAccess link isWrite offset size s) := by
  unfold execUnalignedAccess
  repeat' (with_reducible first | exact hk | refine keptR_next ?_ | apply unaligned_kept | apply kept_ite)

theorem writeDcPd_kept {pq : List Instr} (s : State) (val en : Word) (hk : Kept pq s) : Kept pq (writeDcPd s val en) := by
  unfold writeDcPd
  repeat' (with_reducible first | exact hk | apply kept_ite | fail_if_no_progress refine kept_mk (kept_parts ?_))

theorem execDcPdWrite_kept {pq : List Instr} (link : Link) (value : Word) (s : State) (hk : Kept pq s) :
    KeptR pq (execDcPdWrite link value s) := by
  unfold execDcPdWrite
  repeat' (with_reducible first | exact hk | refine keptR_next ?_ | apply writeDcPd_kept | apply kept_ite)

theorem closePort_kept {pq : List Instr} (s : State) (l : Link) (hk : Kept pq s) : Kept pq (closePort s l) := by
  unfold closePort
  repeat' (with_reducible first | exact hk | apply endSession_kept | apply kept_ite
                                | fail_if_no_progress refine kept_mk (kept_parts ?_))

theorem writeDbg_kept {pq : List Instr} (s : State) (l : Link) (val en : Word) (hk : Kept pq s) :
    Kept pq (writeDbg s l val en) := by
  unfold writeDbg
  repeat' (with_reducible first | exact hk | apply closePort_kept | apply kept_ite
                                | fail_if_no_progress refine kept_mk (kept_parts ?_))

theorem writeRtCtl_kept {pq : List Instr} (s : State) (l : Link) (val en : Word) (hk : Kept pq s) :
    Kept pq (writeRtCtl s l val en) := by
  unfold writeRtCtl
  repeat' (with_reducible first | exact hk | apply setFn_kept | apply commitWrite_kept | apply kept_ite
                                | fail_if_no_progress refine kept_mk (kept_parts ?_))

theorem writeSnapCtl_kept {pq : List Instr} (s : State) (l : Link) (val en : Word) (hk : Kept pq s) :
    Kept pq (writeSnapCtl s l val en) := by
  unfold writeSnapCtl
  repeat' (with_reducible first | exact hk | apply setFn_kept | apply takeSnapshot_kept | apply releaseSnapshot_kept
                                | apply kept_ite)

theorem writeRing_kept {pq : List Instr} (s : State) (l : Link) (off : Nat) (val en : Word) (hk : Kept pq s) :
    Kept pq (writeRing s l off val en) := by
  unfold writeRing
  repeat' (with_reducible first | exact hk | apply setFn_kept | apply writeRingSize_kept | apply kept_ite)

theorem writeBusErrors_kept {pq : List Instr} (s : State) (off : Nat) (val en : Word) (hk : Kept pq s) :
    Kept pq (writeBusErrors s off val en) := by
  unfold writeBusErrors
  repeat' (with_reducible first | exact hk | apply kept_ite | fail_if_no_progress refine kept_mk (kept_parts ?_))

theorem writeECtl_kept {pq : List Instr} (s : State) (val en : Word) (hk : Kept pq s) : Kept pq (writeECtl s val en) := by
  unfold writeECtl
  repeat' (with_reducible first | exact hk | apply touchEstimator_kept | apply startCapTest_kept | apply kept_ite)

theorem writeLogSel_kept {pq : List Instr} (s : State) (l : Link) (val en : Word) (hk : Kept pq s) :
    Kept pq (writeLogSel s l val en) := hk

theorem writeReg_kept {pq : List Instr} (s : State) (l : Link) (off : Nat) (val en : Word) (hk : Kept pq s) :
    Kept pq (writeReg s l off val en) := by
  unfold writeReg
  repeat' (with_reducible first | exact hk | apply lockStartup_kept | apply writeECtl_kept | apply writeDcPd_kept
                                | apply writeRing_kept | apply writeLogSel_kept | apply writeSecLevel_kept | apply writeDbg_kept
                                | apply setHoldflag_kept | apply writeSnapCtl_kept | apply writeRtCtl_kept
                                | apply writeBusErrors_kept | apply kept_ite | refine kept_mk (keptP_drops ?_))

theorem writeServed_kept {pq : List Instr} (s : State) (l : Link) (off : Nat) (val en : Word) (hk : Kept pq s) :
    Kept pq (writeServed s l off val en) := by
  unfold writeServed
  repeat' (with_reducible first | exact hk | apply writeReg_kept | apply kept_ite)

theorem writeBlock_kept {pq : List Instr} (s : State) (l : Link) (off size : Nat) (value : DWord) (hk : Kept pq s) :
    Kept pq (writeBlock s l off size value) := by
  unfold writeBlock
  repeat' (with_reducible first | exact hk | apply tableWrite_kept | apply writeServed_kept | apply kept_ite)

theorem execRegisterWrite_kept {pq : List Instr} (link : Link) (offset size : Nat) (value : DWord) (s : State) (hk : Kept pq s) :
    KeptR pq (execRegisterWrite link offset size value s) := by
  unfold execRegisterWrite
  repeat' (with_reducible first | exact hk | refine keptR_next ?_ | apply writeBeyond_kept | apply writeBlock_kept
                                | apply unaligned_kept | apply kept_ite | split)

/-! ## Machine/FlashJobs.lean -/

theorem checkMirrors_kept {pq : List Instr} (s : State) (hk : Kept pq s) : Kept pq (checkMirrors s) := by
  unfold checkMirrors
  repeat' (with_reducible first | exact hk | assumption | apply mirrorFails_kept | apply kept_ite | refine kept_foldl ?_ _ ?_
                                | intro _ _ _)

theorem finishRestripe_kept {pq : List Instr} (s : State) (hk : Kept pq s) : Kept pq (finishRestripe s) := by
  unfold finishRestripe
  repeat' (with_reducible first | exact hk | apply restripeEnd_kept | apply kept_ite | split)

theorem renewMoves_kept {pq : List Instr} (s : State) (hk : Kept pq s) : Kept pq (renewMoves s) := by
  unfold renewMoves
  repeat' (with_reducible first | exact hk | assumption | apply moveBand_kept | apply kept_ite | refine kept_foldl ?_ _ ?_
                                | intro _ _ _ | fail_if_no_progress refine kept_mk (kept_parts ?_) | split)

theorem programFails_kept {pq : List Instr} (s : State) (c : Settings) (p : PageGroup) (hk : Kept pq s) :
    Kept pq (programFails s c p) := by
  unfold programFails
  repeat' (with_reducible first | exact hk | apply advanceSeal_kept | apply issueWaiting_kept | apply checkMirrors_kept
                                | apply tornPage_kept | apply retireBlockSet_kept)

theorem closeFullRow_kept {pq : List Instr} (s : State) (c : Settings) (band row : Nat) (hk : Kept pq s) :
    Kept pq (closeFullRow s c band row) := by
  unfold closeFullRow
  repeat' (with_reducible first | exact hk | apply closeRow_kept | apply kept_ite)

theorem copyPasses_kept {pq : List Instr} (s : State) (g : Nat) (hk : Kept pq s) : Kept pq (copyPasses s g) := by
  unfold copyPasses
  repeat' (with_reducible first | exact hk | apply repoint_kept | apply eraseReady_kept | apply finishRestripe_kept
                                | apply noteRestriped_kept | apply kept_ite | split)

theorem parityPasses_kept {pq : List Instr} (s : State) (band row : Nat) (hk : Kept pq s) : Kept pq (parityPasses s band row) := by
  unfold parityPasses
  repeat' (with_reducible first | exact hk | assumption | apply copyPasses_kept | refine kept_foldl ?_ _ ?_ | intro _ _ _
                                | fail_if_no_progress refine kept_mk (kept_parts ?_))

theorem chunkPasses_kept {pq : List Instr} (s : State) (p : PageGroup) (hk : Kept pq s) : Kept pq (chunkPasses s p) := hk

theorem granulePasses_kept {pq : List Instr} (s : State) (p : PageGroup) (hk : Kept pq s) : Kept pq (granulePasses s p) := by
  unfold granulePasses
  repeat' (with_reducible first | exact hk | apply kept_ite | fail_if_no_progress refine kept_mk (kept_parts ?_) | split)

theorem programPasses_kept {pq : List Instr} (s : State) (c : Settings) (p : PageGroup) (hk : Kept pq s) :
    Kept pq (programPasses s c p) := by
  unfold programPasses
  repeat' (with_reducible first | exact hk | apply parityPasses_kept | apply copyPasses_kept | apply chunkPasses_kept
                                | apply granulePasses_kept | apply advanceSeal_kept | apply issueWaiting_kept
                                | apply finishFlushes_kept | apply closeFullRow_kept | apply kept_ite
                                | fail_if_no_progress refine kept_mk (kept_parts ?_) | split)

theorem wearNotice_kept {pq : List Instr} (s : State) (c : Settings) (hk : Kept pq s) : Kept pq (wearNotice s c) := by
  unfold wearNotice
  repeat' (with_reducible first | exact hk | apply raiseClass_kept | apply kept_ite
                                | fail_if_no_progress refine kept_mk (kept_parts ?_))

theorem dropErase_kept {pq : List Instr} (s : State) (ch : FlashCh) (die : Fin 16) (idx : Nat) (hk : Kept pq s) :
    Kept pq (dropErase s ch die idx) := hk

theorem afterErase_kept {pq : List Instr} (s : State) (c : Settings) (die : Fin 16) (idx : Nat) (hk : Kept pq s) :
    Kept pq (afterErase s c die idx) := by
  unfold afterErase
  repeat' (with_reducible first | exact hk | apply dropErasedBand_kept | apply kept_ite | split)

theorem eraseEnds_kept {pq : List Instr} (s : State) (c : Settings) (ch : FlashCh) (die : Fin 16) (idx : Nat) (pass : Bool)
    (hk : Kept pq s) :
    Kept pq (eraseEnds s c ch die idx pass) := by
  unfold eraseEnds
  repeat' (with_reducible first | exact hk | apply dropErase_kept | apply setBlock_kept | apply issueWaiting_kept
                                | apply wearNotice_kept | apply eraseReady_kept | apply afterErase_kept
                                | apply checkMirrors_kept | apply retireBlockSet_kept | apply kept_ite
                                | fail_if_no_progress refine kept_mk (kept_parts ?_) | split)

theorem countTimeout_kept {pq : List Instr} (s : State) (ch : FlashCh) (die : Fin 16) (hk : Kept pq s) :
    Kept pq (countTimeout s ch die) := by
  unfold countTimeout
  repeat' (with_reducible first | exact hk | apply checkMirrors_kept | apply retireDie_kept | apply queueTest_kept
                                | apply kept_ite | fail_if_no_progress refine kept_mk (kept_parts ?_))

theorem copyTo_kept {pq : List Instr} (s : State) (c : Settings) (g : Nat) (ch : FlashCh) (low : Bool) (hk : Kept pq s) :
    Kept pq (copyTo s c g ch low) := by
  unfold copyTo
  extract_lets s1
  have h1 : Kept pq s1 := rowsFor_kept s c hk
  clear_value s1
  repeat' (with_reducible first | exact h1 | apply copyOut_kept | apply kept_ite | split)

theorem copyMoved_kept {pq : List Instr} (s : State) (c : Settings) (g : Nat) (ch : FlashCh) (r : MoveReason) (hk : Kept pq s) :
    Kept pq (copyMoved s c g ch r) := by
  unfold copyMoved
  repeat' (with_reducible first | exact hk | apply copyTo_kept | apply kept_ite | split)

theorem compactPicked_kept {pq : List Instr} (s : State) (c : Settings) (g : Nat) (ch : FlashCh) (band : Nat) (hk : Kept pq s) :
    Kept pq (compactPicked s c g ch band) := by
  unfold compactPicked
  repeat' (with_reducible first | exact hk | apply copyTo_kept | apply moveBand_kept | apply kept_ite
                                | fail_if_no_progress refine kept_mk (kept_parts ?_) | split)

theorem compactGranule_kept {pq : List Instr} (s : State) (c : Settings) (g : Nat) (ch : FlashCh) (hk : Kept pq s) :
    Kept pq (compactGranule s c g ch) := by
  unfold compactGranule
  repeat' (with_reducible first | exact hk | apply copyMoved_kept | apply compactPicked_kept | apply kept_ite | split)

theorem restripeGranule_kept {pq : List Instr} (s : State) (c : Settings) (g : Nat) (ch : FlashCh) (hk : Kept pq s) :
    Kept pq (restripeGranule s c g ch) := by
  unfold restripeGranule
  repeat' (with_reducible first | exact hk | apply copyTo_kept | apply kept_ite
                                | fail_if_no_progress refine kept_mk (kept_parts ?_) | split)

theorem wearMove_kept {pq : List Instr} (s : State) (c : Settings) (hk : Kept pq s) : Kept pq (wearMove s c) := by
  unfold wearMove
  repeat' (with_reducible first | exact hk | apply moveBand_kept | apply kept_ite | split)

theorem startRefresh_kept {pq : List Instr} (s : State) (hk : Kept pq s) : Kept pq (startRefresh s) := by
  unfold startRefresh
  repeat' (with_reducible first | exact hk | assumption | apply moveBand_kept | apply kept_ite | refine kept_foldl ?_ _ ?_
                                | intro _ _ _ | split)

theorem scrubBand_kept {pq : List Instr} (s : State) (n : Nat) (hk : Kept pq s) : Kept pq (scrubBand s n) := by
  unfold scrubBand
  repeat' (with_reducible first | exact hk | apply kept_ite | fail_if_no_progress refine kept_mk (kept_parts ?_) | split)

theorem beginCheckpoint_kept {pq : List Instr} (s : State) (hk : Kept pq s) : Kept pq (beginCheckpoint s) := by
  unfold beginCheckpoint
  repeat' (with_reducible first | exact hk | apply beginSeal_kept)

theorem sealedSave_kept {pq : List Instr} (s : State) (ok : Bool) (hk : Kept pq s) : Kept pq (sealedSave s ok) := hk

theorem sealFailed_kept {pq : List Instr} (s : State) (j : SealJob) (hk : Kept pq s) : Kept pq (sealFailed s j) := by
  unfold sealFailed
  repeat' (with_reducible first | exact hk | apply dropJob_kept | apply sealedSave_kept | apply kept_ite
                                | fail_if_no_progress refine kept_mk (kept_parts ?_) | split)

theorem otherCopy_kept {pq : List Instr} (s : State) (m : Fin 2) (hk : Kept pq s) : Kept pq (otherCopy s m) := by
  unfold otherCopy
  repeat' (with_reducible first | exact hk | apply kept_ite | fail_if_no_progress refine kept_mk (kept_parts ?_) | split)

theorem sealDone_kept {pq : List Instr} (s : State) (j : SealJob) (d : Generation) (copies : Bool × Bool) (hk : Kept pq s) :
    Kept pq (sealDone s j d copies) := by
  unfold sealDone
  repeat' (with_reducible first | exact hk | apply copySessions_kept | apply sealNow_kept | apply evalPsub_kept
                                | apply sealedSave_kept | apply beginCheckpoint_kept | apply kept_ite
                                | fail_if_no_progress refine kept_mk (kept_parts ?_) | split)

theorem sealOn_kept {pq : List Instr} (s : State) (m : Fin 2) (pass : Bool) (k : State → State) (hk : Kept pq s)
    (hs : ∀ t, Kept pq t → Kept pq (k t)) : Kept pq (sealOn s m pass k) := by
  unfold sealOn
  repeat' (with_reducible first | exact hk | apply otherCopy_kept | apply hs | apply sealDone_kept | apply mirrorFails_kept
                                | apply sealFailed_kept | apply kept_ite | fail_if_no_progress refine kept_mk (kept_parts ?_)
                                | split)

theorem flashUp_kept {pq : List Instr} (s : State) (hk : Kept pq s) : Kept pq (flashUp s) := by
  unfold flashUp
  repeat' (with_reducible first | exact hk | apply checkCapacity_kept | apply bringLog_kept
                                | fail_if_no_progress refine kept_mk (kept_parts ?_))

theorem flashStartFailed_kept {pq : List Instr} (s : State) (hk : Kept pq s) : Kept pq (flashStartFailed s) := by
  unfold flashStartFailed
  repeat' (with_reducible first | exact hk | apply enterMinimal_kept | apply raise_kept)

theorem endStep5_kept {pq : List Instr} (s : State) (hk : Kept pq s) : Kept pq (endStep5 s) := by
  unfold endStep5
  repeat' (with_reducible first | exact hk | apply flashStartFailed_kept | apply flashUp_kept | apply kept_ite
                                | fail_if_no_progress refine kept_mk (kept_parts ?_) | split)

/-! ## Machine/DramJobs.lean -/

theorem noteForced_kept {pq : List Instr} (s : State) (ch : DramCh) (r : Fin 32) (hk : Kept pq s) :
    Kept pq (noteForced s ch r) := by
  unfold noteForced
  repeat' (with_reducible first | exact hk | apply setChan_kept | apply logEvent_kept | apply kept_ite)

theorem startRetrain_kept {pq : List Instr} (s : State) (c : Settings) (ch : DramCh) (hk : Kept pq s) :
    Kept pq (startRetrain s c ch) := by
  unfold startRetrain
  repeat' (with_reducible first | exact hk | apply setChan_kept | apply setShroudMode_kept | apply kept_ite
                                | fail_if_no_progress refine kept_mk (kept_parts ?_))

theorem noteTrained_kept {pq : List Instr} (s : State) (ch : DramCh) (hk : Kept pq s) : Kept pq (noteTrained s ch) := by
  unfold noteTrained
  repeat' (with_reducible first | exact hk | apply setChan_kept | fail_if_no_progress refine kept_mk (kept_parts ?_))

theorem retryActivation_kept {pq : List Instr} (s : State) (hk : Kept pq s) : Kept pq (retryActivation s) := by
  unfold retryActivation
  repeat' (with_reducible first | exact hk | apply setFw_kept | apply finishActivate_kept | apply beginActivation_kept
                                | apply kept_ite | fail_if_no_progress refine kept_mk (kept_parts ?_) | split | dsimp only)

theorem endWhole_kept {pq : List Instr} (s : State) (ch : DramCh) (hk : Kept pq s) : Kept pq (endWhole s ch) := by
  unfold endWhole
  repeat' (with_reducible first | exact hk | apply setShroudMode_kept | apply setChan_kept | apply beginPass_kept
                                | apply kept_ite | fail_if_no_progress refine kept_mk (kept_parts ?_))

theorem stepDown_kept {pq : List Instr} (s : State) (rate : Nat) (hk : Kept pq s) : Kept pq (stepDown s rate) := by
  unfold stepDown
  repeat' (with_reducible first | exact hk | apply logEvent_kept | apply kept_ite
                                | fail_if_no_progress refine kept_mk (kept_parts ?_))

theorem dramStartFailed_kept {pq : List Instr} (s : State) (bad : List DramCh) (hk : Kept pq s) :
    Kept pq (dramStartFailed s bad) := by
  unfold dramStartFailed
  repeat' (with_reducible first | exact hk | apply enterMinimal_kept | apply raise_kept)

theorem trained_kept {pq : List Instr} (s : State) (bad : List DramCh) (hk : Kept pq s) : Kept pq (trained s bad) := by
  unfold trained
  repeat' (with_reducible first | exact hk | assumption | apply noteTrained_kept | apply setChan_kept
                                | apply trainingFails_kept | apply raise_kept | apply kept_ite | refine kept_foldl ?_ _ ?_
                                | intro _ _ _ | fail_if_no_progress refine kept_mk (kept_parts ?_) | split)

theorem endTraining_kept {pq : List Instr} (s : State) (failing : List DramCh) (hk : Kept pq s) :
    Kept pq (endTraining s failing) := by
  unfold endTraining
  repeat' (with_reducible first | exact hk | apply trained_kept | apply stepDown_kept | apply dramStartFailed_kept
                                | apply kept_ite | split)

theorem wakeChannel_kept {pq : List Instr} (s : State) (c : Settings) (ch : DramCh) (hk : Kept pq s) :
    Kept pq (wakeChannel s c ch) := by
  unfold wakeChannel
  repeat' (with_reducible first | exact hk | apply noteTrained_kept | apply setChan_kept | apply queueRetrain_kept
                                | apply kept_ite | fail_if_no_progress refine kept_mk (kept_parts ?_) | split)

theorem resumePass_kept {pq : List Instr} (s : State) (hk : Kept pq s) : Kept pq (resumePass s) := by
  unfold resumePass
  repeat' (with_reducible first | exact hk | apply endWhole_kept | apply kept_ite
                                | fail_if_no_progress refine kept_mk (kept_parts ?_) | split)

theorem wakeAll_kept {pq : List Instr} (s : State) (c : Settings) (failing : List DramCh) (hk : Kept pq s) :
    Kept pq (wakeAll s c failing) := by
  unfold wakeAll
  repeat' (with_reducible first | exact hk | assumption | apply wakeChannel_kept | apply trainingFails_kept
                                | refine kept_foldl ?_ _ ?_ | intro _ _ _)

theorem rewriteStripe_kept {pq : List Instr} (s : State) (ch : DramCh) (st : Nat) (errs : List (Nat × EccOutcome)) (hk : Kept pq s) :
    Kept pq (rewriteStripe s ch st errs) := by
  unfold rewriteStripe
  repeat' (with_reducible first | exact hk | assumption | apply touch_kept | apply eccEffect_kept | apply setParity_kept
                                | apply kept_ite | refine kept_foldl ?_ _ ?_ | intro _ _ _
                                | fail_if_no_progress refine kept_mk (kept_parts ?_) | split)

theorem copyStripeBack_kept {pq : List Instr} (s : State) (ch : DramCh) (st : Nat) (errs : List (Nat × EccOutcome)) (hk : Kept pq s) :
    Kept pq (copyStripeBack s ch st errs) := by
  unfold copyStripeBack
  repeat' (with_reducible first | exact hk | apply touch_kept | apply eccEffects_kept
                                | fail_if_no_progress refine kept_mk (kept_parts ?_) | split)

theorem passStripe_kept {pq : List Instr} (s : State) (k : PassKind) (ch : DramCh) (st : Nat) (errs : List (Nat × EccOutcome))
    (hk : Kept pq s) :
    Kept pq (passStripe s k ch st errs) := by
  unfold passStripe
  repeat' (with_reducible first | exact hk | apply copyStripeBack_kept | apply rewriteStripe_kept | apply kept_ite | split)

theorem advancePass_kept {pq : List Instr} (s : State) (errs : List (Nat × EccOutcome)) (hk : Kept pq s) :
    Kept pq (advancePass s errs) := by
  unfold advancePass
  repeat' (with_reducible first | exact hk | apply passStripe_kept | apply endPass_kept | apply kept_ite
                                | fail_if_no_progress refine kept_mk (kept_parts ?_) | split)

theorem rejoin_kept {pq : List Instr} (s : State) (ch : DramCh) (hk : Kept pq s) : Kept pq (rejoin s ch) := by
  unfold rejoin
  repeat' (with_reducible first | exact hk | apply noteTrained_kept | apply setChan_kept | apply beginPass_kept
                                | apply setShroudMode_kept | apply kept_ite
                                | fail_if_no_progress refine kept_mk (kept_parts ?_) | split)

/-! ## Machine/Flash.lean -/

theorem withSettings_kept {pq : List Instr} {s : State} {f : Settings → State} (hk : Kept pq s) (hf : ∀ c, Kept pq (f c)) :
    Kept pq (withSettings s f) := by
  unfold withSettings
  split
  · exact hf _
  · exact hk

theorem claimedFetchFails_kept {pq : List Instr} (s : State) (g : Nat) (hk : Kept pq s) : Kept pq (claimedFetchFails s g) := by
  unfold claimedFetchFails
  repeat' (first
    | with_reducible first | exact hk | assumption | apply raise_kept | apply poisonGranule_kept | apply setPresent_kept
                           | apply writeGranule_kept | apply markDirty_kept | apply dropPoison_kept | apply kept_ite
                           | refine kept_foldl ?_ _ ?_ | intro _ _ _
    | (with_reducible refine kept_mk ?_; with_reducible refine keptP_writeLine ?_; with_reducible refine kept_parts ?_)
    | fail_if_no_progress with_reducible refine kept_mk (kept_parts ?_))

theorem copyLost_kept {pq : List Instr} (s : State) (g : Nat) (hk : Kept pq s) : Kept pq (copyLost s g) := by
  unfold copyLost
  repeat' (with_reducible first | exact hk | apply markDirty_kept | apply bringIn_kept | apply kept_ite | split)

theorem execFlashReadComplete_kept {pq : List Instr} (ch : FlashCh) (die : Fin 16) (index granule : Nat)
    (outcome : DecodeOutcome) (s : State) (hk : Kept pq s) :
    KeptR pq (execFlashReadComplete ch die index granule outcome s) := by
  unfold execFlashReadComplete
  repeat' (with_reducible first | exact hk | refine keptR_next ?_ | apply startRefresh_kept | apply noteRead_kept
                                | apply mirrorFails_kept | apply waitFetch_kept | apply claimedFetchFails_kept
                                | apply copyLost_kept | apply kept_ite | fail_if_no_progress refine kept_mk (kept_parts ?_)
                                | split)

theorem execFlashProgramComplete_kept {pq : List Instr} (seq : Nat) (pass : Bool) (s : State) (hk : Kept pq s) :
    KeptR pq (execFlashProgramComplete seq pass s) := by
  unfold execFlashProgramComplete
  repeat' (with_reducible first | exact hk | refine keptR_next ?_ | apply withSettings_kept | apply programPasses_kept
                                | apply programFails_kept | apply kept_ite | intro _ | split)

theorem execMirrorRelocated_kept {pq : List Instr} (ch : FlashCh) (s : State) (hk : Kept pq s) :
    KeptR pq (execMirrorRelocated ch s) := by
  unfold execMirrorRelocated
  repeat' (with_reducible first | exact hk | refine keptR_next ?_ | apply relocateMirror_kept | apply kept_ite | split)

theorem execFlashEraseComplete_kept {pq : List Instr} (ch : FlashCh) (die : Fin 16) (index : Nat) (pass : Bool) (s : State) (hk :
    Kept pq s) :
    KeptR pq (execFlashEraseComplete ch die index pass s) := by
  unfold execFlashEraseComplete
  repeat' (with_reducible first | exact hk | refine keptR_next ?_ | apply withSettings_kept | apply eraseEnds_kept
                                | apply kept_ite | intro _)

theorem execEraseResume_kept {pq : List Instr} (ch : FlashCh) (die : Fin 16) (s : State) (hk : Kept pq s) :
    KeptR pq (execEraseResume ch die s) := by
  unfold execEraseResume
  repeat' (with_reducible first | exact hk | refine keptR_next ?_ | apply withSettings_kept | apply kept_ite | intro _
                                | fail_if_no_progress refine kept_mk (kept_parts ?_))

theorem execFlashBusyTimeout_kept {pq : List Instr} (ch : FlashCh) (die : Fin 16) (op : BusyOp) (s : State) (hk : Kept pq s) :
    KeptR pq (execFlashBusyTimeout ch die op s) := by
  unfold execFlashBusyTimeout
  repeat' (with_reducible first | exact hk | refine keptR_next ?_ | apply withSettings_kept | apply countTimeout_kept
                                | apply programFails_kept | apply issueWaiting_kept | apply eraseBroken_kept
                                | apply dropErase_kept | intro c | apply kept_ite
                                | fail_if_no_progress refine kept_mk (kept_parts ?_) | split)

theorem execRestripeCopy_kept {pq : List Instr} (granule : Nat) (ch : FlashCh) (s : State) (hk : Kept pq s) :
    KeptR pq (execRestripeCopy granule ch s) := by
  unfold execRestripeCopy
  repeat' (with_reducible first | exact hk | refine keptR_next ?_ | apply withSettings_kept | apply eraseReady_kept
                                | apply finishRestripe_kept | apply restripeGranule_kept | apply kept_ite | intro _)

theorem execFlashChannelTraining_kept {pq : List Instr} (ch : FlashCh) (badDies : List (Fin 16)) (pass : Bool) (s : State)
    (hk : Kept pq s) :
    KeptR pq (execFlashChannelTraining ch badDies pass s) := by
  unfold execFlashChannelTraining
  repeat' (with_reducible first | exact hk | refine keptR_next ?_ | assumption | apply withSettings_kept
                                | apply retireDie_kept | apply flashChannelOut_kept | apply endStep5_kept
                                | apply checkMirrors_kept | apply finishRestripe_kept | intro c | apply kept_ite
                                | refine kept_foldl ?_ _ ?_ | intro _ _ _ | fail_if_no_progress refine kept_mk (kept_parts ?_)
                                | split)

theorem execFlashTrainingRetry_kept {pq : List Instr} (ch : FlashCh) (pass : Bool) (s : State) (hk : Kept pq s) :
    KeptR pq (execFlashTrainingRetry ch pass s) := by
  unfold execFlashTrainingRetry
  repeat' (with_reducible first | exact hk | refine keptR_next ?_ | apply withSettings_kept | apply ceilingEvent_kept
                                | intro c | apply kept_ite | fail_if_no_progress refine kept_mk (kept_parts ?_) | split)

theorem execRowCloseTimeout_kept {pq : List Instr} (band row : Nat) (s : State) (hk : Kept pq s) :
    KeptR pq (execRowCloseTimeout band row s) := by
  unfold execRowCloseTimeout
  repeat' (with_reducible first | exact hk | refine keptR_next ?_ | apply withSettings_kept | apply closeRow_kept
                                | apply kept_ite | intro _)

theorem execCheckpointSeal_kept {pq : List Instr} (s : State) (hk : Kept pq s) : KeptR pq (execCheckpointSeal s) := by
  unfold execCheckpointSeal
  repeat' (with_reducible first | exact hk | refine keptR_next ?_ | apply beginCheckpoint_kept | apply restripeEnd_kept
                                | apply kept_ite | split)

theorem execCompaction_kept {pq : List Instr} (granule : Nat) (ch : FlashCh) (s : State) (hk : Kept pq s) :
    KeptR pq (execCompaction granule ch s) := by
  unfold execCompaction
  repeat' (with_reducible first | exact hk | refine keptR_next ?_ | apply withSettings_kept | apply eraseReady_kept
                                | apply compactGranule_kept | apply kept_ite | intro _)

theorem execWearLevelMove_kept {pq : List Instr} (s : State) (hk : Kept pq s) : KeptR pq (execWearLevelMove s) := by
  unfold execWearLevelMove
  repeat' (with_reducible first | exact hk | refine keptR_next ?_ | apply withSettings_kept | apply wearMove_kept
                                | apply kept_ite | intro _)

theorem execRetentionScrub_kept {pq : List Instr} (band : Nat) (s : State) (hk : Kept pq s) :
    KeptR pq (execRetentionScrub band s) := by
  unfold execRetentionScrub
  repeat' (with_reducible first | exact hk | refine keptR_next ?_ | apply withSettings_kept | apply startRefresh_kept
                                | apply scrubBand_kept | intro c | apply kept_ite | split)

theorem execRetentionDue_kept {pq : List Instr} (s : State) (hk : Kept pq s) : KeptR pq (execRetentionDue s) := by
  unfold execRetentionDue
  repeat' (with_reducible first | exact hk | refine keptR_next ?_ | apply raise_kept | apply kept_ite
                                | fail_if_no_progress refine kept_mk (kept_parts ?_))

theorem execNandBrownout_kept {pq : List Instr} (s : State) (hk : Kept pq s) : KeptR pq (execNandBrownout s) := by
  unfold execNandBrownout
  repeat' (with_reducible first | exact hk | refine keptR_next ?_ | apply nandDown_kept | apply kept_ite)

theorem recoverNand_kept {pq : List Instr} (s : State) (c : Settings) (hk : Kept pq s) : Kept pq (recoverNand s c) := by
  unfold recoverNand
  repeat' (with_reducible first | exact hk | assumption | apply breakErases_kept | apply advanceSeal_kept
                                | apply issueWaiting_kept | apply tornPage_kept | apply kept_ite | refine kept_foldl ?_ _ ?_
                                | intro _ _ _ | fail_if_no_progress refine kept_mk (kept_parts ?_) | split)

theorem execNandRailRecovery_kept {pq : List Instr} (s : State) (hk : Kept pq s) : KeptR pq (execNandRailRecovery s) := by
  unfold execNandRailRecovery
  repeat' (with_reducible first | exact hk | refine keptR_next ?_ | apply withSettings_kept | apply recoverNand_kept
                                | apply kept_ite | intro _)

theorem execEngineProgramRefused_kept {pq : List Instr} (ch : FlashCh) (die : Fin 16) (index page : Nat) (s : State) (hk : Kept pq
    s) :
    KeptR pq (execEngineProgramRefused ch die index page s) := by
  unfold execEngineProgramRefused
  repeat' (with_reducible first | exact hk | refine keptR_next ?_ | apply logEvent_kept | apply kept_ite)

/-! ## Machine/Dram.lean -/

theorem execRefreshTick_kept {pq : List Instr} (ch : DramCh) (rank : Fin 32) (accessWaiting : Bool) (s : State) (hk : Kept pq s) :
    KeptR pq (execRefreshTick ch rank accessWaiting s) := by
  unfold execRefreshTick
  repeat' (with_reducible first | exact hk | refine keptR_next ?_ | apply withSettings_kept | apply setChan_kept
                                | apply noteForced_kept | intro c | apply kept_ite
                                | fail_if_no_progress refine kept_mk (kept_parts ?_) | split)

theorem execRefreshPullIn_kept {pq : List Instr} (ch : DramCh) (rank : Fin 32) (s : State) (hk : Kept pq s) :
    KeptR pq (execRefreshPullIn ch rank s) := by
  unfold execRefreshPullIn
  repeat' (with_reducible first | exact hk | refine keptR_next ?_ | apply withSettings_kept | apply setChan_kept | apply kept_ite
                                | intro _)

theorem execMr4Poll_kept {pq : List Instr} (ch : DramCh) (above : Bool) (s : State) (hk : Kept pq s) :
    KeptR pq (execMr4Poll ch above s) := by
  unfold execMr4Poll
  repeat' (with_reducible first | exact hk | refine keptR_next ?_ | apply logEvent_kept | apply setBand2x_kept | apply kept_ite)

theorem execPowerDownEntry_kept {pq : List Instr} (ch : DramCh) (rank : Fin 4) (s : State) (hk : Kept pq s) :
    KeptR pq (execPowerDownEntry ch rank s) := by
  unfold execPowerDownEntry
  repeat' (with_reducible first | exact hk | refine keptR_next ?_ | apply withSettings_kept | apply updateIdle_kept | intro c
                                | apply kept_ite | fail_if_no_progress refine kept_mk (kept_parts ?_) | split)

theorem repairParity_kept {pq : List Instr} (s : State) (st : Nat) (hk : Kept pq s) : Kept pq (repairParity s st) := by
  unfold repairParity
  repeat' (with_reducible first | exact hk | apply logEvent_kept | apply touch_kept | apply setParity_kept | apply kept_ite
                                | fail_if_no_progress refine kept_mk (kept_parts ?_) | split)

theorem scrubCount_kept {pq : List Instr} (s : State) (ch : DramCh) (n : Nat) (hk : Kept pq s) : Kept pq (scrubCount s ch n) := by
  unfold scrubCount
  repeat' (with_reducible first | exact hk | apply setChan_kept | apply kept_ite
                                | fail_if_no_progress refine kept_mk (kept_parts ?_) | split)

theorem scrubStripes_kept {pq : List Instr} (s : State) (ch : DramCh) (sts mismatch : List Nat) (errs : List
    (Nat × EccOutcome)) (hk : Kept pq s) :
    Kept pq (scrubStripes s ch sts mismatch errs) := by
  unfold scrubStripes
  repeat' (with_reducible first | exact hk | assumption | apply touch_kept | apply scrubCount_kept | apply eccEffects_kept
                                | apply repairParity_kept | refine kept_foldl ?_ _ ?_ | intro _ _ _)

theorem execPatrolScrub_kept {pq : List Instr} (ch : DramCh) (rank : Fin 4) (stripes mismatch : List Nat) (errs : List
    (Nat × EccOutcome)) (s : State) (hk : Kept pq s) :
    KeptR pq (execPatrolScrub ch rank stripes mismatch errs s) := by
  unfold execPatrolScrub
  repeat' (with_reducible first | exact hk | refine keptR_next ?_ | apply withSettings_kept | apply setChan_kept
                                | apply scrubStripes_kept | intro c | apply kept_ite
                                | fail_if_no_progress refine kept_mk (kept_parts ?_) | split)

theorem execScrubWake_kept {pq : List Instr} (ch : DramCh) (rank : Fin 4) (mismatch : List Nat) (errs : List
    (Nat × EccOutcome)) (s : State) (hk : Kept pq s) :
    KeptR pq (execScrubWake ch rank mismatch errs s) := by
  unfold execScrubWake
  repeat' (with_reducible first | exact hk | refine keptR_next ?_ | apply setChan_kept | apply updateIdle_kept
                                | apply scrubStripes_kept | apply kept_ite
                                | fail_if_no_progress refine kept_mk (kept_parts ?_) | split)

theorem execZqCalibration_kept {pq : List Instr} (ch : DramCh) (rank : Fin 4) (s : State) (hk : Kept pq s) :
    KeptR pq (execZqCalibration ch rank s) := by
  unfold execZqCalibration
  repeat' (with_reducible first | exact hk | refine keptR_next ?_ | apply withSettings_kept | apply setChan_kept | apply kept_ite
                                | intro _)

theorem execDqsOscCalibration_kept {pq : List Instr} (ch : DramCh) (rank : Fin 4) (drift : Bool) (s : State) (hk : Kept pq s) :
    KeptR pq (execDqsOscCalibration ch rank drift s) := by
  unfold execDqsOscCalibration
  repeat' (with_reducible first | exact hk | refine keptR_next ?_ | apply withSettings_kept | apply setChan_kept | apply kept_ite
                                | intro _)

theorem execReadCenteringTrack_kept {pq : List Instr} (ch : DramCh) (rank : Fin 4) (s : State) (hk : Kept pq s) :
    KeptR pq (execReadCenteringTrack ch rank s) := by
  unfold execReadCenteringTrack
  repeat' (with_reducible first | exact hk | refine keptR_next ?_ | apply withSettings_kept | apply setChan_kept | apply kept_ite
                                | intro _)

theorem replayWrites_kept {pq : List Instr} (s : State) (ch : DramCh) (hk : Kept pq s) : Kept pq (replayWrites s ch) := by
  unfold replayWrites
  repeat' (with_reducible first | exact hk | assumption | apply touch_kept | apply setParity_kept | apply kept_ite
                                | refine kept_foldl ?_ _ ?_ | intro _ _ _ | split)

theorem execWriteCrcError_kept {pq : List Instr} (ch : DramCh) (row : RowId) (column : Nat) (s : State) (hk : Kept pq s) :
    KeptR pq (execWriteCrcError ch row column s) := by
  unfold execWriteCrcError
  repeat' (with_reducible first | exact hk | refine keptR_next ?_ | apply logDram_kept | apply queueRetrain_kept
                                | apply setChan_kept | apply countCrc_kept | apply replayWrites_kept | apply kept_ite
                                | fail_if_no_progress refine kept_mk (kept_parts ?_) | split)

theorem execChannelRetrainStart_kept {pq : List Instr} (s : State) (hk : Kept pq s) : KeptR pq (execChannelRetrainStart s) := by
  unfold execChannelRetrainStart
  repeat' (with_reducible first | exact hk | refine keptR_next ?_ | apply withSettings_kept | apply startRetrain_kept
                                | intro c | apply kept_ite | fail_if_no_progress refine kept_mk (kept_parts ?_) | split)

theorem execRetrainSlice_kept {pq : List Instr} (ch : DramCh) (s : State) (hk : Kept pq s) : KeptR pq (execRetrainSlice ch s) := by
  unfold execRetrainSlice
  repeat' (with_reducible first | exact hk | refine keptR_next ?_ | apply withSettings_kept | apply setChan_kept | apply kept_ite
                                | intro _)

theorem execChannelRetrainComplete_kept {pq : List Instr} (ch : DramCh) (pass : Bool) (s : State) (hk : Kept pq s) :
    KeptR pq (execChannelRetrainComplete ch pass s) := by
  unfold execChannelRetrainComplete
  repeat' (with_reducible first | exact hk | refine keptR_next ?_ | apply setChan_kept | apply noteTrained_kept
                                | apply trainingFails_kept | apply retryActivation_kept | apply endWhole_kept | apply kept_ite
                                | fail_if_no_progress refine kept_mk (kept_parts ?_) | split)

theorem execLineTestComplete_kept {pq : List Instr} (ch : DramCh) (row : RowId) (column : Nat) (pass : Bool) (device : Fin 10) (s :
    State) (hk : Kept pq s) :
    KeptR pq (execLineTestComplete ch row column pass device s) := by
  unfold execLineTestComplete
  repeat' (with_reducible first | exact hk | refine keptR_next ?_ | apply endTest_kept | apply countTransient_kept
                                | apply retireRow_kept | apply kept_ite | split)

theorem execRowTestComplete_kept {pq : List Instr} (ch : DramCh) (row : RowId) (pass : Bool) (device : Fin 10)
    (twoGroups : Bool) (s : State) (hk : Kept pq s) :
    KeptR pq (execRowTestComplete ch row pass device twoGroups s) := by
  unfold execRowTestComplete
  repeat' (with_reducible first | exact hk | refine keptR_next ?_ | apply endTest_kept | apply countTransient_kept
                                | apply retireRow_kept | apply markDevice_kept | apply kept_ite
                                | fail_if_no_progress refine kept_mk (kept_parts ?_) | split)

theorem execChannelPatternTestComplete_kept {pq : List Instr} (ch : DramCh) (pass : Bool) (s : State) (hk : Kept pq s) :
    KeptR pq (execChannelPatternTestComplete ch pass s) := by
  unfold execChannelPatternTestComplete
  repeat' (with_reducible first | exact hk | refine keptR_next ?_ | apply endTest_kept | apply countTransient_kept
                                | apply channelOut_kept | apply kept_ite | split)

theorem execDramTrainingComplete_kept {pq : List Instr} (failing : List DramCh) (s : State) (hk : Kept pq s) :
    KeptR pq (execDramTrainingComplete failing s) := by
  unfold execDramTrainingComplete
  repeat' (with_reducible first | exact hk | refine keptR_next ?_ | apply withSettings_kept | apply endStep5_kept
                                | apply wakeAll_kept | apply endTraining_kept | apply kept_ite | intro _)

theorem execChannelTrainingRetry_kept {pq : List Instr} (ch : DramCh) (pass : Bool) (s : State) (hk : Kept pq s) :
    KeptR pq (execChannelTrainingRetry ch pass s) := by
  unfold execChannelTrainingRetry
  repeat' (with_reducible first | exact hk | refine keptR_next ?_ | apply rejoin_kept | apply logDram_kept
                                | apply setChan_kept | apply kept_ite | fail_if_no_progress refine kept_mk (kept_parts ?_)
                                | split)

/-! ## Machine/Engines.lean -/

theorem execMastheadWatchdogExpiry_kept {pq : List Instr} (s : State) (hk : Kept pq s) :
    KeptR pq (execMastheadWatchdogExpiry s) := by
  unfold execMastheadWatchdogExpiry
  repeat' (with_reducible first | exact hk | refine keptR_next ?_ | apply startRevert_kept | apply kept_ite)

theorem execEngineException_kept {pq : List Instr} (engine : EngineId) (s : State) (hk : Kept pq s) :
    KeptR pq (execEngineException engine s) := by
  unfold execEngineException
  repeat' (with_reducible first | exact hk | refine keptR_next ?_ | apply countTransient_kept | apply setEngine_kept
                                | apply queueTest_kept | apply startRevert_kept | apply kept_ite)

theorem execEngineBistComplete_kept {pq : List Instr} (engine : EngineId) (pass : Bool) (s : State) (hk : Kept pq s) :
    KeptR pq (execEngineBistComplete engine pass s) := by
  unfold execEngineBistComplete
  repeat' (with_reducible first | exact hk | refine keptR_next ?_ | apply endTest_kept | apply setEngine_kept
                                | apply checkMirrors_kept | apply failEngine_kept | apply kept_ite
                                | fail_if_no_progress refine kept_mk (kept_parts ?_) | split)

/-! ## Machine/FaultTest.lean -/

theorem testedSet_kept {pq : List Instr} (s : State) (c : Settings) (ch : FlashCh) (die : Fin 16) (idx : Nat) (hk : Kept pq s) :
    Kept pq (testedSet s c ch die idx) := by
  unfold testedSet
  repeat' (with_reducible first | exact hk | apply setBlock_kept | fail_if_no_progress refine kept_mk (kept_parts ?_) | split)

theorem execBlockTestComplete_kept {pq : List Instr} (ch : FlashCh) (die : Fin 16) (index : Nat) (pass : Bool) (s : State) (hk :
    Kept pq s) :
    KeptR pq (execBlockTestComplete ch die index pass s) := by
  unfold execBlockTestComplete
  repeat' (with_reducible first | exact hk | refine keptR_next ?_ | apply endTest_kept | apply testedSet_kept
                                | apply countTransient_kept | apply checkMirrors_kept | apply retireBlockSet_kept
                                | apply wearNotice_kept | apply afterErase_kept | apply kept_ite | split)

theorem execDieTestComplete_kept {pq : List Instr} (ch : FlashCh) (die : Fin 16) (pass : Bool) (s : State) (hk : Kept pq s) :
    KeptR pq (execDieTestComplete ch die pass s) := by
  unfold execDieTestComplete
  repeat' (with_reducible first | exact hk | refine keptR_next ?_ | apply endTest_kept | apply countTransient_kept
                                | apply checkMirrors_kept | apply retireDie_kept | apply kept_ite
                                | fail_if_no_progress refine kept_mk (kept_parts ?_) | split)

theorem execModuleYearEnd_kept {pq : List Instr} (s : State) (hk : Kept pq s) : KeptR pq (execModuleYearEnd s) := by
  unfold execModuleYearEnd
  repeat' (with_reducible first | exact hk | refine keptR_next ?_ | apply logEvent_kept | apply kept_ite
                                | fail_if_no_progress refine kept_mk (kept_parts ?_))

/-! ## Machine/Halyard.lean -/

theorem setPort_kept {pq : List Instr} (s : State) (up : Bool) (f : HyPort → HyPort) (hk : Kept pq s) :
    Kept pq (setPort s up f) := hk

theorem heard_kept {pq : List Instr} (s : State) (up : Bool) (hk : Kept pq s) : Kept pq (heard s up) := hk

theorem checkPosition_kept {pq : List Instr} (s : State) (up : Bool) (v position : Nat) (hk : Kept pq s) :
    Kept pq (checkPosition s up v position) := by
  unfold checkPosition
  repeat' (with_reducible first | exact hk | apply raise_kept | apply kept_ite)

theorem execHello_kept {pq : List Instr} (up : Bool) (versions : Word) (position _chainLen : Nat) (_part : BitVec 16)
    (_fwVersion : Word) (s : State) (hk : Kept pq s) :
    KeptR pq (execHello up versions position _chainLen _part _fwVersion s) := by
  unfold execHello
  repeat' (with_reducible first | exact hk | refine keptR_next ?_ | apply logEvent_kept | apply checkPosition_kept
                                | apply setPort_kept | apply sendCredit_kept | apply kept_ite
                                | fail_if_no_progress refine kept_mk (kept_parts ?_) | split)

theorem afterSave_kept {pq : List Instr} (s : State) (hk : Kept pq s) : Kept pq (afterSave s) := by
  unfold afterSave
  repeat' (with_reducible first | exact hk | apply sendRelay_kept | apply sendCredit_kept | apply kept_ite | split)

theorem execHelloTimer_kept {pq : List Instr} (s : State) (hk : Kept pq s) : KeptR pq (execHelloTimer s) := by
  unfold execHelloTimer
  repeat' (with_reducible first | exact hk | refine keptR_next ?_ | apply afterSave_kept | apply emit_kept | apply kept_ite
                                | split)

theorem loseDownstream_kept {pq : List Instr} (s : State) (hk : Kept pq s) : Kept pq (loseDownstream s) := hk

theorem execHalyardPortDown_kept {pq : List Instr} (up : Bool) (s : State) (hk : Kept pq s) :
    KeptR pq (execHalyardPortDown up s) := by
  unfold execHalyardPortDown
  repeat' (with_reducible first | exact hk | refine keptR_next ?_ | apply raise_kept | apply setPort_kept
                                | apply checkChainDone_kept | apply checkReport_kept | apply sendStatus_kept
                                | apply loseDownstream_kept | apply kept_ite)

theorem execHalyardFrameTimeout_kept {pq : List Instr} (up : Bool) (s : State) (hk : Kept pq s) :
    KeptR pq (execHalyardFrameTimeout up s) := by
  unfold execHalyardFrameTimeout
  repeat' (with_reducible first | exact hk | refine keptR_next ?_ | apply setPort_kept | apply kept_ite
                                | fail_if_no_progress refine kept_mk (kept_parts ?_) | split)

theorem applyChunk_kept {pq : List Instr} (s : State) (k : HyChunk) (hk : Kept pq s) : Kept pq (applyChunk s k) := by
  unfold applyChunk
  repeat' (with_reducible first | exact hk | apply sendStatus_kept | apply refuseFw_kept | apply stageChunk_kept
                                | apply logIgnoredLock_kept | apply kept_ite)

theorem takeChunk_kept {pq : List Instr} (s : State) (k : HyChunk) (hk : Kept pq s) : Kept pq (takeChunk s k) := by
  unfold takeChunk
  repeat' (with_reducible first | exact hk | apply sendCredit_kept | apply setFw_kept | apply relayIn_kept
                                | apply applyChunk_kept | apply kept_ite)

theorem execChunk_kept {pq : List Instr} (package offset total crc : Word) (data : List Byte) (s : State) (hk : Kept pq s) :
    KeptR pq (execChunk package offset total crc data s) := by
  unfold execChunk
  repeat' (with_reducible first | exact hk | refine keptR_next ?_ | apply heard_kept | apply setPort_kept | apply takeChunk_kept
                                | apply kept_ite)

theorem execCredit_kept {pq : List Instr} (resumeAt : Word) (credits : Nat) (s : State) (hk : Kept pq s) :
    KeptR pq (execCredit resumeAt credits s) := by
  unfold execCredit
  repeat' (with_reducible first | exact hk | refine keptR_next ?_ | apply heard_kept | apply setFw_kept | apply sendRelay_kept
                                | apply kept_ite)

theorem execActivate_kept {pq : List Instr} (package : Word) (s : State) (hk : Kept pq s) : KeptR pq (execActivate package s) := by
  unfold execActivate
  repeat' (with_reducible first | exact hk | refine keptR_next ?_ | apply activatePackage_kept | apply setFw_kept
                                | apply heard_kept | apply crocusRestart_kept | apply sendActivate_kept
                                | refine activatePackage_keptE ?_ (by assumption) | apply kept_ite)

theorem execStatus_kept {pq : List Instr} (entries : List (Nat × Nat × Nat)) (s : State) (hk : Kept pq s) :
    KeptR pq (execStatus entries s) := by
  unfold execStatus
  repeat' (with_reducible first | exact hk | refine keptR_next ?_ | assumption | apply setFw_kept | apply heard_kept
                                | apply checkChainDone_kept | apply checkReport_kept | apply sendStatus_kept | apply kept_ite)

theorem execChainReportTimeout_kept {pq : List Instr} (s : State) (hk : Kept pq s) : KeptR pq (execChainReportTimeout s) := by
  unfold execChainReportTimeout
  repeat' (with_reducible first | exact hk | refine keptR_next ?_ | apply setFw_kept | apply checkChainDone_kept
                                | apply finishReport_kept | apply sendStatus_kept | apply kept_ite
                                | fail_if_no_progress refine kept_mk (kept_parts ?_) | split)

/-! ## Machine/HostMem.lean -/

theorem receiveMem_kept {pq : List Instr} (s : State) (link : Link) (tag : Nat) (requester : Option (BitVec 12)) (hpa : Nat)
    (isWrite : Bool) (data : Line) (enables : DWord) (poison : Bool) (ecc : EccOutcome) (hk : Kept pq s) :
    Kept pq (receiveMem s link tag requester hpa isWrite data enables poison ecc) := by
  unfold receiveMem
  repeat' (with_reducible first | exact hk | apply trained_kept | apply logEvent_kept | apply emit_kept | apply enterSlot_kept
                                | apply kept_ite | fail_if_no_progress refine kept_mk (kept_parts ?_) | split)

theorem execCxlMemRead_kept {pq : List Instr} (link : Link) (tag : Nat) (requester : Option (BitVec 12)) (hpa : Nat) (ecc :
    EccOutcome) (s : State) (hk : Kept pq s) :
    KeptR pq (execCxlMemRead link tag requester hpa ecc s) := by
  unfold execCxlMemRead
  repeat' (with_reducible first | exact hk | refine keptR_next ?_ | apply receiveMem_kept)

theorem execCxlMemWrite_kept {pq : List Instr} (link : Link) (tag : Nat) (requester : Option (BitVec 12)) (hpa : Nat)
    (data : Line) (enables : DWord) (poison : Bool) (ecc : EccOutcome) (s : State) (hk : Kept pq s) :
    KeptR pq (execCxlMemWrite link tag requester hpa data enables poison ecc s) := by
  unfold execCxlMemWrite
  repeat' (with_reducible first | exact hk | refine keptR_next ?_ | apply receiveMem_kept)

theorem execDemandFetchComplete_kept {pq : List Instr} (granule : Nat) (outcome : DecodeOutcome) (micros : Nat) (s : State) (hk :
    Kept pq s) :
    KeptR pq (execDemandFetchComplete granule outcome micros s) := by
  unfold execDemandFetchComplete
  repeat' (with_reducible first | exact hk | refine keptR_next ?_ | apply endFetch_kept)

theorem execWriteBufferDrain_kept {pq : List Instr} (line : Nat) (s : State) (hk : Kept pq s) :
    KeptR pq (execWriteBufferDrain line s) := by
  unfold execWriteBufferDrain
  repeat' (with_reducible first | exact hk | refine keptR_next ?_ | apply drainLine_kept | split)

theorem execWriteBufferRelease_kept {pq : List Instr} (line : Nat) (s : State) (hk : Kept pq s) :
    KeptR pq (execWriteBufferRelease line s) := by
  unfold execWriteBufferRelease
  repeat' (with_reducible first | exact hk | refine keptR_next ?_ | apply setChan_kept | apply releaseLine_kept
                                | apply kept_ite | fail_if_no_progress refine kept_mk (kept_parts ?_) | split)

theorem execStagingEntryClose_kept {pq : List Instr} (stripe : Nat) (s : State) (hk : Kept pq s) :
    KeptR pq (execStagingEntryClose stripe s) := by
  unfold execStagingEntryClose
  repeat' (with_reducible first | exact hk | refine keptR_next ?_ | apply closeStaging_kept)

theorem execHeldWriteAdmit_kept {pq : List Instr} (link : Link) (tag : Nat) (s : State) (hk : Kept pq s) :
    KeptR pq (execHeldWriteAdmit link tag s) := by
  unfold execHeldWriteAdmit
  repeat' (with_reducible first | exact hk | refine keptR_next ?_ | apply admitSlot_kept
                                | fail_if_no_progress refine kept_mk (kept_parts ?_) | split)

/-! ## Machine/Thermal.lean -/

theorem execDieSiteSample_kept {pq : List Instr} (readings : List (Option Int)) (s : State) (hk : Kept pq s) :
    KeptR pq (execDieSiteSample readings s) := by
  unfold execDieSiteSample
  repeat' (with_reducible first | exact hk | refine keptR_next ?_ | assumption | apply afterSamples_kept | apply sampleSite_kept
                                | apply kept_ite | refine kept_foldl ?_ _ ?_ | intro _ _ _ | split)

theorem notePointer_kept {pq : List Instr} (s : State) (i : Site) (ok : Bool) (hk : Kept pq s) : Kept pq (notePointer s i ok) := hk

theorem execSensorReadmit_kept {pq : List Instr} (site : Site) (s : State) (hk : Kept pq s) :
    KeptR pq (execSensorReadmit site s) := by
  unfold execSensorReadmit
  repeat' (with_reducible first | exact hk | refine keptR_next ?_ | apply noteCrossings_kept | apply checkMinimums_kept
                                | apply setSite_kept | apply kept_ite | fail_if_no_progress refine kept_mk (kept_parts ?_)
                                | split)

theorem execSensorRereadComplete_kept {pq : List Instr} (site : Site) (anyPlausible : Bool) (s : State) (hk : Kept pq s) :
    KeptR pq (execSensorRereadComplete site anyPlausible s) := by
  unfold execSensorRereadComplete
  repeat' (with_reducible first | exact hk | refine keptR_next ?_ | apply endTest_kept | apply countTransient_kept
                                | apply setSite_kept | apply checkMinimums_kept | apply raise_kept | apply kept_ite
                                | fail_if_no_progress refine kept_mk (kept_parts ?_) | split)

theorem setDramReef_kept {pq : List Instr} (s : State) (ch : DramCh) (b : Bool) (hk : Kept pq s) : Kept pq (setDramReef s ch b) := by
  unfold setDramReef
  repeat' (with_reducible first | exact hk | fail_if_no_progress refine kept_mk (kept_parts ?_))

theorem setNandBand_kept {pq : List Instr} (s : State) (ch : FlashCh) (f : NandBand → NandBand) (hk : Kept pq s) :
    Kept pq (setNandBand s ch f) := hk

theorem nandBandChange_kept {pq : List Instr} (s : State) (ch : FlashCh) (f : NandBand → NandBand) (hk : Kept pq s) :
    Kept pq (nandBandChange s ch f) := hk

theorem bandChange_kept {pq : List Instr} (s : State) (edge : BandEdge) (entering : Bool) (hk : Kept pq s) :
    Kept pq (bandChange s edge entering) := by
  unfold bandChange
  repeat' (with_reducible first | exact hk | apply tripSave_kept | apply setTrip_kept | apply setBand2x_kept
                                | apply setDramReef_kept | apply nandBandChange_kept | apply setNandBand_kept | apply kept_ite
                                | fail_if_no_progress refine kept_mk (kept_parts ?_) | split)

theorem execThermalBandDwell_kept {pq : List Instr} (edge : BandEdge) (entering : Bool) (s : State) (hk : Kept pq s) :
    KeptR pq (execThermalBandDwell edge entering s) := by
  unfold execThermalBandDwell
  repeat' (with_reducible first | exact hk | refine keptR_next ?_ | apply bandChange_kept | apply kept_ite | split)

theorem reefNotice_kept {pq : List Instr} (s : State) (cause old new : Nat) (m : Option Int) (hk : Kept pq s) :
    Kept pq (reefNotice s cause old new m) := by
  unfold reefNotice
  repeat' (with_reducible first | exact hk | apply raise_kept | apply kept_ite | fail_if_no_progress refine kept_mk (kept_parts ?_))

theorem execReefLevelStep_kept {pq : List Instr} (s : State) (hk : Kept pq s) : KeptR pq (execReefLevelStep s) := by
  unfold execReefLevelStep
  repeat' (with_reducible first | exact hk | refine keptR_next ?_ | apply reefNotice_kept | apply kept_ite
                                | fail_if_no_progress refine kept_mk (kept_parts ?_) | split)

theorem execAonBackstopTrip_kept {pq : List Instr} (s : State) (hk : Kept pq s) : KeptR pq (execAonBackstopTrip s) := by
  unfold execAonBackstopTrip
  repeat' (with_reducible first | exact hk | refine keptR_next ?_ | apply setTrip_kept | apply recordTrip_kept
                                | apply beginShutdown_kept | apply kept_ite | fail_if_no_progress refine kept_mk (kept_parts ?_))

theorem execAonSite0Sample_kept {pq : List Instr} (temp : Int) (s : State) (hk : Kept pq s) :
    KeptR pq (execAonSite0Sample temp s) := by
  unfold execAonSite0Sample
  repeat' (with_reducible first | exact hk | refine keptR_next ?_ | apply tryStart_kept | apply kept_ite
                                | fail_if_no_progress refine kept_mk (kept_parts ?_))

theorem execEmergencyStandbyExit_kept {pq : List Instr} (s : State) (hk : Kept pq s) : KeptR pq (execEmergencyStandbyExit s) := by
  unfold execEmergencyStandbyExit
  repeat' (with_reducible first | exact hk | refine keptR_next ?_ | apply startBoot_kept | apply kept_ite)

/-! ## Machine/LocalBus.lean -/

theorem execLbAlertUnmask_kept {pq : List Instr} (s : State) (hk : Kept pq s) : KeptR pq (execLbAlertUnmask s) := by
  unfold execLbAlertUnmask
  repeat' (with_reducible first | exact hk | refine keptR_next ?_ | apply setLb_kept | apply kept_ite)

theorem regulatorSilent_kept {pq : List Instr} (s : State) (r : Rail) (hk : Kept pq s) : Kept pq (regulatorSilent s r) := by
  unfold regulatorSilent
  repeat' (with_reducible first | exact hk | apply logEvent_kept | apply setLb_kept)

theorem pollRegulator_kept {pq : List Instr} (s : State) (rail : Rail) (status : Option (BitVec 16)) (hk : Kept pq s) :
    Kept pq (pollRegulator s rail status) := by
  unfold pollRegulator
  repeat' (with_reducible first | exact hk | apply regulatorSilent_kept | apply logEvent_kept | apply setLb_kept
                                | apply kept_ite | fail_if_no_progress refine kept_mk (kept_parts ?_) | split)

theorem execRegulatorPoll_kept {pq : List Instr} (rail : Rail) (status : Option (BitVec 16)) (s : State) (hk : Kept pq s) :
    KeptR pq (execRegulatorPoll rail status s) := by
  unfold execRegulatorPoll
  repeat' (with_reducible first | exact hk | refine keptR_next ?_ | apply pollRegulator_kept)

theorem readRemote_kept {pq : List Instr} (s : State) (r : Site × Option (BitVec 16)) (hk : Kept pq s) :
    Kept pq (readRemote s r) := by
  unfold readRemote
  repeat' (with_reducible first | exact hk | apply setLb_kept | apply sampleSite_kept | apply notePointer_kept
                                | apply kept_ite | fail_if_no_progress refine kept_mk (kept_parts ?_) | split)

theorem serviceAlert_kept {pq : List Instr} (s : State) (r : BitVec 7 × Option (BitVec 16)) (hk : Kept pq s) :
    Kept pq (serviceAlert s r) := by
  unfold serviceAlert
  repeat' (with_reducible first | exact hk | apply readRemote_kept | apply pollCharger_kept | apply pollRegulator_kept
                                | apply kept_ite | fail_if_no_progress refine kept_mk (kept_parts ?_) | split)

theorem takeAlerts_kept {pq : List Instr} (s : State) (reads : List (BitVec 7 × Option (BitVec 16))) (low : Bool) (hk : Kept pq s) :
    Kept pq (takeAlerts s reads low) := by
  unfold takeAlerts
  have h : Kept pq (reads.foldl serviceAlert s) := kept_foldl (fun s r h => serviceAlert_kept s r h) _ hk
  generalize reads.foldl serviceAlert s = t at h
  refine kept_ite hk ?_
  dsimp only
  split
  · exact logEvent_kept _ _ _ _ (setLb_kept _ _ h)
  · exact h

theorem execLocalBusCycle_kept {pq : List Instr} (readings : List (Site × Option (BitVec 16))) (araReads : List
    (BitVec 7 × Option (BitVec 16))) (alertLow : Bool) (window skipped : Nat) (s : State) (hk : Kept pq s) :
    KeptR pq (execLocalBusCycle readings araReads alertLow window skipped s) := by
  unfold execLocalBusCycle
  repeat' (with_reducible first | exact hk | refine keptR_next ?_ | assumption | apply takeAlerts_kept | apply readRemote_kept
                                | apply afterSamples_kept | apply kept_ite | refine kept_foldl ?_ _ ?_ | intro _ _ _
                                | fail_if_no_progress refine kept_mk (kept_parts ?_) | split)

theorem localFailed_kept {pq : List Instr} (s : State) (a : BitVec 7) (hk : Kept pq s) : Kept pq (localFailed s a) := by
  unfold localFailed
  repeat' (with_reducible first | exact hk | apply failedRead_kept | apply notePointer_kept | apply chargerSilent_kept
                                | apply identityPair_kept | apply regulatorSilent_kept | apply kept_ite
                                | fail_if_no_progress refine kept_mk (kept_parts ?_) | split)

theorem localTimeout_kept {pq : List Instr} (s : State) (a : BitVec 7) (c : ClearOutcome) (hk : Kept pq s) :
    Kept pq (localTimeout s a c) := by
  unfold localTimeout
  repeat' (with_reducible first | exact hk | apply logEvent_kept | apply setLb_kept | apply clearLocal_kept
                                | apply localFailed_kept | apply kept_ite | fail_if_no_progress refine kept_mk (kept_parts ?_)
                                | split)

theorem smbusTimeout_kept {pq : List Instr} (s : State) (a : BitVec 7) (c : ClearOutcome) (hk : Kept pq s) :
    Kept pq (smbusTimeout s a c) := by
  unfold smbusTimeout
  repeat' (with_reducible first | exact hk | apply logEvent_kept | apply setSmb_kept | apply clearSmbus_kept
                                | apply failTransfer_kept | apply kept_ite
                                | fail_if_no_progress refine kept_mk (kept_parts ?_) | split)

theorem execClockStretchTimeout_kept {pq : List Instr} (local_ : Bool) (address : BitVec 7) (cleared : ClearOutcome) (s : State)
    (hk : Kept pq s) :
    KeptR pq (execClockStretchTimeout local_ address cleared s) := by
  unfold execClockStretchTimeout
  repeat' (with_reducible first | exact hk | refine keptR_next ?_ | apply localTimeout_kept | apply smbusTimeout_kept
                                | apply kept_ite)

theorem execBusClearRetry_kept {pq : List Instr} (local_ : Bool) (cleared : ClearOutcome) (s : State) (hk : Kept pq s) :
    KeptR pq (execBusClearRetry local_ cleared s) := by
  unfold execBusClearRetry
  repeat' (with_reducible first | exact hk | refine keptR_next ?_ | apply clearLocal_kept | apply setLb_kept
                                | apply clearSmbus_kept | apply setSmb_kept | apply kept_ite
                                | fail_if_no_progress refine kept_mk (kept_parts ?_) | split)

/-! ## Machine/Mailbox.lean -/

theorem throughMailbox_kept {pq : List Instr} (s : State) (l : Link) (c : Instr) (f : State) (hk : Kept pq s) (hf : Kept pq f) :
    Kept pq (throughMailbox s l c f) := by
  unfold throughMailbox
  with_reducible refine kept_ite hk (kept_ite hf (kept_mk (kept_parts hk)))

theorem withMetadata_kept {pq : List Instr} (s : State) (l : Link) (f : State) (hk : Kept pq s) (hf : Kept pq f) :
    Kept pq (withMetadata s l f) := by
  unfold withMetadata
  exact kept_ite (emit_kept _ _ hk) (kept_ite (emit_kept _ _ hk) hf)

theorem doSetShutdownState_kept {pq : List Instr} (link : Link) (dirty : Bool) (s : State) (hk : Kept pq s) :
    Kept pq (doSetShutdownState link dirty s) := by
  unfold doSetShutdownState
  repeat' (with_reducible first | exact hk | apply withMetadata_kept | apply emit_kept
                                | fail_if_no_progress refine kept_mk (kept_parts ?_))

theorem execSetShutdownState_kept {pq : List Instr} (link : Link) (dirty : Bool) (s : State) (hk : Kept pq s) :
    KeptR pq (execSetShutdownState link dirty s) := by
  unfold execSetShutdownState
  repeat' (with_reducible first | exact hk | refine keptR_next ?_ | apply throughMailbox_kept | apply doSetShutdownState_kept)

theorem doGetHealthInfo_kept {pq : List Instr} (link : Link) (s : State) (hk : Kept pq s) : Kept pq (doGetHealthInfo link s) := by
  unfold doGetHealthInfo
  repeat' (with_reducible first | exact hk | apply withMetadata_kept | apply emit_kept
                                | fail_if_no_progress refine kept_mk (kept_parts ?_))

theorem execGetHealthInfo_kept {pq : List Instr} (link : Link) (s : State) (hk : Kept pq s) :
    KeptR pq (execGetHealthInfo link s) := by
  unfold execGetHealthInfo
  repeat' (with_reducible first | exact hk | refine keptR_next ?_ | apply throughMailbox_kept | apply doGetHealthInfo_kept)

theorem doGetPoisonList_kept {pq : List Instr} (link : Link) (first : Nat) (length : Nat) (s : State) (hk : Kept pq s) :
    Kept pq (doGetPoisonList link first length s) := by
  unfold doGetPoisonList
  repeat' (with_reducible first | exact hk | apply withMetadata_kept | apply emit_kept
                                | fail_if_no_progress refine kept_mk (kept_parts ?_))

theorem execGetPoisonList_kept {pq : List Instr} (link : Link) (first : Nat) (length : Nat) (s : State) (hk : Kept pq s) :
    KeptR pq (execGetPoisonList link first length s) := by
  unfold execGetPoisonList
  repeat' (with_reducible first | exact hk | refine keptR_next ?_ | apply throughMailbox_kept | apply doGetPoisonList_kept)

theorem writeClean_kept {pq : List Instr} (s : State) (line : Nat) (data : Line) (hk : Kept pq s) :
    Kept pq (writeClean s line data) := by
  unfold writeClean
  repeat' (with_reducible first | exact hk | apply zeroFill_kept | apply startFetch_kept | apply waitFetch_kept
                                | apply dropPoison_kept | apply kept_ite | fail_if_no_progress refine kept_mk (kept_parts ?_)
                                | split)

theorem doClearPoison_kept {pq : List Instr} (link : Link) (dpa : Nat) (data : Line) (s : State) (hk : Kept pq s) :
    Kept pq (doClearPoison link dpa data s) := by
  unfold doClearPoison
  repeat' (with_reducible first | exact hk | apply withMetadata_kept | apply emit_kept | apply writeClean_kept
                                | apply kept_ite | split)

theorem execClearPoison_kept {pq : List Instr} (link : Link) (dpa : Nat) (data : Line) (s : State) (hk : Kept pq s) :
    KeptR pq (execClearPoison link dpa data s) := by
  unfold execClearPoison
  repeat' (with_reducible first | exact hk | refine keptR_next ?_ | apply throughMailbox_kept | apply doClearPoison_kept)

theorem doInjectPoison_kept {pq : List Instr} (link : Link) (dpa : Nat) (s : State) (hk : Kept pq s) :
    Kept pq (doInjectPoison link dpa s) := by
  unfold doInjectPoison
  repeat' (with_reducible first | exact hk | apply withMetadata_kept | apply emit_kept | apply addPoison_kept | apply kept_ite
                                | fail_if_no_progress refine kept_mk (kept_parts ?_) | split)

theorem execInjectPoison_kept {pq : List Instr} (link : Link) (dpa : Nat) (s : State) (hk : Kept pq s) :
    KeptR pq (execInjectPoison link dpa s) := by
  unfold execInjectPoison
  repeat' (with_reducible first | exact hk | refine keptR_next ?_ | apply throughMailbox_kept | apply doInjectPoison_kept)

theorem doGetFwInfo_kept {pq : List Instr} (link : Link) (s : State) (hk : Kept pq s) : Kept pq (doGetFwInfo link s) := by
  unfold doGetFwInfo
  repeat' (with_reducible first | exact hk | apply emit_kept)

theorem execGetFwInfo_kept {pq : List Instr} (link : Link) (s : State) (hk : Kept pq s) : KeptR pq (execGetFwInfo link s) := by
  unfold execGetFwInfo
  repeat' (with_reducible first | exact hk | refine keptR_next ?_ | apply throughMailbox_kept | apply doGetFwInfo_kept)

theorem doLabelStorageWrite_kept {pq : List Instr} (link : Link) (offset : Nat) (data : List Byte) (s : State) (hk : Kept pq s) :
    Kept pq (doLabelStorageWrite link offset data s) := by
  unfold doLabelStorageWrite
  repeat' (with_reducible first | exact hk | assumption | apply withMetadata_kept | apply emit_kept | apply kept_ite
                                | refine kept_foldl ?_ _ ?_ | intro _ _ _ | fail_if_no_progress refine kept_mk (kept_parts ?_)
                                | split)

theorem execLabelStorageWrite_kept {pq : List Instr} (link : Link) (offset : Nat) (data : List Byte) (s : State) (hk : Kept pq s) :
    KeptR pq (execLabelStorageWrite link offset data s) := by
  unfold execLabelStorageWrite
  repeat' (with_reducible first | exact hk | refine keptR_next ?_ | apply throughMailbox_kept | apply doLabelStorageWrite_kept)

theorem runMailbox_kept {pq : List Instr} (s : State) (c : Instr) (hk : Kept pq s) : Kept pq (runMailbox s c) := by
  unfold runMailbox
  split
  · exact doSetShutdownState_kept _ _ _ hk
  · exact doGetHealthInfo_kept _ _ hk
  · exact doGetPoisonList_kept _ _ _ _ hk
  · exact doClearPoison_kept _ _ _ _ hk
  · exact doInjectPoison_kept _ _ _ hk
  · exact doGetFwInfo_kept _ _ hk
  · exact doLabelStorageWrite_kept _ _ _ _ hk
  · exact hk

theorem serveMailbox_kept {pq : List Instr} (s : State) (l : Link) (hk : Kept pq s) : Kept pq (serveMailbox s l) := by
  unfold serveMailbox
  split
  · exact kept_ite (runMailbox_kept _ _ (kept_mk (kept_parts hk))) (kept_ite hk (kept_mk (kept_parts hk)))
  · exact hk

theorem execSpareSwapComplete_kept {pq : List Instr} (engine : EngineId) (s : State) (hk : Kept pq s) :
    KeptR pq (execSpareSwapComplete engine s) := by
  unfold execSpareSwapComplete
  repeat' (with_reducible first | exact hk | refine keptR_next ?_ | assumption | apply runHeld_kept | apply serveMailbox_kept
                                | apply endSwap_kept | refine kept_foldl ?_ _ ?_ | intro _ _ _)

/-! ## Machine/Persist.lean -/

theorem execCeilingUpdate_kept {pq : List Instr} (s : State) (hk : Kept pq s) : KeptR pq (execCeilingUpdate s) := by
  unfold execCeilingUpdate
  repeat' (with_reducible first | exact hk | refine keptR_next ?_ | apply loopUpdate_kept | apply kept_ite | split)

theorem execHeatHalving_kept {pq : List Instr} (s : State) (hk : Kept pq s) : KeptR pq (execHeatHalving s) := by
  unfold execHeatHalving
  repeat' (with_reducible first | exact hk | refine keptR_next ?_ | apply halveHeat_kept | apply kept_ite)

theorem execFlushIssue_kept {pq : List Instr} (ch : FlashCh) (errs : List (Nat × EccOutcome)) (s : State) (hk : Kept pq s) :
    KeptR pq (execFlushIssue ch errs s) := by
  unfold execFlushIssue
  repeat' (with_reducible first | exact hk | refine keptR_next ?_ | apply flushOn_kept | apply issueWaiting_kept)

theorem execDirtyNowRefresh_kept {pq : List Instr} (s : State) (hk : Kept pq s) : KeptR pq (execDirtyNowRefresh s) := by
  unfold execDirtyNowRefresh
  repeat' (with_reducible first | exact hk | refine keptR_next ?_ | apply kept_ite
                                | fail_if_no_progress refine kept_mk (kept_parts ?_))

/-! ## Machine/Qmp.lean -/

theorem execGrantRest_kept {pq : List Instr} (hdr : QmpHdr) (s : State) (hk : Kept pq s) : KeptR pq (execGrantRest hdr s) := by
  unfold execGrantRest
  repeat' (with_reducible first | exact hk | refine keptR_next ?_ | apply receive_kept)

theorem execEsbGet_kept {pq : List Instr} (hdr : QmpHdr) (s : State) (hk : Kept pq s) : KeptR pq (execEsbGet hdr s) := by
  unfold execEsbGet
  repeat' (with_reducible first | exact hk | refine keptR_next ?_ | apply receive_kept)

theorem execEsbRestore_kept {pq : List Instr} (hdr : QmpHdr) (block : List Byte) (s : State) (hk : Kept pq s) :
    KeptR pq (execEsbRestore hdr block s) := by
  unfold execEsbRestore
  repeat' (with_reducible first | exact hk | refine keptR_next ?_ | apply receive_kept)

theorem execShipMode_kept {pq : List Instr} (hdr : QmpHdr) (s : State) (hk : Kept pq s) : KeptR pq (execShipMode hdr s) := by
  unfold execShipMode
  repeat' (with_reducible first | exact hk | refine keptR_next ?_ | apply receive_kept)

theorem execSaveAndOff_kept {pq : List Instr} (hdr : QmpHdr) (s : State) (hk : Kept pq s) : KeptR pq (execSaveAndOff hdr s) := by
  unfold execSaveAndOff
  repeat' (with_reducible first | exact hk | refine keptR_next ?_ | apply receive_kept)

theorem execClearTrip_kept {pq : List Instr} (hdr : QmpHdr) (s : State) (hk : Kept pq s) : KeptR pq (execClearTrip hdr s) := by
  unfold execClearTrip
  repeat' (with_reducible first | exact hk | refine keptR_next ?_ | apply receive_kept)

theorem execClearRailLatch_kept {pq : List Instr} (hdr : QmpHdr) (s : State) (hk : Kept pq s) :
    KeptR pq (execClearRailLatch hdr s) := by
  unfold execClearRailLatch
  repeat' (with_reducible first | exact hk | refine keptR_next ?_ | apply receive_kept)

theorem execNegotiate_kept {pq : List Instr} (hdr : QmpHdr) (versions tag : Word) (flags : Byte) (chunkMs : BitVec 16) (s : State)
    (hk : Kept pq s) :
    KeptR pq (execNegotiate hdr versions tag flags chunkMs s) := by
  unfold execNegotiate
  repeat' (with_reducible first | exact hk | refine keptR_next ?_ | apply receive_kept)

theorem execNegotiateClose_kept {pq : List Instr} (hdr : QmpHdr) (s : State) (hk : Kept pq s) :
    KeptR pq (execNegotiateClose hdr s) := by
  unfold execNegotiateClose
  repeat' (with_reducible first | exact hk | refine keptR_next ?_ | apply receive_kept)

theorem execPersistStatus_kept {pq : List Instr} (hdr : QmpHdr) (s : State) (hk : Kept pq s) :
    KeptR pq (execPersistStatus hdr s) := by
  unfold execPersistStatus
  repeat' (with_reducible first | exact hk | refine keptR_next ?_ | apply receive_kept)

theorem execLogRead_kept {pq : List Instr} (hdr : QmpHdr) (start count : Word) (s : State) (hk : Kept pq s) :
    KeptR pq (execLogRead hdr start count s) := by
  unfold execLogRead
  repeat' (with_reducible first | exact hk | refine keptR_next ?_ | apply receive_kept)

theorem execLastwordsRead_kept {pq : List Instr} (hdr : QmpHdr) (start count : Byte) (s : State) (hk : Kept pq s) :
    KeptR pq (execLastwordsRead hdr start count s) := by
  unfold execLastwordsRead
  repeat' (with_reducible first | exact hk | refine keptR_next ?_ | apply receive_kept)

theorem execFwChunk_kept {pq : List Instr} (hdr : QmpHdr) (package offset total crc rsv : Word) (data : List Byte) (s : State) (hk
    : Kept pq s) :
    KeptR pq (execFwChunk hdr package offset total crc rsv data s) := by
  unfold execFwChunk
  repeat' (with_reducible first | exact hk | refine keptR_next ?_ | apply receive_kept)

theorem execFwActivate_kept {pq : List Instr} (hdr : QmpHdr) (package : Word) (flags : Byte) (s : State) (hk : Kept pq s) :
    KeptR pq (execFwActivate hdr package flags s) := by
  unfold execFwActivate
  repeat' (with_reducible first | exact hk | refine keptR_next ?_ | apply receive_kept)

theorem execFwLockSet_kept {pq : List Instr} (hdr : QmpHdr) (s : State) (hk : Kept pq s) : KeptR pq (execFwLockSet hdr s) := by
  unfold execFwLockSet
  repeat' (with_reducible first | exact hk | refine keptR_next ?_ | apply receive_kept)

theorem execFwLockClear_kept {pq : List Instr} (hdr : QmpHdr) (s : State) (hk : Kept pq s) : KeptR pq (execFwLockClear hdr s) := by
  unfold execFwLockClear
  repeat' (with_reducible first | exact hk | refine keptR_next ?_ | apply receive_kept)

theorem execSelftest_kept {pq : List Instr} (hdr : QmpHdr) (target : Byte) (index : BitVec 16) (s : State) (hk : Kept pq s) :
    KeptR pq (execSelftest hdr target index s) := by
  unfold execSelftest
  repeat' (with_reducible first | exact hk | refine keptR_next ?_ | apply receive_kept)

theorem execDebugChallenge_kept {pq : List Instr} (hdr : QmpHdr) (s : State) (hk : Kept pq s) :
    KeptR pq (execDebugChallenge hdr s) := by
  unfold execDebugChallenge
  repeat' (with_reducible first | exact hk | refine keptR_next ?_ | apply receive_kept)

theorem execDebugResponse_kept {pq : List Instr} (hdr : QmpHdr) (signature : List Byte) (verifies : Bool) (s : State) (hk : Kept pq
    s) :
    KeptR pq (execDebugResponse hdr signature verifies s) := by
  unfold execDebugResponse
  repeat' (with_reducible first | exact hk | refine keptR_next ?_ | apply receive_kept)

theorem execNoticeAck_kept {pq : List Instr} (hdr : QmpHdr) (first last : Word) (s : State) (hk : Kept pq s) :
    KeptR pq (execNoticeAck hdr first last s) := by
  unfold execNoticeAck
  repeat' (with_reducible first | exact hk | refine keptR_next ?_ | apply receive_kept)

theorem wholeMessage_kept {pq : List Instr} (s : State) (c : Carrier) (source : BitVec 16) (bytes : List Byte) (verifies : Bool)
    (hk : Kept pq s) :
    Kept pq (wholeMessage s c source bytes verifies) := by
  unfold wholeMessage
  repeat' (with_reducible first | exact hk | apply receiveOp_kept | apply kept_ite)

theorem dropPartial_kept {pq : List Instr} (s : State) (c : Carrier) (source : BitVec 16) (tag : Nat) (hk : Kept pq s) :
    Kept pq (dropPartial s c source tag) := hk

theorem takePacket_kept {pq : List Instr} (s : State) (c : Carrier) (source : BitVec 16) (som eom : Bool) (seq : Fin 4) (tag : Nat)
    (payload : List Byte) (verifies : Bool) (hk : Kept pq s) :
    Kept pq (takePacket s c source som eom seq tag payload verifies) := by
  unfold takePacket
  repeat' (with_reducible first | exact hk | apply dropPartial_kept | apply wholeMessage_kept | apply setQmp_kept
                                | apply kept_ite | fail_if_no_progress refine kept_mk (kept_parts ?_) | split | dsimp only)

theorem execMctpPacket_kept {pq : List Instr} (carrier : Carrier) (source : BitVec 16) (command : Byte) (rate : Fin 3) (som eom :
    Bool) (seq : Fin 4) (tag : Nat) (pecOk : Bool) (payload : List Byte) (verifies : Bool) (s : State) (hk : Kept pq s) :
    KeptR pq (execMctpPacket carrier source command rate som eom seq tag pecOk payload verifies s) := by
  unfold execMctpPacket
  repeat' (with_reducible first | exact hk | refine keptR_next ?_ | apply takePacket_kept | apply dropPartial_kept
                                | apply setSmb_kept | apply completeSmb_kept | apply kept_ite
                                | fail_if_no_progress refine kept_mk (kept_parts ?_) | split)

theorem execMctpMessageTimeout_kept {pq : List Instr} (carrier : Carrier) (s : State) (hk : Kept pq s) :
    KeptR pq (execMctpMessageTimeout carrier s) := by
  unfold execMctpMessageTimeout
  repeat' (with_reducible first | exact hk | refine keptR_next ?_ | apply setQmp_kept)

/-! ## Machine/Rails.lean -/

theorem execAonPowerOnReset_kept {pq : List Instr} (straps : Byte) (aux : Bool) (smbus : Option ClearOutcome) (s : State)
    (hk : Kept pq s) :
    KeptR pq (execAonPowerOnReset straps aux smbus s) := by
  unfold execAonPowerOnReset
  repeat' (with_reducible first | exact hk | refine keptR_next ?_ | apply aonLost_kept | apply tryStart_kept
                                | apply clearSmbus_kept | apply kept_ite | fail_if_no_progress refine kept_mk (kept_parts ?_)
                                | split)

theorem execAonPowerLoss_kept {pq : List Instr} (s : State) (hk : Kept pq s) : KeptR pq (execAonPowerLoss s) := by
  unfold execAonPowerLoss
  repeat' (with_reducible first | exact hk | refine keptR_next ?_ | apply aonLost_kept | apply kept_ite)

theorem execAuxInputRemoved_kept {pq : List Instr} (s : State) (hk : Kept pq s) : KeptR pq (execAuxInputRemoved s) := by
  unfold execAuxInputRemoved
  repeat' (with_reducible first | exact hk | refine keptR_next ?_ | apply aonLost_kept | apply kept_ite
                                | fail_if_no_progress refine kept_mk (kept_parts ?_))

theorem afterInputFall_kept {pq : List Instr} (s : State) (hk : Kept pq s) : Kept pq (afterInputFall s) := by
  unfold afterInputFall
  repeat' (with_reducible first | exact hk | apply kept_ite | fail_if_no_progress refine kept_mk (kept_parts ?_))

theorem inputIsGood_kept {pq : List Instr} (s : State) (straps : Byte) (hk : Kept pq s) : Kept pq (inputIsGood s straps) := hk

theorem execInputQualified_kept {pq : List Instr} (straps : Byte) (s : State) (hk : Kept pq s) :
    KeptR pq (execInputQualified straps s) := by
  unfold execInputQualified
  repeat' (with_reducible first | exact hk | refine keptR_next ?_ | apply tryStart_kept | apply inputIsGood_kept
                                | apply afterInputFall_kept | apply beginInterval_kept | apply kept_ite)

theorem retryNotice_kept {pq : List Instr} (s : State) (r : Rail) (hk : Kept pq s) : Kept pq (retryNotice s r) := by
  unfold retryNotice
  repeat' (with_reducible first | exact hk | apply raise_kept | apply kept_ite)

theorem execRailQualified_kept {pq : List Instr} (rail : Rail) (halfMs : Nat) (s : State) (hk : Kept pq s) :
    KeptR pq (execRailQualified rail halfMs s) := by
  unfold execRailQualified
  repeat' (with_reducible first | exact hk | refine keptR_next ?_ | apply setRail_kept | apply sequenceNext_kept
                                | apply retryNotice_kept | apply recoverRail_kept | apply kept_ite
                                | fail_if_no_progress refine kept_mk (kept_parts ?_))

theorem failToCome_kept {pq : List Instr} (s : State) (r : Rail) (hk : Kept pq s) : Kept pq (failToCome s r) := by
  unfold failToCome
  repeat' (with_reducible first | exact hk | apply setRail_kept | apply beginShutdown_kept
                                | fail_if_no_progress refine kept_mk (kept_parts ?_) | split | dsimp only)

theorem execRailTimeout_kept {pq : List Instr} (rail : Rail) (s : State) (hk : Kept pq s) : KeptR pq (execRailTimeout rail s) := by
  unfold execRailTimeout
  repeat' (with_reducible first | exact hk | refine keptR_next ?_ | apply setRail_kept | apply failToCome_kept
                                | apply kept_ite | fail_if_no_progress refine kept_mk (kept_parts ?_) | split)

theorem execRailRetryReenable_kept {pq : List Instr} (rail : Rail) (s : State) (hk : Kept pq s) :
    KeptR pq (execRailRetryReenable rail s) := by
  unfold execRailRetryReenable
  repeat' (with_reducible first | exact hk | refine keptR_next ?_ | apply enableRail_kept | apply kept_ite | split)

theorem execPgFall_kept {pq : List Instr} (rail : Rail) (s : State) (hk : Kept pq s) : KeptR pq (execPgFall rail s) := by
  unfold execPgFall
  repeat' (with_reducible first | exact hk | refine keptR_next ?_ | apply logEvent_kept | apply setRail_kept | apply kept_ite)

theorem execRailFault_kept {pq : List Instr} (rail : Rail) (s : State) (hk : Kept pq s) : KeptR pq (execRailFault rail s) := by
  unfold execRailFault
  repeat' (with_reducible first | exact hk | refine keptR_next ?_ | apply faultRail_kept | apply kept_ite)

theorem execRailRecoveryTimeout_kept {pq : List Instr} (rail : Rail) (s : State) (hk : Kept pq s) :
    KeptR pq (execRailRecoveryTimeout rail s) := by
  unfold execRailRecoveryTimeout
  repeat' (with_reducible first | exact hk | refine keptR_next ?_ | apply react_kept | apply setRail_kept | apply kept_ite)

theorem execIgnoreFaultNotice_kept {pq : List Instr} (rail : Rail) (s : State) (hk : Kept pq s) :
    KeptR pq (execIgnoreFaultNotice rail s) := by
  unfold execIgnoreFaultNotice
  repeat' (with_reducible first | exact hk | refine keptR_next ?_ | apply railFaultNotice_kept | apply setRail_kept
                                | apply kept_ite)

theorem execGroupResequence_kept {pq : List Instr} (group : Fin 3) (s : State) (hk : Kept pq s) :
    KeptR pq (execGroupResequence group s) := by
  unfold execGroupResequence
  repeat' (with_reducible first | exact hk | refine keptR_next ?_ | apply beginSequence_kept | apply groupBack_kept
                                | apply kept_ite | fail_if_no_progress refine kept_mk (kept_parts ?_) | split)

theorem execResetReactionRestart_kept {pq : List Instr} (s : State) (hk : Kept pq s) : KeptR pq (execResetReactionRestart s) := by
  unfold execResetReactionRestart
  repeat' (with_reducible first | exact hk | refine keptR_next ?_ | apply beginInterval_kept | apply startBoot_kept
                                | apply enterStandby_kept | apply kept_ite
                                | fail_if_no_progress refine kept_mk (kept_parts ?_) | split)

theorem execRailDownStep_kept {pq : List Instr} (s : State) (hk : Kept pq s) : KeptR pq (execRailDownStep s) := by
  unfold execRailDownStep
  repeat' (with_reducible first | exact hk | refine keptR_next ?_ | apply downStep_kept | apply kept_ite)

/-! ## Machine/Restore.lean -/

theorem formatPath_kept {pq : List Instr} (s : State) (c : Settings) (hk : Kept pq s) : Kept pq (formatPath s c) := by
  unfold formatPath
  repeat' (with_reducible first | exact hk | apply beginFormat_kept | apply rollBack_kept | apply chosen_kept)

theorem execGenerationSelect_kept {pq : List Instr} (s : State) (hk : Kept pq s) : KeptR pq (execGenerationSelect s) := by
  unfold execGenerationSelect
  repeat' (with_reducible first | exact hk | refine keptR_next ?_ | apply formatPath_kept | apply useGeneration_kept
                                | apply granMismatch_kept | apply kept_ite | split)

theorem poisonLostEntries_kept {pq : List Instr} (s : State) (hk : Kept pq s) : Kept pq (poisonLostEntries s) := by
  unfold poisonLostEntries
  repeat' (with_reducible first | exact hk | apply poisonLost_kept)

theorem loadImage_kept {pq : List Instr} (s : State) (g : Generation) (unreadable : List Nat) (hk : Kept pq s) :
    Kept pq (loadImage s g unreadable) := by
  unfold loadImage
  repeat' (with_reducible first | exact hk | assumption | apply poisonLostEntries_kept | apply raise_kept | apply kept_ite
                                | refine kept_foldl ?_ _ ?_ | intro _ _ _ | fail_if_no_progress refine kept_mk (kept_parts ?_)
                                | split)

theorem beginRestore_kept {pq : List Instr} (s : State) (hk : Kept pq s) : Kept pq (beginRestore s) := by
  unfold beginRestore
  repeat' (with_reducible first | exact hk | apply kept_ite | fail_if_no_progress refine kept_mk (kept_parts ?_) | split)

theorem execManifestLoadComplete_kept {pq : List Instr} (unreadable : List Nat) (s : State) (hk : Kept pq s) :
    KeptR pq (execManifestLoadComplete unreadable s) := by
  unfold execManifestLoadComplete
  repeat' (with_reducible first | exact hk | refine keptR_next ?_ | apply loadImage_kept | apply beginRestore_kept
                                | apply mergeAon_kept | apply setQmp_kept | apply runHeld_kept | apply renewMoves_kept
                                | apply beginCheckpoint_kept | apply endRestore_kept | apply step9_kept | apply kept_ite
                                | fail_if_no_progress refine kept_mk (kept_parts ?_) | split)

theorem execBackgroundRestoreGranule_kept {pq : List Instr} (s : State) (hk : Kept pq s) :
    KeptR pq (execBackgroundRestoreGranule s) := by
  unfold execBackgroundRestoreGranule
  repeat' (with_reducible first | exact hk | refine keptR_next ?_ | apply kept_ite
                                | fail_if_no_progress refine kept_mk (kept_parts ?_) | split)

theorem execRestoreGranuleComplete_kept {pq : List Instr} (granule : Nat) (outcome : DecodeOutcome) (s : State) (hk : Kept pq s) :
    KeptR pq (execRestoreGranuleComplete granule outcome s) := by
  unfold execRestoreGranuleComplete
  repeat' (with_reducible first | exact hk | refine keptR_next ?_ | apply bringIn_kept | apply noteCopyRead_kept
                                | apply kept_ite | fail_if_no_progress refine kept_mk (kept_parts ?_) | split)

theorem execRestoreSlow_kept {pq : List Instr} (s : State) (hk : Kept pq s) : KeptR pq (execRestoreSlow s) := by
  unfold execRestoreSlow
  repeat' (with_reducible first | exact hk | refine keptR_next ?_ | apply raise_kept | apply kept_ite
                                | fail_if_no_progress refine kept_mk (kept_parts ?_))

theorem allDirty_kept {pq : List Instr} (s : State) (hk : Kept pq s) : Kept pq (allDirty s) := hk

theorem retainedService_kept {pq : List Instr} (s : State) (hk : Kept pq s) : Kept pq (retainedService s) := by
  unfold retainedService
  repeat' (with_reducible first | exact hk | apply debugReturns_kept | apply hold_kept | apply beginService_kept
                                | apply runHeld_kept | apply renewMoves_kept | apply resumePass_kept | apply kept_ite
                                | fail_if_no_progress refine kept_mk (kept_parts ?_) | split)

theorem notRetained_kept {pq : List Instr} (s : State) (hk : Kept pq s) : Kept pq (notRetained s) := by
  unfold notRetained
  repeat' (with_reducible first | exact hk | apply dramGone_kept | apply setShroudMode_kept
                                | fail_if_no_progress refine kept_mk (kept_parts ?_))

theorem execRetainedPathCheck_kept {pq : List Instr} (bitmapOk settingsOk : Bool) (s : State) (hk : Kept pq s) :
    KeptR pq (execRetainedPathCheck bitmapOk settingsOk s) := by
  unfold execRetainedPathCheck
  repeat' (with_reducible first | exact hk | refine keptR_next ?_ | apply notRetained_kept | apply retainedService_kept
                                | apply ceilingEvent_kept | apply allDirty_kept | apply kept_ite)

/-! ## Machine/Save.lean -/

theorem endReset_kept {pq : List Instr} (s : State) (t : Trigger) (hk : Kept pq s) : Kept pq (endReset s t) := by
  unfold endReset
  repeat' (with_reducible first | exact hk | apply resumeBoot_kept | apply holdTrigger_kept | apply kept_ite
                                | fail_if_no_progress refine kept_mk (kept_parts ?_) | split)

theorem inputTrigger_kept {pq : List Instr} (s : State) (t : Trigger) (hk : Kept pq s) : Kept pq (inputTrigger s t) := by
  unfold inputTrigger
  repeat' (with_reducible first | exact hk | apply endReset_kept | apply triggerSave_kept | apply kept_ite | split)

theorem execPfNFall_kept {pq : List Instr} (s : State) (hk : Kept pq s) : KeptR pq (execPfNFall s) := by
  unfold execPfNFall
  repeat' (with_reducible first | exact hk | refine keptR_next ?_ | apply inputTrigger_kept
                                | fail_if_no_progress refine kept_mk (kept_parts ?_))

theorem execVinSenseDrop_kept {pq : List Instr} (s : State) (hk : Kept pq s) : KeptR pq (execVinSenseDrop s) := by
  unfold execVinSenseDrop
  repeat' (with_reducible first | exact hk | refine keptR_next ?_ | apply inputTrigger_kept
                                | fail_if_no_progress refine kept_mk (kept_parts ?_))

theorem beginFlush_kept {pq : List Instr} (s : State) (hk : Kept pq s) : Kept pq (beginFlush s) := hk

theorem execVinSenseHoldUp_kept {pq : List Instr} (s : State) (hk : Kept pq s) : KeptR pq (execVinSenseHoldUp s) := by
  unfold execVinSenseHoldUp
  repeat' (with_reducible first | exact hk | refine keptR_next ?_ | apply assertHold_kept | apply goOver_kept | apply kept_ite
                                | fail_if_no_progress refine kept_mk (kept_parts ?_))

theorem beginStores_kept {pq : List Instr} (s : State) (hk : Kept pq s) : Kept pq (beginStores s) := by
  unfold beginStores
  repeat' (with_reducible first | exact hk | apply switchOver_kept | apply beginFlush_kept | apply kept_ite
                                | fail_if_no_progress refine kept_mk (kept_parts ?_) | split)

theorem execSaveIsolate_kept {pq : List Instr} (s : State) (hk : Kept pq s) : KeptR pq (execSaveIsolate s) := by
  unfold execSaveIsolate
  repeat' (with_reducible first | exact hk | refine keptR_next ?_ | apply idleLinks_kept | apply beginStores_kept
                                | apply switchRailOff_kept | apply kept_ite | fail_if_no_progress refine kept_mk (kept_parts ?_))

theorem execSaveRegulationConfirmed_kept {pq : List Instr} (s : State) (hk : Kept pq s) :
    KeptR pq (execSaveRegulationConfirmed s) := by
  unfold execSaveRegulationConfirmed
  repeat' (with_reducible first | exact hk | refine keptR_next ?_ | apply beginFlush_kept | apply kept_ite
                                | fail_if_no_progress refine kept_mk (kept_parts ?_) | split)

theorem feedEstimator_kept {pq : List Instr} (s : State) (drawn : Nat) (hk : Kept pq s) : Kept pq (feedEstimator s drawn) := by
  unfold feedEstimator
  repeat' (with_reducible first | exact hk | apply countDrawn_kept | apply kept_ite | split)

theorem execChargeMarkCheck_kept {pq : List Instr} (drawn : Nat) (s : State) (hk : Kept pq s) :
    KeptR pq (execChargeMarkCheck drawn s) := by
  unfold execChargeMarkCheck
  repeat' (with_reducible first | exact hk | refine keptR_next ?_ | apply feedEstimator_kept | apply checkOverrun_kept
                                | apply stopFlush_kept | apply kept_ite | fail_if_no_progress refine kept_mk (kept_parts ?_)
                                | split)

theorem dropStore_kept {pq : List Instr} (s : State) (hk : Kept pq s) : Kept pq (dropStore s) := hk

theorem execSaveStoreFailure_kept {pq : List Instr} (s : State) (hk : Kept pq s) : KeptR pq (execSaveStoreFailure s) := by
  unfold execSaveStoreFailure
  repeat' (with_reducible first | exact hk | refine keptR_next ?_ | apply changeStore_kept | apply dropStore_kept | apply kept_ite)

theorem execSaveVoltageGuard_kept {pq : List Instr} (s : State) (hk : Kept pq s) : KeptR pq (execSaveVoltageGuard s) := by
  unfold execSaveVoltageGuard
  repeat' (with_reducible first | exact hk | refine keptR_next ?_ | apply stopFlush_kept | apply kept_ite | split)

theorem execSaveFlushEnd_kept {pq : List Instr} (s : State) (hk : Kept pq s) : KeptR pq (execSaveFlushEnd s) := by
  unfold execSaveFlushEnd
  repeat' (with_reducible first | exact hk | refine keptR_next ?_ | apply stopFlush_kept | apply kept_ite
                                | fail_if_no_progress refine kept_mk (kept_parts ?_) | split)

theorem saveRecord_kept {pq : List Instr} (s : State) (hk : Kept pq s) : Kept pq (saveRecord s) := by
  unfold saveRecord
  repeat' (with_reducible first | exact hk | apply logEvent_kept | apply kept_ite
                                | fail_if_no_progress refine kept_mk (kept_parts ?_))

theorem beginSaveSeal_kept {pq : List Instr} (s : State) (c : Settings) (j : SealJob) (hk : Kept pq s) :
    Kept pq (beginSaveSeal s c j) := by
  unfold beginSaveSeal
  repeat' (with_reducible first | exact hk | apply saveRecord_kept | apply sweepSuppressed_kept | apply startRecord_kept
                                | apply programPartial_kept | fail_if_no_progress refine kept_mk (kept_parts ?_))

theorem execSaveManifestComplete_kept {pq : List Instr} (s : State) (hk : Kept pq s) : KeptR pq (execSaveManifestComplete s) := by
  unfold execSaveManifestComplete
  repeat' (with_reducible first | exact hk | refine keptR_next ?_ | apply sealedSave_kept | apply dropJob_kept
                                | apply stage_kept | apply beginSaveSeal_kept | apply kept_ite
                                | fail_if_no_progress refine kept_mk (kept_parts ?_) | split)

theorem saveTrip_kept {pq : List Instr} (s : State) (hk : Kept pq s) : Kept pq (saveTrip s) := by
  unfold saveTrip
  repeat' (with_reducible first | exact hk | apply recordTrip_kept | apply kept_ite | split)

theorem deferredNotice_kept {pq : List Instr} (s : State) (hk : Kept pq s) : Kept pq (deferredNotice s) := by
  unfold deferredNotice
  repeat' (with_reducible first | exact hk | apply railFaultNotice_kept | fail_if_no_progress refine kept_mk (kept_parts ?_)
                                | split)

theorem saveDown_kept {pq : List Instr} (s : State) (hk : Kept pq s) : Kept pq (saveDown s) := by
  unfold saveDown
  repeat' (with_reducible first | exact hk | apply deferredNotice_kept | apply setCause_kept | apply beginShutdown_kept
                                | apply kept_ite | fail_if_no_progress refine kept_mk (kept_parts ?_) | split)

theorem retire_kept {pq : List Instr} (s : State) (hk : Kept pq s) : Kept pq (retire s) := by
  unfold retire
  repeat' (with_reducible first | exact hk | apply saveTrip_kept | apply writeCheckpoint_kept | apply channelsSleep_kept)

theorem execSaveRetireComplete_kept {pq : List Instr} (inputHeld : Bool) (s : State) (hk : Kept pq s) :
    KeptR pq (execSaveRetireComplete inputHeld s) := by
  unfold execSaveRetireComplete
  repeat' (with_reducible first | exact hk | refine keptR_next ?_ | apply retire_kept | apply saveEnded_kept
                                | apply releaseHold_kept | apply saveDown_kept | apply kept_ite | split)

theorem wakeRetained_kept {pq : List Instr} (s : State) (c : Settings) (hk : Kept pq s) : Kept pq (wakeRetained s c) := by
  unfold wakeRetained
  repeat' (with_reducible first | exact hk | apply renewMoves_kept | apply resumePass_kept | apply wakeAll_kept
                                | fail_if_no_progress refine kept_mk (kept_parts ?_))

theorem resumeState_kept {pq : List Instr} (s : State) (hk : Kept pq s) : Kept pq (resumeState s) := by
  unfold resumeState
  repeat' (with_reducible first | exact hk | apply takeUp_kept | apply beginSequence_kept | apply debugReturns_kept
                                | apply kept_ite | fail_if_no_progress refine kept_mk (kept_parts ?_) | split)

theorem afterReturn_kept {pq : List Instr} (s : State) (hk : Kept pq s) : Kept pq (afterReturn s) := by
  unfold afterReturn
  repeat' (with_reducible first | exact hk | apply startTests_kept | apply runHeld_kept | apply raise_kept
                                | apply actLatchedReset_kept | fail_if_no_progress refine kept_mk (kept_parts ?_))

theorem sealReturn_kept {pq : List Instr} (s : State) (hk : Kept pq s) : Kept pq (sealReturn s) := by
  unfold sealReturn
  repeat' (with_reducible first | exact hk | apply beginCheckpoint_kept | apply afterReturn_kept | apply resumeState_kept
                                | apply kept_ite | fail_if_no_progress refine kept_mk (kept_parts ?_) | split)

theorem execRetainedReturnComplete_kept {pq : List Instr} (trained : Bool) (s : State) (hk : Kept pq s) :
    KeptR pq (execRetainedReturnComplete trained s) := by
  unfold execRetainedReturnComplete
  repeat' (with_reducible first | exact hk | refine keptR_next ?_ | apply trained_kept | apply saveDown_kept
                                | apply wakeRetained_kept | apply sealReturn_kept | apply startHeld_kept | apply takeUp_kept
                                | apply kept_ite | fail_if_no_progress refine kept_mk (kept_parts ?_) | split)

theorem serviceSealed_kept {pq : List Instr} (s : State) (hk : Kept pq s) : Kept pq (serviceSealed s) := by
  unfold serviceSealed
  repeat' (with_reducible first | exact hk | apply afterReturn_kept | apply resumeState_kept | apply retrySlots_kept
                                | apply step9_kept | apply kept_ite | split)

theorem renewSeal_kept {pq : List Instr} (s : State) (hk : Kept pq s) : Kept pq (renewSeal s) := by
  unfold renewSeal
  repeat' (with_reducible first | exact hk | apply beginCheckpoint_kept | apply kept_ite | split)

theorem execSealComplete_kept {pq : List Instr} (mirror : Fin 2) (pass : Bool) (s : State) (hk : Kept pq s) :
    KeptR pq (execSealComplete mirror pass s) := by
  unfold execSealComplete
  repeat' (with_reducible first | exact hk | refine keptR_next ?_ | apply renewSeal_kept | apply sealOn_kept
                                | apply serviceSealed_kept | apply kept_ite | split)

/-! ## Machine/Security.lean -/

theorem execSecLevelRaise_kept {pq : List Instr} (link : Link) (value : Word) (s : State) (hk : Kept pq s) :
    KeptR pq (execSecLevelRaise link value s) := by
  unfold execSecLevelRaise
  repeat' (with_reducible first | exact hk | refine keptR_next ?_ | apply writeSecLevel_kept | apply kept_ite)

theorem execSecLevelArm_kept {pq : List Instr} (link : Link) (value : Word) (s : State) (hk : Kept pq s) :
    KeptR pq (execSecLevelArm link value s) := by
  unfold execSecLevelArm
  repeat' (with_reducible first | exact hk | refine keptR_next ?_ | apply writeSecLevel_kept | apply kept_ite)

theorem execSecLevelLower_kept {pq : List Instr} (link : Link) (value : Word) (s : State) (hk : Kept pq s) :
    KeptR pq (execSecLevelLower link value s) := by
  unfold execSecLevelLower
  repeat' (with_reducible first | exact hk | refine keptR_next ?_ | apply writeSecLevel_kept | apply kept_ite)

theorem clearDram_kept {pq : List Instr} (s : State) (hk : Kept pq s) : Kept pq (clearDram s) := ⟨hk.1, rfl, rfl, hk.2.2.2⟩

theorem execLoweringDramClearComplete_kept {pq : List Instr} (s : State) (hk : Kept pq s) :
    KeptR pq (execLoweringDramClearComplete s) := by
  unfold execLoweringDramClearComplete
  repeat' (with_reducible first | exact hk | refine keptR_next ?_ | apply lowerOn_kept | apply clearDram_kept | apply kept_ite)

theorem execLoweringEraseComplete_kept {pq : List Instr} (s : State) (hk : Kept pq s) : KeptR pq (execLoweringEraseComplete s) := by
  unfold execLoweringEraseComplete
  repeat' (with_reducible first | exact hk | refine keptR_next ?_ | apply commitLowering_kept | apply dramGone_kept
                                | apply eraseUnkept_kept | apply actLatchedReset_kept | apply restartKept_kept
                                | apply beginInterval_kept | apply kept_ite)

theorem execClose_kept {pq : List Instr} (link : Link) (s : State) (hk : Kept pq s) : KeptR pq (execClose link s) := by
  unfold execClose
  repeat' (with_reducible first | exact hk | refine keptR_next ?_ | apply closePort_kept | apply kept_ite)

theorem execDebugSessionExpiry_kept {pq : List Instr} (s : State) (hk : Kept pq s) : KeptR pq (execDebugSessionExpiry s) := by
  unfold execDebugSessionExpiry
  repeat' (with_reducible first | exact hk | refine keptR_next ?_ | apply endSession_kept | apply kept_ite)

theorem execTapInstruction_kept {pq : List Instr} (code : Fin 7) (s : State) (hk : Kept pq s) :
    KeptR pq (execTapInstruction code s) := by
  unfold execTapInstruction
  repeat' (with_reducible first | exact hk | refine keptR_next ?_ | apply setSec_kept | apply kept_ite)

theorem execTapReset_kept {pq : List Instr} (s : State) (hk : Kept pq s) : KeptR pq (execTapReset s) := by
  unfold execTapReset
  repeat' (with_reducible first | exact hk | refine keptR_next ?_ | apply setSec_kept | apply kept_ite)

/-! ## Machine/Shroud.lean -/

theorem execRebuildStripe_kept {pq : List Instr} (errs : List (Nat × EccOutcome)) (s : State) (hk : Kept pq s) :
    KeptR pq (execRebuildStripe errs s) := by
  unfold execRebuildStripe
  repeat' (with_reducible first | exact hk | refine keptR_next ?_ | apply retryActivation_kept | apply advancePass_kept
                                | apply kept_ite | split)

theorem execRelocationFill_kept {pq : List Instr} (granule : Nat) (outcome : DecodeOutcome) (s : State) (hk : Kept pq s) :
    KeptR pq (execRelocationFill granule outcome s) := by
  unfold execRelocationFill
  repeat' (with_reducible first | exact hk | refine keptR_next ?_ | apply bringIn_kept | apply noteCopyRead_kept
                                | apply kept_ite | split)

theorem execRelocationCopyBack_kept {pq : List Instr} (errs : List (Nat × EccOutcome)) (s : State) (hk : Kept pq s) :
    KeptR pq (execRelocationCopyBack errs s) := by
  unfold execRelocationCopyBack
  repeat' (with_reducible first | exact hk | refine keptR_next ?_ | apply advancePass_kept | apply kept_ite | split)

/-! ## Machine/Smb.lean -/

theorem abandonPacket_kept {pq : List Instr} (s : State) (hk : Kept pq s) : Kept pq (abandonPacket s) := hk

theorem execSmbRepeatedStartError_kept {pq : List Instr} (s : State) (hk : Kept pq s) : KeptR pq (execSmbRepeatedStartError s) := by
  unfold execSmbRepeatedStartError
  repeat' (with_reducible first | exact hk | refine keptR_next ?_ | apply logEvent_kept | apply abandonPacket_kept
                                | apply setSmb_kept | apply kept_ite)

theorem execSmbTargetTimeout_kept {pq : List Instr} (s : State) (hk : Kept pq s) : KeptR pq (execSmbTargetTimeout s) := by
  unfold execSmbTargetTimeout
  repeat' (with_reducible first | exact hk | refine keptR_next ?_ | apply abandonPacket_kept | apply setSmb_kept | apply kept_ite)

theorem execSmbNack_kept {pq : List Instr} (s : State) (hk : Kept pq s) : KeptR pq (execSmbNack s) := by
  unfold execSmbNack
  repeat' (with_reducible first | exact hk | refine keptR_next ?_ | apply failTransfer_kept)

theorem execSmbResend_kept {pq : List Instr} (s : State) (hk : Kept pq s) : KeptR pq (execSmbResend s) := by
  unfold execSmbResend
  repeat' (with_reducible first | exact hk | refine keptR_next ?_ | apply sendCurrent_kept | apply kept_ite | split)

theorem execSmbArbitrationLost_kept {pq : List Instr} (s : State) (hk : Kept pq s) : KeptR pq (execSmbArbitrationLost s) := by
  unfold execSmbArbitrationLost
  repeat' (with_reducible first | exact hk | refine keptR_next ?_ | apply loseBus_kept | apply setSmb_kept | apply kept_ite)

theorem execArbSr_kept {pq : List Instr} (s : State) (hk : Kept pq s) : KeptR pq (execArbSr s) := by
  unfold execArbSr
  repeat' (with_reducible first | exact hk | refine keptR_next ?_ | apply loseBus_kept | apply logEvent_kept | apply setSmb_kept
                                | apply kept_ite)

theorem execSmbBusFree_kept {pq : List Instr} (s : State) (hk : Kept pq s) : KeptR pq (execSmbBusFree s) := by
  unfold execSmbBusFree
  repeat' (with_reducible first | exact hk | refine keptR_next ?_ | apply sendCurrent_kept | apply setSmb_kept | apply kept_ite
                                | fail_if_no_progress refine kept_mk (kept_parts ?_) | split)

theorem execSmbAlertResponse_kept {pq : List Instr} (won : Bool) (s : State) (hk : Kept pq s) :
    KeptR pq (execSmbAlertResponse won s) := by
  unfold execSmbAlertResponse
  repeat' (with_reducible first | exact hk | refine keptR_next ?_ | apply emit_kept | apply setSmb_kept | apply kept_ite)

end Sys2Proof.Machine
end

