-- ==== Sys2Proof/Laws/State.lean ====
section
/-! SUPPORT. What each plain update of the state leaves alone: one lemma for each field and update, true by `rfl`, so that no later proof
unfolds a record update. -/

namespace Sys2Proof.Machine

open Sys2Proof

/-! emit -/

@[simp] theorem emit_pending (s : State) (o : Output) : (emit s o).pending = s.pending := rfl
@[simp] theorem emit_fresh (s : State) (o : Output) : (emit s o).fresh = s.fresh := rfl
@[simp] theorem emit_clock (s : State) (o : Output) : (emit s o).clock = s.clock := rfl
@[simp] theorem emit_power (s : State) (o : Output) : (emit s o).power = s.power := rfl
@[simp] theorem emit_startup (s : State) (o : Output) : (emit s o).startup = s.startup := rfl
@[simp] theorem emit_rails (s : State) (o : Output) : (emit s o).rails = s.rails := rfl
@[simp] theorem emit_button (s : State) (o : Output) : (emit s o).button = s.button := rfl
@[simp] theorem emit_thermal (s : State) (o : Output) : (emit s o).thermal = s.thermal := rfl
@[simp] theorem emit_pack (s : State) (o : Output) : (emit s o).pack = s.pack := rfl
@[simp] theorem emit_bank (s : State) (o : Output) : (emit s o).bank = s.bank := rfl
@[simp] theorem emit_charger (s : State) (o : Output) : (emit s o).charger = s.charger := rfl
@[simp] theorem emit_security (s : State) (o : Output) : (emit s o).security = s.security := rfl
@[simp] theorem emit_host (s : State) (o : Output) : (emit s o).host = s.host := rfl
@[simp] theorem emit_rt (s : State) (o : Output) : (emit s o).rt = s.rt := rfl
@[simp] theorem emit_persist (s : State) (o : Output) : (emit s o).persist = s.persist := rfl
@[simp] theorem emit_dram (s : State) (o : Output) : (emit s o).dram = s.dram := rfl
@[simp] theorem emit_shroud (s : State) (o : Output) : (emit s o).shroud = s.shroud := rfl
@[simp] theorem emit_flash (s : State) (o : Output) : (emit s o).flash = s.flash := rfl
@[simp] theorem emit_save (s : State) (o : Output) : (emit s o).save = s.save := rfl
@[simp] theorem emit_restore (s : State) (o : Output) : (emit s o).restore = s.restore := rfl
@[simp] theorem emit_notices (s : State) (o : Output) : (emit s o).notices = s.notices := rfl
@[simp] theorem emit_qmp (s : State) (o : Output) : (emit s o).qmp = s.qmp := rfl
@[simp] theorem emit_recorder (s : State) (o : Output) : (emit s o).recorder = s.recorder := rfl
@[simp] theorem emit_faults (s : State) (o : Output) : (emit s o).faults = s.faults := rfl
@[simp] theorem emit_cf (s : State) (o : Output) : (emit s o).cf = s.cf := rfl
@[simp] theorem emit_fw (s : State) (o : Output) : (emit s o).fw = s.fw := rfl
@[simp] theorem emit_smb (s : State) (o : Output) : (emit s o).smb = s.smb := rfl
@[simp] theorem emit_lb (s : State) (o : Output) : (emit s o).lb = s.lb := rfl
@[simp] theorem emit_engines (s : State) (o : Output) : (emit s o).engines = s.engines := rfl
@[simp] theorem emit_crossings (s : State) (o : Output) : (emit s o).crossings = s.crossings := rfl

/-! setChan -/

@[simp] theorem setChan_pending (s : State) (ch : DramCh) (f : DramChan → DramChan) : (setChan s ch f).pending = s.pending := rfl
@[simp] theorem setChan_out (s : State) (ch : DramCh) (f : DramChan → DramChan) : (setChan s ch f).out = s.out := rfl
@[simp] theorem setChan_fresh (s : State) (ch : DramCh) (f : DramChan → DramChan) : (setChan s ch f).fresh = s.fresh := rfl
@[simp] theorem setChan_clock (s : State) (ch : DramCh) (f : DramChan → DramChan) : (setChan s ch f).clock = s.clock := rfl
@[simp] theorem setChan_power (s : State) (ch : DramCh) (f : DramChan → DramChan) : (setChan s ch f).power = s.power := rfl
@[simp] theorem setChan_startup (s : State) (ch : DramCh) (f : DramChan → DramChan) : (setChan s ch f).startup = s.startup := rfl
@[simp] theorem setChan_rails (s : State) (ch : DramCh) (f : DramChan → DramChan) : (setChan s ch f).rails = s.rails := rfl
@[simp] theorem setChan_button (s : State) (ch : DramCh) (f : DramChan → DramChan) : (setChan s ch f).button = s.button := rfl
@[simp] theorem setChan_thermal (s : State) (ch : DramCh) (f : DramChan → DramChan) : (setChan s ch f).thermal = s.thermal := rfl
@[simp] theorem setChan_pack (s : State) (ch : DramCh) (f : DramChan → DramChan) : (setChan s ch f).pack = s.pack := rfl
@[simp] theorem setChan_bank (s : State) (ch : DramCh) (f : DramChan → DramChan) : (setChan s ch f).bank = s.bank := rfl
@[simp] theorem setChan_charger (s : State) (ch : DramCh) (f : DramChan → DramChan) : (setChan s ch f).charger = s.charger := rfl
@[simp] theorem setChan_security (s : State) (ch : DramCh) (f : DramChan → DramChan) : (setChan s ch f).security = s.security := rfl
@[simp] theorem setChan_host (s : State) (ch : DramCh) (f : DramChan → DramChan) : (setChan s ch f).host = s.host := rfl
@[simp] theorem setChan_rt (s : State) (ch : DramCh) (f : DramChan → DramChan) : (setChan s ch f).rt = s.rt := rfl
@[simp] theorem setChan_persist (s : State) (ch : DramCh) (f : DramChan → DramChan) : (setChan s ch f).persist = s.persist := rfl
@[simp] theorem setChan_shroud (s : State) (ch : DramCh) (f : DramChan → DramChan) : (setChan s ch f).shroud = s.shroud := rfl
@[simp] theorem setChan_flash (s : State) (ch : DramCh) (f : DramChan → DramChan) : (setChan s ch f).flash = s.flash := rfl
@[simp] theorem setChan_save (s : State) (ch : DramCh) (f : DramChan → DramChan) : (setChan s ch f).save = s.save := rfl
@[simp] theorem setChan_restore (s : State) (ch : DramCh) (f : DramChan → DramChan) : (setChan s ch f).restore = s.restore := rfl
@[simp] theorem setChan_notices (s : State) (ch : DramCh) (f : DramChan → DramChan) : (setChan s ch f).notices = s.notices := rfl
@[simp] theorem setChan_qmp (s : State) (ch : DramCh) (f : DramChan → DramChan) : (setChan s ch f).qmp = s.qmp := rfl
@[simp] theorem setChan_recorder (s : State) (ch : DramCh) (f : DramChan → DramChan) : (setChan s ch f).recorder = s.recorder := rfl
@[simp] theorem setChan_faults (s : State) (ch : DramCh) (f : DramChan → DramChan) : (setChan s ch f).faults = s.faults := rfl
@[simp] theorem setChan_cf (s : State) (ch : DramCh) (f : DramChan → DramChan) : (setChan s ch f).cf = s.cf := rfl
@[simp] theorem setChan_fw (s : State) (ch : DramCh) (f : DramChan → DramChan) : (setChan s ch f).fw = s.fw := rfl
@[simp] theorem setChan_smb (s : State) (ch : DramCh) (f : DramChan → DramChan) : (setChan s ch f).smb = s.smb := rfl
@[simp] theorem setChan_lb (s : State) (ch : DramCh) (f : DramChan → DramChan) : (setChan s ch f).lb = s.lb := rfl
@[simp] theorem setChan_engines (s : State) (ch : DramCh) (f : DramChan → DramChan) : (setChan s ch f).engines = s.engines := rfl
@[simp] theorem setChan_crossings (s : State) (ch : DramCh) (f : DramChan → DramChan) : (setChan s ch f).crossings = s.crossings := rfl

/-! setTests -/

@[simp] theorem setTests_pending (s : State) (ts : List Test) : (setTests s ts).pending = s.pending := rfl
@[simp] theorem setTests_out (s : State) (ts : List Test) : (setTests s ts).out = s.out := rfl
@[simp] theorem setTests_fresh (s : State) (ts : List Test) : (setTests s ts).fresh = s.fresh := rfl
@[simp] theorem setTests_clock (s : State) (ts : List Test) : (setTests s ts).clock = s.clock := rfl
@[simp] theorem setTests_power (s : State) (ts : List Test) : (setTests s ts).power = s.power := rfl
@[simp] theorem setTests_startup (s : State) (ts : List Test) : (setTests s ts).startup = s.startup := rfl
@[simp] theorem setTests_rails (s : State) (ts : List Test) : (setTests s ts).rails = s.rails := rfl
@[simp] theorem setTests_button (s : State) (ts : List Test) : (setTests s ts).button = s.button := rfl
@[simp] theorem setTests_thermal (s : State) (ts : List Test) : (setTests s ts).thermal = s.thermal := rfl
@[simp] theorem setTests_pack (s : State) (ts : List Test) : (setTests s ts).pack = s.pack := rfl
@[simp] theorem setTests_bank (s : State) (ts : List Test) : (setTests s ts).bank = s.bank := rfl
@[simp] theorem setTests_charger (s : State) (ts : List Test) : (setTests s ts).charger = s.charger := rfl
@[simp] theorem setTests_security (s : State) (ts : List Test) : (setTests s ts).security = s.security := rfl
@[simp] theorem setTests_host (s : State) (ts : List Test) : (setTests s ts).host = s.host := rfl
@[simp] theorem setTests_rt (s : State) (ts : List Test) : (setTests s ts).rt = s.rt := rfl
@[simp] theorem setTests_persist (s : State) (ts : List Test) : (setTests s ts).persist = s.persist := rfl
@[simp] theorem setTests_dram (s : State) (ts : List Test) : (setTests s ts).dram = s.dram := rfl
@[simp] theorem setTests_shroud (s : State) (ts : List Test) : (setTests s ts).shroud = s.shroud := rfl
@[simp] theorem setTests_flash (s : State) (ts : List Test) : (setTests s ts).flash = s.flash := rfl
@[simp] theorem setTests_save (s : State) (ts : List Test) : (setTests s ts).save = s.save := rfl
@[simp] theorem setTests_restore (s : State) (ts : List Test) : (setTests s ts).restore = s.restore := rfl
@[simp] theorem setTests_notices (s : State) (ts : List Test) : (setTests s ts).notices = s.notices := rfl
@[simp] theorem setTests_qmp (s : State) (ts : List Test) : (setTests s ts).qmp = s.qmp := rfl
@[simp] theorem setTests_recorder (s : State) (ts : List Test) : (setTests s ts).recorder = s.recorder := rfl
@[simp] theorem setTests_cf (s : State) (ts : List Test) : (setTests s ts).cf = s.cf := rfl
@[simp] theorem setTests_fw (s : State) (ts : List Test) : (setTests s ts).fw = s.fw := rfl
@[simp] theorem setTests_smb (s : State) (ts : List Test) : (setTests s ts).smb = s.smb := rfl
@[simp] theorem setTests_lb (s : State) (ts : List Test) : (setTests s ts).lb = s.lb := rfl
@[simp] theorem setTests_engines (s : State) (ts : List Test) : (setTests s ts).engines = s.engines := rfl
@[simp] theorem setTests_crossings (s : State) (ts : List Test) : (setTests s ts).crossings = s.crossings := rfl

/-! setPack -/

@[simp] theorem setPack_pending (s : State) (f : Pack → Pack) : (setPack s f).pending = s.pending := rfl
@[simp] theorem setPack_out (s : State) (f : Pack → Pack) : (setPack s f).out = s.out := rfl
@[simp] theorem setPack_fresh (s : State) (f : Pack → Pack) : (setPack s f).fresh = s.fresh := rfl
@[simp] theorem setPack_clock (s : State) (f : Pack → Pack) : (setPack s f).clock = s.clock := rfl
@[simp] theorem setPack_power (s : State) (f : Pack → Pack) : (setPack s f).power = s.power := rfl
@[simp] theorem setPack_startup (s : State) (f : Pack → Pack) : (setPack s f).startup = s.startup := rfl
@[simp] theorem setPack_rails (s : State) (f : Pack → Pack) : (setPack s f).rails = s.rails := rfl
@[simp] theorem setPack_button (s : State) (f : Pack → Pack) : (setPack s f).button = s.button := rfl
@[simp] theorem setPack_thermal (s : State) (f : Pack → Pack) : (setPack s f).thermal = s.thermal := rfl
@[simp] theorem setPack_bank (s : State) (f : Pack → Pack) : (setPack s f).bank = s.bank := rfl
@[simp] theorem setPack_charger (s : State) (f : Pack → Pack) : (setPack s f).charger = s.charger := rfl
@[simp] theorem setPack_security (s : State) (f : Pack → Pack) : (setPack s f).security = s.security := rfl
@[simp] theorem setPack_host (s : State) (f : Pack → Pack) : (setPack s f).host = s.host := rfl
@[simp] theorem setPack_rt (s : State) (f : Pack → Pack) : (setPack s f).rt = s.rt := rfl
@[simp] theorem setPack_persist (s : State) (f : Pack → Pack) : (setPack s f).persist = s.persist := rfl
@[simp] theorem setPack_dram (s : State) (f : Pack → Pack) : (setPack s f).dram = s.dram := rfl
@[simp] theorem setPack_shroud (s : State) (f : Pack → Pack) : (setPack s f).shroud = s.shroud := rfl
@[simp] theorem setPack_flash (s : State) (f : Pack → Pack) : (setPack s f).flash = s.flash := rfl
@[simp] theorem setPack_save (s : State) (f : Pack → Pack) : (setPack s f).save = s.save := rfl
@[simp] theorem setPack_restore (s : State) (f : Pack → Pack) : (setPack s f).restore = s.restore := rfl
@[simp] theorem setPack_notices (s : State) (f : Pack → Pack) : (setPack s f).notices = s.notices := rfl
@[simp] theorem setPack_qmp (s : State) (f : Pack → Pack) : (setPack s f).qmp = s.qmp := rfl
@[simp] theorem setPack_recorder (s : State) (f : Pack → Pack) : (setPack s f).recorder = s.recorder := rfl
@[simp] theorem setPack_faults (s : State) (f : Pack → Pack) : (setPack s f).faults = s.faults := rfl
@[simp] theorem setPack_cf (s : State) (f : Pack → Pack) : (setPack s f).cf = s.cf := rfl
@[simp] theorem setPack_fw (s : State) (f : Pack → Pack) : (setPack s f).fw = s.fw := rfl
@[simp] theorem setPack_smb (s : State) (f : Pack → Pack) : (setPack s f).smb = s.smb := rfl
@[simp] theorem setPack_lb (s : State) (f : Pack → Pack) : (setPack s f).lb = s.lb := rfl
@[simp] theorem setPack_engines (s : State) (f : Pack → Pack) : (setPack s f).engines = s.engines := rfl
@[simp] theorem setPack_crossings (s : State) (f : Pack → Pack) : (setPack s f).crossings = s.crossings := rfl

/-! setBank -/

@[simp] theorem setBank_pending (s : State) (f : Bank → Bank) : (setBank s f).pending = s.pending := rfl
@[simp] theorem setBank_out (s : State) (f : Bank → Bank) : (setBank s f).out = s.out := rfl
@[simp] theorem setBank_fresh (s : State) (f : Bank → Bank) : (setBank s f).fresh = s.fresh := rfl
@[simp] theorem setBank_clock (s : State) (f : Bank → Bank) : (setBank s f).clock = s.clock := rfl
@[simp] theorem setBank_power (s : State) (f : Bank → Bank) : (setBank s f).power = s.power := rfl
@[simp] theorem setBank_startup (s : State) (f : Bank → Bank) : (setBank s f).startup = s.startup := rfl
@[simp] theorem setBank_rails (s : State) (f : Bank → Bank) : (setBank s f).rails = s.rails := rfl
@[simp] theorem setBank_button (s : State) (f : Bank → Bank) : (setBank s f).button = s.button := rfl
@[simp] theorem setBank_thermal (s : State) (f : Bank → Bank) : (setBank s f).thermal = s.thermal := rfl
@[simp] theorem setBank_pack (s : State) (f : Bank → Bank) : (setBank s f).pack = s.pack := rfl
@[simp] theorem setBank_charger (s : State) (f : Bank → Bank) : (setBank s f).charger = s.charger := rfl
@[simp] theorem setBank_security (s : State) (f : Bank → Bank) : (setBank s f).security = s.security := rfl
@[simp] theorem setBank_host (s : State) (f : Bank → Bank) : (setBank s f).host = s.host := rfl
@[simp] theorem setBank_rt (s : State) (f : Bank → Bank) : (setBank s f).rt = s.rt := rfl
@[simp] theorem setBank_persist (s : State) (f : Bank → Bank) : (setBank s f).persist = s.persist := rfl
@[simp] theorem setBank_dram (s : State) (f : Bank → Bank) : (setBank s f).dram = s.dram := rfl
@[simp] theorem setBank_shroud (s : State) (f : Bank → Bank) : (setBank s f).shroud = s.shroud := rfl
@[simp] theorem setBank_flash (s : State) (f : Bank → Bank) : (setBank s f).flash = s.flash := rfl
@[simp] theorem setBank_save (s : State) (f : Bank → Bank) : (setBank s f).save = s.save := rfl
@[simp] theorem setBank_restore (s : State) (f : Bank → Bank) : (setBank s f).restore = s.restore := rfl
@[simp] theorem setBank_notices (s : State) (f : Bank → Bank) : (setBank s f).notices = s.notices := rfl
@[simp] theorem setBank_qmp (s : State) (f : Bank → Bank) : (setBank s f).qmp = s.qmp := rfl
@[simp] theorem setBank_recorder (s : State) (f : Bank → Bank) : (setBank s f).recorder = s.recorder := rfl
@[simp] theorem setBank_faults (s : State) (f : Bank → Bank) : (setBank s f).faults = s.faults := rfl
@[simp] theorem setBank_cf (s : State) (f : Bank → Bank) : (setBank s f).cf = s.cf := rfl
@[simp] theorem setBank_fw (s : State) (f : Bank → Bank) : (setBank s f).fw = s.fw := rfl
@[simp] theorem setBank_smb (s : State) (f : Bank → Bank) : (setBank s f).smb = s.smb := rfl
@[simp] theorem setBank_lb (s : State) (f : Bank → Bank) : (setBank s f).lb = s.lb := rfl
@[simp] theorem setBank_engines (s : State) (f : Bank → Bank) : (setBank s f).engines = s.engines := rfl
@[simp] theorem setBank_crossings (s : State) (f : Bank → Bank) : (setBank s f).crossings = s.crossings := rfl

/-! setFw -/

@[simp] theorem setFw_pending (s : State) (f : Firmware → Firmware) : (setFw s f).pending = s.pending := rfl
@[simp] theorem setFw_out (s : State) (f : Firmware → Firmware) : (setFw s f).out = s.out := rfl
@[simp] theorem setFw_fresh (s : State) (f : Firmware → Firmware) : (setFw s f).fresh = s.fresh := rfl
@[simp] theorem setFw_clock (s : State) (f : Firmware → Firmware) : (setFw s f).clock = s.clock := rfl
@[simp] theorem setFw_power (s : State) (f : Firmware → Firmware) : (setFw s f).power = s.power := rfl
@[simp] theorem setFw_startup (s : State) (f : Firmware → Firmware) : (setFw s f).startup = s.startup := rfl
@[simp] theorem setFw_rails (s : State) (f : Firmware → Firmware) : (setFw s f).rails = s.rails := rfl
@[simp] theorem setFw_button (s : State) (f : Firmware → Firmware) : (setFw s f).button = s.button := rfl
@[simp] theorem setFw_thermal (s : State) (f : Firmware → Firmware) : (setFw s f).thermal = s.thermal := rfl
@[simp] theorem setFw_pack (s : State) (f : Firmware → Firmware) : (setFw s f).pack = s.pack := rfl
@[simp] theorem setFw_bank (s : State) (f : Firmware → Firmware) : (setFw s f).bank = s.bank := rfl
@[simp] theorem setFw_charger (s : State) (f : Firmware → Firmware) : (setFw s f).charger = s.charger := rfl
@[simp] theorem setFw_security (s : State) (f : Firmware → Firmware) : (setFw s f).security = s.security := rfl
@[simp] theorem setFw_host (s : State) (f : Firmware → Firmware) : (setFw s f).host = s.host := rfl
@[simp] theorem setFw_rt (s : State) (f : Firmware → Firmware) : (setFw s f).rt = s.rt := rfl
@[simp] theorem setFw_persist (s : State) (f : Firmware → Firmware) : (setFw s f).persist = s.persist := rfl
@[simp] theorem setFw_dram (s : State) (f : Firmware → Firmware) : (setFw s f).dram = s.dram := rfl
@[simp] theorem setFw_shroud (s : State) (f : Firmware → Firmware) : (setFw s f).shroud = s.shroud := rfl
@[simp] theorem setFw_flash (s : State) (f : Firmware → Firmware) : (setFw s f).flash = s.flash := rfl
@[simp] theorem setFw_save (s : State) (f : Firmware → Firmware) : (setFw s f).save = s.save := rfl
@[simp] theorem setFw_restore (s : State) (f : Firmware → Firmware) : (setFw s f).restore = s.restore := rfl
@[simp] theorem setFw_notices (s : State) (f : Firmware → Firmware) : (setFw s f).notices = s.notices := rfl
@[simp] theorem setFw_qmp (s : State) (f : Firmware → Firmware) : (setFw s f).qmp = s.qmp := rfl
@[simp] theorem setFw_recorder (s : State) (f : Firmware → Firmware) : (setFw s f).recorder = s.recorder := rfl
@[simp] theorem setFw_faults (s : State) (f : Firmware → Firmware) : (setFw s f).faults = s.faults := rfl
@[simp] theorem setFw_cf (s : State) (f : Firmware → Firmware) : (setFw s f).cf = s.cf := rfl
@[simp] theorem setFw_smb (s : State) (f : Firmware → Firmware) : (setFw s f).smb = s.smb := rfl
@[simp] theorem setFw_lb (s : State) (f : Firmware → Firmware) : (setFw s f).lb = s.lb := rfl
@[simp] theorem setFw_engines (s : State) (f : Firmware → Firmware) : (setFw s f).engines = s.engines := rfl
@[simp] theorem setFw_crossings (s : State) (f : Firmware → Firmware) : (setFw s f).crossings = s.crossings := rfl

/-! setLb -/

@[simp] theorem setLb_pending (s : State) (f : LocalBus → LocalBus) : (setLb s f).pending = s.pending := rfl
@[simp] theorem setLb_out (s : State) (f : LocalBus → LocalBus) : (setLb s f).out = s.out := rfl
@[simp] theorem setLb_fresh (s : State) (f : LocalBus → LocalBus) : (setLb s f).fresh = s.fresh := rfl
@[simp] theorem setLb_clock (s : State) (f : LocalBus → LocalBus) : (setLb s f).clock = s.clock := rfl
@[simp] theorem setLb_power (s : State) (f : LocalBus → LocalBus) : (setLb s f).power = s.power := rfl
@[simp] theorem setLb_startup (s : State) (f : LocalBus → LocalBus) : (setLb s f).startup = s.startup := rfl
@[simp] theorem setLb_rails (s : State) (f : LocalBus → LocalBus) : (setLb s f).rails = s.rails := rfl
@[simp] theorem setLb_button (s : State) (f : LocalBus → LocalBus) : (setLb s f).button = s.button := rfl
@[simp] theorem setLb_thermal (s : State) (f : LocalBus → LocalBus) : (setLb s f).thermal = s.thermal := rfl
@[simp] theorem setLb_pack (s : State) (f : LocalBus → LocalBus) : (setLb s f).pack = s.pack := rfl
@[simp] theorem setLb_bank (s : State) (f : LocalBus → LocalBus) : (setLb s f).bank = s.bank := rfl
@[simp] theorem setLb_charger (s : State) (f : LocalBus → LocalBus) : (setLb s f).charger = s.charger := rfl
@[simp] theorem setLb_security (s : State) (f : LocalBus → LocalBus) : (setLb s f).security = s.security := rfl
@[simp] theorem setLb_host (s : State) (f : LocalBus → LocalBus) : (setLb s f).host = s.host := rfl
@[simp] theorem setLb_rt (s : State) (f : LocalBus → LocalBus) : (setLb s f).rt = s.rt := rfl
@[simp] theorem setLb_persist (s : State) (f : LocalBus → LocalBus) : (setLb s f).persist = s.persist := rfl
@[simp] theorem setLb_dram (s : State) (f : LocalBus → LocalBus) : (setLb s f).dram = s.dram := rfl
@[simp] theorem setLb_shroud (s : State) (f : LocalBus → LocalBus) : (setLb s f).shroud = s.shroud := rfl
@[simp] theorem setLb_flash (s : State) (f : LocalBus → LocalBus) : (setLb s f).flash = s.flash := rfl
@[simp] theorem setLb_save (s : State) (f : LocalBus → LocalBus) : (setLb s f).save = s.save := rfl
@[simp] theorem setLb_restore (s : State) (f : LocalBus → LocalBus) : (setLb s f).restore = s.restore := rfl
@[simp] theorem setLb_notices (s : State) (f : LocalBus → LocalBus) : (setLb s f).notices = s.notices := rfl
@[simp] theorem setLb_qmp (s : State) (f : LocalBus → LocalBus) : (setLb s f).qmp = s.qmp := rfl
@[simp] theorem setLb_recorder (s : State) (f : LocalBus → LocalBus) : (setLb s f).recorder = s.recorder := rfl
@[simp] theorem setLb_faults (s : State) (f : LocalBus → LocalBus) : (setLb s f).faults = s.faults := rfl
@[simp] theorem setLb_cf (s : State) (f : LocalBus → LocalBus) : (setLb s f).cf = s.cf := rfl
@[simp] theorem setLb_fw (s : State) (f : LocalBus → LocalBus) : (setLb s f).fw = s.fw := rfl
@[simp] theorem setLb_smb (s : State) (f : LocalBus → LocalBus) : (setLb s f).smb = s.smb := rfl
@[simp] theorem setLb_engines (s : State) (f : LocalBus → LocalBus) : (setLb s f).engines = s.engines := rfl
@[simp] theorem setLb_crossings (s : State) (f : LocalBus → LocalBus) : (setLb s f).crossings = s.crossings := rfl

/-! setFn -/

@[simp] theorem setFn_pending (s : State) (l : Link) (f : FnRegs → FnRegs) : (setFn s l f).pending = s.pending := rfl
@[simp] theorem setFn_out (s : State) (l : Link) (f : FnRegs → FnRegs) : (setFn s l f).out = s.out := rfl
@[simp] theorem setFn_fresh (s : State) (l : Link) (f : FnRegs → FnRegs) : (setFn s l f).fresh = s.fresh := rfl
@[simp] theorem setFn_clock (s : State) (l : Link) (f : FnRegs → FnRegs) : (setFn s l f).clock = s.clock := rfl
@[simp] theorem setFn_power (s : State) (l : Link) (f : FnRegs → FnRegs) : (setFn s l f).power = s.power := rfl
@[simp] theorem setFn_startup (s : State) (l : Link) (f : FnRegs → FnRegs) : (setFn s l f).startup = s.startup := rfl
@[simp] theorem setFn_rails (s : State) (l : Link) (f : FnRegs → FnRegs) : (setFn s l f).rails = s.rails := rfl
@[simp] theorem setFn_button (s : State) (l : Link) (f : FnRegs → FnRegs) : (setFn s l f).button = s.button := rfl
@[simp] theorem setFn_thermal (s : State) (l : Link) (f : FnRegs → FnRegs) : (setFn s l f).thermal = s.thermal := rfl
@[simp] theorem setFn_pack (s : State) (l : Link) (f : FnRegs → FnRegs) : (setFn s l f).pack = s.pack := rfl
@[simp] theorem setFn_bank (s : State) (l : Link) (f : FnRegs → FnRegs) : (setFn s l f).bank = s.bank := rfl
@[simp] theorem setFn_charger (s : State) (l : Link) (f : FnRegs → FnRegs) : (setFn s l f).charger = s.charger := rfl
@[simp] theorem setFn_security (s : State) (l : Link) (f : FnRegs → FnRegs) : (setFn s l f).security = s.security := rfl
@[simp] theorem setFn_rt (s : State) (l : Link) (f : FnRegs → FnRegs) : (setFn s l f).rt = s.rt := rfl
@[simp] theorem setFn_persist (s : State) (l : Link) (f : FnRegs → FnRegs) : (setFn s l f).persist = s.persist := rfl
@[simp] theorem setFn_dram (s : State) (l : Link) (f : FnRegs → FnRegs) : (setFn s l f).dram = s.dram := rfl
@[simp] theorem setFn_shroud (s : State) (l : Link) (f : FnRegs → FnRegs) : (setFn s l f).shroud = s.shroud := rfl
@[simp] theorem setFn_flash (s : State) (l : Link) (f : FnRegs → FnRegs) : (setFn s l f).flash = s.flash := rfl
@[simp] theorem setFn_save (s : State) (l : Link) (f : FnRegs → FnRegs) : (setFn s l f).save = s.save := rfl
@[simp] theorem setFn_restore (s : State) (l : Link) (f : FnRegs → FnRegs) : (setFn s l f).restore = s.restore := rfl
@[simp] theorem setFn_notices (s : State) (l : Link) (f : FnRegs → FnRegs) : (setFn s l f).notices = s.notices := rfl
@[simp] theorem setFn_qmp (s : State) (l : Link) (f : FnRegs → FnRegs) : (setFn s l f).qmp = s.qmp := rfl
@[simp] theorem setFn_recorder (s : State) (l : Link) (f : FnRegs → FnRegs) : (setFn s l f).recorder = s.recorder := rfl
@[simp] theorem setFn_faults (s : State) (l : Link) (f : FnRegs → FnRegs) : (setFn s l f).faults = s.faults := rfl
@[simp] theorem setFn_cf (s : State) (l : Link) (f : FnRegs → FnRegs) : (setFn s l f).cf = s.cf := rfl
@[simp] theorem setFn_fw (s : State) (l : Link) (f : FnRegs → FnRegs) : (setFn s l f).fw = s.fw := rfl
@[simp] theorem setFn_smb (s : State) (l : Link) (f : FnRegs → FnRegs) : (setFn s l f).smb = s.smb := rfl
@[simp] theorem setFn_lb (s : State) (l : Link) (f : FnRegs → FnRegs) : (setFn s l f).lb = s.lb := rfl
@[simp] theorem setFn_engines (s : State) (l : Link) (f : FnRegs → FnRegs) : (setFn s l f).engines = s.engines := rfl
@[simp] theorem setFn_crossings (s : State) (l : Link) (f : FnRegs → FnRegs) : (setFn s l f).crossings = s.crossings := rfl

/-! setRail -/

@[simp] theorem setRail_pending (s : State) (r : Rail) (f : RailState → RailState) : (setRail s r f).pending = s.pending := rfl
@[simp] theorem setRail_out (s : State) (r : Rail) (f : RailState → RailState) : (setRail s r f).out = s.out := rfl
@[simp] theorem setRail_fresh (s : State) (r : Rail) (f : RailState → RailState) : (setRail s r f).fresh = s.fresh := rfl
@[simp] theorem setRail_clock (s : State) (r : Rail) (f : RailState → RailState) : (setRail s r f).clock = s.clock := rfl
@[simp] theorem setRail_power (s : State) (r : Rail) (f : RailState → RailState) : (setRail s r f).power = s.power := rfl
@[simp] theorem setRail_startup (s : State) (r : Rail) (f : RailState → RailState) : (setRail s r f).startup = s.startup := rfl
@[simp] theorem setRail_button (s : State) (r : Rail) (f : RailState → RailState) : (setRail s r f).button = s.button := rfl
@[simp] theorem setRail_thermal (s : State) (r : Rail) (f : RailState → RailState) : (setRail s r f).thermal = s.thermal := rfl
@[simp] theorem setRail_pack (s : State) (r : Rail) (f : RailState → RailState) : (setRail s r f).pack = s.pack := rfl
@[simp] theorem setRail_bank (s : State) (r : Rail) (f : RailState → RailState) : (setRail s r f).bank = s.bank := rfl
@[simp] theorem setRail_charger (s : State) (r : Rail) (f : RailState → RailState) : (setRail s r f).charger = s.charger := rfl
@[simp] theorem setRail_security (s : State) (r : Rail) (f : RailState → RailState) : (setRail s r f).security = s.security := rfl
@[simp] theorem setRail_host (s : State) (r : Rail) (f : RailState → RailState) : (setRail s r f).host = s.host := rfl
@[simp] theorem setRail_rt (s : State) (r : Rail) (f : RailState → RailState) : (setRail s r f).rt = s.rt := rfl
@[simp] theorem setRail_persist (s : State) (r : Rail) (f : RailState → RailState) : (setRail s r f).persist = s.persist := rfl
@[simp] theorem setRail_dram (s : State) (r : Rail) (f : RailState → RailState) : (setRail s r f).dram = s.dram := rfl
@[simp] theorem setRail_shroud (s : State) (r : Rail) (f : RailState → RailState) : (setRail s r f).shroud = s.shroud := rfl
@[simp] theorem setRail_flash (s : State) (r : Rail) (f : RailState → RailState) : (setRail s r f).flash = s.flash := rfl
@[simp] theorem setRail_save (s : State) (r : Rail) (f : RailState → RailState) : (setRail s r f).save = s.save := rfl
@[simp] theorem setRail_restore (s : State) (r : Rail) (f : RailState → RailState) : (setRail s r f).restore = s.restore := rfl
@[simp] theorem setRail_notices (s : State) (r : Rail) (f : RailState → RailState) : (setRail s r f).notices = s.notices := rfl
@[simp] theorem setRail_qmp (s : State) (r : Rail) (f : RailState → RailState) : (setRail s r f).qmp = s.qmp := rfl
@[simp] theorem setRail_recorder (s : State) (r : Rail) (f : RailState → RailState) : (setRail s r f).recorder = s.recorder := rfl
@[simp] theorem setRail_faults (s : State) (r : Rail) (f : RailState → RailState) : (setRail s r f).faults = s.faults := rfl
@[simp] theorem setRail_cf (s : State) (r : Rail) (f : RailState → RailState) : (setRail s r f).cf = s.cf := rfl
@[simp] theorem setRail_fw (s : State) (r : Rail) (f : RailState → RailState) : (setRail s r f).fw = s.fw := rfl
@[simp] theorem setRail_smb (s : State) (r : Rail) (f : RailState → RailState) : (setRail s r f).smb = s.smb := rfl
@[simp] theorem setRail_lb (s : State) (r : Rail) (f : RailState → RailState) : (setRail s r f).lb = s.lb := rfl
@[simp] theorem setRail_engines (s : State) (r : Rail) (f : RailState → RailState) : (setRail s r f).engines = s.engines := rfl
@[simp] theorem setRail_crossings (s : State) (r : Rail) (f : RailState → RailState) : (setRail s r f).crossings = s.crossings := rfl

/-! setQmp -/

@[simp] theorem setQmp_pending (s : State) (f : Qmp → Qmp) : (setQmp s f).pending = s.pending := rfl
@[simp] theorem setQmp_out (s : State) (f : Qmp → Qmp) : (setQmp s f).out = s.out := rfl
@[simp] theorem setQmp_fresh (s : State) (f : Qmp → Qmp) : (setQmp s f).fresh = s.fresh := rfl
@[simp] theorem setQmp_clock (s : State) (f : Qmp → Qmp) : (setQmp s f).clock = s.clock := rfl
@[simp] theorem setQmp_power (s : State) (f : Qmp → Qmp) : (setQmp s f).power = s.power := rfl
@[simp] theorem setQmp_startup (s : State) (f : Qmp → Qmp) : (setQmp s f).startup = s.startup := rfl
@[simp] theorem setQmp_rails (s : State) (f : Qmp → Qmp) : (setQmp s f).rails = s.rails := rfl
@[simp] theorem setQmp_button (s : State) (f : Qmp → Qmp) : (setQmp s f).button = s.button := rfl
@[simp] theorem setQmp_thermal (s : State) (f : Qmp → Qmp) : (setQmp s f).thermal = s.thermal := rfl
@[simp] theorem setQmp_pack (s : State) (f : Qmp → Qmp) : (setQmp s f).pack = s.pack := rfl
@[simp] theorem setQmp_bank (s : State) (f : Qmp → Qmp) : (setQmp s f).bank = s.bank := rfl
@[simp] theorem setQmp_charger (s : State) (f : Qmp → Qmp) : (setQmp s f).charger = s.charger := rfl
@[simp] theorem setQmp_security (s : State) (f : Qmp → Qmp) : (setQmp s f).security = s.security := rfl
@[simp] theorem setQmp_host (s : State) (f : Qmp → Qmp) : (setQmp s f).host = s.host := rfl
@[simp] theorem setQmp_rt (s : State) (f : Qmp → Qmp) : (setQmp s f).rt = s.rt := rfl
@[simp] theorem setQmp_persist (s : State) (f : Qmp → Qmp) : (setQmp s f).persist = s.persist := rfl
@[simp] theorem setQmp_dram (s : State) (f : Qmp → Qmp) : (setQmp s f).dram = s.dram := rfl
@[simp] theorem setQmp_shroud (s : State) (f : Qmp → Qmp) : (setQmp s f).shroud = s.shroud := rfl
@[simp] theorem setQmp_flash (s : State) (f : Qmp → Qmp) : (setQmp s f).flash = s.flash := rfl
@[simp] theorem setQmp_save (s : State) (f : Qmp → Qmp) : (setQmp s f).save = s.save := rfl
@[simp] theorem setQmp_restore (s : State) (f : Qmp → Qmp) : (setQmp s f).restore = s.restore := rfl
@[simp] theorem setQmp_notices (s : State) (f : Qmp → Qmp) : (setQmp s f).notices = s.notices := rfl
@[simp] theorem setQmp_recorder (s : State) (f : Qmp → Qmp) : (setQmp s f).recorder = s.recorder := rfl
@[simp] theorem setQmp_faults (s : State) (f : Qmp → Qmp) : (setQmp s f).faults = s.faults := rfl
@[simp] theorem setQmp_cf (s : State) (f : Qmp → Qmp) : (setQmp s f).cf = s.cf := rfl
@[simp] theorem setQmp_fw (s : State) (f : Qmp → Qmp) : (setQmp s f).fw = s.fw := rfl
@[simp] theorem setQmp_smb (s : State) (f : Qmp → Qmp) : (setQmp s f).smb = s.smb := rfl
@[simp] theorem setQmp_lb (s : State) (f : Qmp → Qmp) : (setQmp s f).lb = s.lb := rfl
@[simp] theorem setQmp_engines (s : State) (f : Qmp → Qmp) : (setQmp s f).engines = s.engines := rfl
@[simp] theorem setQmp_crossings (s : State) (f : Qmp → Qmp) : (setQmp s f).crossings = s.crossings := rfl

/-! setMirror -/

@[simp] theorem setMirror_pending (s : State) (m : Fin 2) (f : Mirror → Mirror) : (setMirror s m f).pending = s.pending := rfl
@[simp] theorem setMirror_out (s : State) (m : Fin 2) (f : Mirror → Mirror) : (setMirror s m f).out = s.out := rfl
@[simp] theorem setMirror_fresh (s : State) (m : Fin 2) (f : Mirror → Mirror) : (setMirror s m f).fresh = s.fresh := rfl
@[simp] theorem setMirror_clock (s : State) (m : Fin 2) (f : Mirror → Mirror) : (setMirror s m f).clock = s.clock := rfl
@[simp] theorem setMirror_power (s : State) (m : Fin 2) (f : Mirror → Mirror) : (setMirror s m f).power = s.power := rfl
@[simp] theorem setMirror_startup (s : State) (m : Fin 2) (f : Mirror → Mirror) : (setMirror s m f).startup = s.startup := rfl
@[simp] theorem setMirror_rails (s : State) (m : Fin 2) (f : Mirror → Mirror) : (setMirror s m f).rails = s.rails := rfl
@[simp] theorem setMirror_button (s : State) (m : Fin 2) (f : Mirror → Mirror) : (setMirror s m f).button = s.button := rfl
@[simp] theorem setMirror_thermal (s : State) (m : Fin 2) (f : Mirror → Mirror) : (setMirror s m f).thermal = s.thermal := rfl
@[simp] theorem setMirror_pack (s : State) (m : Fin 2) (f : Mirror → Mirror) : (setMirror s m f).pack = s.pack := rfl
@[simp] theorem setMirror_bank (s : State) (m : Fin 2) (f : Mirror → Mirror) : (setMirror s m f).bank = s.bank := rfl
@[simp] theorem setMirror_charger (s : State) (m : Fin 2) (f : Mirror → Mirror) : (setMirror s m f).charger = s.charger := rfl
@[simp] theorem setMirror_security (s : State) (m : Fin 2) (f : Mirror → Mirror) : (setMirror s m f).security = s.security := rfl
@[simp] theorem setMirror_host (s : State) (m : Fin 2) (f : Mirror → Mirror) : (setMirror s m f).host = s.host := rfl
@[simp] theorem setMirror_rt (s : State) (m : Fin 2) (f : Mirror → Mirror) : (setMirror s m f).rt = s.rt := rfl
@[simp] theorem setMirror_persist (s : State) (m : Fin 2) (f : Mirror → Mirror) : (setMirror s m f).persist = s.persist := rfl
@[simp] theorem setMirror_dram (s : State) (m : Fin 2) (f : Mirror → Mirror) : (setMirror s m f).dram = s.dram := rfl
@[simp] theorem setMirror_shroud (s : State) (m : Fin 2) (f : Mirror → Mirror) : (setMirror s m f).shroud = s.shroud := rfl
@[simp] theorem setMirror_save (s : State) (m : Fin 2) (f : Mirror → Mirror) : (setMirror s m f).save = s.save := rfl
@[simp] theorem setMirror_restore (s : State) (m : Fin 2) (f : Mirror → Mirror) : (setMirror s m f).restore = s.restore := rfl
@[simp] theorem setMirror_notices (s : State) (m : Fin 2) (f : Mirror → Mirror) : (setMirror s m f).notices = s.notices := rfl
@[simp] theorem setMirror_qmp (s : State) (m : Fin 2) (f : Mirror → Mirror) : (setMirror s m f).qmp = s.qmp := rfl
@[simp] theorem setMirror_recorder (s : State) (m : Fin 2) (f : Mirror → Mirror) : (setMirror s m f).recorder = s.recorder := rfl
@[simp] theorem setMirror_faults (s : State) (m : Fin 2) (f : Mirror → Mirror) : (setMirror s m f).faults = s.faults := rfl
@[simp] theorem setMirror_cf (s : State) (m : Fin 2) (f : Mirror → Mirror) : (setMirror s m f).cf = s.cf := rfl
@[simp] theorem setMirror_fw (s : State) (m : Fin 2) (f : Mirror → Mirror) : (setMirror s m f).fw = s.fw := rfl
@[simp] theorem setMirror_smb (s : State) (m : Fin 2) (f : Mirror → Mirror) : (setMirror s m f).smb = s.smb := rfl
@[simp] theorem setMirror_lb (s : State) (m : Fin 2) (f : Mirror → Mirror) : (setMirror s m f).lb = s.lb := rfl
@[simp] theorem setMirror_engines (s : State) (m : Fin 2) (f : Mirror → Mirror) : (setMirror s m f).engines = s.engines := rfl
@[simp] theorem setMirror_crossings (s : State) (m : Fin 2) (f : Mirror → Mirror) : (setMirror s m f).crossings = s.crossings := rfl

/-! setEntry -/

@[simp] theorem setEntry_pending (s : State) (g : Nat) (e : Entry) : (setEntry s g e).pending = s.pending := rfl
@[simp] theorem setEntry_out (s : State) (g : Nat) (e : Entry) : (setEntry s g e).out = s.out := rfl
@[simp] theorem setEntry_fresh (s : State) (g : Nat) (e : Entry) : (setEntry s g e).fresh = s.fresh := rfl
@[simp] theorem setEntry_clock (s : State) (g : Nat) (e : Entry) : (setEntry s g e).clock = s.clock := rfl
@[simp] theorem setEntry_power (s : State) (g : Nat) (e : Entry) : (setEntry s g e).power = s.power := rfl
@[simp] theorem setEntry_startup (s : State) (g : Nat) (e : Entry) : (setEntry s g e).startup = s.startup := rfl
@[simp] theorem setEntry_rails (s : State) (g : Nat) (e : Entry) : (setEntry s g e).rails = s.rails := rfl
@[simp] theorem setEntry_button (s : State) (g : Nat) (e : Entry) : (setEntry s g e).button = s.button := rfl
@[simp] theorem setEntry_thermal (s : State) (g : Nat) (e : Entry) : (setEntry s g e).thermal = s.thermal := rfl
@[simp] theorem setEntry_pack (s : State) (g : Nat) (e : Entry) : (setEntry s g e).pack = s.pack := rfl
@[simp] theorem setEntry_bank (s : State) (g : Nat) (e : Entry) : (setEntry s g e).bank = s.bank := rfl
@[simp] theorem setEntry_charger (s : State) (g : Nat) (e : Entry) : (setEntry s g e).charger = s.charger := rfl
@[simp] theorem setEntry_security (s : State) (g : Nat) (e : Entry) : (setEntry s g e).security = s.security := rfl
@[simp] theorem setEntry_host (s : State) (g : Nat) (e : Entry) : (setEntry s g e).host = s.host := rfl
@[simp] theorem setEntry_rt (s : State) (g : Nat) (e : Entry) : (setEntry s g e).rt = s.rt := rfl
@[simp] theorem setEntry_persist (s : State) (g : Nat) (e : Entry) : (setEntry s g e).persist = s.persist := rfl
@[simp] theorem setEntry_dram (s : State) (g : Nat) (e : Entry) : (setEntry s g e).dram = s.dram := rfl
@[simp] theorem setEntry_shroud (s : State) (g : Nat) (e : Entry) : (setEntry s g e).shroud = s.shroud := rfl
@[simp] theorem setEntry_save (s : State) (g : Nat) (e : Entry) : (setEntry s g e).save = s.save := rfl
@[simp] theorem setEntry_restore (s : State) (g : Nat) (e : Entry) : (setEntry s g e).restore = s.restore := rfl
@[simp] theorem setEntry_notices (s : State) (g : Nat) (e : Entry) : (setEntry s g e).notices = s.notices := rfl
@[simp] theorem setEntry_qmp (s : State) (g : Nat) (e : Entry) : (setEntry s g e).qmp = s.qmp := rfl
@[simp] theorem setEntry_recorder (s : State) (g : Nat) (e : Entry) : (setEntry s g e).recorder = s.recorder := rfl
@[simp] theorem setEntry_faults (s : State) (g : Nat) (e : Entry) : (setEntry s g e).faults = s.faults := rfl
@[simp] theorem setEntry_cf (s : State) (g : Nat) (e : Entry) : (setEntry s g e).cf = s.cf := rfl
@[simp] theorem setEntry_fw (s : State) (g : Nat) (e : Entry) : (setEntry s g e).fw = s.fw := rfl
@[simp] theorem setEntry_smb (s : State) (g : Nat) (e : Entry) : (setEntry s g e).smb = s.smb := rfl
@[simp] theorem setEntry_lb (s : State) (g : Nat) (e : Entry) : (setEntry s g e).lb = s.lb := rfl
@[simp] theorem setEntry_engines (s : State) (g : Nat) (e : Entry) : (setEntry s g e).engines = s.engines := rfl
@[simp] theorem setEntry_crossings (s : State) (g : Nat) (e : Entry) : (setEntry s g e).crossings = s.crossings := rfl

/-! setSec -/

@[simp] theorem setSec_pending (s : State) (f : Security → Security) : (setSec s f).pending = s.pending := rfl
@[simp] theorem setSec_out (s : State) (f : Security → Security) : (setSec s f).out = s.out := rfl
@[simp] theorem setSec_fresh (s : State) (f : Security → Security) : (setSec s f).fresh = s.fresh := rfl
@[simp] theorem setSec_clock (s : State) (f : Security → Security) : (setSec s f).clock = s.clock := rfl
@[simp] theorem setSec_power (s : State) (f : Security → Security) : (setSec s f).power = s.power := rfl
@[simp] theorem setSec_startup (s : State) (f : Security → Security) : (setSec s f).startup = s.startup := rfl
@[simp] theorem setSec_rails (s : State) (f : Security → Security) : (setSec s f).rails = s.rails := rfl
@[simp] theorem setSec_button (s : State) (f : Security → Security) : (setSec s f).button = s.button := rfl
@[simp] theorem setSec_thermal (s : State) (f : Security → Security) : (setSec s f).thermal = s.thermal := rfl
@[simp] theorem setSec_pack (s : State) (f : Security → Security) : (setSec s f).pack = s.pack := rfl
@[simp] theorem setSec_bank (s : State) (f : Security → Security) : (setSec s f).bank = s.bank := rfl
@[simp] theorem setSec_charger (s : State) (f : Security → Security) : (setSec s f).charger = s.charger := rfl
@[simp] theorem setSec_host (s : State) (f : Security → Security) : (setSec s f).host = s.host := rfl
@[simp] theorem setSec_rt (s : State) (f : Security → Security) : (setSec s f).rt = s.rt := rfl
@[simp] theorem setSec_persist (s : State) (f : Security → Security) : (setSec s f).persist = s.persist := rfl
@[simp] theorem setSec_dram (s : State) (f : Security → Security) : (setSec s f).dram = s.dram := rfl
@[simp] theorem setSec_shroud (s : State) (f : Security → Security) : (setSec s f).shroud = s.shroud := rfl
@[simp] theorem setSec_flash (s : State) (f : Security → Security) : (setSec s f).flash = s.flash := rfl
@[simp] theorem setSec_save (s : State) (f : Security → Security) : (setSec s f).save = s.save := rfl
@[simp] theorem setSec_restore (s : State) (f : Security → Security) : (setSec s f).restore = s.restore := rfl
@[simp] theorem setSec_notices (s : State) (f : Security → Security) : (setSec s f).notices = s.notices := rfl
@[simp] theorem setSec_qmp (s : State) (f : Security → Security) : (setSec s f).qmp = s.qmp := rfl
@[simp] theorem setSec_recorder (s : State) (f : Security → Security) : (setSec s f).recorder = s.recorder := rfl
@[simp] theorem setSec_faults (s : State) (f : Security → Security) : (setSec s f).faults = s.faults := rfl
@[simp] theorem setSec_cf (s : State) (f : Security → Security) : (setSec s f).cf = s.cf := rfl
@[simp] theorem setSec_fw (s : State) (f : Security → Security) : (setSec s f).fw = s.fw := rfl
@[simp] theorem setSec_smb (s : State) (f : Security → Security) : (setSec s f).smb = s.smb := rfl
@[simp] theorem setSec_lb (s : State) (f : Security → Security) : (setSec s f).lb = s.lb := rfl
@[simp] theorem setSec_engines (s : State) (f : Security → Security) : (setSec s f).engines = s.engines := rfl
@[simp] theorem setSec_crossings (s : State) (f : Security → Security) : (setSec s f).crossings = s.crossings := rfl

/-! setSmb -/

@[simp] theorem setSmb_pending (s : State) (f : Smb → Smb) : (setSmb s f).pending = s.pending := rfl
@[simp] theorem setSmb_out (s : State) (f : Smb → Smb) : (setSmb s f).out = s.out := rfl
@[simp] theorem setSmb_fresh (s : State) (f : Smb → Smb) : (setSmb s f).fresh = s.fresh := rfl
@[simp] theorem setSmb_clock (s : State) (f : Smb → Smb) : (setSmb s f).clock = s.clock := rfl
@[simp] theorem setSmb_power (s : State) (f : Smb → Smb) : (setSmb s f).power = s.power := rfl
@[simp] theorem setSmb_startup (s : State) (f : Smb → Smb) : (setSmb s f).startup = s.startup := rfl
@[simp] theorem setSmb_rails (s : State) (f : Smb → Smb) : (setSmb s f).rails = s.rails := rfl
@[simp] theorem setSmb_button (s : State) (f : Smb → Smb) : (setSmb s f).button = s.button := rfl
@[simp] theorem setSmb_thermal (s : State) (f : Smb → Smb) : (setSmb s f).thermal = s.thermal := rfl
@[simp] theorem setSmb_pack (s : State) (f : Smb → Smb) : (setSmb s f).pack = s.pack := rfl
@[simp] theorem setSmb_bank (s : State) (f : Smb → Smb) : (setSmb s f).bank = s.bank := rfl
@[simp] theorem setSmb_charger (s : State) (f : Smb → Smb) : (setSmb s f).charger = s.charger := rfl
@[simp] theorem setSmb_security (s : State) (f : Smb → Smb) : (setSmb s f).security = s.security := rfl
@[simp] theorem setSmb_host (s : State) (f : Smb → Smb) : (setSmb s f).host = s.host := rfl
@[simp] theorem setSmb_rt (s : State) (f : Smb → Smb) : (setSmb s f).rt = s.rt := rfl
@[simp] theorem setSmb_persist (s : State) (f : Smb → Smb) : (setSmb s f).persist = s.persist := rfl
@[simp] theorem setSmb_dram (s : State) (f : Smb → Smb) : (setSmb s f).dram = s.dram := rfl
@[simp] theorem setSmb_shroud (s : State) (f : Smb → Smb) : (setSmb s f).shroud = s.shroud := rfl
@[simp] theorem setSmb_flash (s : State) (f : Smb → Smb) : (setSmb s f).flash = s.flash := rfl
@[simp] theorem setSmb_save (s : State) (f : Smb → Smb) : (setSmb s f).save = s.save := rfl
@[simp] theorem setSmb_restore (s : State) (f : Smb → Smb) : (setSmb s f).restore = s.restore := rfl
@[simp] theorem setSmb_notices (s : State) (f : Smb → Smb) : (setSmb s f).notices = s.notices := rfl
@[simp] theorem setSmb_qmp (s : State) (f : Smb → Smb) : (setSmb s f).qmp = s.qmp := rfl
@[simp] theorem setSmb_recorder (s : State) (f : Smb → Smb) : (setSmb s f).recorder = s.recorder := rfl
@[simp] theorem setSmb_faults (s : State) (f : Smb → Smb) : (setSmb s f).faults = s.faults := rfl
@[simp] theorem setSmb_cf (s : State) (f : Smb → Smb) : (setSmb s f).cf = s.cf := rfl
@[simp] theorem setSmb_fw (s : State) (f : Smb → Smb) : (setSmb s f).fw = s.fw := rfl
@[simp] theorem setSmb_lb (s : State) (f : Smb → Smb) : (setSmb s f).lb = s.lb := rfl
@[simp] theorem setSmb_engines (s : State) (f : Smb → Smb) : (setSmb s f).engines = s.engines := rfl
@[simp] theorem setSmb_crossings (s : State) (f : Smb → Smb) : (setSmb s f).crossings = s.crossings := rfl

/-! setSite -/

@[simp] theorem setSite_pending (s : State) (i : Site) (f : SiteState → SiteState) : (setSite s i f).pending = s.pending := rfl
@[simp] theorem setSite_out (s : State) (i : Site) (f : SiteState → SiteState) : (setSite s i f).out = s.out := rfl
@[simp] theorem setSite_fresh (s : State) (i : Site) (f : SiteState → SiteState) : (setSite s i f).fresh = s.fresh := rfl
@[simp] theorem setSite_clock (s : State) (i : Site) (f : SiteState → SiteState) : (setSite s i f).clock = s.clock := rfl
@[simp] theorem setSite_power (s : State) (i : Site) (f : SiteState → SiteState) : (setSite s i f).power = s.power := rfl
@[simp] theorem setSite_startup (s : State) (i : Site) (f : SiteState → SiteState) : (setSite s i f).startup = s.startup := rfl
@[simp] theorem setSite_rails (s : State) (i : Site) (f : SiteState → SiteState) : (setSite s i f).rails = s.rails := rfl
@[simp] theorem setSite_button (s : State) (i : Site) (f : SiteState → SiteState) : (setSite s i f).button = s.button := rfl
@[simp] theorem setSite_pack (s : State) (i : Site) (f : SiteState → SiteState) : (setSite s i f).pack = s.pack := rfl
@[simp] theorem setSite_bank (s : State) (i : Site) (f : SiteState → SiteState) : (setSite s i f).bank = s.bank := rfl
@[simp] theorem setSite_charger (s : State) (i : Site) (f : SiteState → SiteState) : (setSite s i f).charger = s.charger := rfl
@[simp] theorem setSite_security (s : State) (i : Site) (f : SiteState → SiteState) : (setSite s i f).security = s.security := rfl
@[simp] theorem setSite_host (s : State) (i : Site) (f : SiteState → SiteState) : (setSite s i f).host = s.host := rfl
@[simp] theorem setSite_rt (s : State) (i : Site) (f : SiteState → SiteState) : (setSite s i f).rt = s.rt := rfl
@[simp] theorem setSite_persist (s : State) (i : Site) (f : SiteState → SiteState) : (setSite s i f).persist = s.persist := rfl
@[simp] theorem setSite_dram (s : State) (i : Site) (f : SiteState → SiteState) : (setSite s i f).dram = s.dram := rfl
@[simp] theorem setSite_shroud (s : State) (i : Site) (f : SiteState → SiteState) : (setSite s i f).shroud = s.shroud := rfl
@[simp] theorem setSite_flash (s : State) (i : Site) (f : SiteState → SiteState) : (setSite s i f).flash = s.flash := rfl
@[simp] theorem setSite_save (s : State) (i : Site) (f : SiteState → SiteState) : (setSite s i f).save = s.save := rfl
@[simp] theorem setSite_restore (s : State) (i : Site) (f : SiteState → SiteState) : (setSite s i f).restore = s.restore := rfl
@[simp] theorem setSite_notices (s : State) (i : Site) (f : SiteState → SiteState) : (setSite s i f).notices = s.notices := rfl
@[simp] theorem setSite_qmp (s : State) (i : Site) (f : SiteState → SiteState) : (setSite s i f).qmp = s.qmp := rfl
@[simp] theorem setSite_recorder (s : State) (i : Site) (f : SiteState → SiteState) : (setSite s i f).recorder = s.recorder := rfl
@[simp] theorem setSite_faults (s : State) (i : Site) (f : SiteState → SiteState) : (setSite s i f).faults = s.faults := rfl
@[simp] theorem setSite_cf (s : State) (i : Site) (f : SiteState → SiteState) : (setSite s i f).cf = s.cf := rfl
@[simp] theorem setSite_fw (s : State) (i : Site) (f : SiteState → SiteState) : (setSite s i f).fw = s.fw := rfl
@[simp] theorem setSite_smb (s : State) (i : Site) (f : SiteState → SiteState) : (setSite s i f).smb = s.smb := rfl
@[simp] theorem setSite_lb (s : State) (i : Site) (f : SiteState → SiteState) : (setSite s i f).lb = s.lb := rfl
@[simp] theorem setSite_engines (s : State) (i : Site) (f : SiteState → SiteState) : (setSite s i f).engines = s.engines := rfl
@[simp] theorem setSite_crossings (s : State) (i : Site) (f : SiteState → SiteState) : (setSite s i f).crossings = s.crossings := rfl

/-! setEngine -/

@[simp] theorem setEngine_pending (s : State) (e : EngineId) (f : Engine → Engine) : (setEngine s e f).pending = s.pending := rfl
@[simp] theorem setEngine_out (s : State) (e : EngineId) (f : Engine → Engine) : (setEngine s e f).out = s.out := rfl
@[simp] theorem setEngine_fresh (s : State) (e : EngineId) (f : Engine → Engine) : (setEngine s e f).fresh = s.fresh := rfl
@[simp] theorem setEngine_clock (s : State) (e : EngineId) (f : Engine → Engine) : (setEngine s e f).clock = s.clock := rfl
@[simp] theorem setEngine_power (s : State) (e : EngineId) (f : Engine → Engine) : (setEngine s e f).power = s.power := rfl
@[simp] theorem setEngine_startup (s : State) (e : EngineId) (f : Engine → Engine) : (setEngine s e f).startup = s.startup := rfl
@[simp] theorem setEngine_rails (s : State) (e : EngineId) (f : Engine → Engine) : (setEngine s e f).rails = s.rails := rfl
@[simp] theorem setEngine_button (s : State) (e : EngineId) (f : Engine → Engine) : (setEngine s e f).button = s.button := rfl
@[simp] theorem setEngine_thermal (s : State) (e : EngineId) (f : Engine → Engine) : (setEngine s e f).thermal = s.thermal := rfl
@[simp] theorem setEngine_pack (s : State) (e : EngineId) (f : Engine → Engine) : (setEngine s e f).pack = s.pack := rfl
@[simp] theorem setEngine_bank (s : State) (e : EngineId) (f : Engine → Engine) : (setEngine s e f).bank = s.bank := rfl
@[simp] theorem setEngine_charger (s : State) (e : EngineId) (f : Engine → Engine) : (setEngine s e f).charger = s.charger := rfl
@[simp] theorem setEngine_security (s : State) (e : EngineId) (f : Engine → Engine) : (setEngine s e f).security = s.security := rfl
@[simp] theorem setEngine_host (s : State) (e : EngineId) (f : Engine → Engine) : (setEngine s e f).host = s.host := rfl
@[simp] theorem setEngine_rt (s : State) (e : EngineId) (f : Engine → Engine) : (setEngine s e f).rt = s.rt := rfl
@[simp] theorem setEngine_persist (s : State) (e : EngineId) (f : Engine → Engine) : (setEngine s e f).persist = s.persist := rfl
@[simp] theorem setEngine_dram (s : State) (e : EngineId) (f : Engine → Engine) : (setEngine s e f).dram = s.dram := rfl
@[simp] theorem setEngine_shroud (s : State) (e : EngineId) (f : Engine → Engine) : (setEngine s e f).shroud = s.shroud := rfl
@[simp] theorem setEngine_flash (s : State) (e : EngineId) (f : Engine → Engine) : (setEngine s e f).flash = s.flash := rfl
@[simp] theorem setEngine_save (s : State) (e : EngineId) (f : Engine → Engine) : (setEngine s e f).save = s.save := rfl
@[simp] theorem setEngine_restore (s : State) (e : EngineId) (f : Engine → Engine) : (setEngine s e f).restore = s.restore := rfl
@[simp] theorem setEngine_notices (s : State) (e : EngineId) (f : Engine → Engine) : (setEngine s e f).notices = s.notices := rfl
@[simp] theorem setEngine_qmp (s : State) (e : EngineId) (f : Engine → Engine) : (setEngine s e f).qmp = s.qmp := rfl
@[simp] theorem setEngine_recorder (s : State) (e : EngineId) (f : Engine → Engine) : (setEngine s e f).recorder = s.recorder := rfl
@[simp] theorem setEngine_faults (s : State) (e : EngineId) (f : Engine → Engine) : (setEngine s e f).faults = s.faults := rfl
@[simp] theorem setEngine_cf (s : State) (e : EngineId) (f : Engine → Engine) : (setEngine s e f).cf = s.cf := rfl
@[simp] theorem setEngine_fw (s : State) (e : EngineId) (f : Engine → Engine) : (setEngine s e f).fw = s.fw := rfl
@[simp] theorem setEngine_smb (s : State) (e : EngineId) (f : Engine → Engine) : (setEngine s e f).smb = s.smb := rfl
@[simp] theorem setEngine_lb (s : State) (e : EngineId) (f : Engine → Engine) : (setEngine s e f).lb = s.lb := rfl
@[simp] theorem setEngine_crossings (s : State) (e : EngineId) (f : Engine → Engine) : (setEngine s e f).crossings = s.crossings := rfl

/-! setBlock -/

@[simp] theorem setBlock_pending (s : State) (ch : FlashCh) (die : Fin 16) (idx : Nat) (f : BlockSet → BlockSet) : (setBlock s ch die idx f).pending = s.pending := rfl
@[simp] theorem setBlock_out (s : State) (ch : FlashCh) (die : Fin 16) (idx : Nat) (f : BlockSet → BlockSet) : (setBlock s ch die idx f).out = s.out := rfl
@[simp] theorem setBlock_fresh (s : State) (ch : FlashCh) (die : Fin 16) (idx : Nat) (f : BlockSet → BlockSet) : (setBlock s ch die idx f).fresh = s.fresh := rfl
@[simp] theorem setBlock_clock (s : State) (ch : FlashCh) (die : Fin 16) (idx : Nat) (f : BlockSet → BlockSet) : (setBlock s ch die idx f).clock = s.clock := rfl
@[simp] theorem setBlock_power (s : State) (ch : FlashCh) (die : Fin 16) (idx : Nat) (f : BlockSet → BlockSet) : (setBlock s ch die idx f).power = s.power := rfl
@[simp] theorem setBlock_startup (s : State) (ch : FlashCh) (die : Fin 16) (idx : Nat) (f : BlockSet → BlockSet) : (setBlock s ch die idx f).startup = s.startup := rfl
@[simp] theorem setBlock_rails (s : State) (ch : FlashCh) (die : Fin 16) (idx : Nat) (f : BlockSet → BlockSet) : (setBlock s ch die idx f).rails = s.rails := rfl
@[simp] theorem setBlock_button (s : State) (ch : FlashCh) (die : Fin 16) (idx : Nat) (f : BlockSet → BlockSet) : (setBlock s ch die idx f).button = s.button := rfl
@[simp] theorem setBlock_thermal (s : State) (ch : FlashCh) (die : Fin 16) (idx : Nat) (f : BlockSet → BlockSet) : (setBlock s ch die idx f).thermal = s.thermal := rfl
@[simp] theorem setBlock_pack (s : State) (ch : FlashCh) (die : Fin 16) (idx : Nat) (f : BlockSet → BlockSet) : (setBlock s ch die idx f).pack = s.pack := rfl
@[simp] theorem setBlock_bank (s : State) (ch : FlashCh) (die : Fin 16) (idx : Nat) (f : BlockSet → BlockSet) : (setBlock s ch die idx f).bank = s.bank := rfl
@[simp] theorem setBlock_charger (s : State) (ch : FlashCh) (die : Fin 16) (idx : Nat) (f : BlockSet → BlockSet) : (setBlock s ch die idx f).charger = s.charger := rfl
@[simp] theorem setBlock_security (s : State) (ch : FlashCh) (die : Fin 16) (idx : Nat) (f : BlockSet → BlockSet) : (setBlock s ch die idx f).security = s.security := rfl
@[simp] theorem setBlock_host (s : State) (ch : FlashCh) (die : Fin 16) (idx : Nat) (f : BlockSet → BlockSet) : (setBlock s ch die idx f).host = s.host := rfl
@[simp] theorem setBlock_rt (s : State) (ch : FlashCh) (die : Fin 16) (idx : Nat) (f : BlockSet → BlockSet) : (setBlock s ch die idx f).rt = s.rt := rfl
@[simp] theorem setBlock_persist (s : State) (ch : FlashCh) (die : Fin 16) (idx : Nat) (f : BlockSet → BlockSet) : (setBlock s ch die idx f).persist = s.persist := rfl
@[simp] theorem setBlock_dram (s : State) (ch : FlashCh) (die : Fin 16) (idx : Nat) (f : BlockSet → BlockSet) : (setBlock s ch die idx f).dram = s.dram := rfl
@[simp] theorem setBlock_shroud (s : State) (ch : FlashCh) (die : Fin 16) (idx : Nat) (f : BlockSet → BlockSet) : (setBlock s ch die idx f).shroud = s.shroud := rfl
@[simp] theorem setBlock_save (s : State) (ch : FlashCh) (die : Fin 16) (idx : Nat) (f : BlockSet → BlockSet) : (setBlock s ch die idx f).save = s.save := rfl
@[simp] theorem setBlock_restore (s : State) (ch : FlashCh) (die : Fin 16) (idx : Nat) (f : BlockSet → BlockSet) : (setBlock s ch die idx f).restore = s.restore := rfl
@[simp] theorem setBlock_notices (s : State) (ch : FlashCh) (die : Fin 16) (idx : Nat) (f : BlockSet → BlockSet) : (setBlock s ch die idx f).notices = s.notices := rfl
@[simp] theorem setBlock_qmp (s : State) (ch : FlashCh) (die : Fin 16) (idx : Nat) (f : BlockSet → BlockSet) : (setBlock s ch die idx f).qmp = s.qmp := rfl
@[simp] theorem setBlock_recorder (s : State) (ch : FlashCh) (die : Fin 16) (idx : Nat) (f : BlockSet → BlockSet) : (setBlock s ch die idx f).recorder = s.recorder := rfl
@[simp] theorem setBlock_faults (s : State) (ch : FlashCh) (die : Fin 16) (idx : Nat) (f : BlockSet → BlockSet) : (setBlock s ch die idx f).faults = s.faults := rfl
@[simp] theorem setBlock_cf (s : State) (ch : FlashCh) (die : Fin 16) (idx : Nat) (f : BlockSet → BlockSet) : (setBlock s ch die idx f).cf = s.cf := rfl
@[simp] theorem setBlock_fw (s : State) (ch : FlashCh) (die : Fin 16) (idx : Nat) (f : BlockSet → BlockSet) : (setBlock s ch die idx f).fw = s.fw := rfl
@[simp] theorem setBlock_smb (s : State) (ch : FlashCh) (die : Fin 16) (idx : Nat) (f : BlockSet → BlockSet) : (setBlock s ch die idx f).smb = s.smb := rfl
@[simp] theorem setBlock_lb (s : State) (ch : FlashCh) (die : Fin 16) (idx : Nat) (f : BlockSet → BlockSet) : (setBlock s ch die idx f).lb = s.lb := rfl
@[simp] theorem setBlock_engines (s : State) (ch : FlashCh) (die : Fin 16) (idx : Nat) (f : BlockSet → BlockSet) : (setBlock s ch die idx f).engines = s.engines := rfl
@[simp] theorem setBlock_crossings (s : State) (ch : FlashCh) (die : Fin 16) (idx : Nat) (f : BlockSet → BlockSet) : (setBlock s ch die idx f).crossings = s.crossings := rfl

/-! setNotice -/

@[simp] theorem setNotice_pending (s : State) (seq : Word) (f : Notice → Notice) : (setNotice s seq f).pending = s.pending := rfl
@[simp] theorem setNotice_out (s : State) (seq : Word) (f : Notice → Notice) : (setNotice s seq f).out = s.out := rfl
@[simp] theorem setNotice_fresh (s : State) (seq : Word) (f : Notice → Notice) : (setNotice s seq f).fresh = s.fresh := rfl
@[simp] theorem setNotice_clock (s : State) (seq : Word) (f : Notice → Notice) : (setNotice s seq f).clock = s.clock := rfl
@[simp] theorem setNotice_power (s : State) (seq : Word) (f : Notice → Notice) : (setNotice s seq f).power = s.power := rfl
@[simp] theorem setNotice_startup (s : State) (seq : Word) (f : Notice → Notice) : (setNotice s seq f).startup = s.startup := rfl
@[simp] theorem setNotice_rails (s : State) (seq : Word) (f : Notice → Notice) : (setNotice s seq f).rails = s.rails := rfl
@[simp] theorem setNotice_button (s : State) (seq : Word) (f : Notice → Notice) : (setNotice s seq f).button = s.button := rfl
@[simp] theorem setNotice_thermal (s : State) (seq : Word) (f : Notice → Notice) : (setNotice s seq f).thermal = s.thermal := rfl
@[simp] theorem setNotice_pack (s : State) (seq : Word) (f : Notice → Notice) : (setNotice s seq f).pack = s.pack := rfl
@[simp] theorem setNotice_bank (s : State) (seq : Word) (f : Notice → Notice) : (setNotice s seq f).bank = s.bank := rfl
@[simp] theorem setNotice_charger (s : State) (seq : Word) (f : Notice → Notice) : (setNotice s seq f).charger = s.charger := rfl
@[simp] theorem setNotice_security (s : State) (seq : Word) (f : Notice → Notice) : (setNotice s seq f).security = s.security := rfl
@[simp] theorem setNotice_host (s : State) (seq : Word) (f : Notice → Notice) : (setNotice s seq f).host = s.host := rfl
@[simp] theorem setNotice_rt (s : State) (seq : Word) (f : Notice → Notice) : (setNotice s seq f).rt = s.rt := rfl
@[simp] theorem setNotice_persist (s : State) (seq : Word) (f : Notice → Notice) : (setNotice s seq f).persist = s.persist := rfl
@[simp] theorem setNotice_dram (s : State) (seq : Word) (f : Notice → Notice) : (setNotice s seq f).dram = s.dram := rfl
@[simp] theorem setNotice_shroud (s : State) (seq : Word) (f : Notice → Notice) : (setNotice s seq f).shroud = s.shroud := rfl
@[simp] theorem setNotice_flash (s : State) (seq : Word) (f : Notice → Notice) : (setNotice s seq f).flash = s.flash := rfl
@[simp] theorem setNotice_save (s : State) (seq : Word) (f : Notice → Notice) : (setNotice s seq f).save = s.save := rfl
@[simp] theorem setNotice_restore (s : State) (seq : Word) (f : Notice → Notice) : (setNotice s seq f).restore = s.restore := rfl
@[simp] theorem setNotice_qmp (s : State) (seq : Word) (f : Notice → Notice) : (setNotice s seq f).qmp = s.qmp := rfl
@[simp] theorem setNotice_recorder (s : State) (seq : Word) (f : Notice → Notice) : (setNotice s seq f).recorder = s.recorder := rfl
@[simp] theorem setNotice_faults (s : State) (seq : Word) (f : Notice → Notice) : (setNotice s seq f).faults = s.faults := rfl
@[simp] theorem setNotice_cf (s : State) (seq : Word) (f : Notice → Notice) : (setNotice s seq f).cf = s.cf := rfl
@[simp] theorem setNotice_fw (s : State) (seq : Word) (f : Notice → Notice) : (setNotice s seq f).fw = s.fw := rfl
@[simp] theorem setNotice_smb (s : State) (seq : Word) (f : Notice → Notice) : (setNotice s seq f).smb = s.smb := rfl
@[simp] theorem setNotice_lb (s : State) (seq : Word) (f : Notice → Notice) : (setNotice s seq f).lb = s.lb := rfl
@[simp] theorem setNotice_engines (s : State) (seq : Word) (f : Notice → Notice) : (setNotice s seq f).engines = s.engines := rfl
@[simp] theorem setNotice_crossings (s : State) (seq : Word) (f : Notice → Notice) : (setNotice s seq f).crossings = s.crossings := rfl

/-! setBucket -/

@[simp] theorem setBucket_pending (s : State) (b : Bucket) : (setBucket s b).pending = s.pending := rfl
@[simp] theorem setBucket_out (s : State) (b : Bucket) : (setBucket s b).out = s.out := rfl
@[simp] theorem setBucket_fresh (s : State) (b : Bucket) : (setBucket s b).fresh = s.fresh := rfl
@[simp] theorem setBucket_clock (s : State) (b : Bucket) : (setBucket s b).clock = s.clock := rfl
@[simp] theorem setBucket_power (s : State) (b : Bucket) : (setBucket s b).power = s.power := rfl
@[simp] theorem setBucket_startup (s : State) (b : Bucket) : (setBucket s b).startup = s.startup := rfl
@[simp] theorem setBucket_rails (s : State) (b : Bucket) : (setBucket s b).rails = s.rails := rfl
@[simp] theorem setBucket_button (s : State) (b : Bucket) : (setBucket s b).button = s.button := rfl
@[simp] theorem setBucket_thermal (s : State) (b : Bucket) : (setBucket s b).thermal = s.thermal := rfl
@[simp] theorem setBucket_pack (s : State) (b : Bucket) : (setBucket s b).pack = s.pack := rfl
@[simp] theorem setBucket_bank (s : State) (b : Bucket) : (setBucket s b).bank = s.bank := rfl
@[simp] theorem setBucket_charger (s : State) (b : Bucket) : (setBucket s b).charger = s.charger := rfl
@[simp] theorem setBucket_security (s : State) (b : Bucket) : (setBucket s b).security = s.security := rfl
@[simp] theorem setBucket_host (s : State) (b : Bucket) : (setBucket s b).host = s.host := rfl
@[simp] theorem setBucket_rt (s : State) (b : Bucket) : (setBucket s b).rt = s.rt := rfl
@[simp] theorem setBucket_persist (s : State) (b : Bucket) : (setBucket s b).persist = s.persist := rfl
@[simp] theorem setBucket_dram (s : State) (b : Bucket) : (setBucket s b).dram = s.dram := rfl
@[simp] theorem setBucket_shroud (s : State) (b : Bucket) : (setBucket s b).shroud = s.shroud := rfl
@[simp] theorem setBucket_flash (s : State) (b : Bucket) : (setBucket s b).flash = s.flash := rfl
@[simp] theorem setBucket_save (s : State) (b : Bucket) : (setBucket s b).save = s.save := rfl
@[simp] theorem setBucket_restore (s : State) (b : Bucket) : (setBucket s b).restore = s.restore := rfl
@[simp] theorem setBucket_notices (s : State) (b : Bucket) : (setBucket s b).notices = s.notices := rfl
@[simp] theorem setBucket_qmp (s : State) (b : Bucket) : (setBucket s b).qmp = s.qmp := rfl
@[simp] theorem setBucket_faults (s : State) (b : Bucket) : (setBucket s b).faults = s.faults := rfl
@[simp] theorem setBucket_cf (s : State) (b : Bucket) : (setBucket s b).cf = s.cf := rfl
@[simp] theorem setBucket_fw (s : State) (b : Bucket) : (setBucket s b).fw = s.fw := rfl
@[simp] theorem setBucket_smb (s : State) (b : Bucket) : (setBucket s b).smb = s.smb := rfl
@[simp] theorem setBucket_lb (s : State) (b : Bucket) : (setBucket s b).lb = s.lb := rfl
@[simp] theorem setBucket_engines (s : State) (b : Bucket) : (setBucket s b).engines = s.engines := rfl
@[simp] theorem setBucket_crossings (s : State) (b : Bucket) : (setBucket s b).crossings = s.crossings := rfl

/-! addPoison -/

@[simp] theorem addPoison_pending (s : State) (line : Nat) (src : PoisonSource) : (addPoison s line src).pending = s.pending := rfl
@[simp] theorem addPoison_out (s : State) (line : Nat) (src : PoisonSource) : (addPoison s line src).out = s.out := rfl
@[simp] theorem addPoison_fresh (s : State) (line : Nat) (src : PoisonSource) : (addPoison s line src).fresh = s.fresh := rfl
@[simp] theorem addPoison_clock (s : State) (line : Nat) (src : PoisonSource) : (addPoison s line src).clock = s.clock := rfl
@[simp] theorem addPoison_power (s : State) (line : Nat) (src : PoisonSource) : (addPoison s line src).power = s.power := rfl
@[simp] theorem addPoison_startup (s : State) (line : Nat) (src : PoisonSource) : (addPoison s line src).startup = s.startup := rfl
@[simp] theorem addPoison_rails (s : State) (line : Nat) (src : PoisonSource) : (addPoison s line src).rails = s.rails := rfl
@[simp] theorem addPoison_button (s : State) (line : Nat) (src : PoisonSource) : (addPoison s line src).button = s.button := rfl
@[simp] theorem addPoison_thermal (s : State) (line : Nat) (src : PoisonSource) : (addPoison s line src).thermal = s.thermal := rfl
@[simp] theorem addPoison_pack (s : State) (line : Nat) (src : PoisonSource) : (addPoison s line src).pack = s.pack := rfl
@[simp] theorem addPoison_bank (s : State) (line : Nat) (src : PoisonSource) : (addPoison s line src).bank = s.bank := rfl
@[simp] theorem addPoison_charger (s : State) (line : Nat) (src : PoisonSource) : (addPoison s line src).charger = s.charger := rfl
@[simp] theorem addPoison_security (s : State) (line : Nat) (src : PoisonSource) : (addPoison s line src).security = s.security := rfl
@[simp] theorem addPoison_rt (s : State) (line : Nat) (src : PoisonSource) : (addPoison s line src).rt = s.rt := rfl
@[simp] theorem addPoison_persist (s : State) (line : Nat) (src : PoisonSource) : (addPoison s line src).persist = s.persist := rfl
@[simp] theorem addPoison_dram (s : State) (line : Nat) (src : PoisonSource) : (addPoison s line src).dram = s.dram := rfl
@[simp] theorem addPoison_shroud (s : State) (line : Nat) (src : PoisonSource) : (addPoison s line src).shroud = s.shroud := rfl
@[simp] theorem addPoison_flash (s : State) (line : Nat) (src : PoisonSource) : (addPoison s line src).flash = s.flash := rfl
@[simp] theorem addPoison_save (s : State) (line : Nat) (src : PoisonSource) : (addPoison s line src).save = s.save := rfl
@[simp] theorem addPoison_restore (s : State) (line : Nat) (src : PoisonSource) : (addPoison s line src).restore = s.restore := rfl
@[simp] theorem addPoison_notices (s : State) (line : Nat) (src : PoisonSource) : (addPoison s line src).notices = s.notices := rfl
@[simp] theorem addPoison_qmp (s : State) (line : Nat) (src : PoisonSource) : (addPoison s line src).qmp = s.qmp := rfl
@[simp] theorem addPoison_recorder (s : State) (line : Nat) (src : PoisonSource) : (addPoison s line src).recorder = s.recorder := rfl
@[simp] theorem addPoison_faults (s : State) (line : Nat) (src : PoisonSource) : (addPoison s line src).faults = s.faults := rfl
@[simp] theorem addPoison_cf (s : State) (line : Nat) (src : PoisonSource) : (addPoison s line src).cf = s.cf := rfl
@[simp] theorem addPoison_fw (s : State) (line : Nat) (src : PoisonSource) : (addPoison s line src).fw = s.fw := rfl
@[simp] theorem addPoison_smb (s : State) (line : Nat) (src : PoisonSource) : (addPoison s line src).smb = s.smb := rfl
@[simp] theorem addPoison_lb (s : State) (line : Nat) (src : PoisonSource) : (addPoison s line src).lb = s.lb := rfl
@[simp] theorem addPoison_engines (s : State) (line : Nat) (src : PoisonSource) : (addPoison s line src).engines = s.engines := rfl
@[simp] theorem addPoison_crossings (s : State) (line : Nat) (src : PoisonSource) : (addPoison s line src).crossings = s.crossings := rfl

/-! dropPoison -/

@[simp] theorem dropPoison_pending (s : State) (line : Nat) : (dropPoison s line).pending = s.pending := rfl
@[simp] theorem dropPoison_out (s : State) (line : Nat) : (dropPoison s line).out = s.out := rfl
@[simp] theorem dropPoison_fresh (s : State) (line : Nat) : (dropPoison s line).fresh = s.fresh := rfl
@[simp] theorem dropPoison_clock (s : State) (line : Nat) : (dropPoison s line).clock = s.clock := rfl
@[simp] theorem dropPoison_power (s : State) (line : Nat) : (dropPoison s line).power = s.power := rfl
@[simp] theorem dropPoison_startup (s : State) (line : Nat) : (dropPoison s line).startup = s.startup := rfl
@[simp] theorem dropPoison_rails (s : State) (line : Nat) : (dropPoison s line).rails = s.rails := rfl
@[simp] theorem dropPoison_button (s : State) (line : Nat) : (dropPoison s line).button = s.button := rfl
@[simp] theorem dropPoison_thermal (s : State) (line : Nat) : (dropPoison s line).thermal = s.thermal := rfl
@[simp] theorem dropPoison_pack (s : State) (line : Nat) : (dropPoison s line).pack = s.pack := rfl
@[simp] theorem dropPoison_bank (s : State) (line : Nat) : (dropPoison s line).bank = s.bank := rfl
@[simp] theorem dropPoison_charger (s : State) (line : Nat) : (dropPoison s line).charger = s.charger := rfl
@[simp] theorem dropPoison_security (s : State) (line : Nat) : (dropPoison s line).security = s.security := rfl
@[simp] theorem dropPoison_rt (s : State) (line : Nat) : (dropPoison s line).rt = s.rt := rfl
@[simp] theorem dropPoison_persist (s : State) (line : Nat) : (dropPoison s line).persist = s.persist := rfl
@[simp] theorem dropPoison_dram (s : State) (line : Nat) : (dropPoison s line).dram = s.dram := rfl
@[simp] theorem dropPoison_shroud (s : State) (line : Nat) : (dropPoison s line).shroud = s.shroud := rfl
@[simp] theorem dropPoison_flash (s : State) (line : Nat) : (dropPoison s line).flash = s.flash := rfl
@[simp] theorem dropPoison_save (s : State) (line : Nat) : (dropPoison s line).save = s.save := rfl
@[simp] theorem dropPoison_restore (s : State) (line : Nat) : (dropPoison s line).restore = s.restore := rfl
@[simp] theorem dropPoison_notices (s : State) (line : Nat) : (dropPoison s line).notices = s.notices := rfl
@[simp] theorem dropPoison_qmp (s : State) (line : Nat) : (dropPoison s line).qmp = s.qmp := rfl
@[simp] theorem dropPoison_recorder (s : State) (line : Nat) : (dropPoison s line).recorder = s.recorder := rfl
@[simp] theorem dropPoison_faults (s : State) (line : Nat) : (dropPoison s line).faults = s.faults := rfl
@[simp] theorem dropPoison_cf (s : State) (line : Nat) : (dropPoison s line).cf = s.cf := rfl
@[simp] theorem dropPoison_fw (s : State) (line : Nat) : (dropPoison s line).fw = s.fw := rfl
@[simp] theorem dropPoison_smb (s : State) (line : Nat) : (dropPoison s line).smb = s.smb := rfl
@[simp] theorem dropPoison_lb (s : State) (line : Nat) : (dropPoison s line).lb = s.lb := rfl
@[simp] theorem dropPoison_engines (s : State) (line : Nat) : (dropPoison s line).engines = s.engines := rfl
@[simp] theorem dropPoison_crossings (s : State) (line : Nat) : (dropPoison s line).crossings = s.crossings := rfl

/-! countDirtyShutdown -/

@[simp] theorem countDirtyShutdown_pending (s : State) : (countDirtyShutdown s).pending = s.pending := rfl
@[simp] theorem countDirtyShutdown_out (s : State) : (countDirtyShutdown s).out = s.out := rfl
@[simp] theorem countDirtyShutdown_fresh (s : State) : (countDirtyShutdown s).fresh = s.fresh := rfl
@[simp] theorem countDirtyShutdown_clock (s : State) : (countDirtyShutdown s).clock = s.clock := rfl
@[simp] theorem countDirtyShutdown_power (s : State) : (countDirtyShutdown s).power = s.power := rfl
@[simp] theorem countDirtyShutdown_startup (s : State) : (countDirtyShutdown s).startup = s.startup := rfl
@[simp] theorem countDirtyShutdown_rails (s : State) : (countDirtyShutdown s).rails = s.rails := rfl
@[simp] theorem countDirtyShutdown_button (s : State) : (countDirtyShutdown s).button = s.button := rfl
@[simp] theorem countDirtyShutdown_thermal (s : State) : (countDirtyShutdown s).thermal = s.thermal := rfl
@[simp] theorem countDirtyShutdown_pack (s : State) : (countDirtyShutdown s).pack = s.pack := rfl
@[simp] theorem countDirtyShutdown_bank (s : State) : (countDirtyShutdown s).bank = s.bank := rfl
@[simp] theorem countDirtyShutdown_charger (s : State) : (countDirtyShutdown s).charger = s.charger := rfl
@[simp] theorem countDirtyShutdown_security (s : State) : (countDirtyShutdown s).security = s.security := rfl
@[simp] theorem countDirtyShutdown_rt (s : State) : (countDirtyShutdown s).rt = s.rt := rfl
@[simp] theorem countDirtyShutdown_persist (s : State) : (countDirtyShutdown s).persist = s.persist := rfl
@[simp] theorem countDirtyShutdown_dram (s : State) : (countDirtyShutdown s).dram = s.dram := rfl
@[simp] theorem countDirtyShutdown_shroud (s : State) : (countDirtyShutdown s).shroud = s.shroud := rfl
@[simp] theorem countDirtyShutdown_flash (s : State) : (countDirtyShutdown s).flash = s.flash := rfl
@[simp] theorem countDirtyShutdown_save (s : State) : (countDirtyShutdown s).save = s.save := rfl
@[simp] theorem countDirtyShutdown_restore (s : State) : (countDirtyShutdown s).restore = s.restore := rfl
@[simp] theorem countDirtyShutdown_notices (s : State) : (countDirtyShutdown s).notices = s.notices := rfl
@[simp] theorem countDirtyShutdown_qmp (s : State) : (countDirtyShutdown s).qmp = s.qmp := rfl
@[simp] theorem countDirtyShutdown_recorder (s : State) : (countDirtyShutdown s).recorder = s.recorder := rfl
@[simp] theorem countDirtyShutdown_faults (s : State) : (countDirtyShutdown s).faults = s.faults := rfl
@[simp] theorem countDirtyShutdown_cf (s : State) : (countDirtyShutdown s).cf = s.cf := rfl
@[simp] theorem countDirtyShutdown_fw (s : State) : (countDirtyShutdown s).fw = s.fw := rfl
@[simp] theorem countDirtyShutdown_smb (s : State) : (countDirtyShutdown s).smb = s.smb := rfl
@[simp] theorem countDirtyShutdown_lb (s : State) : (countDirtyShutdown s).lb = s.lb := rfl
@[simp] theorem countDirtyShutdown_engines (s : State) : (countDirtyShutdown s).engines = s.engines := rfl
@[simp] theorem countDirtyShutdown_crossings (s : State) : (countDirtyShutdown s).crossings = s.crossings := rfl

/-! clearDirty -/

@[simp] theorem clearDirty_pending (s : State) (g : Nat) : (clearDirty s g).pending = s.pending := rfl
@[simp] theorem clearDirty_out (s : State) (g : Nat) : (clearDirty s g).out = s.out := rfl
@[simp] theorem clearDirty_fresh (s : State) (g : Nat) : (clearDirty s g).fresh = s.fresh := rfl
@[simp] theorem clearDirty_clock (s : State) (g : Nat) : (clearDirty s g).clock = s.clock := rfl
@[simp] theorem clearDirty_power (s : State) (g : Nat) : (clearDirty s g).power = s.power := rfl
@[simp] theorem clearDirty_startup (s : State) (g : Nat) : (clearDirty s g).startup = s.startup := rfl
@[simp] theorem clearDirty_rails (s : State) (g : Nat) : (clearDirty s g).rails = s.rails := rfl
@[simp] theorem clearDirty_button (s : State) (g : Nat) : (clearDirty s g).button = s.button := rfl
@[simp] theorem clearDirty_thermal (s : State) (g : Nat) : (clearDirty s g).thermal = s.thermal := rfl
@[simp] theorem clearDirty_pack (s : State) (g : Nat) : (clearDirty s g).pack = s.pack := rfl
@[simp] theorem clearDirty_bank (s : State) (g : Nat) : (clearDirty s g).bank = s.bank := rfl
@[simp] theorem clearDirty_charger (s : State) (g : Nat) : (clearDirty s g).charger = s.charger := rfl
@[simp] theorem clearDirty_security (s : State) (g : Nat) : (clearDirty s g).security = s.security := rfl
@[simp] theorem clearDirty_host (s : State) (g : Nat) : (clearDirty s g).host = s.host := rfl
@[simp] theorem clearDirty_rt (s : State) (g : Nat) : (clearDirty s g).rt = s.rt := rfl
@[simp] theorem clearDirty_dram (s : State) (g : Nat) : (clearDirty s g).dram = s.dram := rfl
@[simp] theorem clearDirty_shroud (s : State) (g : Nat) : (clearDirty s g).shroud = s.shroud := rfl
@[simp] theorem clearDirty_flash (s : State) (g : Nat) : (clearDirty s g).flash = s.flash := rfl
@[simp] theorem clearDirty_save (s : State) (g : Nat) : (clearDirty s g).save = s.save := rfl
@[simp] theorem clearDirty_restore (s : State) (g : Nat) : (clearDirty s g).restore = s.restore := rfl
@[simp] theorem clearDirty_notices (s : State) (g : Nat) : (clearDirty s g).notices = s.notices := rfl
@[simp] theorem clearDirty_qmp (s : State) (g : Nat) : (clearDirty s g).qmp = s.qmp := rfl
@[simp] theorem clearDirty_recorder (s : State) (g : Nat) : (clearDirty s g).recorder = s.recorder := rfl
@[simp] theorem clearDirty_faults (s : State) (g : Nat) : (clearDirty s g).faults = s.faults := rfl
@[simp] theorem clearDirty_cf (s : State) (g : Nat) : (clearDirty s g).cf = s.cf := rfl
@[simp] theorem clearDirty_fw (s : State) (g : Nat) : (clearDirty s g).fw = s.fw := rfl
@[simp] theorem clearDirty_smb (s : State) (g : Nat) : (clearDirty s g).smb = s.smb := rfl
@[simp] theorem clearDirty_lb (s : State) (g : Nat) : (clearDirty s g).lb = s.lb := rfl
@[simp] theorem clearDirty_engines (s : State) (g : Nat) : (clearDirty s g).engines = s.engines := rfl
@[simp] theorem clearDirty_crossings (s : State) (g : Nat) : (clearDirty s g).crossings = s.crossings := rfl

/-! passTime -/

@[simp] theorem passTime_pending (s : State) : (passTime s).pending = s.pending := rfl
@[simp] theorem passTime_out (s : State) : (passTime s).out = s.out := rfl
@[simp] theorem passTime_fresh (s : State) : (passTime s).fresh = s.fresh := rfl
@[simp] theorem passTime_power (s : State) : (passTime s).power = s.power := rfl
@[simp] theorem passTime_startup (s : State) : (passTime s).startup = s.startup := rfl
@[simp] theorem passTime_rails (s : State) : (passTime s).rails = s.rails := rfl
@[simp] theorem passTime_button (s : State) : (passTime s).button = s.button := rfl
@[simp] theorem passTime_thermal (s : State) : (passTime s).thermal = s.thermal := rfl
@[simp] theorem passTime_pack (s : State) : (passTime s).pack = s.pack := rfl
@[simp] theorem passTime_bank (s : State) : (passTime s).bank = s.bank := rfl
@[simp] theorem passTime_charger (s : State) : (passTime s).charger = s.charger := rfl
@[simp] theorem passTime_security (s : State) : (passTime s).security = s.security := rfl
@[simp] theorem passTime_host (s : State) : (passTime s).host = s.host := rfl
@[simp] theorem passTime_rt (s : State) : (passTime s).rt = s.rt := rfl
@[simp] theorem passTime_persist (s : State) : (passTime s).persist = s.persist := rfl
@[simp] theorem passTime_dram (s : State) : (passTime s).dram = s.dram := rfl
@[simp] theorem passTime_shroud (s : State) : (passTime s).shroud = s.shroud := rfl
@[simp] theorem passTime_flash (s : State) : (passTime s).flash = s.flash := rfl
@[simp] theorem passTime_save (s : State) : (passTime s).save = s.save := rfl
@[simp] theorem passTime_restore (s : State) : (passTime s).restore = s.restore := rfl
@[simp] theorem passTime_notices (s : State) : (passTime s).notices = s.notices := rfl
@[simp] theorem passTime_qmp (s : State) : (passTime s).qmp = s.qmp := rfl
@[simp] theorem passTime_recorder (s : State) : (passTime s).recorder = s.recorder := rfl
@[simp] theorem passTime_faults (s : State) : (passTime s).faults = s.faults := rfl
@[simp] theorem passTime_fw (s : State) : (passTime s).fw = s.fw := rfl
@[simp] theorem passTime_smb (s : State) : (passTime s).smb = s.smb := rfl
@[simp] theorem passTime_lb (s : State) : (passTime s).lb = s.lb := rfl
@[simp] theorem passTime_engines (s : State) : (passTime s).engines = s.engines := rfl
@[simp] theorem passTime_crossings (s : State) : (passTime s).crossings = s.crossings := rfl

/-! setCause -/

@[simp] theorem setCause_pending (s : State) (c rail : Nat) : (setCause s c rail).pending = s.pending := rfl
@[simp] theorem setCause_out (s : State) (c rail : Nat) : (setCause s c rail).out = s.out := rfl
@[simp] theorem setCause_fresh (s : State) (c rail : Nat) : (setCause s c rail).fresh = s.fresh := rfl
@[simp] theorem setCause_clock (s : State) (c rail : Nat) : (setCause s c rail).clock = s.clock := rfl
@[simp] theorem setCause_power (s : State) (c rail : Nat) : (setCause s c rail).power = s.power := rfl
@[simp] theorem setCause_startup (s : State) (c rail : Nat) : (setCause s c rail).startup = s.startup := rfl
@[simp] theorem setCause_rails (s : State) (c rail : Nat) : (setCause s c rail).rails = s.rails := rfl
@[simp] theorem setCause_thermal (s : State) (c rail : Nat) : (setCause s c rail).thermal = s.thermal := rfl
@[simp] theorem setCause_pack (s : State) (c rail : Nat) : (setCause s c rail).pack = s.pack := rfl
@[simp] theorem setCause_bank (s : State) (c rail : Nat) : (setCause s c rail).bank = s.bank := rfl
@[simp] theorem setCause_charger (s : State) (c rail : Nat) : (setCause s c rail).charger = s.charger := rfl
@[simp] theorem setCause_security (s : State) (c rail : Nat) : (setCause s c rail).security = s.security := rfl
@[simp] theorem setCause_host (s : State) (c rail : Nat) : (setCause s c rail).host = s.host := rfl
@[simp] theorem setCause_rt (s : State) (c rail : Nat) : (setCause s c rail).rt = s.rt := rfl
@[simp] theorem setCause_persist (s : State) (c rail : Nat) : (setCause s c rail).persist = s.persist := rfl
@[simp] theorem setCause_dram (s : State) (c rail : Nat) : (setCause s c rail).dram = s.dram := rfl
@[simp] theorem setCause_shroud (s : State) (c rail : Nat) : (setCause s c rail).shroud = s.shroud := rfl
@[simp] theorem setCause_flash (s : State) (c rail : Nat) : (setCause s c rail).flash = s.flash := rfl
@[simp] theorem setCause_save (s : State) (c rail : Nat) : (setCause s c rail).save = s.save := rfl
@[simp] theorem setCause_restore (s : State) (c rail : Nat) : (setCause s c rail).restore = s.restore := rfl
@[simp] theorem setCause_notices (s : State) (c rail : Nat) : (setCause s c rail).notices = s.notices := rfl
@[simp] theorem setCause_qmp (s : State) (c rail : Nat) : (setCause s c rail).qmp = s.qmp := rfl
@[simp] theorem setCause_recorder (s : State) (c rail : Nat) : (setCause s c rail).recorder = s.recorder := rfl
@[simp] theorem setCause_faults (s : State) (c rail : Nat) : (setCause s c rail).faults = s.faults := rfl
@[simp] theorem setCause_cf (s : State) (c rail : Nat) : (setCause s c rail).cf = s.cf := rfl
@[simp] theorem setCause_fw (s : State) (c rail : Nat) : (setCause s c rail).fw = s.fw := rfl
@[simp] theorem setCause_smb (s : State) (c rail : Nat) : (setCause s c rail).smb = s.smb := rfl
@[simp] theorem setCause_lb (s : State) (c rail : Nat) : (setCause s c rail).lb = s.lb := rfl
@[simp] theorem setCause_engines (s : State) (c rail : Nat) : (setCause s c rail).engines = s.engines := rfl
@[simp] theorem setCause_crossings (s : State) (c rail : Nat) : (setCause s c rail).crossings = s.crossings := rfl

/-! setPort -/

@[simp] theorem setPort_pending (s : State) (up : Bool) (f : HyPort → HyPort) : (setPort s up f).pending = s.pending := rfl
@[simp] theorem setPort_out (s : State) (up : Bool) (f : HyPort → HyPort) : (setPort s up f).out = s.out := rfl
@[simp] theorem setPort_fresh (s : State) (up : Bool) (f : HyPort → HyPort) : (setPort s up f).fresh = s.fresh := rfl
@[simp] theorem setPort_clock (s : State) (up : Bool) (f : HyPort → HyPort) : (setPort s up f).clock = s.clock := rfl
@[simp] theorem setPort_power (s : State) (up : Bool) (f : HyPort → HyPort) : (setPort s up f).power = s.power := rfl
@[simp] theorem setPort_startup (s : State) (up : Bool) (f : HyPort → HyPort) : (setPort s up f).startup = s.startup := rfl
@[simp] theorem setPort_rails (s : State) (up : Bool) (f : HyPort → HyPort) : (setPort s up f).rails = s.rails := rfl
@[simp] theorem setPort_button (s : State) (up : Bool) (f : HyPort → HyPort) : (setPort s up f).button = s.button := rfl
@[simp] theorem setPort_thermal (s : State) (up : Bool) (f : HyPort → HyPort) : (setPort s up f).thermal = s.thermal := rfl
@[simp] theorem setPort_pack (s : State) (up : Bool) (f : HyPort → HyPort) : (setPort s up f).pack = s.pack := rfl
@[simp] theorem setPort_bank (s : State) (up : Bool) (f : HyPort → HyPort) : (setPort s up f).bank = s.bank := rfl
@[simp] theorem setPort_charger (s : State) (up : Bool) (f : HyPort → HyPort) : (setPort s up f).charger = s.charger := rfl
@[simp] theorem setPort_security (s : State) (up : Bool) (f : HyPort → HyPort) : (setPort s up f).security = s.security := rfl
@[simp] theorem setPort_host (s : State) (up : Bool) (f : HyPort → HyPort) : (setPort s up f).host = s.host := rfl
@[simp] theorem setPort_rt (s : State) (up : Bool) (f : HyPort → HyPort) : (setPort s up f).rt = s.rt := rfl
@[simp] theorem setPort_persist (s : State) (up : Bool) (f : HyPort → HyPort) : (setPort s up f).persist = s.persist := rfl
@[simp] theorem setPort_dram (s : State) (up : Bool) (f : HyPort → HyPort) : (setPort s up f).dram = s.dram := rfl
@[simp] theorem setPort_shroud (s : State) (up : Bool) (f : HyPort → HyPort) : (setPort s up f).shroud = s.shroud := rfl
@[simp] theorem setPort_flash (s : State) (up : Bool) (f : HyPort → HyPort) : (setPort s up f).flash = s.flash := rfl
@[simp] theorem setPort_save (s : State) (up : Bool) (f : HyPort → HyPort) : (setPort s up f).save = s.save := rfl
@[simp] theorem setPort_restore (s : State) (up : Bool) (f : HyPort → HyPort) : (setPort s up f).restore = s.restore := rfl
@[simp] theorem setPort_notices (s : State) (up : Bool) (f : HyPort → HyPort) : (setPort s up f).notices = s.notices := rfl
@[simp] theorem setPort_qmp (s : State) (up : Bool) (f : HyPort → HyPort) : (setPort s up f).qmp = s.qmp := rfl
@[simp] theorem setPort_recorder (s : State) (up : Bool) (f : HyPort → HyPort) : (setPort s up f).recorder = s.recorder := rfl
@[simp] theorem setPort_faults (s : State) (up : Bool) (f : HyPort → HyPort) : (setPort s up f).faults = s.faults := rfl
@[simp] theorem setPort_cf (s : State) (up : Bool) (f : HyPort → HyPort) : (setPort s up f).cf = s.cf := rfl
@[simp] theorem setPort_smb (s : State) (up : Bool) (f : HyPort → HyPort) : (setPort s up f).smb = s.smb := rfl
@[simp] theorem setPort_lb (s : State) (up : Bool) (f : HyPort → HyPort) : (setPort s up f).lb = s.lb := rfl
@[simp] theorem setPort_engines (s : State) (up : Bool) (f : HyPort → HyPort) : (setPort s up f).engines = s.engines := rfl
@[simp] theorem setPort_crossings (s : State) (up : Bool) (f : HyPort → HyPort) : (setPort s up f).crossings = s.crossings := rfl

/-! setHoldflag -/

@[simp] theorem setHoldflag_pending (s : State) (v : Bool) : (setHoldflag s v).pending = s.pending := rfl
@[simp] theorem setHoldflag_out (s : State) (v : Bool) : (setHoldflag s v).out = s.out := rfl
@[simp] theorem setHoldflag_fresh (s : State) (v : Bool) : (setHoldflag s v).fresh = s.fresh := rfl
@[simp] theorem setHoldflag_clock (s : State) (v : Bool) : (setHoldflag s v).clock = s.clock := rfl
@[simp] theorem setHoldflag_power (s : State) (v : Bool) : (setHoldflag s v).power = s.power := rfl
@[simp] theorem setHoldflag_startup (s : State) (v : Bool) : (setHoldflag s v).startup = s.startup := rfl
@[simp] theorem setHoldflag_rails (s : State) (v : Bool) : (setHoldflag s v).rails = s.rails := rfl
@[simp] theorem setHoldflag_button (s : State) (v : Bool) : (setHoldflag s v).button = s.button := rfl
@[simp] theorem setHoldflag_thermal (s : State) (v : Bool) : (setHoldflag s v).thermal = s.thermal := rfl
@[simp] theorem setHoldflag_pack (s : State) (v : Bool) : (setHoldflag s v).pack = s.pack := rfl
@[simp] theorem setHoldflag_bank (s : State) (v : Bool) : (setHoldflag s v).bank = s.bank := rfl
@[simp] theorem setHoldflag_charger (s : State) (v : Bool) : (setHoldflag s v).charger = s.charger := rfl
@[simp] theorem setHoldflag_security (s : State) (v : Bool) : (setHoldflag s v).security = s.security := rfl
@[simp] theorem setHoldflag_host (s : State) (v : Bool) : (setHoldflag s v).host = s.host := rfl
@[simp] theorem setHoldflag_rt (s : State) (v : Bool) : (setHoldflag s v).rt = s.rt := rfl
@[simp] theorem setHoldflag_persist (s : State) (v : Bool) : (setHoldflag s v).persist = s.persist := rfl
@[simp] theorem setHoldflag_dram (s : State) (v : Bool) : (setHoldflag s v).dram = s.dram := rfl
@[simp] theorem setHoldflag_shroud (s : State) (v : Bool) : (setHoldflag s v).shroud = s.shroud := rfl
@[simp] theorem setHoldflag_flash (s : State) (v : Bool) : (setHoldflag s v).flash = s.flash := rfl
@[simp] theorem setHoldflag_save (s : State) (v : Bool) : (setHoldflag s v).save = s.save := rfl
@[simp] theorem setHoldflag_restore (s : State) (v : Bool) : (setHoldflag s v).restore = s.restore := rfl
@[simp] theorem setHoldflag_notices (s : State) (v : Bool) : (setHoldflag s v).notices = s.notices := rfl
@[simp] theorem setHoldflag_qmp (s : State) (v : Bool) : (setHoldflag s v).qmp = s.qmp := rfl
@[simp] theorem setHoldflag_recorder (s : State) (v : Bool) : (setHoldflag s v).recorder = s.recorder := rfl
@[simp] theorem setHoldflag_faults (s : State) (v : Bool) : (setHoldflag s v).faults = s.faults := rfl
@[simp] theorem setHoldflag_cf (s : State) (v : Bool) : (setHoldflag s v).cf = s.cf := rfl
@[simp] theorem setHoldflag_fw (s : State) (v : Bool) : (setHoldflag s v).fw = s.fw := rfl
@[simp] theorem setHoldflag_smb (s : State) (v : Bool) : (setHoldflag s v).smb = s.smb := rfl
@[simp] theorem setHoldflag_lb (s : State) (v : Bool) : (setHoldflag s v).lb = s.lb := rfl
@[simp] theorem setHoldflag_engines (s : State) (v : Bool) : (setHoldflag s v).engines = s.engines := rfl

/-! touch -/

@[simp] theorem touch_pending (s : State) (st : Nat) (isWrite : Bool) (chs : List DramCh) : (touch s st isWrite chs).pending = s.pending := rfl
@[simp] theorem touch_out (s : State) (st : Nat) (isWrite : Bool) (chs : List DramCh) : (touch s st isWrite chs).out = s.out := rfl
@[simp] theorem touch_fresh (s : State) (st : Nat) (isWrite : Bool) (chs : List DramCh) : (touch s st isWrite chs).fresh = s.fresh := rfl
@[simp] theorem touch_clock (s : State) (st : Nat) (isWrite : Bool) (chs : List DramCh) : (touch s st isWrite chs).clock = s.clock := rfl
@[simp] theorem touch_startup (s : State) (st : Nat) (isWrite : Bool) (chs : List DramCh) : (touch s st isWrite chs).startup = s.startup := rfl
@[simp] theorem touch_rails (s : State) (st : Nat) (isWrite : Bool) (chs : List DramCh) : (touch s st isWrite chs).rails = s.rails := rfl
@[simp] theorem touch_button (s : State) (st : Nat) (isWrite : Bool) (chs : List DramCh) : (touch s st isWrite chs).button = s.button := rfl
@[simp] theorem touch_thermal (s : State) (st : Nat) (isWrite : Bool) (chs : List DramCh) : (touch s st isWrite chs).thermal = s.thermal := rfl
@[simp] theorem touch_pack (s : State) (st : Nat) (isWrite : Bool) (chs : List DramCh) : (touch s st isWrite chs).pack = s.pack := rfl
@[simp] theorem touch_bank (s : State) (st : Nat) (isWrite : Bool) (chs : List DramCh) : (touch s st isWrite chs).bank = s.bank := rfl
@[simp] theorem touch_charger (s : State) (st : Nat) (isWrite : Bool) (chs : List DramCh) : (touch s st isWrite chs).charger = s.charger := rfl
@[simp] theorem touch_security (s : State) (st : Nat) (isWrite : Bool) (chs : List DramCh) : (touch s st isWrite chs).security = s.security := rfl
@[simp] theorem touch_host (s : State) (st : Nat) (isWrite : Bool) (chs : List DramCh) : (touch s st isWrite chs).host = s.host := rfl
@[simp] theorem touch_rt (s : State) (st : Nat) (isWrite : Bool) (chs : List DramCh) : (touch s st isWrite chs).rt = s.rt := rfl
@[simp] theorem touch_persist (s : State) (st : Nat) (isWrite : Bool) (chs : List DramCh) : (touch s st isWrite chs).persist = s.persist := rfl
@[simp] theorem touch_shroud (s : State) (st : Nat) (isWrite : Bool) (chs : List DramCh) : (touch s st isWrite chs).shroud = s.shroud := rfl
@[simp] theorem touch_flash (s : State) (st : Nat) (isWrite : Bool) (chs : List DramCh) : (touch s st isWrite chs).flash = s.flash := rfl
@[simp] theorem touch_save (s : State) (st : Nat) (isWrite : Bool) (chs : List DramCh) : (touch s st isWrite chs).save = s.save := rfl
@[simp] theorem touch_restore (s : State) (st : Nat) (isWrite : Bool) (chs : List DramCh) : (touch s st isWrite chs).restore = s.restore := rfl
@[simp] theorem touch_notices (s : State) (st : Nat) (isWrite : Bool) (chs : List DramCh) : (touch s st isWrite chs).notices = s.notices := rfl
@[simp] theorem touch_qmp (s : State) (st : Nat) (isWrite : Bool) (chs : List DramCh) : (touch s st isWrite chs).qmp = s.qmp := rfl
@[simp] theorem touch_recorder (s : State) (st : Nat) (isWrite : Bool) (chs : List DramCh) : (touch s st isWrite chs).recorder = s.recorder := rfl
@[simp] theorem touch_faults (s : State) (st : Nat) (isWrite : Bool) (chs : List DramCh) : (touch s st isWrite chs).faults = s.faults := rfl
@[simp] theorem touch_cf (s : State) (st : Nat) (isWrite : Bool) (chs : List DramCh) : (touch s st isWrite chs).cf = s.cf := rfl
@[simp] theorem touch_fw (s : State) (st : Nat) (isWrite : Bool) (chs : List DramCh) : (touch s st isWrite chs).fw = s.fw := rfl
@[simp] theorem touch_smb (s : State) (st : Nat) (isWrite : Bool) (chs : List DramCh) : (touch s st isWrite chs).smb = s.smb := rfl
@[simp] theorem touch_lb (s : State) (st : Nat) (isWrite : Bool) (chs : List DramCh) : (touch s st isWrite chs).lb = s.lb := rfl
@[simp] theorem touch_engines (s : State) (st : Nat) (isWrite : Bool) (chs : List DramCh) : (touch s st isWrite chs).engines = s.engines := rfl
@[simp] theorem touch_crossings (s : State) (st : Nat) (isWrite : Bool) (chs : List DramCh) : (touch s st isWrite chs).crossings = s.crossings := rfl

/-! waitIn -/

@[simp] theorem waitIn_pending (s : State) (q : Slot) (w : WaitFor) : (waitIn s q w).pending = s.pending := rfl
@[simp] theorem waitIn_out (s : State) (q : Slot) (w : WaitFor) : (waitIn s q w).out = s.out := rfl
@[simp] theorem waitIn_fresh (s : State) (q : Slot) (w : WaitFor) : (waitIn s q w).fresh = s.fresh := rfl
@[simp] theorem waitIn_clock (s : State) (q : Slot) (w : WaitFor) : (waitIn s q w).clock = s.clock := rfl
@[simp] theorem waitIn_power (s : State) (q : Slot) (w : WaitFor) : (waitIn s q w).power = s.power := rfl
@[simp] theorem waitIn_startup (s : State) (q : Slot) (w : WaitFor) : (waitIn s q w).startup = s.startup := rfl
@[simp] theorem waitIn_rails (s : State) (q : Slot) (w : WaitFor) : (waitIn s q w).rails = s.rails := rfl
@[simp] theorem waitIn_button (s : State) (q : Slot) (w : WaitFor) : (waitIn s q w).button = s.button := rfl
@[simp] theorem waitIn_thermal (s : State) (q : Slot) (w : WaitFor) : (waitIn s q w).thermal = s.thermal := rfl
@[simp] theorem waitIn_pack (s : State) (q : Slot) (w : WaitFor) : (waitIn s q w).pack = s.pack := rfl
@[simp] theorem waitIn_bank (s : State) (q : Slot) (w : WaitFor) : (waitIn s q w).bank = s.bank := rfl
@[simp] theorem waitIn_charger (s : State) (q : Slot) (w : WaitFor) : (waitIn s q w).charger = s.charger := rfl
@[simp] theorem waitIn_security (s : State) (q : Slot) (w : WaitFor) : (waitIn s q w).security = s.security := rfl
@[simp] theorem waitIn_rt (s : State) (q : Slot) (w : WaitFor) : (waitIn s q w).rt = s.rt := rfl
@[simp] theorem waitIn_persist (s : State) (q : Slot) (w : WaitFor) : (waitIn s q w).persist = s.persist := rfl
@[simp] theorem waitIn_dram (s : State) (q : Slot) (w : WaitFor) : (waitIn s q w).dram = s.dram := rfl
@[simp] theorem waitIn_shroud (s : State) (q : Slot) (w : WaitFor) : (waitIn s q w).shroud = s.shroud := rfl
@[simp] theorem waitIn_flash (s : State) (q : Slot) (w : WaitFor) : (waitIn s q w).flash = s.flash := rfl
@[simp] theorem waitIn_save (s : State) (q : Slot) (w : WaitFor) : (waitIn s q w).save = s.save := rfl
@[simp] theorem waitIn_restore (s : State) (q : Slot) (w : WaitFor) : (waitIn s q w).restore = s.restore := rfl
@[simp] theorem waitIn_notices (s : State) (q : Slot) (w : WaitFor) : (waitIn s q w).notices = s.notices := rfl
@[simp] theorem waitIn_qmp (s : State) (q : Slot) (w : WaitFor) : (waitIn s q w).qmp = s.qmp := rfl
@[simp] theorem waitIn_recorder (s : State) (q : Slot) (w : WaitFor) : (waitIn s q w).recorder = s.recorder := rfl
@[simp] theorem waitIn_faults (s : State) (q : Slot) (w : WaitFor) : (waitIn s q w).faults = s.faults := rfl
@[simp] theorem waitIn_cf (s : State) (q : Slot) (w : WaitFor) : (waitIn s q w).cf = s.cf := rfl
@[simp] theorem waitIn_fw (s : State) (q : Slot) (w : WaitFor) : (waitIn s q w).fw = s.fw := rfl
@[simp] theorem waitIn_smb (s : State) (q : Slot) (w : WaitFor) : (waitIn s q w).smb = s.smb := rfl
@[simp] theorem waitIn_lb (s : State) (q : Slot) (w : WaitFor) : (waitIn s q w).lb = s.lb := rfl
@[simp] theorem waitIn_engines (s : State) (q : Slot) (w : WaitFor) : (waitIn s q w).engines = s.engines := rfl
@[simp] theorem waitIn_crossings (s : State) (q : Slot) (w : WaitFor) : (waitIn s q w).crossings = s.crossings := rfl

/-! setLink -/

@[simp] theorem setLink_pending (s : State) (l : Link) (f : HostLink → HostLink) : (setLink s l f).pending = s.pending := rfl
@[simp] theorem setLink_out (s : State) (l : Link) (f : HostLink → HostLink) : (setLink s l f).out = s.out := rfl
@[simp] theorem setLink_fresh (s : State) (l : Link) (f : HostLink → HostLink) : (setLink s l f).fresh = s.fresh := rfl
@[simp] theorem setLink_clock (s : State) (l : Link) (f : HostLink → HostLink) : (setLink s l f).clock = s.clock := rfl
@[simp] theorem setLink_power (s : State) (l : Link) (f : HostLink → HostLink) : (setLink s l f).power = s.power := rfl
@[simp] theorem setLink_startup (s : State) (l : Link) (f : HostLink → HostLink) : (setLink s l f).startup = s.startup := rfl
@[simp] theorem setLink_rails (s : State) (l : Link) (f : HostLink → HostLink) : (setLink s l f).rails = s.rails := rfl
@[simp] theorem setLink_button (s : State) (l : Link) (f : HostLink → HostLink) : (setLink s l f).button = s.button := rfl
@[simp] theorem setLink_thermal (s : State) (l : Link) (f : HostLink → HostLink) : (setLink s l f).thermal = s.thermal := rfl
@[simp] theorem setLink_pack (s : State) (l : Link) (f : HostLink → HostLink) : (setLink s l f).pack = s.pack := rfl
@[simp] theorem setLink_bank (s : State) (l : Link) (f : HostLink → HostLink) : (setLink s l f).bank = s.bank := rfl
@[simp] theorem setLink_charger (s : State) (l : Link) (f : HostLink → HostLink) : (setLink s l f).charger = s.charger := rfl
@[simp] theorem setLink_security (s : State) (l : Link) (f : HostLink → HostLink) : (setLink s l f).security = s.security := rfl
@[simp] theorem setLink_rt (s : State) (l : Link) (f : HostLink → HostLink) : (setLink s l f).rt = s.rt := rfl
@[simp] theorem setLink_persist (s : State) (l : Link) (f : HostLink → HostLink) : (setLink s l f).persist = s.persist := rfl
@[simp] theorem setLink_dram (s : State) (l : Link) (f : HostLink → HostLink) : (setLink s l f).dram = s.dram := rfl
@[simp] theorem setLink_shroud (s : State) (l : Link) (f : HostLink → HostLink) : (setLink s l f).shroud = s.shroud := rfl
@[simp] theorem setLink_flash (s : State) (l : Link) (f : HostLink → HostLink) : (setLink s l f).flash = s.flash := rfl
@[simp] theorem setLink_save (s : State) (l : Link) (f : HostLink → HostLink) : (setLink s l f).save = s.save := rfl
@[simp] theorem setLink_restore (s : State) (l : Link) (f : HostLink → HostLink) : (setLink s l f).restore = s.restore := rfl
@[simp] theorem setLink_notices (s : State) (l : Link) (f : HostLink → HostLink) : (setLink s l f).notices = s.notices := rfl
@[simp] theorem setLink_qmp (s : State) (l : Link) (f : HostLink → HostLink) : (setLink s l f).qmp = s.qmp := rfl
@[simp] theorem setLink_recorder (s : State) (l : Link) (f : HostLink → HostLink) : (setLink s l f).recorder = s.recorder := rfl
@[simp] theorem setLink_faults (s : State) (l : Link) (f : HostLink → HostLink) : (setLink s l f).faults = s.faults := rfl
@[simp] theorem setLink_cf (s : State) (l : Link) (f : HostLink → HostLink) : (setLink s l f).cf = s.cf := rfl
@[simp] theorem setLink_fw (s : State) (l : Link) (f : HostLink → HostLink) : (setLink s l f).fw = s.fw := rfl
@[simp] theorem setLink_smb (s : State) (l : Link) (f : HostLink → HostLink) : (setLink s l f).smb = s.smb := rfl
@[simp] theorem setLink_lb (s : State) (l : Link) (f : HostLink → HostLink) : (setLink s l f).lb = s.lb := rfl
@[simp] theorem setLink_engines (s : State) (l : Link) (f : HostLink → HostLink) : (setLink s l f).engines = s.engines := rfl
@[simp] theorem setLink_crossings (s : State) (l : Link) (f : HostLink → HostLink) : (setLink s l f).crossings = s.crossings := rfl

/-! setParity -/

@[simp] theorem setParity_pending (s : State) (st : Nat) (l : Line) : (setParity s st l).pending = s.pending := by simp only [setParity]
@[simp] theorem setParity_out (s : State) (st : Nat) (l : Line) : (setParity s st l).out = s.out := by simp only [setParity]
@[simp] theorem setParity_fresh (s : State) (st : Nat) (l : Line) : (setParity s st l).fresh = s.fresh := by simp only [setParity]
@[simp] theorem setParity_clock (s : State) (st : Nat) (l : Line) : (setParity s st l).clock = s.clock := by simp only [setParity]
@[simp] theorem setParity_power (s : State) (st : Nat) (l : Line) : (setParity s st l).power = s.power := by simp only [setParity]
@[simp] theorem setParity_startup (s : State) (st : Nat) (l : Line) : (setParity s st l).startup = s.startup := by simp only [setParity]
@[simp] theorem setParity_rails (s : State) (st : Nat) (l : Line) : (setParity s st l).rails = s.rails := by simp only [setParity]
@[simp] theorem setParity_button (s : State) (st : Nat) (l : Line) : (setParity s st l).button = s.button := by simp only [setParity]
@[simp] theorem setParity_thermal (s : State) (st : Nat) (l : Line) : (setParity s st l).thermal = s.thermal := by simp only [setParity]
@[simp] theorem setParity_pack (s : State) (st : Nat) (l : Line) : (setParity s st l).pack = s.pack := by simp only [setParity]
@[simp] theorem setParity_bank (s : State) (st : Nat) (l : Line) : (setParity s st l).bank = s.bank := by simp only [setParity]
@[simp] theorem setParity_charger (s : State) (st : Nat) (l : Line) : (setParity s st l).charger = s.charger := by simp only [setParity]
@[simp] theorem setParity_security (s : State) (st : Nat) (l : Line) : (setParity s st l).security = s.security := by simp only [setParity]
@[simp] theorem setParity_host (s : State) (st : Nat) (l : Line) : (setParity s st l).host = s.host := by simp only [setParity]
@[simp] theorem setParity_rt (s : State) (st : Nat) (l : Line) : (setParity s st l).rt = s.rt := by simp only [setParity]
@[simp] theorem setParity_persist (s : State) (st : Nat) (l : Line) : (setParity s st l).persist = s.persist := by simp only [setParity]
@[simp] theorem setParity_shroud (s : State) (st : Nat) (l : Line) : (setParity s st l).shroud = s.shroud := by simp only [setParity]
@[simp] theorem setParity_flash (s : State) (st : Nat) (l : Line) : (setParity s st l).flash = s.flash := by simp only [setParity]
@[simp] theorem setParity_save (s : State) (st : Nat) (l : Line) : (setParity s st l).save = s.save := by simp only [setParity]
@[simp] theorem setParity_restore (s : State) (st : Nat) (l : Line) : (setParity s st l).restore = s.restore := by simp only [setParity]
@[simp] theorem setParity_notices (s : State) (st : Nat) (l : Line) : (setParity s st l).notices = s.notices := by simp only [setParity]
@[simp] theorem setParity_qmp (s : State) (st : Nat) (l : Line) : (setParity s st l).qmp = s.qmp := by simp only [setParity]
@[simp] theorem setParity_recorder (s : State) (st : Nat) (l : Line) : (setParity s st l).recorder = s.recorder := by simp only [setParity]
@[simp] theorem setParity_faults (s : State) (st : Nat) (l : Line) : (setParity s st l).faults = s.faults := by simp only [setParity]
@[simp] theorem setParity_cf (s : State) (st : Nat) (l : Line) : (setParity s st l).cf = s.cf := by simp only [setParity]
@[simp] theorem setParity_fw (s : State) (st : Nat) (l : Line) : (setParity s st l).fw = s.fw := by simp only [setParity]
@[simp] theorem setParity_smb (s : State) (st : Nat) (l : Line) : (setParity s st l).smb = s.smb := by simp only [setParity]
@[simp] theorem setParity_lb (s : State) (st : Nat) (l : Line) : (setParity s st l).lb = s.lb := by simp only [setParity]
@[simp] theorem setParity_engines (s : State) (st : Nat) (l : Line) : (setParity s st l).engines = s.engines := by simp only [setParity]
@[simp] theorem setParity_crossings (s : State) (st : Nat) (l : Line) : (setParity s st l).crossings = s.crossings := by simp only [setParity]

/-! setBand -/

@[simp] theorem setBand_pending (s : State) (n : Nat) (f : Band → Band) : (setBand s n f).pending = s.pending := rfl
@[simp] theorem setBand_out (s : State) (n : Nat) (f : Band → Band) : (setBand s n f).out = s.out := rfl
@[simp] theorem setBand_fresh (s : State) (n : Nat) (f : Band → Band) : (setBand s n f).fresh = s.fresh := rfl
@[simp] theorem setBand_clock (s : State) (n : Nat) (f : Band → Band) : (setBand s n f).clock = s.clock := rfl
@[simp] theorem setBand_power (s : State) (n : Nat) (f : Band → Band) : (setBand s n f).power = s.power := rfl
@[simp] theorem setBand_startup (s : State) (n : Nat) (f : Band → Band) : (setBand s n f).startup = s.startup := rfl
@[simp] theorem setBand_rails (s : State) (n : Nat) (f : Band → Band) : (setBand s n f).rails = s.rails := rfl
@[simp] theorem setBand_button (s : State) (n : Nat) (f : Band → Band) : (setBand s n f).button = s.button := rfl
@[simp] theorem setBand_thermal (s : State) (n : Nat) (f : Band → Band) : (setBand s n f).thermal = s.thermal := rfl
@[simp] theorem setBand_pack (s : State) (n : Nat) (f : Band → Band) : (setBand s n f).pack = s.pack := rfl
@[simp] theorem setBand_bank (s : State) (n : Nat) (f : Band → Band) : (setBand s n f).bank = s.bank := rfl
@[simp] theorem setBand_charger (s : State) (n : Nat) (f : Band → Band) : (setBand s n f).charger = s.charger := rfl
@[simp] theorem setBand_security (s : State) (n : Nat) (f : Band → Band) : (setBand s n f).security = s.security := rfl
@[simp] theorem setBand_host (s : State) (n : Nat) (f : Band → Band) : (setBand s n f).host = s.host := rfl
@[simp] theorem setBand_rt (s : State) (n : Nat) (f : Band → Band) : (setBand s n f).rt = s.rt := rfl
@[simp] theorem setBand_persist (s : State) (n : Nat) (f : Band → Band) : (setBand s n f).persist = s.persist := rfl
@[simp] theorem setBand_dram (s : State) (n : Nat) (f : Band → Band) : (setBand s n f).dram = s.dram := rfl
@[simp] theorem setBand_shroud (s : State) (n : Nat) (f : Band → Band) : (setBand s n f).shroud = s.shroud := rfl
@[simp] theorem setBand_save (s : State) (n : Nat) (f : Band → Band) : (setBand s n f).save = s.save := rfl
@[simp] theorem setBand_restore (s : State) (n : Nat) (f : Band → Band) : (setBand s n f).restore = s.restore := rfl
@[simp] theorem setBand_notices (s : State) (n : Nat) (f : Band → Band) : (setBand s n f).notices = s.notices := rfl
@[simp] theorem setBand_qmp (s : State) (n : Nat) (f : Band → Band) : (setBand s n f).qmp = s.qmp := rfl
@[simp] theorem setBand_recorder (s : State) (n : Nat) (f : Band → Band) : (setBand s n f).recorder = s.recorder := rfl
@[simp] theorem setBand_faults (s : State) (n : Nat) (f : Band → Band) : (setBand s n f).faults = s.faults := rfl
@[simp] theorem setBand_cf (s : State) (n : Nat) (f : Band → Band) : (setBand s n f).cf = s.cf := rfl
@[simp] theorem setBand_fw (s : State) (n : Nat) (f : Band → Band) : (setBand s n f).fw = s.fw := rfl
@[simp] theorem setBand_smb (s : State) (n : Nat) (f : Band → Band) : (setBand s n f).smb = s.smb := rfl
@[simp] theorem setBand_lb (s : State) (n : Nat) (f : Band → Band) : (setBand s n f).lb = s.lb := rfl
@[simp] theorem setBand_engines (s : State) (n : Nat) (f : Band → Band) : (setBand s n f).engines = s.engines := rfl
@[simp] theorem setBand_crossings (s : State) (n : Nat) (f : Band → Band) : (setBand s n f).crossings = s.crossings := rfl

/-! What each plain update writes -/

@[simp] theorem emit_out (s : State) (o : Output) : (emit s o).out = s.out ++ [o] := rfl
@[simp] theorem setPack_pack (s : State) (f : Pack → Pack) : (setPack s f).pack = f s.pack := rfl
@[simp] theorem setBank_bank (s : State) (f : Bank → Bank) : (setBank s f).bank = f s.bank := rfl
@[simp] theorem setFw_fw (s : State) (f : Firmware → Firmware) : (setFw s f).fw = f s.fw := rfl
@[simp] theorem setLb_lb (s : State) (f : LocalBus → LocalBus) : (setLb s f).lb = f s.lb := rfl
@[simp] theorem setQmp_qmp (s : State) (f : Qmp → Qmp) : (setQmp s f).qmp = f s.qmp := rfl
@[simp] theorem setSec_security (s : State) (f : Security → Security) : (setSec s f).security = f s.security := rfl
@[simp] theorem setSmb_smb (s : State) (f : Smb → Smb) : (setSmb s f).smb = f s.smb := rfl
@[simp] theorem touch_mem (s : State) (st : Nat) (isWrite : Bool) (chs : List DramCh) : (touch s st isWrite chs).dram.mem = s.dram.mem := rfl
@[simp] theorem waitIn_slots (s : State) (q : Slot) (w : WaitFor) : (waitIn s q w).host.slots = s.host.slots ++ [{ q with why := w }] := rfl
@[simp] theorem setTests_tests (s : State) (ts : List Test) : (setTests s ts).faults.tests = ts := rfl
@[simp] theorem setParity_mem (s : State) (st : Nat) (l : Line) : (setParity s st l).dram.mem = s.dram.mem := by simp only [setParity]
@[simp] theorem setParity_parity (s : State) (st : Nat) (l : Line) :
    (setParity s st l).dram.parity = writeLine s.dram.parity st l := by simp only [setParity]
@[simp] theorem setChan_parity (s : State) (ch : DramCh) (f : DramChan → DramChan) : (setChan s ch f).dram.parity = s.dram.parity := rfl
@[simp] theorem setChan_acc (s : State) (ch : DramCh) (f : DramChan → DramChan) : (setChan s ch f).dram.acc = s.dram.acc := rfl
@[simp] theorem setLink_fn (s : State) (l : Link) (f : HostLink → HostLink) : (setLink s l f).host.fn = s.host.fn := rfl
@[simp] theorem setFn_link (s : State) (l : Link) (f : FnRegs → FnRegs) : (setFn s l f).host.link = s.host.link := rfl
@[simp] theorem setBand_pages (s : State) (n : Nat) (f : Band → Band) : (setBand s n f).flash.pages = s.flash.pages := rfl
@[simp] theorem setBand_gens (s : State) (n : Nat) (f : Band → Band) : (setBand s n f).flash.gens = s.flash.gens := rfl

end Sys2Proof.Machine
end

