-- ==== Sys2Proof/Laws/Notes.lean ====
section
/-! SUPPORT. What logging an event and sending a notice change, once: the recorder; and with a notice the notices and the SMBus
alert. Everything else stands, component by component. -/

namespace Sys2Proof.Machine

open Sys2Proof

/-- Staging a record changes the recorder alone. -/
theorem stage_frame (s : State) (r : Record) : stage s r = { s with recorder := (stage s r).recorder } := rfl

/-- Logging an event changes the recorder alone (R361). -/
theorem logEvent_frame (s : State) (code : BitVec 16) (sev : Nat) (payload : List Byte) :
    logEvent s code sev payload = { s with recorder := (logEvent s code sev payload).recorder } := by
  unfold logEvent
  split
  · rfl
  · split
    · rfl
    · dsimp only
      split
      · rfl
      · split <;> rfl

/-- Queueing a notice changes the notices and the SMBus alert (R340). -/
theorem queueNotice_frame (s : State) (code : BitVec 16) (cls : Nat) (payload : List Word) :
    queueNotice s code cls payload = { s with
      notices := (queueNotice s code cls payload).notices,
      smb := { s.smb with alert := (queueNotice s code cls payload).smb.alert } } := by
  unfold queueNotice
  split
  · rfl
  · split <;> rfl

/-- Sending a notice of a class changes the notices, the recorder and the SMBus alert. -/
theorem raiseClass_frame (s : State) (code cls : Nat) (payload : List Nat) :
    raiseClass s code cls payload = withNotes s (raiseClass s code cls payload) := by
  unfold raiseClass
  rw [logEvent_frame, queueNotice_frame]
  rfl

/-- Sending a notice changes the notices, the recorder and the SMBus alert (R340, R362). -/
theorem raise_frame (s : State) (code : Nat) (payload : List Nat) : raise s code payload = withNotes s (raise s code payload) :=
  raiseClass_frame s code _ payload

@[simp] theorem logEvent_pending (s : State) (code : BitVec 16) (sev : Nat) (payload : List Byte) : (logEvent s code sev payload).pending = s.pending :=
  (congrArg State.pending (logEvent_frame s code sev payload) :)
@[simp] theorem logEvent_out (s : State) (code : BitVec 16) (sev : Nat) (payload : List Byte) : (logEvent s code sev payload).out = s.out :=
  (congrArg State.out (logEvent_frame s code sev payload) :)
@[simp] theorem logEvent_fresh (s : State) (code : BitVec 16) (sev : Nat) (payload : List Byte) : (logEvent s code sev payload).fresh = s.fresh :=
  (congrArg State.fresh (logEvent_frame s code sev payload) :)
@[simp] theorem logEvent_clock (s : State) (code : BitVec 16) (sev : Nat) (payload : List Byte) : (logEvent s code sev payload).clock = s.clock :=
  (congrArg State.clock (logEvent_frame s code sev payload) :)
@[simp] theorem logEvent_power (s : State) (code : BitVec 16) (sev : Nat) (payload : List Byte) : (logEvent s code sev payload).power = s.power :=
  (congrArg State.power (logEvent_frame s code sev payload) :)
@[simp] theorem logEvent_startup (s : State) (code : BitVec 16) (sev : Nat) (payload : List Byte) : (logEvent s code sev payload).startup = s.startup :=
  (congrArg State.startup (logEvent_frame s code sev payload) :)
@[simp] theorem logEvent_rails (s : State) (code : BitVec 16) (sev : Nat) (payload : List Byte) : (logEvent s code sev payload).rails = s.rails :=
  (congrArg State.rails (logEvent_frame s code sev payload) :)
@[simp] theorem logEvent_button (s : State) (code : BitVec 16) (sev : Nat) (payload : List Byte) : (logEvent s code sev payload).button = s.button :=
  (congrArg State.button (logEvent_frame s code sev payload) :)
@[simp] theorem logEvent_thermal (s : State) (code : BitVec 16) (sev : Nat) (payload : List Byte) : (logEvent s code sev payload).thermal = s.thermal :=
  (congrArg State.thermal (logEvent_frame s code sev payload) :)
@[simp] theorem logEvent_pack (s : State) (code : BitVec 16) (sev : Nat) (payload : List Byte) : (logEvent s code sev payload).pack = s.pack :=
  (congrArg State.pack (logEvent_frame s code sev payload) :)
@[simp] theorem logEvent_bank (s : State) (code : BitVec 16) (sev : Nat) (payload : List Byte) : (logEvent s code sev payload).bank = s.bank :=
  (congrArg State.bank (logEvent_frame s code sev payload) :)
@[simp] theorem logEvent_charger (s : State) (code : BitVec 16) (sev : Nat) (payload : List Byte) : (logEvent s code sev payload).charger = s.charger :=
  (congrArg State.charger (logEvent_frame s code sev payload) :)
@[simp] theorem logEvent_security (s : State) (code : BitVec 16) (sev : Nat) (payload : List Byte) : (logEvent s code sev payload).security = s.security :=
  (congrArg State.security (logEvent_frame s code sev payload) :)
@[simp] theorem logEvent_host (s : State) (code : BitVec 16) (sev : Nat) (payload : List Byte) : (logEvent s code sev payload).host = s.host :=
  (congrArg State.host (logEvent_frame s code sev payload) :)
@[simp] theorem logEvent_rt (s : State) (code : BitVec 16) (sev : Nat) (payload : List Byte) : (logEvent s code sev payload).rt = s.rt :=
  (congrArg State.rt (logEvent_frame s code sev payload) :)
@[simp] theorem logEvent_persist (s : State) (code : BitVec 16) (sev : Nat) (payload : List Byte) : (logEvent s code sev payload).persist = s.persist :=
  (congrArg State.persist (logEvent_frame s code sev payload) :)
@[simp] theorem logEvent_dram (s : State) (code : BitVec 16) (sev : Nat) (payload : List Byte) : (logEvent s code sev payload).dram = s.dram :=
  (congrArg State.dram (logEvent_frame s code sev payload) :)
@[simp] theorem logEvent_shroud (s : State) (code : BitVec 16) (sev : Nat) (payload : List Byte) : (logEvent s code sev payload).shroud = s.shroud :=
  (congrArg State.shroud (logEvent_frame s code sev payload) :)
@[simp] theorem logEvent_flash (s : State) (code : BitVec 16) (sev : Nat) (payload : List Byte) : (logEvent s code sev payload).flash = s.flash :=
  (congrArg State.flash (logEvent_frame s code sev payload) :)
@[simp] theorem logEvent_save (s : State) (code : BitVec 16) (sev : Nat) (payload : List Byte) : (logEvent s code sev payload).save = s.save :=
  (congrArg State.save (logEvent_frame s code sev payload) :)
@[simp] theorem logEvent_restore (s : State) (code : BitVec 16) (sev : Nat) (payload : List Byte) : (logEvent s code sev payload).restore = s.restore :=
  (congrArg State.restore (logEvent_frame s code sev payload) :)
@[simp] theorem logEvent_notices (s : State) (code : BitVec 16) (sev : Nat) (payload : List Byte) : (logEvent s code sev payload).notices = s.notices :=
  (congrArg State.notices (logEvent_frame s code sev payload) :)
@[simp] theorem logEvent_qmp (s : State) (code : BitVec 16) (sev : Nat) (payload : List Byte) : (logEvent s code sev payload).qmp = s.qmp :=
  (congrArg State.qmp (logEvent_frame s code sev payload) :)
@[simp] theorem logEvent_faults (s : State) (code : BitVec 16) (sev : Nat) (payload : List Byte) : (logEvent s code sev payload).faults = s.faults :=
  (congrArg State.faults (logEvent_frame s code sev payload) :)
@[simp] theorem logEvent_cf (s : State) (code : BitVec 16) (sev : Nat) (payload : List Byte) : (logEvent s code sev payload).cf = s.cf :=
  (congrArg State.cf (logEvent_frame s code sev payload) :)
@[simp] theorem logEvent_fw (s : State) (code : BitVec 16) (sev : Nat) (payload : List Byte) : (logEvent s code sev payload).fw = s.fw :=
  (congrArg State.fw (logEvent_frame s code sev payload) :)
@[simp] theorem logEvent_smb (s : State) (code : BitVec 16) (sev : Nat) (payload : List Byte) : (logEvent s code sev payload).smb = s.smb :=
  (congrArg State.smb (logEvent_frame s code sev payload) :)
@[simp] theorem logEvent_lb (s : State) (code : BitVec 16) (sev : Nat) (payload : List Byte) : (logEvent s code sev payload).lb = s.lb :=
  (congrArg State.lb (logEvent_frame s code sev payload) :)
@[simp] theorem logEvent_engines (s : State) (code : BitVec 16) (sev : Nat) (payload : List Byte) : (logEvent s code sev payload).engines = s.engines :=
  (congrArg State.engines (logEvent_frame s code sev payload) :)
@[simp] theorem logEvent_crossings (s : State) (code : BitVec 16) (sev : Nat) (payload : List Byte) : (logEvent s code sev payload).crossings = s.crossings :=
  (congrArg State.crossings (logEvent_frame s code sev payload) :)

@[simp] theorem raise_pending (s : State) (code : Nat) (payload : List Nat) : (raise s code payload).pending = s.pending :=
  (congrArg State.pending (raise_frame s code payload) :)
@[simp] theorem raise_out (s : State) (code : Nat) (payload : List Nat) : (raise s code payload).out = s.out :=
  (congrArg State.out (raise_frame s code payload) :)
@[simp] theorem raise_fresh (s : State) (code : Nat) (payload : List Nat) : (raise s code payload).fresh = s.fresh :=
  (congrArg State.fresh (raise_frame s code payload) :)
@[simp] theorem raise_clock (s : State) (code : Nat) (payload : List Nat) : (raise s code payload).clock = s.clock :=
  (congrArg State.clock (raise_frame s code payload) :)
@[simp] theorem raise_power (s : State) (code : Nat) (payload : List Nat) : (raise s code payload).power = s.power :=
  (congrArg State.power (raise_frame s code payload) :)
@[simp] theorem raise_startup (s : State) (code : Nat) (payload : List Nat) : (raise s code payload).startup = s.startup :=
  (congrArg State.startup (raise_frame s code payload) :)
@[simp] theorem raise_rails (s : State) (code : Nat) (payload : List Nat) : (raise s code payload).rails = s.rails :=
  (congrArg State.rails (raise_frame s code payload) :)
@[simp] theorem raise_button (s : State) (code : Nat) (payload : List Nat) : (raise s code payload).button = s.button :=
  (congrArg State.button (raise_frame s code payload) :)
@[simp] theorem raise_thermal (s : State) (code : Nat) (payload : List Nat) : (raise s code payload).thermal = s.thermal :=
  (congrArg State.thermal (raise_frame s code payload) :)
@[simp] theorem raise_pack (s : State) (code : Nat) (payload : List Nat) : (raise s code payload).pack = s.pack :=
  (congrArg State.pack (raise_frame s code payload) :)
@[simp] theorem raise_bank (s : State) (code : Nat) (payload : List Nat) : (raise s code payload).bank = s.bank :=
  (congrArg State.bank (raise_frame s code payload) :)
@[simp] theorem raise_charger (s : State) (code : Nat) (payload : List Nat) : (raise s code payload).charger = s.charger :=
  (congrArg State.charger (raise_frame s code payload) :)
@[simp] theorem raise_security (s : State) (code : Nat) (payload : List Nat) : (raise s code payload).security = s.security :=
  (congrArg State.security (raise_frame s code payload) :)
@[simp] theorem raise_host (s : State) (code : Nat) (payload : List Nat) : (raise s code payload).host = s.host :=
  (congrArg State.host (raise_frame s code payload) :)
@[simp] theorem raise_rt (s : State) (code : Nat) (payload : List Nat) : (raise s code payload).rt = s.rt :=
  (congrArg State.rt (raise_frame s code payload) :)
@[simp] theorem raise_persist (s : State) (code : Nat) (payload : List Nat) : (raise s code payload).persist = s.persist :=
  (congrArg State.persist (raise_frame s code payload) :)
@[simp] theorem raise_dram (s : State) (code : Nat) (payload : List Nat) : (raise s code payload).dram = s.dram :=
  (congrArg State.dram (raise_frame s code payload) :)
@[simp] theorem raise_shroud (s : State) (code : Nat) (payload : List Nat) : (raise s code payload).shroud = s.shroud :=
  (congrArg State.shroud (raise_frame s code payload) :)
@[simp] theorem raise_flash (s : State) (code : Nat) (payload : List Nat) : (raise s code payload).flash = s.flash :=
  (congrArg State.flash (raise_frame s code payload) :)
@[simp] theorem raise_save (s : State) (code : Nat) (payload : List Nat) : (raise s code payload).save = s.save :=
  (congrArg State.save (raise_frame s code payload) :)
@[simp] theorem raise_restore (s : State) (code : Nat) (payload : List Nat) : (raise s code payload).restore = s.restore :=
  (congrArg State.restore (raise_frame s code payload) :)
@[simp] theorem raise_qmp (s : State) (code : Nat) (payload : List Nat) : (raise s code payload).qmp = s.qmp :=
  (congrArg State.qmp (raise_frame s code payload) :)
@[simp] theorem raise_faults (s : State) (code : Nat) (payload : List Nat) : (raise s code payload).faults = s.faults :=
  (congrArg State.faults (raise_frame s code payload) :)
@[simp] theorem raise_cf (s : State) (code : Nat) (payload : List Nat) : (raise s code payload).cf = s.cf :=
  (congrArg State.cf (raise_frame s code payload) :)
@[simp] theorem raise_fw (s : State) (code : Nat) (payload : List Nat) : (raise s code payload).fw = s.fw :=
  (congrArg State.fw (raise_frame s code payload) :)
@[simp] theorem raise_lb (s : State) (code : Nat) (payload : List Nat) : (raise s code payload).lb = s.lb :=
  (congrArg State.lb (raise_frame s code payload) :)
@[simp] theorem raise_engines (s : State) (code : Nat) (payload : List Nat) : (raise s code payload).engines = s.engines :=
  (congrArg State.engines (raise_frame s code payload) :)
@[simp] theorem raise_crossings (s : State) (code : Nat) (payload : List Nat) : (raise s code payload).crossings = s.crossings :=
  (congrArg State.crossings (raise_frame s code payload) :)

@[simp] theorem raiseClass_pending (s : State) (code cls : Nat) (payload : List Nat) : (raiseClass s code cls payload).pending = s.pending :=
  (congrArg State.pending (raiseClass_frame s code cls payload) :)
@[simp] theorem raiseClass_out (s : State) (code cls : Nat) (payload : List Nat) : (raiseClass s code cls payload).out = s.out :=
  (congrArg State.out (raiseClass_frame s code cls payload) :)
@[simp] theorem raiseClass_fresh (s : State) (code cls : Nat) (payload : List Nat) : (raiseClass s code cls payload).fresh = s.fresh :=
  (congrArg State.fresh (raiseClass_frame s code cls payload) :)
@[simp] theorem raiseClass_clock (s : State) (code cls : Nat) (payload : List Nat) : (raiseClass s code cls payload).clock = s.clock :=
  (congrArg State.clock (raiseClass_frame s code cls payload) :)
@[simp] theorem raiseClass_power (s : State) (code cls : Nat) (payload : List Nat) : (raiseClass s code cls payload).power = s.power :=
  (congrArg State.power (raiseClass_frame s code cls payload) :)
@[simp] theorem raiseClass_startup (s : State) (code cls : Nat) (payload : List Nat) : (raiseClass s code cls payload).startup = s.startup :=
  (congrArg State.startup (raiseClass_frame s code cls payload) :)
@[simp] theorem raiseClass_rails (s : State) (code cls : Nat) (payload : List Nat) : (raiseClass s code cls payload).rails = s.rails :=
  (congrArg State.rails (raiseClass_frame s code cls payload) :)
@[simp] theorem raiseClass_button (s : State) (code cls : Nat) (payload : List Nat) : (raiseClass s code cls payload).button = s.button :=
  (congrArg State.button (raiseClass_frame s code cls payload) :)
@[simp] theorem raiseClass_thermal (s : State) (code cls : Nat) (payload : List Nat) : (raiseClass s code cls payload).thermal = s.thermal :=
  (congrArg State.thermal (raiseClass_frame s code cls payload) :)
@[simp] theorem raiseClass_pack (s : State) (code cls : Nat) (payload : List Nat) : (raiseClass s code cls payload).pack = s.pack :=
  (congrArg State.pack (raiseClass_frame s code cls payload) :)
@[simp] theorem raiseClass_bank (s : State) (code cls : Nat) (payload : List Nat) : (raiseClass s code cls payload).bank = s.bank :=
  (congrArg State.bank (raiseClass_frame s code cls payload) :)
@[simp] theorem raiseClass_charger (s : State) (code cls : Nat) (payload : List Nat) : (raiseClass s code cls payload).charger = s.charger :=
  (congrArg State.charger (raiseClass_frame s code cls payload) :)
@[simp] theorem raiseClass_security (s : State) (code cls : Nat) (payload : List Nat) : (raiseClass s code cls payload).security = s.security :=
  (congrArg State.security (raiseClass_frame s code cls payload) :)
@[simp] theorem raiseClass_host (s : State) (code cls : Nat) (payload : List Nat) : (raiseClass s code cls payload).host = s.host :=
  (congrArg State.host (raiseClass_frame s code cls payload) :)
@[simp] theorem raiseClass_rt (s : State) (code cls : Nat) (payload : List Nat) : (raiseClass s code cls payload).rt = s.rt :=
  (congrArg State.rt (raiseClass_frame s code cls payload) :)
@[simp] theorem raiseClass_persist (s : State) (code cls : Nat) (payload : List Nat) : (raiseClass s code cls payload).persist = s.persist :=
  (congrArg State.persist (raiseClass_frame s code cls payload) :)
@[simp] theorem raiseClass_dram (s : State) (code cls : Nat) (payload : List Nat) : (raiseClass s code cls payload).dram = s.dram :=
  (congrArg State.dram (raiseClass_frame s code cls payload) :)
@[simp] theorem raiseClass_shroud (s : State) (code cls : Nat) (payload : List Nat) : (raiseClass s code cls payload).shroud = s.shroud :=
  (congrArg State.shroud (raiseClass_frame s code cls payload) :)
@[simp] theorem raiseClass_flash (s : State) (code cls : Nat) (payload : List Nat) : (raiseClass s code cls payload).flash = s.flash :=
  (congrArg State.flash (raiseClass_frame s code cls payload) :)
@[simp] theorem raiseClass_save (s : State) (code cls : Nat) (payload : List Nat) : (raiseClass s code cls payload).save = s.save :=
  (congrArg State.save (raiseClass_frame s code cls payload) :)
@[simp] theorem raiseClass_restore (s : State) (code cls : Nat) (payload : List Nat) : (raiseClass s code cls payload).restore = s.restore :=
  (congrArg State.restore (raiseClass_frame s code cls payload) :)
@[simp] theorem raiseClass_qmp (s : State) (code cls : Nat) (payload : List Nat) : (raiseClass s code cls payload).qmp = s.qmp :=
  (congrArg State.qmp (raiseClass_frame s code cls payload) :)
@[simp] theorem raiseClass_faults (s : State) (code cls : Nat) (payload : List Nat) : (raiseClass s code cls payload).faults = s.faults :=
  (congrArg State.faults (raiseClass_frame s code cls payload) :)
@[simp] theorem raiseClass_cf (s : State) (code cls : Nat) (payload : List Nat) : (raiseClass s code cls payload).cf = s.cf :=
  (congrArg State.cf (raiseClass_frame s code cls payload) :)
@[simp] theorem raiseClass_fw (s : State) (code cls : Nat) (payload : List Nat) : (raiseClass s code cls payload).fw = s.fw :=
  (congrArg State.fw (raiseClass_frame s code cls payload) :)
@[simp] theorem raiseClass_lb (s : State) (code cls : Nat) (payload : List Nat) : (raiseClass s code cls payload).lb = s.lb :=
  (congrArg State.lb (raiseClass_frame s code cls payload) :)
@[simp] theorem raiseClass_engines (s : State) (code cls : Nat) (payload : List Nat) : (raiseClass s code cls payload).engines = s.engines :=
  (congrArg State.engines (raiseClass_frame s code cls payload) :)
@[simp] theorem raiseClass_crossings (s : State) (code cls : Nat) (payload : List Nat) : (raiseClass s code cls payload).crossings = s.crossings :=
  (congrArg State.crossings (raiseClass_frame s code cls payload) :)

end Sys2Proof.Machine
end

