-- ==== Sys2Proof/WellFormed.lean ====
section
/-! DEFINITION. The static conditions on a command's operands: lengths, alignment and lists without repeats. Nothing that a command
does depends on them; they say which terms a sender can form. -/

namespace Sys2Proof

/-- The widths that a link can train at (Table 03-1 with R63): x16 and its halves down to x1. -/
def widthOk (width : Nat) : Bool := [1, 2, 4, 8, 16].contains width

/-- An access is naturally aligned (R500). -/
def sizeAligned (offset size : Nat) : Bool := [1, 2, 4, 8].contains size && offset % size == 0

/-- Bytes of the device block (R495): 64 KiB. -/
def blockBytes : Nat := 0x10000

/-- The block, and above it the MSI-X table and the written fields of configuration space (DESIGN CHOICE, notes/assumptions/101). -/
def functionBytes : Nat := 0x20000

/-- The column of a line in error has the 11 bits of COLUMN (Table 04-8). -/
def EccOutcome.columnOk : EccOutcome → Bool
  | .clean => true
  | .corrected _ _ column _ _ | .twoDevices _ _ column _ | .unreconstructable _ _ column | .addressMismatch _ _ column _ =>
    column < 2048

/-- What the reads of an operation find names each line once. -/
def errsOk (errs : List (Nat × EccOutcome)) : Bool := (errs.map (·.1)).Nodup && errs.all fun e => e.2.columnOk

/-- A pack serial number that was read has its 16 bytes (R454). -/
def serialOk (serial : Option (List Byte)) : Bool := serial.all fun b => b.length == 16

/-- The operands of a command are such as a sender can form (in part DESIGN CHOICE, notes/assumptions/4). -/
def Instr.wellFormed : Instr → Bool
  | .cxlMemRead _ _ _ hpa ecc => hpa % 64 == 0 && ecc.columnOk
  | .cxlMemWrite _ _ _ hpa _ _ _ ecc => hpa % 64 == 0 && ecc.columnOk
  | .demandFetchComplete _ _ _ | .writeBufferDrain _ | .writeBufferRelease _ | .stagingEntryClose _ | .heldWriteAdmit _ _
  | .perstAssert _ | .linkDown _ | .hotReset _ | .cxlReset _ => true
  | .linkTrained _ width _ => widthOk width
  | .refclkFault _ | .linkErrorBurst _ => true
  | .laneMarginTestComplete _ failing width => widthOk width && failing.Nodup
  | .gpfPhase2 _ | .setShutdownState _ _ | .getHealthInfo _ | .getPoisonList _ _ _ => true
  | .clearPoison _ dpa _ => dpa % 64 == 0
  | .injectPoison _ dpa => dpa % 64 == 0
  | .getFwInfo _ => true
  | .rtShadowWrite _ offset size _ => sizeAligned offset size && offset + size ≤ blockBytes
  | .commit _ | .commitRefillEnd | .ceilingUpdate | .heatHalving | .dirtyNowRefresh | .mastheadWatchdogExpiry
  | .engineException _ | .engineBistComplete _ _ | .spareSwapComplete _ | .refreshTick _ _ _ | .refreshPullIn _ _
  | .mr4Poll _ _ | .powerDownEntry _ _ | .dcPdWrite _ _ | .zqCalibration _ _
  | .dqsOscCalibration _ _ _ | .readCenteringTrack _ _ | .channelRetrainStart | .retrainSlice _
  | .channelRetrainComplete _ _ | .rowTestComplete _ _ _ _ _ => true
  | .patrolScrub _ _ stripes mismatch errs => stripes.Nodup && mismatch.Nodup && mismatch.all stripes.contains && errsOk errs
  | .scrubWake _ _ mismatch errs => mismatch.Nodup && errsOk errs
  | .flushIssue _ errs | .rebuildStripe errs | .relocationCopyBack errs => errsOk errs
  | .writeCrcError _ _ column | .lineTestComplete _ _ column _ _ => column < 2048
  | .dramTrainingComplete failing => failing.Nodup
  | .channelTrainingRetry _ _ | .relocationFill _ _ | .flashReadComplete _ _ _ _ _
  | .flashProgramComplete _ _ | .mirrorRelocated _ | .flashEraseComplete _ _ _ _ | .eraseResume _ _ | .flashBusyTimeout _ _ _
  | .restripeCopy _ _ => true
  | .flashChannelTraining _ badDies _ => badDies.Nodup
  | .flashTrainingRetry _ _ => true
  | .rowCloseTimeout _ row => row < 512
  | .checkpointSeal | .sealComplete _ _ | .compaction _ _ | .wearLevelMove | .retentionScrub _ | .retentionDue | .nandBrownout
  | .nandRailRecovery => true
  | .engineProgramRefused _ _ _ page => page < 512
  | .pfNFall | .vinSenseDrop | .vinSenseHoldUp | .saveAndOff _ | .saveIsolate | .saveRegulationConfirmed | .chargeMarkCheck _
  | .saveStoreFailure | .saveVoltageGuard | .saveFlushEnd | .saveManifestComplete | .saveRetireComplete _
  | .retainedReturnComplete _ | .generationSelect | .manifestLoadComplete _ | .backgroundRestoreGranule
  | .restoreGranuleComplete _ _ | .restoreSlow | .retainedPathCheck _ _ | .packSample _ _ | .packTempSample _ _ | .packInserted
  | .packRemoved | .packQualified | .impedanceMeasure _ | .zeroCurrentCheck _ => true
  | .packIdRead first second => serialOk first && serialOk second
  | .idRead first second => serialOk first && serialOk second
  | .bankSample _ | .capTest | .capTestComplete _ _ | .chargerStatusPoll _ | .chargeHeld | .restReference _
  | .startupReading _ | .restDue | .restRequest | .grantRest _ | .restWindowTimeout | .esbGet _ | .esbRestore _ _
  | .esbChanged | .estimatorHibernate | .estimatorWake | .shipMode _ | .shipFailed | .auxInputRemoved => true
  | .localBusCycle readings _ _ _ _ => readings.all (fun r => 8 ≤ r.1.val) && (readings.map (·.1)).Nodup
  | .sensorReadmit _ | .sensorRereadComplete _ _ | .thermalBandDwell _ _ | .reefLevelStep | .aonBackstopTrip
  | .aonSite0Sample _ | .clearTrip _ | .emergencyStandbyExit | .aonPowerOnReset _ _ _ | .aonPowerLoss | .inputQualified _
  | .railQualified _ _ | .railTimeout _ | .railRetryReenable _ | .pgFall _ | .railFault _ | .ignoreFaultNotice _
  | .groupResequence _ | .resetReactionRestart | .railDownStep | .clearRailLatch _ | .mrN | .mrNRelease _ _ | .pbRelease _
  | .pbForcedMark | .pbHardOff | .sheetTransferRetry _ => true
  | .sheetImageRead image _ => image.all fun b => b.length ≤ 65536
  | .lock _ | .startupEndTimeout => true
  | .mctpPacket _ _ _ _ _ _ _ _ _ payload _ => payload.length ≤ 64
  | .mctpMessageTimeout _ | .negotiate _ _ _ _ _ | .negotiateClose _ | .persistStatus _ | .logRead _ _ _ | .lastwordsRead _ _ _ => true
  | .fwChunk _ _ _ _ _ _ data => data.length ≤ 4096
  | .fwActivate _ _ _ | .fwLockSet _ | .fwLockClear _ | .selftest _ _ _ | .debugChallenge _ => true
  | .debugResponse _ signature _ => signature.length == 96
  | .noticeAck _ _ _ | .noticeDeliver _ | .noticeReannounce _ | .noticeDisregarded _ | .nringSizeWrite _ _ _
  | .blockTestComplete _ _ _ _ | .dieTestComplete _ _ _ | .moduleYearEnd | .logPageProgram _ _ | .suppressedSweep
  | .optimeCheckpoint | .logSel _ _ | .logFetchComplete _ _ _ | .cfProgram _ _ | .cfErase _ | .cfResume | .cfStatus
  | .cfOperationComplete | .cfBrownout | .cfAccessRefused => true
  | .hello _ _ position chainLen _ _ => position ≤ 64 && chainLen ≤ 64
  | .helloTimer => true
  | .chunk _ _ _ _ data => data.length ≤ 4096
  | .credit _ credits => credits < 256
  | .activate _ => true
  | .status entries => entries.all fun e => e.1 ≤ 64 && e.2.1 ≤ 10 && e.2.2 < 65536
  | .halyardPortDown _ | .halyardFrameTimeout _ | .chainReportTimeout | .packageVerifyComplete _ _ | .bankLoadComplete
  | .engineSwitch _ | .mastheadHandoverComplete _ | .probationEnd | .bootCopyComplete _ | .secLevelRaise _ _ | .secLevelArm _ _
  | .secLevelLower _ _ | .loweringDramClearComplete | .loweringEraseComplete | .close _ | .debugSessionExpiry
  | .tapInstruction _ | .tapReset | .smbRepeatedStartError | .smbTargetTimeout | .smbNack | .smbResend | .smbArbitrationLost
  | .arbSr | .smbBusFree | .smbAlertResponse _ | .lbAlertUnmask | .regulatorPoll _ _ | .clockStretchTimeout _ _ _
  | .busClearRetry _ _ | .holdflag _ _ | .hfSwitchComplete | .take _ _ | .release _ | .snapshotExpiry _ | .flGenLatch _
  | .planInfoLatch _ | .optimeLatch _ | .esbWindowLatch _ _ | .fifoResync _ _ => true
  | .unalignedAccess _ _ offset size => !sizeAligned offset size && offset < blockBytes
  | .registerWrite _ offset size _ => sizeAligned offset size && offset + size ≤ functionBytes
  | .dieSiteSample readings => readings.length ≤ 8
  | .linkL1OrL0pChange _ _ | .hdmDecoderCommit _ _ _ _ _ _ _ _ | .labelStorageWrite _ _ _ | .channelPatternTestComplete _ _
  | .railRecoveryTimeout _ | .pbPressStart => true

end Sys2Proof
end

