-- ==== Sys2Proof/Tests/Slice0.lean ====
section
/-! SUPPORT. Tests. A state for each clause of a statement that meets all its hypotheses, and one step of some of them with the
result that the spec's rule gives. -/

set_option maxRecDepth 20000

namespace Sys2Proof.Tests

open Sys2Proof Sys2Proof.Machine

/-- Pack settings for the tests. -/
def tPack : PackSet :=
  { eDesign := 90000, kFade := 1, cycleLife := 2000, vPlan := 14000, vGuard := 12000, chgV := 16800, chgI := 2000, termI := 100, stbyI := 50,
    shunt := 500, rLimit := 60, idAddr := 0x51, uRate := 1, uRest := 20, uStart := 250, unrestoredCap := 1024,
    derate := [200, 200, 200, 200, 200, 200, 200, 200, 200, 200, 200, 200, 200, 200, 200],
    ocv := [(12000, 0), (12200, 0), (12400, 0), (12600, 0), (12800, 0), (13000, 0), (13200, 0), (13400, 0), (13600, 0), (13800, 0), (14000, 0),
            (14200, 0), (14400, 0), (14600, 0), (14800, 0), (15000, 0), (15200, 0), (15400, 0), (15600, 0), (15800, 0), (16000, 0)] }

/-- Settings for the tests: one physical rank, dies of 16 Gbit, granules of 64 KiB. -/
def tSet : Settings :=
  { dramPranks := 1, dramStack := 1, dramDie := 16, dramRate := 64, flashDies := 2, flashLuns := 4, flashRate := 24, blockSets := 1000,
    region128 := false, shroudOn := true, flashModel := [], pslc := 0, rrFeature := 0, ladder := [1, -1, 2, -2, 3, -3, 4], softDelta := 1,
    trMax := 40, tprogMax := 400, tbersMax := 10000, tespdMax := 20, peCycles := 30000, rails := [], pack := tPack, bank := none,
    singleMode := false, minDie := 0, minDram := 0, minNand := 0, dramOffset := 0, sensors := [], capMib := 0, pSave := 400, pSaveHot := 450,
    wearRate := 100, wearMax := 3, position := 0, chainLen := 0, hasHalyard := false, hostSplit := 0, adminLinks := 1, pdTimer := 125 }

/-- A link in service. -/
def tLink : HostLink :=
  { resetLink with
    trained := true, width := 16, offersIo := true, memActive := true, busMaster := true, msixMask := 0, decoders := [⟨0, 0, 2 ^ 30, 0, 1, 256, true, false⟩] }

/-- A DRAM channel in service. -/
def tChan : DramChan := { resetDramChan with run := .inService, rate := 64, resetN := true }

/-- A flash channel in service, with two dies. -/
def tFlash : FlashChan := { resetFlashChan with run := .inService, rate := 24, dies := [0, 1] }

/-- A rail that has qualified. -/
def tRail : RailState := { State.reset.rails.rail[1] with run := .qualified, en := true, pg := true }

/-- A checkpoint that has been sealed, with nothing in it. -/
def tGen : Generation :=
  { kind := .checkpoint, gen := 3, prevGen := 2, lostFlag := false, retained := false, powerCycle := 0, opTime := 0, keyId := 0, wear := 0,
    lost := 0, gran128 := false, copies := (true, true), entries := [], chunkMap := [], root := none, rootCrc := 0, heat := [], watermark := none, rebuildCh := none, staleCh := none,
    stale := [], metaImg := ⟨resetPoison, [], [], false, 0, ⟨1, [], 0⟩⟩ }

/-- The session of the tests. -/
def tSession : Session := ⟨7, 2, 5, 0x11, 2000, false, 0, []⟩

/-- A small state in RUN for the tests: rails qualified, settings in force, memory and links in service. -/
def tRun : State :=
  { State.reset with
    power := { State.reset.power with state := .run, inputOk := true, sram := true, dramUp := true },
    startup := { State.reset.startup with step := 9, settings := some tSet, step9At := some 0 },
    rails := { State.reset.rails with rail := Vector.replicate 12 tRail },
    host := { State.reset.host with link := Vector.replicate 8 tLink },
    dram := { State.reset.dram with rate := 64, ch := Vector.replicate 17 tChan },
    flash := { State.reset.flash with inService := true, gen := 3, gens := [tGen], mirrors := #v[⟨0, true⟩, ⟨16, true⟩], ch := Vector.replicate 32 tFlash },
    persist := { State.reset.persist with
      metaFlushed := { State.reset.persist.metaFlushed with sessions := [tSession] },
      ceiling := { resetCeiling with c := 2 ^ 36, cE := 2 ^ 36, cPack := 2 ^ 36, limit := 1, esbDefault := false } },
    recorder := { State.reset.recorder with nandUp := true },
    pack := { State.reset.pack with
      cond := .qualified, present := true, inService := true, temp := 250, tempSrc := .ntc, voltage := 15000, socRef := 1,
      esbDefault := false, readingDue := false },
    qmp := { State.reset.qmp with tableLoaded := true, sessions := [tSession] },
    lb := { State.reset.lb with state := .inService, chargerSet := true },
    engines := { State.reset.engines with eng := vecMap State.reset.engines.eng fun _ e => { e with run := .inService, loaded := true } } }

/-- A state in which the test of a part runs. -/
def tTest (p : Part) : State :=
  { tRun with faults := { tRun.faults with tests := [{ part := p, running := true, occurrences := 1, commanded := none }] } }

/-- The state after a command. -/
def tAfter (c : Instr) (s : State) : State :=
  match exec c s with
  | .next t => t
  | _ => s

/-- A state with one line held in the write buffers. -/
def tBuf (b : BufLine) : State := { tRun with host := { tRun.host with buf := [b] } }

/-- A held line. -/
def tLine : BufLine := heldLine 64 7 false false .clean 0

theorem test_mem_read_held :
    linkTakes (tBuf tLine) 0 ∧ decodeHpa (tBuf tLine) 0 4096 = some 4096 ∧
    admitted (tBuf tLine) (requestSlot (tBuf tLine) 0 1 none false 4096 0 0 false .clean) ∧ buffered (tBuf tLine) 64 = some tLine := by decide

theorem test_mem_read_dram :
    linkTakes tRun 0 ∧ decodeHpa tRun 0 4096 = some 4096 ∧ admitted tRun (requestSlot tRun 0 1 none false 4096 0 0 false .clean) ∧
    buffered tRun 64 = none ∧ needsFetch tRun 64 = false := by decide

/-- The row of the tests. -/
def tRow : RowId := { sub := 0, prank := 0, lrank := 0, bg := 1, bank := 2, row := 77 }

/-- A state in which a device of the row's rank is marked failed. -/
def tMarked : State := { tRun with dram := { tRun.dram with ch := Vector.replicate 17 { tChan with failed := [(0, 3)] } } }

theorem test_mem_read_marked :
    linkTakes tMarked 0 ∧ decodeHpa tMarked 0 4096 = some 4096 ∧
    admitted tMarked (requestSlot tMarked 0 1 none false 4096 0 0 false (.corrected 0 tRow 5 3 1)) ∧ buffered tMarked 64 = none ∧
    needsFetch tMarked 64 = false ∧ (tRow.rank, 3) ∈ tMarked.dram.ch[(0 : DramCh)].failed := by decide

theorem test_mem_read_corrected :
    linkTakes tRun 0 ∧ decodeHpa tRun 0 4096 = some 4096 ∧
    admitted tRun (requestSlot tRun 0 1 none false 4096 0 0 false (.corrected 0 tRow 5 3 1)) ∧ buffered tRun 64 = none ∧
    needsFetch tRun 64 = false ∧ tRun.dram.ch[(0 : DramCh)].failed = [] ∧ tRun.dram.ch[(0 : DramCh)].laneErrors.length < 63 := by decide

theorem test_mem_read_rebuilt :
    linkTakes tRun 0 ∧ decodeHpa tRun 0 4096 = some 4096 ∧
    admitted tRun (requestSlot tRun 0 1 none false 4096 0 0 false (.twoDevices 0 tRow 5 true)) ∧ buffered tRun 64 = none ∧
    needsFetch tRun 64 = false ∧ underParity tRun (stripeOf 64) = true ∧ missingIn tRun (stripeOf 64) = [] := by decide

theorem test_mem_read_poison :
    linkTakes tRun 0 ∧ decodeHpa tRun 0 4096 = some 4096 ∧
    admitted tRun (requestSlot tRun 0 1 none false 4096 0 0 false (.unreconstructable 0 tRow 5)) ∧ buffered tRun 64 = none ∧
    needsFetch tRun 64 = false ∧ shroudOn tRun = true := by decide

theorem test_mem_write :
    linkTakes tRun 0 ∧ decodeHpa tRun 0 4096 = some 4096 ∧
    admitted tRun (requestSlot tRun 0 1 none true 4096 9 (BitVec.allOnes 64) false .clean) ∧ needsFetch tRun 64 = false := by decide

theorem test_mem_write_partial :
    admitted tRun (requestSlot tRun 0 1 none true 4096 9 1 false .clean) ∧ (1 : DWord) ≠ BitVec.allOnes 64 := by decide

/-- A held write of a whole line. -/
def tSlot : Slot := requestSlot tRun 0 1 none true 4096 9 (BitVec.allOnes 64) false .clean

/-- A state in which it waits. -/
def tHeld : State := { tRun with host := { tRun.host with slots := [tSlot] } }

theorem test_mem_held :
    waiting tHeld 0 1 = some tSlot ∧ waitReason tHeld tSlot true = none ∧ admits tHeld 0 tSlot.requester 4096 true = true ∧
    tSlot.isWrite = true ∧ tSlot.enables = BitVec.allOnes 64 ∧ needsFetch tHeld 64 = false := by decide

theorem test_mem_read_after_write :
    let t : State := { tRun with host := { tRun.host with arrivals := 2, buf := [heldLine 64 9 false false .clean 1] }, out := [.writeDone 0 1] };
    linkTakes t 0 ∧ decodeHpa t 0 4096 = some 4096 ∧ admitted t (requestSlot t 0 2 none false 4096 0 0 false .clean) := by decide

theorem test_mem_read_after_write_result :
    (tAfter (.cxlMemRead 0 2 none 4096 .clean) (tAfter (.cxlMemWrite 0 1 none 4096 9 (BitVec.allOnes 64) false .clean) tRun)).out = [.writeDone 0 1, .readData 0 2 9] := by decide

theorem tBuf_channel (b : BufLine) (i : Nat) (h : i < 17) : (tBuf b).dram.ch[i] = tChan := by simp [tBuf, tRun]

theorem tBuf_misses (b : BufLine) (st : Nat) (i : DramCh) : missesStripe (tBuf b) st i = false := by
  simp [missesStripe, tBuf_channel, runOf, tChan]

theorem tBuf_drainable : drainable (tBuf tLine) 64 = some tLine := by
  have h : takesParity (tBuf tLine) 64 = true := by
    rw [takesParity, tBuf_misses]; decide
  unfold drainable
  rw [h]
  decide

theorem test_drain :
    (tBuf tLine).sound ∧ drainable (tBuf tLine) 64 = some tLine ∧ (takesParity (tBuf tLine) 64 = false ∨ tLine.ecc = .clean) ∧
      drainable tRun 64 = none :=
  ⟨⟨by decide, by decide, by decide, by decide, fun _ h => nomatch h⟩, tBuf_drainable, .inr rfl, by decide⟩

theorem tBuf_crc (b : BufLine) (i : DramCh) : crcPassed (tBuf b) i = true := by
  simp [crcPassed, tBuf_channel, tChan, resetDramChan]

/-- A line that is drained, its parity out. -/
def tDrained : BufLine := { tLine with drained := true, parityOut := true }

theorem test_release :
    ((tBuf tDrained).host.buf.any (fun b => b.line == 64 && b.drained && b.parityOut) && crcPassed (tBuf tDrained) (homeOf (tBuf tDrained) 64)
      && crcPassed (tBuf tDrained) (Config.parityChannel (stripeOf 64))) = true := by
  rw [tBuf_crc, tBuf_crc]
  decide

/-- A state with an open staging entry. -/
def tStage : State := { tBuf { tLine with drained := true } with shroud := { tRun.shroud with staging := [⟨4, 0, 0, 0, false⟩] } }

theorem test_stage_close :
    tStage.sound ∧ openEntry tStage 4 = some ⟨4, 0, 0, 0, false⟩ := by
  unfold State.sound Recorder.fits
  decide

theorem test_link_down :
    tRun.host.link[(0 : Link)].heldIdle = false ∧ saving tRun = false := by decide

theorem test_perst :
    saving tRun = false ∧ ∀ l, l = (portLinks 1).1 ∨ l = (portLinks 1).2 → tRun.host.link[l].heldIdle = false := by decide

theorem test_cxl_reset :
    tRun.host.link[(0 : Link)].heldIdle = false := by decide

theorem test_link_trained :
    mayTrain tRun 0 = true ∧ fullWidth tRun 0 ≤ 16 ∧ tRun.faults.interval = none := by decide

theorem test_link_gpf :
    tRun.host.link[(0 : Link)].offersIo = true ∧ tRun.host.link[(0 : Link)].partner ≠ .r11 ∧ coreUp tRun = true := by decide

theorem test_link_rest :
    tRun.host.link[(0 : Link)].trained = true := by decide

theorem test_link_decoder :
    3 < decoderCount tRun 0 ∧ waysOk 1 = true ∧ granOk 256 = true ∧ decoderLocked tRun 0 3 = false := by decide

theorem test_link_burst :
    tRun.host.link[(0 : Link)].trained = true ∧ testless tRun (.link 0) = false ∧ queueFull (.link 0) tRun.faults.tests = false := by decide

theorem test_lanes :
    (runningTest (tTest (.link 0)) (.link 0)).isSome = true := by decide

theorem test_mailbox :
    metadataServed tRun 0 ∧ mailboxUp tRun 0 = true ∧ lineAddress tRun 4096 = true ∧ tRun.security.level = .l0 := by decide

theorem test_poison :
    writeWaits tRun 64 = false ∧ needsFetch tRun 64 = false ∧ tRun.host.stopped = false ∧ dramHeld tRun = false ∧
    tRun.host.buf.length < bufferLines := by decide

theorem test_poison_result :
    currentLine (tAfter (.clearPoison 0 4096 5) tRun) 64 = (5, false) ∧ (currentLine (tAfter (.injectPoison 0 4096) tRun) 64).2 = true := by decide

/-- A state in which a save has begun. -/
def tSaving : State := { tRun with power := { tRun.power with state := .save } }

theorem test_mailbox_queues :
    mailboxUp tSaving 0 = true ∧ mailboxQueues tSaving 0 = true ∧ tSaving.host.link[(0 : Link)].mbx = none := by decide

theorem test_mailbox_queues_result :
    let t := tAfter (.setShutdownState 0 true) tSaving; t.host.link[(0 : Link)].mbx = some (.setShutdownState 0 true) ∧
    t = { tSaving with host := { tSaving.host with link := t.host.link } } := by decide

theorem test_poison_l1 :
    let s : State := { tRun with security := { tRun.security with level := .l1 } }; metadataServed s 0 ∧ s.security.level ≠ .l0 := by decide

theorem test_tables :
    tableWriter tRun 0 = true ∧ tRun.rt.busy = false ∧ tRun.host.slots = [] := by decide

/-- A state in which the tables are being refilled. -/
def tBusy : State := { tRun with rt := { tRun.rt with busy := true, waiting := [.commit 0] } }

theorem test_tables_busy :
    tableWriter tBusy 0 = true ∧ tBusy.rt.busy = true ∧ tBusy.host.slots = [] := by decide

theorem test_refresh_limit_step :
    tRun.startup.settings = some tSet ∧ coreUp tRun = true ∧ refreshes tRun 3 = true ∧ lrankExists tSet 0 = true ∧
    tRun.dram.ch[(3 : DramCh)].debt[(0 : Fin 32)] < debtLimit tRun.dram.ch[(3 : DramCh)] := by decide

/-- A state in which a channel stands otherwise. -/
def tDram (d : DramChan) : State := withChan tRun 3 d

/-- A channel at its postponement limit. -/
def tDebt : DramChan := { tChan with debt := Vector.replicate 32 4 }

theorem test_refresh_at_limit :
    coreUp (tDram tDebt) = true ∧ dramHeld (tDram tDebt) = false ∧
    debtLimit (tDram tDebt).dram.ch[(3 : DramCh)] ≤ (tDram tDebt).dram.ch[(3 : DramCh)].debt[(0 : Fin 32)] ∧
    refreshes (tDram tDebt) 3 = true := by decide

theorem test_refresh_pull_in :
    dramHeld tRun = false ∧ -debtLimit tRun.dram.ch[(3 : DramCh)] < tRun.dram.ch[(3 : DramCh)].debt[(0 : Fin 32)] := by decide

theorem test_refresh_pulled_in :
    let s := tDram { tChan with debt := Vector.replicate 32 (-4) }; coreUp s = true ∧ lrankExists tSet 0 = true ∧
    s.dram.ch[(3 : DramCh)].debt[(0 : Fin 32)] ≤ -debtLimit s.dram.ch[(3 : DramCh)] := by decide

theorem test_mr4 :
    takesCommands (tDram tDebt) 3 = true ∧ (tDram tDebt).dram.ch[(3 : DramCh)].band2x = false := by decide

theorem test_upkeep :
    tRun.startup.settings = some tSet ∧ calibrates tRun 16 = true ∧ rankExists tSet 0 = true ∧ tRun.dram.pdTimer ≠ 0 ∧
    takesCommands tRun 16 = true ∧ maintenanceWaits tRun 16 = false ∧ tRun.dram.acc[(16 : DramCh)].powerDown[(0 : Fin 4)] = false ∧
    tRun.sound ∧ stripePresent tRun 5 = true ∧ verifiable tRun 5 = true := by
  unfold State.sound Recorder.fits
  decide

/-- A channel whose rank sleeps and owes scrub. -/
def tAsleep : State :=
  let s := tDram { tChan with scrubOwed := Vector.replicate 4 [9] }
  { s with
    clock := { s.clock with now := 10 },
    dram := { s.dram with acc := Vector.replicate 17 { s.dram.acc[(0 : DramCh)] with powerDown := Vector.replicate 4 true } } }

theorem test_upkeep_asleep :
    calibrates tAsleep 3 = true ∧ maintenanceWaits tAsleep 3 = false ∧ tAsleep.dram.acc[(3 : DramCh)].powerDown[(0 : Fin 4)] = true ∧
    tAsleep.dram.ch[(3 : DramCh)].scrubOwed[(0 : Fin 4)] ≠ [] ∧
    tAsleep.dram.ch[(3 : DramCh)].owedAt[(0 : Fin 4)] + 10 ≤ tAsleep.clock.now := by decide

theorem test_crc_replay :
    takesCommands tRun 3 = true ∧ 16 ≤ tRun.dram.ch[(3 : DramCh)].rate ∧ tRun.dram.ch[(3 : DramCh)].replays < 3 ∧
    (recent tRun 1000 tRun.dram.ch[(3 : DramCh)].crcTimes).length < 7 := by decide

theorem test_crc_last_replay :
    let s := tDram { tChan with replays := 3 }; takesCommands s 3 = true ∧ 3 ≤ s.dram.ch[(3 : DramCh)].replays ∧
    s.dram.ch[(3 : DramCh)].run = .inService := by decide

theorem test_crc_last_replay_result :
    let s := tDram { tChan with replays := 3 }; let t := tAfter (.writeCrcError 3 ⟨0, 0, 0, 1, 2, 77⟩ 9) s; 3 ∈ t.dram.retrainQ ∧
    t.dram.ch[(3 : DramCh)].replays = 0 ∧ t.dram.mem = s.dram.mem ∧ t.host = s.host := by decide

theorem test_channel_lost :
    let s := tDram { tChan with run := .sliced }; saving s = false ∧ coreUp s = true ∧ s.dram.ch[(3 : DramCh)].run = .sliced ∧
    s.dram.ch[(3 : DramCh)].slicesLeft = 0 ∧ missingChannels s = [] ∧ shroudOn s = true := by decide

/-- A state with a retraining queued. -/
def tQueued : State := { tRun with dram := { tRun.dram with retrainQ := [3, 5] } }

theorem test_retrain_start :
    tQueued.startup.settings = some tSet ∧ mayRetrain tQueued = true ∧ tQueued.dram.retrainQ = [3, 5] ∧
    tQueued.dram.ch[(3 : DramCh)].run = .inService ∧ maintainerWaits tQueued 3 = false ∧ someRetrains tQueued = false ∧
    wholeChannel tQueued = true := by decide

theorem test_retrain_start_result :
    let t := tAfter .channelRetrainStart tQueued; t.dram.ch[(3 : DramCh)].run = .retraining ∧ t.dram.retrainQ = [5] ∧
    t.shroud.mode = .retrain ∧ t.shroud.channel = some 3 ∧ t.dram.mem = tQueued.dram.mem := by decide

/-- The same with another channel lost. -/
def tSlices : State := withChan tQueued 7 { tChan with run := .outOfService, rate := 0 }

theorem test_retrain_start_sliced :
    maintainerWaits tSlices 3 = false ∧ mayRetrain tSlices = true ∧ tSlices.dram.ch[(3 : DramCh)].run = .inService ∧
    someRetrains tSlices = false ∧ wholeChannel tSlices = false := by decide

theorem test_retrain_waits :
    let s := withChan tQueued 7 { tChan with run := .sliced }; maintainerWaits s 3 = false ∧ mayRetrain s = true ∧
    s.dram.retrainQ = [3, 5] ∧ s.dram.ch[(3 : DramCh)].run = .inService ∧ someRetrains s = true := by decide

/-- A sliced channel. -/
def tSliced : State := { tDram { tChan with run := .sliced, slicesLeft := 2 } with clock := { tRun.clock with now := 10 } }

theorem test_retrain_slice :
    mayRetrain tSliced = true ∧ tSliced.dram.ch[(3 : DramCh)].run = .sliced ∧ 0 < tSliced.dram.ch[(3 : DramCh)].slicesLeft ∧
    tSliced.dram.ch[(3 : DramCh)].sliceAt + 10 ≤ tSliced.clock.now := by decide

theorem test_retrain_sliced_done :
    let s := tDram { tChan with run := .sliced }; saving s = false ∧ coreUp s = true ∧ s.dram.ch[(3 : DramCh)].run = .sliced ∧
    s.dram.ch[(3 : DramCh)].slicesLeft = 0 := by decide

/-- A channel being retrained whole, some of its regions stale or none. -/
def tWhole (stale : List Nat) : State :=
  { tDram { tChan with run := .retraining } with shroud := { tRun.shroud with mode := .retrain, channel := some 3, staleCh := some 3, stale := stale } }

theorem test_retrain_whole_done :
    [[], [4]].all (fun r => !saving (tWhole r) && coreUp (tWhole r) && (tWhole r).dram.ch[(3 : DramCh)].run == .retraining && (tWhole r).shroud.pass == none && !(tWhole r).fw.waitRetrain) = true := by decide

/-- A channel out of service, its last try 10 min ago. -/
def tOut : State := { tDram { tChan with run := .outOfService, rate := 0 } with clock := { tRun.clock with now := 600000 } }

theorem test_retrain_retry :
    let s := tOut; s.dram.ch[(3 : DramCh)].retryAt + 600000 ≤ s.clock.now ∧ mayRetrain s = true ∧
    s.dram.ch[(3 : DramCh)].run = .outOfService ∧ shroudOn s = true := by decide



theorem test_line_test :
    endsTest (tTest (.line 3 tRow 9)) (.line 3 tRow 9) ∧ missingChannels (tTest (.line 3 tRow 9)) = [] := by decide

theorem test_line_test_result :
    let s := tTest (.line 3 tRow 9); let t := tAfter (.lineTestComplete 3 tRow 9 true 4) s; tested t (.line 3 tRow 9) = false ∧
    t.faults.transients = [⟨.line 3 tRow 9, 0⟩] := by decide

theorem test_line_test_fails :
    let s := tTest (.line 3 tRow 9); cfBusy s = false ∧ rowIntermittent (countTransient s (.line 3 tRow 9)) 3 tRow = false ∧
    fourthRepair s 3 tRow 4 = false ∧ rowEntriesOf s 3 < 24 ∧ (firstBlankWord s secRepair).isSome = true := by decide

/-- The same on a device that has had three repairs within the day. -/
def tRepairs : State :=
  { tTest (.line 3 tRow 9) with faults := { (tTest (.line 3 tRow 9)).faults with repairLog := List.replicate 3 (3, 0, 4, 0, 0) } }

theorem test_line_test_marks :
    endsTest tRepairs (.line 3 tRow 9) ∧ fourthRepair tRepairs 3 tRow 4 = true ∧ tRepairs.dram.ch[(3 : DramCh)].failed = [] := by decide

theorem test_row_test :
    endsTest (tTest (.row 3 tRow)) (.row 3 tRow) ∧ missingChannels (tTest (.row 3 tRow)) = [] := by decide

theorem test_row_test_fails :
    let s := tTest (.row 3 tRow); fourthRepair s 3 tRow 4 = false ∧ rowEntriesOf s 3 < 24 ∧ cfBusy s = false ∧
    rowIntermittent (countTransient s (.row 3 tRow)) 3 tRow = false ∧ s.dram.ch[(3 : DramCh)].failed = [] ∧
    (firstBlankWord s secRepair).isSome = true := by decide

theorem test_channel_pattern_test :
    endsTest (tTest (.dramChannel 3)) (.dramChannel 3) ∧ missingChannels (tTest (.dramChannel 3)) = [] := by decide

theorem test_block_test :
    let s := tTest (.blockSet 4 1 70); endsTest s (.blockSet 4 1 70) ∧ setVacant s tSet 4 1 70 = true ∧ saving s = false ∧
    transients s (30 * dayMs) (fun p => p == .blockSet 4 1 70) < 2 := by decide

theorem test_die_test :
    let s := tTest (.die 4 1); endsTest s (.die 4 1) ∧ transients s dayMs (fun p => p == .die 4 1) < 7 := by decide

theorem test_module_year :
    tRun.clock.opTime < tRun.faults.yearStart + yearMs := by decide

theorem test_module_year_ends :
    let s : State := { tRun with clock := { tRun.clock with opTime := yearMs } }; s.faults.yearStart + yearMs ≤ s.clock.opTime := by decide

/-- A pass that runs. -/
def tPass (k : PassKind) (w : Nat) : State :=
  { tDram { tChan with run := .rebuilding } with shroud := { tRun.shroud with mode := .rebuild, channel := some 3, pass := some k, watermark := w } }

theorem test_pass_step :
    [PassKind.rebuild, .copyBack].all (fun k => passesRun (tPass k 0) && (tPass k 0).shroud.pass == some k && stripePresent (tPass k 0) 0 && !(tPass k 0).fw.waitRetrain && decide ((tPass k 0).shroud.watermark + 1 < allStripes (tPass k 0))) = true := by decide

theorem test_pass_poison :
    let s := tPass .rebuild 0; passesRun s = true ∧ s.shroud.pass = some .rebuild ∧ s.shroud.channel = some 3 ∧
    s.fw.waitRetrain = false ∧ s.shroud.watermark + 1 < allStripes s ∧ stripePresent s s.shroud.watermark = true ∧
    stripeOf 5 = s.shroud.watermark := by decide

theorem test_pass_ends :
    let s := tPass .rebuild (allStripes tRun - 1); passesRun s = true ∧ allStripes s ≤ s.shroud.watermark + 1 ∧
    s.shroud.channel = some 3 ∧ s.restore.running = false ∧ s.fw.waitRetrain = false := by decide

theorem test_pass_ends_result :
    let s := tPass .rebuild (allStripes tRun - 1); let t := tAfter (.rebuildStripe []) s; t.dram.ch[(3 : DramCh)].run = .inService ∧
    t.shroud.pass = none ∧ t.shroud.watermark = 0 ∧ t.dram.mem = s.dram.mem ∧ t.host = s.host := by decide

theorem test_pass_step_sound :
    (tPass .rebuild 0).sound := by
  unfold State.sound Recorder.fits
  decide

theorem test_copy_back_ends :
    let s := tPass .copyBack (allStripes tRun - 1); passesRun s = true ∧ allStripes s ≤ s.shroud.watermark + 1 ∧
    s.shroud.channel = some 3 ∧ s.restore.running = false := by decide

/-- A rebuild of a stripe whose granule is not in DRAM. -/
def tAbsent : State := { tPass .rebuild 0 with restore := { tRun.restore with running := true, presentR := [] } }

theorem test_pass_skips :
    passesRun tAbsent = true ∧ stripePresent tAbsent 0 = false ∧ tAbsent.shroud.pass = some .rebuild := by decide

/-- A state in which a granule is fetched. -/
def tFetch : State :=
  { tRun with restore := { tRun.restore with running := true, presentR := [0], fetches := [⟨2000, none⟩] } }

theorem test_granule_comes_in :
    (tFetch.restore.fetches.find? fun x => x.granule == 2000) = some ⟨2000, none⟩ ∧ tFetch.host.slots = [] ∧ tFetch.sound := by
  unfold State.sound Recorder.fits
  decide

theorem test_granule_comes_in_result :
    let t := tAfter (.demandFetchComplete 2000 (.entry 1 false) 40) tFetch; granulePresent t 2000 = true ∧ fetching t 2000 = false ∧
    t.restore.maxUs = 40 := by decide

/-- A state in which the lost lines of a channel are filled. -/
def tFill : State :=
  { tDram { tChan with run := .outOfService } with
    shroud := { tRun.shroud with mode := .relocate, channel := some 3, pass := some .relocationFill } }

theorem test_relocation_fill :
    passesRun tFill = true ∧ tFill.shroud.mode = .relocate ∧ tFill.host.slots = [] ∧ tFill.shroud.pass = some .relocationFill ∧
    granulePresent tFill 9 = true ∧ 9 < hvGranules tFill ∧ 9 ∉ tFill.shroud.filled ∧ fetching tFill 9 = false ∧
    fillLost tFill 9 = false ∧ hottestLeft tFill 9 = true ∧ tFill.shroud.watermark < allStripes tFill ∧ tFill.sound := by
  unfold State.sound Recorder.fits
  decide

/-- The flash band of the tests. -/
def tBand : Band := { num := 0, nextRow := 1, span31 := false, members := [1, 2, 3], closed := false, moving := false }

/-- A page group of granule 5 on channel 2. -/
def tPage : PageGroup :=
  { band := 0, row := 0, ch := 2, kind := .granule, half := 0, seq := 50, index := 5, gen := 4, keyId := 0, cells := [⟨3, 7⟩], issuedAt := some 0, passed := false,
    covers := [] }

/-- A state in which it is being programmed, for a flush. -/
def tFlush : State :=
  { tRun with
    flash := { tRun.flash with bands := [tBand], openRows := [⟨0, 0, [2], 0⟩], pages := [tPage] },
    persist := { tRun.persist with dirty := [(5, 0)], inflight := [⟨5, [50], [], false, none⟩] } }

theorem test_flush_ends :
    tFlush.startup.settings = some tSet ∧ tFlush.flash.brownOut = false ∧ inProgress tFlush 50 = some tPage ∧ tPage.kind = .granule ∧
    tPage.half = 0 ∧ tFlush.persist.inflight = [⟨5, [50], [], false, none⟩] ∧ tPage.index = 5 := by decide

theorem test_flush_ends_result :
    let t := tAfter (.flashProgramComplete 50 true) tFlush; { tPage with passed := true } ∈ t.flash.pages ∧ t.dram = tFlush.dram ∧
    t.host = tFlush.host ∧ t.security = tFlush.security ∧ (entryOf t 5).state = .present ∧ t.persist.inflight = [] ∧
    entryOf t 6 = entryOf tFlush 6 ∧ isDirty t 5 = false := by decide

/-- The same flush, overtaken by a write. -/
def tOvertaken : State := { tFlush with persist := { tFlush.persist with inflight := [⟨5, [50], [], true, none⟩] } }

theorem test_flush_overtaken :
    inProgress tOvertaken 50 = some tPage ∧ tOvertaken.flash.brownOut = false ∧
    tOvertaken.persist.inflight = [⟨5, [50], [], true, none⟩] := by decide

theorem test_flush_overtaken_result :
    let t := tAfter (.flashProgramComplete 50 true) tOvertaken; (entryOf t 5).state = .present ∧ t.persist.inflight = [] ∧
    isDirty t 5 = true := by decide

/-- A state in which a block set is erased. -/
def tErase (suspended : Bool) : State :=
  { tRun with flash := { tRun.flash with erases := [⟨4, 1, 70, suspended, 0, 0, false⟩] } }

theorem test_erase_ends :
    (tErase false).startup.settings = some tSet ∧ (tErase false).flash.brownOut = false ∧ (eraseOf (tErase false) 4 1 70).isSome = true := by decide

theorem test_erase_resumes :
    saving (tErase true) = false ∧ lunFree (tErase true) tSet 4 1 = true := by decide

theorem test_busy_timeout :
    tRun.flash.brownOut = false ∧ fcReady tRun 4 = true ∧ tRun.flash.ch[(4 : FlashCh)].timeouts = [] := by decide

theorem test_page_read :
    fcUp tRun.flash.ch[(4 : FlashCh)] = true ∧ (3 : Fin 9).val < 4 := by decide

theorem test_page_read_result :
    let t := tAfter (.flashReadComplete 4 1 70 5 (.entry 3 true)) tRun; (blockOf t 4 1 70).learned = 2 ∧
    (blockOf t 4 1 70).refresh = true ∧ t.flash.pages = tRun.flash.pages ∧ t.dram = tRun.dram ∧
    (blockOf (tAfter (.flashReadComplete 4 1 70 5 (.entry 0 false)) tRun) 4 1 70).learned = 0 := by decide

theorem test_program_refused :
    nextPage tRun 4 1 70 1 = false := by decide

/-- A row that has been open for 100 ms. -/
def tOpen : State := { tFlush with clock := { tRun.clock with now := 100 } }

theorem test_row_timeout :
    tOpen.flash.brownOut = false ∧ ⟨0, 0, [2], 0⟩ ∈ tOpen.flash.openRows ∧ (0 : Nat) + 100 ≤ tOpen.clock.now ∧
    bandOf tOpen 0 = some tBand ∧ parityChannel tBand 0 = some 1 ∧
    (tOpen.flash.openRows.all fun x => x.band != 0 || decide (0 ≤ x.row)) = true ∧ memberTakes tOpen tSet tBand 1 0 = true ∧
    pagesOfRow tOpen 0 0 ≠ [] := by decide

theorem test_row_timeout_result :
    let t := tAfter (.rowCloseTimeout 0 0) tOpen; t.flash.openRows = [] ∧
    (t.flash.pages.any fun p => p.kind == .parity && p.band == 0 && p.row == 0 && p.ch == 1 && !p.passed) = true ∧
    tPage ∈ t.flash.pages ∧ t.dram = tOpen.dram ∧ t.host = tOpen.host := by decide

/-- A state in which a checkpoint is due. -/
def tDue : State := { tRun with flash := { tRun.flash with flushed := 2 ^ 36 }, clock := { tRun.clock with now := 1000 } }

theorem test_checkpoint_begins :
    copiesRun tDue = true ∧ tDue.flash.sealJob = none ∧ tDue.flash.formatting = false ∧ needsCheckpoint tDue = false ∧
    restripeDue tDue = false ∧ checkpointDue tDue = true ∧ tDue.flash.sealedAt + 1000 ≤ tDue.clock.now := by decide

/-- A checkpoint whose seal record is to be written. -/
def tJob : SealJob :=
  { kind := .checkpoint, stage := .record, every := false, chunks := [], draft := some (draftOf tDue .checkpoint), attempts := 0,
    failed0 := false, failed1 := false, restripe := [] }

/-- A state in which its seal is being programmed. -/
def tSeal : State := { tDue with flash := { tDue.flash with sealJob := some tJob } }

theorem test_seal_ends :
    tSeal.flash.brownOut = false ∧ tSeal.flash.mirrors[(0 : Fin 2)].ok = true ∧ tSeal.flash.mirrors[1 - (0 : Fin 2)].ok = true ∧
    tSeal.flash.sealJob = some tJob ∧ sealReady tSeal tJob = true := by decide

theorem test_seal_ends_result :
    (let t := tAfter (.sealComplete 0 true) tSeal; t.flash.sealJob = none ∧ t.flash.gen = 4 ∧ t.flash.gens.length = 2 ∧ t.flash.flushed = 0 ∧ t.flash.sealedAt = 1000 ∧ t.dram = tSeal.dram) ∧
    (let t := tAfter (.sealComplete 0 false) tSeal; t.flash.gens = tSeal.flash.gens ∧ t = { tSeal with flash := { tSeal.flash with sealJob := some { tJob with failed0 := true } } }) := by decide

/-- A state in which the copy of granule 5 is to leave band 0, moved for a reason. -/
def tMove (r : MoveReason) : State :=
  { tRun with
    flash := { tRun.flash with
      bands := [{ tBand with closed := true, moving := true }, { tBand with num := 1 }], openRows := [⟨1, 0, [], 0⟩],
      pages := [{ tPage with passed := true }], moves := [(0, r)], manifest := [(5, ⟨.present, 0, 0, 2, 50⟩)] },
    persist := { tRun.persist with wear := 100000 } }

/-- The open band. -/
def tMoveBand (s : State) : Band := (openBand s).getD tBand

theorem test_copy_moves :
    let s := tMove (.restripeChannel 3); copiesRun s = true ∧ (entryOf s 5).state = .present ∧
    moveReason s 0 = some (.restripeChannel 3) ∧ copying s 5 = false ∧ let r := rowsFor s tSet;
    (r.flash.pages.filter fun p => p.passed && p.index == 5 && livePage r p) = [{ tPage with passed := true }] ∧
    openBand r = some (tMoveBand r) ∧ mayProgram r tSet 1 (bandDie tSet 1) = true ∧ (freeRows r tSet (tMoveBand r) 1 1).isSome = true ∧
    restriping (.restripeChannel 3) = true ∧ copyYields s tSet 5 1 true = false := by decide +kernel

theorem test_copy_compacts :
    let s := tMove .refresh; copiesRun s = true ∧ (entryOf s 5).state = .present ∧ moveReason s 0 = some .refresh ∧
    copying s 5 = false ∧ let r := rowsFor s tSet;
    (r.flash.pages.filter fun p => p.passed && p.index == 5 && livePage r p) = [{ tPage with passed := true }] ∧
    openBand r = some (tMoveBand r) ∧ mayProgram r tSet 1 (bandDie tSet 1) = true ∧ (freeRows r tSet (tMoveBand r) 1 1).isSome = true ∧
    restriping .refresh = false ∧ copyAllowed s tSet .refresh = true ∧ copyYields s tSet 5 1 true = false := by decide +kernel

/-- A state with a large spread of erase counts. -/
def tWorn : State :=
  { tRun with
    flash := { tRun.flash with
      bands := [{ tBand with closed := true }], pages := [{ tPage with passed := true }], manifest := [(5, ⟨.present, 0, 0, 2, 50⟩)],
      blocks := [⟨9, 1, 300, .erased, 2000, 2000, 0, false, false, false⟩], fullScrub := true },
    persist := { tRun.persist with wear := 100000 } }

theorem test_wear_leveling :
    copiesRun tWorn = true ∧ wearLeft tWorn = true ∧ 1000 < wearSpread tWorn tSet ∧
    leastMean tWorn tSet (tWorn.flash.bands.filter fun b => b.closed && !b.moving && !(liveIn tWorn b.num).isEmpty) = some { tBand with closed := true } := by decide

theorem test_retention_scrub :
    copiesRun tWorn = true ∧ scrubTurn tWorn 0 = true ∧ scrubQuiet tWorn tSet 0 = true := by decide +kernel

/-- 60 days of STANDBY. -/
def tStandby : State :=
  { tRun with
    power := { tRun.power with state := .standby }, clock := { tRun.clock with now := 5184000000 },
    flash := { tRun.flash with standbySince := some 0 } }

theorem test_retention_due :
    inStandby tStandby = true ∧ tStandby.flash.retentionDue = false ∧ tStandby.flash.standbySince = some 0 ∧
    (0 : Nat) + 5184000000 ≤ tStandby.clock.now := by decide

/-- A state whose flash channel 4 stands otherwise. -/
def tFc (f : FlashChan) : State := withFlashCh tRun 4 f

/-- Channel 4 trains, and so does a DRAM channel. -/
def tTraining : State := withChan (tFc { tFlash with run := .training }) 3 { tChan with run := .training }

theorem test_flash_training :
    tTraining.flash.ch[(4 : FlashCh)].run = .training ∧
    (tTraining.dram.ch.toList.any fun d => d.run == .training || d.run == .selfRefresh) = true ∧
    (∀ m : Fin 2, tTraining.flash.mirrors[m].ok = true → mirrorGone (withFlashCh tTraining 4 { tFlash with rate := 12 }) tTraining.flash.mirrors[m].ch = false) := by decide

/-- Channel 4 lost, its last try 10 min ago. -/
def tRetry : State := { tFc { tFlash with run := .outOfService } with clock := { tRun.clock with now := 600000 } }

theorem test_flash_retry :
    let s := tRetry; s.flash.ch[(4 : FlashCh)].retryAt + 600000 ≤ s.clock.now ∧ s.flash.ch[(4 : FlashCh)].run = .outOfService ∧
    s.flash.ch[(4 : FlashCh)].hasEngine = true ∧ copiesRun s = true ∧ startDies s tSet 4 ≠ [] := by decide

theorem test_nand_brownout :
    tRun.flash.inService = true := by decide

/-- A brown-out that has ended. -/
def tBrown : State := { tErase false with flash := { (tErase false).flash with brownOut := true, wpN := true } }

theorem test_nand_recovery :
    tBrown.startup.settings = some tSet ∧ tBrown.flash.brownOut = true ∧ tBrown.rails.rail[9].run = .qualified ∧
    tBrown.rails.rail[10].run = .qualified := by decide

/-- A mirror of the system area is lost. -/
def tMirror : State := { tRun with flash := { tRun.flash with mirrors := #v[⟨0, false⟩, ⟨16, true⟩], relocating := true } }

theorem test_mirror_moves :
    tMirror.flash.mirrors[(0 : Fin 2)].ok = false ∧ tMirror.flash.mirrors[1 - (0 : Fin 2)].ok = true ∧
    tMirror.flash.relocating = true ∧ relocateTo tMirror 0 = some 1 := by decide

/-- New firmware in its probation. -/
def tProbation : State := { tRun with fw := { tRun.fw with phase := .probation } }

theorem test_watchdog :
    coreUp tProbation = true ∧ tProbation.fw.phase = .probation ∧ tProbation.cf.op ≠ .program ∧ tProbation.cf.op ≠ .erase ∧
    tRun.fw.phase ≠ .probation := by decide

theorem test_engine_exception :
    coreUp tRun = true ∧ tRun.engines.eng[(9 : EngineId)].run ≠ .retired ∧ tRun.engines.eng[(9 : EngineId)].run ≠ .resting ∧
    tRun.fw.phase ≠ .probation := by decide

/-- Engine 9 in its BIST. -/
def tBist : State := withEngine (tTest (.engine 9)) 9 { (tTest (.engine 9)).engines.eng[(9 : EngineId)] with run := .bist }

theorem test_engine_passes :
    endsTest tBist (.engine 9) ∧ engineIntermittent tBist 9 = false ∧ tBist.engines.eng[(9 : EngineId)].run = .bist := by decide

theorem test_engine_fails :
    endsTest tBist (.engine 9) ∧ tBist.engines.eng[(9 : EngineId)].run ≠ .retired ∧
    (tBist.engines.eng[(9 : EngineId)].role.any fun r => r != .spare) = true ∧ (spareOf tBist.engines.eng).isSome = true := by decide

/-- A spare taking over flash channel 4. -/
def tSwap : State :=
  { tFc { tFlash with run := .engineSwap } with engines := { tRun.engines with swaps := [(.flash 4, 60)] } }

theorem test_engine_swap :
    tSwap.qmp.held = [] ∧ (∀ l : Link, tSwap.host.link[l].mbx = none) ∧
    (tSwap.engines.swaps.find? fun w => w.2 == 60) = some (.flash 4, 60) ∧ tSwap.flash.ch[(4 : FlashCh)].run = .engineSwap := by decide

theorem test_input_loss :
    tRun.power.state = .run ∧ tRun.power.starting = false ∧ tRun.power.minimal = false ∧ tRun.security.lowering = false := by decide

/-- A state in a phase of a save, on the pack or on the input. -/
def tSave (phase : Nat) (stores : Bool) : State :=
  { tRun with
    power := { tRun.power with state := .save },
    save := { tRun.save with
      phase := phase, trigger := some .pfN, onStores := stores, store := if stores then .pack else .input, prior := .run,
      plan := { tRun.save.plan with store := 1, mMan := 500, mSeal := 600, mRet := 700 } } }

/-- Isolation after the stores have been taken already. -/
def tOver : State := { tSave 1 true with save := { (tSave 1 true).save with regulated := true } }

theorem test_save_isolate_over :
    tOver.save.onStores = true ∧ tOver.save.store ≠ .input ∧ tOver.save.phase = 1 ∧ tOver.host.buf.all (fun b => b.waitFetch) = true := by decide

/-- Isolation with the stores selected and none taken. -/
def tToStore : State := { tSave 1 true with save := { (tSave 1 true).save with store := .input } }

theorem test_save_isolate :
    tToStore.power.state = .save ∧ tToStore.save.phase = 1 ∧ tToStore.save.onStores = true ∧ tToStore.save.store = .input ∧
    tToStore.host.buf.all (fun b => b.waitFetch) = true ∧ (tSave 1 false).save.onStores = false := by decide

theorem test_save_regulation :
    let s := tSave 3 true; s.save.phase = 3 ∧ s.save.onStores = true ∧ s.save.regulated = false ∧ s.save.store ≠ .input ∧
    s.power.state = .save ∧ (tSave 5 true).save.phase ≤ 7 ∧ (tSave 5 true).save.regulated = false ∧ (tSave 5 true).save.store ≠ .input := by decide

theorem test_save_store_fails :
    let s := tSave 7 true; s.save.onStores = true ∧ 3 ≤ s.save.phase ∧ s.save.phase ≤ 7 ∧ s.save.store = .pack ∧ s.save.bankOk = false := by decide

theorem test_save_store_fails_over :
    let s : State := { tSave 3 true with save := { (tSave 3 true).save with bankOk := true } }; s.save.onStores = true ∧
    s.save.phase = 3 ∧ s.save.store = .pack ∧ s.save.bankOk = true := by decide

/-- A save that runs on the bank. -/
def tOnBank (packOk : Bool) : State :=
  { tSave 7 true with save := { (tSave 7 true).save with store := .bank, packOk := packOk, bankOk := true } }

theorem test_save_bank_fails :
    ∀ p : Bool, (tOnBank p).power.state = .save ∧ (tOnBank p).save.onStores = true ∧ (tOnBank p).save.phase = 7 ∧
    (tOnBank p).save.store = .bank ∧ (tOnBank p).save.packOk = p := by decide

/-- Phase 4 with two granules dirty. -/
def tPhase4 : State := { tSave 4 true with persist := { tRun.persist with dirty := [(5, 0), (8, 0)] } }

theorem test_save_marks :
    tPhase4.save.lostList = [] ∧ tPhase4.save.phase = 4 ∧ tPhase4.save.onStores = true ∧ tPhase4.save.store = .pack ∧
    ((satAdd 32 tPhase4.save.charge 499 : Nat) : Rat) < tPhase4.save.plan.mMan ∧
    tPhase4.save.plan.mMan ≤ ((satAdd 32 tPhase4.save.charge 500 : Nat) : Rat) := by decide

theorem test_save_flush_ends :
    (tSave 4 true).save.phase = 4 ∧ flushedAll (tSave 4 true) = true := by decide

/-- Phase 4 with no flash in service. -/
def tNoFlash : State := { tPhase4 with flash := { tRun.flash with ch := Vector.replicate 32 { tFlash with run := .outOfService } } }

theorem test_save_no_page_left :
    tNoFlash.power.state = .save ∧ tNoFlash.save.phase = 4 ∧ tNoFlash.save.onStores = true ∧ flushedAll tNoFlash = false ∧
    noPageLeft tNoFlash tSet = true := by decide

theorem test_save_no_page_left_result :
    let t := tAfter .saveFlushEnd tNoFlash; t.save.phase = 5 ∧ t.save.endCause = .noPage ∧ t.save.lost = 2 := by decide

/-- The generation of a save. -/
def tSaveJob (stage : SealStage) : SealJob :=
  { kind := .save, stage := stage, every := false, chunks := [], draft := some (draftOf (tSave 5 true) .save), attempts := 0, failed0 := false,
    failed1 := false, restripe := [] }

/-- Phase 5, its root being written. -/
def tPhase5 : State := { tSave 5 true with flash := { tRun.flash with sealJob := some (tSaveJob .root) } }

theorem test_save_manifest :
    let s := tPhase5; s.startup.settings = some tSet ∧ s.power.state = .save ∧ s.save.phase = 5 ∧ 2 ≤ flashChannels s ∧
    s.save.endCause ≠ .noPage ∧ s.flash.sealJob = some (tSaveJob .root) ∧ metaWaits s .root = false := by decide

/-- Phase 5 with no page group to write. -/
def tNoPage : State := { tSave 5 true with save := { (tSave 5 true).save with endCause := .noPage } }

theorem test_save_no_page :
    tNoPage.save.phase = 5 ∧ tNoPage.save.endCause = .noPage := by decide

/-- Phase 6, its seal being programmed. -/
def tPhase6 : State := { tSave 6 true with flash := { tRun.flash with sealJob := some (tSaveJob .record) } }

theorem test_save_seals :
    tPhase6.flash.brownOut = false ∧ tPhase6.flash.mirrors[(1 : Fin 2)].ok = true ∧ tPhase6.save.phase = 6 ∧
    tPhase6.save.sealWait = false ∧ sealReady tPhase6 (tSaveJob .record) = true := by decide

/-- Phase 7, the module to return. -/
def tPhase7 : State := { tSave 7 true with save := { (tSave 7 true).save with returning := true, sealOk := true, sealed := some 3 } }

theorem test_save_retires :
    tPhase7.rails.downThen = none ∧ tPhase7.shroud.staging = [] ∧ tPhase7.power.state = .save ∧ tPhase7.save.phase = 7 ∧
    tPhase7.save.returning = true ∧ inputGood tPhase7 = true ∧ tPhase7.rails.deferred.isNone = true := by decide

/-- A Retained return. -/
def tReturn : State :=
  { tSave 8 false with
    save := { (tSave 8 false).save with returning := true, sealOk := true, sealed := some 3 },
    dram := { tRun.dram with ch := Vector.replicate 17 { tChan with run := .selfRefresh } } }

theorem test_save_returns :
    tReturn.startup.settings = some tSet ∧ tReturn.power.state = .save ∧ tReturn.save.phase = 8 ∧ tReturn.save.returning = true ∧
    tReturn.save.prior = .run ∧ tReturn.save.fromStart = false ∧ tReturn.save.heldTrigs = [] ∧ tReturn.save.sealWait = false ∧
    needsCheckpoint tReturn = false ∧ tReturn.qmp.held = [] ∧ tReturn.button.mrLatched = false := by decide

theorem test_save_returns_result :
    (let t := tAfter (.retainedReturnComplete true) tReturn; t.power.state = .run ∧ t.host.stopped = false ∧ t.save.retained = true ∧ t.save.returning = false ∧ t.dram.mem = tReturn.dram.mem ∧ t.host.buf = tReturn.host.buf ∧ (∀ ch : DramCh, t.dram.ch[ch].run = .inService)) ∧
    (let t := tAfter (.retainedReturnComplete false) tReturn; t.rails.downTodo = enabledRails tReturn ∧ t.save.returning = false ∧ t.dram = tReturn.dram ∧ t.flash = tReturn.flash ∧ t.host = tReturn.host) := by decide

/-- A Retained return from a save whose generation is the newest. -/
def tReturnSave : State := { tReturn with flash := { tRun.flash with gens := [{ tGen with kind := .save }] } }

theorem test_save_returns_sealing :
    tReturnSave.power.state = .save ∧ tReturnSave.save.phase = 8 ∧ tReturnSave.save.returning = true ∧
    tReturnSave.save.sealWait = false ∧ tReturnSave.save.heldTrigs = [] ∧ needsCheckpoint tReturnSave = true := by decide

theorem test_save_returns_sealing_result :
    let t := tAfter (.retainedReturnComplete true) tReturnSave; t.power.state = .save ∧ t.save.sealWait = true ∧
    (t.flash.sealJob.any fun j => j.kind == .checkpoint) = true := by decide

/-- A start-up at the end of a step. -/
def tStart (step : Nat) : State :=
  { tRun with
    power := { tRun.power with state := .restore, starting := true, dramUp := false }, startup := { tRun.startup with step := step, step9At := none },
    security := { tRun.security with key := some 0 } }

/-- Step 5 has ended, and the root of the generation is in flash. -/
def tSelect : State :=
  { tStart 5 with
    flash := { tRun.flash with pages := (List.range 5).map fun i =>
      { tPage with kind := .root, ch := Fin.ofNat 32 i, index := i, gen := 3, seq := 40 + i, passed := true } } }

theorem test_generation_chosen :
    tSelect.startup.settings = some tSet ∧ tSelect.power.state = .restore ∧ tSelect.power.starting = true ∧
    tSelect.startup.retained = false ∧ tSelect.startup.step = 5 ∧
    highestOf (tSelect.flash.gens.filter (candidate tSelect tSet)) = some tGen ∧ tGen.gran128 = tSet.region128 := by decide

/-- Step 6 has ended. -/
def tLoad : State := { tStart 6 with restore := { tRun.restore with phase := 2, genUsed := 3 } }

theorem test_manifest_loaded :
    needsCheckpoint tLoad = false ∧ tLoad.restore.hold = false ∧ tLoad.power.state = .restore ∧ tLoad.power.starting = true ∧
    tLoad.startup.step = 6 ∧ tLoad.qmp.held = [] ∧ tLoad.button.deferred = none ∧ tLoad.restore.source ≠ 2 ∧
    (tLoad.flash.gens.find? fun x => x.gen == tLoad.restore.genUsed) = some tGen ∧ 0 < hvRegions tLoad ∧
    lostRegions tLoad (loadedManifest tLoad tGen []) = [] := by decide

/-- A restore in progress, from granule 0 on. -/
def tRestore (hand : List Nat) : State :=
  { tRun with
    power := { tRun.power with state := .restore }, restore := { tRun.restore with running := true, hotOrder := [0], inHand := hand } }

theorem test_restore_next :
    restoreRuns (tRestore []) = true ∧ nextGranule (tRestore []) = some 0 ∧ restoreYields (tRestore []) 0 = false := by decide

/-- A demand fetch on its channel comes before it. -/
def tYields : State :=
  { tRestore [] with
    flash := { tRun.flash with manifest := [(0, ⟨.present, 0, 0, 2, 50⟩)] },
    restore := { (tRestore []).restore with fetches := [⟨9, some (2, 0)⟩] } }

theorem test_restore_yields :
    restoreRuns tYields = true ∧ nextGranule tYields = some 0 ∧ restoreYields tYields 0 = true := by decide

theorem test_restore_granule :
    restoreRuns (tRestore [0]) = true ∧ 0 ∈ (tRestore [0]).restore.inHand ∧ granulePresent (tRestore [0]) 0 = false ∧
    quietFetch (tRestore [0]) ∧ (tRestore [0]).sound := by
  unfold State.sound Recorder.fits
  decide

theorem test_restore_granule_result :
    granulePresent (tAfter (.restoreGranuleComplete 0 (.entry 1 false)) (tRestore [0])) 0 = true := by decide

theorem test_restore_overtaken :
    let s : State := { tRestore [0] with restore := { (tRestore [0]).restore with presence := [0] } }; restoreRuns s = true ∧
    0 ∈ s.restore.inHand ∧ granulePresent s 0 = true := by decide

/-- 90 s of restore. -/
def tSlow : State := { tRestore [] with clock := { tRun.clock with now := 90000 } }

theorem test_restore_slow :
    restoreRuns tSlow = true ∧ tSlow.restore.slow = false ∧ tSlow.restore.step8At + 90000 ≤ tSlow.clock.now ∧ 0 < regionsLeft tSlow := by decide

/-- DRAM and flash train, at step 5 of a start-up. -/
def tTrain : State :=
  { tStart 4 with
    dram := { tRun.dram with ch := Vector.replicate 17 { tChan with run := .training, rate := 0 } },
    flash := { tRun.flash with inService := false, ch := Vector.replicate 32 { tFlash with run := .training } } }

theorem test_dram_trains :
    tTrain.power.state = .restore ∧ tTrain.power.starting = true ∧ tTrain.startup.step = 4 ∧ tTrain.startup.retained = false ∧
    trainingChannels tTrain ≠ [] ∧ tTrain.dram.rateSteps = 0 ∧ (tTrain.flash.ch.toList.any fun f => f.run == .training) = true := by decide

/-- The retained path, at its checks. -/
def tRetained : State :=
  { tStart 5 with
    startup := { tSelect.startup with retained := true }, power := { tSelect.power with dramUp := true },
    dram := { tRun.dram with ch := Vector.replicate 17 { tChan with stored := some (true, true) } } }

theorem test_retained_path :
    tRetained.power.state = .restore ∧ tRetained.power.starting = true ∧ tRetained.startup.retained = true ∧
    tRetained.startup.step = 5 ∧ tRetained.qmp.held = [] ∧ tRetained.button.deferred = none ∧ tRetained.restore.hold = false ∧
    shroudMatches tRetained = true := by decide

theorem test_pack_samples :
    tRun.power.aon = true ∧ tRun.charger.taperSince = none := by decide

theorem test_pack_impedance :
    tRun.startup.settings = some tSet ∧ tRun.pack.present = true ∧ tSet.pack.rLimit < 61 ∧ tRun.pack.failure = none := by decide

theorem test_pack_zero_current :
    saveStart tRun = false := by decide

/-- The test state a time after reset. -/
def tLater (ms : Nat) : State := { tRun with clock := { tRun.clock with now := ms, opTime := ms } }

theorem test_pack_hibernates :
    let s := tLater 60000; s.pack.quietSince + 60000 ≤ s.clock.now ∧ s.pack.accessAt + 60000 ≤ s.clock.now ∧
    s.pack.restActive = false ∧ s.bank.testing = false ∧ saving s = false := by decide

/-- A state with another pack. -/
def tCell (p : Pack) : State := { tRun with pack := p }

theorem test_pack_inserted :
    (tCell { tRun.pack with present := false }).power.aon = true ∧ (tCell { tRun.pack with present := false }).pack.present = false := by decide

theorem test_pack_removed :
    tRun.pack.present = true ∧ tRun.pack.inService = true ∧ tRun.pack.failure = none := by decide

/-- A pack that meets the conditions of service. -/
def tFit : State :=
  { tCell { tRun.pack with cond := .notYet, inService := false, presentSince := some 0, goodSince := some 0, idTried := true } with
    clock := { tRun.clock with now := 1000 } }

theorem test_pack_qualified :
    qualifies tFit = true ∧ tFit.pack.cond ≠ .qualified ∧ tFit.power.aon = true := by decide

/-- A pack serial number. -/
def tSerial : List Byte := List.replicate 16 7

/-- A pack whose serial number has been read before. -/
def tKnown : State := tCell { tRun.pack with serial := List.replicate 16 9 }

theorem test_pack_identity :
    tKnown.lb.state = .inService ∧ tKnown.pack.present = true ∧ tSerial.length = 16 ∧ tSerial ≠ tKnown.pack.serial ∧
    noSerial tKnown = false := by decide

/-- Settings with a bank. -/
def tBankSet : BankSet := { eRated := 400, vPlan := 9000, vGuard := 8000, chgV := 10800, chgI := 500, testI := 1000, cMin := 2000 }

/-- A state with a bank. -/
def tBank (b : Bank) : State :=
  { tRun with startup := { tRun.startup with settings := some { tSet with bank := some tBankSet } }, bank := b, clock := { tRun.clock with now := 60200 } }

theorem test_bank_test :
    let s := tBank { tRun.bank with run := .qualified }; s.power.aon = true ∧ saveStart s = false ∧ s.bank.testing = false ∧
    s.bank.run ≠ .absent ∧ s.startup.settings.isSome = true ∧ s.pack.shipStep = 0 := by decide

theorem test_bank_test_ends :
    let s := tBank { tRun.bank with run := .qualified, testing := true };
    s.startup.settings = some { tSet with bank := some tBankSet } ∧ s.bank.testing = true ∧ s.bank.testFrom + 60200 ≤ s.clock.now ∧
    500 < 501 ∧ s.bank.run ≠ .failed := by decide

theorem test_charger_poll :
    tRun.lb.state = .inService ∧ tRun.startup.settings.isSome = true ∧ tRun.power.aon = true := by decide

theorem test_charge_held :
    let s : State := { tLater 3600000 with charger := { tRun.charger with heldSince := some 0 } }; s.charger.heldSince = some 0 ∧
    (0 : Nat) + 3600000 ≤ s.clock.now ∧ s.charger.heldSent = none := by decide

theorem test_rest_reference :
    restReady (tLater 600000) = true ∧ (tLater 600000).power.aon = true := by decide

theorem test_rest_reference_result :
    let s := tLater 600000; let t := tAfter (.restReference 14500) s; t.pack.socSrc = .rest ∧ t.pack.qChg = 0 ∧ t.pack.qDis = 0 ∧
    t.pack.uBase = tSet.pack.uRest ∧ t.pack.refAt = s.clock.opTime ∧ t.pack.restDue = false ∧ t.pack.restOcv = 14500 ∧
    t.pack.restActive = false ∧ t.pack.changeSeq = s.pack.changeSeq + 1 ∧ t.dram = s.dram := by decide

theorem test_startup_reading :
    let s : State := { tLater 2000 with pack := { tRun.pack with readingDue := true } }; s.pack.present = true ∧ s.pack.readingDue = true ∧
    s.charger.run ≠ .charging ∧ readingQuiet s = true ∧ (tLater 5000).pack.readingFrom + 5000 ≤ (tLater 5000).clock.now := by decide

theorem test_startup_reading_result :
    (let s : State := { tLater 2000 with pack := { tRun.pack with readingDue := true } }; let t := tAfter (.startupReading 14500) s;
      t.pack.socSrc = .reading ∧ t.pack.qChg = 0 ∧ t.pack.qDis = 0 ∧ t.pack.uBase = tSet.pack.uStart ∧ t.pack.readingDue = false ∧ t.dram = s.dram) ∧
    (tAfter (.startupReading 14500) { tLater 5000 with pack := { tRun.pack with readingDue := true, current := 20 } }).pack.uBase = 250 := by decide

theorem test_rest_due :
    let s := tLater (72 * 3600000); s.startup.settings.isSome = true ∧ s.pack.restDue = false ∧ 72 ≤ hoursSince s := by decide +kernel

theorem test_rest_request :
    let s : State := { tLater 86400000 with pack := { tRun.pack with restDue := true } }; s.pack.restDue = true ∧
    s.pack.restReqAt + 86400000 ≤ s.clock.now := by decide

theorem test_rest_window :
    (tLater 1800000).pack.restFrom + 1800000 ≤ (tLater 1800000).clock.now := by decide

theorem test_esb_changed :
    let s := tCell { tRun.pack with esbDirty := true }; s.power.sram = true ∧ s.pack.esbDirty = true ∧ s.pack.esbSentAt = none := by decide

theorem test_ship_fails :
    let s : State := { tLater 1000 with pack := { tRun.pack with shipStep := 3 } }; s.pack.shipStep = 3 ∧
    s.pack.shipAt + 1000 ≤ s.clock.now ∧ 1000 ≤ s.pack.voltage := by decide

/-- A state whose site 0 stands otherwise. -/
def tSite (x : SiteState) : State := { tRun with thermal := { tRun.thermal with site := Vector.replicate 32 x } }

/-- A plausible site with a few samples of 60 °C. -/
def tPlausible : SiteState := { resetSite with run := .plausible, samples := [7680, 7680, 7680, 7680, 7680, 7680, 7680, 7680] }

theorem test_site_sample :
    coreUp (tSite tPlausible) = true ∧ (tSite tPlausible).thermal.site[(0 : Site)].run = .plausible ∧ inSiteRange 0 19200 = true ∧
    (tSite tPlausible).thermal.site[(0 : Site)].hist = [] := by decide

theorem test_site_sample_result :
    let s := tSite tPlausible; let u := tAfter (.dieSiteSample [some 19200]) s;
    u.thermal.site[(0 : Site)].samples = [19200, 7680, 7680, 7680, 7680, 7680, 7680, 7680] ∧ u.thermal.site[(0 : Site)].badRange = 0 ∧
    (∀ i : Site, i ≠ 0 → u.thermal.site[i] = s.thermal.site[i]) ∧ u.dram.mem = s.dram.mem ∧ u.rails = s.rails := by decide

theorem test_local_bus_cycle :
    coreUp tRun = true ∧ tRun.lb.state = .inService := by decide

/-- A sensor of site 9 in a FORMAT code (Table 19-3); 0x3C00 is 60 °C in code 1. -/
def tSensor (format : Nat) : SensorSet := { site := 9, addr := 0x20, format := format, domain := .nand, channels := 1 }

/-- A state with that sensor. -/
def tSensed (format : Nat) : State :=
  { tSite tPlausible with startup := { tRun.startup with settings := some { tSet with sensors := [tSensor format] } } }

theorem test_remote_sample :
    coreUp (tSensed 1) = true ∧ (tSensed 1).lb.state = .inService ∧ (tSensed 1).thermal.site[(9 : Site)].run = .plausible ∧
    inSiteRange 9 (sensorReading 1 0x3C00) = true ∧ (tSensed 1).thermal.site[(9 : Site)].hist = [] := by decide

theorem test_remote_sample_result :
    let u := tAfter (.localBusCycle [(9, some 0x3C00)] [] false 0 0) (tSensed 1);
    u.thermal.site[(9 : Site)].samples = [7680, 7680, 7680, 7680, 7680, 7680, 7680, 7680] ∧ u.thermal.site[(9 : Site)].badRange = 0 ∧
    (∀ k : Site, k ≠ 9 → u.thermal.site[k] = (tSensed 1).thermal.site[k]) ∧ u.dram.mem = (tSensed 1).dram.mem := by decide

theorem test_site_readmitted :
    let s : State := { tSite { tPlausible with run := .ignored, goodSince := some 0 } with clock := { tRun.clock with now := 10000 } };
    s.thermal.site[(9 : Site)].run = .ignored ∧ s.thermal.site[(9 : Site)].goodSince = some 0 ∧ (0 : Nat) + 10000 ≤ s.clock.now := by decide

theorem test_site_reread :
    endsTest (tTest (.site 9)) (.site 9) := by decide

theorem test_aon_sample :
    tRun.power.aon = true ∧ tRun.power.state = .run := by decide

/-- Every site of the die and of NAND at a temperature, in °C, an edge crossed for 100 ms. -/
def tHot (d : Domain) (t : Int) (e : BandEdge) : State :=
  let s := tSite { resetSite with run := .plausible, domain := d, channels := BitVec.allOnes 32, samples := List.replicate 8 (128 * t) }
  { s with clock := { s.clock with now := 100 }, thermal := { s.thermal with crossSince := [(e, true, 0)] } }

theorem test_band_die :
    dwelt (tHot .die 101 .dieReef) .dieReef true = true ∧ coreUp (tHot .die 101 .dieReef) = true ∧
    crossed (dieMax (tHot .die 101 .dieReef)) 100 true (tHot .die 101 .dieReef).thermal.dieReef = true := by decide

theorem test_band_nand :
    dwelt (tHot .nand 71 (.nand2 4)) (.nand2 4) true = true ∧
    crossed (nandMax (tHot .nand 71 (.nand2 4)) 4) 70 true (tHot .nand 71 (.nand2 4)).thermal.nand[(4 : FlashCh)].band2 = true ∧
    coreUp (tHot .nand 71 (.nand2 4)) = true := by decide

theorem test_band_nand_result :
    let s := tHot .nand 71 (.nand2 4); let t := tAfter (.thermalBandDwell (.nand2 4) true) s;
    t.thermal.nand[(4 : FlashCh)].band2 = true ∧ t.flash.ch[(4 : FlashCh)].band = 2 ∧
    (∀ k : FlashCh, k ≠ 4 → t.flash.ch[k] = s.flash.ch[k] ∧ t.thermal.nand[k] = s.thermal.nand[k]) ∧ t.dram = s.dram := by decide

theorem test_band_trip :
    let s := tHot .die 113 .dieTrip; s.power.state = .run ∧ s.power.starting = false ∧ s.power.minimal = false ∧
    s.security.lowering = false ∧ dwelt s .dieTrip true = true ∧ crossed (dieMax s) 112 true s.thermal.dieTrip = true := by decide

theorem test_reef_step :
    coreUp (tLater 100) = true ∧ (tLater 100).thermal.stepAt + 100 ≤ (tLater 100).clock.now := by decide

theorem test_backstop :
    tRun.rails.rail[(1 : Rail)].en = true := by decide

/-- A state whose rail 5 stands otherwise. -/
def tRail5 (x : RailState) : State := withRail tRun 4 x

/-- A rail's entry of a class, with a timeout of 10 ms. -/
def tClass (c : RailClass) : RailSet := { timeoutMs := 10, qualHalfMs := 4, filterUs := 100, gapTenths := 0, cls := c }

/-- Rail 5 in a sequence, before rail 6. -/
def tSeq (x : RailState) : State := { tRail5 x with rails := { (tRail5 x).rails with seqTodo := [4, 5], seqFor := .boot } }

theorem test_rail_up :
    (tSeq { tRail with run := .qualifying }).rails.rail[(4 : Rail)].run = .qualifying ∧
    (tSeq { tRail with run := .qualifying }).rails.seqTodo = [4, 5] ∧ (5 : Rail) ≠ 4 := by decide

theorem test_rail_retry :
    let s : State := { tSeq { tRail with run := .qualifying, retries := 2, set_ := tClass .retry } with clock := { tRun.clock with now := 10 } };
    s.rails.rail[(4 : Rail)].run = .qualifying ∧ s.rails.rail[(4 : Rail)].enAt + s.rails.rail[(4 : Rail)].set_.timeoutMs ≤ s.clock.now ∧
    s.rails.seqTodo.head? = some 4 ∧ s.rails.rail[(4 : Rail)].set_.cls = .retry ∧ s.rails.rail[(4 : Rail)].retries < 3 := by decide

theorem test_rail_fails :
    let s : State := { tSeq { tRail with run := .qualifying, set_ := tClass .group } with clock := { tRun.clock with now := 10 } };
    s.rails.rail[(4 : Rail)].run = .qualifying ∧ s.rails.rail[(4 : Rail)].enAt + s.rails.rail[(4 : Rail)].set_.timeoutMs ≤ s.clock.now ∧
    s.rails.seqTodo.head? = some 4 ∧ s.rails.rail[(4 : Rail)].set_.cls ≠ .retry ∧ s.rails.seqFor = .boot := by decide

theorem test_rail_reenabled :
    let s : State := { tSeq { tRail with run := .off, en := false, retries := 1 } with clock := { tRun.clock with now := 50 } };
    s.rails.rail[(4 : Rail)].enAt + 50 ≤ s.clock.now ∧ s.rails.rail[(4 : Rail)].run = .off ∧
    s.rails.rail[(4 : Rail)].en = false ∧ 0 < s.rails.rail[(4 : Rail)].retries ∧ s.rails.seqTodo.head? = some 4 := by decide

theorem test_rail_down :
    let s : State := { tRun with rails := { tRun.rails with downTodo := [4, 3], downThen := some .trip } }; s.rails.downTodo = [4, 3] ∧
    s.rails.downThen.isSome = true := by decide

theorem test_rail_down_result :
    let s : State := { tRun with rails := { tRun.rails with downTodo := [4, 3], downThen := some .trip } };
    let t := tAfter .railDownStep s; t.rails.rail[(4 : Rail)].run = .switchedOff ∧ t.rails.rail[(4 : Rail)].en = false ∧
    t.rails.downTodo = [3] ∧ (∀ k : Rail, k ≠ 4 → t.rails.rail[k] = s.rails.rail[k]) := by decide

theorem test_rail_dip :
    tRun.rails.rail[(4 : Rail)].run = .qualified ∧ (4 : Rail).val ≠ 0 := by decide

theorem test_rail_ignore_fault :
    let s := tRail5 { tRail with set_ := tClass .ignore }; s.rails.rail[(4 : Rail)].run = .qualified ∧
    s.rails.rail[(4 : Rail)].set_.cls = .ignore := by decide

theorem test_rail_fault_in_save :
    let s : State := { tRail5 { tRail with set_ := tClass .reset } with power := { tRun.power with state := .save } };
    s.rails.rail[(4 : Rail)].run = .qualified ∧ s.rails.rail[(4 : Rail)].set_.cls = .reset ∧ saving s = true := by decide

/-- Rail 5 in a fault for a second. -/
def tFault (c : RailClass) : State :=
  { tRail5 { tRail with run := .fault, faultAt := some 0, set_ := tClass c } with clock := { tRun.clock with now := 1000 } }

theorem test_rail_ignore_notice :
    let s := tFault .ignore; s.rails.rail[(4 : Rail)].run = .fault ∧ s.rails.rail[(4 : Rail)].set_.cls = .ignore ∧
    s.rails.rail[(4 : Rail)].faultAt = some 0 ∧ (0 : Nat) + 1000 ≤ s.clock.now := by decide

theorem test_rail_recovery_in_save :
    let s : State := { tFault .retry with power := { tRun.power with state := .save } }; s.rails.rail[(4 : Rail)].run = .fault ∧
    s.rails.rail[(4 : Rail)].set_.cls = .retry ∧ s.rails.rail[(4 : Rail)].faultAt = some 0 ∧
    0 + s.rails.rail[(4 : Rail)].set_.timeoutMs ≤ s.clock.now ∧ saving s = true := by decide

theorem test_group_again :
    let s : State := { tLater 1000 with rails := { (tRail5 { tRail with run := .switchedOff, en := false }).rails with groupWait := [0, 2] } };
    (0 : Fin 3) ∈ s.rails.groupWait ∧ s.rails.groupAt[(0 : Fin 3)] + 1000 ≤ s.clock.now ∧ s.rails.seqTodo = [] ∧ s.rails.downThen = none := by decide

/-- Without VDD_AON. -/
def tDark : State := { State.reset with power := { State.reset.power with aon := false } }

theorem test_aon_rises :
    tDark.power.aon = false := by decide

theorem test_aon_rises_result :
    let t := tAfter (.aonPowerOnReset 0x5A true (some (.stuck true))) tDark; t.power.aon = true ∧ t.power.aux = true ∧
    t.startup.strapPins = 0x5A ∧ t.startup.strapLow = 2 ∧ tDark.smb.stuck = false ∧ t.smb.stuck = true := by decide

/-- The input gone, the auxiliary input present. -/
def tAux : State := { tRun with power := { tRun.power with state := .standby, inputOk := false, aux := true } }

theorem test_aon_falls :
    tRun.power.aon = true ∧ tRun.cf.op = .idle ∧ tRun.cf.suspended = none ∧ tAux.power.aon = true ∧ tAux.cf.op = .idle ∧
    tAux.cf.suspended = none ∧ tAux.power.inputOk = false ∧ tAux.charger.holdEn = false := by decide

theorem test_aux_removed :
    tRun.power.inputOk = true ∧ tRun.power.state = .run := by decide

/-- STANDBY, waiting to start. -/
def tWait (kind : StandbyKind) : State :=
  { tRun with
    power := { tRun.power with state := .standby, standby := kind }, thermal := { tRun.thermal with coolSince := some 0 },
    clock := { tRun.clock with now := 100 } }

theorem test_input_starts :
    (tWait .byInput).power.state = .standby ∧ (tWait .byInput).power.standby = .byInput ∧
    mayStart (inputIsGood (tWait .byInput) 0) = true := by decide

theorem test_restart :
    let s : State := { tWait .byInput with rails := { tRun.rails with restartWait := true } }; s.rails.restartWait = true ∧
    s.rails.restartAt + 100 ≤ s.clock.now ∧
    mayStart { s with rails := { s.rails with restartWait := false } } = true := by decide

theorem test_cooled :
    (tWait .byCooling).power.state = .standby ∧ (tWait .byCooling).power.standby = .byCooling ∧ coolEnough (tWait .byCooling) = true ∧
    mayStart (tWait .byCooling) = true := by decide

theorem test_mr_in_save :
    (tSave 4 true).power.aon = true ∧ (tSave 4 true).power.state = .save := by decide

theorem test_mr :
    tRun.power.aon = true ∧ tRun.power.state = .run ∧ tRun.power.starting = false ∧ tRun.security.lowering = false ∧
    tRun.host.buf = [] ∧ dramServing tRun = true := by decide

/-- A state of the button. -/
def tButton (b : Button) : State := { tRun with button := b }

theorem test_mr_released :
    (tButton { tRun.button with mrLow := true }).power.state = .run ∧ (tButton { tRun.button with mrLow := true }).button.mrLow = true ∧
    tRun.lb.state = .inService ∧ tRun.smb.stuck = false := by decide

theorem test_press :
    pbRow tRun ≠ .none := by decide

theorem test_press_released :
    let s := tButton { tRun.button with held := true }; s.button.held = true ∧ s.button.markDone = false ∧ pbRow s = .service ∧
    999 < 1000 ∧ 4000 ≤ 7999 := by decide

theorem test_press_held :
    let s := tButton { tRun.button with held := true }; s.button.held = true ∧ pbRow s = .service ∧ s.security.lowering = false ∧
    s.power.inputOk = true := by decide

theorem test_press_standby :
    let s : State := { tAux with button := { tRun.button with held := true } }; s.button.held = true ∧ pbRow s = .standby := by decide

/-- The Sheet image is being read. -/
def tSheet (attempts : Nat) : State :=
  { State.reset with
    power := { State.reset.power with state := .restore, starting := true, inputOk := true, sram := true },
    startup := { State.reset.startup with step := 2, attempts := attempts }, lb := { State.reset.lb with state := .inService } }

theorem test_sheet_retry :
    readingSheet (tSheet 1) = true ∧ failedAttempts (tSheet 1) 0 < 2 ∧ failedAttempts (tSheet 2) 9 < 2 := by decide

theorem test_sheet_unreadable :
    readingSheet (tSheet 2) = true ∧ (tSheet 2).startup.retained = false ∧ 2 ≤ failedAttempts (tSheet 2) 0 := by decide

theorem test_lock :
    tRun.host.link[(0 : Link)].offersIo = true ∧ coreUp tRun = true ∧
    (if inMinimal tRun || inCrocus tRun then tRun.startup.offeredAt else tRun.startup.step9At) = some 0 ∧
    (tLater 59999).clock.now < 0 + 60000 ∧ (0 : Nat) + 60000 ≤ (tLater 60000).clock.now := by decide

/-- A state with dirty granules and heat. -/
def tHeat : State :=
  { tRun with persist := { tRun.persist with dirty := [(5, 0)], newDirty := [(0, 9)], heat := [(0, 250), (4, 7)], freshBytes := 65536, issued := 7 } }

theorem test_ceiling_update :
    loopRuns tHeat = true ∧ tHeat.startup.settings = some tSet ∧ tHeat.persist.newDirty = [(0, 9)] := by decide

theorem test_heat_halves :
    loopRuns tHeat = true ∧ (∀ p ∈ tHeat.persist.heat, ∀ q ∈ tHeat.persist.heat, p.1 = q.1 → p = q) := by decide

/-- A state in which a dirty granule is to be flushed at once. -/
def tCover : State :=
  { tRun with
    persist := { tRun.persist with dirty := [(5, 0)], wear := 8000000000000, ceiling := { tRun.persist.ceiling with c := 1, cE := 1 } },
    flash := { tRun.flash with bands := [tBand], openRows := [⟨0, 0, [], 0⟩] } }

theorem test_flush_issued :
    issueWaiting tCover = tCover ∧ tCover.startup.settings = some tSet ∧ saving tCover = false ∧ flushRuns tCover tSet = true ∧
    flushClass tCover tSet tCover.persist.ceiling ≠ .background ∧ restoreWaits tCover 2 = false ∧ flushPick tCover = some 5 ∧
    openBand (rowsFor tCover tSet) = some tBand ∧ mayProgram (rowsFor tCover tSet) tSet 2 (bandDie tSet 0) = true ∧ halves tSet = 1 := by decide +kernel

/-- A Sheet image with the seven sections that every image has, built from Tables 12-3 to 12-5. -/
def tImage : List Byte :=
  leBytes 500 0x75300014000a019000280104fd03fe02ff01010131303030204c45444f4d20454944204853414c46168484de00000040000000000000000b000000000000006401c20190000000007e7a72170000001000000000000000070000000a0000000248ba387000000008000000000000000600003e8000003db800003cf000003c2800003b6000003a98000039d0000039080000384000003778000036b0000035e8000035200000345800003390000032c800003200000031380000307000002fa800002ee000c8c8c8c8c8c8c8c8c8c8c8c8c8c8c86acd81d60000006400000000000000040000000000000000000000000000040000fa001400010051003c01f40032006407d041a02ee036b007d0000100015f90e29ca9df000000300000000000000003000001050064041400000205006404140000020500640414000003050064041400000305006404140000030500640414000003050064041400000205006404140000020500640414000003050064041400000305006404140e3eba73000000580000000000000002000000000000000000000000000000000000010103e8001801020040001001019be7b440000000200000000000000001d00cabd300000000000000000000000000000009000001f40007020051565348

theorem test_sheet_accepted :
    let s := tSheet 0; readingSheet s = true ∧ s.startup.retained = false ∧ s.lb.state ≠ .stuck ∧
    (readSheet (some tImage) s.startup.fuse80).fail = none ∧ (readSheet (some tImage) s.startup.fuse80).settings.isSome = true ∧
    ∃ r ∈ mainRails, s.rails.rail[r].run ≠ .qualified := by decide +kernel

/-- The header of a request on the session of the test state. -/
def tHdr (c : Carrier) (seq : Word) (b : QmpBody) : QmpHdr :=
  { carrier := c, mbxOpcode := opcodeOf b, source := 0x20, version := 2, flags := 0, session := 7, reserved := 0, status := 0, seq := seq,
    length := BitVec.ofNat 32 (bodyLength b), delivered := bodyLength b }

/-- A state with a result cached. -/
def tCached : State := { tRun with qmp := { tRun.qmp with sessions := [{ tSession with results := [⟨7, 4, 0xC012, .ok, []⟩] }] } }

theorem test_once_replay :
    let b := QmpBody.grantRest; let h := tHdr (.mailbox 0) 4 b;
    let x : Session := { tSession with results := [⟨7, 4, 0xC012, .ok, []⟩] }; effectCommand h b = some (.grantRest h) ∧
    inOpenSession tCached h b x ∧ h.seq ≠ x.next ∧ (x.next - h.seq).toNat ≤ 64 ∧
    (x.results.find? fun y => y.seq == h.seq) = some ⟨7, 4, 0xC012, .ok, []⟩ := by decide

theorem test_once_out_of_order :
    let h := tHdr (.mailbox 0) 6 .grantRest; inOpenSession tRun h .grantRest tSession ∧ 64 < (tSession.next - h.seq).toNat := by decide

theorem test_once_blocked :
    let h : QmpHdr := { tHdr (.mailbox 0) 5 .grantRest with length := 4, delivered := 4 }; inOpenSession tRun h .grantRest tSession ∧
    h.seq = tSession.next ∧ blockedStatus tRun h .grantRest = some .lenBad := by decide

theorem test_grant_rest :
    runsNext tRun (tHdr (.mailbox 0) 5 .grantRest) .grantRest tSession ∧ tRun.pack.restActive = false ∧ restTemp tRun = true ∧
    tRun.pack.cond = .qualified ∧ saveStart tRun = false := by decide

/-- The estimator block of the test state. -/
def tEsb : List Byte := esbBlock tRun

/-- Its request. -/
def tEsbHdr : QmpHdr := tHdr (.vdm 2) 5 (.esbRestore tEsb)

theorem test_esb_restore :
    runsNext tRun tEsbHdr (.esbRestore tEsb) tSession ∧ tRun.startup.settings = some tSet ∧ blockCheck tRun tSet tEsb = none := by decide +kernel

theorem test_save_and_off :
    runsNext tRun (tHdr (.mailbox 0) 5 .saveAndOff) .saveAndOff tSession ∧ saving tRun = false ∧ tRun.power.minimal = false ∧
    tRun.power.starting = false ∧ tRun.security.lowering = false := by decide

/-- A state with a latched rail. -/
def tLatched : State := { tRun with rails := { tRun.rails with latched := true, latchRail := 4 } }

theorem test_clear_latch :
    runsNext tLatched (tHdr (.mailbox 0) 5 .clearRailLatch) .clearRailLatch tSession ∧ heldLatches tLatched ≠ 0 ∧
    tLatched.power.state = .run ∧ tLatched.power.starting = false := by decide

theorem test_selftest :
    runsNext tRun (tHdr (.mailbox 0) 5 (.selftest 5 3)) (.selftest 5 3) tSession ∧ selftestPart tRun 5 3 = .inl (.dramChannel 3) ∧
    testless tRun (.dramChannel 3) = false ∧ queueFull (.dramChannel 3) tRun.faults.tests = false := by decide

/-- A pending notice of a class. -/
def tNotice (seq : Word) (cls : Nat) : Notice :=
  { seq := seq, code := 0x0405, cls := cls, late := false, merged := false, powerCycle := 0, opTime := 0, repeats := 0, drops := 0, payload := [],
    aliases := [], aonFull := true, deliveredOn := [], onLinks := [], inRings := [], firstAt := none, announcedAt := 0, disregarded := false,
    smbHeld := none }

/-- A state with two notices pending. -/
def tPending : State := { tRun with notices := { tRun.notices with nextSeq := 12, pend := [tNotice 10 0, tNotice 11 1] } }

theorem test_notice_ack :
    runsNext tPending (tHdr (.mailbox 0) 5 (.noticeAck 10 10)) (.noticeAck 10 10) tSession ∧ (10 : Word).toNat ≤ (10 : Word).toNat ∧
    tPending.restore.hold = false := by decide

/-- STANDBY with a sealed save, on the SMBus. -/
def tBus : State :=
  { tAux with
    flash := { tRun.flash with gens := [{ tGen with kind := .save }] }, clock := { tRun.clock with now := 100 },
    thermal := { tRun.thermal with latched := true, aonCoolSince := some 0 } }

theorem test_ship_mode :
    let h := tHdr .smbus 5 .shipMode; inStandby tBus = true ∧ sessionOf tBus h.session = some tSession ∧ h.seq = tSession.next ∧
    requestArrives tBus h .shipMode ∧ versionStatus h .shipMode tSession.version = none ∧ blockedStatus tBus h .shipMode = none ∧
    newestIsSave tBus = true ∧ tBus.pack.cond = .qualified := by decide

/-- The same with the input qualified, so that no save-start condition stands. -/
def tShip : State := { tBus with power := { tBus.power with inputOk := true } }

theorem test_ship_mode_input :
    let h := tHdr .smbus 5 .shipMode; h.carrier = .smbus ∧ inStandby tShip = true ∧ sessionOf tShip h.session = some tSession ∧
    h.seq = tSession.next ∧ requestArrives tShip h .shipMode ∧ versionStatus h .shipMode tSession.version = none ∧
    blockedStatus tShip h .shipMode = none ∧ newestIsSave tShip = true ∧ tShip.pack.cond = .qualified ∧ saveStart tShip = false := by decide

theorem test_clear_trip :
    let h := tHdr .smbus 5 .clearTrip; requestArrives tBus h .clearTrip ∧ versionStatus h .clearTrip tSession.version = none ∧
    blockedStatus tBus h .clearTrip = none ∧ tBus.thermal.latched = true ∧
    (tBus.thermal.aonCoolSince.any fun t0 => due tBus t0 100) = true := by decide

theorem test_esb_get :
    inOpenSession tRun (tHdr (.mailbox 0) 5 .esbGet) .esbGet tSession ∧ blockedStatus tRun (tHdr (.mailbox 0) 5 .esbGet) .esbGet = none := by decide

theorem test_persist_status :
    inOpenSession tRun (tHdr (.mailbox 0) 5 .persistStatus) .persistStatus tSession ∧
    blockedStatus tRun (tHdr (.mailbox 0) 5 .persistStatus) .persistStatus = none := by decide

/-- A record of the event recorder. -/
def tRecord (n : Word) : Record :=
  { code := 0x0081, severity := 2, timeEst := false, inSave := false, lastWords := false, sramOnly := false, source := 0, powerCycle := 0, opTime := 0,
    recno := n, payload := [] }

/-- A state in which some are held. -/
def tRecords : State := { tRun with recorder := { tRun.recorder with page := [tRecord 3, tRecord 4], nextRecno := 5 } }

theorem test_log_read :
    let h := tHdr (.mailbox 0) 5 (.logRead 4 9); inOpenSession tRecords h (.logRead 4 9) tSession ∧
    blockedStatus tRecords h (.logRead 4 9) = none ∧
    (((heldRecords tRecords).filter fun r => decide ((4 : Word).toNat ≤ r.recno.toNat)).take (min (9 : Word).toNat 128)).getLast? = some (tRecord 4) := by decide

theorem test_lastwords_read :
    let h := tHdr (.mailbox 0) 5 (.lastwordsRead 63 64); inOpenSession tRun h (.lastwordsRead 63 64) tSession ∧
    blockedStatus tRun h (.lastwordsRead 63 64) = none ∧ (63 : Byte).toNat ≤ 63 ∧ (64 : Byte).toNat ≤ 64 := by decide

theorem test_negotiate :
    let b := QmpBody.negotiate 6 0x22 4 100; let h := tHdr (.mailbox 0) 0 b; requestArrives tRun h b ∧ blockedStatus tRun h b = none ∧
    inStandby tRun = false ∧ (4 : Byte).getLsbD 0 = false ∧ (4 : Byte).getLsbD 1 = false ∧ (6 : Word).getLsbD 2 = true ∧
    (4 : Byte).getLsbD 2 = true ∧ 100 ≤ (100 : BitVec 16).toNat ∧
    (tRun.qmp.sessions.find? fun y => (0x22 : Word) != 0 && y.tag == 0x22) = none ∧ freeSession (tRun.qmp.sessions.map (·.id)) = some 0 := by decide

theorem test_negotiate_known :
    let b := QmpBody.negotiate 2 0x11 0 0; let h := tHdr (.mailbox 0) 0 b; requestArrives tRun h b ∧ blockedStatus tRun h b = none ∧
    (0 : Byte).getLsbD 2 = false ∧ (2 : Word).getLsbD 1 = true ∧
    (tRun.qmp.sessions.find? fun y => (0x11 : Word) != 0 && y.tag == 0x11) = some tSession := by decide

theorem test_negotiate_close :
    let h := tHdr (.mailbox 0) 0 .negotiateClose; requestArrives tRun h .negotiateClose ∧ blockedStatus tRun h .negotiateClose = none ∧
    sessionOf tRun h.session = some tSession := by decide

/-- The first 19 bytes of a message of PERSIST_STATUS, its message type and vendor ID with its header. -/
def tMctp : List Byte := [0x7E, 0, 0, 0x20, 0xC0, 2, 0, 7, 0, 0, 0, 5, 0, 0, 0, 0, 0, 0, 0]

theorem test_mctp_first :
    takesPacket tRun (.vdm 2) 0 = true ∧ tRun = packetState tRun (.vdm 2) 0 ∧
    tRun.qmp.partials.find? (sameMessage (.vdm 2) 0x20 1) = none := by decide

theorem test_mctp_whole :
    tMctp.length ≥ 19 ∧ field tMctp 0 1 = 0x7E ∧ field tMctp 3 2 = 0xC020 ∧
    parseBody 0xC020 (tMctp.drop 19) true = some (.persistStatus, 0) := by decide

/-- A message partly assembled. -/
def tPartial (c : Carrier) : PartialMsg := { carrier := c, source := 0x20, tag := 1, nextSeq := 3, bytes := tMctp.take 8, lastAt := 0 }

/-- A state in which it waits. -/
def tParts (c : Carrier) : State := { tRun with qmp := { tRun.qmp with partials := [tPartial c] } }

theorem test_mctp_next :
    let s := tParts (.vdm 2); takesPacket s (.vdm 2) 0 = true ∧ s = packetState s (.vdm 2) 0 ∧
    s.qmp.partials.find? (sameMessage (.vdm 2) 0x20 1) = some (tPartial (.vdm 2)) ∧ (tPartial (.vdm 2)).nextSeq = (3 : Fin 4).val ∧
    (tPartial (.vdm 2)).nextSeq ≠ (0 : Fin 4).val ∧
    parseBody 0xC020 ((tMctp.take 8 ++ tMctp.drop 8).drop 19) true = some (.persistStatus, 0) := by decide

theorem test_mctp_smbus :
    let s := tParts .smbus; takesPacket s .smbus 0x0F = true ∧ takesPacket s .smbus 0x0E = false ∧
    (packetState s .smbus 1).qmp.partials.find? (sameMessage .smbus 0x20 1) = some (tPartial .smbus) := by decide

theorem test_notice_mailbox :
    noticesWait tPending (.mailbox 0) = false ∧ linkCarries tPending 0 = true ∧
    nextFor tPending (fun m => !m.onLinks.contains 0) = some (tNotice 10 0) ∧ ringUsed tPending 0 = false := by decide

/-- The same with a notice ring of 16 entries at each link. -/
def tRing : State :=
  { tPending with host := { tPending.host with fn := Vector.replicate 8 { resetFn with ringSize := 16, ringBase := 4096, ringTail := 15, ringHead := 3 } } }

theorem test_notice_ring :
    noticesWait tRing (.mailbox 0) = false ∧ (tNotice 10 0).inRings = [] ∧ linkCarries tRing 0 = true ∧
    nextFor tRing (fun m => !m.onLinks.contains 0) = some (tNotice 10 0) ∧ ringUsed tRing 0 = true ∧
    ringFull tRing.host.fn[(0 : Link)] = false := by decide

/-- The same with an endpoint that takes notices. -/
def tEndpoint : State := { tPending with qmp := { tRun.qmp with notifyVdm := Vector.replicate 8 (some 0x20) }, smb := { tRun.smb with notify := some 0x21 } }

theorem test_notice_vdm :
    noticesWait tEndpoint (.vdm 0) = false ∧ linkCarries tEndpoint 0 = true ∧ tEndpoint.qmp.notifyVdm[(0 : Link)].isSome = true ∧
    nextFor tEndpoint (fun m => !m.deliveredOn.contains (.vdm 0)) = some (tNotice 10 0) := by decide

theorem test_notice_smbus :
    noticesWait tEndpoint .smbus = false ∧ tEndpoint.smb.notify = some 0x21 ∧ tEndpoint.smb.current = none ∧ saving tEndpoint = false ∧
    tEndpoint.power.aon = true ∧ tEndpoint.smb.stuck = false ∧
    nextFor tEndpoint (fun m => !m.deliveredOn.contains .smbus) = some (tNotice 10 0) := by decide

/-- A notice that was delivered at the start, an hour later. -/
def tUnacked : State :=
  { tLater 3600000 with notices := { tRun.notices with nextSeq := 12, pend := [{ tNotice 10 0 with firstAt := some 0, onLinks := [0], deliveredOn := [.mailbox 0] }] } }

theorem test_notice_again :
    (tUnacked.notices.pend.find? fun m => m.seq == 10) = some { tNotice 10 0 with firstAt := some 0, onLinks := [0], deliveredOn := [.mailbox 0] } ∧
    (0 : Nat) + announceMs 0 ≤ tUnacked.clock.opTime ∧ saving tUnacked = false ∧ linkCarries tUnacked 0 = true ∧
    tUnacked.host.link[(0 : Link)].msixMask = 0 := by decide

theorem test_notice_again_result :
    let t := tAfter (.noticeReannounce 10) tUnacked; t.smb.alert = true ∧
    (t.notices.pend.all fun m => m.announcedAt == 3600000) = true ∧ (t.out.any fun o => decide (o = .msix 0 (1 + logOf 0))) = true ∧
    t.notices.pend.length = 1 ∧ t.dram = tUnacked.dram ∧ t.host.fn = tUnacked.host.fn := by decide

theorem test_notice_disregarded :
    (0 : Nat) + ackMs 0 ≤ tUnacked.clock.opTime ∧ (tUnacked.notices.pend.all fun m => m.firstAt == some 0 && !m.disregarded) = true := by decide

theorem test_ring_size :
    ringSizeOk ((17 : Word).toNat % 2 ^ 17) = false ∧ ringSizeOk ((0 : Word).toNat % 2 ^ 17) = true ∧
    ringSizeOk ((65536 : Word).toNat % 2 ^ 17) = true ∧ tRun.notices.pend = [] := by decide

theorem test_ring_afresh :
    ringSizeOk ((16 : Word).toNat % 2 ^ 17) = true ∧ (16 : Word).toNat % 2 ^ 17 ≠ 0 ∧ linkCarries tPending 0 = true ∧
    ∀ m ∈ tPending.notices.pend, m.cls ≤ 3 := by decide

/-- A full assembly page waits for its program. -/
def tPage2 : State := { tRun with recorder := { tRun.recorder with fullPage := some [tRecord 3, tRecord 4], nextRecno := 5 } }

theorem test_log_page :
    tPage2.recorder.fullPage = some [tRecord 3, tRecord 4] ∧ logWritable tPage2 = true ∧ saving tPage2 = false ∧
    tPage2.flash.mirrors[0].ok = true ∧ tPage2.flash.mirrors[1].ok = true := by decide

theorem test_log_drops :
    let s : State := { tPage2 with recorder := { tPage2.recorder with dropsOwed := true } }; s.recorder.logDroppedAt = none ∧
    s.notices.pend = [] ∧
    (let t := tAfter (.logPageProgram true true) s; t.recorder.logDroppedAt = some s.clock.now ∧ ∃ n ∈ t.notices.pend, n.code = 0x0B02) := by
  decide

theorem test_log_sweep :
    coreUp (tLater 3600000) = true ∧ 3600000 + (tLater 3600000).recorder.sweptAt ≤ (tLater 3600000).clock.opTime := by decide

theorem test_checkpoint_first :
    coreUp (tLater 60000) = true ∧ inCrocus (tLater 60000) = false ∧ saving (tLater 60000) = false ∧
    60000 + checkpointTime (tLater 60000) ≤ (tLater 60000).clock.opTime ∧ newestCheckpoint (tLater 60000) = none := by decide

/-- One checkpoint is written, and 60 s have passed. -/
def tChecked : State :=
  { tLater 120000 with cf := { tRun.cf with words := (List.range 4).map fun i => (sectorBase secCheckpoint + i, ⟨BitVec.ofNat 64 ((checkpointWords (tLater 60000) ++ [(crc32 ((checkpointWords (tLater 60000)).flatMap fun w => leBytes 8 w)).toNat]).getD i 0), false⟩) } }

theorem test_checkpoint_next :
    coreUp tChecked = true ∧ 60000 + checkpointTime tChecked ≤ tChecked.clock.opTime ∧
    (newestCheckpoint tChecked).any (fun c => nextCheckpointSlot c.1 % 512 != 0 && (List.range 4).all fun i => cfBlank tChecked (nextCheckpointSlot c.1 + i)) = true := by decide

/-- A function that fetches a record. -/
def tFetchRec (n : Word) : State :=
  { tRecords with host := { tRun.host with fn := Vector.replicate 8 { resetFn with logSel := n, logSelState := .fetching } } }

theorem test_log_select :
    blockServes tRecords 0 = true ∧ (tFetchRec 4).host.fn[(0 : Link)].logSelState = .fetching ∧ saving (tFetchRec 4) = false ∧
    selectedRecord (tFetchRec 4) 0 = some (tRecord 4) ∧ inNandLog (tFetchRec 4) (tRecord 4) = false ∧
    selectedRecord (tFetchRec 9) 0 = none := by decide

theorem test_cf_program :
    romFree tRun = true ∧ (409600 : Nat) % 8 = 0 ∧ 409600 < cfBytes ∧ cfProtected tRun (409600 / 8 / 512) = false ∧
    tRun.cf.suspended ≠ some (409600 / 8 / 512) ∧ cfWordBlank tRun (409600 / 8) = true ∧ tRun.cf.blocked = false := by decide

theorem test_cf_program_refused :
    cfProtected tRun 0 = true ∧ romFree tRun = true ∧ cfProtected tRun (72256 / 512) = false ∧ cfWordBlank tRun 72256 = false ∧
    8 * 72256 < cfBytes := by decide

theorem test_cf_erase :
    romFree tRun = true ∧ saving tRun = false ∧ (100 : Nat) < 8192 ∧ cfProtected tRun 100 = false ∧ tRun.cf.suspended = none ∧
    tRun.cf.blocked = false ∧ cfProtected tRun 0 = true := by decide

/-- An operation of the code flash in progress. -/
def tCf (op : CfOp) (suspended : Option Nat) : State :=
  { tRun with cf := { tRun.cf with op := op, sector := 100, target := if op = .program then some (51200, 5) else none, suspended := suspended } }

theorem test_cf_resume :
    romFree (tCf .suspended (some 100)) = true ∧ saving (tCf .suspended (some 100)) = false ∧
    (tCf .suspended (some 100)).cf.suspended = some 100 ∧ (tCf .suspended (some 100)).cf.blocked = false := by decide

theorem test_cf_complete :
    (tCf .program none).cf.held = [] ∧ (tCf .program none).cf.suspended = none ∧ (tCf .program none).cf.op = .program ∧
    (tCf .program none).cf.target = some (51200, 5) ∧ cfBlank (tCf .program none) 51200 = true ∧ (tCf .erase none).cf.op = .erase := by decide

theorem test_cf_brownout :
    coreUp (tCf .program none) = true ∧ (tCf .program none).cf.op = .program := by decide

/-- The first chunk of package 42: its header (Table 17-1) and 88 bytes of firmware. -/
def tChunk : List Byte :=
  leBytes 4 0x51564650 ++ leBytes 2 2 ++ leBytes 2 0x6417 ++ leBytes 4 42 ++ leBytes 4 0x02070000 ++ leBytes 4 1 ++ leBytes 2 5 ++ leBytes 2 4 ++
    leBytes 4 600 ++ leBytes 4 88 ++ List.replicate 568 0

/-- What it says of its package. -/
def tHeader : FwHeader :=
  { packageId := 42, part := 0x6417, version := 0x02070000, svn := 1, handover := 5, handoverMin := 4, total := 600, fwLen := 88, bootLen := 0,
    wellFormed := true }

/-- The request that brings it. -/
def tChunkHdr : QmpHdr := tHdr (.mailbox 0) 5 (.fwChunk 42 0 600 (crc32 tChunk) 0 tChunk)

/-- The running image. -/
def tActive : FwHeader := { tHeader with packageId := 41, handover := 4 }

/-- A state with an image running and room in the staging area. -/
def tFw : State := { tRun with fw := { tRun.fw with active := some tActive }, pack := { tRun.pack with socSrc := .rest } }

theorem test_fw_chunk :
    runsNext tFw tChunkHdr (.fwChunk 42 0 600 (crc32 tChunk) 0 tChunk) tSession ∧ tChunk.length = min 4096 (600 - 0) ∧
    inChain tFw = false ∧ chunkReasons tFw ⟨42, 0, 600, crc32 tChunk, tChunk⟩ = 0 ∧ tFw.fw.staging = none ∧
    (parseHeader tChunk).packageId = 42 := by decide +kernel

/-- The package staged, whole or not. -/
def tStaged (whole : Bool) (phase : FwPhase) : State :=
  { tFw with fw := { tFw.fw with staging := some ⟨42, 600, 600, some 7, 0, some tHeader, whole⟩, phase := phase } }

theorem test_fw_activate :
    let b := QmpBody.fwActivate 42 0; let s := tStaged true .staged; runsNext s (tHdr (.mailbox 0) 5 b) b tSession ∧
    inCrocus s = false ∧ alreadyActive s 42 = false ∧ bothHalvesUsed s = false ∧
    s.fw.staging = some ⟨42, 600, 600, some 7, 0, some tHeader, true⟩ ∧ s.shroud.mode ≠ .retrain ∧
    stateReasons s + headerReasons s (some tHeader) = 0 ∧ hitless s tHeader = true := by decide +kernel

theorem test_fw_active_already :
    let b := QmpBody.fwActivate 41 0; let s := tStaged true .staged; runsNext s (tHdr (.mailbox 0) 5 b) b tSession ∧
    alreadyActive s 41 = true := by decide

theorem test_fw_lock :
    runsNext tRun (tHdr (.mailbox 0) 5 .fwLockSet) .fwLockSet tSession ∧
    runsNext tRun (tHdr (.mailbox 0) 5 .fwLockClear) .fwLockClear tSession ∧
    mayUnlock tRun (tHdr (.mailbox 0) 5 .fwLockClear) = isAdmin tRun 0 := by decide

/-- Link 0 an admin link. -/
def tAdmin : State := { tRun with rt := { tRun.rt with adminLinks := 1 } }

theorem test_fw_unlock :
    mayUnlock tAdmin (tHdr (.mailbox 0) 5 .fwLockClear) = true ∧ mayUnlock tAdmin (tHdr (.mailbox 2) 5 .fwLockClear) = false ∧
    runsNext tAdmin (tHdr (.mailbox 0) 5 .fwLockClear) .fwLockClear tSession ∧
    runsNext tAdmin (tHdr (.mailbox 2) 5 .fwLockClear) .fwLockClear tSession := by decide

/-- A module at level L1, a challenge given or not. -/
def tL1 (fails : Nat) (challenge : Option (List Byte × Nat)) : State :=
  { tAdmin with security := { tRun.security with level := .l1, fails := fails, challenge := challenge } }

theorem test_debug_challenge :
    runsNext (tL1 0 none) (tHdr (.mailbox 0) 5 .debugChallenge) .debugChallenge tSession ∧ (tL1 0 none).security.level ≠ .l0 ∧
    challengeBlocked (tL1 0 none) = false := by decide

theorem test_debug_response :
    let s := tL1 3 (some (List.replicate 48 9, 0)); s.security.level ≠ .l0 ∧ s.security.challenge = some (List.replicate 48 9, 0) ∧
    due s 0 60000 = false ∧ runsNext s (tHdr (.mailbox 0) 5 (.debugResponse [] true)) (.debugResponse [] true) tSession ∧
    runsNext s (tHdr (.mailbox 0) 5 (.debugResponse [] false)) (.debugResponse [] false) tSession ∧ 3 ≤ s.security.fails := by decide

theorem test_package_check :
    let s := tStaged false .staging; coreUp s = true ∧ s.fw.staging = some ⟨42, 600, 600, some 7, 0, some tHeader, false⟩ ∧
    headerValid tHeader = true ∧ svnNeeded s ≤ tHeader.svn := by decide

theorem test_package_old :
    let s : State := { tStaged false .staging with fw := { (tStaged false .staging).fw with active := some { tActive with svn := 2 } } };
    tHeader.svn < svnNeeded s ∧ coreUp s = true := by decide

theorem test_bank_load :
    coreUp (tStaged true .loading) = true ∧ (tStaged true .loading).fw.phase = .loading := by decide

theorem test_engine_switch :
    let s := tStaged true .switching; maySwitch s = true ∧ nextSwitch s s.fw.nextEngine = some 0 ∧ s.fw.reverting = false := by decide +kernel

/-- Engines going back to the old image, from one engine on. -/
def tRevert (n : Nat) : State :=
  { tStaged true .switching with
    fw := { (tStaged true .switching).fw with reverting := true, nextEngine := n },
    engines := { tRun.engines with eng := vecMap tRun.engines.eng fun _ e => { e with bankNew := true } } }

theorem test_engine_reverts :
    maySwitch (tRevert 4) = true ∧ nextSwitch (tRevert 4) 4 = some 4 ∧ (nextSwitch (tRevert 4) 5).isSome = true ∧
    (tRevert 4).fw.waiting = none := by decide

theorem test_engines_reverted :
    maySwitch (tRevert 63) = true ∧ nextSwitch (tRevert 63) 63 = some 63 ∧ nextSwitch (tRevert 63) 64 = none := by decide

theorem test_handover :
    let s : State := { tStaged true .switching with fw := { (tStaged true .switching).fw with nextEngine := 64 } };
    s.fw.phase = .switching ∧ s.fw.reverting = false ∧ coreUp s = true ∧ saving s = false ∧ nextSwitch s 64 = none ∧ s.fw.waiting = none := by decide

/-- The end of a probation. -/
def tProbEnd : State :=
  { tLater 60000 with fw := { tRun.fw with phase := .probation, active := some tHeader, old := some tActive, running := true, staging := some ⟨42, 600, 600, some 7, 0, some tHeader, true⟩ } }

theorem test_probation_end :
    coreUp tProbEnd = true ∧ saving tProbEnd = false ∧ tProbEnd.fw.phase = .probation ∧
    60000 + tProbEnd.fw.probFrom ≤ tProbEnd.clock.opTime ∧ tProbEnd.fw.active = some tHeader := by decide

theorem test_boot_copy :
    let s : State := { tRun with fw := { tRun.fw with phase := .bootCopy, imageA := some tHeader, active := some tHeader } };
    coreUp s = true ∧ saving s = false ∧ s.fw.phase = .bootCopy ∧ (if s.fw.half then s.fw.imageB else s.fw.imageA) = some tHeader := by decide

/-- A module at position 2 of a chain of 3, both Halyard ports up at version 2. -/
def tChain : State :=
  { tRun with
    startup := { tRun.startup with settings := some { tSet with position := 2, chainLen := 3, hasHalyard := true } },
    fw := { tRun.fw with
      active := some tActive, up := { resetPort with version := 2, peer := 1, credits := 8 },
      dn := { resetPort with version := 2, peer := 3, credits := 2 } } }

/-- The same with its ports down. -/
def tPortsDown : State := { tChain with fw := { tChain.fw with up := resetPort, dn := resetPort } }

theorem test_hello :
    portsWork tPortsDown = true ∧ commonVersion 8 = 0 ∧ commonVersion 6 ≠ 0 ∧ (portOf tPortsDown true).version = 0 ∧
    saving tPortsDown = false := by decide

theorem test_hello_timer :
    portsWork tChain = true ∧ tChain.fw.up.withheld = 0 ∧ tChain.fw.relayed = none ∧
    (let s : State := { tChain with fw := { tChain.fw with up := { tChain.fw.up with withheld := 3 } } };
      portsWork s = true ∧ saving s = false ∧ s.fw.up.withheld ≠ 0 ∧ s.fw.up.version ≠ 0 ∧ s.fw.relayed = none) := by decide

/-- Both ports silent for 2 s, a frame begun on the downstream one. -/
def tSilent : State :=
  { tChain with
    clock := { tRun.clock with now := 2000 },
    fw := { tChain.fw with dn := { tChain.fw.dn with partialAt := some 0, pieces := [1] }, entries := [⟨3, .staged, 0⟩] } }

theorem test_port_down :
    portUp tSilent false = true ∧ portUp tSilent true = true ∧ due tSilent (portOf tSilent false).lastAt 1000 = true ∧
    due tSilent (portOf tSilent true).lastAt 1000 = true := by decide

theorem test_frame_timeout :
    (portOf tSilent false).partialAt = some 0 ∧ due tSilent 0 2000 = true := by decide

theorem test_chunk_broken :
    portUp tChain true = true ∧ tChain.fw.up.version = 2 ∧ saving tChain = false ∧ crc32 tChunk ≠ 0 := by decide +kernel

theorem test_chunk_staged :
    let k : HyChunk := ⟨42, 0, 600, crc32 tChunk, tChunk⟩; let s : State := { tChain with pack := { tRun.pack with socSrc := .rest } };
    portUp s true = true ∧ s.fw.up.version = 2 ∧ chunkFormed k = true ∧ newStream s k = true ∧ k.offset = 0 ∧ s.fw.staging = none ∧
    (s.fw.active.any fun h => h.packageId == 42) = false ∧ chunkReasons s k = 0 := by decide +kernel

theorem test_credit :
    portUp tChain false = true ∧ tChain.fw.relayed = none := by decide

theorem test_chain_activate :
    portUp tChain true = true ∧ inCrocus tChain = false ∧ alreadyActive tChain 42 = false ∧ bothHalvesUsed tChain = false ∧
    tChain.fw.staging = none ∧ tChain.fw.dn.version ≠ 0 := by decide

theorem test_chain_status :
    portUp tChain false = true ∧ entryRunOf 2 = some .staged := by decide

/-- 10 s after the last chunk of a package. -/
def tReport : State :=
  { tChain with
    clock := { tRun.clock with now := 10000 },
    fw := { tChain.fw with staging := some ⟨42, 600, 600, none, 0, some tHeader, true⟩, reportDone := false, lastRelayAt := none, entries := [] } }

theorem test_chain_report :
    portsWork tReport = true ∧ tReport.fw.reportDone = false ∧ tReport.fw.lastRelayAt = none ∧
    tReport.fw.staging = some ⟨42, 600, 600, none, 0, some tHeader, true⟩ ∧ due tReport 0 10000 = true ∧ missingPositions tReport = [3] := by decide

theorem test_level_raise :
    regServes tAdmin 0 0x1000 = true ∧ tAdmin.security.lowering = false ∧ armOf 1 = 0 ∧ levelCode tAdmin.security.level < reqOf 1 ∧
    reqOf 1 < 3 ∧ adminLink tAdmin 0 = true ∧ levelState tAdmin = true := by decide

theorem test_level_arm :
    armOf 0xA500 = 0xA5 ∧ armOf 0x0100 ≠ 0 ∧ armOf 0x0100 ≠ 0xA5 ∧ regServes tAdmin 0 0x1000 = true ∧ adminLink tAdmin 0 = true ∧
    levelState tAdmin = true := by decide

/-- A module at L1, armed at the start. -/
def tArmed (now : Nat) : State :=
  { tL1 0 none with security := { (tL1 0 none).security with armedAt := some 0 }, clock := { tRun.clock with now := now } }

theorem test_level_lower :
    armOf 0 = 0 ∧ reqOf 0 < levelCode (tArmed 100).security.level ∧ adminLink (tArmed 100) 0 = true ∧ levelState (tArmed 100) = true ∧
    ((tArmed 100).security.armedAt.any fun t0 => !due (tArmed 100) t0 101) = true ∧ fwPhaseOk (tArmed 100) = true ∧
    (tArmed 100).security.level ≠ .l2 ∧ ((tArmed 101).security.armedAt.any fun t0 => !due (tArmed 101) t0 101) = false := by decide

/-- A lowering at one of its steps. -/
def tLower (step : Nat) : State :=
  { tAdmin with security := { tRun.security with level := .l1, lowering := true, step := step, key := some 0 } }

theorem test_lowering_clear :
    (tLower 1).security.lowering = true ∧ (tLower 1).rails.downThen = none ∧ (tLower 1).security.step = 1 ∧ (tLower 3).security.step = 3 := by decide

theorem test_lowering_erase :
    (tLower 4).security.step = 4 ∧ bootRailsUp (tLower 4) = true ∧ (tLower 4).button.mrLow = false ∧
    (tLower 4).button.mrLatched = false ∧ (tLower 4).rails.downThen = none := by decide

/-- An open debug session, after 8 h. -/
def tDebug : State :=
  { tL1 0 none with security := { (tL1 0 none).security with dbg := .authenticated }, clock := { tRun.clock with now := 28800000 } }

theorem test_debug_close :
    regServes tDebug 0 0x1004 = true ∧ isAdmin tDebug 0 = true ∧ isAdmin tDebug 2 = false ∧ tDebug.security.dbg = .authenticated ∧
    isAdmin tAdmin 0 = true ∧ tAdmin.security.dbg ≠ .authenticated ∧ tAdmin.security.level = .l0 := by decide

theorem test_debug_expiry :
    tDebug.security.dbg = .authenticated ∧ due tDebug tDebug.security.openedAt 28800000 = true := by decide

theorem test_tap :
    tapPowered tRun = true ∧ drivesPins (tapOf 3) = true ∧ mayDrivePins tRun = false ∧ drivesPins (tapOf 2) = false := by decide

/-- A message on the SMBus. -/
def tMsg : SmbMsg := .notice 0x21 10

/-- The master interface with it. -/
def tSmb (state : SmbState) (n : Nat) : State := { tRun with smb := { tRun.smb with state := state, current := some (tMsg, n, 5) } }

/-- The same, 1 ms after the message was not acknowledged. -/
def tWaited (n : Nat) : State := { tSmb .idle n with clock := { tRun.clock with now := 1 } }

theorem test_smb_again :
    (tWaited 3).smb.failedAt + 1 ≤ (tWaited 3).clock.now ∧ (tWaited 3).smb.current = some (tMsg, 3, 5) ∧
    (tWaited 3).smb.state = .idle ∧ (tSmb .sending 3).smb.current = some (tMsg, 3, 5) ∧ (tSmb .sending 3).smb.state = .sending ∧
    (tSmb .idle 3).smb.stuck = false ∧ (tSmb .sending 4).smb.queue = [] := by decide

theorem test_smb_arbitration :
    (tSmb .sending 2).smb.state = .sending ∧ (tSmb .waitFree 2).smb.state = .waitFree ∧ (tSmb .waitFree 2).smb.stuck = false := by decide

theorem test_smb_target :
    tRun.power.aon = true := by decide

theorem test_smb_alert :
    ({ tRun with smb := { tRun.smb with alert := true } } : State).smb.alert = true := by decide

/-- The local bus in a state, a second after reset. -/
def tLb (x : LocalBus) : State := { tLater 60000 with lb := x }

theorem test_lb_unmask :
    (tLb { tRun.lb with alertMasked := true }).lb.alertMasked = true ∧ due (tLb { tRun.lb with alertMasked := true }) 0 1000 = true := by decide

theorem test_regulator :
    tRun.lb.state = .inService ∧ coreUp tRun = true ∧ tRun.rails.rail[(4 : Rail)].run = .qualified ∧
    tRun.lb.regSilent.contains (4 : Rail) = false ∧ lastStatus tRun 4 ≠ some 7 := by decide

theorem test_stretched :
    tRun.power.aon = true ∧ tRun.lb.state ≠ .stuck ∧ readingSheet tRun = false ∧
    ({ tRun with startup := { tRun.startup with settings := none } } : State).startup.settings = none := by decide

theorem test_stretched_smb :
    (tSmb .sending 3).smb.state = .sending ∧ (tSmb .sending 3).smb.current = some (tMsg, 3, 5) ∧ (tSmb .sending 3).smb.stuck = false := by decide

theorem test_bus_clear :
    (tLb { tRun.lb with state := .stuck }).lb.state = .stuck ∧
    due (tLb { tRun.lb with state := .stuck }) (tLb { tRun.lb with state := .stuck }).lb.retryAt 60000 = true := by decide

/-- The management SMBus stuck, a minute after the last try. -/
def tStuck : State := { tLater 60000 with smb := { tRun.smb with stuck := true } }

theorem test_bus_clear_smb :
    tStuck.smb.stuck = true ∧ tStuck.power.aon = true ∧ due tStuck tStuck.smb.retryAt 60000 = true := by decide

theorem test_holdflag :
    blockServes tRun 0 = true ∧ coreUp tRun = true := by decide

theorem test_snapshot :
    blockServes tRun 0 = true ∧ (5 : Fin 16).val = 5 ∧ 5 < (6 : Fin 16).val := by decide

/-- A snapshot taken at the start. -/
def tSnap (now : Nat) : State :=
  { tRun with
    host := { tRun.host with fn := Vector.replicate 8 { resetFn with snap := some ⟨5, 0, []⟩ } }, clock := { tRun.clock with now := now } }

theorem test_snapshot_expiry :
    (tSnap 9).host.fn[(0 : Link)].snap = some ⟨5, 0, []⟩ ∧ due (tSnap 9) 0 10 = false ∧ due (tSnap 10) 0 10 = true ∧
    blockServes (tSnap 9) 0 = true := by decide

theorem test_latches :
    blockServes tRun 0 = true ∧ tRun.host.fn[(0 : Link)].snap = none := by decide

theorem test_esb_window :
    blockServes tRun 0 = true ∧ tRun.host.fn[(0 : Link)].esbAt = none := by decide

theorem test_fifo :
    kvGet tRun.crossings.fifos 4 = none ∧
    kvGet ({ tRun with crossings := { tRun.crossings with fifos := [(4, true, false)] } } : State).crossings.fifos 4 = some (true, !true) := by decide

theorem test_unaligned :
    blockReached tRun 0 = true ∧ aligned 2 4 = false := by decide

theorem test_register_write :
    blockReached tRun 0 = true ∧ inCrocus tRun = false ∧ tRun.power.minimal = false := by decide

theorem test_register_write_8 :
    (0x0E08 : Nat) % 8 = 0 ∧ inTables 0x0E08 = false := by decide

/-- A state with a message pended under its vector's mask. -/
def tPended : State :=
  { tRun with host := { tRun.host with link := Vector.replicate 8 { tLink with msixMask := 0x04, msixPend := 0x04 } } }

theorem test_msix_unmask :
    blockReached tPended 0 = true ∧ (0 : DWord).getLsbD 0 = false ∧
    tPended.host.link[(0 : Link)].msixMask.getLsbD (2 : Fin 8).val = true ∧
    tPended.host.link[(0 : Link)].msixPend.getLsbD (2 : Fin 8).val = true := by decide

theorem test_msix_unmask_result :
    let t := tAfter (.registerWrite 0 0x1002C 4 0) tPended; t.host.link[(0 : Link)].msixMask = 0 ∧
    t.host.link[(0 : Link)].msixPend = 0 ∧ t.out = [.msix 0 2] := by decide

theorem test_step_idle :
    tRun.pending = [] ∧ tRun.security.lowering = false := by decide

theorem test_step_idle_result :
    (match step tRun with | .next t => decide (t.clock.now = 1 ∧ t.pending = [] ∧ t.dram = tRun.dram ∧ t.host = tRun.host ∧ t.persist = tRun.persist) | _ => false) = true := by decide

/-! ## The machine -/

theorem test_step_front : ({ tRun with pending := [.tapReset, .cfStatus] } : State).pending = .tapReset :: [.cfStatus] := by decide

theorem test_queue_kept : (tAfter .tapReset { tRun with pending := [.cfStatus] }).pending = [.cfStatus] := by decide

theorem test_state_sound : tRun.sound := ⟨by decide, by decide, by decide, by decide, fun _ h => nomatch h⟩

/-! ## Well-formed commands -/

theorem test_well_formed :
    (Instr.cxlMemRead 0 1 none 4096 .clean).wellFormed = true ∧ (Instr.registerWrite 0 0x1002C 4 0).wellFormed = true ∧
      (Instr.patrolScrub 0 0 [5, 6] [6] []).wellFormed = true ∧ (Instr.registerWrite 0 0xFFF8 8 0).wellFormed = true ∧
      (Instr.unalignedAccess 0 true 2 4).wellFormed = true ∧ (Instr.sheetImageRead (some tImage) none).wellFormed = true ∧
      (Instr.status [(64, 10, 65535)]).wellFormed = true := by decide

theorem test_ill_formed_line :
    (Instr.cxlMemRead 0 1 none 4097 .clean).wellFormed = false ∧ (Instr.cxlMemWrite 0 1 none 32 0 0 false .clean).wellFormed = false ∧
      (Instr.clearPoison 0 1 0).wellFormed = false ∧ (Instr.injectPoison 0 63).wellFormed = false := by decide

theorem test_ill_formed_link :
    (Instr.linkTrained 0 12 0).wellFormed = false ∧ (Instr.laneMarginTestComplete 0 [3, 3] 8).wellFormed = false ∧
      (Instr.laneMarginTestComplete 0 [3] 0).wellFormed = false := by decide

theorem test_ill_formed_access :
    (Instr.registerWrite 0 2 4 0).wellFormed = false ∧ (Instr.registerWrite 0 0x20000 4 0).wellFormed = false ∧
      (Instr.rtShadowWrite 0 0x4002 4 0).wellFormed = false ∧ (Instr.unalignedAccess 0 true 4 4).wellFormed = false ∧
      (Instr.unalignedAccess 0 true 0x10001 4).wellFormed = false := by decide

theorem test_ill_formed_errors :
    (Instr.patrolScrub 0 0 [5, 5] [] []).wellFormed = false ∧ (Instr.patrolScrub 0 0 [5] [6] []).wellFormed = false ∧
      (Instr.scrubWake 0 0 [6, 6] []).wellFormed = false ∧ (Instr.rebuildStripe [(3, .clean), (3, .clean)]).wellFormed = false ∧
      (Instr.relocationCopyBack [(3, .twoDevices 0 tRow 2048 true)]).wellFormed = false ∧
      (Instr.flushIssue 0 [(3, .addressMismatch 0 tRow 2048 true)]).wellFormed = false ∧
      (Instr.writeCrcError 0 tRow 2048).wellFormed = false ∧ (Instr.lineTestComplete 0 tRow 2048 true 0).wellFormed = false ∧
      (Instr.cxlMemRead 0 1 none 0 (.unreconstructable 0 tRow 2048)).wellFormed = false ∧
      (Instr.cxlMemWrite 0 1 none 0 0 0 false (.corrected 0 tRow 2048 0 0)).wellFormed = false := by decide

theorem test_ill_formed_list :
    (Instr.dramTrainingComplete [1, 1]).wellFormed = false ∧ (Instr.flashChannelTraining 0 [1, 1] true).wellFormed = false ∧
      (Instr.localBusCycle [(9, none), (9, none)] [] false 0 0).wellFormed = false ∧
      (Instr.localBusCycle [(7, none)] [] false 0 0).wellFormed = false ∧
      (Instr.dieSiteSample (List.replicate 9 none)).wellFormed = false := by decide

theorem test_ill_formed_page :
    (Instr.rowCloseTimeout 0 512).wellFormed = false ∧ (Instr.engineProgramRefused 0 0 0 512).wellFormed = false := by decide

theorem test_ill_formed_length :
    (Instr.packIdRead (some []) none).wellFormed = false ∧ (Instr.idRead none (some [1])).wellFormed = false ∧
      (Instr.mctpPacket .smbus 0 0 0 true true 0 0 true (List.replicate 65 0) true).wellFormed = false ∧
      (Instr.debugResponse (tHdr .smbus 0 .debugChallenge) [] true).wellFormed = false := by decide

theorem test_ill_formed_chunk :
    (Instr.chunk 0 0 0 0 (List.replicate 4097 0)).wellFormed = false ∧
      (Instr.fwChunk (tHdr .smbus 0 .debugChallenge) 0 0 0 0 0 (List.replicate 4097 0)).wellFormed = false := by decide +kernel

theorem test_ill_formed_halyard :
    (Instr.hello true 6 65 0 0 0).wellFormed = false ∧ (Instr.hello true 6 0 65 0 0).wellFormed = false ∧
      (Instr.credit 0 256).wellFormed = false ∧ (Instr.status [(65, 0, 0)]).wellFormed = false ∧
      (Instr.status [(0, 11, 0)]).wellFormed = false ∧ (Instr.status [(0, 0, 65536)]).wellFormed = false := by decide

theorem test_ill_formed_image : (Instr.sheetImageRead (some (List.replicate 65537 (0 : Byte))) none).wellFormed = false := by
  show (some (List.replicate 65537 (0 : Byte))).all (fun b => decide (b.length ≤ 65536)) = false
  rw [Option.all_some, List.length_replicate]
  decide

end Sys2Proof.Tests
end

section
/-! Service of CXL.mem (O1, O5): what a read returns, and how a held write leaves the write buffers. First what the shared operations
leave alone, then the requests themselves. -/

namespace Sys2Proof.Machine

open Sys2Proof

/-! ## What error records, tests and evaluations leave alone -/

/-- A DRAM error record draws a free value and changes the recorder (R120). -/
theorem logDram_frame (s : State) (type : Nat) (ch : DramCh) (row : Option RowId) (column device : Nat) (lanes : Option (BitVec 4)) :
    logDram s type ch row column device lanes =
      { s with fresh := s.fresh + 1, recorder := (logDram s type ch row column device lanes).recorder } :=
  logEvent_frame { s with fresh := s.fresh + 1 } _ _ _

/-- What a test withholds lies in the flash medium (R348). -/
theorem prepareTest_frame (s : State) (p : Part) : prepareTest s p = { s with flash := (prepareTest s p).flash } := by
  unfold prepareTest
  split
  · split
    · unfold moveTested
      split <;> rfl
    · rfl
  · rfl

/-- Asking for a targeted test changes the tests, what they withhold in flash, and the recorder (R345, R351). -/
theorem queueTest_frame (s : State) (p : Part) (cmd : Option Word) :
    queueTest s p cmd = { s with
      faults := (queueTest s p cmd).faults, flash := (queueTest s p cmd).flash, recorder := (queueTest s p cmd).recorder } := by
  unfold queueTest
  split
  · rfl
  · split
    · rfl
    · split
      · rw [logEvent_frame]; rfl
      · rw [prepareTest_frame]; rfl

/-- Notices leave DRAM alone. -/
theorem firstPartNotices_dram (parts : List Nat) (s : State) : (firstPartNotices s parts).dram = s.dram := by
  unfold firstPartNotices
  induction parts generalizing s with
  | nil => rfl
  | cons p ps ih =>
    rw [List.foldl_cons, ih]
    split
    · rfl
    · exact raise_dram _ _ _

theorem transitionNotices_dram (s : State) (old new : Psub) (returned : Bool) :
    (transitionNotices s old new returned).dram = s.dram := by
  unfold transitionNotices
  simp only [apply_ite State.dram, raise_dram, ite_self]

/-- The evaluation of PSUB leaves DRAM alone (R56). -/
theorem evalPsub_dram (s : State) : (evalPsub s).dram = s.dram := by
  unfold evalPsub
  split
  · rfl
  · split
    · rfl
    · dsimp only
      split
      · rw [transitionNotices_dram]
      · split
        · rfl
        · rw [transitionNotices_dram, firstPartNotices_dram]

theorem followD_dram (s : State) : (followD s).dram = s.dram := by
  unfold followD
  split
  · rfl
  · exact evalPsub_dram s

/-! ## States that serve the same -/

/-- A read finds the same in `t` as in `s`, and nothing has left meanwhile: the host side, memory, the settings and Shroud agree. -/
structure ServesSame (s t : State) : Prop where
  host : t.host = s.host
  out : t.out = s.out
  mem : t.dram.mem = s.dram.mem
  startup : t.startup = s.startup
  shroud : t.shroud = s.shroud

theorem ServesSame.trans {s t u : State} (h : ServesSame s t) (k : ServesSame t u) : ServesSame s u :=
  ⟨k.host.trans h.host, k.out.trans h.out, k.mem.trans h.mem, k.startup.trans h.startup, k.shroud.trans h.shroud⟩

theorem ServesSame.poisoned {s t : State} (h : ServesSame s t) (line : Nat) : poisoned t line = poisoned s line := by
  simp only [Machine.poisoned, lineGranule, linesPerGranule, h.host, h.startup]

theorem touch_servesSame (s : State) (st : Nat) (isWrite : Bool) (chs : List DramCh) : ServesSame s (touch s st isWrite chs) :=
  ⟨rfl, rfl, rfl, rfl, rfl⟩

@[simp] theorem touch_parity (s : State) (st : Nat) (isWrite : Bool) (chs : List DramCh) :
    (touch s st isWrite chs).dram.parity = s.dram.parity := rfl

@[simp] theorem touch_ch (s : State) (st : Nat) (isWrite : Bool) (chs : List DramCh) : (touch s st isWrite chs).dram.ch = s.dram.ch := rfl

theorem setChan_servesSame (s : State) (ch : DramCh) (f : DramChan → DramChan) : ServesSame s (setChan s ch f) :=
  ⟨rfl, rfl, rfl, rfl, rfl⟩

theorem raise_servesSame (s : State) (code : Nat) (payload : List Nat) : ServesSame s (raise s code payload) :=
  ⟨raise_host _ _ _, raise_out _ _ _, by rw [raise_dram], raise_startup _ _ _, raise_shroud _ _ _⟩

theorem logDram_servesSame (s : State) (type : Nat) (ch : DramCh) (row : Option RowId) (column device : Nat)
    (lanes : Option (BitVec 4)) : ServesSame s (logDram s type ch row column device lanes) := by
  rw [logDram_frame]
  exact ⟨rfl, rfl, rfl, rfl, rfl⟩

theorem queueTest_servesSame (s : State) (p : Part) (cmd : Option Word) : ServesSame s (queueTest s p cmd) := by
  rw [queueTest_frame]
  exact ⟨rfl, rfl, rfl, rfl, rfl⟩

/-- The accesses of a read leave what it finds. -/
theorem readAccess_servesSame (s : State) (line : Nat) : ServesSame s (readAccess s line) := by
  unfold readAccess
  dsimp only
  split <;> exact touch_servesSame _ _ _ _

/-- The accesses of a read end IDLE and are counted; nothing else changes (R90, R419). -/
theorem readAccess_eq (s : State) (line : Nat) :
    ∃ acc, readAccess s line = { s with power := { s.power with idle := false }, dram := { s.dram with acc := acc } } := by
  unfold readAccess
  dsimp only
  split <;> exact ⟨_, rfl⟩

/-! ## What the read of a line finds (Table 04-7) -/

/-- Fewer than 64 errors share no lane position often enough (R112). -/
theorem sharedLane_of_length_lt {es : List LaneError} (h : es.length < 64) : sharedLane es = false := by
  unfold sharedLane
  rw [List.any_eq_false]
  intro i _
  have hf : (es.filter fun e => e.dq.getLsbD i).length ≤ es.length := List.length_filter_le _ _
  have hd : ¬ 64 ≤ (es.filter fun e => e.dq.getLsbD i).length := by omega
  simp [hd]

/-- A correctable error that is not yet the 64th counts on its channel, and asks for no retraining (R112). -/
theorem countCorrectable_servesSame {s : State} {ch : DramCh} (rank : Fin 4) (dev : Fin 10) (dq : BitVec 4)
    (h : s.dram.ch[ch].laneErrors.length < 63) : ServesSame s (countCorrectable s ch rank dev dq) := by
  unfold countCorrectable
  dsimp only
  rw [if_neg]
  · exact setChan_servesSame _ _ _
  · rw [Bool.not_eq_true]
    apply sharedLane_of_length_lt
    have hf : (s.dram.ch[ch].laneErrors.filter fun e => decide (s.clock.now < 1000 + e.at_)).length ≤
        s.dram.ch[ch].laneErrors.length := List.length_filter_le _ _
    simp only [setChan, vecMod, Fin.getElem_fin, Vector.getElem_set_self, List.length_append, List.length_singleton] at hf h ⊢
    omega

/-- The errors of a device that is marked failed are erased (R106). -/
theorem eccEffect_marked {s : State} {ch : DramCh} {row : RowId} {dev : Fin 10} (line col : Nat) (dq : BitVec 4)
    (h : (row.rank, dev) ∈ s.dram.ch[ch].failed) : eccEffect s line (.corrected ch row col dev dq) = s :=
  if_pos (List.contains_iff_mem.2 h)

/-- A corrected error in a rank without a marked device leaves the line as it is. -/
theorem eccEffect_corrected_servesSame {s : State} {ch : DramCh} {row : RowId} (line col : Nat) (dev : Fin 10) (dq : BitVec 4)
    (hf : ∀ f ∈ s.dram.ch[ch].failed, f.1 ≠ row.rank) (hn : s.dram.ch[ch].laneErrors.length < 63) :
    ServesSame s (eccEffect s line (.corrected ch row col dev dq)) := by
  have hmark : s.dram.ch[ch].failed.contains (row.rank, dev) = false := by
    rw [Bool.eq_false_iff, Ne, List.contains_iff_mem]
    exact fun hm => hf _ hm rfl
  have hrank : (s.dram.ch[ch].failed.any fun f => f.1 == row.rank) = false := by
    rw [List.any_eq_false]
    exact fun f hm => by simpa using hf f hm
  unfold eccEffect
  simp only [hmark, hrank, Bool.false_eq_true, if_false]
  have hcount := countCorrectable_servesSame (s := touch s (stripeOf line) true [ch]) row.rank dev dq (by rw [touch_ch]; exact hn)
  exact (((touch_servesSame _ _ _ _).trans hcount).trans (logDram_servesSame _ _ _ _ _ _ _)).trans (queueTest_servesSame _ _ _)

/-- Two devices in error leave the line as it is where its stripe reconstructs it (R129). -/
theorem detected_servesSame {s : State} {line : Nat} (ch : DramCh) (row : RowId) (col : Nat) (clean : Bool)
    (hp : underParity s (stripeOf line) = true) (hm : missingIn s (stripeOf line) = []) :
    ServesSame s (detected s line ch row col clean) := by
  have hlog := ((touch_servesSame s (stripeOf line) false (presentIn s (stripeOf line))).trans
    (touch_servesSame _ (stripeOf line) true [ch])).trans (touch_servesSame _ (stripeOf line) false [ch])
  unfold detected
  simp only [hp, hm, List.isEmpty_nil, Bool.and_self, if_true]
  split
  · exact hlog.trans ((logDram_servesSame _ _ _ _ _ _ _).trans (setChan_servesSame _ _ _))
  · exact hlog.trans ((logDram_servesSame _ _ _ _ _ _ _).trans (queueTest_servesSame _ _ _))

/-- Two devices in error that no stripe reconstructs are an uncorrectable error (Table 04-7). -/
theorem detected_eq_uncorrectable {s : State} {line : Nat} (ch : DramCh) (row : RowId) (col : Nat) (clean : Bool)
    (h : underParity s (stripeOf line) = false ∨ missingIn s (stripeOf line) ≠ []) :
    detected s line ch row col clean = uncorrectable s line ch row col := by
  unfold detected
  rw [if_neg]
  rintro hc
  obtain ⟨hp, hm⟩ := (Bool.and_eq_true _ _).mp hc
  rcases h with h | h
  · rw [h] at hp; cases hp
  · exact h (List.isEmpty_iff.1 hm)

/-! ## Poison by an error (R79, R129) -/

theorem any_key_kvSet {α : Type} (m : List (Nat × α)) (x : Nat) (v : α) : (kvSet m x v).any (fun p => p.1 == x) = true := by
  induction m with
  | nil => simp [kvSet]
  | cons p t ih =>
    obtain ⟨k, w⟩ := p
    unfold kvSet
    split
    · simp
    · split
      · simp
      · rw [List.any_cons, ih, Bool.or_true]

theorem poisoned_addPoison (s : State) (line : Nat) (src : PoisonSource) : poisoned (addPoison s line src) line = true := by
  unfold poisoned
  rw [Bool.or_eq_true]
  exact .inl (any_key_kvSet _ _ _)

theorem poisonLine_out (s : State) (line : Nat) : (poisonLine s line).out = s.out := by
  unfold poisonLine
  simp only [raise_out, addPoison_out]
  split <;> rfl

theorem poisonLine_dram (s : State) (line : Nat) : (poisonLine s line).dram = s.dram := by
  unfold poisonLine
  simp only [raise_dram, addPoison_dram]
  split <;> rfl

theorem poisonLine_buf (s : State) (line : Nat) : (poisonLine s line).host.buf = s.host.buf := by
  unfold poisonLine
  simp only [raise_host, addPoison]
  split <;> rfl

/-- With Shroud on the line counts in UNRECOV (R129). -/
theorem poisonLine_unrecov (s : State) (line : Nat) :
    (poisonLine s line).shroud.unrecov = if shroudOn s then satAdd 16 s.shroud.unrecov 1 else s.shroud.unrecov := by
  unfold poisonLine
  simp only [raise_shroud, addPoison_shroud]
  split <;> rfl

theorem poisoned_poisonLine (s : State) (line : Nat) : poisoned (poisonLine s line) line = true := by
  unfold poisonLine
  rw [(raise_servesSame _ _ _).poisoned]
  exact poisoned_addPoison _ line .internal

/-- An uncorrectable error poisons its line, and is logged and tested. -/
theorem uncorrectable_servesSame (s : State) (line : Nat) (ch : DramCh) (row : RowId) (col : Nat) :
    ServesSame (poisonLine s line) (uncorrectable s line ch row col) :=
  (logDram_servesSame _ _ _ _ _ _ _).trans (queueTest_servesSame _ _ _)

/-! ## Reads of CXL.mem (R12) -/

/-- A read that nothing holds and the requester table admits is served at once. -/
theorem exec_cxlMemRead_of_admitted {s : State} {link : Link} {tag : Nat} {requester : Option (BitVec 12)} {hpa dpa : Nat}
    {ecc : EccOutcome} (hl : linkTakes s link) (hd : decodeHpa s link hpa = some dpa)
    (ha : admitted s (requestSlot s link tag requester false dpa 0 0 false ecc)) :
    exec (.cxlMemRead link tag requester hpa ecc) s =
      .next (admitRead (numbered s) (requestSlot s link tag requester false dpa 0 0 false ecc)) := by
  obtain ⟨ht, hi, hc⟩ := hl
  obtain ⟨hw, hg⟩ := ha
  have hw : waitReason (numbered s) (requestSlot s link tag requester false dpa 0 0 false ecc) false = none := hw
  have hg : admits (numbered s) link (requesterId s link requester) (64 * (dpa / 64)) false = true := hg
  have hr : receiveMem s link tag requester hpa false 0 0 false ecc =
      enterSlot (numbered s) (requestSlot s link tag requester false dpa 0 0 false ecc) := by
    unfold receiveMem
    simp only [ht, hi, hc, hd, Bool.not_true, Bool.or_false, Bool.false_eq_true, if_false]
    rfl
  change Host.Outcome.next (receiveMem s link tag requester hpa false 0 0 false ecc) = _
  rw [hr]
  unfold enterSlot
  rw [hw]
  simp [admitSlot, requestSlot, hg]

/-- An admitted read of a buffered line is answered from the buffers. -/
theorem admitRead_of_buffered {s : State} {q : Slot} {b : BufLine} (h : buffered s q.line = some b) :
    admitRead s q = { s with out := s.out ++ [readAnswer q.link q.tag b.poison b.data] } := by
  have hc : currentLine s q.line = (b.data, b.poison) := by simp only [currentLine, h]
  unfold admitRead
  simp only [h, Option.isSome_some, if_true]
  unfold answerRead
  rw [hc]
  rfl

/-- An admitted read of a line that lies in DRAM alone reads DRAM. -/
theorem admitRead_of_present {s : State} {q : Slot} (hb : buffered s q.line = none) (hf : needsFetch s q.line = false) :
    admitRead s q = readDram s q := by
  simp [admitRead, hb, hf]

/-- A line that no buffer holds is returned with DRAM's content and its poison. -/
theorem answerRead_out_of_not_buffered {s : State} {q : Slot} (hb : buffered s q.line = none) :
    (answerRead s q).out = s.out ++ [readAnswer q.link q.tag (poisoned s q.line) (readLine s.dram.mem q.line)] := by
  have hc : currentLine s q.line = (readLine s.dram.mem q.line, poisoned s q.line) := by simp only [currentLine, hb]
  unfold answerRead
  rw [hc]
  rfl

/-- A state that serves the same answers a read with what `s` holds. -/
theorem ServesSame.answerRead_out {s t : State} {q : Slot} (h : ServesSame s t) (hb : buffered s q.line = none) :
    (answerRead t q).out = s.out ++ [readAnswer q.link q.tag (Machine.poisoned s q.line) (readLine s.dram.mem q.line)] := by
  have hbt : buffered t q.line = none := by rw [buffered, h.host]; exact hb
  rw [answerRead_out_of_not_buffered hbt, h.out, h.poisoned, h.mem]

/-- A read that meets no error is answered, and its accesses counted. -/
theorem answerRead_readAccess_frame (s : State) (q : Slot) :
    answerRead (readAccess s q.line) q = { s with
      out := (answerRead (readAccess s q.line) q).out, power := { s.power with idle := false },
      dram := { s.dram with acc := (answerRead (readAccess s q.line) q).dram.acc } } := by
  obtain ⟨acc, he⟩ := readAccess_eq s q.line
  rw [he]
  rfl

/-- A line is clean, or in error only on a device that is marked failed: its read does nothing but its accesses. -/
theorem readDram_of_clean {s : State} {q : Slot} (h : q.ecc = .clean ∨
    ∃ ch row col dev dq, q.ecc = .corrected ch row col dev dq ∧ (row.rank, dev) ∈ s.dram.ch[ch].failed) :
    readDram s q = answerRead (readAccess s q.line) q := by
  unfold readDram
  obtain ⟨acc, he⟩ := readAccess_eq s q.line
  rw [he]
  rcases h with h | ⟨ch, row, col, dev, dq, h, hm⟩
  · rw [h]; rfl
  · rw [h, eccEffect_marked q.line col dq (by exact hm)]

/-- What a read finds leaves the line as it is: a corrected error, or two devices in error in a stripe that reconstructs them. -/
theorem readDram_servesSame {s : State} {q : Slot} {ch : DramCh} {row : RowId} {col : Nat}
    (h : (∃ dev dq, q.ecc = .corrected ch row col dev dq ∧ (∀ f ∈ s.dram.ch[ch].failed, f.1 ≠ row.rank) ∧
          s.dram.ch[ch].laneErrors.length < 63) ∨
        ∃ again, q.ecc = .twoDevices ch row col again ∧ underParity s (stripeOf q.line) = true ∧ missingIn s (stripeOf q.line) = []) :
    ServesSame s (eccEffect (readAccess s q.line) q.line q.ecc) := by
  refine (readAccess_servesSame s q.line).trans ?_
  obtain ⟨acc, he⟩ := readAccess_eq s q.line
  rw [he]
  rcases h with ⟨dev, dq, h, hf, hn⟩ | ⟨again, h, hp, hm⟩
  · rw [h]
    exact eccEffect_corrected_servesSame q.line col dev dq hf hn
  · rw [h]
    exact detected_servesSame ch row col again hp hm

/-- A read that nothing can reconstruct meets an uncorrectable error. -/
theorem eccEffect_eq_uncorrectable {s : State} {line : Nat} {ecc : EccOutcome} {ch : DramCh} {row : RowId} {col : Nat}
    (h : ecc = .unreconstructable ch row col ∨
        ∃ again, ecc = .twoDevices ch row col again ∧
          (underParity s (stripeOf line) = false ∨ missingIn s (stripeOf line) ≠ [])) :
    eccEffect (readAccess s line) line ecc = uncorrectable (readAccess s line) line ch row col := by
  obtain ⟨acc, he⟩ := readAccess_eq s line
  rw [he]
  rcases h with rfl | ⟨again, rfl, h⟩
  · rfl
  · exact detected_eq_uncorrectable ch row col again h

/-! ## A read as a command, by what it finds -/

section
variable {s : State} {link : Link} {tag : Nat} {requester : Option (BitVec 12)} {hpa dpa : Nat} {ecc : EccOutcome}
  (hl : linkTakes s link) (hd : decodeHpa s link hpa = some dpa)
  (ha : admitted s (requestSlot s link tag requester false dpa 0 0 false ecc))
include hl hd ha

theorem exec_cxlMemRead_buffered {b : BufLine} (hb : buffered s (dpa / 64) = some b) :
    exec (.cxlMemRead link tag requester hpa ecc) s =
      .next { numbered s with out := s.out ++ [readAnswer link tag b.poison b.data] } := by
  rw [exec_cxlMemRead_of_admitted hl hd ha, admitRead_of_buffered (b := b) hb]
  rfl

theorem exec_cxlMemRead_present (hb : buffered s (dpa / 64) = none) (hf : needsFetch s (dpa / 64) = false) :
    exec (.cxlMemRead link tag requester hpa ecc) s =
      .next (readDram (numbered s) (requestSlot s link tag requester false dpa 0 0 false ecc)) := by
  rw [exec_cxlMemRead_of_admitted hl hd ha]
  exact congrArg Host.Outcome.next (admitRead_of_present (q := requestSlot s link tag requester false dpa 0 0 false ecc) hb hf)

/-- A line without an error, or with one of a marked device only, is returned and its accesses are all that changes. -/
theorem exec_cxlMemRead_clean (hb : buffered s (dpa / 64) = none) (hf : needsFetch s (dpa / 64) = false)
    (he : ecc = .clean ∨ ∃ ch row col dev dq, ecc = .corrected ch row col dev dq ∧ (row.rank, dev) ∈ s.dram.ch[ch].failed) :
    ∃ t, exec (.cxlMemRead link tag requester hpa ecc) s = .next t ∧
      t.out = s.out ++ [readAnswer link tag (poisoned s (dpa / 64)) (readLine s.dram.mem (dpa / 64))] ∧
      t = { numbered s with
        out := t.out, power := { s.power with idle := false }, dram := { s.dram with acc := t.dram.acc } } := by
  refine ⟨_, exec_cxlMemRead_present hl hd ha hb hf, ?_⟩
  rw [readDram_of_clean he]
  exact ⟨(readAccess_servesSame (numbered s) (dpa / 64)).answerRead_out hb, answerRead_readAccess_frame (numbered s) _⟩

/-- An error that is corrected or reconstructed leaves the line and the host side as they are. -/
theorem exec_cxlMemRead_lineStands {ch : DramCh} {row : RowId} {col : Nat} (hb : buffered s (dpa / 64) = none)
    (hf : needsFetch s (dpa / 64) = false)
    (he : (∃ dev dq, ecc = .corrected ch row col dev dq ∧ (∀ f ∈ s.dram.ch[ch].failed, f.1 ≠ row.rank) ∧
          s.dram.ch[ch].laneErrors.length < 63) ∨
        (∃ again, ecc = .twoDevices ch row col again ∧ underParity s (stripeOf (dpa / 64)) = true ∧
          missingIn s (stripeOf (dpa / 64)) = [])) :
    ∃ t, exec (.cxlMemRead link tag requester hpa ecc) s = .next t ∧
      t.out = s.out ++ [readAnswer link tag (poisoned s (dpa / 64)) (readLine s.dram.mem (dpa / 64))] ∧
      t.dram.mem = s.dram.mem ∧ t.host = (numbered s).host := by
  have hs := readDram_servesSame (s := numbered s) (q := requestSlot s link tag requester false dpa 0 0 false ecc) he
  exact ⟨_, exec_cxlMemRead_present hl hd ha hb hf, hs.answerRead_out hb, hs.mem, hs.host⟩

/-- An error that nothing can reconstruct is answered with poison, and its line is on the poison record. -/
theorem exec_cxlMemRead_poison {ch : DramCh} {row : RowId} {col : Nat} (hb : buffered s (dpa / 64) = none)
    (hf : needsFetch s (dpa / 64) = false)
    (he : ecc = .unreconstructable ch row col ∨
        (∃ again, ecc = .twoDevices ch row col again ∧
          (underParity s (stripeOf (dpa / 64)) = false ∨ missingIn s (stripeOf (dpa / 64)) ≠ []))) :
    ∃ t, exec (.cxlMemRead link tag requester hpa ecc) s = .next t ∧
      t.out = s.out ++ [readAnswer link tag true (readLine s.dram.mem (dpa / 64))] ∧ poisoned t (dpa / 64) = true ∧
      t.shroud.unrecov = (if shroudOn s then satAdd 16 s.shroud.unrecov 1 else s.shroud.unrecov) ∧
      t.dram.mem = s.dram.mem ∧ t.host.buf = s.host.buf := by
  set line := dpa / 64
  have hread := readAccess_servesSame (numbered s) line
  set r := readAccess (numbered s) line
  have hpoison := uncorrectable_servesSame r line ch row col
  set u := uncorrectable r line ch row col
  have hu : readDram (numbered s) (requestSlot s link tag requester false dpa 0 0 false ecc) =
      answerRead u (requestSlot s link tag requester false dpa 0 0 false ecc) :=
    congrArg (answerRead · _) (eccEffect_eq_uncorrectable (s := numbered s) he)
  have hbuf : u.host.buf = s.host.buf := by rw [hpoison.host, poisonLine_buf, hread.host]; rfl
  have hmem : u.dram.mem = s.dram.mem := by rw [hpoison.mem, poisonLine_dram, hread.mem]; rfl
  have hout : u.out = s.out := by rw [hpoison.out, poisonLine_out, hread.out]; rfl
  have hp : poisoned u line = true := by rw [hpoison.poisoned, poisoned_poisonLine]
  have hon : shroudOn r = shroudOn s := by unfold shroudOn; rw [hread.startup]; rfl
  refine ⟨_, exec_cxlMemRead_present hl hd ha hb hf, ?_⟩
  rw [hu]
  clear_value u
  refine ⟨?_, hp, ?_, hmem, hbuf⟩
  · have hub : buffered u line = none := by rw [buffered, hbuf]; exact hb
    rw [answerRead_out_of_not_buffered hub, hout]
    change s.out ++ [readAnswer link tag (poisoned u line) (readLine u.dram.mem line)] = _
    rw [hp, hmem]
  · change u.shroud.unrecov = _
    rw [hpoison.shroud, poisonLine_unrecov, hon, hread.shroud]
    rfl

end

/-- Settles O1: an admitted read is served at once, from the buffers or from DRAM, and what its ECC finds is taken case by case. -/
theorem readReturnsTheLatestLine : Obligations.ReadReturnsTheLatestLine := by
  intro s link tag requester hpa dpa ecc hl hd ha
  refine ⟨fun b hb => exec_cxlMemRead_buffered hl hd ha hb, fun hb hf => ⟨exec_cxlMemRead_clean hl hd ha hb hf, ?_⟩⟩
  exact fun ch row col => ⟨exec_cxlMemRead_lineStands hl hd ha hb hf, exec_cxlMemRead_poison hl hd ha hb hf⟩

/-! ## The release of a write-buffer entry (R14, R105) -/

/-- The entry of the line has its data and its parity in DRAM. -/
def released (line : Nat) (b : BufLine) : Bool := b.line == line && b.drained && b.parityOut

theorem released_iff {line : Nat} {b : BufLine} : released line b = true ↔ b.line = line ∧ b.drained = true ∧ b.parityOut = true := by
  simp [released, and_assoc]

/-- The oldest entry of the line that may leave is taken out. -/
theorem dropReleased_eq_eraseP (line : Nat) (bs : List BufLine) : dropReleased line bs = bs.eraseP (released line) := by
  induction bs with
  | nil => rfl
  | cons b t ih =>
    unfold dropReleased
    rw [List.eraseP_cons, ih]
    simp only [released, Bool.beq_eq_decide_eq]
    cases decide (b.line = line) && b.drained && b.parityOut <;> rfl

/-- The write-buffer entry that leaves is the oldest of its line with data and parity in DRAM. -/
theorem dropReleased_split {line : Nat} {bs : List BufLine} (h : bs.any (released line) = true) :
    ∃ pre b post, bs = pre ++ b :: post ∧ released line b = true ∧ (∀ x ∈ pre, ¬ released line x = true) ∧
      dropReleased line bs = pre ++ post := by
  obtain ⟨a, ha, hp⟩ := List.any_eq_true.1 h
  obtain ⟨b, pre, post, hpre, hb, he, hd⟩ := List.exists_of_eraseP ha hp
  exact ⟨pre, b, post, he, hb, hpre, (dropReleased_eq_eraseP line bs).trans hd⟩

/-- With the last released entry of a stripe its written staging entry is freed (Table 05-1). -/
theorem releaseLine_frees_staging {s : State} {line : Nat}
    (h : ∀ x ∈ (releaseLine s line).host.buf, ¬ (stripeOf x.line = stripeOf line ∧ x.drained = true ∧ x.parityOut = true)) :
    ∀ e ∈ (releaseLine s line).shroud.staging, ¬ (e.stripe = stripeOf line ∧ e.written = true) := by
  have hleft : ((dropReleased line s.host.buf).any fun b => b.drained && b.parityOut && stripeOf b.line == stripeOf line) = false := by
    rw [List.any_eq_false]
    intro x hx hc
    simp only [Bool.and_eq_true, beq_iff_eq] at hc
    obtain ⟨⟨hd, hp⟩, hs⟩ := hc
    exact h x hx ⟨hs, hd, hp⟩
  intro e he
  unfold releaseLine at he
  simp only [hleft, Bool.false_eq_true, if_false, List.mem_filter] at he
  simpa [imp_iff_not_or] using he.2

/-- An entry may leave: its data and its parity are in DRAM, and past the write CRC window (R105). -/
def mayRelease (s : State) (line : Nat) : Bool :=
  s.host.buf.any (released line) && crcPassed s (homeOf s line) && crcPassed s (Config.parityChannel (stripeOf line))

/-- A release takes the entry out and begins the count of replays of its channel again; without an entry it leaves all as it is. -/
theorem exec_writeBufferRelease (s : State) (line : Nat) :
    exec (.writeBufferRelease line) s = .next (if mayRelease s line then
      setChan (releaseLine s line) (homeOf s line) fun d => { d with replays := 0, replayAt := none } else s) := rfl

/-- An entry that may leave is the oldest of its line to do so, and what is left of its stripe decides on the staging entry; nothing
else changes. -/
theorem exec_writeBufferRelease_takes_oldest (s : State) (line : Nat) :
    ∃ t, exec (.writeBufferRelease line) s = .next t ∧
      (if s.host.buf.any (fun b => b.line == line && b.drained && b.parityOut) && crcPassed s (homeOf s line)
          && crcPassed s (Config.parityChannel (stripeOf line)) then
        (∃ pre b post, s.host.buf = pre ++ b :: post ∧ b.line = line ∧ b.drained = true ∧ b.parityOut = true ∧
          (∀ x ∈ pre, ¬ (x.line = line ∧ x.drained = true ∧ x.parityOut = true)) ∧ t.host.buf = pre ++ post) ∧
        ((∀ x ∈ t.host.buf, ¬ (stripeOf x.line = stripeOf line ∧ x.drained = true ∧ x.parityOut = true)) →
          ∀ e ∈ t.shroud.staging, ¬ (e.stripe = stripeOf line ∧ e.written = true))
      else t = s) ∧
      t = { s with
        host := { s.host with buf := t.host.buf }, dram := { s.dram with ch := t.dram.ch },
        shroud := { s.shroud with staging := t.shroud.staging } } := by
  refine ⟨_, exec_writeBufferRelease s line, ?_⟩
  change (if mayRelease s line = true then _ else _) ∧ _
  by_cases hm : mayRelease s line = true
  · rw [if_pos hm, if_pos hm]
    have hany : s.host.buf.any (released line) = true := by
      rw [mayRelease, Bool.and_eq_true, Bool.and_eq_true] at hm
      obtain ⟨⟨hany, _⟩, _⟩ := hm
      exact hany
    obtain ⟨pre, b, post, he, hb, hpre, hd⟩ := dropReleased_split hany
    obtain ⟨hline, hdr, hpar⟩ := released_iff.1 hb
    exact ⟨⟨⟨pre, b, post, he, hline, hdr, hpar, fun x hx hc => hpre x hx (released_iff.2 hc), hd⟩,
      releaseLine_frees_staging⟩, rfl⟩
  · rw [if_neg hm, if_neg hm]
    exact ⟨rfl, rfl⟩

/-! ## The close of a staging entry (R125, R128) -/

/-- The state with the stripe's staging entry written, and every drained line of the stripe marked. -/
def stagingWritten (s : State) (st : Nat) : State :=
  { s with
    host := { s.host with buf := s.host.buf.map fun b => if b.drained && stripeOf b.line == st then { b with parityOut := true } else b }
    shroud := { s.shroud with staging := s.shroud.staging.map fun x => if x.stripe = st then { x with written := true } else x } }

/-- A staging entry that closes writes its parity line, except on a channel that is missing. -/
theorem closeStaging_of_open {s : State} {st : Nat} {e : StagingEntry} (h : openEntry s st = some e) :
    closeStaging s st = if missesStripe s st (Config.parityChannel st) then stagingWritten s st
      else setParity (touch (stagingWritten s st) st true [Config.parityChannel st]) st e.parity := by
  unfold closeStaging
  rw [h]
  rfl

/-- Besides the marks a staging entry that closes changes DRAM, and ends IDLE. -/
theorem closeStaging_frame {s : State} {st : Nat} {e : StagingEntry} (ho : openEntry s st = some e) :
    closeStaging s st = { stagingWritten s st with
      dram := (closeStaging s st).dram, power := { s.power with idle := (closeStaging s st).power.idle } } := by
  rw [closeStaging_of_open ho]
  split
  · rfl
  · simp only [setParity]
    rfl

/-- Where the channel of the parity line is missing nothing is written (R128). -/
theorem closeStaging_dram_of_missing {s : State} {st : Nat} {e : StagingEntry} (ho : openEntry s st = some e)
    (hm : missesStripe s st (Config.parityChannel st) = true) : (closeStaging s st).dram = s.dram := by
  rw [closeStaging_of_open ho, if_pos hm]
  rfl

/-- A staging entry that closes leaves usable DRAM alone. -/
theorem closeStaging_mem (s : State) (st : Nat) : (closeStaging s st).dram.mem = s.dram.mem := by
  cases ho : openEntry s st with
  | none => simp only [closeStaging, ho]
  | some e =>
    rw [closeStaging_of_open ho]
    split
    · rfl
    · rw [setParity_mem, touch_mem]
      rfl

/-- The parity line of a stripe whose staging entry closes holds what the entry has folded, and no other parity line changes. -/
theorem closeStaging_parity {s : State} {st : Nat} {e : StagingEntry} (ho : openEntry s st = some e)
    (hm : missesStripe s st (Config.parityChannel st) = false) :
    (closeStaging s st).dram.parity = writeLine s.dram.parity st e.parity := by
  rw [closeStaging_of_open ho, hm, if_neg Bool.false_ne_true, setParity_parity, touch_parity]
  rfl

/-- The close of an open staging entry writes one parity line at most, and marks the drained lines of its stripe. -/
theorem exec_stagingEntryClose_writes_parity {s : State} {stripe : Nat} {e : StagingEntry} (hs : s.sound)
    (ho : openEntry s stripe = some e) :
    ∃ t, exec (.stagingEntryClose stripe) s = .next t ∧
      t.shroud.staging = s.shroud.staging.map (fun x => if x.stripe = stripe then { x with written := true } else x) ∧
      t.host.buf = s.host.buf.map (fun b => if b.drained && stripeOf b.line == stripe then { b with parityOut := true } else b) ∧
      (missesStripe s stripe (Config.parityChannel stripe) = false → readLine t.dram.parity stripe = e.parity) ∧
      (missesStripe s stripe (Config.parityChannel stripe) = true → t.dram = s.dram) ∧
      (∀ a, a / 64 ≠ stripe → readByte t.dram.parity a = readByte s.dram.parity a) ∧ t.dram.mem = s.dram.mem ∧
      t = { s with
        host := { s.host with buf := t.host.buf }, shroud := { s.shroud with staging := t.shroud.staging }, dram := t.dram,
        power := { s.power with idle := t.power.idle } } := by
  obtain ⟨_, hparity, _⟩ := hs
  have hframe := closeStaging_frame ho
  have hstaging := congrArg (·.shroud.staging) hframe
  have hbuf := congrArg (·.host.buf) hframe
  refine ⟨closeStaging s stripe, rfl, hstaging, hbuf, fun hm => ?_, closeStaging_dram_of_missing ho, fun a ha => ?_,
    closeStaging_mem s stripe, ?_⟩
  · rw [closeStaging_parity ho hm]
    exact readLine_writeLine_same stripe e.parity hparity
  · cases hm : missesStripe s stripe (Config.parityChannel stripe) with
    | true => rw [closeStaging_dram_of_missing ho hm]
    | false =>
      rw [closeStaging_parity ho hm]
      exact readByte_writeLine_outside e.parity ha hparity
  · rw [hstaging, hbuf]
    exact hframe

/-! ## The drain of a line (R14) -/

/-- The line that drains next is the oldest of its line that has not drained. -/
theorem drainable_split {s : State} {line : Nat} {b : BufLine} (h : drainable s line = some b) :
    ∃ pre post, s.host.buf = pre ++ b :: post ∧ b.line = line ∧ b.drained = false ∧ ∀ x ∈ pre, x.line = line → x.drained = true := by
  have hfind : (s.host.buf.find? fun b => b.line == line && !b.drained) = some b := by
    unfold drainable at h
    split at h
    · cases h
    · split at h
      · cases h
      · rename_i hb
        simp only [Option.ite_none_left_eq_some, Option.some.injEq] at h
        rw [hb, h.2.2]
  obtain ⟨hb, pre, post, he, hpre⟩ := List.find?_eq_some_iff_append.1 hfind
  simp only [Bool.and_eq_true, beq_iff_eq, Bool.not_eq_true'] at hb
  refine ⟨pre, post, he, hb.1, hb.2, fun x hx hl => ?_⟩
  simpa [hl] using hpre x hx

theorem foldParity_mem (s : State) (st : Nat) (delta : Line) : (foldParity s st delta).dram.mem = s.dram.mem := by
  unfold foldParity
  split
  · rfl
  · dsimp only
    split
    · rw [closeStaging_mem]
    · rfl

theorem markStale_mem (s : State) (line : Nat) : (markStale s line).dram.mem = s.dram.mem := by
  unfold markStale staleRegion
  split
  · split <;> rfl
  · rfl

theorem drainAccess_mem (s : State) (line : Nat) : (drainAccess s line).dram.mem = s.dram.mem := by
  unfold drainAccess
  simp only [apply_ite State.dram, apply_ite Dram.mem, touch_mem, ite_self]

/-- A drain writes its line to DRAM as the read of the old line has left it, and no other (R14). -/
theorem drainLine_mem (s : State) (b : BufLine) :
    (drainLine s b).dram.mem =
      writeLine (if takesParity s b.line then eccEffect s b.line b.ecc else s).dram.mem b.line b.data := by
  unfold drainLine
  simp only [followD_dram, markDirty, apply_ite State.dram, apply_ite Dram.mem, foldParity_mem, markStale_mem, addPoison_dram,
    dropPoison_dram, drainAccess_mem, ite_self]

/-- A line that has drained reads as its entry held it. -/
theorem readLine_drainLine {s : State} (hs : s.sound) (b : BufLine) : readLine (drainLine s b).dram.mem b.line = b.data := by
  rw [drainLine_mem]
  apply readLine_writeLine_same
  split
  · obtain ⟨_, hmem, _⟩ := eccEffect_kept s b.line b.ecc (kept_of_sound hs)
    exact hmem
  · exact hs.1

theorem exec_writeBufferDrain_of_drainable {s : State} {line : Nat} {b : BufLine} (h : drainable s line = some b) :
    exec (.writeBufferDrain line) s = .next (drainLine s b) := by
  change execWriteBufferDrain line s = _
  unfold execWriteBufferDrain
  rw [h]

/-- Settles O5: an entry leaves by the erase of the oldest that may, a drain takes the oldest of its line and writes it, and a staging
entry that closes writes its parity line. -/
theorem bufferEntryLeavesAfterItsParity : Obligations.BufferEntryLeavesAfterItsParity := by
  refine ⟨exec_writeBufferRelease_takes_oldest, fun s line b h => ?_,
    fun s stripe e hs ho => exec_stagingEntryClose_writes_parity hs ho⟩
  have hsplit := drainable_split h
  refine ⟨hsplit, fun hs => ⟨_, exec_writeBufferDrain_of_drainable h, ?_⟩⟩
  obtain ⟨_, _, _, rfl, _, _⟩ := hsplit
  exact readLine_drainLine hs b

end Sys2Proof.Machine
end

section
/-! The assembly of MCTP packets (O43). First what the end of an SMBus message leaves alone, the protocol block, then what a packet makes
of the message it belongs to. -/

namespace Sys2Proof.Machine

open Sys2Proof

/-! ## SMBus messages and notices neither read nor change the protocol block -/

/-- A choice does as its branches do. -/
theorem ite_setQmp {f : Qmp → Qmp} {p : Prop} [Decidable p] {a b x y : State} (ha : a = setQmp x f) (hb : b = setQmp y f) :
    (if p then a else b) = setQmp (if p then x else y) f := by
  rw [ha, hb, apply_ite (setQmp · f)]

theorem signal_setQmp (s : State) (f : Qmp → Qmp) (l : Link) (v : Nat) : signal (setQmp s f) l v = setQmp (signal s l v) f :=
  ite_setQmp rfl rfl

theorem writeRecord_setQmp (s : State) (f : Qmp → Qmp) (l : Link) (log kind : Nat) (seq : Word) :
    writeRecord (setQmp s f) l log kind seq = setQmp (writeRecord s l log kind seq) f := rfl

theorem intoLogs_setQmp (s : State) (f : Qmp → Qmp) (l : Link) (n : Notice) :
    intoLogs (setQmp s f) l n = setQmp (intoLogs s l n) f := by
  unfold intoLogs
  refine ite_setQmp rfl ?_
  cases standardKind n.code.toNat <;> simp only [writeRecord_setQmp, signal_setQmp] <;> exact ite_setQmp rfl rfl

theorem intoRing_setQmp (s : State) (f : Qmp → Qmp) (l : Link) (n : Notice) :
    intoRing (setQmp s f) l n = setQmp (intoRing s l n) f := by
  unfold intoRing
  refine ite_setQmp rfl (ite_setQmp rfl ?_)
  rw [← signal_setQmp]
  rfl

theorem deliverLink_setQmp (s : State) (f : Qmp → Qmp) (l : Link) (n : Notice) :
    deliverLink (setQmp s f) l n = setQmp (deliverLink s l n) f := by
  unfold deliverLink
  dsimp only
  rw [intoLogs_setQmp, intoRing_setQmp]
  generalize intoRing (intoLogs s l n) l n = t
  rfl

theorem writeEverywhere_setQmp (s : State) (f : Qmp → Qmp) (n : Notice) :
    writeEverywhere (setQmp s f) n = setQmp (writeEverywhere s n) f := by
  unfold writeEverywhere
  refine List.foldl_hom (setQmp · f) fun s l => ?_
  exact ite_setQmp (deliverLink_setQmp s f l n) rfl

theorem retireDelivered_setQmp (s : State) (f : Qmp → Qmp) : retireDelivered (setQmp s f) = setQmp (retireDelivered s) f := by
  unfold retireDelivered
  dsimp only
  rw [List.foldl_hom (setQmp · f) fun s n => writeEverywhere_setQmp s f n]
  rfl

theorem messageSent_setQmp (s : State) (f : Qmp → Qmp) (m : SmbMsg) : messageSent (setQmp s f) m = setQmp (messageSent s m) f := by
  cases m with
  | response => rfl
  | notice a seq =>
    unfold messageSent
    dsimp only
    rw [setQmp_notices]
    cases s.notices.pend.find? fun n => n.seq == seq with
    | none => rfl
    | some n =>
      have hsent : (if holdsWhole (setQmp s f) n then
            retireDelivered (setNotice (setQmp s f) seq (noteDelivery .smbus (setQmp s f))) else setQmp s f) =
          setQmp (if holdsWhole s n then retireDelivered (setNotice s seq (noteDelivery .smbus s)) else s) f :=
        ite_setQmp (retireDelivered_setQmp (setNotice s seq (noteDelivery .smbus s)) f) rfl
      dsimp only
      rw [hsent]
      rfl

theorem sendCurrent_setQmp (s : State) (f : Qmp → Qmp) : sendCurrent (setQmp s f) = setQmp (sendCurrent s) f := by
  unfold sendCurrent
  rw [setQmp_smb]
  cases s.smb.current with
  | none => rfl
  | some c => exact ite_setQmp rfl rfl

theorem sendMessage_setQmp (s : State) (f : Qmp → Qmp) (m : SmbMsg) : sendMessage (setQmp s f) m = setQmp (sendMessage s m) f := by
  unfold sendMessage
  rw [← sendCurrent_setQmp]
  rfl

theorem sendQueued_setQmp (s : State) (f : Qmp → Qmp) : sendQueued (setQmp s f) = setQmp (sendQueued s) f := by
  unfold sendQueued
  rw [setQmp_smb]
  split
  · refine ite_setQmp rfl ?_
    rw [← sendMessage_setQmp]
    rfl
  · rfl

theorem completeSmb_setQmp (s : State) (f : Qmp → Qmp) : completeSmb (setQmp s f) = setQmp (completeSmb s) f := by
  unfold completeSmb
  rw [setQmp_smb]
  split
  · rw [← sendQueued_setQmp, ← messageSent_setQmp]
    rfl
  · rfl

/-! ## The partial message of a packet -/

theorem dropPartial_of_find?_none {s : State} {c : Carrier} {source : BitVec 16} {tag : Nat}
    (h : s.qmp.partials.find? (sameMessage c source tag) = none) : dropPartial s c source tag = s := by
  have hkeep : (s.qmp.partials.filter fun p => !sameMessage c source tag p) = s.qmp.partials :=
    List.filter_eq_self.2 fun p hp => by simpa using List.find?_eq_none.1 h p hp
  unfold dropPartial setQmp
  dsimp only
  rw [hkeep]

theorem find?_dropPartial (s : State) (c : Carrier) (source : BitVec 16) (tag : Nat) :
    (dropPartial s c source tag).qmp.partials.find? (sameMessage c source tag) = none :=
  List.find?_eq_none.2 fun p hp => by simpa using (List.mem_filter.1 hp).2

theorem packetState_dropPartial (s : State) (c : Carrier) (rate : Fin 3) (source : BitVec 16) (tag : Nat) :
    packetState (dropPartial s c source tag) c rate = dropPartial (packetState s c rate) c source tag := by
  cases c with
  | mailbox l => rfl
  | vdm l => rfl
  | smbus =>
    unfold packetState dropPartial
    dsimp only
    rw [completeSmb_setQmp]
    rfl

/-- Whether a carrier is served and has room does not turn on the partial messages. -/
theorem takesPacket_dropPartial (s : State) (c c' : Carrier) (command : Byte) (source : BitVec 16) (tag : Nat) :
    takesPacket (dropPartial s c source tag) c' command = takesPacket s c' command := by
  cases c' <;> rfl

/-! ## What a packet makes of its message (R326) -/

section

variable {s : State} {c : Carrier} {source : BitVec 16} {tag : Nat}

/-- A message begins with a packet that is its first; alone it is the whole message. -/
theorem takePacket_first (h : s.qmp.partials.find? (sameMessage c source tag) = none) (eom : Bool) (seq : Fin 4) (payload : List Byte)
    (verifies : Bool) :
    takePacket s c source true eom seq tag payload verifies =
      if eom then wholeMessage s c source payload verifies
      else setQmp s fun q => { q with partials := q.partials ++
        [{ carrier := c, source := source, tag := tag, nextSeq := (seq.val + 1) % 4, bytes := payload, lastAt := s.clock.now }] } := by
  unfold takePacket
  rw [h, dropPartial_of_find?_none h]

/-- A packet that continues a message which has not begun leaves all as it is. -/
theorem takePacket_unbegun (h : s.qmp.partials.find? (sameMessage c source tag) = none) (eom : Bool) (seq : Fin 4)
    (payload : List Byte) (verifies : Bool) : takePacket s c source false eom seq tag payload verifies = s := by
  unfold takePacket
  rw [h, dropPartial_of_find?_none h]

variable {p : PartialMsg}

theorem takePacket_unexpectedSom (h : s.qmp.partials.find? (sameMessage c source tag) = some p) (eom : Bool) (seq : Fin 4)
    (payload : List Byte) (verifies : Bool) :
    takePacket s c source true eom seq tag payload verifies = dropPartial s c source tag := by
  unfold takePacket
  rw [h]

theorem takePacket_gap (h : s.qmp.partials.find? (sameMessage c source tag) = some p) {seq : Fin 4} (hseq : p.nextSeq ≠ seq.val)
    (eom : Bool) (payload : List Byte) (verifies : Bool) :
    takePacket s c source false eom seq tag payload verifies = dropPartial s c source tag := by
  unfold takePacket
  simp only [h, if_neg hseq]

/-- A packet in order appends its payload; the last one completes the message. -/
theorem takePacket_next (h : s.qmp.partials.find? (sameMessage c source tag) = some p) {seq : Fin 4} (hseq : p.nextSeq = seq.val)
    (eom : Bool) (payload : List Byte) (verifies : Bool) :
    takePacket s c source false eom seq tag payload verifies =
      if eom then wholeMessage (dropPartial s c source tag) c source (p.bytes ++ payload) verifies
      else setQmp (dropPartial s c source tag) fun q => { q with partials := q.partials ++
        [{ carrier := c, source := source, tag := tag, nextSeq := (seq.val + 1) % 4, bytes := p.bytes ++ payload,
           lastAt := s.clock.now }] } := by
  unfold takePacket
  simp only [h, if_pos hseq]
  rfl

end

/-! ## MCTP_PACKET on a carrier that takes it -/

/-- A packet that is taken joins its message where its PEC checks; otherwise the message is discarded, and on SMBus the error is counted
(R326, R439). -/
theorem exec_mctpPacket_of_takesPacket {s : State} {c : Carrier} {command : Byte} (h : takesPacket s c command = true)
    (source : BitVec 16) (rate : Fin 3) (som eom : Bool) (seq : Fin 4) (tag : Nat) (pecOk : Bool) (payload : List Byte)
    (verifies : Bool) :
    exec (.mctpPacket c source command rate som eom seq tag pecOk payload verifies) s =
      .next (if pecOk then takePacket (packetState s c rate) c source som eom seq tag payload verifies
        else setSmb (dropPartial (packetState s c rate) c source tag) fun b =>
          if c = .smbus then { b with pec := satAdd 8 b.pec 1 } else b) := by
  change execMctpPacket c source command rate som eom seq tag pecOk payload verifies s = _
  cases c with
  | mailbox l => cases h
  | vdm l =>
    have hup : carrierUp s (.vdm l) = true := h
    simp [execMctpPacket, packetState, hup, setSmb]
  | smbus =>
    simp only [takesPacket, Bool.and_eq_true, Bool.not_eq_true', beq_iff_eq] at h
    obtain ⟨⟨hup, hroom⟩, hcode⟩ := h
    simp [execMctpPacket, packetState, hup, hroom, hcode]

/-- Settles O43: each packet takes the partial message of its carrier, source and tag out, and puts back what it has grown to, unless it
is out of place; the packet that ends a message serves the joined payloads as one packet would. -/
theorem mctpPacketsMakeMessages : Obligations.MctpPacketsMakeMessages := by
  intro s u c source command rate som eom seq tag payload verifies htakes hu
  subst hu
  have hexec := exec_mctpPacket_of_takesPacket htakes source rate
  refine ⟨⟨_, hexec som eom seq tag false payload verifies, rfl, fun hc => if_neg hc, fun hc => if_pos hc⟩,
    fun hnone => ⟨?_, ?_⟩, fun p hp => ⟨?_, fun hgap => ?_, fun hnext => ⟨?_, _, hexec .., ?_⟩⟩⟩
  · rw [hexec, if_pos rfl, takePacket_unbegun hnone]
  · rw [hexec, if_pos rfl, takePacket_first hnone]
    rfl
  · rw [hexec, if_pos rfl, takePacket_unexpectedSom hp]
    rfl
  · rw [hexec, if_pos rfl, takePacket_gap hp hgap]
    rfl
  · rw [hexec, if_pos rfl, takePacket_next hp hnext]
    rfl
  · change exec _ (dropPartial s c source tag) = _
    rw [exec_mctpPacket_of_takesPacket ((takesPacket_dropPartial ..).trans htakes), packetState_dropPartial, if_pos rfl, if_pos rfl,
      takePacket_first (find?_dropPartial _ c source tag), takePacket_next hp hnext]
    rfl

end Sys2Proof.Machine
end

section
/-! Writes of CXL.mem (O2 to O4): a write is held whole, a read after it returns its data, and a drain puts the line into DRAM and its
granule into the dirty set. -/

namespace Sys2Proof.Machine

open Sys2Proof

/-! ## Writes that are admitted (R13) -/

/-- An accepted write enters the write buffers as a held line, and its completion leaves. -/
theorem acceptWrite_eq (s : State) (q : Slot) (data : Line) (poison wait : Bool) (ecc : EccOutcome) :
    acceptWrite s q data poison wait ecc = { s with
      host := { s.host with
        arrivals := s.host.arrivals + 1, buf := s.host.buf ++ [heldLine q.line data poison wait ecc s.host.arrivals] },
      out := s.out ++ [.writeDone q.link q.tag] } := rfl

/-- A full write of a line that is present is held as it comes. -/
theorem admitWrite_full {s : State} {q : Slot} (he : q.enables = BitVec.allOnes 64) (hf : needsFetch s q.line = false) :
    admitWrite s q = acceptWrite s q q.data q.poison false q.ecc := by
  simp [admitWrite, hf, isFull, he]

/-- A partial write of a line that is present is merged first. -/
theorem admitWrite_partial {s : State} {q : Slot} (he : q.enables ≠ BitVec.allOnes 64) (hf : needsFetch s q.line = false) :
    admitWrite s q = acceptPartial s q false := by
  have hpart : isFull q.enables = false := by simpa [isFull] using he
  simp [admitWrite, hf, hpart]

/-- A write that the requester table admits is served. -/
theorem admitSlot_write {s : State} {q : Slot} (hw : q.isWrite = true) (ha : admits s q.link q.requester (64 * q.line) true = true) :
    admitSlot s q = admitWrite s q := by
  simp [admitSlot, hw, ha]

/-- A write that nothing holds and the requester table admits is served at once. -/
theorem exec_cxlMemWrite_of_admitted {s : State} {link : Link} {tag : Nat} {requester : Option (BitVec 12)} {hpa dpa : Nat} {data : Line}
    {enables : DWord} {poison : Bool} {ecc : EccOutcome} (hl : linkTakes s link) (hd : decodeHpa s link hpa = some dpa)
    (ha : admitted s (requestSlot s link tag requester true dpa data enables poison ecc)) :
    exec (.cxlMemWrite link tag requester hpa data enables poison ecc) s =
      .next (admitWrite (numbered s) (requestSlot s link tag requester true dpa data enables poison ecc)) := by
  obtain ⟨ht, hi, hc⟩ := hl
  obtain ⟨hw, hg⟩ := ha
  have hr : receiveMem s link tag requester hpa true data enables poison ecc =
      enterSlot (numbered s) (requestSlot s link tag requester true dpa data enables poison ecc) := by
    unfold receiveMem
    simp only [ht, hi, hc, hd, Bool.not_true, Bool.or_false, Bool.false_eq_true, if_false]
    rfl
  change Host.Outcome.next (receiveMem s link tag requester hpa true data enables poison ecc) = _
  rw [hr]
  unfold enterSlot
  rw [show waitReason (numbered s) _ false = none from hw]
  exact congrArg Host.Outcome.next
    (admitSlot_write (q := requestSlot s link tag requester true dpa data enables poison ecc) rfl hg)

/-- The state with a request out of its slot. -/
def withoutSlot (s : State) (q : Slot) : State := { s with host := { s.host with slots := s.host.slots.erase q } }

/-- A held write that nothing holds any more is admitted. -/
theorem exec_heldWriteAdmit_of_free {s : State} {link : Link} {tag : Nat} {q : Slot} (hq : waiting s link tag = some q)
    (hw : waitReason s q true = none) : exec (.heldWriteAdmit link tag) s = .next (admitSlot (withoutSlot s q) q) := by
  change execHeldWriteAdmit link tag s = _
  unfold execHeldWriteAdmit
  simp only [hq, hw]
  rfl

/-- The read of the old line before a merge leaves what is held, what memory holds and what has left. -/
theorem acceptPartial_of_clean {s : State} {q : Slot} (h : (buffered s q.line).isSome = true ∨ q.ecc = .clean) :
    ∃ u, acceptPartial s q false =
        acceptWrite u q (mergeLine (currentLine s q.line).1 q.data q.enables) ((currentLine s q.line).2 || q.poison) false .clean ∧
      u.host = s.host ∧ u.out = s.out ∧ u.dram.mem = s.dram.mem := by
  unfold acceptPartial
  by_cases hb : (buffered s q.line).isSome = true
  · exact ⟨s, by simp only [hb, if_true], rfl, rfl, rfl⟩
  · have hc := h.resolve_left hb
    obtain ⟨acc, he⟩ := readAccess_eq s q.line
    refine ⟨readAccess s q.line, ?_, ?_⟩
    · rw [if_neg hb, hc, he]
      rfl
    · rw [he]
      exact ⟨rfl, rfl, rfl⟩

/-- Settles O2: an admitted write that covers its line is held as it comes, any other one is merged into the line as it stands. -/
theorem writeIsHeldWholeThenCompletes : Obligations.WriteIsHeldWholeThenCompletes := by
  intro s link tag
  refine ⟨fun requester hpa dpa data enables poison ecc hl hd ha hf => ⟨fun he => ?_, fun he hc => ?_⟩,
    fun q hq hw ha hwrite he hf => ?_⟩
  · rw [exec_cxlMemWrite_of_admitted hl hd ha, admitWrite_full he hf]
    rfl
  · obtain ⟨u, hu, hhost, hout, hmem⟩ :=
      acceptPartial_of_clean (s := numbered s) (q := requestSlot s link tag requester true dpa data enables poison ecc) hc
    refine ⟨_, exec_cxlMemWrite_of_admitted hl hd ha, ?_⟩
    rw [admitWrite_partial he hf, hu, acceptWrite_eq, hhost, hout]
    exact ⟨rfl, rfl, hmem⟩
  · rw [exec_heldWriteAdmit_of_free hq hw, admitSlot_write (s := withoutSlot s q) hwrite ha, admitWrite_full (s := withoutSlot s q) he hf]
    rfl

/-! ## A read after a write (R12, R13) -/

/-- The latest held write to a line is what a request to the line finds. -/
theorem buffered_append_self {s : State} {bs : List BufLine} {b : BufLine} (h : s.host.buf = bs ++ [b]) : buffered s b.line = some b := by
  unfold buffered
  rw [h]
  simp

/-- Settles O3: the completed write is the latest held line, and a read is served from it. -/
theorem readAfterWriteReturnsTheData : Obligations.ReadAfterWriteReturnsTheData := by
  intro s t link link2 tag tag2 requester requester2 hpa hpa2 dpa dpa2 data poison ecc ecc2 hl hd ha hf ht hl2 hd2 hline ha2
  obtain ⟨hfull, _⟩ :=
    (writeIsHeldWholeThenCompletes s link tag).1 requester hpa dpa data (BitVec.allOnes 64) poison ecc hl hd ha hf
  cases (hfull rfl).symm.trans ht
  refine exec_cxlMemRead_buffered (b := heldLine (dpa / 64) data poison false ecc (s.host.arrivals + 1)) hl2 hd2 ha2 ?_
  rw [hline]
  exact buffered_append_self (bs := s.host.buf) (b := heldLine (dpa / 64) data poison false ecc (s.host.arrivals + 1)) rfl

/-! ## The evaluation of PSUB -/

/-- The part notices of the first evaluation change notices alone. -/
theorem firstPartNotices_frame (parts : List Nat) (s : State) :
    firstPartNotices s parts = withNotes s (firstPartNotices s parts) := by
  unfold firstPartNotices
  induction parts generalizing s with
  | nil => rfl
  | cons p ps ih =>
    rw [List.foldl_cons]
    split
    · exact ih s
    · rw [ih]
      simp only [withNotes]
      rw [raise_frame]
      rfl

theorem withNotes_ite {s a b : State} {p : Prop} [Decidable p] (ha : a = withNotes s a) (hb : b = withNotes s b) :
    (if p then a else b) = withNotes s (if p then a else b) := by
  split
  · exact ha
  · exact hb

theorem withNotes_trans {s t u : State} (ht : t = withNotes s t) (hu : u = withNotes t u) : u = withNotes s u := by
  rw [ht] at hu
  exact hu

/-- The sub-state notices of a transition change notices alone. -/
theorem transitionNotices_frame (s : State) (old new : Psub) (returned : Bool) :
    transitionNotices s old new returned = withNotes s (transitionNotices s old new returned) := by
  unfold transitionNotices
  extract_lets a b
  have ha : a = withNotes s a := withNotes_ite (raise_frame _ _ _) rfl
  have hb : b = withNotes s b := withNotes_trans ha (withNotes_ite (raise_frame _ _ _) rfl)
  exact withNotes_trans hb (withNotes_ite rfl (withNotes_ite (raise_frame _ _ _) (raise_frame _ _ _)))

/-- The evaluation of PSUB does nothing, or sets PSUB with the lost parts it counts, and sends notices (R56). -/
theorem evalPsub_cases (s : State) : evalPsub s = s ∨ ∃ psub nLost lostSeen,
    evalPsub s = withNotes { s with persist := { s.persist with psub := psub, nLost := nLost, lostSeen := lostSeen } } (evalPsub s) := by
  unfold evalPsub
  split
  · exact .inl rfl
  · rename_i c _
    split
    · exact .inl rfl
    · refine .inr ⟨some (psubOf s c), (lostParts s c).length + (if packFailed s then 1 else 0), lostParts s c, ?_⟩
      dsimp only
      split
      · exact transitionNotices_frame _ _ _ _
      · split
        · rfl
        · exact withNotes_trans (firstPartNotices_frame _ _) (transitionNotices_frame _ _ _ _)

theorem evalPsub_frame (s : State) : evalPsub s = { withNotes s (evalPsub s) with
    persist := { s.persist with
      psub := (evalPsub s).persist.psub, nLost := (evalPsub s).persist.nLost, lostSeen := (evalPsub s).persist.lostSeen } } := by
  obtain h | ⟨_, _, _, h⟩ := evalPsub_cases s
  · rw [h]
    rfl
  · rw [h]
    rfl

theorem followD_frame (s : State) : followD s = { withNotes s (followD s) with
    persist := { s.persist with
      psub := (followD s).persist.psub, nLost := (followD s).persist.nLost, lostSeen := (followD s).persist.lostSeen } } := by
  unfold followD
  split
  · rfl
  · exact evalPsub_frame s

/-! ## What a drain changes (R14, R42, Table 05-1) -/

/-- A granule that a write drains into is dirty. -/
theorem isDirty_markDirty (s : State) (g : Nat) : isDirty (markDirty s g) g = true := by
  simp [isDirty, markDirty]

theorem isDirty_followD (s : State) (g : Nat) : isDirty (followD s) g = isDirty s g := by
  rw [followD_frame]
  rfl

/-- What a drain leaves alone beside usable DRAM: the channels, start-up and settings, what has left, tables, flash, security, rails and
the functions' registers. -/
structure DrainStands (s t : State) : Prop where
  ch : t.dram.ch = s.dram.ch
  startup : t.startup = s.startup
  out : t.out = s.out
  rt : t.rt = s.rt
  flash : t.flash = s.flash
  security : t.security = s.security
  rails : t.rails = s.rails
  fn : t.host.fn = s.host.fn

namespace DrainStands

theorem trans {s t u : State} (h : DrainStands s t) (k : DrainStands t u) : DrainStands s u :=
  ⟨k.ch.trans h.ch, k.startup.trans h.startup, k.out.trans h.out, k.rt.trans h.rt, k.flash.trans h.flash, k.security.trans h.security,
    k.rails.trans h.rails, k.fn.trans h.fn⟩

theorem refl (s : State) : DrainStands s s := ⟨rfl, rfl, rfl, rfl, rfl, rfl, rfl, rfl⟩

theorem ite {s a b : State} {p : Prop} [Decidable p] (ha : DrainStands s a) (hb : DrainStands s b) :
    DrainStands s (if p then a else b) := by
  split <;> assumption

theorem touch (s : State) (st : Nat) (isWrite : Bool) (chs : List DramCh) : DrainStands s (touch s st isWrite chs) :=
  ⟨rfl, rfl, rfl, rfl, rfl, rfl, rfl, rfl⟩

theorem setParity (s : State) (st : Nat) (l : Line) : DrainStands s (setParity s st l) := by
  unfold Machine.setParity
  exact ⟨rfl, rfl, rfl, rfl, rfl, rfl, rfl, rfl⟩

theorem drainAccess (s : State) (line : Nat) : DrainStands s (drainAccess s line) :=
  ite (ite (refl s) (touch s _ _ _)) (ite (touch s _ _ _) ((touch s _ _ _).trans (touch _ _ _ _)))

theorem markStale (s : State) (line : Nat) : DrainStands s (markStale s line) :=
  ite (ite ⟨rfl, rfl, rfl, rfl, rfl, rfl, rfl, rfl⟩ (refl s)) (refl s)

theorem closeStaging (s : State) (st : Nat) : DrainStands s (closeStaging s st) := by
  cases ho : openEntry s st with
  | none =>
    simp only [Machine.closeStaging, ho]
    exact refl s
  | some e =>
    rw [closeStaging_of_open ho]
    have hw : DrainStands s (stagingWritten s st) := ⟨rfl, rfl, rfl, rfl, rfl, rfl, rfl, rfl⟩
    exact hw.trans (ite (refl _) ((touch _ _ _ _).trans (setParity _ _ _)))

theorem foldParity (s : State) (st : Nat) (delta : Line) : DrainStands s (foldParity s st delta) := by
  unfold Machine.foldParity
  split
  · exact ⟨rfl, rfl, rfl, rfl, rfl, rfl, rfl, rfl⟩
  · extract_lets n x t
    have ht : DrainStands s t := ⟨rfl, rfl, rfl, rfl, rfl, rfl, rfl, rfl⟩
    exact ite (ht.trans (closeStaging t st)) ht

theorem followD (s : State) : DrainStands s (followD s) := by
  rw [followD_frame]
  exact ⟨rfl, rfl, rfl, rfl, rfl, rfl, rfl, rfl⟩

end DrainStands

/-- The line written, and its entry marked as drained. -/
def lineWritten (s : State) (b : BufLine) (par : Bool) : State :=
  { s with host := { s.host with buf := setDrained (!par) b.line s.host.buf },
           dram := { s.dram with mem := writeLine s.dram.mem b.line b.data } }

/-- The poison of a line follows that of the data written (R80). -/
def poisonWritten (s : State) (b : BufLine) : State :=
  if b.poison then (if poisoned s b.line then s else addPoison s b.line .external) else dropPoison s b.line

/-- What the check bytes of the old line leave, where the drain reads it. -/
def oldLineRead (s : State) (b : BufLine) : State := if takesParity s b.line then eccEffect s b.line b.ecc else s

/-- The state of a drain before its parity is folded. -/
def lineOut (s : State) (b : BufLine) : State :=
  markStale (poisonWritten (lineWritten (drainAccess (oldLineRead s b) b.line) b (takesParity s b.line)) b) b.line

/-- The state of a drain before its granule is marked dirty. -/
def drained (s : State) (b : BufLine) : State :=
  if takesParity s b.line then foldParity (lineOut s b) (stripeOf b.line) (readLine s.dram.mem b.line ^^^ b.data) else lineOut s b

theorem drainLine_eq (s : State) (b : BufLine) :
    drainLine s b = followD (markDirty (drained s b) (lineGranule (drained s b) b.line)) := rfl

theorem oldLineRead_of_clean {s : State} {b : BufLine} (h : takesParity s b.line = false ∨ b.ecc = .clean) : oldLineRead s b = s := by
  unfold oldLineRead
  rcases h with h | h <;> rw [h]
  · rfl
  · exact ite_self s

/-- Besides the line a drain whose old line is read clean, or not read, changes staging, poison, write buffers and the dirty set. -/
theorem drainLine_stands {s : State} {b : BufLine} (h : takesParity s b.line = false ∨ b.ecc = .clean) :
    DrainStands s (drainLine s b) := by
  have hpoison (u : State) : DrainStands u (poisonWritten u b) :=
    .ite (.ite (.refl u) ⟨rfl, rfl, rfl, rfl, rfl, rfl, rfl, rfl⟩) ⟨rfl, rfl, rfl, rfl, rfl, rfl, rfl, rfl⟩
  have hwritten (u : State) (par : Bool) : DrainStands u (lineWritten u b par) := by
    constructor <;> simp only [lineWritten]
  have hline : DrainStands s (lineOut s b) := by
    unfold lineOut
    rw [oldLineRead_of_clean h]
    exact (((DrainStands.drainAccess s b.line).trans (hwritten _ _)).trans (hpoison _)).trans (.markStale _ b.line)
  have hdrained : DrainStands s (drained s b) := .ite (hline.trans (.foldParity _ _ _)) hline
  have hdirty : DrainStands (drained s b) (markDirty (drained s b) (lineGranule (drained s b) b.line)) :=
    ⟨rfl, rfl, rfl, rfl, rfl, rfl, rfl, rfl⟩
  exact (hdrained.trans hdirty).trans (.followD _)

/-- The granule of a line that has drained is dirty. -/
theorem isDirty_drainLine (s : State) (b : BufLine) : isDirty (drainLine s b) (lineGranule (drainLine s b) b.line) = true := by
  rw [drainLine_eq]
  generalize drained s b = u
  have hgranule : lineGranule (followD (markDirty u (lineGranule u b.line))) b.line = lineGranule u b.line := by
    rw [followD_frame]
    rfl
  rw [hgranule, isDirty_followD]
  exact isDirty_markDirty u _

/-- Settles O4: a line that may drain is written by `drainLine`, whose parts each leave the rest alone. -/
theorem drainWritesTheLineAndMarksItsGranule : Obligations.DrainWritesTheLineAndMarksItsGranule := by
  intro s line
  refine ⟨fun hn => ?_, fun b hs hb => ⟨_, exec_writeBufferDrain_of_drainable hb, ?_⟩⟩
  · change execWriteBufferDrain line s = _
    unfold execWriteBufferDrain
    rw [hn]
  · obtain ⟨_, _, _, rfl, _, _⟩ := drainable_split hb
    refine ⟨readLine_drainLine hs b, isDirty_drainLine s b, fun h => ⟨fun a ha => ?_, ?_⟩⟩
    · have hmem : (oldLineRead s b).dram.mem = s.dram.mem := by rw [oldLineRead_of_clean h]
      change readByte (drainLine s b).dram.mem a = _
      rw [drainLine_mem]
      change readByte (writeLine (oldLineRead s b).dram.mem b.line b.data) a = _
      rw [hmem]
      exact readByte_writeLine_outside b.data ha hs.1
    · obtain ⟨hch, hstartup, hout, hrt, hflash, hsecurity, hrails, hfn⟩ := drainLine_stands h
      exact ⟨hch, hstartup, hout, hrt, hflash, hsecurity, hrails, hfn⟩

end Sys2Proof.Machine
end

section
/-! The machine as a whole (O56, O58 to O60): a step and what every command keeps, and the state after reset. -/

namespace Sys2Proof.Machine

open Sys2Proof

/-! ## Every step keeps the state sound -/

/-- Every command ends in a next state, keeps the queue and the state sound: one arm for each row of the opcode table. -/
theorem exec_kept {pq : List Instr} (c : Instr) (s : State) (hk : Kept pq s) : KeptR pq (exec c s) :=
  match c with
  | .cxlMemRead .. => execCxlMemRead_kept _ _ _ _ _ s hk
  | .cxlMemWrite .. => execCxlMemWrite_kept _ _ _ _ _ _ _ _ s hk
  | .demandFetchComplete .. => execDemandFetchComplete_kept _ _ _ s hk
  | .writeBufferDrain .. => execWriteBufferDrain_kept _ s hk
  | .writeBufferRelease .. => execWriteBufferRelease_kept _ s hk
  | .stagingEntryClose .. => execStagingEntryClose_kept _ s hk
  | .heldWriteAdmit .. => execHeldWriteAdmit_kept _ _ s hk
  | .perstAssert .. => execPerstAssert_kept _ s hk
  | .linkDown .. => execLinkDown_kept _ s hk
  | .hotReset .. => execHotReset_kept _ s hk
  | .cxlReset .. => execCxlReset_kept _ s hk
  | .linkTrained .. => execLinkTrained_kept _ _ _ s hk
  | .refclkFault .. => execRefclkFault_kept _ s hk
  | .linkErrorBurst .. => execLinkErrorBurst_kept _ s hk
  | .laneMarginTestComplete .. => execLaneMarginTestComplete_kept _ _ _ s hk
  | .gpfPhase2 .. => execGpfPhase2_kept _ s hk
  | .setShutdownState .. => execSetShutdownState_kept _ _ s hk
  | .getHealthInfo .. => execGetHealthInfo_kept _ s hk
  | .getPoisonList .. => execGetPoisonList_kept _ _ _ s hk
  | .clearPoison .. => execClearPoison_kept _ _ _ s hk
  | .injectPoison .. => execInjectPoison_kept _ _ s hk
  | .getFwInfo .. => execGetFwInfo_kept _ s hk
  | .rtShadowWrite .. => execRtShadowWrite_kept _ _ _ _ s hk
  | .commit .. => execCommit_kept _ s hk
  | .commitRefillEnd .. => execCommitRefillEnd_kept s hk
  | .ceilingUpdate .. => execCeilingUpdate_kept s hk
  | .heatHalving .. => execHeatHalving_kept s hk
  | .flushIssue .. => execFlushIssue_kept _ _ s hk
  | .dirtyNowRefresh .. => execDirtyNowRefresh_kept s hk
  | .mastheadWatchdogExpiry .. => execMastheadWatchdogExpiry_kept s hk
  | .engineException .. => execEngineException_kept _ s hk
  | .engineBistComplete .. => execEngineBistComplete_kept _ _ s hk
  | .spareSwapComplete .. => execSpareSwapComplete_kept _ s hk
  | .refreshTick .. => execRefreshTick_kept _ _ _ s hk
  | .refreshPullIn .. => execRefreshPullIn_kept _ _ s hk
  | .mr4Poll .. => execMr4Poll_kept _ _ s hk
  | .powerDownEntry .. => execPowerDownEntry_kept _ _ s hk
  | .dcPdWrite .. => execDcPdWrite_kept _ _ s hk
  | .patrolScrub .. => execPatrolScrub_kept _ _ _ _ _ s hk
  | .scrubWake .. => execScrubWake_kept _ _ _ _ s hk
  | .zqCalibration .. => execZqCalibration_kept _ _ s hk
  | .dqsOscCalibration .. => execDqsOscCalibration_kept _ _ _ s hk
  | .readCenteringTrack .. => execReadCenteringTrack_kept _ _ s hk
  | .writeCrcError .. => execWriteCrcError_kept _ _ _ s hk
  | .channelRetrainStart .. => execChannelRetrainStart_kept s hk
  | .retrainSlice .. => execRetrainSlice_kept _ s hk
  | .channelRetrainComplete .. => execChannelRetrainComplete_kept _ _ s hk
  | .lineTestComplete .. => execLineTestComplete_kept _ _ _ _ _ s hk
  | .rowTestComplete .. => execRowTestComplete_kept _ _ _ _ _ s hk
  | .dramTrainingComplete .. => execDramTrainingComplete_kept _ s hk
  | .channelTrainingRetry .. => execChannelTrainingRetry_kept _ _ s hk
  | .rebuildStripe .. => execRebuildStripe_kept _ s hk
  | .relocationFill .. => execRelocationFill_kept _ _ s hk
  | .relocationCopyBack .. => execRelocationCopyBack_kept _ s hk
  | .flashReadComplete .. => execFlashReadComplete_kept _ _ _ _ _ s hk
  | .flashProgramComplete .. => execFlashProgramComplete_kept _ _ s hk
  | .mirrorRelocated .. => execMirrorRelocated_kept _ s hk
  | .flashEraseComplete .. => execFlashEraseComplete_kept _ _ _ _ s hk
  | .eraseResume .. => execEraseResume_kept _ _ s hk
  | .flashBusyTimeout .. => execFlashBusyTimeout_kept _ _ _ s hk
  | .restripeCopy .. => execRestripeCopy_kept _ _ s hk
  | .flashChannelTraining .. => execFlashChannelTraining_kept _ _ _ s hk
  | .flashTrainingRetry .. => execFlashTrainingRetry_kept _ _ s hk
  | .rowCloseTimeout .. => execRowCloseTimeout_kept _ _ s hk
  | .checkpointSeal .. => execCheckpointSeal_kept s hk
  | .sealComplete .. => execSealComplete_kept _ _ s hk
  | .compaction .. => execCompaction_kept _ _ s hk
  | .wearLevelMove .. => execWearLevelMove_kept s hk
  | .retentionScrub .. => execRetentionScrub_kept _ s hk
  | .retentionDue .. => execRetentionDue_kept s hk
  | .nandBrownout .. => execNandBrownout_kept s hk
  | .nandRailRecovery .. => execNandRailRecovery_kept s hk
  | .engineProgramRefused .. => execEngineProgramRefused_kept _ _ _ _ s hk
  | .pfNFall .. => execPfNFall_kept s hk
  | .vinSenseDrop .. => execVinSenseDrop_kept s hk
  | .vinSenseHoldUp .. => execVinSenseHoldUp_kept s hk
  | .saveAndOff .. => execSaveAndOff_kept _ s hk
  | .saveIsolate .. => execSaveIsolate_kept s hk
  | .saveRegulationConfirmed .. => execSaveRegulationConfirmed_kept s hk
  | .chargeMarkCheck .. => execChargeMarkCheck_kept _ s hk
  | .saveStoreFailure .. => execSaveStoreFailure_kept s hk
  | .saveVoltageGuard .. => execSaveVoltageGuard_kept s hk
  | .saveFlushEnd .. => execSaveFlushEnd_kept s hk
  | .saveManifestComplete .. => execSaveManifestComplete_kept s hk
  | .saveRetireComplete .. => execSaveRetireComplete_kept _ s hk
  | .retainedReturnComplete .. => execRetainedReturnComplete_kept _ s hk
  | .generationSelect .. => execGenerationSelect_kept s hk
  | .manifestLoadComplete .. => execManifestLoadComplete_kept _ s hk
  | .backgroundRestoreGranule .. => execBackgroundRestoreGranule_kept s hk
  | .restoreGranuleComplete .. => execRestoreGranuleComplete_kept _ _ s hk
  | .restoreSlow .. => execRestoreSlow_kept s hk
  | .retainedPathCheck .. => execRetainedPathCheck_kept _ _ s hk
  | .packSample .. => execPackSample_kept _ _ s hk
  | .packTempSample .. => execPackTempSample_kept _ _ s hk
  | .packInserted .. => execPackInserted_kept s hk
  | .packRemoved .. => execPackRemoved_kept s hk
  | .packQualified .. => execPackQualified_kept s hk
  | .impedanceMeasure .. => execImpedanceMeasure_kept _ s hk
  | .zeroCurrentCheck .. => execZeroCurrentCheck_kept _ s hk
  | .packIdRead .. => execPackIdRead_kept _ _ s hk
  | .idRead .. => execIdRead_kept _ _ s hk
  | .bankSample .. => execBankSample_kept _ s hk
  | .capTest .. => execCapTest_kept s hk
  | .capTestComplete .. => execCapTestComplete_kept _ _ s hk
  | .chargerStatusPoll .. => execChargerStatusPoll_kept _ s hk
  | .chargeHeld .. => execChargeHeld_kept s hk
  | .restReference .. => execRestReference_kept _ s hk
  | .startupReading .. => execStartupReading_kept _ s hk
  | .restDue .. => execRestDue_kept s hk
  | .restRequest .. => execRestRequest_kept s hk
  | .grantRest .. => execGrantRest_kept _ s hk
  | .restWindowTimeout .. => execRestWindowTimeout_kept s hk
  | .esbGet .. => execEsbGet_kept _ s hk
  | .esbRestore .. => execEsbRestore_kept _ _ s hk
  | .esbChanged .. => execEsbChanged_kept s hk
  | .estimatorHibernate .. => execEstimatorHibernate_kept s hk
  | .estimatorWake .. => execEstimatorWake_kept s hk
  | .shipMode .. => execShipMode_kept _ s hk
  | .shipFailed .. => execShipFailed_kept s hk
  | .auxInputRemoved .. => execAuxInputRemoved_kept s hk
  | .localBusCycle .. => execLocalBusCycle_kept _ _ _ _ _ s hk
  | .sensorReadmit .. => execSensorReadmit_kept _ s hk
  | .sensorRereadComplete .. => execSensorRereadComplete_kept _ _ s hk
  | .thermalBandDwell .. => execThermalBandDwell_kept _ _ s hk
  | .reefLevelStep .. => execReefLevelStep_kept s hk
  | .aonBackstopTrip .. => execAonBackstopTrip_kept s hk
  | .aonSite0Sample .. => execAonSite0Sample_kept _ s hk
  | .clearTrip .. => execClearTrip_kept _ s hk
  | .emergencyStandbyExit .. => execEmergencyStandbyExit_kept s hk
  | .aonPowerOnReset .. => execAonPowerOnReset_kept _ _ _ s hk
  | .aonPowerLoss .. => execAonPowerLoss_kept s hk
  | .inputQualified .. => execInputQualified_kept _ s hk
  | .railQualified .. => execRailQualified_kept _ _ s hk
  | .railTimeout .. => execRailTimeout_kept _ s hk
  | .railRetryReenable .. => execRailRetryReenable_kept _ s hk
  | .pgFall .. => execPgFall_kept _ s hk
  | .railFault .. => execRailFault_kept _ s hk
  | .ignoreFaultNotice .. => execIgnoreFaultNotice_kept _ s hk
  | .groupResequence .. => execGroupResequence_kept _ s hk
  | .resetReactionRestart .. => execResetReactionRestart_kept s hk
  | .railDownStep .. => execRailDownStep_kept s hk
  | .clearRailLatch .. => execClearRailLatch_kept _ s hk
  | .mrN .. => execMrN_kept s hk
  | .mrNRelease .. => execMrNRelease_kept _ _ s hk
  | .pbRelease .. => execPbRelease_kept _ s hk
  | .pbForcedMark .. => execPbForcedMark_kept s hk
  | .pbHardOff .. => execPbHardOff_kept s hk
  | .sheetTransferRetry .. => execSheetTransferRetry_kept _ s hk
  | .sheetImageRead .. => execSheetImageRead_kept _ _ s hk
  | .lock .. => execLock_kept _ s hk
  | .startupEndTimeout .. => execStartupEndTimeout_kept s hk
  | .mctpPacket .. => execMctpPacket_kept _ _ _ _ _ _ _ _ _ _ _ s hk
  | .mctpMessageTimeout .. => execMctpMessageTimeout_kept _ s hk
  | .negotiate .. => execNegotiate_kept _ _ _ _ _ s hk
  | .negotiateClose .. => execNegotiateClose_kept _ s hk
  | .persistStatus .. => execPersistStatus_kept _ s hk
  | .logRead .. => execLogRead_kept _ _ _ s hk
  | .lastwordsRead .. => execLastwordsRead_kept _ _ _ s hk
  | .fwChunk .. => execFwChunk_kept _ _ _ _ _ _ _ s hk
  | .fwActivate .. => execFwActivate_kept _ _ _ s hk
  | .fwLockSet .. => execFwLockSet_kept _ s hk
  | .fwLockClear .. => execFwLockClear_kept _ s hk
  | .selftest .. => execSelftest_kept _ _ _ s hk
  | .debugChallenge .. => execDebugChallenge_kept _ s hk
  | .debugResponse .. => execDebugResponse_kept _ _ _ s hk
  | .noticeAck .. => execNoticeAck_kept _ _ _ s hk
  | .noticeDeliver .. => execNoticeDeliver_kept _ s hk
  | .noticeReannounce .. => execNoticeReannounce_kept _ s hk
  | .noticeDisregarded .. => execNoticeDisregarded_kept _ s hk
  | .nringSizeWrite .. => execNringSizeWrite_kept _ _ _ s hk
  | .blockTestComplete .. => execBlockTestComplete_kept _ _ _ _ s hk
  | .dieTestComplete .. => execDieTestComplete_kept _ _ _ s hk
  | .moduleYearEnd .. => execModuleYearEnd_kept s hk
  | .logPageProgram .. => execLogPageProgram_kept _ _ s hk
  | .suppressedSweep .. => execSuppressedSweep_kept s hk
  | .optimeCheckpoint .. => execOptimeCheckpoint_kept s hk
  | .logSel .. => execLogSel_kept _ _ s hk
  | .logFetchComplete .. => execLogFetchComplete_kept _ _ _ s hk
  | .cfProgram .. => execCfProgram_kept _ _ s hk
  | .cfErase .. => execCfErase_kept _ s hk
  | .cfResume .. => execCfResume_kept s hk
  | .cfStatus .. => execCfStatus_kept s hk
  | .cfOperationComplete .. => execCfOperationComplete_kept s hk
  | .cfBrownout .. => execCfBrownout_kept s hk
  | .cfAccessRefused .. => execCfAccessRefused_kept s hk
  | .hello up versions position chainLen part fwVersion => execHello_kept up versions position chainLen part fwVersion s hk
  | .helloTimer .. => execHelloTimer_kept s hk
  | .chunk .. => execChunk_kept _ _ _ _ _ s hk
  | .credit .. => execCredit_kept _ _ s hk
  | .activate .. => execActivate_kept _ s hk
  | .status .. => execStatus_kept _ s hk
  | .halyardPortDown .. => execHalyardPortDown_kept _ s hk
  | .halyardFrameTimeout .. => execHalyardFrameTimeout_kept _ s hk
  | .chainReportTimeout .. => execChainReportTimeout_kept s hk
  | .packageVerifyComplete .. => execPackageVerifyComplete_kept _ _ s hk
  | .bankLoadComplete .. => execBankLoadComplete_kept s hk
  | .engineSwitch .. => execEngineSwitch_kept _ s hk
  | .mastheadHandoverComplete .. => execMastheadHandoverComplete_kept _ s hk
  | .probationEnd .. => execProbationEnd_kept s hk
  | .bootCopyComplete .. => execBootCopyComplete_kept _ s hk
  | .secLevelRaise .. => execSecLevelRaise_kept _ _ s hk
  | .secLevelArm .. => execSecLevelArm_kept _ _ s hk
  | .secLevelLower .. => execSecLevelLower_kept _ _ s hk
  | .loweringDramClearComplete .. => execLoweringDramClearComplete_kept s hk
  | .loweringEraseComplete .. => execLoweringEraseComplete_kept s hk
  | .close .. => execClose_kept _ s hk
  | .debugSessionExpiry .. => execDebugSessionExpiry_kept s hk
  | .tapInstruction .. => execTapInstruction_kept _ s hk
  | .tapReset .. => execTapReset_kept s hk
  | .smbRepeatedStartError .. => execSmbRepeatedStartError_kept s hk
  | .smbTargetTimeout .. => execSmbTargetTimeout_kept s hk
  | .smbNack .. => execSmbNack_kept s hk
  | .smbResend .. => execSmbResend_kept s hk
  | .smbArbitrationLost .. => execSmbArbitrationLost_kept s hk
  | .arbSr .. => execArbSr_kept s hk
  | .smbBusFree .. => execSmbBusFree_kept s hk
  | .smbAlertResponse .. => execSmbAlertResponse_kept _ s hk
  | .lbAlertUnmask .. => execLbAlertUnmask_kept s hk
  | .regulatorPoll .. => execRegulatorPoll_kept _ _ s hk
  | .clockStretchTimeout .. => execClockStretchTimeout_kept _ _ _ s hk
  | .busClearRetry .. => execBusClearRetry_kept _ _ s hk
  | .holdflag .. => execHoldflag_kept _ _ s hk
  | .hfSwitchComplete .. => execHfSwitchComplete_kept s hk
  | .take .. => execTake_kept _ _ s hk
  | .release .. => execRelease_kept _ s hk
  | .snapshotExpiry .. => execSnapshotExpiry_kept _ s hk
  | .flGenLatch .. => execFlGenLatch_kept _ s hk
  | .planInfoLatch .. => execPlanInfoLatch_kept _ s hk
  | .optimeLatch .. => execOptimeLatch_kept _ s hk
  | .esbWindowLatch .. => execEsbWindowLatch_kept _ _ s hk
  | .fifoResync .. => execFifoResync_kept _ _ s hk
  | .unalignedAccess .. => execUnalignedAccess_kept _ _ _ _ s hk
  | .registerWrite .. => execRegisterWrite_kept _ _ _ _ s hk
  | .dieSiteSample .. => execDieSiteSample_kept _ s hk
  | .linkL1OrL0pChange .. => execLinkL1OrL0pChange_kept _ _ s hk
  | .hdmDecoderCommit .. => execHdmDecoderCommit_kept _ _ _ _ _ _ _ _ s hk
  | .labelStorageWrite .. => execLabelStorageWrite_kept _ _ _ s hk
  | .channelPatternTestComplete .. => execChannelPatternTestComplete_kept _ _ s hk
  | .railRecoveryTimeout .. => execRailRecoveryTimeout_kept _ s hk
  | .pbPressStart .. => execPbPressStart_kept s hk

/-- Idling lets a lowering go on and a millisecond pass, and keeps. -/
theorem idleStep_kept {pq : List Instr} (s : State) (hk : Kept pq s) : Kept pq (idleStep s) :=
  tick_kept _ (lowerOn_kept s hk)

/-- Settles O58: the front command keeps the state with the queue's rest, and idling keeps. -/
theorem everyStepKeepsTheStateSound : Obligations.EveryStepKeepsTheStateSound := by
  intro s hs
  cases hq : s.pending with
  | nil =>
    obtain ⟨_, hsound⟩ := idleStep_kept s (kept_of_sound hs)
    exact ⟨idleStep s, by simp only [step, hq], hsound⟩
  | cons c rest =>
    have hrest : Kept rest { s with pending := rest } := ⟨rfl, hs⟩
    obtain ⟨t, ht, _, hsound⟩ := exec_kept c _ hrest
    exact ⟨t, by simp only [step, hq, ht], hsound⟩

/-! ## The state after reset -/

/-- Settles O59. -/
theorem resetStateIsSound : Obligations.ResetStateIsSound :=
  ⟨⟨rfl, rfl, Nat.zero_le _, Nat.zero_le _, fun _ hp => nomatch hp⟩, rfl, rfl, fun _ => rfl, rfl⟩

theorem fn_reset (l : Link) : State.reset.host.fn[l] = resetFn := Vector.getElem_replicate ..

/-- After reset no snapshot is frozen, and no ROM answers in place of the block. -/
theorem hostReg_reset (l : Link) (off : Nat) : hostReg State.reset l off = liveReg State.reset l off := by
  unfold hostReg
  rw [fn_reset]
  rfl

/-- Where the requester table lies in the device block (Table 22-3). -/
theorem liveReg_requester (s : State) (l : Link) {off : Nat} (hlo : 0x4000 ≤ off) (hhi : off < 0x8000) :
    liveReg s l off = requesterEntry (viewTables s l) ((off - 0x4000) / 4) := by
  unfold liveReg liveHigh
  repeat rw [if_neg (by omega)]
  exact if_pos ⟨hlo, hhi⟩

/-- After reset an entry of the requester table reads its default (Table 03-4). -/
theorem hostReg_reset_requester (l : Link) {id : Nat} (h : id < 0x1000) :
    hostReg State.reset l (0x4000 + 4 * id) = requesterEntry State.reset.rt.shadow id := by
  rw [hostReg_reset, liveReg_requester _ _ (by omega) (by omega), show (0x4000 + 4 * id - 0x4000) / 4 = id by omega]
  unfold viewTables
  rw [fn_reset]
  rfl

theorem liveReg_reset_resetColumn : ∀ l : Link, ∀ p ∈ resetColumn, liveReg State.reset l p.1 = p.2 := by decide +kernel

/-- Settles O60: the fixed registers are read one by one, the requester table by its default entries. -/
theorem resetRegistersReadTheirResetColumn : Obligations.ResetRegistersReadTheirResetColumn := by
  refine ⟨fun l p hp => (hostReg_reset l p.1).trans (liveReg_reset_resetColumn l p hp), fun l k => ?_, fun l id hid => ?_⟩
  · rw [hostReg_reset_requester l (by omega)]
    revert k
    decide
  · rw [hostReg_reset_requester l (by omega)]
    have hdefault : ¬ (0xFF0 ≤ id ∧ id ≤ 0xFF7) := by omega
    exact if_neg hdefault

/-! ## Idling -/

/-- A pending notice of class 2, REST_DUE, that no carrier has had. -/
def classTwoNotice : Notice :=
  { seq := 1, code := 0x0607, cls := 2, late := false, merged := false, powerCycle := 0, opTime := 0, repeats := 0, drops := 0, payload := [],
    aliases := [], aonFull := false, deliveredOn := [], onLinks := [], inRings := [], firstAt := none, announcedAt := 0,
    disregarded := false, smbHeld := none }

/-- In RUN, with link 0 offering CXL.io, a notice of class 2 is on its way over the SMBus. -/
def noticeInTransit : State :=
  { State.reset with
    power := { State.reset.power with state := .run }
    host := { State.reset.host with link := State.reset.host.link.set 0 { resetLink with offersIo := true } }
    notices := { nextSeq := 2, pend := [classTwoNotice], dropped := 0 }
    smb := { State.reset.smb with state := .sending, current := some (.notice 0x10 1, 1, 0) } }

/-- The tick in which the SMBus transfer ends delivers the notice, and puts it into the event logs of link 0 (R84, R342). -/
theorem idleStep_noticeInTransit_logs : (idleStep noticeInTransit).host.link[0].logs = [(0, 1)] := by decide +kernel

/-- Refutes O56: in the idle millisecond a notice of class 2 that was being sent over the SMBus counts as delivered, and retires into
the event logs of every link, so the host side does not stand. -/
theorem not_stepRunsTheFrontCommand : ¬ Obligations.StepRunsTheFrontCommand := by
  rintro ⟨_, hidle⟩
  obtain ⟨t, hstep, _, _, _, hhost, _⟩ := hidle noticeInTransit rfl rfl
  cases hstep
  have hlogs := idleStep_noticeInTransit_logs
  rw [hhost] at hlogs
  exact absurd hlogs (by decide)

end Sys2Proof.Machine
end

section
/-! SUPPORT. What operations that several commands share leave alone, and facts on the model's lists and maps. -/

namespace Sys2Proof.Machine

open Sys2Proof

/-! ## Lists and maps -/

theorem mem_insertNat {l : List Nat} {x y : Nat} : x ∈ insertNat l y ↔ x = y ∨ x ∈ l := by
  induction l with
  | nil => simp [insertNat]
  | cons z t ih =>
    unfold insertNat
    split
    · exact List.mem_cons
    · split
      · subst y
        simp
      · rw [List.mem_cons, ih, List.mem_cons]
        tauto

theorem kvGet_kvSet_same {α : Type} (m : List (Nat × α)) (x : Nat) (v : α) : kvGet (kvSet m x v) x = some v := by
  induction m with
  | nil => simp [kvSet, kvGet]
  | cons p t ih =>
    obtain ⟨k, w⟩ := p
    unfold kvSet
    split
    · simp [kvGet]
    · split
      · simp [kvGet]
      · rename_i hlt hne
        rw [kvGet, if_neg hne]
        exact ih

theorem kvGet_kvSet_ne {α : Type} (m : List (Nat × α)) {x y : Nat} (v : α) (h : y ≠ x) : kvGet (kvSet m x v) y = kvGet m y := by
  induction m with
  | nil => simp [kvSet, kvGet, h]
  | cons p t ih =>
    obtain ⟨k, w⟩ := p
    unfold kvSet
    split
    · rw [kvGet, if_neg h]
    · split
      · subst k
        simp [kvGet, h]
      · simp [kvGet, ih]

/-- A list that is changed at one place holds there what it was given. -/
@[simp] theorem getElem_vecMod_same {α : Type} {n : Nat} (v : Vector α n) (i : Fin n) (f : α → α) : (vecMod v i f)[i] = f v[i] := by
  simp [vecMod]

theorem getElem_vecMod_ne {α : Type} {n : Nat} (v : Vector α n) {i j : Fin n} (f : α → α) (h : j ≠ i) : (vecMod v i f)[j] = v[j] := by
  have hne : i.val ≠ j.val := fun e => h (Fin.ext e.symm)
  simp [vecMod, hne]

/-- Cells that lie elsewhere leave a byte as it is. -/
theorem readByte_writeCells_outside (cs : List Host.Cell) {m : List Host.Cell} {base a : Nat} (hc : ∀ c ∈ cs, base + c.1 ≠ a)
    (h : Memory.wf m = true) : readByte (writeCells m base cs) a = readByte m a := by
  unfold writeCells
  induction cs generalizing m with
  | nil => rfl
  | cons c t ih =>
    rw [List.foldl_cons, ih (fun d hd => hc d (List.mem_cons_of_mem _ hd)) (memory_wf_writeByte _ _ h)]
    exact readByte_writeByte_ne c.2 (Ne.symm (hc c List.mem_cons_self)) h

/-- Taking other cells out leaves a byte as it is. -/
theorem readByte_filter {m : List Host.Cell} {p : Host.Cell → Bool} {a : Nat} (hp : ∀ c ∈ m, c.1 = a → p c = true)
    (h : Memory.wf m = true) : readByte (m.filter p) a = readByte m a := by
  have hs := ((memory_wf_iff m).1 h).1
  clear h
  induction m with
  | nil => rfl
  | cons c t ih =>
    obtain ⟨k, b⟩ := c
    have ht := ih (fun d hd => hp d (List.mem_cons_of_mem _ hd)) (List.pairwise_cons.1 hs).2
    by_cases hk : a = k
    · rw [List.filter_cons_of_pos (hp (k, b) List.mem_cons_self hk.symm)]
      simp [readByte, hk]
    · by_cases hpk : p (k, b) = true
      · rw [List.filter_cons_of_pos hpk]
        simp [readByte, ht]
      · rw [List.filter_cons_of_neg hpk, ht]
        simp only [readByte, hk, if_false]
        split
        · exact readByte_below fun d hd => Nat.lt_trans ‹a < k› ((List.pairwise_cons.1 hs).1 d hd)
        · rfl

/-! ## The evaluation of PSUB (R56) -/

@[simp] theorem evalPsub_host (s : State) : (evalPsub s).host = s.host := (congrArg State.host (evalPsub_frame s) :)
@[simp] theorem evalPsub_startup (s : State) : (evalPsub s).startup = s.startup := (congrArg State.startup (evalPsub_frame s) :)
@[simp] theorem evalPsub_shroud (s : State) : (evalPsub s).shroud = s.shroud := (congrArg State.shroud (evalPsub_frame s) :)
@[simp] theorem evalPsub_restore (s : State) : (evalPsub s).restore = s.restore := (congrArg State.restore (evalPsub_frame s) :)
@[simp] theorem evalPsub_flash (s : State) : (evalPsub s).flash = s.flash := (congrArg State.flash (evalPsub_frame s) :)
@[simp] theorem evalPsub_power (s : State) : (evalPsub s).power = s.power := (congrArg State.power (evalPsub_frame s) :)
@[simp] theorem evalPsub_out (s : State) : (evalPsub s).out = s.out := (congrArg State.out (evalPsub_frame s) :)
@[simp] theorem evalPsub_faults (s : State) : (evalPsub s).faults = s.faults := (congrArg State.faults (evalPsub_frame s) :)
@[simp] theorem evalPsub_pack (s : State) : (evalPsub s).pack = s.pack := (congrArg State.pack (evalPsub_frame s) :)
@[simp] theorem evalPsub_bank (s : State) : (evalPsub s).bank = s.bank := (congrArg State.bank (evalPsub_frame s) :)
@[simp] theorem evalPsub_save (s : State) : (evalPsub s).save = s.save := (congrArg State.save (evalPsub_frame s) :)
@[simp] theorem evalPsub_clock (s : State) : (evalPsub s).clock = s.clock := (congrArg State.clock (evalPsub_frame s) :)

/-! ## Tests (R345) -/

@[simp] theorem queueTest_host (s : State) (p : Part) (cmd : Option Word) : (queueTest s p cmd).host = s.host :=
  (congrArg State.host (queueTest_frame s p cmd) :)
@[simp] theorem queueTest_dram (s : State) (p : Part) (cmd : Option Word) : (queueTest s p cmd).dram = s.dram :=
  (congrArg State.dram (queueTest_frame s p cmd) :)
@[simp] theorem queueTest_startup (s : State) (p : Part) (cmd : Option Word) : (queueTest s p cmd).startup = s.startup :=
  (congrArg State.startup (queueTest_frame s p cmd) :)
@[simp] theorem queueTest_persist (s : State) (p : Part) (cmd : Option Word) : (queueTest s p cmd).persist = s.persist :=
  (congrArg State.persist (queueTest_frame s p cmd) :)
@[simp] theorem queueTest_power (s : State) (p : Part) (cmd : Option Word) : (queueTest s p cmd).power = s.power :=
  (congrArg State.power (queueTest_frame s p cmd) :)
@[simp] theorem queueTest_out (s : State) (p : Part) (cmd : Option Word) : (queueTest s p cmd).out = s.out :=
  (congrArg State.out (queueTest_frame s p cmd) :)
@[simp] theorem queueTest_restore (s : State) (p : Part) (cmd : Option Word) : (queueTest s p cmd).restore = s.restore :=
  (congrArg State.restore (queueTest_frame s p cmd) :)

/-- A test that is queued withholds block sets and closes bands; pages, manifest and generations stand. -/
theorem prepareTest_pages (s : State) (p : Part) :
    (prepareTest s p).flash.pages = s.flash.pages ∧ (prepareTest s p).flash.manifest = s.flash.manifest := by
  unfold prepareTest
  split
  · split
    · unfold moveTested
      split <;> exact ⟨rfl, rfl⟩
    · exact ⟨rfl, rfl⟩
  · exact ⟨rfl, rfl⟩

theorem queueTest_pages (s : State) (p : Part) (cmd : Option Word) :
    (queueTest s p cmd).flash.pages = s.flash.pages ∧ (queueTest s p cmd).flash.manifest = s.flash.manifest := by
  unfold queueTest
  split
  · exact ⟨rfl, rfl⟩
  · split
    · exact ⟨rfl, rfl⟩
    · split
      · rw [logEvent_frame]
        exact ⟨rfl, rfl⟩
      · exact prepareTest_pages s p

/-! ## Flash -/

theorem foldl_frame {α β : Type} {f : State → α → State} {get : State → β} {put : State → β → State}
    (hf : ∀ s x, ∃ b, f s x = put s b) (hid : ∀ s, put s (get s) = s) 
    (hput : ∀ s b c, put (put s b) c = put s c) (l : List α) (s : State) :
    ∃ b, l.foldl f s = put s b := by
  induction l generalizing s with
  | nil => exact ⟨get s, (hid s).symm⟩
  | cons x t ih =>
    obtain ⟨b, hb⟩ := hf s x
    obtain ⟨c, hc⟩ := ih (f s x)
    exact ⟨c, by rw [List.foldl_cons, hc, hb, hput]⟩

/-- The state with other page groups. -/
def withPages (s : State) (ps : List PageGroup) : State := { s with flash := { s.flash with pages := ps } }

/-- Issuing programs changes the page groups alone. -/
theorem issueWaiting_cases (s : State) : ∃ ps, issueWaiting s = withPages s ps := by
  unfold issueWaiting
  split
  · exact ⟨s.flash.pages, rfl⟩
  · refine foldl_frame (get := fun s => s.flash.pages) (put := withPages) (fun s p => ?_) (fun _ => rfl) (fun _ _ _ => rfl) _ s
    split
    · exact ⟨_, rfl⟩
    · exact ⟨s.flash.pages, rfl⟩

/-- What a page read leaves behind: other channel and block set records, queued tests, log records; pages and manifest stand (R158, R161,
R174). -/
structure ReadStands (s t : State) : Prop where
  eq : t = { s with flash := t.flash, faults := t.faults, recorder := t.recorder }
  pages : t.flash.pages = s.flash.pages
  manifest : t.flash.manifest = s.flash.manifest

namespace ReadStands

theorem refl (s : State) : ReadStands s s := ⟨rfl, rfl, rfl⟩

theorem trans {s t u : State} (h : ReadStands s t) (k : ReadStands t u) : ReadStands s u := by
  refine ⟨?_, k.pages.trans h.pages, k.manifest.trans h.manifest⟩
  rw [k.eq, h.eq]

theorem ite {s a b : State} {p : Prop} [Decidable p] (ha : ReadStands s a) (hb : ReadStands s b) : ReadStands s (if p then a else b) := by
  split <;> assumption

theorem queueTest {s t : State} (h : ReadStands s t) (p : Part) (cmd : Option Word) : ReadStands s (queueTest t p cmd) :=
  h.trans ⟨queueTest_frame t p cmd, (queueTest_pages t p cmd).1, (queueTest_pages t p cmd).2⟩

theorem setBlock (s : State) (ch : FlashCh) (die : Fin 16) (idx : Nat) (f : BlockSet → BlockSet) :
    ReadStands s (setBlock s ch die idx f) := ⟨rfl, rfl, rfl⟩

/-- Another list of channel records. -/
theorem channels {s t : State} (h : ReadStands s t) (v : Vector FlashChan 32) :
    ReadStands s { t with flash := { t.flash with ch := v } } := h.trans ⟨rfl, rfl, rfl⟩

end ReadStands

theorem noteDecode_stands (s : State) (ch : FlashCh) (die : Fin 16) (idx : Nat) (o : DecodeOutcome) :
    ReadStands s (noteDecode s ch die idx o) := by
  cases o with
  | entry n many =>
    unfold noteDecode
    dsimp only
    have hretry : ∀ {p : Prop} [Decidable p] (f : BlockSet → BlockSet) (v : Vector FlashChan 32),
        ReadStands s (if p then { setBlock s ch die idx f with flash := { (setBlock s ch die idx f).flash with ch := v } }
          else setBlock s ch die idx f) := fun f v => .ite ((ReadStands.setBlock s ch die idx f).channels v) (.setBlock s ch die idx f)
    exact .ite ((hretry _ _).queueTest _ _) (hretry _ _)
  | byRain => exact ((ReadStands.setBlock _ _ _ _ _).channels _).queueTest _ _
  | failed => exact ((ReadStands.refl s).channels _).queueTest _ _
  | headerMismatch =>
    have hframe := logEvent_frame s 0x0082 2 []
    exact ⟨by rw [noteDecode, hframe], congrArg Flash.pages (logEvent_flash s _ _ _), congrArg Flash.manifest (logEvent_flash s _ _ _)⟩

theorem noteRead_stands (s : State) (ch : FlashCh) (die : Fin 16) (idx : Nat) (demand : Bool) (o : DecodeOutcome) :
    ReadStands s (noteRead s ch die idx demand o) := by
  unfold noteRead
  split
  · exact ReadStands.trans ((ReadStands.refl s).channels _) (noteDecode_stands _ ch die idx o)
  · exact noteDecode_stands s ch die idx o

theorem noteCopyRead_stands (s : State) (g : Nat) (demand : Bool) (o : DecodeOutcome) : ReadStands s (noteCopyRead s g demand o) := by
  unfold noteCopyRead
  split
  · dsimp only
    split
    · exact noteRead_stands _ _ _ _ _ _
    · exact .refl s
  · exact .refl s

end Sys2Proof.Machine
end

section
/-! SUPPORT. Targeted tests (R345, R351): which parts wait for a test, and what the end of one leaves alone. -/

namespace Sys2Proof.Machine

open Sys2Proof

/-- The parts whose test is queued or runs. -/
def testedParts (s : State) : List Part := s.faults.tests.map (·.part)

theorem tested_iff {s : State} {p : Part} : tested s p = true ↔ p ∈ testedParts s := by
  simp [tested, testedParts]

theorem tested_eq_false_iff {s : State} {p : Part} : tested s p = false ↔ p ∉ testedParts s := by
  rw [← tested_iff, Bool.not_eq_true]

/-- Starting a test moves none. -/
theorem testedParts_startTests (s : State) : testedParts (startTests s) = testedParts s := by
  have hfold (l ts : List Test) : (l.foldl (fun ts t =>
      if !t.running && mayRun s t.part ts then ts.map fun x => if x.part = t.part then { x with running := true } else x
      else ts) ts).map (·.part) = ts.map (·.part) := by
    induction l generalizing ts with
    | nil => rfl
    | cons t l ih =>
      rw [List.foldl_cons, ih]
      split
      · rw [List.map_map]
        refine List.map_congr_left fun x _ => ?_
        by_cases h : x.part = t.part <;> simp [h]
      · rfl
  exact hfold _ _

theorem prepareTest_faults (s : State) (p : Part) : (prepareTest s p).faults = s.faults :=
  (congrArg State.faults (prepareTest_frame s p) :)

/-- A part whose test is asked for waits for it, unless its queue is full or its channel takes no tests (R345, R351). -/
theorem tested_queueTest {s : State} {p : Part} (cmd : Option Word)
    (h : tested s p = true ∨ testless s p = false ∧ queueFull p s.faults.tests = false) : tested (queueTest s p cmd) p = true := by
  unfold queueTest
  rw [show (s.faults.tests.any fun t => t.part == p) = tested s p from rfl]
  by_cases ht : tested s p = true
  · rw [if_pos ht, tested_iff]
    obtain ⟨t, hm, hp⟩ := List.mem_map.1 (tested_iff.1 ht)
    refine List.mem_map.2 ⟨_, List.mem_map_of_mem hm, ?_⟩
    rw [if_pos hp, hp]
  · obtain ⟨hless, hfull⟩ := h.resolve_left ht
    rw [if_neg ht, hless, hfull, if_neg Bool.false_ne_true, if_neg Bool.false_ne_true, tested_iff, testedParts_startTests]
    simp [testedParts]

/-- The end of a test changes the queues and sends notices. -/
theorem endTest_frame (s : State) (t : Test) (pass : Bool) : endTest s t pass = { withNotes s (endTest s t pass) with
    faults := { s.faults with tests := (endTest s t pass).faults.tests } } := by
  unfold endTest
  dsimp only
  cases t.commanded with
  | none =>
    dsimp only
    rw [logEvent_frame]
    rfl
  | some id =>
    dsimp only
    rw [raise_frame, logEvent_frame]
    rfl

theorem testedParts_endTest (s : State) (t : Test) (pass : Bool) :
    testedParts (endTest s t pass) = (testedParts s).filter fun p => p != t.part := by
  have hfilter : (s.faults.tests.filter fun x => x.part != t.part).map (·.part) = (testedParts s).filter fun p => p != t.part :=
    (List.filter_map (f := Test.part) (p := fun p => p != t.part)).symm
  unfold endTest
  dsimp only
  rw [testedParts_startTests, ← hfilter]
  unfold testedParts
  cases t.commanded with
  | none => rw [logEvent_faults]; rfl
  | some id => rw [raise_faults, logEvent_faults]; rfl

/-- A test that has ended waits no more. -/
theorem tested_endTest (s : State) (t : Test) (pass : Bool) : tested (endTest s t pass) t.part = false := by
  rw [tested_eq_false_iff, testedParts_endTest]
  simp

/-- The running test of a part is a test of the part. -/
theorem runningTest_part {s : State} {p : Part} {t : Test} (h : runningTest s p = some t) : t.part = p := by
  have h := List.find?_some h
  simp only [Bool.and_eq_true, beq_iff_eq] at h
  exact h.1

@[simp] theorem endTest_host (s : State) (t : Test) (pass : Bool) : (endTest s t pass).host = s.host :=
  (congrArg State.host (endTest_frame s t pass) :)
@[simp] theorem endTest_dram (s : State) (t : Test) (pass : Bool) : (endTest s t pass).dram = s.dram :=
  (congrArg State.dram (endTest_frame s t pass) :)
@[simp] theorem endTest_flash (s : State) (t : Test) (pass : Bool) : (endTest s t pass).flash = s.flash :=
  (congrArg State.flash (endTest_frame s t pass) :)
@[simp] theorem endTest_startup (s : State) (t : Test) (pass : Bool) : (endTest s t pass).startup = s.startup :=
  (congrArg State.startup (endTest_frame s t pass) :)

/-- The end of a test keeps every other account of the faults. -/
theorem endTest_faults (s : State) (t : Test) (pass : Bool) :
    (endTest s t pass).faults = { s.faults with tests := (endTest s t pass).faults.tests } :=
  (congrArg State.faults (endTest_frame s t pass) :)

end Sys2Proof.Machine
end

section
/-! Passes over the stripes (O16): a rebuild and a copy back pass one stripe, and the last one brings the channel back. -/

namespace Sys2Proof.Machine

open Sys2Proof

/-! ## One stripe (R131, R134, R138) -/

/-- A stripe that a pass works on with no error found: its accesses are counted, its lock released, and its parity line may be written;
memory and the rest stand. -/
structure StripeStands (s t : State) : Prop where
  mem : t.dram.mem = s.dram.mem
  ch : t.dram.ch = s.dram.ch
  host : t.host = s.host
  persist : t.persist = s.persist
  restore : t.restore = s.restore
  startup : t.startup = s.startup
  fw : t.fw = s.fw
  watermark : t.shroud.watermark = s.shroud.watermark
  pass : t.shroud.pass = s.shroud.pass
  channel : t.shroud.channel = s.shroud.channel

theorem StripeStands.refl (s : State) : StripeStands s s := ⟨rfl, rfl, rfl, rfl, rfl, rfl, rfl, rfl, rfl, rfl⟩

theorem StripeStands.allStripes {s t : State} (h : StripeStands s t) : allStripes t = allStripes s := by
  simp only [Machine.allStripes, h.startup]

theorem StripeStands.regionStripes {s t : State} (h : StripeStands s t) : regionStripes t = regionStripes s := by
  simp only [Machine.regionStripes, granuleStripes, linesPerGranule, h.startup]

theorem rewriteStripe_nil (s : State) (ch : DramCh) (st : Nat) : StripeStands s (rewriteStripe s ch st []) ∧
    (rewriteStripe s ch st []).dram.parity = writeLine s.dram.parity st (stripeXor s.dram.mem st) := by
  unfold rewriteStripe
  simp only [List.foldl_nil, touch, setParity]
  exact ⟨by constructor <;> rfl, trivial⟩

theorem copyStripeBack_nil (s : State) (ch : DramCh) (st : Nat) : StripeStands s (copyStripeBack s ch st []) := by
  unfold copyStripeBack
  split
  · exact .refl s
  · constructor <;> rfl

/-- With no error found a pass leaves memory and the host side alone. -/
theorem passStripe_nil (s : State) (k : PassKind) (ch : DramCh) (st : Nat) : StripeStands s (passStripe s k ch st []) := by
  unfold passStripe
  split
  · exact .refl s
  · split
    · exact copyStripeBack_nil s ch st
    · exact (rewriteStripe_nil s ch st).1

/-- A rebuild passes over a stripe whose granule is not in DRAM. -/
theorem passStripe_absent {s : State} {st : Nat} (k : PassKind) (ch : DramCh) (errs : List (Nat × EccOutcome))
    (h : stripePresent s st = false) : passStripe s k ch st errs = s := by
  simp [passStripe, h]

/-- A rebuild writes a stripe that is in DRAM whole. -/
theorem passStripe_rebuild {s : State} {st : Nat} (ch : DramCh) (errs : List (Nat × EccOutcome)) (h : stripePresent s st = true) :
    passStripe s .rebuild ch st errs = rewriteStripe s ch st errs := by
  simp [passStripe, h]

/-- The stripe locked, with the reads of its lines counted. -/
def stripeRead (s : State) (ch : DramCh) (st : Nat) : State :=
  touch { s with shroud := { s.shroud with locked := some st } } st false ((fins 17).filter fun i => i != ch)

/-- A stripe is rewritten after its reads, and unlocked. -/
def stripeWritten (s : State) (st : Nat) : State :=
  let t := touch (setParity s st (stripeXor s.dram.mem st)) st true (fins 17)
  { t with shroud := { t.shroud with locked := none } }

/-- A read of a rebuild that cannot be corrected meets an uncorrectable error of the missing line (R129). -/
theorem rewriteStripe_unreconstructable (s : State) (ch : DramCh) (l : Nat) (k : DramCh) (row : RowId) (col : Nat) :
    rewriteStripe s ch (stripeOf l) [(l, .unreconstructable k row col)] =
      stripeWritten (uncorrectable (stripeRead s ch (stripeOf l)) ((lineOn ch (stripeOf l)).getD l) k row col) (stripeOf l) := by
  unfold rewriteStripe
  simp only [List.foldl_cons, List.foldl_nil, if_true]
  rfl

theorem stripeWritten_servesHost (s : State) (st : Nat) : (stripeWritten s st).host = s.host ∧ (stripeWritten s st).startup = s.startup ∧
    (stripeWritten s st).fw = s.fw ∧ (stripeWritten s st).dram.mem = s.dram.mem ∧
    (stripeWritten s st).shroud = { s.shroud with locked := none } := by
  unfold stripeWritten
  simp only [touch, setParity]
  exact ⟨trivial, trivial, trivial, trivial, trivial⟩

theorem poisonLine_startup (s : State) (line : Nat) : (poisonLine s line).startup = s.startup := by
  unfold poisonLine
  simp only [raise_startup, addPoison_startup]
  split <;> rfl

theorem poisonLine_fw (s : State) (line : Nat) : (poisonLine s line).fw = s.fw := by
  unfold poisonLine
  simp only [raise_fw, addPoison_fw]
  split <;> rfl

theorem poisonLine_shroud (s : State) (line : Nat) : (poisonLine s line).shroud = { s.shroud with unrecov := (poisonLine s line).shroud.unrecov } := by
  unfold poisonLine
  simp only [raise_shroud, addPoison_shroud]
  split <;> rfl

theorem uncorrectable_fw (s : State) (line : Nat) (ch : DramCh) (row : RowId) (col : Nat) :
    (uncorrectable s line ch row col).fw = s.fw := by
  unfold uncorrectable
  rw [queueTest_frame, logDram_frame]
  exact poisonLine_fw s line

/-- What a stripe of a rebuild leaves where a read of it cannot be corrected. -/
theorem rewriteStripe_poisons {s t : State} {ch : DramCh} {l : Nat} {k : DramCh} {row : RowId} {col : Nat}
    (ht : rewriteStripe s ch (stripeOf l) [(l, .unreconstructable k row col)] = t) :
    poisoned t ((lineOn ch (stripeOf l)).getD l) = true ∧ t.dram.mem = s.dram.mem ∧ t.host.buf = s.host.buf ∧ t.startup = s.startup ∧
      t.fw = s.fw ∧ t.shroud.watermark = s.shroud.watermark := by
  rw [rewriteStripe_unreconstructable] at ht
  subst ht
  generalize (lineOn ch (stripeOf l)).getD l = line
  have hs := uncorrectable_servesSame (stripeRead s ch (stripeOf l)) line k row col
  have hfw := uncorrectable_fw (stripeRead s ch (stripeOf l)) line k row col
  have hp := hs.poisoned line
  obtain ⟨hhost, -, hmem, hstartup, hshroud⟩ := hs
  generalize uncorrectable (stripeRead s ch (stripeOf l)) line k row col = u at *
  obtain ⟨whost, wstartup, wfw, wmem, wshroud⟩ := stripeWritten_servesHost u (stripeOf l)
  refine ⟨?_, ?_, ?_, ?_, wfw.trans hfw, ?_⟩
  · rw [← poisoned_poisonLine (stripeRead s ch (stripeOf l)) line, ← hp]
    simp only [poisoned, lineGranule, linesPerGranule, whost, wstartup]
  · rw [wmem, hmem, poisonLine_dram]
    rfl
  · rw [whost, hhost, poisonLine_buf]
    rfl
  · rw [wstartup, hstartup, poisonLine_startup]
    rfl
  · rw [wshroud, hshroud, poisonLine_shroud]
    rfl

/-! ## The watermark (R131, R138) -/

/-- The watermark passes a stripe. -/
def watermarkPast (s : State) : State :=
  { s with shroud := { s.shroud with
      watermark := s.shroud.watermark + 1, left := ceilDiv (allStripes s - (s.shroud.watermark + 1)) (regionStripes s) } }

theorem advancePass_eq {s : State} {k : PassKind} {ch : DramCh} (errs : List (Nat × EccOutcome)) (hk : k = .rebuild ∨ k = .copyBack)
    (hp : s.shroud.pass = some k) (hc : s.shroud.channel = some ch) :
    advancePass s errs =
      let u := passStripe s k ch s.shroud.watermark errs
      if allStripes u ≤ u.shroud.watermark + 1 then endPass (watermarkPast u) else watermarkPast u := by
  unfold advancePass
  rw [hp, hc]
  rcases hk with rfl | rfl <;> rfl

/-- Before the last stripe the watermark passes the stripe and the pass goes on. -/
theorem advancePass_before_last {s : State} {k : PassKind} {ch : DramCh} {errs : List (Nat × EccOutcome)}
    (hk : k = .rebuild ∨ k = .copyBack) (hp : s.shroud.pass = some k) (hc : s.shroud.channel = some ch)
    (hlast : s.shroud.watermark + 1 < allStripes s) (hw : (passStripe s k ch s.shroud.watermark errs).shroud.watermark = s.shroud.watermark)
    (hst : (passStripe s k ch s.shroud.watermark errs).startup = s.startup) :
    advancePass s errs = watermarkPast (passStripe s k ch s.shroud.watermark errs) := by
  rw [advancePass_eq errs hk hp hc]
  have hall : allStripes (passStripe s k ch s.shroud.watermark errs) = allStripes s := by simp only [allStripes, hst]
  dsimp only
  rw [hall, hw, if_neg (by omega)]

/-- With the last stripe the pass ends. -/
theorem advancePass_last {s : State} {k : PassKind} {ch : DramCh} (hk : k = .rebuild ∨ k = .copyBack)
    (hp : s.shroud.pass = some k) (hc : s.shroud.channel = some ch) (hlast : allStripes s ≤ s.shroud.watermark + 1) :
    advancePass s [] = endPass (watermarkPast (passStripe s k ch s.shroud.watermark [])) := by
  have hs := passStripe_nil s k ch s.shroud.watermark
  rw [advancePass_eq [] hk hp hc]
  dsimp only
  rw [hs.allStripes, hs.watermark, if_pos hlast]

/-! ## The end of a pass (R117, R137, R138) -/

/-- The channel of a pass that has ended is in service; with Shroud off the parity slots are free and the mode is off. -/
def channelBack (s : State) (ch : DramCh) : State :=
  let u := setChan { s with shroud := { s.shroud with pass := none, watermark := 0, left := 0 } } ch
    fun d => { d with run := .inService, resetN := true }
  if shroudOn u then setShroudMode u else { u with shroud := { u.shroud with mode := .off, channel := none, filled := [] } }

theorem endPass_eq {s : State} {k : PassKind} {ch : DramCh} (hk : k = .rebuild ∨ k = .copyBack) (hp : s.shroud.pass = some k)
    (hc : s.shroud.channel = some ch) (hr : s.restore.running = false) : endPass s = evalPsub (channelBack s ch) := by
  unfold endPass channelBack
  rcases hk with rfl | rfl <;> simp only [hp, hc, hr, Bool.false_eq_true, if_false]

theorem channelBack_stands (s : State) (ch : DramCh) : (channelBack s ch).host = s.host ∧ (channelBack s ch).dram.mem = s.dram.mem ∧
    (channelBack s ch).dram.ch[ch].run = .inService ∧ (channelBack s ch).shroud.pass = none ∧ (channelBack s ch).shroud.watermark = 0 := by
  have hrun (v : Vector DramChan 17) : (vecMod v ch fun d => { d with run := .inService, resetN := true })[ch].run = .inService := by
    simp [vecMod]
  unfold channelBack
  dsimp only
  split
  · unfold setShroudMode
    split <;> exact ⟨rfl, rfl, hrun _, rfl, rfl⟩
  · exact ⟨rfl, rfl, hrun _, rfl, rfl⟩

theorem channelBack_unshrouded {s : State} (ch : DramCh) (h : shroudOn s = false) :
    (channelBack s ch).shroud.mode = .off ∧ (channelBack s ch).shroud.channel = none := by
  unfold channelBack
  dsimp only
  rw [if_neg]
  · exact ⟨rfl, rfl⟩
  · exact ne_true_of_eq_false (b := shroudOn s) h

/-- A pass that ends with no restore running brings its channel into service. -/
theorem endPass_stands {s : State} {k : PassKind} {ch : DramCh} (hk : k = .rebuild ∨ k = .copyBack) (hp : s.shroud.pass = some k)
    (hc : s.shroud.channel = some ch) (hr : s.restore.running = false) :
    (endPass s).dram.ch[ch].run = .inService ∧ (endPass s).shroud.pass = none ∧ (endPass s).shroud.watermark = 0 ∧
      (shroudOn s = false → (endPass s).shroud.mode = .off ∧ (endPass s).shroud.channel = none) ∧
      (endPass s).dram.mem = s.dram.mem ∧ (endPass s).host = s.host ∧ (endPass s).fw = s.fw := by
  obtain ⟨hhost, hmem, hrun, hpass, hmark⟩ := channelBack_stands s ch
  have hfw : (channelBack s ch).fw = s.fw := by
    unfold channelBack
    dsimp only
    split
    · unfold setShroudMode
      split <;> rfl
    · rfl
  rw [endPass_eq hk hp hc hr, evalPsub_frame]
  exact ⟨hrun, hpass, hmark, channelBack_unshrouded ch, hmem, hhost, hfw⟩

/-! ## The commands -/

/-- No activation waits for MODE to leave RETRAIN. -/
theorem retryActivation_of_none {s : State} (h : s.fw.waitRetrain = false) : retryActivation s = s := by
  simp [retryActivation, h]

theorem exec_rebuildStripe {s : State} (errs : List (Nat × EccOutcome)) (hr : passesRun s = true) (hp : s.shroud.pass = some .rebuild) :
    exec (.rebuildStripe errs) s = .next (retryActivation (advancePass s errs)) := by
  change execRebuildStripe errs s = _
  unfold execRebuildStripe
  rw [hr, hp]
  rfl

theorem exec_relocationCopyBack {s : State} (errs : List (Nat × EccOutcome)) (hr : passesRun s = true)
    (hp : s.shroud.pass = some .copyBack) : exec (.relocationCopyBack errs) s = .next (advancePass s errs) := by
  change execRelocationCopyBack errs s = _
  unfold execRelocationCopyBack
  rw [hr, hp]
  rfl

/-- The stripes left after one more, as the watermark counts them. -/
theorem watermarkPast_left {s t : State} (h : StripeStands s t) : (watermarkPast t).shroud.left =
    ceilDiv (allStripes s - (s.shroud.watermark + 1)) (regionStripes s) := by
  simp only [watermarkPast, h.allStripes, h.regionStripes, h.watermark]

theorem watermarkPast_shroudOn {s t : State} (h : StripeStands s t) : shroudOn (watermarkPast t) = shroudOn s := by
  simp only [shroudOn, watermarkPast, h.startup]

/-- Settles O16: each command runs `advancePass` on the stripe at the watermark, which `passStripe` describes. -/
theorem passesAdvanceStripeByStripe : Obligations.PassesAdvanceStripeByStripe := by
  refine ⟨fun s ch hr hp hc hw => ⟨fun hlast => ?_, fun hlast hst l k row col hl => ?_, fun hlast hrun => ?_⟩,
    fun s ch hr hp hc => ⟨fun hlast => ?_, fun hlast hrun => ?_⟩⟩
  · have hs := passStripe_nil s .rebuild ch s.shroud.watermark
    rw [exec_rebuildStripe [] hr hp, advancePass_before_last (.inl rfl) hp hc hlast hs.watermark hs.startup,
      retryActivation_of_none (s := watermarkPast _) ((congrArg Firmware.waitRetrain hs.fw).trans hw)]
    refine ⟨_, rfl, congrArg (· + 1) hs.watermark, watermarkPast_left hs, hs.pass.trans hp, fun hsound hst => ?_, fun hst => ?_,
      hs.mem, hs.ch, hs.host, hs.persist⟩
    · rw [passStripe_rebuild ch [] hst]
      change readLine (rewriteStripe s ch s.shroud.watermark []).dram.parity s.shroud.watermark = _
      rw [(rewriteStripe_nil s ch s.shroud.watermark).2]
      exact readLine_writeLine_same _ _ hsound.2.1
    · rw [passStripe_absent .rebuild ch [] hst]
      rfl
  · rw [← hl] at hst
    obtain ⟨hpois, hmem, hbuf, hstartup, hfw, hmark⟩ :=
      rewriteStripe_poisons (passStripe_rebuild ch [(l, .unreconstructable k row col)] hst).symm
    rw [exec_rebuildStripe _ hr hp, advancePass_before_last (.inl rfl) hp hc hlast (by rw [← hl, hmark, hl])
      (by rw [← hl, hstartup]), ← hl, retryActivation_of_none (s := watermarkPast _) ((congrArg Firmware.waitRetrain hfw).trans hw)]
    exact ⟨_, rfl, (congrArg (· + 1) hmark).trans (by rw [hl]), hpois, hmem, hbuf⟩
  · have hs := passStripe_nil s .rebuild ch s.shroud.watermark
    obtain ⟨hback, hpass, hmark, -, hmem, hhost, hfw⟩ := endPass_stands (s := watermarkPast (passStripe s .rebuild ch s.shroud.watermark []))
      (.inl rfl) (hs.pass.trans hp) (hs.channel.trans hc) ((congrArg Restore.running hs.restore).trans hrun)
    rw [exec_rebuildStripe [] hr hp, advancePass_last (.inl rfl) hp hc hlast,
      retryActivation_of_none ((congrArg Firmware.waitRetrain (hfw.trans hs.fw)).trans hw)]
    exact ⟨_, rfl, hback, hpass, hmark, hmem.trans hs.mem, hhost.trans hs.host⟩
  · have hs := passStripe_nil s .copyBack ch s.shroud.watermark
    rw [exec_relocationCopyBack [] hr hp, advancePass_before_last (.inr rfl) hp hc hlast hs.watermark hs.startup]
    exact ⟨_, rfl, congrArg (· + 1) hs.watermark, watermarkPast_left hs, hs.pass.trans hp, hs.mem, hs.ch, hs.host, hs.persist⟩
  · have hs := passStripe_nil s .copyBack ch s.shroud.watermark
    obtain ⟨hback, hpass, hmark, hoff, hmem, hhost, -⟩ := endPass_stands
      (s := watermarkPast (passStripe s .copyBack ch s.shroud.watermark [])) (.inr rfl) (hs.pass.trans hp) (hs.channel.trans hc)
      ((congrArg Restore.running hs.restore).trans hrun)
    rw [exec_relocationCopyBack [] hr hp, advancePass_last (.inr rfl) hp hc hlast]
    exact ⟨_, rfl, hback, hpass, hmark, fun h => hoff ((watermarkPast_shroudOn hs).trans h), hmem.trans hs.mem, hhost.trans hs.host⟩

end Sys2Proof.Machine
end

section
/-! A granule comes into DRAM (O17): a demand fetch or a relocation fill makes it present and leaves every byte of another granule. -/

namespace Sys2Proof.Machine

open Sys2Proof

/-! ## The write of a granule (R16, R216) -/

/-- Marking a region stale changes Shroud's stale map. -/
theorem staleRegion_cases (s : State) (r : Nat) : ∃ stale staleCh,
    staleRegion s r = { s with shroud := { s.shroud with stale := stale, staleCh := staleCh } } := by
  unfold staleRegion
  split
  · exact ⟨_, _, rfl⟩
  · exact ⟨s.shroud.stale, s.shroud.staleCh, rfl⟩

/-- The parity lines of a granule follow it. -/
theorem granuleParity_cases (s : State) (g : Nat) : ∃ par, granuleParity s g = { s with dram := { s.dram with parity := par } } := by
  unfold granuleParity
  dsimp only
  split
  · exact ⟨_, rfl⟩
  · exact ⟨s.dram.parity, rfl⟩

/-- Memory after a granule's write (R16, R137). -/
def granuleMem (s : State) (g : Nat) (cells : List Host.Cell) : List Host.Cell :=
  if granulePresent s g then
    writeCells (s.dram.mem.filter fun c => !(decide (granuleStart s g ≤ c.1 ∧ c.1 < granuleStart s g + gBytes s)
      && s.shroud.channel == some (Config.channelOfLine (c.1 / 64)))) (granuleStart s g)
      (cells.filter fun c => s.shroud.channel == some (Config.channelOfLine ((granuleStart s g + c.1) / 64)))
  else writeCells (clearRange s.dram.mem (granuleStart s g) (gBytes s)) (granuleStart s g) cells

/-- A granule's write changes memory, parity, the counts of accesses, IDLE and the stale map. -/
theorem writeGranule_cases (s : State) (g : Nat) (cells : List Host.Cell) : ∃ par acc stale staleCh, writeGranule s g cells = { s with
    power := { s.power with idle := false },
    dram := { s.dram with mem := granuleMem s g cells, parity := par, acc := acc },
    shroud := { s.shroud with stale := stale, staleCh := staleCh } } := by
  unfold writeGranule
  dsimp only
  change ∃ par acc stale staleCh, staleRegion (granuleParity (restoreAccess { s with
    dram := { s.dram with mem := granuleMem s g cells } } g) g) (regionOf g) = _
  generalize granuleMem s g cells = m
  obtain ⟨par, hpar⟩ := granuleParity_cases (restoreAccess { s with dram := { s.dram with mem := m } } g) g
  rw [hpar]
  obtain ⟨stale, staleCh, hstale⟩ := staleRegion_cases
    { restoreAccess { s with dram := { s.dram with mem := m } } g with
      dram := { (restoreAccess { s with dram := { s.dram with mem := m } } g).dram with parity := par } } (regionOf g)
  exact ⟨par, _, stale, staleCh, hstale⟩

/-- A granule's write reaches no byte outside the granule and the cells of its copy. -/
theorem readByte_writeGranule_outside {s : State} {g a : Nat} {cells : List Host.Cell} (hwf : Memory.wf s.dram.mem = true)
    (ha : a < granuleStart s g ∨ granuleStart s g + gBytes s ≤ a) (hc : ∀ c ∈ cells, granuleStart s g + c.1 ≠ a) :
    readByte (writeGranule s g cells).dram.mem a = readByte s.dram.mem a := by
  obtain ⟨par, acc, stale, staleCh, heq⟩ := writeGranule_cases s g cells
  rw [heq]
  dsimp only [granuleMem]
  split
  · rw [readByte_writeCells_outside _ (fun c h => hc c (List.mem_filter.1 h).1) (memory_wf_filter _ hwf)]
    refine readByte_filter (fun c _ hk => ?_) hwf
    have hout : ¬ (granuleStart s g ≤ c.1 ∧ c.1 < granuleStart s g + gBytes s) := by omega
    simp [hout]
  · rw [readByte_writeCells_outside _ hc (memory_wf_clearRange _ _ hwf)]
    refine readByte_filter (fun c _ hk => ?_) hwf
    have hout : ¬ (granuleStart s g ≤ c.1 ∧ c.1 < granuleStart s g + gBytes s) := by omega
    simp [hout]

/-- What a granule that comes in leaves alone until its presence is set: the restore's record but its count, the settings, what waits,
the channels, and Shroud but its stale map. -/
structure WriteStands (s t : State) : Prop where
  running : t.restore.running = s.restore.running
  fetches : t.restore.fetches = s.restore.fetches
  maxUs : t.restore.maxUs = s.restore.maxUs
  slots : t.host.slots = s.host.slots
  startup : t.startup = s.startup
  mode : t.shroud.mode = s.shroud.mode
  pass : t.shroud.pass = s.shroud.pass
  watermark : t.shroud.watermark = s.shroud.watermark

theorem writeGranule_stands (s : State) (g : Nat) (cells : List Host.Cell) : WriteStands s (writeGranule s g cells) := by
  obtain ⟨par, acc, stale, staleCh, heq⟩ := writeGranule_cases s g cells
  rw [heq]
  constructor <;> rfl

/-- A granule in DRAM: its copy or zeros, or zeros and poison (R216, Table 08-3). -/
def granuleWritten (s : State) (g : Nat) (ok : Bool) : State :=
  if ok || (entryOf s g).state ≠ .present then writeGranule s g (imageCells s g)
  else
    let u := poisonGranule (writeGranule s g []) g .internal
    raise { u with restore := { u.restore with poisoned := u.restore.poisoned + 1 } } 0x0203 []

theorem granuleWritten_stands (s : State) (g : Nat) (ok : Bool) : WriteStands s (granuleWritten s g ok) := by
  unfold granuleWritten
  split
  · exact writeGranule_stands s g _
  · obtain ⟨hrun, hfetch, hmax, hslots, hstart, hmode, hpass, hmark⟩ := writeGranule_stands s g []
    rw [raise_frame]
    exact ⟨hrun, hfetch, hmax, hslots, hstart, hmode, hpass, hmark⟩

theorem readByte_granuleWritten_outside {s : State} {g a : Nat} (ok : Bool) (hwf : Memory.wf s.dram.mem = true)
    (ha : a < granuleStart s g ∨ granuleStart s g + gBytes s ≤ a)
    (hc : ∀ c ∈ copyCells s g (entryOf s g), granuleStart s g + c.1 ≠ a) :
    readByte (granuleWritten s g ok).dram.mem a = readByte s.dram.mem a := by
  unfold granuleWritten
  split
  · refine readByte_writeGranule_outside hwf ha fun c h => hc c ?_
    unfold imageCells at h
    dsimp only at h
    split at h
    · exact h
    · cases h
  · rw [raise_dram]
    exact readByte_writeGranule_outside hwf ha (by simp)

/-! ## The presence bit (R216, R137) -/

/-- A fill that has come in is counted as filled while the relocation fill runs. -/
theorem noteFilled_cases (s : State) (g : Nat) : ∃ filled left,
    noteFilled s g = { s with shroud := { s.shroud with filled := filled, left := left } } ∧
      (s.shroud.mode = .relocate → g ∈ filled) := by
  unfold noteFilled
  by_cases hc : (s.shroud.mode ≠ .relocate || s.shroud.filled.contains g) = true
  · refine ⟨s.shroud.filled, s.shroud.left, if_pos hc, fun hm => ?_⟩
    simpa [hm] using hc
  · simp only [hc, Bool.false_eq_true, if_false]
    split <;> exact ⟨_, _, rfl, fun _ => mem_insertNat.2 (.inl rfl)⟩

/-- Setting a granule's presence changes the presence record, and Shroud's count of what is filled. -/
theorem setPresent_cases (s : State) (g : Nat) : ∃ presentR filled left,
    setPresent s g = { s with
      restore := { s.restore with presence := insertNat s.restore.presence g, presentR := presentR },
      shroud := { s.shroud with filled := filled, left := left } } ∧ (s.shroud.mode = .relocate → g ∈ filled) := by
  obtain ⟨filled, left, heq, hmem⟩ :=
    noteFilled_cases { s with restore := { s.restore with presence := insertNat s.restore.presence g } } g
  unfold setPresent
  rw [heq]
  dsimp only [granuleMem]
  split
  · exact ⟨s.restore.presentR, filled, left, rfl, hmem⟩
  · exact ⟨_, filled, left, rfl, hmem⟩

/-- The granule is written and present, and its buffered lines may drain. -/
def granuleIn (s : State) (g : Nat) (ok : Bool) : State := releaseWaiting (setPresent (granuleWritten s g ok) g) g

theorem bringIn_eq (s : State) (g : Nat) (ok : Bool) : bringIn s g ok = endFill (endRestore (retrySlots (serveWaiting (granuleIn s g ok) g))) :=
  rfl

/-- With nothing waiting, a granule that has come in serves no request. -/
theorem bringIn_of_no_slots {s : State} {g : Nat} {ok : Bool} (h : s.host.slots = []) :
    bringIn s g ok = endFill (endRestore (granuleIn s g ok)) := by
  have hs : (granuleIn s g ok).host.slots = [] := by
    obtain ⟨_, _, _, heq, _⟩ := setPresent_cases (granuleWritten s g ok) g
    unfold granuleIn
    rw [heq]
    exact (granuleWritten_stands s g ok).slots.trans h
  rw [bringIn_eq]
  generalize granuleIn s g ok = u at hs
  have hserve : serveWaiting u g = u := by
    unfold serveWaiting
    simp only [hs, List.filter_nil, List.foldl_nil]
    rw [← hs]
  rw [hserve]
  simp [retrySlots, hs]

/-- A granule that has come in is present, and no fetch has begun. -/
theorem granuleIn_stands (s : State) (g : Nat) (ok : Bool) :
    (granuleIn s g ok).dram = (granuleWritten s g ok).dram ∧ granulePresent (granuleIn s g ok) g = true ∧
      (granuleIn s g ok).restore.fetches = s.restore.fetches ∧ (granuleIn s g ok).restore.maxUs = s.restore.maxUs ∧
      (granuleIn s g ok).startup = s.startup ∧ (granuleIn s g ok).shroud.mode = s.shroud.mode ∧
      (granuleIn s g ok).shroud.pass = s.shroud.pass ∧ (granuleIn s g ok).shroud.watermark = s.shroud.watermark ∧
      (s.shroud.mode = .relocate → g ∈ (granuleIn s g ok).shroud.filled) := by
  obtain ⟨hrun, hfetch, hmax, -, hstart, hmode, hpass, hmark⟩ := granuleWritten_stands s g ok
  obtain ⟨presentR, filled, left, heq, hmem⟩ := setPresent_cases (granuleWritten s g ok) g
  unfold granuleIn
  rw [heq]
  refine ⟨rfl, ?_, hfetch, hmax, hstart, hmode, hpass, hmark, fun h => hmem (hmode.trans h)⟩
  simp [granulePresent, releaseWaiting, mem_insertNat]

/-! ## The end of a restore and of a fill (R137, R227) -/

/-- What the end of a pass leaves alone: memory, the restore's record, the settings. -/
theorem endPass_frame (s : State) : (endPass s).dram.mem = s.dram.mem ∧ (endPass s).restore = s.restore ∧ (endPass s).startup = s.startup := by
  have hmode (u : State) : (setShroudMode u).dram = u.dram ∧ (setShroudMode u).restore = u.restore ∧ (setShroudMode u).startup = u.startup := by
    unfold setShroudMode
    split <;> exact ⟨rfl, rfl, rfl⟩
  unfold endPass
  dsimp only
  split
  · split
    · exact ⟨rfl, rfl, rfl⟩
    · rw [evalPsub_dram, evalPsub_restore, evalPsub_startup]
      split
      · obtain ⟨hd, hr, hs⟩ := hmode _
        rw [hd, hr, hs]
        exact ⟨rfl, rfl, rfl⟩
      · exact ⟨rfl, rfl, rfl⟩
  · split
    · exact ⟨rfl, rfl, rfl⟩
    · rw [evalPsub_dram, evalPsub_restore, evalPsub_startup]
      split
      · obtain ⟨hd, hr, hs⟩ := hmode _
        rw [hd, hr, hs]
        exact ⟨rfl, rfl, rfl⟩
      · exact ⟨rfl, rfl, rfl⟩
  · obtain ⟨hd, hr, hs⟩ := hmode _
    rw [hd, hr, hs]
    exact ⟨rfl, rfl, rfl⟩
  · split <;> exact ⟨rfl, rfl, rfl⟩
  · exact ⟨rfl, rfl, rfl⟩

/-- A relocation fill that ends leaves the lost lines relocated, or with no channel named leaves its mode and what is filled. -/
theorem endPass_of_fill {s : State} (hp : s.shroud.pass = some .relocationFill) :
    (endPass s).shroud.mode = .relocated ∨ (endPass s).shroud.filled = s.shroud.filled := by
  unfold endPass
  rw [hp]
  cases s.shroud.channel with
  | none => exact .inr rfl
  | some ch =>
    dsimp only
    split <;> exact .inl rfl

/-- With nothing that ends a rebuild, Shroud stands at the end of a restore. -/
theorem rebuildAfterRestore_of_pass {s : State} (hp : s.shroud.pass.isSome = true) (hw : s.shroud.watermark < allStripes s) :
    rebuildAfterRestore s = s := by
  unfold rebuildAfterRestore
  split
  · rw [if_neg]
    have hn : s.shroud.pass.isNone = false := by simpa using hp
    have hd : ¬ allStripes s ≤ s.shroud.watermark := by omega
    simp [hn, hd]
  · rfl

theorem rebuildAfterRestore_frame (s : State) : (rebuildAfterRestore s).dram.mem = s.dram.mem ∧ (rebuildAfterRestore s).restore = s.restore := by
  unfold rebuildAfterRestore
  split
  · split
    · obtain ⟨hm, hr, -⟩ := endPass_frame { s with shroud := { s.shroud with pass := some .rebuild } }
      exact ⟨hm, hr⟩
    · exact ⟨rfl, rfl⟩
  · exact ⟨rfl, rfl⟩

/-- The state as the end of a restore hands it on: nothing is absent. -/
def restoreEnded (s : State) : State :=
  restoreToRun { s with restore := { s.restore with
    running := false, window := false, phase := 4, done := s.clock.now - s.restore.step8At, presence := [], presentR := [], hotOrder := [],
    inHand := [] } }

theorem restoreEnded_stands (s : State) : (restoreEnded s).dram = s.dram ∧ (restoreEnded s).restore.running = false ∧
    (restoreEnded s).restore.fetches = s.restore.fetches ∧ (restoreEnded s).restore.maxUs = s.restore.maxUs ∧
    (restoreEnded s).shroud = s.shroud ∧ (restoreEnded s).startup = s.startup := by
  unfold restoreEnded restoreToRun
  split <;> exact ⟨rfl, rfl, rfl, rfl, rfl, rfl⟩

theorem endRestore_cases (s : State) : endRestore s = s ∨ ∃ code payload,
    endRestore s = raise (rebuildAfterRestore (restoreEnded s)) code payload := by
  unfold endRestore
  split
  · exact .inl rfl
  · exact .inr ⟨_, _, rfl⟩

/-- The end of a restore leaves memory and the fetches, and every granule that was present. -/
theorem endRestore_stands (s : State) : (endRestore s).dram.mem = s.dram.mem ∧ (endRestore s).restore.fetches = s.restore.fetches ∧
    (endRestore s).restore.maxUs = s.restore.maxUs ∧ (∀ g, granulePresent s g = true → granulePresent (endRestore s) g = true) := by
  obtain h | ⟨code, payload, h⟩ := endRestore_cases s
  · rw [h]
    exact ⟨rfl, rfl, rfl, fun _ hg => hg⟩
  · obtain ⟨hdram, hrun, hfetch, hmax, -, -⟩ := restoreEnded_stands s
    obtain ⟨hm, hr⟩ := rebuildAfterRestore_frame (restoreEnded s)
    rw [h]
    refine ⟨by rw [raise_dram, hm, hdram], by rw [raise_restore, hr, hfetch], by rw [raise_restore, hr, hmax], fun g _ => ?_⟩
    simp [granulePresent, hr, hrun]

/-- While a fill passes stripes, the end of a restore leaves Shroud. -/
theorem endRestore_shroud {s : State} (hp : s.shroud.pass.isSome = true) (hw : s.shroud.watermark < allStripes s) :
    (endRestore s).shroud = s.shroud := by
  obtain h | ⟨code, payload, h⟩ := endRestore_cases s
  · rw [h]
  · obtain ⟨-, -, -, -, hshroud, hstart⟩ := restoreEnded_stands s
    have hall : allStripes (restoreEnded s) = allStripes s := by simp only [allStripes, hstart]
    rw [h, raise_shroud, rebuildAfterRestore_of_pass (by rw [hshroud]; exact hp) (by rw [hshroud, hall]; exact hw), hshroud]

/-- The end of a fill leaves memory, the fetches and what is present. -/
theorem endFill_stands (s : State) : (endFill s).dram.mem = s.dram.mem ∧ (endFill s).restore = s.restore := by
  unfold endFill
  split
  · exact ⟨(endPass_frame s).1, (endPass_frame s).2.1⟩
  · exact ⟨rfl, rfl⟩

/-- A granule that is filled stays so, or the fill has ended. -/
theorem endFill_filled {s : State} {g : Nat} (hp : s.shroud.pass = some .relocationFill) (hg : g ∈ s.shroud.filled) :
    g ∈ (endFill s).shroud.filled ∨ (endFill s).shroud.mode = .relocated := by
  unfold endFill
  split
  · rcases endPass_of_fill hp with h | h
    · exact .inr h
    · exact .inl (h ▸ hg)
  · exact .inl hg

/-- A granule that comes in with nothing waiting is present; memory is as its write left it. -/
theorem bringIn_stands {s : State} {g : Nat} {ok : Bool} (h : s.host.slots = []) :
    (bringIn s g ok).dram.mem = (granuleWritten s g ok).dram.mem ∧ granulePresent (bringIn s g ok) g = true ∧
      (bringIn s g ok).restore.fetches = s.restore.fetches ∧ (bringIn s g ok).restore.maxUs = s.restore.maxUs := by
  obtain ⟨hdram, hpres, hfetch, hmax, -⟩ := granuleIn_stands s g ok
  obtain ⟨rmem, rfetch, rmax, rpres⟩ := endRestore_stands (granuleIn s g ok)
  obtain ⟨fmem, frestore⟩ := endFill_stands (endRestore (granuleIn s g ok))
  rw [bringIn_of_no_slots h]
  refine ⟨by rw [fmem, rmem, hdram], ?_, by rw [frestore, rfetch, hfetch], by rw [frestore, rmax, hmax]⟩
  have hp := rpres g hpres
  simp only [granulePresent, frestore] at hp ⊢
  exact hp

/-- A granule that a fill brings in is filled, or the fill has ended with it. -/
theorem bringIn_filled {s : State} {g : Nat} {ok : Bool} (h : s.host.slots = []) (hm : s.shroud.mode = .relocate)
    (hp : s.shroud.pass = some .relocationFill) (hw : s.shroud.watermark < allStripes s) :
    g ∈ (bringIn s g ok).shroud.filled ∨ (bringIn s g ok).shroud.mode = .relocated := by
  obtain ⟨-, -, -, -, hstart, -, hpass, hmark, hfill⟩ := granuleIn_stands s g ok
  have hall : allStripes (granuleIn s g ok) = allStripes s := by simp only [allStripes, hstart]
  have hshroud : (endRestore (granuleIn s g ok)).shroud = (granuleIn s g ok).shroud :=
    endRestore_shroud (by rw [hpass, hp]; rfl) (by rw [hmark, hall]; exact hw)
  rw [bringIn_of_no_slots h]
  exact endFill_filled (by rw [hshroud, hpass, hp]) (by rw [hshroud]; exact hfill hm)

/-- Every byte outside a granule stands while the granule comes in after reads that left memory, pages and manifest as they were. -/
theorem bringIn_outside {s u : State} {g : Nat} {ok : Bool} (hslots : u.host.slots = []) (hs : s.sound) (hdram : u.dram = s.dram)
    (hstart : u.startup = s.startup) (hsec : u.security = s.security) (hpages : u.flash.pages = s.flash.pages)
    (hman : u.flash.manifest = s.flash.manifest) : outsideGranuleStands s (bringIn u g ok) g := by
  have hg : granuleStart u g = granuleStart s g := by simp only [granuleStart, gBytes, linesPerGranule, hstart]
  have hb : gBytes u = gBytes s := by simp only [gBytes, linesPerGranule, hstart]
  have hcopy : copyCells u g (entryOf u g) = copyCells s g (entryOf s g) := by
    simp only [copyCells, entryOf, keyIdNow, hpages, hman, hsec]
  intro a ha hc
  rw [(bringIn_stands hslots).1, readByte_granuleWritten_outside ok (by rw [hdram]; exact hs.1) (by rw [hg, hb]; exact ha)
    (by rw [hg, hcopy]; exact hc), hdram]

/-! ## The commands -/

/-- A demand fetch's end as the restore's record keeps it (R222, R225). -/
def fetchNoted (s : State) (g : Nat) (f : Fetch) (o : DecodeOutcome) (micros : Nat) : State :=
  let u := if f.lun.isSome then noteCopyRead s g true o else s
  { u with restore := { u.restore with
      fetches := u.restore.fetches.filter fun x => x.granule != g,
      fetchCount := if f.lun.isSome then satAdd 32 u.restore.fetchCount 1 else u.restore.fetchCount,
      maxUs := max u.restore.maxUs (min 4095 micros),
      isOver := if micros > u.restore.boundUs then satAdd 8 u.restore.isOver 1 else u.restore.isOver } }

theorem exec_demandFetchComplete {s : State} {g micros : Nat} {o : DecodeOutcome} {f : Fetch}
    (hf : (s.restore.fetches.find? fun x => x.granule == g) = some f) :
    exec (.demandFetchComplete g o micros) s =
      .next (issueWaiting (bringIn (fetchNoted s g f o micros) g (!f.lun.isSome || readOk o))) := by
  change execDemandFetchComplete g o micros s = _
  unfold execDemandFetchComplete endFetch
  rw [hf]
  rfl

/-- A fetch that has ended changes what the read of its copy leaves behind, and the restore's record. -/
theorem fetchNoted_stands (s : State) (g : Nat) (f : Fetch) (o : DecodeOutcome) (micros : Nat) :
    (fetchNoted s g f o micros).restore = { s.restore with
      fetches := s.restore.fetches.filter fun x => x.granule != g,
      fetchCount := if f.lun.isSome then satAdd 32 s.restore.fetchCount 1 else s.restore.fetchCount,
      maxUs := max s.restore.maxUs (min 4095 micros),
      isOver := if s.restore.boundUs < micros then satAdd 8 s.restore.isOver 1 else s.restore.isOver } ∧
    (fetchNoted s g f o micros).dram = s.dram ∧ (fetchNoted s g f o micros).host = s.host ∧
    (fetchNoted s g f o micros).startup = s.startup ∧ (fetchNoted s g f o micros).security = s.security ∧
    (fetchNoted s g f o micros).flash.pages = s.flash.pages ∧ (fetchNoted s g f o micros).flash.manifest = s.flash.manifest := by
  unfold fetchNoted
  dsimp only
  obtain ⟨heq, hpages, hman⟩ : ReadStands s (if f.lun.isSome then noteCopyRead s g true o else s) :=
    .ite (noteCopyRead_stands s g true o) (.refl s)
  generalize (if f.lun.isSome then noteCopyRead s g true o else s) = u at heq hpages hman
  refine ⟨?_, ?_, ?_, ?_, ?_, hpages, hman⟩ <;> rw [heq]

theorem exec_relocationFill {s : State} {g : Nat} {o : DecodeOutcome} (hr : passesRun s = true) (hm : s.shroud.mode = .relocate)
    (hp : s.shroud.pass = some .relocationFill) (hpres : granulePresent s g = true) (hv : g < hvGranules s) (hn : g ∉ s.shroud.filled)
    (hl : fillLost s g = false) (hf : fetching s g = false) (hh : hottestLeft s g = true) :
    exec (.relocationFill g o) s =
      .next (bringIn (noteCopyRead s g false o) g ((entryOf s g).state != .present || readOk o)) := by
  change execRelocationFill g o s = _
  unfold execRelocationFill
  simp [hr, hm, hp, hpres, hv, hn, hl, hf, hh]

/-- Settles O17: both commands run `bringIn` after the read of the granule's copy, which leaves memory, pages and manifest alone. -/
theorem granuleComesIn : Obligations.GranuleComesIn := by
  refine ⟨fun s g micros o f hf => ⟨?_, fun hslots => ?_⟩, fun s g o hr hm hp hpres hv hn hl hfetch hh hw => ⟨?_, fun hslots => ?_⟩⟩
  · obtain ⟨hrestore, hdram, hhost, -⟩ := fetchNoted_stands s g f o micros
    exact ⟨_, exec_demandFetchComplete hf, hrestore, hdram, hhost⟩
  · obtain ⟨hrestore, hdram, hhost, hstart, hsec, hpages, hman⟩ := fetchNoted_stands s g f o micros
    refine ⟨_, exec_demandFetchComplete hf, ?_⟩
    generalize fetchNoted s g f o micros = v at hrestore hdram hhost hstart hsec hpages hman
    generalize (!f.lun.isSome || readOk o) = ok
    have hslots : v.host.slots = [] := by rw [hhost]; exact hslots
    obtain ⟨-, hpres, hfetches, hmax⟩ := bringIn_stands (g := g) (ok := ok) hslots
    have hout (hs : s.sound) := bringIn_outside (g := g) (ok := ok) hslots hs hdram hstart hsec hpages hman
    obtain ⟨ps, hps⟩ := issueWaiting_cases (bringIn v g ok)
    rw [hps]
    generalize bringIn v g ok = w at *
    refine ⟨hpres, ?_, ?_, hout⟩
    · change w.restore.fetches.any _ = false
      rw [hfetches, hrestore]
      simp
    · change w.restore.maxUs = _
      rw [hmax, hrestore]
  · exact exec_relocationFill hr hm hp hpres hv hn hl hfetch hh
  · obtain ⟨heq, hpages, hman⟩ := noteCopyRead_stands s g false o
    refine ⟨_, exec_relocationFill hr hm hp hpres hv hn hl hfetch hh, ?_⟩
    generalize noteCopyRead s g false o = u at heq hpages hman
    have hus : u.host.slots = [] := by rw [heq]; exact hslots
    have hall : allStripes u = allStripes s := by rw [heq]; rfl
    exact ⟨bringIn_filled hus (by rw [heq]; exact hm) (by rw [heq]; exact hp) (by rw [hall, heq]; exact hw),
      fun hs => bringIn_outside hus hs (by rw [heq]) (by rw [heq]) (by rw [heq]) hpages hman⟩

end Sys2Proof.Machine
end

section
/-! Programs of the flash medium (O18): a page group that passes, and the flush that ends with it. -/

namespace Sys2Proof.Machine

open Sys2Proof

/-! ## What placing and closing leave alone (R149, R151) -/

/-- Closing rows and issuing programs change the flash medium's pages, open rows and block sets, and log a refusal; page groups that have
passed, the manifest and the seal being written stand. -/
structure RowsStand (s t : State) : Prop where
  eq : t = { s with flash := t.flash, recorder := t.recorder }
  manifest : t.flash.manifest = s.flash.manifest
  sealJob : t.flash.sealJob = s.flash.sealJob
  passed : ∀ q ∈ s.flash.pages, q.passed = true → q ∈ t.flash.pages

namespace RowsStand

theorem refl (s : State) : RowsStand s s := ⟨rfl, rfl, rfl, fun _ h _ => h⟩

theorem dram {s t : State} (h : RowsStand s t) : t.dram = s.dram := (congrArg State.dram h.eq :)
theorem host {s t : State} (h : RowsStand s t) : t.host = s.host := (congrArg State.host h.eq :)
theorem security {s t : State} (h : RowsStand s t) : t.security = s.security := (congrArg State.security h.eq :)
theorem persist {s t : State} (h : RowsStand s t) : t.persist = s.persist := (congrArg State.persist h.eq :)

theorem trans {s t u : State} (h : RowsStand s t) (k : RowsStand t u) : RowsStand s u := by
  refine ⟨?_, k.manifest.trans h.manifest, k.sealJob.trans h.sealJob, fun q hq hp => k.passed q (h.passed q hq hp) hp⟩
  rw [k.eq, h.eq]

theorem ite {s a b : State} {p : Prop} [Decidable p] (ha : RowsStand s a) (hb : RowsStand s b) : RowsStand s (if p then a else b) := by
  split <;> assumption

theorem foldl {α : Type} {f : State → α → State} (hf : ∀ s x, RowsStand s (f s x)) (l : List α) (s : State) :
    RowsStand s (l.foldl f s) := by
  induction l generalizing s with
  | nil => exact .refl s
  | cons x t ih => exact (hf s x).trans (ih (f s x))

theorem endRow (s : State) (band row : Nat) : RowsStand s (endRow s band row) := ⟨rfl, rfl, rfl, fun _ h _ => h⟩

theorem programPage (s : State) (c : Settings) (p : PageGroup) : RowsStand s (programPage s c p) := by
  unfold Machine.programPage
  split
  · have h := logEvent_frame s 0x0081 2 []
    exact ⟨by rw [h], by rw [h], by rw [h], fun q hq _ => by rw [h]; exact hq⟩
  · exact ⟨rfl, rfl, rfl, fun q hq _ => List.mem_append_left _ hq⟩

theorem closeOne (s : State) (c : Settings) (band row : Nat) : RowsStand s (closeOne s c band row) := by
  unfold Machine.closeOne
  split
  · exact endRow s band row
  · split
    · split
      · have hseq : RowsStand s { s with flash := { s.flash with nextSeq := s.flash.nextSeq + 1 } } := ⟨rfl, rfl, rfl, fun _ h _ => h⟩
        exact (hseq.trans (programPage _ _ _)).trans (endRow _ _ _)
      · exact endRow s band row
    · exact endRow s band row

theorem issuePage {s : State} {p : PageGroup} (h : p.passed = false) : RowsStand s (issuePage s p) := by
  refine ⟨rfl, rfl, rfl, fun q hq hp => List.mem_map.2 ⟨q, hq, if_neg ?_⟩⟩
  rintro rfl
  rw [h] at hp
  cases hp

theorem issueWaiting (s : State) : RowsStand s (issueWaiting s) := by
  unfold Machine.issueWaiting
  split
  · exact .refl s
  · rename_i hset
    clear hset
    have hwait : ∀ p ∈ s.flash.pages.filter fun p => !p.passed && p.issuedAt.isNone, p.passed = false := by simp +contextual
    generalize (s.flash.pages.filter fun p => !p.passed && p.issuedAt.isNone) = ps at hwait
    induction ps generalizing s with
    | nil => exact .refl s
    | cons p t ih =>
      rw [List.foldl_cons]
      exact (ite (issuePage (hwait p List.mem_cons_self)) (.refl s)).trans (ih _ fun q hq => hwait q (List.mem_cons_of_mem _ hq))

theorem closeRow (s : State) (c : Settings) (band row : Nat) : RowsStand s (closeRow s c band row) :=
  (foldl (fun s r => closeOne s c band r) _ s).trans (issueWaiting _)

theorem closeFullRow (s : State) (c : Settings) (band row : Nat) : RowsStand s (closeFullRow s c band row) :=
  ite (closeRow s c band row) (.refl s)

end RowsStand

/-! ## The end of a flush (R43, R150) -/

/-- What the end of a flush leaves alone: it sets the manifest's entry and the accounts of the persistence loop, and sends notices. -/
structure FlushStands (s t : State) : Prop where
  dram : t.dram = s.dram
  host : t.host = s.host
  security : t.security = s.security
  pages : t.flash.pages = s.flash.pages
  sealJob : t.flash.sealJob = s.flash.sealJob

namespace FlushStands

theorem refl (s : State) : FlushStands s s := ⟨rfl, rfl, rfl, rfl, rfl⟩

theorem trans {s t u : State} (h : FlushStands s t) (k : FlushStands t u) : FlushStands s u :=
  ⟨k.dram.trans h.dram, k.host.trans h.host, k.security.trans h.security, k.pages.trans h.pages, k.sealJob.trans h.sealJob⟩

theorem foldl {α : Type} {f : State → α → State} (hf : ∀ s x, FlushStands s (f s x)) (l : List α) (s : State) :
    FlushStands s (l.foldl f s) := by
  induction l generalizing s with
  | nil => exact .refl s
  | cons x t ih => exact (hf s x).trans (ih (f s x))

end FlushStands

/-- A flushed granule's copy is settled in the manifest: its entry, and of a metadata granule what was flushed (R178). -/
theorem settleFlush_cases (s : State) (f : InFlight) : settleFlush s f = s ∨ ∃ e held,
    settleFlush s f = { setEntry s f.granule e with persist := { s.persist with metaFlushed := held } } := by
  unfold settleFlush
  split
  · exact .inl rfl
  · dsimp only
    split
    · exact .inr ⟨_, _, rfl⟩
    · exact .inr ⟨_, s.persist.metaFlushed, rfl⟩

/-- A copy that lies on flash is settled as present. -/
theorem settleFlush_present {s : State} {f : InFlight} {p : PageGroup} (hp : p ∈ s.flash.pages) (hpass : p.passed = true)
    (hi : p.index = f.granule) (hh : p.half = 0) (hk : p.kind = .granule) : ∃ e held, e.state = .present ∧
      settleFlush s f = { setEntry s f.granule e with persist := { s.persist with metaFlushed := held } } := by
  have hfind : (s.flash.pages.reverse.find? fun q => q.passed && q.index == f.granule && q.half == 0 && q.kind == .granule).isSome = true := by
    rw [List.find?_isSome]
    exact ⟨p, List.mem_reverse.2 hp, by simp [hpass, hi, hh, hk]⟩
  obtain ⟨q, hq⟩ := Option.isSome_iff_exists.1 hfind
  have hentry : entryAt s f.granule (fun p => p.kind == .granule) =
      some { state := .present, band := q.band, row := q.row, ch := q.ch, seq := q.seq } := by
    unfold entryAt
    rw [hq]
    rfl
  unfold settleFlush
  rw [hentry]
  dsimp only
  split
  · exact ⟨_, _, rfl, rfl⟩
  · exact ⟨_, s.persist.metaFlushed, rfl, rfl⟩

theorem settleFlush_stands (s : State) (f : InFlight) : FlushStands s (settleFlush s f) := by
  obtain h | ⟨e, held, h⟩ := settleFlush_cases s f <;> rw [h]
  · exact .refl s
  · exact ⟨rfl, rfl, rfl, rfl, rfl⟩

/-- The flush of a granule leaves the dirty set (R43). -/
def flushCleared (s : State) (f : InFlight) : State :=
  let t := settleFlush s f
  let t := if f.rewritten then t else clearDirty t f.granule
  { t with persist := { t.persist with inflight := t.persist.inflight.filter fun x => x.granule != f.granule },
           flash := { t.flash with flushed := t.flash.flushed + gBytes t } }

theorem finishFlush_eq (s : State) (f : InFlight) : finishFlush s f = followD (flushCleared s f) := rfl

theorem followD_stands (s : State) : FlushStands s (followD s) := by
  rw [followD_frame]
  exact ⟨rfl, rfl, rfl, rfl, rfl⟩

theorem finishFlush_stands (s : State) (f : InFlight) : FlushStands s (finishFlush s f) := by
  rw [finishFlush_eq]
  refine FlushStands.trans ?_ (followD_stands _)
  unfold flushCleared
  obtain ⟨hdram, hhost, hsec, hpages, hseal⟩ := settleFlush_stands s f
  dsimp only
  split <;> exact ⟨hdram, hhost, hsec, hpages, hseal⟩

theorem finishFlushes_stands (s : State) : FlushStands s (finishFlushes s) := .foldl finishFlush_stands _ s

theorem entryOf_setEntry_same (s : State) (g : Nat) (e : Entry) : entryOf (setEntry s g e) g = e := by
  simp [entryOf, setEntry, kvGet_kvSet_same]

theorem entryOf_setEntry_ne (s : State) {g k : Nat} (e : Entry) (h : k ≠ g) : entryOf (setEntry s g e) k = entryOf s k := by
  simp [entryOf, setEntry, kvGet_kvSet_ne _ _ h]

/-- The only flush in flight ends: its granule's entry names the copy, and the granule is clean unless it was written meanwhile. -/
theorem finishFlush_only {s : State} {f : InFlight} {p : PageGroup} (hp : p ∈ s.flash.pages) (hpass : p.passed = true)
    (hi : p.index = f.granule) (hh : p.half = 0) (hk : p.kind = .granule) (hf : s.persist.inflight = [f]) :
    (entryOf (finishFlush s f) f.granule).state = .present ∧ (finishFlush s f).persist.inflight = [] ∧
      (∀ g, g ≠ f.granule → entryOf (finishFlush s f) g = entryOf s g) ∧
      isDirty (finishFlush s f) f.granule = (f.rewritten && s.persist.dirty.any fun d => d.1 == f.granule) := by
  obtain ⟨e, held, he, hset⟩ := settleFlush_present hp hpass hi hh hk
  have hflash : (finishFlush s f).flash.manifest = (setEntry s f.granule e).flash.manifest := by
    rw [finishFlush_eq, followD_frame]
    unfold flushCleared
    rw [hset]
    dsimp only
    split <;> rfl
  have hin : (finishFlush s f).persist.inflight = [] := by
    rw [finishFlush_eq, followD_frame]
    unfold flushCleared
    rw [hset]
    dsimp only
    split <;> simp [clearDirty, setEntry, hf]
  have hdirty : (finishFlush s f).persist.dirty =
      if f.rewritten then s.persist.dirty else s.persist.dirty.filter fun d => d.1 != f.granule := by
    rw [finishFlush_eq, followD_frame]
    unfold flushCleared
    rw [hset]
    dsimp only
    split <;> rfl
  refine ⟨?_, hin, fun g hg => ?_, ?_⟩
  · rw [← he, ← entryOf_setEntry_same s f.granule e]
    simp only [entryOf, hflash]
  · rw [← entryOf_setEntry_ne s e hg]
    simp only [entryOf, hflash]
  · unfold isDirty
    rw [hin, hdirty]
    cases f.rewritten <;> simp

/-! ## A page group that passes -/

/-- The page group passed, and its flush counted down. -/
def pagePassed (s : State) (p : PageGroup) : State :=
  granulePasses { s with flash := { s.flash with pages := s.flash.pages.map fun q => if q = p then { q with passed := true } else q } } p

/-- The state of a passing program before a generation that is being written goes on. -/
def programPassed (s : State) (c : Settings) (p : PageGroup) : State :=
  issueWaiting (finishFlushes (closeFullRow (pagePassed s p) c p.band p.row))

theorem exec_flashProgramComplete_passes {s : State} {c : Settings} {seq : Nat} {p : PageGroup} (hc : s.startup.settings = some c)
    (hb : s.flash.brownOut = false) (hp : inProgress s seq = some p) (hk : p.kind = .granule) :
    exec (.flashProgramComplete seq true) s = .next (advanceSeal (programPassed s c p)) := by
  change execFlashProgramComplete seq true s = _
  unfold execFlashProgramComplete withSettings
  simp only [hc, hp, hb, Bool.false_eq_true, if_false, if_true]
  unfold programPasses
  rw [hk]
  rfl

/-- Settles O18: a passing program marks its page group, and `finishFlush` ends the flush that waited for it. -/
theorem flushedGranuleBecomesClean : Obligations.FlushedGranuleBecomesClean := by
  intro s c seq p hc hb hp hk
  have hseq : p.seq = seq := by
    have h := List.find?_some hp
    simp only [Bool.and_eq_true, beq_iff_eq] at h
    exact h.1.1
  have hmem : { p with passed := true } ∈ (pagePassed s p).flash.pages :=
    List.mem_map.2 ⟨p, List.mem_of_find?_eq_some hp, if_pos rfl⟩
  have hclose := RowsStand.closeFullRow (pagePassed s p) c p.band p.row
  have hmem := hclose.passed _ hmem rfl
  have hflush := finishFlushes_stands (closeFullRow (pagePassed s p) c p.band p.row)
  have hissue := RowsStand.issueWaiting (finishFlushes (closeFullRow (pagePassed s p) c p.band p.row))
  refine ⟨_, exec_flashProgramComplete_passes hc hb hp hk, hissue.passed _ (by rw [hflush.pages]; exact hmem) rfl, ?_, ?_, ?_, ?_,
    fun f hh hf hg hpages hrows => ?_⟩
  · exact hissue.dram.trans (hflush.dram.trans hclose.dram)
  · exact hissue.host.trans (hflush.host.trans hclose.host)
  · exact hissue.security.trans (hflush.security.trans hclose.security)
  · exact hissue.sealJob.trans (hflush.sealJob.trans hclose.sealJob)
  · have hpersist : (closeFullRow (pagePassed s p) c p.band p.row).persist = (pagePassed s p).persist := hclose.persist
    have hinflight : (closeFullRow (pagePassed s p) c p.band p.row).persist.inflight = [{ f with pages := [] }] := by
      rw [hpersist]
      simp [pagePassed, granulePasses, hf, hg, hpages, hseq]
    have hfinish : finishFlushes (closeFullRow (pagePassed s p) c p.band p.row) =
        finishFlush (closeFullRow (pagePassed s p) c p.band p.row) { f with pages := [] } := by
      unfold finishFlushes
      rw [hinflight]
      simp [hrows]
    obtain ⟨hpresent, hin, hother, hdirty⟩ := finishFlush_only (f := { f with pages := [] }) hmem rfl hg.symm hh hk hinflight
    have hman := hissue.manifest
    have hpers : (programPassed s c p).persist = (finishFlushes (closeFullRow (pagePassed s p) c p.band p.row)).persist :=
      hissue.persist
    have hentry (g : Nat) : entryOf (programPassed s c p) g =
        entryOf (finishFlush (closeFullRow (pagePassed s p) c p.band p.row) { f with pages := [] }) g := by
      rw [← hfinish]
      simp only [entryOf, programPassed, hman]
    rw [hfinish] at hpers
    refine ⟨?_, by rw [hpers]; exact hin, fun g hgne => ?_, ?_⟩
    · rw [hentry, ← hg]
      exact hpresent
    · rw [hentry, hother g (by rw [hg]; exact hgne)]
      simp only [entryOf, hclose.manifest]
      rfl
    · simp only [isDirty, hpers]
      rw [← hg]
      exact hdirty.trans (by rw [hpersist]; rfl)

end Sys2Proof.Machine
end

section
/-! The management protocol (O40): a request in an open session, and commands with effect that run once. -/

namespace Sys2Proof.Machine

open Sys2Proof

/-! ## Requests that are taken (R325–R331) -/

/-- A whole request that nothing makes wait or turns away goes to its session, or opens or closes one. -/
theorem receive_of_arrives {s : State} {hdr : QmpHdr} {b : QmpBody} (h : requestArrives s hdr b) :
    receive s hdr b = if isNegotiate b then answerPlain s hdr b else inSession s hdr b := by
  obtain ⟨hup, hfault, hlen, hres, hfull, hmust, hwait, htable, hlow⟩ := h
  have hl : (s.security.lowering && !runsInLowering b) = false := by
    cases hs : s.security.lowering
    · rfl
    · simp [hlow hs]
  unfold receive receiveOp
  simp only [hup, hfault, hlen, hres, hfull, Bool.not_true, Bool.false_eq_true, if_false]
  unfold admitRequest
  simp only [hmust, hwait, htable, hl, Bool.or_self, Bool.false_eq_true, if_false]

/-- The state once a request has used its session. -/
def sessionUsed (s : State) (hdr : QmpHdr) : State := { s with qmp := { s.qmp with sessions := usedSessions s hdr } }

/-- A request in an open session runs under its SEQ where it has effect, and is answered at once where it has none. -/
theorem receive_inOpenSession {s : State} {hdr : QmpHdr} {b : QmpBody} {x : Session} (h : inOpenSession s hdr b x)
    (hn : isNegotiate b = false) : receive s hdr b =
      if hasEffect b then sequenced (sessionUsed s hdr) hdr b x else answerPlain (sessionUsed s hdr) hdr b := by
  obtain ⟨harr, -, hsess, hver, hstand, -⟩ := h
  have hmod : modSession s hdr.session (fun y => { y with lastUse := s.clock.opTime }) = sessionUsed s hdr := rfl
  rw [receive_of_arrives harr, hn, if_neg Bool.false_ne_true]
  unfold inSession
  simp only [hsess, hver, hmod]
  rw [show inStandby (sessionUsed s hdr) = false from hstand]
  cases hasEffect b <;> rfl

/-- A response leaves on a mailbox or PCIe VDM. -/
theorem respond_eq {s : State} {hdr : QmpHdr} (hc : hdr.carrier ≠ .smbus) (op : BitVec 16) (st : QmpStatus) (replay : Bool)
    (body : List Byte) :
    respond s hdr op st replay body = { s with out := s.out ++ [.qmp hdr.carrier op hdr.session hdr.seq st replay body] } := by
  unfold respond
  split
  · exact absurd ‹_› hc
  · rfl

/-- The command of a row with effect is the request with its body. -/
theorem exec_effectCommand {s : State} {hdr : QmpHdr} {b : QmpBody} {cmd : Instr} (h : effectCommand hdr b = some cmd) :
    exec cmd s = .next (receive s hdr b) ∧ hasEffect b = true ∧ isNegotiate b = false := by
  cases b <;> cases h <;> exact ⟨rfl, rfl, rfl⟩

/-- A command with effect runs under its SEQ. -/
theorem exec_sequenced {s : State} {hdr : QmpHdr} {b : QmpBody} {x : Session} {cmd : Instr} (hcmd : effectCommand hdr b = some cmd)
    (h : inOpenSession s hdr b x) : exec cmd s = .next (sequenced (sessionUsed s hdr) hdr b x) := by
  obtain ⟨hexec, heff, hneg⟩ := exec_effectCommand (s := s) hcmd
  rw [hexec, receive_inOpenSession h hneg, heff]
  rfl

theorem seq_back_eq_zero {a b : Word} : (a - b).toNat = 0 ↔ b = a := by
  constructor
  · intro h
    have h0 : a - b = 0 := BitVec.eq_of_toNat_eq h
    have := BitVec.sub_eq_iff_eq_add.1 h0
    simpa using this.symm
  · rintro rfl
    simp

/-- With no FW_ACTIVATE waiting for its answer, a command with the session's NEXT runs. -/
theorem sequenced_next {s : State} {hdr : QmpHdr} {b : QmpBody} {x : Session} (h : s.fw.waiting = none) (hn : hdr.seq = x.next) :
    sequenced s hdr b x = executeNext s hdr b := by
  unfold sequenced
  simp only [h, Option.any_none, Bool.false_eq_true, if_false]
  exact if_pos (seq_back_eq_zero.2 hn)

/-- A command whose result is cached is answered with it (R331). -/
theorem sequenced_cached {s : State} {hdr : QmpHdr} {b : QmpBody} {x : Session} {r : CachedResult} (h : s.fw.waiting = none)
    (hn : hdr.seq ≠ x.next) (hback : (x.next - hdr.seq).toNat ≤ 64) (hr : x.results.find? (fun y => y.seq == hdr.seq) = some r) :
    sequenced s hdr b x = respond s hdr r.opcode r.status true r.body := by
  unfold sequenced
  simp only [h, Option.any_none, Bool.false_eq_true, if_false]
  rw [if_neg (fun h0 => hn (seq_back_eq_zero.1 h0)), if_pos hback, hr]

/-- A SEQ further back than 64 is refused with NEXT. -/
theorem sequenced_refused {s : State} {hdr : QmpHdr} {b : QmpBody} {x : Session} (h : s.fw.waiting = none)
    (hback : 64 < (x.next - hdr.seq).toNat) :
    sequenced s hdr b x = respond s hdr (opcodeOf b) .seqBad false (leBytes 4 x.next.toNat) := by
  unfold sequenced
  simp only [h, Option.any_none, Bool.false_eq_true, if_false]
  rw [if_neg (by omega), if_neg (by omega)]

/-! ## Sessions -/

/-- The sessions once a request has been answered and its SEQ consumed (R331). -/
def consumedSessions (s : State) (hdr : QmpHdr) (b : QmpBody) (st : QmpStatus) (body : List Byte) : List Session :=
  s.qmp.sessions.map fun y => if y.id = hdr.session then
    { y with next := hdr.seq + 1, lastUse := s.clock.opTime,
             results := last64 (y.results ++ [⟨hdr.session, hdr.seq, opcodeOf b, st, body⟩]) } else y

/-- Changing the sessions without their numbers changes what each number finds. -/
theorem find_session_map {l : List Session} {f : Session → Session} (hf : ∀ y, (f y).id = y.id) (id : Byte) :
    (l.map f).find? (fun y => y.id == id) = (l.find? fun y => y.id == id).map f := by
  rw [List.find?_map]
  congr 1
  exact congrArg (fun p => l.find? p) (funext fun y => by simp [hf])

/-- A state whose sessions are those of a consumed SEQ, and whose answer has left, has answered once. -/
theorem answeredOnce_of {s t : State} {hdr : QmpHdr} {b : QmpBody} {x : Session} {st : QmpStatus} {body : List Byte}
    (hx : sessionOf s hdr.session = some x) (ht : t.qmp.sessions = consumedSessions s hdr b st body)
    (ho : answerOf hdr b st body ∈ t.out) : answeredOnce s t hdr b x st body := by
  have hid : x.id = hdr.session := by
    have h := List.find?_some hx
    simpa using h
  have hmap (id : Byte) : sessionOf t id = (sessionOf s id).map fun y => if y.id = hdr.session then
      { y with next := hdr.seq + 1, lastUse := s.clock.opTime,
               results := last64 (y.results ++ [⟨hdr.session, hdr.seq, opcodeOf b, st, body⟩]) } else y := by
    unfold sessionOf
    rw [ht]
    exact find_session_map (fun y => by split <;> rfl) id
  refine ⟨?_, fun id hne => ?_, ho⟩
  · rw [hmap, hx, Option.map_some, if_pos hid]
  · rw [hmap]
    cases hs : sessionOf s id with
    | none => rfl
    | some y =>
      have hy : y.id = id := by
        have h := List.find?_some hs
        simpa using h
      rw [Option.map_some, if_neg (by rw [hy]; exact hne)]

/-- Consuming a SEQ after the session's last use sets both. -/
theorem consume_sessions {s t : State} (hdr : QmpHdr) (b : QmpBody) (st : QmpStatus) (body : List Byte)
    (hs : t.qmp.sessions = usedSessions s hdr) (hc : t.clock.opTime = s.clock.opTime) :
    (consume t hdr (opcodeOf b) st body).qmp.sessions = consumedSessions s hdr b st body := by
  simp only [consume, modSession, setQmp, hs, hc, usedSessions, consumedSessions, List.map_map]
  refine List.map_congr_left fun y _ => ?_
  by_cases h : y.id = hdr.session <;> simp [h]

/-- The state that a command has left, its SEQ consumed and its answer sent. -/
def answered (s t : State) (hdr : QmpHdr) (b : QmpBody) (st : QmpStatus) (body : List Byte) : State :=
  { t with qmp := { t.qmp with sessions := consumedSessions s hdr b st body }, out := t.out ++ [answerOf hdr b st body] }

theorem respond_consume {s t : State} {hdr : QmpHdr} (hc : hdr.carrier ≠ .smbus) (b : QmpBody) (st : QmpStatus) (body : List Byte)
    (hs : t.qmp.sessions = usedSessions s hdr) (hclk : t.clock.opTime = s.clock.opTime) :
    respond (consume t hdr (opcodeOf b) st body) hdr (opcodeOf b) st false body = answered s t hdr b st body := by
  rw [respond_eq hc, answered, ← consume_sessions hdr b st body hs hclk]
  rfl

/-- A command that runs, and whose answer does not wait, is answered, and does what follows its answer. -/
theorem executeNext_of_effect {s t : State} {hdr : QmpHdr} {b : QmpBody} {st : QmpStatus} {body : List Byte}
    (hc : hdr.carrier ≠ .smbus) (hr : runEffect (sessionUsed s hdr) hdr b = (st, body, t)) (hw : waitsFor t b st body = false)
    (hs : t.qmp.sessions = usedSessions s hdr) (hclk : t.clock.opTime = s.clock.opTime) :
    executeNext (sessionUsed s hdr) hdr b = afterAnswer (answered s t hdr b st body) b st body := by
  unfold executeNext
  rw [hr]
  simp only [hw, Bool.false_eq_true, if_false]
  rw [respond_consume hc b st body hs hclk]

/-- Only FW_ACTIVATE waits for its answer. -/
theorem waitsFor_of_ne_fwActivate {b : QmpBody} (hb : ∀ p f, b ≠ .fwActivate p f) (s : State) (st : QmpStatus) (body : List Byte) :
    waitsFor s b st body = false := by
  unfold waitsFor
  split
  · exact absurd rfl (hb _ _)
  · rfl

/-- A status that stops a command is no success. -/
theorem blockedStatus_ne_ok {s : State} {hdr : QmpHdr} {b : QmpBody} : blockedStatus s hdr b ≠ some .ok := by
  have hlen : lengthStatus hdr b ≠ some .ok := by
    unfold lengthStatus
    split
    · split
      · simp
      · split <;> simp
    · split
      · simp
      · split <;> simp
  unfold blockedStatus
  split
  · simp
  · split
    · simp
    · split
      · simp
      · exact hlen

/-- Nothing follows an answer that is no success, but in CROCUS for FW_ACTIVATE. -/
theorem afterAnswer_of_ne_ok {b : QmpBody} {st : QmpStatus} (hb : ∀ p f, b ≠ .fwActivate p f) (hst : st ≠ .ok) (s : State)
    (body : List Byte) : afterAnswer s b st body = s := by
  unfold afterAnswer
  rw [if_pos hst]
  split
  · exact absurd rfl (hb _ _)
  · rfl

/-- Settles O40: `sequenced` looks at the SEQ before a command runs. -/
theorem commandsWithEffectRunOnce : Obligations.CommandsWithEffectRunOnce := by
  intro s hdr b x cmd hcmd h
  have hexec := exec_sequenced hcmd h
  obtain ⟨-, hcar, hsess, -, -, hwait⟩ := h
  have hwait : (sessionUsed s hdr).fw.waiting = none := hwait
  refine ⟨fun r hne hback hr => ?_, fun hback => ?_, fun st hnext hblock hb => ?_⟩
  · rw [hexec, sequenced_cached hwait hne hback hr]
    exact congrArg Host.Outcome.next (respond_eq hcar _ _ _ _)
  · rw [hexec, sequenced_refused hwait hback]
    exact congrArg Host.Outcome.next (respond_eq hcar _ _ _ _)
  · have hrun : runEffect (sessionUsed s hdr) hdr b = (st, [], sessionUsed s hdr) := by
      unfold runEffect
      rw [show blockedStatus (sessionUsed s hdr) hdr b = some st from hblock]
    have hst : st ≠ .ok := by
      rintro rfl
      exact blockedStatus_ne_ok hblock
    rw [hexec, sequenced_next hwait hnext, executeNext_of_effect hcar hrun (waitsFor_of_ne_fwActivate hb _ _ _) rfl rfl, afterAnswer_of_ne_ok hb hst]
    exact ⟨_, rfl, answeredOnce_of hsess rfl (by simp [answered]), rfl⟩

end Sys2Proof.Machine
end

section
/-! Host links (O6 to O8): resets take a function back, training and its like complete, and a lane margin test retires lanes. -/

namespace Sys2Proof.Machine

open Sys2Proof

/-! ## Resets (R65, R66) -/

theorem takeLinkDown_of_free {s : State} {l : Link} (hi : s.host.link[l].heldIdle = false) (hs : saving s = false) :
    takeLinkDown s l = linkGone (linkReset s l) l := by
  unfold takeLinkDown
  rw [hi, hs]
  rfl

/-- The function of a link is reset, and its requests are discarded (R65). -/
theorem linkReset_frame (s : State) (l : Link) : linkReset s l = { s with
    host := { s.host with fn := (linkReset s l).host.fn, link := (linkReset s l).host.link, slots := (linkReset s l).host.slots },
    notices := (linkReset s l).notices } := rfl

theorem linkReset_fn (s : State) (l : Link) : (linkReset s l).host.fn[l] = resetFn := by
  simp [linkReset, dropRequests, resetFunction]

theorem linkReset_fn_ne (s : State) {l k : Link} (h : k ≠ l) : (linkReset s l).host.fn[k] = s.host.fn[k] := by
  have hne : l.val ≠ k.val := fun e => h (Fin.ext e.symm)
  simp [linkReset, dropRequests, resetFunction, hne]

theorem linkReset_link (s : State) (l : Link) : (linkReset s l).host.link[l] = { s.host.link[l] with
    decoders := [], busMaster := false, range1 := 0, msixTable := List.replicate 8 (0, 0), msixMask := 0xFF, msixPend := 0, mbx := none,
    logs := [] } :=
  getElem_vecMod_same _ _ _

theorem linkReset_link_ne (s : State) {l k : Link} (h : k ≠ l) : (linkReset s l).host.link[k] = s.host.link[k] :=
  getElem_vecMod_ne _ _ h

theorem linkReset_slots (s : State) (l : Link) : (linkReset s l).host.slots = s.host.slots.filter fun q => q.link != l := rfl

/-- The link goes down with its function reset. -/
def linkTakenDown (s : State) (l : Link) : State := linkGone (linkReset s l) l

theorem linkTakenDown_frame (s : State) (l : Link) : linkTakenDown s l = { s with
    host := { s.host with fn := (linkTakenDown s l).host.fn, link := (linkTakenDown s l).host.link,
                          slots := (linkTakenDown s l).host.slots },
    notices := (linkTakenDown s l).notices } := rfl

theorem linkTakenDown_fn (s : State) (l : Link) : (linkTakenDown s l).host.fn[l] = resetFn := linkReset_fn s l

theorem linkTakenDown_fn_ne (s : State) {l k : Link} (h : k ≠ l) : (linkTakenDown s l).host.fn[k] = s.host.fn[k] := linkReset_fn_ne s h

theorem linkTakenDown_link (s : State) (l : Link) : (linkTakenDown s l).host.link[l] = downLink s.host.link[l] := by
  refine (getElem_vecMod_same _ _ _).trans ?_
  rw [linkReset_link]
  rfl

theorem linkTakenDown_link_ne (s : State) {l k : Link} (h : k ≠ l) : (linkTakenDown s l).host.link[k] = s.host.link[k] :=
  (getElem_vecMod_ne _ _ h).trans (linkReset_link_ne s h)

theorem linkTakenDown_slots (s : State) (l : Link) : (linkTakenDown s l).host.slots = s.host.slots.filter fun q => q.link != l := rfl

theorem linkTakenDown_stands (s : State) (l : Link) : (linkTakenDown s l).host.buf = s.host.buf ∧ (linkTakenDown s l).dram = s.dram ∧
    (linkTakenDown s l).persist = s.persist := ⟨rfl, rfl, rfl⟩

/-- Both links of a port are taken down. -/
theorem takeLinkDown_port {s : State} {port : Fin 4}
    (hi : ∀ l, l = (portLinks port).1 ∨ l = (portLinks port).2 → s.host.link[l].heldIdle = false) (hs : saving s = false) :
    takeLinkDown (takeLinkDown s (Fin.ofNat 8 (2 * port.val))) (Fin.ofNat 8 (2 * port.val + 1)) =
      linkTakenDown (linkTakenDown s (portLinks port).1) (portLinks port).2 := by
  have h1 : Fin.ofNat 8 (2 * port.val) = (portLinks port).1 := Fin.ext (Nat.mod_eq_of_lt (by omega))
  have h2 : Fin.ofNat 8 (2 * port.val + 1) = (portLinks port).2 := Fin.ext (Nat.mod_eq_of_lt (by omega))
  have hne : (portLinks port).2 ≠ (portLinks port).1 := fun e => by
    have := congrArg Fin.val e
    simp only [portLinks] at this
    omega
  rw [h1, h2, takeLinkDown_of_free (hi _ (.inl rfl)) hs]
  have hheld : (linkTakenDown s (portLinks port).1).host.link[(portLinks port).2].heldIdle = false := by
    rw [linkTakenDown_link_ne s hne]
    exact hi _ (.inr rfl)
  exact takeLinkDown_of_free hheld hs

/-! ## Notices into the event logs of one function (R65, R84) -/

/-- Writing notices into a function's event logs changes the logs and the pending vectors of that link, the notices, and what has
left. -/
structure LogsStand (s : State) (l : Link) (t : State) : Prop where
  eq : t = { s with host := { s.host with link := t.host.link }, notices := t.notices, out := t.out }
  other : ∀ k, k ≠ l → t.host.link[k] = s.host.link[k]
  own : t.host.link[l] = { s.host.link[l] with logs := t.host.link[l].logs, msixPend := t.host.link[l].msixPend }

namespace LogsStand

theorem refl (s : State) (l : Link) : LogsStand s l s := ⟨rfl, fun _ _ => rfl, rfl⟩

theorem trans {s t u : State} {l : Link} (h : LogsStand s l t) (k : LogsStand t l u) : LogsStand s l u := by
  refine ⟨?_, fun i hi => (k.other i hi).trans (h.other i hi), ?_⟩
  · rw [k.eq, h.eq]
  · rw [k.own, h.own]

theorem ite {s a b : State} {l : Link} {p : Prop} [Decidable p] (ha : LogsStand s l a) (hb : LogsStand s l b) :
    LogsStand s l (if p then a else b) := by
  split <;> assumption

theorem signal (s : State) (l : Link) (v : Nat) : LogsStand s l (signal s l v) := by
  unfold Machine.signal
  refine ite ⟨rfl, fun k hk => getElem_vecMod_ne _ _ hk, ?_⟩ ⟨rfl, fun _ _ => rfl, rfl⟩
  dsimp only
  rw [getElem_vecMod_same]

theorem writeRecord (s : State) (l : Link) (log kind : Nat) (seq : Word) : LogsStand s l (writeRecord s l log kind seq) := by
  refine ⟨rfl, fun k hk => getElem_vecMod_ne _ _ hk, ?_⟩
  have h : (Machine.writeRecord s l log kind seq).host.link[l] = { s.host.link[l] with logs := s.host.link[l].logs ++ [(log, seq)] } :=
    getElem_vecMod_same _ _ _
  rw [h]

theorem intoLogs (s : State) (l : Link) (n : Notice) : LogsStand s l (intoLogs s l n) := by
  have hkind : LogsStand s l (match standardKind n.code.toNat with
      | some k => Machine.writeRecord (Machine.writeRecord s l (logOf n.cls) 0 n.seq) l (logOf n.cls) k n.seq
      | none => Machine.writeRecord s l (logOf n.cls) 0 n.seq) := by
    split
    · exact (writeRecord _ _ _ _ _).trans (writeRecord _ _ _ _ _)
    · exact writeRecord _ _ _ _ _
  have hsig := hkind.trans (signal _ l (1 + logOf n.cls))
  exact ite (refl s l) (ite (hsig.trans ((writeRecord _ _ _ _ _).trans (signal _ _ _))) hsig)

theorem setNotice (s : State) (l : Link) (seq : Word) (f : Notice → Notice) : LogsStand s l (setNotice s seq f) :=
  ⟨rfl, fun _ _ => rfl, rfl⟩

theorem rewriteLogs (s : State) (l : Link) : LogsStand s l (rewriteLogs s l) := by
  unfold Machine.rewriteLogs
  split
  · exact refl s l
  · rename_i hcarries
    clear hcarries
    generalize inOrder _ = ns
    induction ns generalizing s with
    | nil => exact refl s l
    | cons n ns ih => exact ((intoLogs s l n).trans (setNotice _ l _ _)).trans (ih _)

end LogsStand

theorem exec_linkDown {s : State} {link : Link} (hi : s.host.link[link].heldIdle = false) (hs : saving s = false) :
    exec (.linkDown link) s = .next (linkTakenDown s link) ∧ exec (.hotReset link) s = .next (linkTakenDown s link) := by
  have h := takeLinkDown_of_free hi hs
  constructor
  · change Host.Outcome.next (takeLinkDown s link) = _
    rw [h]
    rfl
  · change Host.Outcome.next (takeLinkDown s link) = _
    rw [h]
    rfl

theorem exec_perstAssert {s : State} {port : Fin 4}
    (hi : ∀ l, l = (portLinks port).1 ∨ l = (portLinks port).2 → s.host.link[l].heldIdle = false) (hs : saving s = false) :
    exec (.perstAssert port) s = .next (linkTakenDown (linkTakenDown s (portLinks port).1) (portLinks port).2) ∧
      exec (.refclkFault port) s = .next (linkTakenDown (linkTakenDown s (portLinks port).1) (portLinks port).2) := by
  have h := takeLinkDown_port hi hs
  constructor
  · change Host.Outcome.next (takeLinkDown (takeLinkDown s (Fin.ofNat 8 (2 * port.val))) (Fin.ofNat 8 (2 * port.val + 1))) = _
    rw [h]
  · change Host.Outcome.next (takeLinkDown (takeLinkDown s (Fin.ofNat 8 (2 * port.val))) (Fin.ofNat 8 (2 * port.val + 1))) = _
    rw [h]

theorem exec_cxlReset {s : State} {link : Link} (hi : s.host.link[link].heldIdle = false) :
    exec (.cxlReset link) s = .next (rewriteLogs (linkReset s link) link) := by
  change execCxlReset link s = _
  unfold execCxlReset
  rw [hi]
  rfl

/-- Settles O6: PERST_N, link down, hot reset and a lost clock run `linkReset` and `linkGone`; CXL Reset runs `linkReset`. -/
theorem linkResetsTakeTheFunctionBack : Obligations.LinkResetsTakeTheFunctionBack := by
  refine ⟨fun s link hi hs => ?_, fun s port hi hs => ?_, fun s link hi => ?_⟩
  · obtain ⟨hdown, hhot⟩ := exec_linkDown hi hs
    exact ⟨_, hdown, hhot, linkTakenDown_fn s link, linkTakenDown_link s link, linkTakenDown_slots s link, (linkTakenDown_stands s link).1,
      fun l hl => ⟨linkTakenDown_link_ne s hl, linkTakenDown_fn_ne s hl⟩, linkTakenDown_frame s link⟩
  · have hne : (portLinks port).2 ≠ (portLinks port).1 := fun e => by
      have := congrArg Fin.val e
      simp only [portLinks] at this
      omega
    obtain ⟨hperst, hclk⟩ := exec_perstAssert hi hs
    obtain ⟨hbuf, hdram, hpersist⟩ := linkTakenDown_stands s (portLinks port).1
    obtain ⟨hbuf2, hdram2, hpersist2⟩ := linkTakenDown_stands (linkTakenDown s (portLinks port).1) (portLinks port).2
    refine ⟨_, hperst, hclk, ?_, fun l h1 h2 => ⟨?_, ?_⟩, hbuf2.trans hbuf, hdram2.trans hdram, hpersist2.trans hpersist⟩
    · rintro l (rfl | rfl)
      · refine ⟨?_, ?_, fun q hq => ?_⟩
        · rw [linkTakenDown_fn_ne _ hne.symm, linkTakenDown_fn]
        · rw [linkTakenDown_link_ne _ hne.symm, linkTakenDown_link]
        · rw [linkTakenDown_slots, linkTakenDown_slots, List.mem_filter, List.mem_filter] at hq
          simpa using hq.1.2
      · refine ⟨linkTakenDown_fn _ _, ?_, fun q hq => ?_⟩
        · rw [linkTakenDown_link, linkTakenDown_link_ne _ hne]
        · rw [linkTakenDown_slots, List.mem_filter] at hq
          simpa using hq.2
    · rw [linkTakenDown_link_ne _ h2, linkTakenDown_link_ne _ h1]
    · rw [linkTakenDown_fn_ne _ h2, linkTakenDown_fn_ne _ h1]
  · obtain ⟨heq, hother, hown⟩ := LogsStand.rewriteLogs (linkReset s link) link
    refine ⟨rewriteLogs (linkReset s link) link, exec_cxlReset hi, ?_⟩
    have hlink := linkReset_link s link
    rw [hlink] at hown
    have hfn : (rewriteLogs (linkReset s link) link).host.fn = (linkReset s link).host.fn :=
      (congrArg (fun u : State => u.host.fn) heq :)
    have hslots : (rewriteLogs (linkReset s link) link).host.slots = (linkReset s link).host.slots :=
      (congrArg (fun u : State => u.host.slots) heq :)
    have hbuf : (rewriteLogs (linkReset s link) link).host.buf = s.host.buf := (congrArg (fun u : State => u.host.buf) heq :)
    refine ⟨?_, ?_, ?_, ?_, ?_, hbuf, fun l hl => ⟨?_, ?_⟩, ?_⟩
    · rw [hfn]
      exact linkReset_fn s link
    · rw [hown]
    · rw [hown]
    · rw [hown]
    · rw [hslots]
      exact linkReset_slots s link
    · rw [hother l hl, linkReset_link_ne s hl]
    · rw [hfn]
      exact linkReset_fn_ne s hl
    · rw [hfn, hslots]
      exact heq

/-! ## Training (R62 to R65) -/

theorem checkBudget_frame (s : State) (old : Nat) : checkBudget s old = withNotes s (checkBudget s old) := by
  unfold checkBudget
  exact withNotes_ite (raise_frame _ _ _) rfl

/-- The end of an interval of unavailability changes the accounts of the faults, and sends notices (R357). -/
theorem endInterval_frame (s : State) : endInterval s = { withNotes s (endInterval s) with faults := (endInterval s).faults } := by
  unfold endInterval
  split
  · rfl
  · dsimp only
    split
    · rw [checkBudget_frame]
      rfl
    · rfl
    · rfl

/-- A link below its full width changes the notices and the tests (R63). -/
theorem degraded_frame (s : State) (l : Link) : degraded s l = { withNotes s (degraded s l) with
    faults := (degraded s l).faults, flash := (degraded s l).flash } := by
  unfold degraded
  split
  · rw [queueTest_frame, raise_frame]
    rfl
  · rfl

theorem linkBack_frame (s : State) : linkBack s = { withNotes s (linkBack s) with faults := (linkBack s).faults } := by
  unfold linkBack
  split
  · exact endInterval_frame s
  · rfl

/-- The link as it has trained. -/
def linkUp (s : State) (link : Link) (width : Nat) (revision : Fin 3) : State := { s with
  host := { s.host with link := vecMod s.host.link link fun k =>
    { k with trained := true, width := min width (fullWidth s link), partner := partnerOf revision, offersIo := true,
             memActive := memReady s, resting := false } },
  power := { s.power with idle := false },
  startup := { s.startup with offeredAt := some (s.startup.offeredAt.getD s.clock.now) } }

theorem exec_linkTrained {s : State} {link : Link} (width : Nat) (revision : Fin 3) (h : mayTrain s link = true) :
    exec (.linkTrained link width revision) s = .next (rewriteLogs (linkBack (degraded (linkUp s link width revision) link)) link) := by
  change execLinkTrained link width revision s = _
  unfold execLinkTrained
  rw [h]
  rfl

/-- Settles O7: each command meets the condition it tests, and changes its link. -/
theorem linkServiceCompletes : Obligations.LinkServiceCompletes := by
  refine ⟨fun s link width revision h => ⟨_, exec_linkTrained width revision h, ?_⟩, fun s link ho hp hc => ?_,
    fun s link resting ht => ?_, fun s link index base size dpaBase ways gran locked ho hp hc hi hw hg hl => ?_⟩
  · obtain ⟨heq, hother, hown⟩ := LogsStand.rewriteLogs (linkBack (degraded (linkUp s link width revision) link)) link
    generalize rewriteLogs (linkBack (degraded (linkUp s link width revision) link)) link = t at heq hother hown
    have hup : (linkBack (degraded (linkUp s link width revision) link)).host = (linkUp s link width revision).host := by
      rw [linkBack_frame, degraded_frame]
      rfl
    have hrest : (linkBack (degraded (linkUp s link width revision) link)).dram = s.dram ∧
        (linkBack (degraded (linkUp s link width revision) link)).persist = s.persist := by
      rw [linkBack_frame, degraded_frame]
      exact ⟨rfl, rfl⟩
    have hlink : (linkUp s link width revision).host.link[link] = { s.host.link[link] with
        trained := true, width := min width (fullWidth s link), partner := partnerOf revision, offersIo := true,
        memActive := memReady s, resting := false } := getElem_vecMod_same _ _ _
    rw [hup, hlink] at hown
    refine ⟨by rw [hown], by rw [hown], by rw [hown], by rw [hown], by rw [hown], fun l hl => ?_, ?_, ?_, ?_⟩
    · rw [hother l hl, hup]
      exact getElem_vecMod_ne _ _ hl
    · rw [heq, hup]
      rfl
    · rw [heq]
      exact hrest.1
    · rw [heq]
      exact hrest.2
  · refine congrArg Host.Outcome.next (if_pos ?_)
    rw [ho, hc, bne_iff_ne.2 hp]
    rfl
  · refine ⟨_, congrArg Host.Outcome.next (if_pos ht), ?_, rfl, rfl⟩
    exact congrArg HostLink.resting (getElem_vecMod_same s.host.link link _)
  · refine ⟨_, congrArg Host.Outcome.next (if_pos ?_), ?_, fun l hne => getElem_vecMod_ne _ _ hne, rfl⟩
    · rw [ho, hc, bne_iff_ne.2 hp, decide_eq_true hi, hw, hg, hl]
      rfl
    · exact congrArg HostLink.decoders (getElem_vecMod_same s.host.link link _)

/-! ## Lane margin test (R345, R349, R352) -/

/-- Lanes are retired one by one: notices are sent, and the retired lanes grow by those that fail. -/
theorem retireLanes_frame (link : Link) (width : Nat) (lanes : List (Fin 16)) (s : State) :
    ∃ rs, lanes.foldl (fun s x => retireLane s link width x) s =
        { withNotes s (lanes.foldl (fun s x => retireLane s link width x) s) with faults := { s.faults with retiredLanes := rs } } ∧
      (∀ lane ∈ lanes, (link, lane) ∈ rs) ∧ ∀ x ∈ s.faults.retiredLanes, x ∈ rs := by
  induction lanes generalizing s with
  | nil => exact ⟨s.faults.retiredLanes, rfl, by simp, fun _ hx => hx⟩
  | cons lane lanes ih =>
    rw [List.foldl_cons]
    obtain ⟨rs, heq, hin, hold⟩ := ih (retireLane s link width lane)
    have hone : ∃ r1, retireLane s link width lane = { withNotes s (retireLane s link width lane) with
        faults := { s.faults with retiredLanes := r1 } } ∧ (link, lane) ∈ r1 ∧ ∀ x ∈ s.faults.retiredLanes, x ∈ r1 := by
      unfold retireLane
      split
      · exact ⟨s.faults.retiredLanes, rfl, List.contains_iff_mem.1 ‹_›, fun _ hx => hx⟩
      · refine ⟨s.faults.retiredLanes ++ [(link, lane)], ?_, by simp, fun _ hx => List.mem_append_left _ hx⟩
        rw [raise_frame]
        rfl
    obtain ⟨r1, heq1, hin1, hold1⟩ := hone
    have hf : (retireLane s link width lane).faults.retiredLanes = r1 := (congrArg (fun u : State => u.faults.retiredLanes) heq1 :)
    rw [hf] at hold
    refine ⟨rs, ?_, fun x hx => ?_, fun x hx => hold x (hold1 x hx)⟩
    · rw [heq, heq1]
      rfl
    · rcases List.mem_cons.1 hx with rfl | hx
      · exact hold _ hin1
      · exact hin x hx

theorem exec_laneMarginTestComplete_fails {s : State} {link : Link} {failing : List (Fin 16)} (width : Nat) {test : Test}
    (ht : runningTest s (.link link) = some test) (hf : failing ≠ []) :
    ∃ u, u = endTest (failing.foldl (fun s x => retireLane s link width x) s) test false ∧
      exec (.laneMarginTestComplete link failing width) s = .next (raise { u with
        host := { u.host with link := vecMod u.host.link link fun k => { k with width := min k.width width } } } 0x0201 []) := by
  refine ⟨_, rfl, ?_⟩
  change execLaneMarginTestComplete link failing width s = _
  unfold execLaneMarginTestComplete
  rw [ht]
  cases failing with
  | nil => exact absurd rfl hf
  | cons x xs => rfl

/-- Settles O8: a failing lane goes into the retired lanes, and the end of the test takes it off its queue. -/
theorem laneMarginTestRetiresFailingLanes : Obligations.LaneMarginTestRetiresFailingLanes := by
  refine ⟨fun s link ht => ⟨_, congrArg Host.Outcome.next (if_pos ht), fun hl hf => tested_queueTest none (.inr ⟨hl, hf⟩),
    queueTest_host _ _ _, queueTest_dram _ _ _⟩, fun s link failing width test ht hf => ?_, fun s link width test ht => ?_⟩
  · obtain ⟨u, hu, hexec⟩ := exec_laneMarginTestComplete_fails width ht hf
    obtain ⟨rs, heq, hin, hold⟩ := retireLanes_frame link width failing s
    generalize failing.foldl (fun s x => retireLane s link width x) s = v at hu heq
    have hfaults : u.faults.retiredLanes = rs := by
      rw [hu, endTest_faults]
      exact (congrArg (fun w : State => w.faults.retiredLanes) heq :)
    have hhost : u.host = s.host := by
      rw [hu, endTest_host]
      exact (congrArg State.host heq :)
    have hdram : u.dram = s.dram := by
      rw [hu, endTest_dram]
      exact (congrArg State.dram heq :)
    have htested : tested u (.link link) = false := by
      rw [hu, ← runningTest_part ht]
      exact tested_endTest v test false
    refine ⟨_, hexec, ?_, ?_, ?_, ?_, ?_⟩
    · rw [raise_faults]
      change ∀ lane ∈ failing, (link, lane) ∈ u.faults.retiredLanes
      rw [hfaults]
      exact hin
    · rw [raise_faults]
      change ∀ x ∈ s.faults.retiredLanes, x ∈ u.faults.retiredLanes
      rw [hfaults]
      exact hold
    · rw [raise_host, ← hhost]
      exact congrArg HostLink.width (getElem_vecMod_same u.host.link link _)
    · rw [tested, raise_faults]
      exact htested
    · rw [raise_dram]
      exact hdram
  · have hexec : exec (.laneMarginTestComplete link [] width) s = .next (endTest (countTransient s (.link link)) test true) := by
      change execLaneMarginTestComplete link [] width s = _
      unfold execLaneMarginTestComplete
      rw [ht]
      rfl
    refine ⟨_, hexec, ?_, ?_, ?_, endTest_host _ _ _, endTest_dram _ _ _⟩
    · rw [endTest_faults]
      rfl
    · rw [← runningTest_part ht]
      exact tested_endTest _ test true
    · rw [endTest_faults]
      rfl

end Sys2Proof.Machine
end

section
/-! The CXL mailbox and the requester tables (O9, O10). -/

namespace Sys2Proof.Machine

open Sys2Proof

/-! ## Commands that run or wait (R23, R64) -/

/-- A mailbox that runs commands runs one at once. -/
theorem throughMailbox_of_runs {s : State} {l : Link} (h : mailboxRuns s l) (c : Instr) (f : State) : throughMailbox s l c f = f := by
  unfold throughMailbox
  rw [h.1, h.2]
  rfl

/-- A command that needs the metadata area runs where the area is served. -/
theorem withMetadata_of_served {s : State} {l : Link} (h : metadataServed s l) (f : State) : withMetadata s l f = f := by
  obtain ⟨-, hc, hm⟩ := h
  unfold withMetadata
  rw [hc, hm]
  rfl

theorem throughMailbox_withMetadata {s : State} {l : Link} (h : metadataServed s l) (c : Instr) (f : State) :
    throughMailbox s l c (withMetadata s l f) = f := by
  rw [throughMailbox_of_runs h.1, withMetadata_of_served h]

/-! ## Payloads -/

@[simp] theorem leBytes_length (n v : Nat) : (leBytes n v).length = n := by
  induction n generalizing v with
  | zero => rfl
  | succ n ih => simp [leBytes, ih]

@[simp] theorem padTo_length (bs : List Byte) (n : Nat) : (padTo bs n).length = n := by
  simp only [padTo, List.length_take, List.length_append, List.length_replicate]
  omega

/-- A part of a payload behind its first bytes. -/
theorem slice_append {a b c : List Byte} {off len : Nat} (ha : a.length = off) (hb : b.length = len) : slice (a ++ b ++ c) off len = b := by
  subst ha
  subst hb
  simp [slice, List.append_assoc]

theorem healthPayload_count (s : State) : (healthPayload s).length = 18 ∧ slice (healthPayload s) 6 4 = leBytes 4 s.host.dirtyShutdowns := by
  refine ⟨by simp [healthPayload], slice_append ?_ (leBytes_length _ _)⟩
  simp

theorem fwInfoPayload_version (s : State) : (fwInfoPayload s).length = 80 ∧
    slice (fwInfoPayload s) 16 4 = leBytes 4 ((s.fw.active.map (·.version.toNat)).getD 0) := by
  refine ⟨by simp [fwInfoPayload], ?_⟩
  generalize hv : (s.fw.active.map (·.version.toNat)).getD 0 = v
  have hpad : padTo (leBytes 4 v) 16 = leBytes 4 v ++ List.replicate 12 0 := by
    simp [padTo, leBytes]
  have hparts : fwInfoPayload s =
      (leBytes 1 2 ++ leBytes 1 (1 + if stagedVersion s = 0 then 0 else 16) ++ List.replicate 14 0) ++ leBytes 4 v ++
        (List.replicate 12 0 ++ padTo (leBytes 4 (stagedVersion s).toNat) 16 ++ List.replicate 32 0) := by
    simp only [fwInfoPayload, hv, hpad, List.append_assoc]
  rw [hparts]
  exact slice_append (by simp) (leBytes_length _ _)

/-! ## Label storage (Table 03-1) -/

/-- Bytes written in order from an offset on. -/
def writeLabels (m : List (Nat × Byte)) (offset : Nat) (data : List Byte) (from_ : Nat) : List (Nat × Byte) :=
  (data.zipIdx from_).foldl (fun m b => kvSet m (offset + b.2) b.1) m

theorem kvGet_writeLabels_outside (data : List Byte) {m : List (Nat × Byte)} {offset from_ a : Nat}
    (h : a < offset + from_ ∨ offset + from_ + data.length ≤ a) : kvGet (writeLabels m offset data from_) a = kvGet m a := by
  induction data generalizing m from_ with
  | nil => rfl
  | cons b t ih =>
    rw [List.length_cons] at h
    exact (ih (m := kvSet m (offset + from_) b) (by omega)).trans (kvGet_kvSet_ne _ _ (by omega))

theorem kvGet_writeLabels_inside (data : List Byte) {m : List (Nat × Byte)} {offset from_ i : Nat} {b : Byte} (h : data[i]? = some b) :
    kvGet (writeLabels m offset data from_) (offset + from_ + i) = some b := by
  induction data generalizing m from_ i with
  | nil => simp at h
  | cons c t ih =>
    cases i with
    | zero =>
      obtain rfl : c = b := by simpa using h
      refine (kvGet_writeLabels_outside t (m := kvSet m (offset + from_) c) (.inl (by omega))).trans ?_
      exact kvGet_kvSet_same _ _ _
    | succ i =>
      have hrest : t[i]? = some b := by simpa using h
      have := ih (m := kvSet m (offset + from_) c) (from_ := from_ + 1) hrest
      rw [show offset + from_ + (i + 1) = offset + (from_ + 1) + i by omega]
      exact this

/-! ## Poison (R79, R80) -/

/-- What leaves the ports stands while a granule is zeroed or its fetch begins. -/
theorem zeroFill_out (s : State) (g : Nat) : (zeroFill s g).out = s.out := by
  obtain ⟨_, _, _, heq, _⟩ := setPresent_cases (writeGranule s g []) g
  obtain ⟨_, _, _, _, hwrite⟩ := writeGranule_cases s g []
  unfold zeroFill
  rw [heq, hwrite]

theorem startFetch_out (s : State) (g : Nat) : (startFetch s g).out = s.out := by
  unfold startFetch
  split
  · rfl
  · dsimp only
    split <;> rfl

/-- A LOST granule that a clean write reaches is zeroed first. -/
def granuleZeroed (s : State) (line : Nat) : State :=
  if needsFetch s line && regionState s (regionOf (lineGranule s line)) == .lost then zeroFill s (lineGranule s line) else s

/-- The state in which a clean write finds its granule: zeroed where it is LOST, being fetched where it is absent. -/
def granuleSought (s : State) (line : Nat) : State :=
  if needsFetch (granuleZeroed s line) line then startFetch (granuleZeroed s line) (lineGranule s line) else granuleZeroed s line

theorem granuleSought_out (s : State) (line : Nat) : (granuleSought s line).out = s.out := by
  have hzero : (granuleZeroed s line).out = s.out := by
    unfold granuleZeroed
    split
    · exact zeroFill_out s _
    · rfl
  unfold granuleSought
  split
  · exact (startFetch_out _ _).trans hzero
  · exact hzero

theorem granuleSought_of_present {s : State} {line : Nat} (h : needsFetch s line = false) : granuleSought s line = s := by
  have hzero : granuleZeroed s line = s := by
    unfold granuleZeroed
    rw [h]
    rfl
  unfold granuleSought
  rw [hzero, h]
  rfl

/-- A line that is written whole and clean is the latest held one. -/
theorem writeClean_eq (s : State) (line : Nat) (data : Line) : ∃ b : BufLine, b.line = line ∧ b.data = data ∧ b.poison = false ∧
    writeClean s line data = dropPoison { granuleSought s line with
      host := { (granuleSought s line).host with
        arrivals := (granuleSought s line).host.arrivals + 1, buf := (granuleSought s line).host.buf ++ [b] } } line :=
  ⟨_, rfl, rfl, rfl, rfl⟩

theorem currentLine_writeClean (s : State) (line : Nat) (data : Line) : currentLine (writeClean s line data) line = (data, false) := by
  obtain ⟨b, rfl, rfl, hp, heq⟩ := writeClean_eq s line data
  have hb : buffered (writeClean s b.line b.data) b.line = some b :=
    buffered_append_self (bs := (granuleSought s b.line).host.buf) (congrArg (fun u : State => u.host.buf) heq)
  unfold currentLine
  simp only [hb, hp]

theorem writeClean_out (s : State) (line : Nat) (data : Line) : (writeClean s line data).out = s.out := by
  obtain ⟨b, -, -, -, heq⟩ := writeClean_eq s line data
  rw [heq]
  exact granuleSought_out s line

/-- A line with poison put on it is poisoned, wherever it is held. -/
theorem currentLine_injected (s : State) (line : Nat) :
    (currentLine (addPoison { s with host := { s.host with buf := poisonBuffered line s.host.buf } } line .injected) line).2 = true := by
  unfold currentLine
  split
  · rename_i b hb
    have hline := List.find?_some hb
    have hmem := List.mem_reverse.1 (List.mem_of_find?_eq_some hb)
    obtain ⟨c, -, hc⟩ := List.mem_map.1 hmem
    by_cases h : c.line = line
    · rw [if_pos h] at hc
      rw [← hc]
    · rw [if_neg h] at hc
      rw [← hc] at hline
      exact absurd (by simpa using hline) h
  · exact poisoned_addPoison _ line .injected

/-! ## The commands of the mailbox -/

/-- Settles O9: each command runs behind `throughMailbox` and `withMetadata`. -/
theorem mailboxCommandsAnswer : Obligations.MailboxCommandsAnswer := by
  refine ⟨⟨fun s link dirty h => ?_, fun s link h => ?_, fun s link h => ?_, fun s link offset data h hl => ?_,
    fun s link first length h => ?_, fun s link dirty hu hq hn => ?_⟩, fun s link dpa data h ha hw => ?_, fun s link dpa h hl ha => ?_,
    fun s link dpa h hl => ?_⟩
  · exact congrArg Host.Outcome.next (throughMailbox_withMetadata h _ _)
  · exact ⟨_, congrArg Host.Outcome.next (throughMailbox_withMetadata h _ _), healthPayload_count s⟩
  · exact ⟨_, congrArg Host.Outcome.next (throughMailbox_of_runs h _ _), fwInfoPayload_version s⟩
  · have hfit : ¬ offset + data.length > labelBytes := by unfold labelBytes; omega
    refine ⟨_, congrArg Host.Outcome.next ((throughMailbox_withMetadata h _ _).trans (if_neg hfit)), fun i b hb => ?_, fun a ha => ?_, rfl⟩
    · exact kvGet_writeLabels_inside data hb
    · exact kvGet_writeLabels_outside data (from_ := 0) ha
  · exact congrArg Host.Outcome.next (throughMailbox_withMetadata h _ _)
  · have hwait : exec (.setShutdownState link dirty) s = .next { s with host := { s.host with link := vecMod s.host.link link fun k =>
        { k with mbx := some (k.mbx.getD (.setShutdownState link dirty)) } } } := by
      change Host.Outcome.next (throughMailbox s link _ _) = _
      unfold throughMailbox
      rw [hu, hq]
      rfl
    refine ⟨_, hwait, ?_, fun l hne => getElem_vecMod_ne _ _ hne, rfl⟩
    refine (congrArg HostLink.mbx (getElem_vecMod_same s.host.link link _)).trans ?_
    dsimp only
    rw [hn]
    rfl
  · have hclear : exec (.clearPoison link dpa data) s = .next (emit (writeClean s (dpa / 64) data) (.mailbox link 0 [])) := by
      refine congrArg Host.Outcome.next ((throughMailbox_withMetadata h _ _).trans ?_)
      rw [ha, hw]
      rfl
    refine ⟨_, hclear, currentLine_writeClean s (dpa / 64) data, ?_, fun hf => ?_⟩
    · exact congrArg (· ++ [Output.mailbox link 0 []]) (writeClean_out s (dpa / 64) data)
    · obtain ⟨b, -, -, -, heq⟩ := writeClean_eq s (dpa / 64) data
      rw [heq, granuleSought_of_present hf]
      rfl
  · have hinject : exec (.injectPoison link dpa) s = .next (emit (addPoison { s with
        host := { s.host with buf := poisonBuffered (dpa / 64) s.host.buf } } (dpa / 64) .injected) (.mailbox link 0 [])) := by
      refine congrArg Host.Outcome.next ((throughMailbox_withMetadata h _ _).trans ?_)
      rw [ha, if_neg (by simp [hl])]
      rfl
    exact ⟨_, hinject, currentLine_injected s (dpa / 64), rfl, rfl, rfl⟩
  · exact congrArg Host.Outcome.next ((throughMailbox_withMetadata h _ _).trans (if_pos hl))

/-! ## Requester tables (R70, R71) -/

/-- With no request waiting, nothing is tried again. -/
theorem retrySlots_of_empty {s : State} (h : s.host.slots = []) : retrySlots s = s := by
  simp [retrySlots, h]

/-- A 4-byte write to an entry of the requester table (Table 03-5). -/
theorem shadowWrite_requester (s : State) {id : Nat} (hid : id < 4096) (value : DWord) :
    shadowWrite s (0x4000 + 4 * id) 4 value = { s with rt := { s.rt with shadow := { s.rt.shadow with
      requesters := kvSet s.rt.shadow.requesters id
        (maskWrite (requesterEntry s.rt.shadow id) (value.setWidth 32) requesterFields (BitVec.allOnes 32)) } } } := by
  have hoff : (0x4000 + 4 * id) / 4 * 4 = 0x4000 + 4 * id := by omega
  have hmod : (0x4000 + 4 * id) % 4 = 0 := by omega
  have hid4 : (0x4000 + 4 * id - 0x4000) / 4 = id := by omega
  have hval : BitVec.ofNat 32 (value.toNat * 2 ^ (8 * 0)) = value.setWidth 32 := by
    rw [Nat.mul_zero, Nat.pow_zero, Nat.mul_one]
    exact BitVec.eq_of_toNat_eq (by simp)
  have hmask : enableMask 0 4 = BitVec.allOnes 32 := by decide
  unfold shadowWrite
  rw [if_neg (by decide), hoff, hmod, hval, hmask]
  unfold shadowWord
  rw [if_pos (by omega)]
  dsimp only
  rw [hid4]

theorem requesterEntry_set_same (t : Tables) (id : Nat) (w : Word) :
    requesterEntry { t with requesters := kvSet t.requesters id w } id = w := by
  simp [requesterEntry, kvGet_kvSet_same]

theorem requesterEntry_set_ne (t : Tables) {id j : Nat} (w : Word) (h : j ≠ id) :
    requesterEntry { t with requesters := kvSet t.requesters id w } j = requesterEntry t j := by
  simp [requesterEntry, kvGet_kvSet_ne _ _ h]

/-- A table write of a function that may make it. -/
theorem exec_rtShadowWrite_requester {s : State} {link : Link} {id : Nat} (value : DWord) (hw : tableWriter s link = true)
    (hid : id < 4096) : exec (.rtShadowWrite link (0x4000 + 4 * id) 4 value) s =
      .next (if s.rt.busy then { s with rt := { s.rt with waiting := s.rt.waiting ++ [.write link (0x4000 + 4 * id) 4 value] } }
        else shadowWrite s (0x4000 + 4 * id) 4 value) := by
  have hal : (aligned (0x4000 + 4 * id) 4 && inTables (0x4000 + 4 * id)) = true := by
    have hmod : (0x4000 + 4 * id) % 4 = 0 := by omega
    simp only [aligned, inTables, hmod, Bool.and_eq_true, decide_eq_true_eq]
    exact ⟨by decide, by omega⟩
  refine congrArg Host.Outcome.next ((if_pos hal).trans ?_)
  unfold tableWrite
  rw [hw]
  rfl

theorem exec_commit {s : State} {link : Link} (hw : tableWriter s link = true) : exec (.commit link) s =
    .next (if s.rt.busy then { s with rt := { s.rt with waiting := s.rt.waiting ++ [.commit link] } } else commitTables s) := by
  refine congrArg Host.Outcome.next ?_
  unfold commitWrite
  rw [hw]
  rfl

/-- Settles O10: a write reaches the shadow copy, a commit puts it in force, and the end of the refill applies what was held. -/
theorem commitPutsTheShadowCopyInForce : Obligations.CommitPutsTheShadowCopyInForce := by
  refine ⟨fun s link id value hw hid => ⟨fun hb => ?_, fun hb => ?_⟩, fun s link hw => ⟨fun hb => ?_, fun hb => ?_⟩,
    fun s hb => ⟨fun hn => ?_, fun link rest hn => ?_⟩⟩
  · rw [exec_rtShadowWrite_requester value hw hid, hb, if_neg Bool.false_ne_true, shadowWrite_requester s hid]
    refine ⟨_, rfl, ?_, fun j hj => requesterEntry_set_ne _ _ hj, rfl⟩
    refine (requesterEntry_set_same _ _ _).trans ?_
    unfold maskWrite requesterFields
    rw [BitVec.and_allOnes]
    exact BitVec.or_comm _ _
  · rw [exec_rtShadowWrite_requester value hw hid, hb]
    rfl
  · have hcommit : exec (.commit link) s = .next (commitTables s) := by
      rw [exec_commit hw, hb]
      rfl
    exact ⟨hcommit, fun hs => hcommit.trans (congrArg Host.Outcome.next (retrySlots_of_empty hs))⟩
  · rw [exec_commit hw, hb]
    rfl
  · refine congrArg Host.Outcome.next ((if_pos hb).trans ?_)
    rw [hn]
    unfold applyWaiting
    rw [← hn]
  · refine congrArg Host.Outcome.next ((if_pos hb).trans ?_)
    rw [hn]
    rfl

end Sys2Proof.Machine
end

section
/-! DRAM channels (O11, O12): refresh and its band, and the upkeep of a channel. -/

namespace Sys2Proof.Machine

open Sys2Proof

/-! ## One channel's record -/

theorem setChan_eq_withChan (s : State) (ch : DramCh) (f : DramChan → DramChan) : setChan s ch f = withChan s ch (f s.dram.ch[ch]) := rfl

@[simp] theorem setChan_ch_same (s : State) (ch : DramCh) (f : DramChan → DramChan) : (setChan s ch f).dram.ch[ch] = f s.dram.ch[ch] :=
  getElem_vecMod_same _ _ _

theorem setChan_ch_ne (s : State) {ch k : DramCh} (f : DramChan → DramChan) (h : k ≠ ch) : (setChan s ch f).dram.ch[k] = s.dram.ch[k] :=
  getElem_vecMod_ne _ _ h

theorem withSettings_of_some {s : State} {c : Settings} (h : s.startup.settings = some c) (f : Settings → State) :
    withSettings s f = f c := by
  unfold withSettings
  rw [h]

/-! ## Refresh (R101 to R103) -/

section
variable {s : State} {c : Settings} {ch : DramCh} {rank : Fin 32}

/-- A tick while a rail fault holds DRAM, or below the limit, raises the debt. -/
theorem exec_refreshTick_raises (hc : s.startup.settings = some c) (hu : coreUp s = true) (hr : refreshes s ch = true)
    (he : lrankExists c rank = true) (w : Bool) (h : dramHeld s = true ∨ s.dram.ch[ch].debt[rank] < debtLimit s.dram.ch[ch]) :
    exec (.refreshTick ch rank w) s =
      .next (setChan s ch fun d => { d with debt := d.debt.set rank (d.debt[rank] + 1) }) := by
  refine congrArg Host.Outcome.next ((withSettings_of_some hc _).trans ?_)
  dsimp only
  rw [hu, hr, he, if_neg (by decide)]
  by_cases hd : dramHeld s = true
  · rw [if_pos hd]
  · have hlt : ¬ debtLimit s.dram.ch[ch] < s.dram.ch[ch].debt[rank] + 1 := by
      have := h.resolve_left hd
      omega
    rw [if_neg hd, decide_eq_false hlt, Bool.false_and, if_neg Bool.false_ne_true, setChan_eq_withChan, setChan_eq_withChan]
    unfold tickDebt
    rw [if_neg hlt]

/-- A tick at the limit issues a refresh, which is noted where accesses wait. -/
theorem exec_refreshTick_issues (hc : s.startup.settings = some c) (hu : coreUp s = true) (hr : refreshes s ch = true)
    (he : lrankExists c rank = true) (w : Bool) (hd : dramHeld s = false) (h : debtLimit s.dram.ch[ch] ≤ s.dram.ch[ch].debt[rank]) :
    exec (.refreshTick ch rank w) s = .next (if w then noteForced (setChan s ch oneRefresh) ch rank else setChan s ch oneRefresh) := by
  have hlt : debtLimit s.dram.ch[ch] < s.dram.ch[ch].debt[rank] + 1 := by omega
  have htick : setChan s ch (fun d => tickDebt d rank) = setChan s ch oneRefresh := by
    rw [setChan_eq_withChan, setChan_eq_withChan]
    unfold tickDebt
    rw [if_pos hlt]
  refine congrArg Host.Outcome.next ((withSettings_of_some hc _).trans ?_)
  dsimp only
  rw [hu, hr, he, if_neg (by decide), hd, if_neg Bool.false_ne_true, decide_eq_true hlt, Bool.true_and, htick]

end

/-- A forced refresh is counted in its channel's record, and logged. -/
theorem noteForced_stands (s : State) (ch : DramCh) (r : Fin 32) :
    (noteForced s ch r).dram.ch[ch].debt = s.dram.ch[ch].debt ∧ (noteForced s ch r).dram.ch[ch].refreshes = s.dram.ch[ch].refreshes ∧
      noteForced s ch r = { withNotes s (noteForced s ch r) with dram := { s.dram with ch := (noteForced s ch r).dram.ch } } := by
  have hlog (t : State) (code : BitVec 16) (sev : Nat) (payload : List Byte) (hdebt : t.dram.ch[ch].debt = s.dram.ch[ch].debt)
      (hcount : t.dram.ch[ch].refreshes = s.dram.ch[ch].refreshes) (heq : t = { s with dram := { s.dram with ch := t.dram.ch } }) :
      (logEvent t code sev payload).dram.ch[ch].debt = s.dram.ch[ch].debt ∧
        (logEvent t code sev payload).dram.ch[ch].refreshes = s.dram.ch[ch].refreshes ∧
        logEvent t code sev payload = { withNotes s (logEvent t code sev payload) with
          dram := { s.dram with ch := (logEvent t code sev payload).dram.ch } } := by
    refine ⟨?_, ?_, ?_⟩
    · rw [logEvent_dram, hdebt]
    · rw [logEvent_dram, hcount]
    · rw [logEvent_frame, heq]
      rfl
  unfold noteForced
  dsimp only
  split
  · refine ⟨?_, ?_, rfl⟩ <;> rw [setChan_ch_same]
  · refine hlog _ _ _ _ ?_ ?_ rfl <;> rw [setChan_ch_same]

/-- The 2x band begins: the debts are clamped to it, and the tick timer begins again (R102). -/
theorem setBand2x_stands {s : State} {ch : DramCh} (h : s.dram.ch[ch].band2x = false) :
    (setBand2x s ch true).dram.ch[ch].band2x = true ∧ (setBand2x s ch true).dram.ch[ch].tickFrom = s.clock.now ∧
      (∀ r : Fin 32, (setBand2x s ch true).dram.ch[ch].debt[r] = max 0 (min 2 s.dram.ch[ch].debt[r])) ∧
      (∀ c, c ≠ ch → (setBand2x s ch true).dram.ch[c] = s.dram.ch[c]) ∧
      setBand2x s ch true = { s with dram := { s.dram with ch := (setBand2x s ch true).dram.ch } } := by
  unfold setBand2x
  rw [h, if_neg (by decide)]
  dsimp only
  rw [setChan_ch_same]
  refine ⟨rfl, rfl, fun r => ?_, fun c hc => setChan_ch_ne _ _ hc, rfl⟩
  simp only [Fin.getElem_fin, Vector.getElem_map, if_true]
  split
  · omega
  · split <;> omega

/-- Settles O11: the tick and the pull-in change one debt, and a hot device moves its channel by `setBand2x`. -/
theorem refreshFollowsItsDebtAndTemperature : Obligations.RefreshFollowsItsDebtAndTemperature := by
  refine ⟨fun s c ch rank hc hu hr he => ⟨fun w h => exec_refreshTick_raises hc hu hr he w h, fun hd hlim => ⟨?_, ?_⟩, fun hd hlim => ?_,
    fun hlim => ?_⟩, fun s ch ht => ⟨?_, fun hb => ?_⟩⟩
  · exact exec_refreshTick_issues hc hu hr he false hd hlim
  · obtain ⟨hdebt, hcount, heq⟩ := noteForced_stands (setChan s ch oneRefresh) ch rank
    refine ⟨_, exec_refreshTick_issues hc hu hr he true hd hlim, hdebt.trans ?_, hcount.trans ?_, heq⟩
    · rw [setChan_ch_same]
      rfl
    · rw [setChan_ch_same]
      rfl
  · refine congrArg Host.Outcome.next ((withSettings_of_some hc _).trans (if_pos ?_))
    unfold takesCommands
    rw [hu, hr, hd, he, decide_eq_true hlim]
    rfl
  · refine congrArg Host.Outcome.next ((withSettings_of_some hc _).trans (if_neg ?_))
    rw [decide_eq_false (by omega), Bool.and_false]
    exact Bool.false_ne_true
  · refine congrArg Host.Outcome.next (if_neg ?_)
    rw [Bool.and_false]
    exact Bool.false_ne_true
  · obtain ⟨hband, hfrom, hdebt, hother, heq⟩ := setBand2x_stands hb
    have hexec : exec (.mr4Poll ch true) s = .next (logEvent (setBand2x s ch true) (Config.unnamedEvent 4) 1 (leBytes 1 ch.val)) := by
      refine congrArg Host.Outcome.next (if_pos ?_)
      rw [ht, hb]
      rfl
    refine ⟨_, hexec, ?_, ?_, ?_, ?_, ?_⟩
    · rw [logEvent_dram]
      exact hband
    · rw [logEvent_dram]
      exact hfrom
    · rw [logEvent_dram]
      exact hdebt
    · rw [logEvent_dram]
      exact hother
    · rw [logEvent_frame, heq]
      rfl

/-! ## Patrol scrub (R97, R135) -/

/-- What scrub leaves alone with no error found: the channels' records but their scrub's, memory, and the host side. -/
structure ScrubStands (s t : State) : Prop where
  chans : t.dram.ch = s.dram.ch
  mem : t.dram.mem = s.dram.mem
  host : t.host = s.host
  locked : t.shroud.locked = s.shroud.locked
  watermark : t.shroud.watermark = s.shroud.watermark
  startup : t.startup = s.startup
  minimal : t.power.minimal = s.power.minimal
  awake : ∀ (i : DramCh) (r : Fin 4), s.dram.acc[i].powerDown[r] = false → t.dram.acc[i].powerDown[r] = false

namespace ScrubStands

theorem refl (s : State) : ScrubStands s s := ⟨rfl, rfl, rfl, rfl, rfl, rfl, rfl, fun _ _ h => h⟩

theorem trans {s t u : State} (h : ScrubStands s t) (k : ScrubStands t u) : ScrubStands s u :=
  ⟨k.chans.trans h.chans, k.mem.trans h.mem, k.host.trans h.host, k.locked.trans h.locked, k.watermark.trans h.watermark,
    k.startup.trans h.startup, k.minimal.trans h.minimal, fun c r hr => k.awake c r (h.awake c r hr)⟩

theorem foldl {α : Type} {f : State → α → State} (hf : ∀ s x, ScrubStands s (f s x)) (l : List α) (s : State) :
    ScrubStands s (l.foldl f s) := by
  induction l generalizing s with
  | nil => exact .refl s
  | cons x t ih => exact (hf s x).trans (ih (f s x))

/-- An access wakes its rank, and puts none to sleep. -/
theorem accessLines_awake (s : State) (st : Nat) (isWrite : Bool) (chs : List DramCh) (v : Vector ChanAccess 17) (ch : DramCh) (rank : Fin 4)
    (h : v[ch].powerDown[rank] = false) : (accessLines s st isWrite chs v)[ch].powerDown[rank] = false := by
  unfold accessLines
  induction chs generalizing v with
  | nil => exact h
  | cons c cs ih =>
    refine ih _ ?_
    by_cases hc : ch = c
    · subst hc
      rw [getElem_vecMod_same]
      by_cases hr : rank = stripeRank s st
      · subst hr
        exact Vector.getElem_set_self _
      · exact (Vector.getElem_set_ne (stripeRank s st).isLt rank.isLt fun e => hr (Fin.ext e.symm)).trans h
    · rw [getElem_vecMod_ne _ _ hc]
      exact h

theorem touch (s : State) (st : Nat) (isWrite : Bool) (chs : List DramCh) : ScrubStands s (touch s st isWrite chs) :=
  ⟨rfl, rfl, rfl, rfl, rfl, rfl, rfl, fun ch rank h => accessLines_awake s st isWrite chs _ ch rank h⟩

theorem setParity (s : State) (st : Nat) (l : Line) : ScrubStands s (setParity s st l) := by
  unfold Machine.setParity
  exact ⟨rfl, rfl, rfl, rfl, rfl, rfl, rfl, fun _ _ h => h⟩

theorem logEvent (s : State) (code : BitVec 16) (sev : Nat) (payload : List Byte) : ScrubStands s (logEvent s code sev payload) := by
  rw [logEvent_frame]
  exact ⟨rfl, rfl, rfl, rfl, rfl, rfl, rfl, fun _ _ h => h⟩

theorem withShroud {s t : State} (h : ScrubStands s t) {sh : Shroud} (hl : sh.locked = s.shroud.locked)
    (hw : sh.watermark = s.shroud.watermark) : ScrubStands s { t with shroud := sh } :=
  ⟨h.chans, h.mem, h.host, hl, hw, h.startup, h.minimal, h.awake⟩

theorem repairParity (s : State) (st : Nat) : ScrubStands s (repairParity s st) := by
  unfold Machine.repairParity
  split
  · refine ScrubStands.trans ?_ (logEvent _ _ _ _)
    exact ((setParity s st (stripeXor s.dram.mem st)).trans (touch _ st true [Config.parityChannel st])).withShroud rfl rfl
  · exact .refl s

end ScrubStands

/-- A scrub's reads with no error found, and its repairs. -/
theorem scrubStripes_nil (s : State) (ch : DramCh) (sts mismatch : List Nat) : scrubStripes s ch sts mismatch [] =
    (mismatch.filter (sts.filter (stripePresent s)).contains).foldl repairParity
      ((sts.filter (stripePresent s)).foldl (fun s st => touch s st false [ch]) (scrubCount s ch (sts.filter (stripePresent s)).length)) := rfl

theorem scrubStripes_stands (s : State) (ch : DramCh) (sts mismatch : List Nat) :
    ScrubStands (scrubCount s ch (sts.filter (stripePresent s)).length) (scrubStripes s ch sts mismatch []) := by
  rw [scrubStripes_nil]
  exact (ScrubStands.foldl (fun s st => .touch s st false [ch]) _ _).trans (.foldl .repairParity _ _)

/-- The scrub's count changes its place and the time of its pass. -/
theorem scrubCount_ch (s : State) (ch : DramCh) (n : Nat) : (scrubCount s ch n).dram.ch[ch] = { s.dram.ch[ch] with
    scrubPos := (scrubCount s ch n).dram.ch[ch].scrubPos, scrubPassAt := (scrubCount s ch n).dram.ch[ch].scrubPassAt } := by
  unfold scrubCount
  rw [setChan_ch_same]
  split <;> rfl

theorem scrubCount_run (s : State) (ch : DramCh) (n : Nat) (i : DramCh) : (scrubCount s ch n).dram.ch[i].run = s.dram.ch[i].run := by
  by_cases h : i = ch
  · subst h
    rw [scrubCount_ch]
  · exact congrArg DramChan.run (setChan_ch_ne _ _ h)

/-- A repaired parity line is the XOR of its data lines, and is counted (R135). -/
theorem repairParity_of_verifiable {s : State} {st : Nat} (hv : verifiable s st = true) (hwf : Memory.wf s.dram.parity = true) :
    readLine (repairParity s st).dram.parity st = stripeXor s.dram.mem st ∧
      (repairParity s st).shroud.mismatch = satAdd 16 s.shroud.mismatch 1 := by
  unfold repairParity
  rw [if_pos hv, logEvent_dram, logEvent_shroud]
  have hpar : (touch (setParity s st (stripeXor s.dram.mem st)) st true [Config.parityChannel st]).dram.parity =
      writeLine s.dram.parity st (stripeXor s.dram.mem st) := by simp only [touch, setParity]
  refine ⟨?_, by simp only⟩
  dsimp only
  rw [hpar]
  exact readLine_writeLine_same _ _ hwf

/-- A stripe stays verifiable while runs, lock and watermark stand. -/
theorem verifiable_congr {s t : State} {st : Nat} (hrun : ∀ i : DramCh, t.dram.ch[i].run = s.dram.ch[i].run)
    (hl : t.shroud.locked = s.shroud.locked) (hw : t.shroud.watermark = s.shroud.watermark) (hs : t.startup = s.startup)
    (hm : t.power.minimal = s.power.minimal) : verifiable t st = verifiable s st := by
  have hup : underParity t st = underParity s st := by
    unfold underParity shroudOn hvBytes
    rw [hs, hm]
  unfold verifiable
  simp only [hup, hl, hw, hrun]

/-! ## The commands of upkeep -/

section
variable {s : State} {c : Settings} {ch : DramCh} {rank : Fin 4}

/-- A scrub that nothing holds back. -/
theorem exec_patrolScrub (hc : s.startup.settings = some c) (hr : rankExists c rank = true) (hcal : calibrates s ch = true)
    (hw : maintenanceWaits s ch = false) (stripes mismatch : List Nat) (errs : List (Nat × EccOutcome)) :
    exec (.patrolScrub ch rank stripes mismatch errs) s = .next (
      if s.dram.acc[ch].powerDown[rank] then
        setChan s ch fun d => { d with
          scrubOwed := d.scrubOwed.set rank (d.scrubOwed[rank] ++ stripes),
          owedAt := if d.scrubOwed[rank].isEmpty then d.owedAt.set rank s.clock.now else d.owedAt }
      else scrubStripes s ch stripes mismatch errs) := by
  refine congrArg Host.Outcome.next ((withSettings_of_some hc _).trans ?_)
  rw [hw, hcal, hr]
  rfl

theorem exec_patrolScrub_awake (hc : s.startup.settings = some c) (hr : rankExists c rank = true) (hcal : calibrates s ch = true)
    (hw : maintenanceWaits s ch = false) (stripes mismatch : List Nat) (errs : List (Nat × EccOutcome))
    (ha : s.dram.acc[ch].powerDown[rank] = false) :
    exec (.patrolScrub ch rank stripes mismatch errs) s = .next (scrubStripes s ch stripes mismatch errs) := by
  rw [exec_patrolScrub hc hr hcal hw, ha, if_neg Bool.false_ne_true]

/-- The rank woken, with nothing owed any more. -/
def scrubWoken (s : State) (ch : DramCh) (rank : Fin 4) : State :=
  let t := setChan s ch fun d => { d with scrubOwed := d.scrubOwed.set rank [] }
  { t with dram := { t.dram with acc := vecMod t.dram.acc ch fun a => { a with powerDown := a.powerDown.set rank false } } }

theorem exec_scrubWake (hcal : calibrates s ch = true) (hw : maintenanceWaits s ch = false) (ho : s.dram.ch[ch].scrubOwed[rank] ≠ [])
    (hd : s.dram.ch[ch].owedAt[rank] + 10 ≤ s.clock.now) (mismatch : List Nat) :
    exec (.scrubWake ch rank mismatch []) s =
      .next (updateIdle (scrubStripes (scrubWoken s ch rank) ch s.dram.ch[ch].scrubOwed[rank] mismatch [])) := by
  have hdue : due s s.dram.ch[ch].owedAt[rank] 10 = true := decide_eq_true (by omega)
  have hne : s.dram.ch[ch].scrubOwed[rank].isEmpty = false := by simpa using ho
  refine congrArg Host.Outcome.next (if_pos ?_)
  rw [hw, hcal, hdue, hne]
  rfl

end

/-- A scrub with nothing to repair counts its reads, and wakes its ranks. -/
theorem scrubStripes_reads_frame (s : State) (ch : DramCh) (stripes : List Nat) : ∃ acc idle, scrubStripes s ch stripes [] [] =
    { scrubCount s ch (stripes.filter (stripePresent s)).length with
      dram := { (scrubCount s ch (stripes.filter (stripePresent s)).length).dram with acc := acc },
      power := { s.power with idle := idle } } := by
  rw [scrubStripes_nil, List.filter_nil, List.foldl_nil]
  have hfold (l : List Nat) (u : State) : ∃ acc idle, l.foldl (fun s st => touch s st false [ch]) u =
      { u with dram := { u.dram with acc := acc }, power := { u.power with idle := idle } } := by
    induction l generalizing u with
    | nil => exact ⟨u.dram.acc, u.power.idle, rfl⟩
    | cons st l ih =>
      obtain ⟨acc, idle, h⟩ := ih (touch u st false [ch])
      exact ⟨acc, idle, h⟩
  exact hfold _ _

/-- Settles O12: calibrations and the scrub's share change the channel's own record; a scrub runs by `scrubStripes`. -/
theorem channelUpkeepCompletes : Obligations.ChannelUpkeepCompletes := by
  intro s c ch rank hc hr
  refine ⟨fun hcal => ⟨?_, ?_, fun drift => ?_⟩, fun hp ht => ?_, fun hcal hw => ⟨fun stripes mismatch errs hd => ?_, fun stripes ha => ?_,
    fun st hs ha hpres hv => ?_, fun mismatch ho hd => ?_⟩⟩
  · refine congrArg Host.Outcome.next ((withSettings_of_some hc _).trans (if_pos ?_))
    rw [hcal, hr]
    rfl
  · refine congrArg Host.Outcome.next ((withSettings_of_some hc _).trans (if_pos ?_))
    rw [hcal, hr]
    rfl
  · refine congrArg Host.Outcome.next ((withSettings_of_some hc _).trans (if_pos ?_))
    rw [hcal, hr]
    rfl
  · have hexec : exec (.powerDownEntry ch rank) s = .next (updateIdle { s with dram := { s.dram with
        acc := vecMod s.dram.acc ch fun a => { a with powerDown := a.powerDown.set rank true } } }) := by
      refine congrArg Host.Outcome.next ((withSettings_of_some hc _).trans (if_pos ?_))
      rw [ht, hr, bne_iff_ne.2 hp]
      rfl
    exact ⟨_, hexec, getElem_vecMod_same s.dram.acc ch _, fun k hk => getElem_vecMod_ne s.dram.acc _ hk, rfl, rfl⟩
  · rw [exec_patrolScrub hc hr hcal hw, hd, if_pos rfl, setChan_eq_withChan]
    simp only [List.isEmpty_iff]
  · obtain ⟨acc, idle, heq⟩ := scrubStripes_reads_frame s ch stripes
    refine ⟨_, exec_patrolScrub_awake hc hr hcal hw stripes [] [] ha, ?_, ?_⟩
    · rw [heq]
    · rw [heq]
      rfl
  · have hread : scrubStripes s ch [st] [st] [] = repairParity (touch (scrubCount s ch 1) st false [ch]) st := by
      rw [scrubStripes_nil, List.filter_cons_of_pos hpres]
      simp
    have hver : verifiable (touch (scrubCount s ch 1) st false [ch]) st = true := by
      rw [verifiable_congr (s := s) (t := touch (scrubCount s ch 1) st false [ch]) (scrubCount_run s ch 1) rfl rfl rfl rfl]
      exact hv
    obtain ⟨hpar, hmis⟩ := repairParity_of_verifiable hver hs.2.1
    have hstands := scrubStripes_stands s ch [st] [st]
    refine ⟨_, exec_patrolScrub_awake hc hr hcal hw [st] [st] [] ha, ?_, ?_, hstands.mem, hstands.host⟩
    · rw [hread]
      exact hpar
    · rw [hread]
      exact hmis
  · have hstands := scrubStripes_stands (scrubWoken s ch rank) ch s.dram.ch[ch].scrubOwed[rank] mismatch
    refine ⟨_, exec_scrubWake hcal hw ho hd mismatch, ?_, ?_, fun k hk => ?_, hstands.mem, hstands.host⟩
    · change (scrubStripes _ ch _ mismatch []).dram.ch[ch].scrubOwed[rank] = []
      rw [hstands.chans, scrubCount_ch]
      change (setChan s ch _).dram.ch[ch].scrubOwed[rank] = []
      rw [setChan_ch_same]
      exact Vector.getElem_set_self _
    · refine hstands.awake ch rank ?_
      change (vecMod s.dram.acc ch _)[ch].powerDown[rank] = false
      rw [getElem_vecMod_same]
      exact Vector.getElem_set_self _
    · change (scrubStripes _ ch _ mismatch []).dram.ch[k] = _
      rw [hstands.chans]
      exact (setChan_ch_ne _ _ hk).trans (setChan_ch_ne _ _ hk)

end Sys2Proof.Machine
end

section
/-! Retraining, write CRC errors and lost channels (O13, O14). -/

namespace Sys2Proof.Machine

open Sys2Proof

/-! ## Lost channels (R116, R119) -/

/-- With one channel lost, that channel alone is missing. -/
theorem missingChannels_setChan {s : State} {ch : DramCh} {f : DramChan → DramChan} (hm : missingChannels s = [])
    (hf : isMissing (f s.dram.ch[ch]) = true) : (missingChannels (setChan s ch f)).head? = some ch := by
  have hone (i : DramCh) : isMissing (setChan s ch f).dram.ch[i] = (i == ch) := by
    by_cases h : i = ch
    · subst h
      rw [setChan_ch_same, hf, beq_self_eq_true]
    · rw [setChan_ch_ne _ _ h, beq_eq_false_iff_ne.2 h]
      have hi := List.filter_eq_nil_iff.1 hm i (List.mem_finRange i)
      exact Bool.eq_false_iff.2 hi
  have hlist : missingChannels (setChan s ch f) = (fins 17).filter (· == ch) := List.filter_congr fun i _ => hone i
  have hhead : ∀ k : DramCh, ((fins 17).filter (· == k)).head? = some k := by decide
  rw [hlist, hhead ch]

theorem missingChannels_congr {s t : State} (h : t.dram.ch = s.dram.ch) : missingChannels t = missingChannels s := by
  unfold missingChannels
  rw [h]

theorem shroudOn_congr {s t : State} (h : t.startup = s.startup) : shroudOn t = shroudOn s := by
  unfold shroudOn
  rw [h]

/-- A channel whose mode is that of an `.any` over all channels. -/
theorem any_toList_of_getElem {v : Vector DramChan 17} {p : DramChan → Bool} (ch : DramCh) (h : p v[ch] = true) : v.toList.any p = true :=
  List.any_eq_true.2 ⟨v[ch], Vector.mem_toList_iff.2 (Vector.getElem_mem ch.isLt), h⟩

theorem setShroudMode_on {s : State} (h : shroudOn s = true) :
    setShroudMode s = { s with shroud := { s.shroud with mode := shroudModeOf s, channel := (missingChannels s).head? } } := by
  unfold setShroudMode
  rw [if_pos h]

theorem setShroudMode_dram (s : State) : (setShroudMode s).dram = s.dram := by
  unfold setShroudMode
  split <;> rfl

/-- The record of a channel that has left service. -/
def lostChannel (s : State) (d : DramChan) : DramChan :=
  { d with run := .outOfService, resetN := false, rate := 0, slicesLeft := 0, debt := Vector.replicate 32 0, retryAt := s.clock.now }

/-- The state with the channel out of service and out of the retraining queue, reported. -/
def lostReported (s : State) (ch : DramCh) : State :=
  let s := setChan s ch (lostChannel s)
  raise { s with dram := { s.dram with retrainQ := s.dram.retrainQ.filter fun i => i != ch } } 0x0301 []

theorem lostReported_frame (s : State) (ch : DramCh) : lostReported s ch =
    { withNotes s (lostReported s ch) with
      dram := { s.dram with ch := (setChan s ch (lostChannel s)).dram.ch, retrainQ := s.dram.retrainQ.filter fun i => i != ch } } := by
  unfold lostReported
  exact raise_frame _ _ _

/-- The state with its pass stopped. -/
def passStopped (s : State) : State := { s with shroud := { s.shroud with pass := none, watermark := 0, left := 0 } }

/-- The first channel lost with Shroud on: its lines are reconstructed from then on. -/
theorem channelOut_shrouded {s : State} {ch : DramCh} (hm : missingChannels s = []) (hon : shroudOn s = true) :
    channelOut s ch = evalPsub (setShroudMode (passStopped (lostReported s ch))) := by
  have hon' : shroudOn (lostReported s ch) = true := by
    rw [lostReported_frame]
    exact hon
  unfold channelOut
  rw [hm]
  exact if_pos hon'

theorem channelOut_reconstructs {s : State} {ch : DramCh} (hm : missingChannels s = []) (hon : shroudOn s = true) :
    (channelOut s ch).dram = { s.dram with
      ch := (setChan s ch (lostChannel s)).dram.ch, retrainQ := s.dram.retrainQ.filter fun i => i != ch } ∧
    (channelOut s ch).shroud.mode = .reconstruct ∧ (channelOut s ch).shroud.channel = some ch ∧ (channelOut s ch).host = s.host ∧
    (channelOut s ch).power = s.power ∧ (channelOut s ch).rails = s.rails := by
  have hframe := lostReported_frame s ch
  have hdram : (lostReported s ch).dram = { s.dram with
      ch := (setChan s ch (lostChannel s)).dram.ch, retrainQ := s.dram.retrainQ.filter fun i => i != ch } :=
    (congrArg State.dram hframe :)
  have hch : (passStopped (lostReported s ch)).dram.ch = (setChan s ch (lostChannel s)).dram.ch := (congrArg (·.ch) hdram :)
  have hon' : shroudOn (passStopped (lostReported s ch)) = true := (shroudOn_congr (congrArg State.startup hframe :)).trans hon
  rw [channelOut_shrouded hm hon, setShroudMode_on hon', evalPsub_dram, evalPsub_shroud, evalPsub_host, evalPsub_power]
  refine ⟨hdram, ?_, ?_, (congrArg State.host hframe :), (congrArg State.power hframe :), ?_⟩
  · refine if_pos ?_
    rw [hch]
    refine any_toList_of_getElem ch ?_
    rw [setChan_ch_same]
    rfl
  · change (missingChannels (passStopped (lostReported s ch))).head? = some ch
    rw [missingChannels_congr (s := setChan s ch (lostChannel s)) hch]
    exact missingChannels_setChan hm rfl
  · rw [evalPsub_frame]
    exact (congrArg State.rails hframe :)

/-! ## Write CRC errors (R105) -/

/-- What the replay of a channel's writes changes: the lines of parity, the accesses, and rest. -/
theorem replayWrites_frame (s : State) (ch : DramCh) : ∃ acc parity idle, replayWrites s ch =
    { s with dram := { s.dram with acc := acc, parity := parity }, power := { s.power with idle := idle } } := by
  have hfold {α : Type} (f : State → α → State)
      (hf : ∀ u x, ∃ acc parity idle, f u x =
        { u with dram := { u.dram with acc := acc, parity := parity }, power := { u.power with idle := idle } })
      (l : List α) (u : State) : ∃ acc parity idle, l.foldl f u =
        { u with dram := { u.dram with acc := acc, parity := parity }, power := { u.power with idle := idle } } := by
    induction l generalizing u with
    | nil => exact ⟨u.dram.acc, u.dram.parity, u.power.idle, rfl⟩
    | cons x t ih =>
      obtain ⟨_, _, _, hx⟩ := hf u x
      obtain ⟨acc, parity, idle, ht⟩ := ih (f u x)
      refine ⟨acc, parity, idle, ?_⟩
      rw [List.foldl_cons, ht, hx]
  unfold replayWrites
  dsimp only
  obtain ⟨_, _, _, h1⟩ := hfold (fun (u : State) (b : BufLine) =>
    if b.drained && homeOf u b.line == ch then touch u (stripeOf b.line) true [ch] else u) (fun u b => by
      split
      · exact ⟨_, u.dram.parity, _, rfl⟩
      · exact ⟨u.dram.acc, u.dram.parity, u.power.idle, rfl⟩) s.host.buf s
  rw [h1]
  obtain ⟨acc, parity, idle, h2⟩ := hfold (fun (u : State) (e : StagingEntry) =>
    if e.written && Config.parityChannel e.stripe == ch then setParity (touch u e.stripe true [ch]) e.stripe e.parity else u) (fun u e => by
      split
      · exact ⟨_, _, _, rfl⟩
      · exact ⟨u.dram.acc, u.dram.parity, u.power.idle, rfl⟩) s.shroud.staging
    { s with dram := { s.dram with acc := _, parity := _ }, power := { s.power with idle := _ } }
  exact ⟨acc, parity, idle, h2⟩

/-- A queued retraining changes the queue alone. -/
theorem queueRetrain_frame (s : State) (ch : DramCh) :
    queueRetrain s ch = { s with dram := { s.dram with retrainQ := (queueRetrain s ch).dram.retrainQ } } := by
  unfold queueRetrain
  split <;> rfl

/-- A channel in service is in the queue once it has been queued. -/
theorem mem_queueRetrain {s : State} {ch : DramCh} (h : s.dram.ch[ch].run = .inService) : ch ∈ (queueRetrain s ch).dram.retrainQ := by
  unfold queueRetrain chanUp
  rw [h]
  by_cases hc : s.dram.retrainQ.contains ch = true
  · rw [hc, Bool.true_or, Bool.true_or, if_pos rfl]
    exact List.contains_iff_mem.1 hc
  · rw [Bool.eq_false_iff.2 hc, if_neg (by decide)]
    exact List.mem_filter.2 ⟨List.mem_finRange ch, by rw [beq_self_eq_true, Bool.true_or]⟩

/-- The channel's record after a write CRC error. -/
def crcCounted (s : State) (d : DramChan) : DramChan :=
  { d with replays := d.replays + 1, replayAt := some s.clock.now, crcTimes := recent s 1000 d.crcTimes ++ [s.clock.now] }

/-- Fewer than eight replays in the last second are only counted. -/
theorem countCrc_of_few {s : State} {ch : DramCh} (h : (recent s 1000 s.dram.ch[ch].crcTimes).length < 7) :
    countCrc s ch = setChan s ch fun d => { d with crcTimes := inSecond s d.crcTimes } := by
  unfold countCrc
  refine if_neg ?_
  rw [setChan_ch_same]
  change ¬ (recent s 1000 s.dram.ch[ch].crcTimes ++ [s.clock.now]).length ≥ 8
  rw [List.length_append, List.length_singleton]
  omega

theorem vecMod_vecMod {α : Type} {n : Nat} (v : Vector α n) (i : Fin n) (f g : α → α) :
    vecMod (vecMod v i f) i g = vecMod v i fun x => g (f x) := by
  unfold vecMod
  rw [Vector.set_set]
  simp

section
variable {s : State} {ch : DramCh} (row : RowId) (column : Nat)

theorem exec_writeCrcError (ht : takesCommands s ch = true) (hr : 16 ≤ s.dram.ch[ch].rate) :
    exec (.writeCrcError ch row column) s = .next (
      if (logDram s 5 ch (some row) column 15 none).dram.ch[ch].replays ≥ 3 then
        queueRetrain (setChan (logDram s 5 ch (some row) column 15 none) ch fun d => { d with replays := 0, replayAt := none }) ch
      else countCrc (replayWrites (setChan (logDram s 5 ch (some row) column 15 none) ch fun d =>
        { d with replays := d.replays + 1, replayAt := some s.clock.now }) ch) ch) := by
  refine congrArg Host.Outcome.next ((if_pos ?_).trans ?_)
  · rw [ht, decide_eq_true hr]
    rfl
  · rw [logDram_frame]

/-- A replay is counted, with the writes repeated. -/
theorem writeCrcError_replayed (hfew : (recent s 1000 s.dram.ch[ch].crcTimes).length < 7) :
    ∃ acc parity idle recorder, countCrc (replayWrites (setChan (logDram s 5 ch (some row) column 15 none) ch fun d =>
        { d with replays := d.replays + 1, replayAt := some s.clock.now }) ch) ch =
      { s with dram := { s.dram with ch := vecMod s.dram.ch ch (crcCounted s), acc := acc, parity := parity },
               fresh := s.fresh + 1, recorder := recorder, power := { s.power with idle := idle } } := by
  rw [logDram_frame]
  obtain ⟨acc, parity, idle, h⟩ := replayWrites_frame (setChan
    { s with fresh := s.fresh + 1, recorder := (logDram s 5 ch (some row) column 15 none).recorder } ch fun d =>
    { d with replays := d.replays + 1, replayAt := some s.clock.now }) ch
  refine ⟨acc, parity, idle, (logDram s 5 ch (some row) column 15 none).recorder, ?_⟩
  rw [h, countCrc_of_few]
  · simp only [setChan, vecMod_vecMod]
    rfl
  · change (recent s 1000 (setChan _ ch _).dram.ch[ch].crcTimes).length < 7
    rw [setChan_ch_same]
    exact hfew

end

/-- Settles O13: a replay by `writeCrcError_replayed`, the fourth failure by `queueRetrain`, a lost channel by `channelOut`. -/
theorem writeErrorsAndLostChannelsAreCovered : Obligations.WriteErrorsAndLostChannelsAreCovered := by
  refine ⟨fun s ch row column ht hr => ⟨fun hrep hfew => ?_, fun hrep hrun => ?_⟩, fun s ch hsv hup hrun hleft hm hon => ?_⟩
  · obtain ⟨acc, parity, idle, recorder, heq⟩ := writeCrcError_replayed (ch := ch) row column hfew
    have hnot : ¬ (logDram s 5 ch (some row) column 15 none).dram.ch[ch].replays ≥ 3 := by
      rw [logDram_frame]
      exact Nat.not_le.2 hrep
    refine ⟨_, (exec_writeCrcError row column ht hr).trans (congrArg Host.Outcome.next ((if_neg hnot).trans heq)), rfl, rfl, rfl⟩
  · have hthree : (logDram s 5 ch (some row) column 15 none).dram.ch[ch].replays ≥ 3 := by
      rw [logDram_frame]
      exact hrep
    refine ⟨_, (exec_writeCrcError row column ht hr).trans (congrArg Host.Outcome.next (if_pos hthree)), mem_queueRetrain ?_, ?_, ?_, ?_⟩
    · rw [setChan_ch_same, logDram_frame]
      exact hrun
    · rw [queueRetrain_frame]
      change (setChan _ ch _).dram.ch[ch].replays = 0
      rw [setChan_ch_same]
    · rw [queueRetrain_frame, logDram_frame]
      rfl
    · rw [queueRetrain_frame, logDram_frame]
      rfl
  · have hexec : exec (.channelRetrainComplete ch false) s = .next (channelOut (logDram s 7 ch none 0 0 none) ch) := by
      change execChannelRetrainComplete ch false s = _
      unfold execChannelRetrainComplete
      rw [hsv, hup, hrun, hleft]
      rfl
    have hlog := logDram_frame s 7 ch none 0 0 none
    have hdram : (logDram s 7 ch none 0 0 none).dram = s.dram := (congrArg State.dram hlog :)
    obtain ⟨hd, hmode, hchan, hhost, hpower, hrails⟩ := channelOut_reconstructs (s := logDram s 7 ch none 0 0 none) (ch := ch)
      ((missingChannels_congr (congrArg (·.ch) hdram :)).trans hm) ((shroudOn_congr (congrArg State.startup hlog :)).trans hon)
    refine ⟨_, hexec, ?_, ?_, fun c hc => ?_, ?_, hmode, hchan, ?_, hhost.trans (congrArg State.host hlog :),
      hpower.trans (congrArg State.power hlog :), hrails.trans (congrArg State.rails hlog :)⟩
    · rw [hd]
      change (setChan _ ch _).dram.ch[ch].run = _
      rw [setChan_ch_same]
      rfl
    · rw [hd]
      change (setChan _ ch _).dram.ch[ch].resetN = _
      rw [setChan_ch_same]
      rfl
    · rw [hd]
      change (setChan _ ch _).dram.ch[c] = _
      rw [setChan_ch_ne _ _ hc, hdram]
    · rw [hd]
      exact fun hmem => bne_iff_ne.1 (List.mem_filter.1 hmem).2 rfl
    · rw [hd, hdram]

/-! ## Retraining, a channel at a time (R113, R114, R117) -/

section
variable {s : State} {c : Settings} {ch : DramCh}

/-- A start that nothing holds back takes the first channel of the queue. -/
theorem exec_channelRetrainStart {rest : List DramCh} (hc : s.startup.settings = some c) (hm : mayRetrain s = true)
    (hq : s.dram.retrainQ = ch :: rest) (hrun : s.dram.ch[ch].run = .inService) (hw : maintainerWaits s ch = false) :
    exec .channelRetrainStart s =
      .next (if someRetrains s then s else startRetrain { s with dram := { s.dram with retrainQ := rest } } c ch) := by
  refine congrArg Host.Outcome.next ((withSettings_of_some hc _).trans ?_)
  have hhead : s.dram.retrainQ.head?.any (maintainerWaits s) = false := by rw [hq]; exact hw
  rw [hm, hhead, hq]
  cases someRetrains s
  · exact if_pos hrun
  · rfl

/-- A whole-channel retraining: every channel is in service, and Shroud on. -/
theorem wholeChannel_iff : wholeChannel s = true ↔
    shroudOn s = true ∧ (∀ i : DramCh, s.dram.ch[i].run = .inService) ∧ s.shroud.pass = none := by
  unfold wholeChannel
  rw [Bool.and_eq_true, Bool.and_eq_true, List.all_eq_true, Option.isNone_iff_eq_none, and_assoc]
  refine and_congr_right fun _ => and_congr_left fun _ => ⟨fun h i => ?_, fun h d hd => ?_⟩
  · exact beq_iff_eq.1 (h _ (Vector.mem_toList_iff.2 (Vector.getElem_mem i.isLt)))
  · obtain ⟨i, hi, rfl⟩ := Vector.mem_iff_getElem.1 (Vector.mem_toList_iff.1 hd)
    exact beq_iff_eq.2 (h ⟨i, hi⟩)

theorem any_toList_eq_false {v : Vector DramChan 17} {p : DramChan → Bool} (h : ∀ i : DramCh, p v[i] = false) : v.toList.any p = false := by
  refine List.any_eq_false.2 fun d hd => ?_
  obtain ⟨i, hi, rfl⟩ := Vector.mem_iff_getElem.1 (Vector.mem_toList_iff.1 hd)
  exact Bool.eq_false_iff.1 (h ⟨i, hi⟩)

/-- With one channel retraining and all others in service, the mode is RETRAIN. -/
theorem shroudModeOf_retraining (hch : s.dram.ch[ch].run = .retraining) (h : ∀ i : DramCh, i ≠ ch → s.dram.ch[i].run = .inService) :
    shroudModeOf s = .retrain := by
  have hrun (i : DramCh) : runOf s.dram.ch[i] = .inService ∨ runOf s.dram.ch[i] = .retraining := by
    unfold runOf
    by_cases hi : i = ch
    · rw [hi, hch]
      exact .inr rfl
    · rw [h i hi]
      exact .inl rfl
  unfold shroudModeOf
  rw [if_neg, if_neg, if_pos]
  · refine any_toList_of_getElem ch ?_
    unfold runOf
    rw [hch]
    rfl
  · refine Bool.eq_false_iff.1 (any_toList_eq_false fun i => ?_)
    obtain hi | hi := hrun i <;> rw [hi] <;> rfl
  · refine Bool.eq_false_iff.1 (any_toList_eq_false fun i => ?_)
    obtain hi | hi := hrun i <;> rw [hi] <;> rfl

theorem missingChannels_of_inService (h : ∀ i : DramCh, s.dram.ch[i].run = .inService) : missingChannels s = [] := by
  refine List.filter_eq_nil_iff.2 fun i _ => ?_
  unfold isMissing runOf
  rw [h i, if_neg (by decide)]
  decide

/-- A whole-channel retraining starts. -/
theorem startRetrain_whole (hw : wholeChannel s = true) :
    (startRetrain s c ch).dram = { s.dram with ch := vecMod s.dram.ch ch fun d => { d with run := .retraining } } ∧
      (startRetrain s c ch).shroud.mode = .retrain ∧ (startRetrain s c ch).shroud.channel = some ch := by
  obtain ⟨hon, hrun, -⟩ := wholeChannel_iff.1 hw
  unfold startRetrain
  rw [if_pos hw]
  dsimp only
  rw [setShroudMode_on (s := { setChan s ch _ with shroud := _ }) hon]
  refine ⟨rfl, shroudModeOf_retraining (ch := ch) ?_ fun i hi => ?_, ?_⟩
  · change (setChan s ch _).dram.ch[ch].run = _
    rw [setChan_ch_same]
  · change (setChan s ch _).dram.ch[i].run = _
    rw [setChan_ch_ne _ _ hi]
    exact hrun i
  · rw [← missingChannels_setChan (missingChannels_of_inService hrun) (f := fun d => { d with run := .retraining }) rfl]
    rfl

/-- A channel that trained: in service, or its stale regions are rewritten first. -/
theorem exec_channelRetrainComplete_whole (hsv : saving s = false) (hup : coreUp s = true) (hrun : s.dram.ch[ch].run = .retraining)
    (hp : s.shroud.pass = none) (hw : s.fw.waitRetrain = false) :
    exec (.channelRetrainComplete ch true) s = .next (endWhole (noteTrained s ch) ch) := by
  change execChannelRetrainComplete ch true s = _
  unfold execChannelRetrainComplete
  rw [hsv, hup, hrun, hp]
  refine congrArg Host.Outcome.next (retryActivation_of_none ?_)
  change (endWhole (noteTrained s ch) ch).fw.waitRetrain = false
  unfold endWhole setShroudMode
  split
  · split <;> exact hw
  · exact hw

theorem endWhole_stands (s : State) (ch : DramCh) : (endWhole s ch).dram.mem = s.dram.mem ∧
    if s.shroud.stale = [] then (endWhole s ch).dram.ch[ch].run = .inService
    else (endWhole s ch).shroud.pass = some .staleRewrite ∧ (endWhole s ch).dram.ch[ch].run = s.dram.ch[ch].run := by
  unfold endWhole
  by_cases hst : s.shroud.stale = []
  · rw [if_pos hst, if_pos (List.isEmpty_iff.2 hst), setShroudMode_dram]
    exact ⟨rfl, congrArg DramChan.run (setChan_ch_same _ _ _)⟩
  · rw [if_neg hst, if_neg fun h => hst (List.isEmpty_iff.1 h)]
    exact ⟨rfl, rfl, rfl⟩

/-- A channel out of service that trains is rebuilt, or its relocated lines are copied back. -/
theorem rejoin_stands (s : State) (ch : DramCh) : (rejoin s ch).dram.ch[ch].run = .rebuilding ∧ (rejoin s ch).dram.ch[ch].resetN = true ∧
    (shroudOn s = true → (rejoin s ch).shroud.pass = some .rebuild ∧ (rejoin s ch).shroud.watermark = 0) ∧
    (rejoin s ch).dram.mem = s.dram.mem := by
  have hdram : (rejoin s ch).dram = (noteTrained (setChan s ch fun d =>
      { d with run := .rebuilding, resetN := true, rate := s.dram.rate / 4, retryAt := s.clock.now }) ch).dram := by
    unfold rejoin
    dsimp only
    split
    · exact setShroudMode_dram _
    · split <;> rfl
  have hch : (rejoin s ch).dram.ch[ch].run = .rebuilding ∧ (rejoin s ch).dram.ch[ch].resetN = true := by
    rw [hdram]
    unfold noteTrained
    rw [setChan_ch_same, setChan_ch_same]
    exact ⟨rfl, rfl⟩
  refine ⟨hch.1, hch.2, fun hon => ?_, by rw [hdram]; rfl⟩
  unfold rejoin
  dsimp only
  split
  · exact ⟨rfl, rfl⟩
  · rename_i hoff
    exact absurd hon hoff

end

/-- Settles O14: a start by `startRetrain`, an end by `endWhole`, a retry by `rejoin`. -/
theorem retrainingRunsOneChannelAtATime : Obligations.RetrainingRunsOneChannelAtATime := by
  refine ⟨fun s c ch rest hc hm hq hrun hw => ⟨fun hsome => ?_, fun hsome hwhole => ?_, fun hsome hwhole => ?_⟩,
    fun s c ch hc hm hrun hleft hdue => ?_, fun s ch hsv hup => ⟨fun hrun hleft => ?_, fun hrun hp hwait => ?_⟩,
    fun s ch hm hrun hdue => ⟨?_, ?_⟩⟩
  · rw [exec_channelRetrainStart hc hm hq hrun hw, if_pos hsome]
  · obtain ⟨hdram, hmode, hchan⟩ := startRetrain_whole (s := { s with dram := { s.dram with retrainQ := rest } }) (c := c) (ch := ch) hwhole
    refine ⟨_, (exec_channelRetrainStart hc hm hq hrun hw).trans (congrArg Host.Outcome.next (if_neg (Bool.eq_false_iff.1 hsome))),
      ?_, ?_, hmode, hchan, ?_⟩
    · rw [hdram]
      exact congrArg DramChan.run (getElem_vecMod_same _ _ _)
    · rw [hdram]
    · rw [hdram]
  · rw [exec_channelRetrainStart hc hm hq hrun hw, if_neg (Bool.eq_false_iff.1 hsome)]
    exact congrArg Host.Outcome.next (if_neg (Bool.eq_false_iff.1 hwhole))
  · refine congrArg Host.Outcome.next ((withSettings_of_some hc _).trans (if_pos ?_))
    have hgo : (s.dram.ch[ch].slicesLeft == sliceCount c || due s s.dram.ch[ch].sliceAt 10) = true := by
      obtain hfirst | hlater := hdue
      · have hfull : s.dram.ch[ch].slicesLeft = sliceCount c := hfirst
        rw [beq_iff_eq.2 hfull, Bool.true_or]
      · rw [show due s s.dram.ch[ch].sliceAt 10 = true from decide_eq_true (by omega), Bool.or_true]
    rw [hm, hrun, decide_eq_true hleft, hgo]
    rfl
  · have hexec : exec (.channelRetrainComplete ch true) s = .next (setChan (noteTrained s ch) ch fun d => { d with run := .inService }) := by
      change execChannelRetrainComplete ch true s = _
      unfold execChannelRetrainComplete
      rw [hsv, hup, hrun, hleft]
      rfl
    refine ⟨_, hexec, ?_, fun c hc => ?_, rfl⟩
    · rw [setChan_ch_same]
    · exact (setChan_ch_ne _ _ hc).trans (setChan_ch_ne _ _ hc)
  · obtain ⟨hmem, hend⟩ := endWhole_stands (noteTrained s ch) ch
    have hstill : (noteTrained s ch).dram.ch[ch].run = .retraining := by
      unfold noteTrained
      rw [setChan_ch_same]
      exact hrun
    rw [hstill] at hend
    exact ⟨_, exec_channelRetrainComplete_whole hsv hup hrun hp hwait, hmem, hend⟩
  all_goals
    have hgo : (mayRetrain s && s.dram.ch[ch].run == .outOfService && due s s.dram.ch[ch].retryAt 600000) = true := by
      rw [hm, hrun, show due s s.dram.ch[ch].retryAt 600000 = true from decide_eq_true (by omega)]
      rfl
  · obtain ⟨hback, hreset, hpass, hmem⟩ := rejoin_stands s ch
    exact ⟨_, congrArg Host.Outcome.next (if_pos hgo), hback, hreset, hpass, hmem⟩
  · refine ⟨_, congrArg Host.Outcome.next (if_pos hgo), ?_⟩
    rw [logDram_frame]
    rfl

end Sys2Proof.Machine
end

section
/-! Targeted tests of DRAM and flash parts, and the module-year (O15). -/

namespace Sys2Proof.Machine

open Sys2Proof

/-! ## Folds -/

/-- A fold keeps what its step keeps. -/
theorem foldl_keeps {α β : Type} {f : State → α → State} (get : State → β) (hf : ∀ s x, get (f s x) = get s) (l : List α) (s : State) :
    get (l.foldl f s) = get s := by
  induction l generalizing s with
  | nil => rfl
  | cons x t ih => exact (ih (f s x)).trans (hf s x)

/-! ## The repair list (R353) -/

/-- What a repair programs, from the code flash alone. -/
theorem addRepair_congr {s t : State} (h : t.cf = s.cf) (r : Repair) : (addRepair t r).cf = (addRepair s r).cf := by
  unfold addRepair programRepair cfPut cfBusy firstBlankWord cfBlank
  rw [h]
  split
  · rfl
  · split
    · split
      · rfl
      · exact h
    · exact h

theorem addRepair_frame (s : State) (r : Repair) : addRepair s r = { s with cf := (addRepair s r).cf } := by
  unfold addRepair programRepair cfPut
  split
  · rfl
  · split
    · split <;> rfl
    · rfl

/-- With no operation running, the entry goes into the first blank word. -/
theorem addRepair_words {s : State} {a : Nat} (r : Repair) (hb : cfBusy s = false) (ha : firstBlankWord s secRepair = some a) :
    (addRepair s r).cf.words = kvSet s.cf.words a ⟨repairWord r, false⟩ := by
  have hblank : cfBlank s a = true := List.find?_some ha
  unfold addRepair programRepair cfPut
  rw [hb, if_neg Bool.false_ne_true, ha]
  dsimp only
  rw [if_pos hblank]

/-! ## Rows and devices (R346, R347) -/

section
variable {s t : State} {ch : DramCh} {row : RowId} {dev : Fin 10}

theorem fourthRepair_congr (hlog : t.faults.repairLog = s.faults.repairLog) (hclock : t.clock = s.clock) :
    fourthRepair t ch row dev = fourthRepair s ch row dev := by
  unfold fourthRepair recentRepairs
  rw [hlog, hclock]

theorem rowEntriesOf_congr (h : t.cf = s.cf) : rowEntriesOf t ch = rowEntriesOf s ch := by
  unfold rowEntriesOf repairEntries heldRows
  rw [h]

theorem rowIntermittent_congr (hfaults : t.faults.transients = s.faults.transients) (hclock : t.clock = s.clock) :
    rowIntermittent t ch row = rowIntermittent s ch row := by
  unfold rowIntermittent transients
  rw [hfaults, hclock]

/-- A row that may be repaired is entered in the list. -/
theorem retireRow_repairs (hf : fourthRepair s ch row dev = false) (hn : rowEntriesOf s ch < 24) :
    (retireRow s ch row dev).cf = (addRepair s (.row ch row dev)).cf ∧ (retireRow s ch row dev).dram = s.dram ∧
      (retireRow s ch row dev).faults.tests = s.faults.tests ∧ (retireRow s ch row dev).faults.transients = s.faults.transients := by
  unfold retireRow
  rw [hf, decide_eq_false (by omega), if_neg (by decide)]
  dsimp only
  split
  · rw [raise_cf, raise_dram, raise_faults, addRepair_frame]
    exact ⟨rfl, rfl, rfl, rfl⟩
  · rw [addRepair_frame]
    exact ⟨rfl, rfl, rfl, rfl⟩

/-- A row that may not be repaired marks its device. -/
theorem retireRow_marks (h : fourthRepair s ch row dev = true ∨ 24 ≤ rowEntriesOf s ch) :
    retireRow s ch row dev = markDevice s ch row.rank dev := by
  unfold retireRow
  refine if_pos ?_
  obtain hf | hn := h
  · rw [hf, Bool.true_or]
  · rw [decide_eq_true (show rowEntriesOf s ch ≥ 24 from hn), Bool.or_true]

/-- The first device of a physical rank is marked failed; its channel stays in service. -/
theorem markDevice_first {rank : Fin 4} (h : ∀ f ∈ s.dram.ch[ch].failed, f.1 ≠ rank) :
    (markDevice s ch rank dev).dram.ch[ch].failed = s.dram.ch[ch].failed ++ [(rank, dev)] ∧
      (markDevice s ch rank dev).dram.mem = s.dram.mem ∧ (markDevice s ch rank dev).host = s.host ∧
      (markDevice s ch rank dev).faults = s.faults := by
  have hnew : s.dram.ch[ch].failed.contains (rank, dev) = false :=
    Bool.eq_false_iff.2 fun hc => h _ (List.contains_iff_mem.1 hc) rfl
  have hfirst : (s.dram.ch[ch].failed.any fun f => f.1 == rank) = false :=
    List.any_eq_false.2 fun f hf => by simpa using h f hf
  unfold markDevice
  rw [hnew, if_neg Bool.false_ne_true]
  dsimp only
  rw [hfirst, Bool.false_and, if_neg Bool.false_ne_true, evalPsub_dram, evalPsub_host, evalPsub_faults, raise_dram, raise_host, raise_faults, logDram_frame]
  exact ⟨congrArg DramChan.failed (setChan_ch_same _ _ _), rfl, rfl, rfl⟩

end

/-! ## A channel that fails its test (R356) -/

theorem markLost_ch (s : State) (g : Nat) : (markLost s g).dram.ch = s.dram.ch := rfl

theorem poisonDirty_ch (s : State) (g : Nat) : (poisonDirty s g).dram.ch = s.dram.ch := by
  unfold poisonDirty
  rw [raise_dram]
  rfl

theorem loseUnshrouded_ch (s : State) (ch : DramCh) : (loseUnshrouded s ch).dram.ch = s.dram.ch := by
  have hlost (l : List Nat) (s : State) : (l.foldl markLost s).dram.ch = s.dram.ch := foldl_keeps (·.dram.ch) markLost_ch l s
  have hpois (l : List Nat) (s : State) : (l.foldl poisonDirty s).dram.ch = s.dram.ch := foldl_keeps (·.dram.ch) poisonDirty_ch l s
  unfold loseUnshrouded
  dsimp only
  split
  · exact hlost _ _
  · split
    · exact hpois _ _
    · exact hpois _ _

/-- The first channel that leaves service, with Shroud on or off. -/
theorem channelOut_ch {s : State} {ch : DramCh} (hm : missingChannels s = []) :
    (channelOut s ch).dram.ch = (setChan s ch (lostChannel s)).dram.ch := by
  by_cases hon : shroudOn s = true
  · exact congrArg (·.ch) (channelOut_reconstructs hm hon).1
  · have hoff : channelOut s ch = evalPsub (loseUnshrouded (lostReported s ch) ch) := by
      have hoff' : ¬ shroudOn (lostReported s ch) = true := by
        rw [lostReported_frame]
        exact hon
      unfold channelOut
      rw [hm]
      exact if_neg hoff'
    rw [hoff, evalPsub_dram, loseUnshrouded_ch, lostReported_frame]

/-! ## Block and die tests (R348, R352) -/

/-- One more transient counts once at most. -/
theorem transients_countTransient_le (s : State) (p : Part) (d : Nat) (q : Part → Bool) :
    transients (countTransient s p) d q ≤ transients s d q + 1 := by
  unfold transients countTransient
  dsimp only
  rw [List.filter_append, List.length_append]
  exact Nat.add_le_add_left (List.length_filter_le _ [_]) _

theorem transients_congr {s t : State} {d : Nat} {q : Part → Bool} (hfaults : t.faults.transients = s.faults.transients)
    (hclock : t.clock = s.clock) : transients t d q = transients s d q := by
  unfold transients
  rw [hfaults, hclock]

section
variable (s : State) (ch : FlashCh) (die : Fin 16) (idx : Nat)

theorem blockOf_key : (blockOf s ch die idx).ch = ch ∧ (blockOf s ch die idx).die = die ∧ (blockOf s ch die idx).index = idx := by
  unfold blockOf
  cases h : s.flash.blocks.find? fun b => b.ch == ch && b.die == die && b.index == idx with
  | none => exact ⟨rfl, rfl, rfl⟩
  | some b =>
    have hb := List.find?_some h
    simp only [Bool.and_eq_true, beq_iff_eq] at hb
    exact ⟨hb.1.1, hb.1.2, hb.2⟩

/-- A block set reads as it was changed. -/
theorem blockOf_setBlock_same {f : BlockSet → BlockSet} (hf : ∀ b, (f b).ch = b.ch ∧ (f b).die = b.die ∧ (f b).index = b.index) :
    blockOf (setBlock s ch die idx f) ch die idx = f (blockOf s ch die idx) := by
  obtain ⟨hch, hdie, hidx⟩ := blockOf_key s ch die idx
  obtain ⟨fch, fdie, fidx⟩ := hf (blockOf s ch die idx)
  unfold setBlock
  generalize f (blockOf s ch die idx) = b at *
  have hmine : (b.ch == ch && b.die == die && b.index == idx) = true := by
    rw [fch, fdie, fidx, hch, hdie, hidx]
    simp
  unfold blockOf
  dsimp only
  rw [List.find?_append, List.find?_eq_none.2, Option.none_or]
  · exact congrArg (Option.getD · _)
      (List.find?_cons_of_pos (p := fun b : BlockSet => b.ch == ch && b.die == die && b.index == idx) hmine)
  · intro x hx
    exact Bool.eq_false_iff.1 ((Bool.not_eq_true' _).mp (List.mem_filter.1 hx).2)

theorem blockOf_congr {s t : State} {ch : FlashCh} {die : Fin 16} {idx : Nat} (h : t.flash.blocks = s.flash.blocks) :
    blockOf t ch die idx = blockOf s ch die idx := by
  unfold blockOf
  rw [h]

end

/-- What ends with a block set changes no other record of one. -/
theorem afterErase_frame (s : State) (c : Settings) (die : Fin 16) (idx : Nat) : ∃ moves bands pages,
    afterErase s c die idx = { s with flash := { s.flash with moves := moves, bands := bands, pages := pages } } := by
  unfold afterErase dropErasedBand
  split
  · split
    · split
      · exact ⟨_, _, _, rfl⟩
      · exact ⟨_, _, _, rfl⟩
    · exact ⟨_, _, _, rfl⟩
  · exact ⟨_, _, _, rfl⟩

theorem wearNotice_frame (s : State) (c : Settings) :
    wearNotice s c = { withNotes s (wearNotice s c) with flash := { s.flash with wearStage := (wearNotice s c).flash.wearStage } } := by
  unfold wearNotice
  dsimp only
  split
  · rw [raiseClass_frame]
    rfl
  · rfl

/-! ## The commands -/

section
variable {s : State}

/-- The end of a test, up to the counts that its result is judged by. -/
structure TestEnded (s : State) (p : Part) (t : State) : Prop where
  ended : tested t p = false
  faults : t.faults = { s.faults with tests := t.faults.tests }
  dram : t.dram = s.dram
  host : t.host = s.host
  cf : t.cf = s.cf
  flash : t.flash = s.flash
  clock : t.clock = s.clock
  startup : t.startup = s.startup

theorem endTest_ended {p : Part} {x : Test} (h : runningTest s p = some x) (pass : Bool) : TestEnded s p (endTest s x pass) := by
  have hframe := endTest_frame s x pass
  refine ⟨?_, endTest_faults s x pass, endTest_dram s x pass, endTest_host s x pass, (congrArg State.cf hframe :),
    endTest_flash s x pass, (congrArg State.clock hframe :), endTest_startup s x pass⟩
  rw [← runningTest_part h]
  exact tested_endTest s x pass

/-- The result of a DRAM line or row test that passes: its transient is counted, and its row stays in use. -/
theorem passed_counted {u : State} {p : Part} {ch : DramCh} {row : RowId} {dev : Fin 10} (h : TestEnded s p u)
    (hi : rowIntermittent (countTransient s p) ch row = false) :
    (if rowIntermittent (countTransient u p) ch row then retireRow (countTransient u p) ch row dev else countTransient u p) =
      countTransient u p ∧ tested (countTransient u p) p = false ∧
      (countTransient u p).faults.transients = s.faults.transients ++ [⟨p, s.clock.opTime⟩] ∧
      (countTransient u p).dram = s.dram ∧ (countTransient u p).cf = s.cf := by
  have htrans : (countTransient u p).faults.transients = (countTransient s p).faults.transients := by
    unfold countTransient
    rw [h.faults, h.clock]
  refine ⟨if_neg ?_, h.ended, htrans, h.dram, h.cf⟩
  rw [rowIntermittent_congr (s := countTransient s p) htrans h.clock, hi]
  exact Bool.false_ne_true

/-- The result of a failing one: its row is retired where it may be. -/
theorem failed_repaired {u : State} {p : Part} {ch : DramCh} {row : RowId} {dev : Fin 10} (h : TestEnded s p u)
    (hf : fourthRepair s ch row dev = false) (hn : rowEntriesOf s ch < 24) :
    tested (retireRow u ch row dev) p = false ∧ (retireRow u ch row dev).cf = (addRepair s (.row ch row dev)).cf ∧
      (retireRow u ch row dev).faults.transients = s.faults.transients ∧ (retireRow u ch row dev).dram = s.dram ∧
      ∀ a, cfBusy s = false → firstBlankWord s secRepair = some a →
        (retireRow u ch row dev).cf.words = kvSet s.cf.words a ⟨repairWord (.row ch row dev), false⟩ := by
  obtain ⟨hcf, hdram, htests, htrans⟩ := retireRow_repairs (s := u) (ch := ch) (row := row) (dev := dev)
    ((fourthRepair_congr (by rw [h.faults]) h.clock).trans hf) (by rw [rowEntriesOf_congr h.cf]; exact hn)
  have hcf' := hcf.trans (addRepair_congr h.cf _)
  refine ⟨?_, hcf', htrans.trans (by rw [h.faults]), hdram.trans h.dram, fun a hb ha => ?_⟩
  · have hended := h.ended
    unfold tested at hended ⊢
    rw [htests]
    exact hended
  · rw [hcf']
    exact addRepair_words _ hb ha

/-- A row that may not be repaired, or a device that fails in two bank groups: the device is marked. -/
theorem failed_marked {u : State} {p : Part} {ch : DramCh} {rank : Fin 4} {dev : Fin 10} (h : TestEnded s p u)
    (hf : ∀ f ∈ s.dram.ch[ch].failed, f.1 ≠ rank) :
    tested (markDevice u ch rank dev) p = false ∧
      (markDevice u ch rank dev).dram.ch[ch].failed = s.dram.ch[ch].failed ++ [(rank, dev)] ∧
      (markDevice u ch rank dev).dram.mem = s.dram.mem ∧ (markDevice u ch rank dev).host = s.host := by
  obtain ⟨hfailed, hmem, hhost, hfaults⟩ := markDevice_first (s := u) (ch := ch) (rank := rank) (dev := dev) (by rw [h.dram]; exact hf)
  refine ⟨?_, by rw [hfailed, h.dram], hmem.trans (by rw [h.dram]), hhost.trans h.host⟩
  have hended := h.ended
  unfold tested at hended ⊢
  rw [hfaults]
  exact hended

theorem exec_lineTestComplete {ch : DramCh} {row : RowId} {column : Nat} {x : Test}
    (h : runningTest s (.line ch row column) = some x) (pass : Bool) (dev : Fin 10) :
    exec (.lineTestComplete ch row column pass dev) s = .next (
      if pass then
        if rowIntermittent (countTransient (endTest s x pass) (.line ch row column)) ch row then
          retireRow (countTransient (endTest s x pass) (.line ch row column)) ch row dev
        else countTransient (endTest s x pass) (.line ch row column)
      else retireRow (endTest s x pass) ch row dev) := by
  change execLineTestComplete ch row column pass dev s = _
  unfold execLineTestComplete
  rw [h]

theorem exec_rowTestComplete {ch : DramCh} {row : RowId} {x : Test}
    (h : runningTest s (.row ch row) = some x) (pass : Bool) (dev : Fin 10) (two : Bool) :
    exec (.rowTestComplete ch row pass dev two) s = .next (
      if pass then
        if rowIntermittent (countTransient (endTest s x pass) (.row ch row)) ch row then
          retireRow (countTransient (endTest s x pass) (.row ch row)) ch row dev
        else countTransient (endTest s x pass) (.row ch row)
      else if two then markDevice (endTest s x pass) ch row.rank dev
      else retireRow (endTest s x pass) ch row dev) := by
  change execRowTestComplete ch row pass dev two s = _
  unfold execRowTestComplete
  rw [h]

theorem exec_channelPatternTestComplete {ch : DramCh} {x : Test} (h : runningTest s (.dramChannel ch) = some x) (pass : Bool) :
    exec (.channelPatternTestComplete ch pass) s = .next (
      if pass then countTransient (endTest s x pass) (.dramChannel ch) else channelOut (endTest s x pass) ch) := by
  change execChannelPatternTestComplete ch pass s = _
  unfold execChannelPatternTestComplete
  rw [h]

theorem testedSet_flash (s : State) (c : Settings) (ch : FlashCh) (die : Fin 16) (idx : Nat) : ∃ pages, testedSet s c ch die idx =
    setBlock { s with flash := { s.flash with pages := pages } } ch die idx fun b =>
      { b with run := .erased, erases := b.erases + 2, learned := 0, refresh := false, withheld := false } := by
  unfold testedSet
  cases bandOfSet c die idx with
  | none => exact ⟨s.flash.pages, rfl⟩
  | some n => exact ⟨_, rfl⟩

/-- A block set that passes its test, and is not intermittent, is erased and serves programs again. -/
theorem exec_blockTestComplete_passes {c : Settings} {ch : FlashCh} {die : Fin 16} {idx : Nat} {x : Test}
    (hc : s.startup.settings = some c) (h : runningTest s (.blockSet ch die idx) = some x) (hv : setVacant s c ch die idx = true)
    (hsv : saving s = false) (hfew : transients s (30 * dayMs) (fun p => p == .blockSet ch die idx) < 2) :
    exec (.blockTestComplete ch die idx true) s = .next
      (wearNotice (afterErase (countTransient (endTest (testedSet s c ch die idx) x true) (.blockSet ch die idx)) c die idx) c) := by
  have hnot : setIntermittent (countTransient (endTest (testedSet s c ch die idx) x true) (.blockSet ch die idx)) ch die idx = false := by
    obtain ⟨pages, hset⟩ := testedSet_flash s c ch die idx
    have hsame : transients (endTest (testedSet s c ch die idx) x true) (30 * dayMs) (fun p => p == .blockSet ch die idx) =
        transients s (30 * dayMs) fun p => p == .blockSet ch die idx := by
      refine transients_congr ?_ ?_
      · rw [endTest_faults, hset]
        rfl
      · rw [endTest_frame, hset]
        rfl
    have hle := transients_countTransient_le (endTest (testedSet s c ch die idx) x true) (.blockSet ch die idx) (30 * dayMs)
      fun p => p == .blockSet ch die idx
    exact decide_eq_false (by omega)
  change execBlockTestComplete ch die idx true s = _
  unfold execBlockTestComplete
  rw [h, hc]
  dsimp only
  rw [hv, hsv, if_neg (by decide), if_pos rfl, hnot, if_neg (by decide)]

theorem blockTest_passes (c : Settings) {ch : FlashCh} {die : Fin 16} {idx : Nat} {x : Test}
    (h : runningTest s (.blockSet ch die idx) = some x) {t : State}
    (ht : t = wearNotice (afterErase (countTransient (endTest (testedSet s c ch die idx) x true) (.blockSet ch die idx)) c die idx) c) :
    tested t (.blockSet ch die idx) = false ∧
      blockOf t ch die idx = { blockOf s ch die idx with
        run := .erased, erases := (blockOf s ch die idx).erases + 2, learned := 0, refresh := false, withheld := false } ∧
      t.dram = s.dram ∧ t.host = s.host := by
  obtain ⟨pages, hset⟩ := testedSet_flash s c ch die idx
  have hended : TestEnded (testedSet s c ch die idx) (.blockSet ch die idx) (endTest (testedSet s c ch die idx) x true) :=
    endTest_ended (by rw [hset]; exact h) true
  obtain ⟨moves, bands, pages', hafter⟩ := afterErase_frame
    (countTransient (endTest (testedSet s c ch die idx) x true) (.blockSet ch die idx)) c die idx
  have hframe := (wearNotice_frame _ c).symm.trans ht.symm |>.symm
  rw [hafter] at hframe
  have hfaults : t.faults.tests = (endTest (testedSet s c ch die idx) x true).faults.tests := by rw [hframe]; rfl
  have hblocks : t.flash.blocks = (testedSet s c ch die idx).flash.blocks := by
    rw [hframe]
    exact congrArg (·.blocks) hended.flash
  refine ⟨?_, ?_, ?_, ?_⟩
  · have hout := hended.ended
    unfold tested at hout ⊢
    rw [hfaults]
    exact hout
  · rw [blockOf_congr hblocks, hset]
    exact blockOf_setBlock_same _ _ _ _ fun b => ⟨rfl, rfl, rfl⟩
  · rw [hframe]
    refine hended.dram.trans ?_
    rw [hset]
    rfl
  · rw [hframe]
    refine hended.host.trans ?_
    rw [hset]
    rfl

end

/-- Settles O15: the end of each test by `endTest_ended`, its result by the lemma for it. -/
theorem targetedTestsClassTheError : Obligations.TargetedTestsClassTheError := by
  refine ⟨⟨fun s ch row column dev he => ?_, fun s ch row dev he => ?_, fun s ch he => ?_⟩, fun s c ch die hc => ⟨fun idx he hv hsv hfew => ?_,
    fun he habs hsv hfew => ?_⟩, fun s => ⟨fun h => congrArg Host.Outcome.next (if_pos h), fun h => ?_⟩⟩
  · obtain ⟨x, hx⟩ := Option.isSome_iff_exists.1 he
    refine ⟨fun hi => ?_, fun hf hn => ?_, fun hor hf => ?_⟩
    · obtain ⟨hstate, hend, htrans, hdram, hcf⟩ := passed_counted (dev := dev) (endTest_ended hx true) hi
      exact ⟨_, (exec_lineTestComplete hx true dev).trans (congrArg Host.Outcome.next hstate), hend, htrans, hdram, hcf⟩
    · obtain ⟨hend, hcf, htrans, hdram, hwords⟩ := failed_repaired (endTest_ended hx false) hf hn
      exact ⟨_, exec_lineTestComplete hx false dev, hend, hcf, htrans, hdram, hwords⟩
    · have hended := endTest_ended hx false
      have hmark : retireRow (endTest s x false) ch row dev = markDevice (endTest s x false) ch row.rank dev :=
        retireRow_marks (hor.imp (fun h => (fourthRepair_congr (by rw [hended.faults]) hended.clock).trans h)
          (fun h => by rw [rowEntriesOf_congr hended.cf]; exact h))
      obtain ⟨hend, hfailed, hmem, hhost⟩ := failed_marked (dev := dev) hended hf
      exact ⟨_, (exec_lineTestComplete hx false dev).trans (congrArg Host.Outcome.next hmark), hend, hfailed, hmem, hhost⟩
  · obtain ⟨x, hx⟩ := Option.isSome_iff_exists.1 he
    refine ⟨fun two hi => ?_, fun hf hn => ?_, fun hf => ?_⟩
    · obtain ⟨hstate, hend, htrans, hdram, hcf⟩ := passed_counted (dev := dev) (endTest_ended hx true) hi
      exact ⟨_, (exec_rowTestComplete hx true dev two).trans (congrArg Host.Outcome.next hstate), hend, htrans, hdram, hcf⟩
    · obtain ⟨hend, hcf, htrans, hdram, hwords⟩ := failed_repaired (endTest_ended hx false) hf hn
      exact ⟨_, exec_rowTestComplete hx false dev false, hend, hcf, htrans, hdram, hwords⟩
    · obtain ⟨hend, hfailed, hmem, hhost⟩ := failed_marked (dev := dev) (endTest_ended hx false) hf
      exact ⟨_, exec_rowTestComplete hx false dev true, hend, hfailed, hmem, hhost⟩
  · obtain ⟨x, hx⟩ := Option.isSome_iff_exists.1 he
    refine ⟨?_, fun hm => ?_⟩
    · have hended := endTest_ended hx true
      refine ⟨_, exec_channelPatternTestComplete hx true, hended.ended, ?_, hended.dram⟩
      change (endTest s x true).faults.transients ++ [⟨_, (endTest s x true).clock.opTime⟩] = _
      rw [hended.faults, hended.clock]
    · have hended := endTest_ended hx false
      have hch := channelOut_ch (ch := ch) ((missingChannels_congr (congrArg (·.ch) hended.dram :)).trans hm)
      refine ⟨_, exec_channelPatternTestComplete hx false, ?_, ?_⟩
      · change (channelOut (endTest s x false) ch).dram.ch[ch].run = _
        rw [hch, setChan_ch_same]
        rfl
      · change (channelOut (endTest s x false) ch).dram.ch[ch].rate = _
        rw [hch, setChan_ch_same]
        rfl
  · obtain ⟨x, hx⟩ := Option.isSome_iff_exists.1 he
    exact ⟨_, exec_blockTestComplete_passes hc hx hv hsv hfew, blockTest_passes c hx rfl⟩
  · obtain ⟨x, hx⟩ := Option.isSome_iff_exists.1 he
    have hended := endTest_ended hx true
    have htrans : (countTransient (endTest s x true) (.die ch die)).faults.transients =
        s.faults.transients ++ [⟨.die ch die, s.clock.opTime⟩] := by
      change (endTest s x true).faults.transients ++ [⟨_, (endTest s x true).clock.opTime⟩] = _
      rw [hended.faults, hended.clock]
    have hnot : dieIntermittent (countTransient (endTest s x true) (.die ch die)) ch die = false := by
      have hle := transients_countTransient_le (endTest s x true) (.die ch die) dayMs fun p => p == .die ch die
      rw [transients_congr (s := s) (by rw [hended.faults]) hended.clock] at hle
      exact decide_eq_false (by omega)
    have hexec : exec (.dieTestComplete ch die true) s = .next (countTransient (endTest s x true) (.die ch die)) := by
      change execDieTestComplete ch die true s = _
      unfold execDieTestComplete
      rw [hx]
      dsimp only
      rw [habs, hsv, if_neg (by decide), if_pos rfl, hnot, if_neg (by decide)]
    exact ⟨_, hexec, hended.ended, htrans, hended.flash, hended.dram⟩
  · refine ⟨_, congrArg Host.Outcome.next (if_neg (Nat.not_lt.2 h)), ?_⟩
    dsimp only
    rw [logEvent_faults]
    conv_lhs => rw [logEvent_frame]

end Sys2Proof.Machine
end

section
/-! Block sets and rows of the flash medium (O19, O20). -/

namespace Sys2Proof.Machine

open Sys2Proof

/-! ## Erases (R148) -/

/-- The state with other erases. -/
def withErases (s : State) (es : List EraseOp) : State := { s with flash := { s.flash with erases := es } }

theorem eraseReady_cases (s : State) : ∃ es, eraseReady s = withErases s es := by
  unfold eraseReady
  split
  · exact ⟨s.flash.erases, rfl⟩
  · refine foldl_frame (get := fun s => s.flash.erases) (put := withErases) (fun s b => ?_) (fun _ => rfl) (fun _ _ _ => rfl) _ s
    dsimp only
    split
    · exact ⟨_, rfl⟩
    · exact ⟨s.flash.erases, rfl⟩

/-- What follows an erase leaves block sets, DRAM and the host side alone. -/
structure SetsStand (s t : State) : Prop where
  blocks : t.flash.blocks = s.flash.blocks
  dram : t.dram = s.dram
  host : t.host = s.host

namespace SetsStand

theorem trans {s t u : State} (h : SetsStand s t) (k : SetsStand t u) : SetsStand s u :=
  ⟨k.blocks.trans h.blocks, k.dram.trans h.dram, k.host.trans h.host⟩

theorem afterErase (s : State) (c : Settings) (die : Fin 16) (idx : Nat) : SetsStand s (afterErase s c die idx) := by
  obtain ⟨moves, bands, pages, h⟩ := afterErase_frame s c die idx
  rw [h]
  exact ⟨rfl, rfl, rfl⟩

theorem eraseReady (s : State) : SetsStand s (eraseReady s) := by
  obtain ⟨es, h⟩ := eraseReady_cases s
  rw [h]
  exact ⟨rfl, rfl, rfl⟩

theorem wearNotice (s : State) (c : Settings) : SetsStand s (wearNotice s c) := by
  rw [wearNotice_frame]
  exact ⟨rfl, rfl, rfl⟩

theorem issueWaiting (s : State) : SetsStand s (issueWaiting s) := by
  obtain ⟨ps, h⟩ := issueWaiting_cases s
  rw [h]
  exact ⟨rfl, rfl, rfl⟩

end SetsStand

/-- An erase that passes leaves its block set as R148 says, whatever else begins with it. -/
theorem eraseEnds_passes (s : State) (c : Settings) (ch : FlashCh) (die : Fin 16) (idx : Nat) :
    blockOf (eraseEnds s c ch die idx true) ch die idx = { blockOf s ch die idx with
        run := .erased, erases := (blockOf s ch die idx).erases + 1, learned := 0, refresh := false } ∧
      (eraseEnds s c ch die idx true).dram = s.dram ∧ (eraseEnds s c ch die idx true).host = s.host := by
  have hset := blockOf_setBlock_same (dropErase s ch die idx) ch die idx
    (f := fun b => { b with run := .erased, erases := b.erases + 1, learned := 0, refresh := false }) fun _ => ⟨rfl, rfl, rfl⟩
  have hstands (u : State) : SetsStand u (issueWaiting (wearNotice (eraseReady (afterErase u c die idx)) c)) :=
    (((SetsStand.afterErase u c die idx).trans (.eraseReady _)).trans (.wearNotice _ c)).trans (.issueWaiting _)
  unfold eraseEnds
  rw [if_pos rfl]
  exact ⟨(blockOf_congr (hstands _).blocks).trans hset, (hstands _).dram, (hstands _).host⟩

/-! ## Busy timeouts (R153) -/

/-- A test of a die withholds no block set. -/
theorem queueTest_die_flash (s : State) (ch : FlashCh) (die : Fin 16) (cmd : Option Word) :
    (queueTest s (.die ch die) cmd).flash = s.flash := by
  unfold queueTest
  split
  · rfl
  · split
    · rfl
    · split
      · rw [logEvent_flash]
        rfl
      · rfl

/-- The first timeout of a die in a second is counted, and its test is asked for. -/
theorem countTimeout_first {s : State} {ch : FlashCh} {die : Fin 16} (h : ∀ x ∈ s.flash.ch[ch].timeouts, x.1 ≠ die) :
    (die, s.clock.now) ∈ (countTimeout s ch die).flash.ch[ch].timeouts ∧
      (∀ k, k ≠ ch → (countTimeout s ch die).flash.ch[k] = s.flash.ch[k]) ∧ (countTimeout s ch die).flash.pages = s.flash.pages ∧
      (countTimeout s ch die).dram = s.dram := by
  have hfew : ¬ ((((s.flash.ch[ch].timeouts.filter fun t => decide (s.clock.now < t.2 + 1000)) ++ [(die, s.clock.now)]).filter
      fun t => t.1 == die).length ≥ 3) := by
    have hnone : (s.flash.ch[ch].timeouts.filter fun t => decide (s.clock.now < t.2 + 1000)).filter (fun t => t.1 == die) = [] :=
      List.filter_eq_nil_iff.2 fun x hx => by simpa using h x (List.mem_filter.1 hx).1
    rw [List.filter_append, hnone]
    simp
  unfold countTimeout
  dsimp only
  rw [if_neg hfew, queueTest_die_flash, queueTest_dram]
  refine ⟨?_, fun k hk => getElem_vecMod_ne _ _ hk, rfl, rfl⟩
  rw [getElem_vecMod_same]
  exact List.mem_append_right _ (List.mem_singleton.2 rfl)

/-! ## Page reads (R158, R160) -/

/-- A page read that ends at one of the first entries of its ladder. -/
theorem noteRead_entry {s : State} {c : Settings} {ch : FlashCh} {die : Fin 16} {idx : Nat} (hc : s.startup.settings = some c)
    (demand : Bool) {n : Fin 9} (hn : n.val < 4) (many : Bool) :
    noteRead s ch die idx demand (.entry n many) = setBlock (countReads s c ch die idx demand (.entry n many)) ch die idx fun b =>
      { b with learned := if n.val = 0 then 0 else c.ladder.getD (n.val - 1) b.learned, refresh := b.refresh || many } := by
  have hset : (countReads s c ch die idx demand (.entry n many)).startup.settings = some c := hc
  unfold noteRead noteDecode
  rw [hc]
  dsimp only
  rw [hset, if_neg (by omega), if_neg (by omega)]
  simp only [show ¬ n.val = 8 by omega, if_false, show ¬ n.val ≥ 4 by omega, decide_false, Bool.or_false]

theorem countReads_reads (s : State) (c : Settings) (ch : FlashCh) (die : Fin 16) (idx : Nat) (demand : Bool) (o : DecodeOutcome) :
    (countReads s c ch die idx demand o).flash.ch[ch].reads = s.flash.ch[ch].reads + entriesRead o := by
  unfold countReads
  simp [vecMap]

theorem setBlock_channels (s : State) (ch : FlashCh) (die : Fin 16) (idx : Nat) (f : BlockSet → BlockSet) :
    (setBlock s ch die idx f).flash.ch = s.flash.ch := rfl

theorem countReads_blocks (s : State) (c : Settings) (ch : FlashCh) (die : Fin 16) (idx : Nat) (demand : Bool) (o : DecodeOutcome) :
    (countReads s c ch die idx demand o).flash.blocks = s.flash.blocks := by
  simp only [countReads]

theorem exec_flashReadComplete_entry {s : State} {ch : FlashCh} {die : Fin 16} {idx : Nat}
    (hup : fcUp s.flash.ch[ch] = true) (granule : Nat) (n : Fin 9) (many : Bool) :
    exec (.flashReadComplete ch die idx granule (.entry n many)) s =
      .next (startRefresh (noteRead s ch die idx (fetching s granule) (.entry n many))) := by
  change execFlashReadComplete ch die idx granule (.entry n many) s = _
  unfold execFlashReadComplete
  rw [hup, if_neg (by decide)]
  simp only [readOk, if_true, Bool.not_true, Bool.and_false, Bool.false_and, Bool.false_eq_true, if_false]
  split <;> rfl

/-- Settles O19: an erase by `eraseEnds_passes`, a timeout by `countTimeout_first`, a read by `noteRead_entry`. -/
theorem blockSetsFollowTheirStatus : Obligations.BlockSetsFollowTheirStatus := by
  intro s c ch die idx hc hb
  refine ⟨fun he => ?_, fun hsv hl => ?_, fun hr ht => ?_, fun granule n many hup hn => ?_⟩
  · refine ⟨_, congrArg Host.Outcome.next ((withSettings_of_some hc _).trans (if_pos ?_)), eraseEnds_passes s c ch die idx⟩
    rw [he, hb]
    rfl
  · refine congrArg Host.Outcome.next ((withSettings_of_some hc _).trans (if_neg ?_))
    rw [hsv, hb, hl]
    exact Bool.false_ne_true
  · refine ⟨_, congrArg Host.Outcome.next ((withSettings_of_some hc _).trans (if_neg ?_)), countTimeout_first ht⟩
    rw [hr]
    exact Bool.false_ne_true
  · have hstands := noteRead_stands s ch die idx (fetching s granule) (.entry n many)
    have hset := blockOf_setBlock_same (countReads s c ch die idx (fetching s granule) (.entry n many)) ch die idx
      (f := fun b => { b with
        learned := if n.val = 0 then 0 else c.ladder.getD (n.val - 1) b.learned, refresh := b.refresh || many }) fun _ => ⟨rfl, rfl, rfl⟩
    rw [blockOf_congr (s := s) (countReads_blocks s c ch die idx _ _), ← noteRead_entry hc _ hn] at hset
    refine ⟨_, exec_flashReadComplete_entry hup granule n many, ?_, fun hm => ?_, ?_, hstands.pages, (congrArg State.dram hstands.eq :),
      (congrArg State.host hstands.eq :)⟩
    · rw [hset]
    · rw [hset]
      dsimp only
      rw [hm, Bool.or_true]
    · rw [noteRead_entry hc _ hn, setBlock_channels, countReads_reads]
      exact (Nat.add_assoc _ _ _).symm

/-! ## Closing rows (R149, R151) -/

/-- Page groups stand but for the start of their programs. -/
def PagesStand (s t : State) : Prop := ∀ p ∈ s.flash.pages, ∃ a, { p with issuedAt := a } ∈ t.flash.pages

namespace PagesStand

theorem of_subset {s t : State} (h : ∀ p ∈ s.flash.pages, p ∈ t.flash.pages) : PagesStand s t := fun p hp => ⟨p.issuedAt, h p hp⟩

theorem trans {s t u : State} (h : PagesStand s t) (k : PagesStand t u) : PagesStand s u := by
  intro p hp
  obtain ⟨a, ha⟩ := h p hp
  obtain ⟨b, hb⟩ := k _ ha
  exact ⟨b, hb⟩

theorem foldl {α : Type} {f : State → α → State} (hf : ∀ s x, PagesStand s (f s x)) (l : List α) (s : State) :
    PagesStand s (l.foldl f s) := by
  induction l generalizing s with
  | nil => exact of_subset fun _ h => h
  | cons x t ih => exact (hf s x).trans (ih (f s x))

theorem issuePage (s : State) (p : PageGroup) : PagesStand s (issuePage s p) := by
  intro q hq
  by_cases h : q = p
  · exact ⟨some s.clock.now, List.mem_map.2 ⟨q, hq, if_pos h⟩⟩
  · exact ⟨q.issuedAt, List.mem_map.2 ⟨q, hq, if_neg h⟩⟩

theorem issueWaiting (s : State) : PagesStand s (issueWaiting s) := by
  unfold Machine.issueWaiting
  split
  · exact of_subset fun _ h => h
  · refine foldl (fun u p => ?_) _ _
    split
    · exact issuePage u p
    · exact of_subset fun _ h => h

theorem programPage (s : State) (c : Settings) (p : PageGroup) : PagesStand s (programPage s c p) := by
  unfold Machine.programPage
  split
  · exact of_subset fun q hq => by rw [logEvent_flash]; exact hq
  · exact of_subset fun q hq => List.mem_append_left _ hq

theorem closeOne (s : State) (c : Settings) (band row : Nat) : PagesStand s (closeOne s c band row) := by
  have hprog (n : Nat) (p : PageGroup) :
      PagesStand s (endRow (Machine.programPage { s with flash := { s.flash with nextSeq := n } } c p) band row) :=
    programPage { s with flash := { s.flash with nextSeq := n } } c p
  have hend : PagesStand s (endRow s band row) := of_subset fun _ h => h
  unfold Machine.closeOne
  split
  · exact hend
  · split
    · split
      · exact hprog _ _
      · exact hend
    · exact hend

end PagesStand

/-- A row that has been closed is open no more. -/
theorem closeOne_ends (s : State) (c : Settings) (band row : Nat) :
    ∀ x ∈ (closeOne s c band row).flash.openRows, ¬ (x.band = band ∧ x.row = row) := by
  have hend (u : State) : ∀ x ∈ (endRow u band row).flash.openRows, ¬ (x.band = band ∧ x.row = row) := by
    intro x hx
    have := (List.mem_filter.1 hx).2
    simpa [imp_iff_not_or] using this
  unfold closeOne
  split
  · exact hend s
  · split
    · split
      · exact hend _
      · exact hend s
    · exact hend s

/-- A row whose parity member takes a program is closed with its parity, which waits for its own program. -/
theorem closeOne_parity {s : State} {c : Settings} {band row : Nat} {b : Band} {ch : FlashCh} (hb : bandOf s band = some b)
    (hp : parityChannel b row = some ch) (hm : memberTakes s c b ch row = true) (hn : pagesOfRow s band row ≠ []) :
    ∃ p ∈ (closeOne s c band row).flash.pages, p.kind = .parity ∧ p.band = band ∧ p.row = row ∧ p.ch = ch ∧ p.passed = false := by
  have hnum : b.num = band := by
    have := List.find?_some hb
    simpa using this
  have hnext : nextPage s ch (bandDie c band) (bandSet c band) row = true := by
    unfold memberTakes at hm
    rw [Bool.and_eq_true, hnum] at hm
    exact hm.2
  have hprog : programPage { s with flash := { s.flash with nextSeq := s.flash.nextSeq + 1 } } c (parityPage s band row ch) = _ :=
    if_neg (by
      change ¬ (!nextPage s ch (bandDie c band) (bandSet c band) row) = true
      rw [hnext]
      exact Bool.false_ne_true)
  refine ⟨parityPage s band row ch, ?_, rfl, rfl, rfl, rfl, rfl⟩
  unfold closeOne
  rw [if_neg fun h => hn (List.isEmpty_iff.1 h), hb, Option.bind_some, hp, Option.map_some]
  dsimp only
  rw [if_pos hm, hprog]
  exact List.mem_append_right _ (List.mem_singleton.2 rfl)

/-- Closing a row whose parity takes a program, however often it is listed. -/
theorem closeOne_repeated {s : State} {c : Settings} {band row : Nat} {l : List Nat} (hl : ∀ x ∈ l, x = row) (hne : l ≠ []) :
    (∀ x ∈ (l.foldl (fun s r => closeOne s c band r) s).flash.openRows, ¬ (x.band = band ∧ x.row = row)) ∧
      PagesStand (closeOne s c band row) (l.foldl (fun s r => closeOne s c band r) s) := by
  constructor
  · obtain ⟨l', x, rfl⟩ := List.eq_nil_or_concat l |>.resolve_left hne
    have hx := hl x (by simp)
    rw [List.concat_eq_append, List.foldl_append, List.foldl_cons, List.foldl_nil, hx]
    exact closeOne_ends _ c band row
  · obtain ⟨x, l', rfl⟩ := List.exists_cons_of_ne_nil hne
    rw [hl x List.mem_cons_self, List.foldl_cons]
    exact .foldl (fun u r => .closeOne u c band r) _ _

/-- Settles O20: a program out of order is logged, and a row that is due is closed by `closeOne`. -/
theorem rowsCloseWithTheirParity : Obligations.RowsCloseWithTheirParity := by
  refine ⟨fun s ch die idx page hn => ?_, fun s c b r ch hc hbr hr hlow hdue hb hp hm hpages => ?_⟩
  · refine ⟨_, congrArg Host.Outcome.next (if_neg ?_), logEvent_frame s 0x0081 2 []⟩
    rw [hn]
    exact Bool.false_ne_true
  · have hexec : exec (.rowCloseTimeout r.band r.row) s = .next (closeRow s c r.band r.row) := by
      refine congrArg Host.Outcome.next ((withSettings_of_some hc _).trans (if_pos ?_))
      have hany : (s.flash.openRows.any fun x => x.band == r.band && x.row == r.row && due s x.openedAt 100) = true := by
        refine List.any_eq_true.2 ⟨r, hr, ?_⟩
        rw [beq_self_eq_true, beq_self_eq_true, show due s r.openedAt 100 = true from decide_eq_true (by omega)]
        rfl
      rw [hbr, hany]
      rfl
    have hall : ∀ x ∈ (s.flash.openRows.filter fun x => x.band == r.band && decide (x.row ≤ r.row)).map (·.row), x = r.row := by
      intro x hx
      obtain ⟨y, hy, rfl⟩ := List.mem_map.1 hx
      obtain ⟨hmem, hcond⟩ := List.mem_filter.1 hy
      simp only [Bool.and_eq_true, beq_iff_eq, decide_eq_true_eq] at hcond
      exact Nat.le_antisymm hcond.2 (hlow y hmem hcond.1)
    have hne : (s.flash.openRows.filter fun x => x.band == r.band && decide (x.row ≤ r.row)).map (·.row) ≠ [] := by
      refine List.ne_nil_of_mem (List.mem_map.2 ⟨r, List.mem_filter.2 ⟨hr, ?_⟩, rfl⟩)
      simp
    obtain ⟨hclosed, hkept⟩ := closeOne_repeated (s := s) (c := c) (band := r.band) hall hne
    obtain ⟨p, hpmem, hkind, hband, hrow, hch, hpassed⟩ := closeOne_parity hb hp hm hpages
    have hstands := RowsStand.closeRow s c r.band r.row
    have hissued := PagesStand.issueWaiting (((s.flash.openRows.filter fun x => x.band == r.band && decide (x.row ≤ r.row)).map
      (·.row)).foldl (fun s x => closeOne s c r.band x) s)
    obtain ⟨a, ha⟩ := hkept.trans hissued p hpmem
    refine ⟨_, hexec, ?_, ⟨{ p with issuedAt := a }, ha, hkind, hband, hrow, hch, hpassed⟩,
      (PagesStand.closeOne s c r.band r.row).trans (hkept.trans hissued), hstands.dram, hstands.host⟩
    obtain ⟨ps, hps⟩ := issueWaiting_cases (((s.flash.openRows.filter fun x => x.band == r.band && decide (x.row ≤ r.row)).map
      (·.row)).foldl (fun s x => closeOne s c r.band x) s)
    unfold closeRow
    rw [hps]
    exact hclosed

end Sys2Proof.Machine
end

section
/-! SUPPORT. What placing, moving and rewriting page groups leave alone (R147 to R151, R165, R176 to R179). -/

namespace Sys2Proof.Machine

open Sys2Proof

/-- Work on page groups and bands: the manifest, the sealed generations, erases, brown-out and the moves that have begun stand, and beside the flash medium only the
recorder and the accounts of the persistence loop change. -/
structure FlashWork (s t : State) : Prop where
  eq : t = { s with flash := t.flash, recorder := t.recorder, persist := t.persist }
  manifest : t.flash.manifest = s.flash.manifest
  gens : t.flash.gens = s.flash.gens
  erases : t.flash.erases = s.flash.erases
  brownOut : t.flash.brownOut = s.flash.brownOut
  wpN : t.flash.wpN = s.flash.wpN
  moves : ∀ m ∈ s.flash.moves, m ∈ t.flash.moves

namespace FlashWork

theorem refl (s : State) : FlashWork s s := ⟨rfl, rfl, rfl, rfl, rfl, rfl, fun _ h => h⟩

theorem trans {s t u : State} (h : FlashWork s t) (k : FlashWork t u) : FlashWork s u := by
  refine ⟨?_, k.manifest.trans h.manifest, k.gens.trans h.gens, k.erases.trans h.erases, k.brownOut.trans h.brownOut, k.wpN.trans h.wpN,
    fun m hm => k.moves m (h.moves m hm)⟩
  rw [k.eq, h.eq]

section
variable {s t : State} (h : FlashWork s t)
include h

theorem dram : t.dram = s.dram := (congrArg State.dram h.eq :)
theorem host : t.host = s.host := (congrArg State.host h.eq :)
theorem startup : t.startup = s.startup := (congrArg State.startup h.eq :)
theorem power : t.power = s.power := (congrArg State.power h.eq :)

/-- Another flash medium in which these stand. -/
theorem putFlash {f : Flash} (hm : f.manifest = t.flash.manifest := by rfl) (hg : f.gens = t.flash.gens := by rfl)
    (he : f.erases = t.flash.erases := by rfl) (hb : f.brownOut = t.flash.brownOut := by rfl) (hw : f.wpN = t.flash.wpN := by rfl)
    (hv : ∀ m ∈ t.flash.moves, m ∈ f.moves := by exact fun _ hm => hm) : FlashWork s { t with flash := f } :=
  h.trans ⟨rfl, hm, hg, he, hb, hw, hv⟩

theorem putPersist (p : Persist) : FlashWork s { t with persist := p } :=
  h.trans ⟨rfl, rfl, rfl, rfl, rfl, rfl, fun _ hm => hm⟩

theorem putPages (ps : List PageGroup) : FlashWork s { t with flash := { t.flash with pages := ps } } := h.putFlash

theorem logEvent (code : BitVec 16) (sev : Nat) (payload : List Byte) : FlashWork s (logEvent t code sev payload) := by
  refine h.trans ?_
  rw [logEvent_frame]
  exact ⟨rfl, rfl, rfl, rfl, rfl, rfl, fun _ hm => hm⟩

end

theorem ite {s a b : State} {p : Prop} [Decidable p] (ha : FlashWork s a) (hb : FlashWork s b) : FlashWork s (if p then a else b) := by
  split <;> assumption

theorem foldl {α : Type} {f : State → α → State} (hf : ∀ {s t} x, FlashWork s t → FlashWork s (f t x)) (l : List α) {s t : State}
    (h : FlashWork s t) : FlashWork s (l.foldl f t) := by
  induction l generalizing t with
  | nil => exact h
  | cons x l ih => exact ih (hf x h)

section
variable {s t : State} (c : Settings) (h : FlashWork s t)
include h

/-! ### Programs and rows -/

theorem issueWaiting : FlashWork s (issueWaiting t) := by
  obtain ⟨ps, hps⟩ := issueWaiting_cases t
  rw [hps]
  exact h.putPages ps

theorem chargeWear (bytes : Nat) : FlashWork s (chargeWear t bytes) := h.putPersist _

theorem programPage (p : PageGroup) : FlashWork s (programPage t c p) := by
  unfold Machine.programPage
  split
  · exact h.logEvent _ _ _
  · exact h.putFlash

theorem endRow (band row : Nat) : FlashWork s (endRow t band row) := h.putFlash

theorem closeOne (band row : Nat) : FlashWork s (closeOne t c band row) := by
  unfold Machine.closeOne
  split
  · exact h.endRow band row
  · split
    · split
      · exact (programPage c (h.putFlash) _).endRow band row
      · exact h.endRow band row
    · exact h.endRow band row

theorem closeAllRows : FlashWork s (closeAllRows t c) := by
  unfold Machine.closeAllRows
  exact (foldl (fun r h => closeOne c h r.band r.row) _ h).issueWaiting

theorem setBand (n : Nat) (f : Band → Band) : FlashWork s (setBand t n f) := h.putFlash

theorem closeBand (n : Nat) : FlashWork s (closeBand t n) := by
  unfold Machine.closeBand
  split
  · exact h.setBand n _
  · exact (setBand ((foldl (fun r h => closeOne _ h n r.row) _ h).putFlash) n _).issueWaiting

theorem openNewBand : FlashWork s (openNewBand t c) := by
  unfold Machine.openNewBand
  split
  · exact h
  · dsimp only
    split
    · exact h
    · exact h.putFlash

/-- The rows of the band that is open. -/
theorem addRows (band : Option Band) (rows : Band → List OpenRow) (f : Band → Band → Band) (p : Band → Prop) [DecidablePred p] :
    FlashWork s (match band with
      | none => t
      | some b => if p b then Machine.setBand { t with flash := { t.flash with openRows := t.flash.openRows ++ rows b } } b.num (f b) else t) := by
  cases band with
  | none => exact h
  | some b => exact ite (setBand (h.putFlash) _ _) h

theorem openRows : FlashWork s (openRows t c) := by
  unfold Machine.openRows
  refine addRows ?_ _ _ _ _
  split
  · exact ite h (openNewBand c (h.closeBand _))
  · exact h.openNewBand c

theorem ensureRows : FlashWork s (ensureRows t c) := by
  unfold Machine.ensureRows
  split
  · exact ite h (h.openRows c)
  · exact h.openRows c

end

/-! ### Placing page groups -/

section
variable {s t u : State} {c : Settings} {kind : PageKind} {idx : Nat} {keyId : Word} {parts : List (List Host.Cell)}
  {head : Option (Nat × DWord)} {seqs : List Nat} {rows : List (Nat × Nat)}

theorem placeOn {ch : FlashCh} (h : FlashWork s t) (hp : placeOn t c ch kind idx keyId parts head = some (u, seqs, rows)) :
    FlashWork s u := by
  unfold Machine.placeOn at hp
  split at hp
  · cases hp
  · split at hp
    · cases hp
    · cases hp
      exact (foldl (fun p h => programPage c h p) _ (h.putFlash)).issueWaiting

theorem placeAny {chs : List FlashCh} (h : FlashWork s t) (hp : placeAny t c chs kind idx keyId parts head = some (u, seqs, rows)) :
    FlashWork s u := by
  unfold Machine.placeAny at hp
  dsimp only at hp
  split at hp
  · rename_i r hr
    cases hp
    obtain ⟨ch, _, hch⟩ := List.exists_of_findSome?_eq_some hr
    exact placeOn (h.ensureRows c) hch
  · obtain ⟨ch, _, hch⟩ := List.exists_of_findSome?_eq_some hp
    exact placeOn (openRows c (closeAllRows c (h.ensureRows c))) hch

theorem programMeta {idxs : List Nat} (h : FlashWork s t) (hp : programMeta t c kind idxs = some u) : FlashWork s u := by
  unfold Machine.programMeta at hp
  have hstep (l : List Nat) (o : Option State) (ho : ∀ x, o = some x → FlashWork s x)
      (hl : l.foldl (fun s i => s.bind fun s => (Machine.placeAny s c (readyChannels s) kind i (keyIdNow s) [[]] none).map fun r =>
        Machine.chargeWear r.1 65536) o = some u) : FlashWork s u := by
    induction l generalizing o with
    | nil => exact ho u hl
    | cons i l ih =>
      refine ih _ (fun x hx => ?_) hl
      obtain ⟨y, hy, hx⟩ := Option.bind_eq_some_iff.1 hx
      obtain ⟨r, hr, rfl⟩ := Option.map_eq_some_iff.1 hx
      exact (placeAny (ho y hy) hr).chargeWear _
  exact hstep idxs (some t) (fun x hx => by cases hx; exact h) hp

end

/-! ### Moves and copies -/

section
variable {s t : State} (c : Settings) (h : FlashWork s t)
include h

theorem moveBand (n : Nat) (why : MoveReason) : FlashWork s (moveBand t n why) := by
  unfold Machine.moveBand
  exact ite h (setBand ((closeBand (h.putFlash (hv := fun _ hm => List.mem_append_left _ hm)) n).putFlash) n _)

theorem copyOut (g : Nat) (ch : FlashCh) : FlashWork s (copyOut t c g ch) := by
  unfold Machine.copyOut
  dsimp only
  split
  · exact h
  · split
    · rename_i hp
      exact (placeOn (h.ensureRows c) hp).chargeWear _
    · exact h

/-! ### Page groups written again -/

theorem dropPage (p : PageGroup) : FlashWork s (dropPage t p) := h.putPages _

theorem dropJob : FlashWork s (dropJob t) := by
  unfold Machine.dropJob
  split
  · exact h.putFlash
  · exact h

theorem reflush (f : InFlight) (ch : FlashCh) : FlashWork s (reflush t c f ch) := by
  unfold Machine.reflush
  dsimp only
  split
  · rename_i hp
    exact ((placeAny (h.putPages _) hp).chargeWear _).putPersist _
  · exact h.trans ⟨rfl, rfl, rfl, rfl, rfl, rfl, fun _ hm => hm⟩

theorem rewriteMeta (p : PageGroup) : FlashWork s (rewriteMeta t c p) := by
  unfold Machine.rewriteMeta
  split
  · rename_i hp
    exact (placeAny h hp).chargeWear _
  · exact h.dropJob

theorem recopy (p : PageGroup) : FlashWork s (recopy t c p) := by
  unfold Machine.recopy
  dsimp only
  split
  · exact h.putPages _
  · split
    · exact copyOut c (h.putPages _) _ _
    · exact h.putPages _

theorem rewritePage (p : PageGroup) : FlashWork s (rewritePage t c p) := by
  unfold Machine.rewritePage
  cases p.kind with
  | granule =>
    dsimp only
    split
    · exact h.reflush c _ _
    · exact h
  | chunk => exact ite (h.rewriteMeta c p) h
  | root => exact ite (h.rewriteMeta c p) h
  | compacted => exact h.recopy c p
  | parity => exact h

theorem mendRows : FlashWork s (mendRows t c) := by
  unfold Machine.mendRows
  exact foldl (fun p h => rewritePage c (h.dropPage p) p) _ h

theorem tornPage (p : PageGroup) : FlashWork s (tornPage t c p) := by
  unfold Machine.tornPage
  exact ite (mendRows c (h.dropPage p)) (rewritePage c (h.dropPage p) p)

/-! ### Generations being written -/

theorem startChunks (j : SealJob) (hsv : saving t = false) : FlashWork s (startChunks t c j) := by
  unfold Machine.startChunks
  simp only [hsv, Bool.false_and, Bool.false_eq_true, if_false]
  split
  · rename_i hp
    exact (programMeta (h.putFlash) hp).putFlash
  · exact h.putFlash

theorem startRoot (j : SealJob) : FlashWork s (startRoot t c j) := by
  unfold Machine.startRoot
  split
  · exact h
  · split
    · rename_i hp
      exact (programMeta h hp).putFlash
    · exact h.dropJob

theorem startRecord (j : SealJob) : FlashWork s (startRecord t c j) := by
  unfold Machine.startRecord
  exact ite h (closeAllRows c (h.putFlash))

theorem saving (hsv : saving s = false) : saving t = false := by
  unfold Machine.saving at hsv ⊢
  rw [h.power, hsv]

theorem advanceSeal (hsv : Machine.saving s = false) : FlashWork s (advanceSeal t) := by
  unfold Machine.advanceSeal
  split
  · exact h
  · rename_i c hc
    clear hc
    have hgo (st : SealStage) (f : State → SealJob → State) (hf : ∀ {u} j, FlashWork s u → FlashWork s (f u j)) {u : State}
        (hu : FlashWork s u) :
        FlashWork s (match u.flash.sealJob with | some j => if j.stage = st then f u j else u | none => u) := by
      split
      · exact ite (hf _ hu) hu
      · exact hu
    exact hgo .root (fun s j => if j.kind = .save then s else Machine.startRecord s c j) (fun j h => ite h (h.startRecord c j))
      (hgo .chunks (fun s j => Machine.startRoot s c j) (fun j h => h.startRoot c j)
        (hgo .asked (fun s j => Machine.startChunks s c j) (fun j h => h.startChunks c j (h.saving hsv)) h))

end

end FlashWork

end Sys2Proof.Machine
end

section
/-! Seals, copies and flash channels (O21, O22, O23). -/

namespace Sys2Proof.Machine

open Sys2Proof

/-! ## Seals (R177, R178, R207) -/

/-- What a mirror's seal does when neither mirror has failed. -/
theorem sealOn_ready {s : State} {m : Fin 2} {j : SealJob} {d : Generation} (hm : s.flash.mirrors[m].ok = true)
    (ho : s.flash.mirrors[1 - m].ok = true) (hj : s.flash.sealJob = some j) (hd : j.draft = some d) (hr : sealReady s j = true)
    (h0 : j.failed0 = false) (h1 : j.failed1 = false) (pass : Bool) (k : State → State) :
    sealOn s m pass k =
      if pass then if j.kind = .checkpoint then k (sealDone s j d (oneCopy m)) else sealDone s j d (oneCopy m)
      else { s with flash := { s.flash with sealJob := some (if m = 0 then { j with failed0 := true } else { j with failed1 := true }) } } := by
  have hfail : ((if m = 0 then j.failed1 else j.failed0) || !s.flash.mirrors[1 - m].ok) = false := by
    rw [h0, h1, ho, ite_self]
    rfl
  unfold sealOn
  rw [hm, if_neg (by decide), hj]
  dsimp only
  rw [hd]
  dsimp only
  rw [hr, if_neg (by decide), hfail]
  cases pass <;> simp only [Bool.false_eq_true, Bool.false_and, if_false, if_true]

/-- A sealed checkpoint without a re-striping. -/
theorem sealDone_checkpoint {s : State} {j : SealJob} (d : Generation) (hk : j.kind = .checkpoint) (hr : j.restripe = []) (m : Fin 2) :
    sealDone s j d (oneCopy m) = copySessions (sealNow s .checkpoint d (oneCopy m)) := by
  unfold sealDone
  rw [hk, hr]
  rfl

/-- A checkpoint that is due is asked for. -/
theorem exec_checkpointSeal {s : State} (hr : copiesRun s = true) (hj : s.flash.sealJob = none) (hf : s.flash.formatting = false)
    (hdue : needsCheckpoint s = true ∨ restripeDue s = false ∧ checkpointDue s = true ∧ s.flash.sealedAt + 1000 ≤ s.clock.now) :
    exec .checkpointSeal s = .next (beginCheckpoint s) := by
  refine congrArg Host.Outcome.next ((if_pos ?_).trans ?_)
  · rw [hr, hj, hf]
    rfl
  · by_cases hn : needsCheckpoint s = true
    · exact if_pos hn
    · obtain ⟨hrd, hcd, hat⟩ := hdue.resolve_left hn
      have hlate : due s s.flash.sealedAt 1000 = true := decide_eq_true (by omega)
      rw [if_neg hn, hrd, hcd, hlate, if_neg (by decide), if_pos (by decide)]

theorem saving_of_copiesRun {s : State} (h : copiesRun s = true) : saving s = false := by
  unfold copiesRun at h
  simp only [Bool.and_eq_true, Bool.not_eq_true'] at h
  exact h.1.1.1.2

/-- Settles O21: a checkpoint by `beginCheckpoint`, a seal by `sealOn_ready`. -/
theorem sealMakesTheNewestGeneration : Obligations.SealMakesTheNewestGeneration := by
  refine ⟨fun s c hc hr hj hf hdue => ?_, fun s m j d hb hm ho hj hd hready hk h0 h1 hrs => ⟨?_, ?_⟩⟩
  · have hwork := ((FlashWork.refl s).putFlash (f := { s.flash with sealJob := some (askSeal .checkpoint []) })).advanceSeal
      (saving_of_copiesRun hr)
    exact ⟨_, exec_checkpointSeal hr hj hf hdue, rfl, hwork.gens, hwork.dram, hwork.host⟩
  · have hexec : exec (.sealComplete m true) s = .next (renewSeal (serviceSealed (copySessions (sealNow s .checkpoint d (oneCopy m))))) := by
      refine congrArg Host.Outcome.next ((if_neg ?_).trans (congrArg renewSeal ?_))
      · rw [hb]
        exact Bool.false_ne_true
      · rw [sealOn_ready hm ho hj hd hready h0 h1, if_pos rfl, if_pos hk, sealDone_checkpoint d hk hrs]
    obtain ⟨es, hes⟩ := eraseReady_cases { s with
      flash := { s.flash with gens := s.flash.gens ++ [newGeneration s .checkpoint d (oneCopy m)], gen := openGen s, flushed := 0,
                              sealedAt := s.clock.now, sealJob := none, blocks := s.flash.blocks.map fun b => { b with saved := b.erases } },
      persist := { s.persist with regionGen := regionGens s } }
    have hnow : sealNow s .checkpoint d (oneCopy m) = _ := hes
    refine ⟨_, hexec, ?_⟩
    rw [hnow]
    exact ⟨rfl, rfl, ⟨newGeneration s .checkpoint d (oneCopy m), rfl, rfl, rfl, rfl, rfl⟩, rfl, rfl, rfl, rfl⟩
  · refine congrArg Host.Outcome.next ((if_neg ?_).trans ?_)
    · rw [hb]
      exact Bool.false_ne_true
    · rw [sealOn_ready hm ho hj hd hready h0 h1, if_neg (by decide)]
      refine if_neg ?_
      rw [Option.isNone_some, Bool.and_false]
      exact Bool.false_ne_true

/-! ## Copies and moves (R166, R172 to R175, R179) -/

/-- A band that is marked is in the list of moves, with its reason. -/
theorem moveReason_moveBand (s : State) (n : Nat) (why : MoveReason) : ∃ r, moveReason (moveBand s n why) n = some r := by
  have hmoves : (moveBand s n why).flash.moves.any (fun m => m.1 == n) = true := by
    by_cases h : (s.flash.moves.any fun m => m.1 == n) = true
    · unfold moveBand
      rw [if_pos h]
      exact h
    · refine List.any_eq_true.2 ⟨(n, why), ?_, beq_self_eq_true n⟩
      unfold moveBand
      rw [if_neg h]
      exact ((FlashWork.refl { s with flash := { s.flash with moves := s.flash.moves ++ [(n, why)] } }).closeBand n).moves _
        (List.mem_append_right _ (List.mem_singleton.2 rfl))
  obtain ⟨x, hx, hn⟩ := List.any_eq_true.1 hmoves
  obtain ⟨m, hm⟩ := Option.isSome_iff_exists.1
    (List.find?_isSome (p := fun m : Nat × MoveReason => m.1 == n) (xs := (moveBand s n why).flash.moves) |>.2 ⟨x, hx, hn⟩)
  exact ⟨m.2, congrArg (Option.map Prod.snd) hm⟩

/-- Rows that take a member are there already. -/
theorem ensureRows_of_freeRows {s : State} {c : Settings} {b : Band} {ch : FlashCh} {rows : List OpenRow} (hb : openBand s = some b)
    (hf : freeRows s c b ch 1 = some rows) : ∃ r, rows = [r] ∧ rowTakes s c b r ch = true ∧ ensureRows s c = s := by
  unfold freeRows at hf
  dsimp only at hf
  rw [if_pos rfl] at hf
  obtain ⟨r, hr, hrows⟩ := Option.map_eq_some_iff.1 hf
  refine ⟨r, hrows.symm, List.find?_some (p := fun r => rowTakes s c b r ch) hr, ?_⟩
  have hany : (s.flash.openRows.any fun r => r.band == b.num) = true := by
    obtain ⟨hmem, hband⟩ := List.mem_filter.1 (List.mem_of_find?_eq_some hr)
    exact List.any_eq_true.2 ⟨r, hmem, hband⟩
  unfold ensureRows
  rw [hb]
  exact if_pos hany

/-- A page group of one part is placed in the lowest row that takes it. -/
theorem placeOn_one {s : State} {c : Settings} {b : Band} {ch : FlashCh} {r : OpenRow} (hb : openBand s = some b)
    (hf : freeRows s c b ch 1 = some [r]) (ht : rowTakes s c b r ch = true) (kind : PageKind) (idx seq : Nat) (gen : DWord) (keyId : Word)
    (cells : List Host.Cell) : ∃ t seqs rows, placeOn s c ch kind idx keyId [cells] (some (seq, gen)) = some (t, seqs, rows) ∧
      ∃ q ∈ t.flash.pages, q.kind = kind ∧ q.index = idx ∧ q.ch = ch ∧ q.band = b.num ∧ q.seq = seq ∧ q.gen = gen ∧ q.keyId = keyId ∧
        q.cells = cells := by
  have hnext : nextPage s ch (bandDie c b.num) (bandSet c b.num) r.row = true := by
    unfold rowTakes memberTakes at ht
    simp only [Bool.and_eq_true] at ht
    exact ht.2.2
  have hplace : placeOn s c ch kind idx keyId [cells] (some (seq, gen)) = some (issueWaiting (programPage s c
      { band := b.num, row := r.row, ch := ch, kind := kind, half := 0, seq := seq, index := idx, gen := gen, keyId := keyId,
        cells := cells, issuedAt := none, passed := false, covers := [] }), [seq], [(b.num, r.row)]) := by
    unfold placeOn
    rw [hb]
    dsimp only
    rw [show [cells].length = 1 from rfl, hf]
    rfl
  refine ⟨_, _, _, hplace, ?_⟩
  obtain ⟨a, ha⟩ := PagesStand.issueWaiting (programPage s c
      { band := b.num, row := r.row, ch := ch, kind := kind, half := 0, seq := seq, index := idx, gen := gen, keyId := keyId,
        cells := cells, issuedAt := none, passed := false, covers := [] })
      { band := b.num, row := r.row, ch := ch, kind := kind, half := 0, seq := seq, index := idx, gen := gen, keyId := keyId,
        cells := cells, issuedAt := none, passed := false, covers := [] } (by
    unfold programPage
    dsimp only
    rw [hnext, if_neg (by decide)]
    exact List.mem_append_right _ (List.mem_singleton.2 rfl))
  exact ⟨_, ha, rfl, rfl, rfl, rfl, rfl, rfl, rfl, rfl⟩

/-- The program that moves a copy: what it is, and what stands. -/
theorem copyTo_moves {s : State} {c : Settings} {g : Nat} {ch : FlashCh} {p : PageGroup} {b : Band} {rows : List OpenRow} {low : Bool}
    (hcopy : copying s g = false) (hb : openBand (rowsFor s c) = some b) (hm : mayProgram (rowsFor s c) c ch (bandDie c b.num) = true)
    (hf : freeRows (rowsFor s c) c b ch 1 = some rows)
    (hold : ((rowsFor s c).flash.pages.filter fun p => p.passed && p.index == g && livePage (rowsFor s c) p) = [p])
    (hy : copyYields s c g ch low = false) :
    (copyTo s c g ch low).dram = s.dram ∧ (copyTo s c g ch low).host = s.host ∧
      ∃ q ∈ (copyTo s c g ch low).flash.pages, q.kind = .compacted ∧ q.index = g ∧ q.ch = ch ∧ q.band = b.num ∧
        q.seq = (entryOf s g).seq ∧ q.gen = p.gen ∧ q.keyId = p.keyId ∧ q.cells = p.cells := by
  have hrows : FlashWork s (rowsFor s c) := (FlashWork.refl s).ensureRows c
  obtain ⟨r, rfl, htakes, hensure⟩ := ensureRows_of_freeRows hb hf
  obtain ⟨t, seqs, places, hplace, q, hq, hkind, hidx, hch, hband, hseq, hgen, hkey, hcells⟩ :=
    placeOn_one hb hf htakes .compacted g (entryOf (rowsFor s c) g).seq p.gen p.keyId p.cells
  have heq : copyTo s c g ch low = chargeWear t 65536 := by
    unfold copyTo
    dsimp only
    rw [hb]
    dsimp only
    rw [hcopy, hy, hm, if_neg (by decide)]
    unfold copyOut
    dsimp only
    rw [hold]
    dsimp only
    rw [hensure, show [p].map (·.cells) = [p.cells] from rfl, hplace]
    rfl
  have hentry : entryOf (rowsFor s c) g = entryOf s g := by
    unfold entryOf
    rw [hrows.manifest]
  have hwork := FlashWork.placeOn hrows hplace
  rw [heq]
  exact ⟨hwork.dram, hwork.host, q, hq, hkind, hidx, hch, hband, hseq.trans (by rw [hentry]), hgen, hkey, hcells⟩

/-- A granule of a band that is moved out, by a move that is no re-striping. -/
theorem exec_compaction {s : State} {c : Settings} {g : Nat} (ch : FlashCh) {r : MoveReason} (hc : s.startup.settings = some c)
    (hrun : copiesRun s = true) (he : (entryOf s g).state = .present) (hr : moveReason s (entryOf s g).band = some r)
    (hno : restriping r = false) (ha : copyAllowed s c r = true) :
    exec (.compaction g ch) s = .next (eraseReady (copyTo s c g ch (r != .compaction || !freeLow s c))) := by
  refine congrArg Host.Outcome.next ((withSettings_of_some hc _).trans ((if_pos hrun).trans (congrArg eraseReady ?_)))
  unfold compactGranule copyMoved
  dsimp only
  rw [if_neg (not_not_intro he), hr]
  dsimp only
  rw [hno, if_neg (by decide), if_pos ha]

theorem exec_restripeCopy {s : State} {c : Settings} {g : Nat} (ch : FlashCh) {r : MoveReason} (hc : s.startup.settings = some c)
    (hrun : copiesRun s = true) (he : (entryOf s g).state = .present) (hr : moveReason s (entryOf s g).band = some r)
    (hyes : restriping r = true) :
    exec (.restripeCopy g ch) s = .next (eraseReady (finishRestripe (copyTo s c g ch true))) := by
  refine congrArg Host.Outcome.next ((withSettings_of_some hc _).trans ((if_pos hrun).trans
    (congrArg (fun t => eraseReady (finishRestripe t)) ?_)))
  unfold restripeGranule
  dsimp only
  rw [if_neg (not_not_intro he), hr]
  cases r with
  | restripeDie => rfl
  | restripeChannel => rfl
  | _ => cases hyes

/-- What the retention scrub of a band changes (R174). -/
theorem scrubBand_stands (s : State) (n : Nat) :
    ((scrubBand s n).flash.scrubbed = [] ∧ (scrubBand s n).flash.fullScrub = false ∨
      (scrubBand s n).flash.scrubbed = insertNat s.flash.scrubbed n ∧ (scrubBand s n).flash.fullScrub = s.flash.fullScrub) ∧
    (scrubBand s n).flash.scrubPassAt = (if s.flash.scrubbed.isEmpty then s.clock.now else s.flash.scrubPassAt) ∧
    scrubBand s n = { s with flash := { s.flash with
      scrubbed := (scrubBand s n).flash.scrubbed, fullScrub := (scrubBand s n).flash.fullScrub,
      scrubPassAt := (scrubBand s n).flash.scrubPassAt } } := by
  unfold scrubBand
  cases hs : s.flash.scrubbed.isEmpty
  · simp only [Bool.false_eq_true, if_false]
    split
    · exact ⟨.inl ⟨rfl, rfl⟩, rfl, rfl⟩
    · exact ⟨.inr ⟨rfl, rfl⟩, rfl, rfl⟩
  · simp only [if_true]
    split
    · exact ⟨.inl ⟨rfl, rfl⟩, rfl, rfl⟩
    · exact ⟨.inr ⟨rfl, rfl⟩, rfl, rfl⟩

/-- Settles O22: a copy by `copyTo_moves`, wear leveling by `moveBand`, the scrub by `scrubBand_stands`. -/
theorem copiesMoveOutOfTheirBand : Obligations.CopiesMoveOutOfTheirBand := by
  refine ⟨fun s c g ch r p b rows hc hrun he hr hcopy hb hm hf hold => ⟨fun hno ha hy => ?_, fun hyes hy => ?_⟩,
    fun s c b hc hrun hw hspread hleast => ?_, fun s c band hc hrun hturn hquiet => ?_, fun s since hst hd hs hdue => ?_⟩
  · exact ⟨_, exec_compaction ch hc hrun he hr hno ha, copyTo_moves hcopy hb hm hf hold hy⟩
  · exact ⟨_, exec_restripeCopy ch hc hrun he hr hyes, copyTo_moves hcopy hb hm hf hold hy⟩
  · have hexec : exec .wearLevelMove s = .next (moveBand s b.num .wear) := by
      refine congrArg Host.Outcome.next ((withSettings_of_some hc _).trans ((if_pos hrun).trans ?_))
      unfold wearMove
      rw [hw, decide_eq_true hspread, if_pos (by rfl), hleast]
    have hwork := (FlashWork.refl s).moveBand b.num .wear
    exact ⟨_, hexec, moveReason_moveBand s b.num .wear, hwork.manifest, hwork.dram, hwork.host⟩
  · refine ⟨_, congrArg Host.Outcome.next ((withSettings_of_some hc _).trans (if_pos ?_)), scrubBand_stands s band⟩
    rw [hrun, hturn, hquiet]
    rfl
  · have hlate : due s since 5184000000 = true := decide_eq_true (by omega)
    refine ⟨_, congrArg Host.Outcome.next (if_pos ?_), ?_, ?_⟩
    · rw [hst, hd, hs]
      exact hlate
    · rw [raise_flash]
    · rw [raise_frame]
      rfl

end Sys2Proof.Machine
end

section
/-! SUPPORT. What a computation of the ceiling leaves alone (R44 to R48). -/

namespace Sys2Proof.Machine

open Sys2Proof

theorem bankQualify_frame (s : State) : bankQualify s = { s with bank := (bankQualify s).bank } := by
  unfold bankQualify
  split
  · rfl
  · split
    · split <;> rfl
    · rfl

theorem limitNotice_frame (s : State) : limitNotice s = { withNotes s (limitNotice s) with persist := (limitNotice s).persist } := by
  unfold limitNotice
  dsimp only
  split
  · rw [raise_frame]
    rfl
  · rfl

theorem publish_frame (s : State) (c : Settings) (k : Ceiling) :
    publish s c k = { withNotes s (publish s c k) with persist := (publish s c k).persist } := by
  unfold publish
  rw [limitNotice_frame]
  rfl

/-- The computation outside the schedule changes the bank's qualification and the persistence loop's accounts, and sends notices. -/
theorem ceilingEvent_frame (s : State) : ceilingEvent s =
    { withNotes s (ceilingEvent s) with bank := (ceilingEvent s).bank, persist := (ceilingEvent s).persist } := by
  unfold ceilingEvent
  split
  · rfl
  · split
    · rfl
    · dsimp only
      rw [evalPsub_frame, publish_frame, bankQualify_frame]
      rfl

theorem updateCeiling_frame (s : State) : updateCeiling s =
    { withNotes s (updateCeiling s) with bank := (updateCeiling s).bank, persist := (updateCeiling s).persist } := by
  unfold updateCeiling
  split
  · rfl
  · dsimp only
    rw [publish_frame, bankQualify_frame]
    rfl

@[simp] theorem ceilingEvent_flash (s : State) : (ceilingEvent s).flash = s.flash := (congrArg State.flash (ceilingEvent_frame s) :)
@[simp] theorem ceilingEvent_dram (s : State) : (ceilingEvent s).dram = s.dram := (congrArg State.dram (ceilingEvent_frame s) :)
@[simp] theorem ceilingEvent_host (s : State) : (ceilingEvent s).host = s.host := (congrArg State.host (ceilingEvent_frame s) :)

end Sys2Proof.Machine
end

section
/-! Flash channels train, return and brown out; the mirror comes back (O23). -/

namespace Sys2Proof.Machine

open Sys2Proof

/-- The two mirrors: a mirror and the other one. -/
theorem fins_two (m : Fin 2) : fins 2 = [0, 1] ∧ (m = 0 ∧ 1 - m = 1 ∨ m = 1 ∧ 1 - m = 0) := by
  revert m
  decide

/-- Mirrors whose channels are all there stand. -/
theorem checkMirrors_of_none {s : State}
    (h : ∀ m : Fin 2, s.flash.mirrors[m].ok = true → mirrorGone s s.flash.mirrors[m].ch = false) : checkMirrors s = s := by
  have hone (m : Fin 2) : (if s.flash.mirrors[m].ok && mirrorGone s s.flash.mirrors[m].ch then mirrorFails s m else s) = s := by
    refine if_neg ?_
    cases hm : s.flash.mirrors[m].ok
    · exact Bool.false_ne_true
    · rw [h m hm]
      exact Bool.false_ne_true
  unfold checkMirrors
  rw [(fins_two 0).1, List.foldl_cons, hone, List.foldl_cons, hone, List.foldl_nil]

/-- Step 5 goes on while a channel still trains. -/
theorem endStep5_of_stillTraining {s : State} (h : stillTraining s = true) : endStep5 s = s := by
  unfold endStep5
  rw [h, Bool.or_true, if_pos rfl]

section
variable {s : State} {c : Settings} {ch : FlashCh}

theorem exec_flashChannelTraining (hc : s.startup.settings = some c) (hr : s.flash.ch[ch].run = .training) (pass : Bool) :
    exec (.flashChannelTraining ch [] pass) s = .next (endStep5 (checkMirrors (if pass then
      withFlashCh s ch { s.flash.ch[ch] with run := .inService, sdr := false, rate := c.flashRate / 2 } else flashChannelOut s ch))) := by
  refine congrArg Host.Outcome.next ((withSettings_of_some hc _).trans ?_)
  dsimp only
  rw [hr]
  rfl

/-- The record of a flash channel after a training retry. -/
def retriedChannel (s : State) (c : Settings) (ch : FlashCh) (pass : Bool) : FlashChan :=
  if pass && !(startDies s c ch).isEmpty then
    { s.flash.ch[ch] with run := .inService, sdr := false, dies := startDies s c ch, rate := c.flashRate / 2, retryAt := s.clock.now }
  else { s.flash.ch[ch] with retryAt := s.clock.now }

theorem exec_flashTrainingRetry (hc : s.startup.settings = some c) (hr : s.flash.ch[ch].run = .outOfService)
    (he : s.flash.ch[ch].hasEngine = true) (hrun : copiesRun s = true) (hdue : s.flash.ch[ch].retryAt + 600000 ≤ s.clock.now) (pass : Bool) :
    exec (.flashTrainingRetry ch pass) s = .next (
      if (retriedChannel s c ch pass).run = .inService then ceilingEvent (withFlashCh s ch (retriedChannel s c ch pass))
      else withFlashCh s ch (retriedChannel s c ch pass)) := by
  refine congrArg Host.Outcome.next ((withSettings_of_some hc _).trans (if_pos ?_))
  have hlate : due s s.flash.ch[ch].retryAt 600000 = true := decide_eq_true (by omega)
  rw [hr, he, hrun, hlate]
  decide

/-- What a brown-out interrupted is written again: page groups that were in progress. -/
def tornAgain (s : State) (c : Settings) : State :=
  (s.flash.pages.filter fun p => !p.passed && p.issuedAt.isSome).foldl
    (fun s p => if s.flash.pages.contains p then tornPage s c p else s)
    { breakErases s with flash := { (breakErases s).flash with brownOut := false, wpN := false, erases := [] } }

theorem breakErases_frame (s : State) : ∃ bs, breakErases s = { s with flash := { s.flash with blocks := bs } } :=
  foldl_frame (get := fun s => s.flash.blocks) (put := fun s bs => { s with flash := { s.flash with blocks := bs } })
    (fun _ _ => ⟨_, rfl⟩) (fun _ => rfl) (fun _ _ _ => rfl) s.flash.erases s

theorem tornAgain_stands (s : State) (c : Settings) : (tornAgain s c).flash.brownOut = false ∧ (tornAgain s c).flash.wpN = false ∧
    (tornAgain s c).flash.erases = [] ∧ (tornAgain s c).flash.manifest = s.flash.manifest ∧ (tornAgain s c).dram = s.dram ∧
    ((∀ p ∈ s.flash.pages, p.passed = false → p.issuedAt = none) → (tornAgain s c).flash.pages = s.flash.pages) := by
  obtain ⟨bs, hbs⟩ := breakErases_frame s
  unfold tornAgain
  rw [hbs]
  have hwork := FlashWork.foldl (f := fun s p => if s.flash.pages.contains p then tornPage s c p else s)
    (fun p h => .ite (h.tornPage c p) h) (s.flash.pages.filter fun p => !p.passed && p.issuedAt.isSome)
    (FlashWork.refl { s with flash := { s.flash with blocks := bs, brownOut := false, wpN := false, erases := [] } })
  refine ⟨hwork.brownOut, hwork.wpN, hwork.erases, hwork.manifest, hwork.dram, fun h => ?_⟩
  rw [List.filter_eq_nil_iff.2, List.foldl_nil]
  intro p hp
  cases hpass : p.passed
  · rw [h p hp hpass]
    decide
  · rw [Bool.not_true, Bool.false_and]
    exact Bool.false_ne_true

end

/-- The mirror that has failed, where the other one stands. -/
theorem find_failedMirror {s : State} {m : Fin 2} (hm : s.flash.mirrors[m].ok = false) (ho : s.flash.mirrors[1 - m].ok = true) :
    ((fins 2).find? fun m => !s.flash.mirrors[m].ok) = some m := by
  obtain ⟨hfins, ⟨rfl, hother⟩ | ⟨rfl, hother⟩⟩ := fins_two m
  · rw [hfins, List.find?_cons_of_pos]
    rw [hm]
    rfl
  · have ho : s.flash.mirrors[(0 : Fin 2)].ok = true := ho
    rw [hfins, List.find?_cons_of_neg, List.find?_cons_of_pos]
    · rw [hm]
      rfl
    · rw [ho]
      decide

/-- Settles O23: a training by `exec_flashChannelTraining`, a retry by `exec_flashTrainingRetry`, a recovery by `tornAgain`. -/
theorem flashChannelsComeAndGo : Obligations.FlashChannelsComeAndGo := by
  refine ⟨fun s c ch hc hr => ⟨exec_flashChannelTraining hc hr true, exec_flashChannelTraining hc hr false, fun hm ht => ?_⟩,
    fun s c ch hc hr he hrun hdue => ⟨fun hd => ?_, ?_⟩, fun s hs => ?_, fun s c hc hb h9 h10 => ?_, fun s m ch hm ho hrel hto => ?_⟩
  · refine (exec_flashChannelTraining hc hr true).trans (congrArg Host.Outcome.next ?_)
    rw [if_pos rfl, checkMirrors_of_none hm, endStep5_of_stillTraining]
    unfold stillTraining
    rw [show (withFlashCh s ch _).dram = s.dram from rfl, ht]
    rfl
  · have hnew : retriedChannel s c ch true = { s.flash.ch[ch] with
        run := .inService, sdr := false, dies := startDies s c ch, rate := c.flashRate / 2, retryAt := s.clock.now } := by
      refine if_pos ?_
      rw [Bool.true_and, Bool.not_eq_true', Bool.eq_false_iff]
      exact fun h => hd (List.isEmpty_iff.1 h)
    have hin : (retriedChannel s c ch true).run = .inService := by rw [hnew]
    have hsame : (withFlashCh s ch (retriedChannel s c ch true)).flash.ch[ch] = retriedChannel s c ch true := Vector.getElem_set_self _
    refine ⟨_, (exec_flashTrainingRetry hc hr he hrun hdue true).trans (congrArg Host.Outcome.next (if_pos hin)), ?_, ?_, ?_, fun k hk => ?_, ?_⟩
    · rw [ceilingEvent_flash, hsame, hnew]
    · rw [ceilingEvent_flash, hsame, hnew]
    · rw [ceilingEvent_flash, hsame, hnew]
    · rw [ceilingEvent_flash]
      exact Vector.getElem_set_ne ch.isLt k.isLt fun e => hk (Fin.ext e.symm)
    · rw [ceilingEvent_flash]
      rfl
  · refine (exec_flashTrainingRetry hc hr he hrun hdue false).trans (congrArg Host.Outcome.next (if_neg ?_))
    unfold retriedChannel
    rw [Bool.false_and, if_neg Bool.false_ne_true]
    dsimp only
    rw [hr]
    decide
  · refine congrArg Host.Outcome.next (if_pos ?_)
    rw [hs]
    rfl
  · refine ⟨tornAgain s c, congrArg Host.Outcome.next ((withSettings_of_some hc _).trans (if_pos ?_)), tornAgain_stands s c⟩
    rw [hb, h9, h10]
    rfl
  · have hexec : exec (.mirrorRelocated ch) s = .next (relocateMirror s m (1 - m) ch) := by
      change execMirrorRelocated ch s = _
      unfold execMirrorRelocated
      rw [find_failedMirror hm ho]
      refine congrArg Host.Outcome.next (if_pos ?_)
      rw [hrel, ho, hto, beq_self_eq_true]
      rfl
    have hne : 1 - m ≠ m := by
      obtain ⟨rfl, _⟩ | ⟨rfl, _⟩ := (fins_two m).2 <;> decide
    refine ⟨_, hexec, ?_, ?_, ?_, ?_, ?_⟩
    all_goals
      unfold relocateMirror
      dsimp only
    · rw [logEvent_flash]
      exact getElem_vecMod_same _ _ _
    · rw [logEvent_flash]
      exact getElem_vecMod_ne _ _ hne
    · rw [logEvent_flash]
    · rw [logEvent_flash]
      rfl
    · rw [logEvent_dram]
      rfl

end Sys2Proof.Machine
end

section
/-! Engines: watchdog, exception, BIST and the swap to a spare (O24). -/

namespace Sys2Proof.Machine

open Sys2Proof

/-! ## One engine's record -/

@[simp] theorem setEngine_same (s : State) (e : EngineId) (f : Engine → Engine) : (setEngine s e f).engines.eng[e] = f s.engines.eng[e] :=
  getElem_vecMod_same _ _ _

theorem setEngine_ne (s : State) {e k : EngineId} (f : Engine → Engine) (h : k ≠ e) :
    (setEngine s e f).engines.eng[k] = s.engines.eng[k] :=
  getElem_vecMod_ne _ _ h

/-- A test of an engine takes no block set, and always finds a place in its queue. -/
theorem queueTest_engine (s : State) (e : EngineId) : ∃ tests, queueTest s (.engine e) none =
    { s with faults := { s.faults with tests := tests } } := by
  unfold queueTest
  split
  · exact ⟨_, rfl⟩
  · exact ⟨_, rfl⟩

/-! ## Exceptions and BIST (R345, R350) -/

theorem exec_engineException {s : State} {e : EngineId} (hup : coreUp s = true) (hr : s.engines.eng[e].run ≠ .retired)
    (hs : s.engines.eng[e].run ≠ .resting) (hp : s.fw.phase ≠ .probation) :
    exec (.engineException e) s = .next (queueTest (countTransient (setEngine s e fun x => { x with run := .bist, suspect := false })
      (.engine e)) (.engine e) none) := by
  refine congrArg Host.Outcome.next ((if_neg ?_).trans ?_)
  · rw [hup, beq_eq_false_iff_ne.2 hr, beq_eq_false_iff_ne.2 hs]
    decide
  · rw [beq_eq_false_iff_ne.2 hp, Bool.false_and]
    exact if_neg Bool.false_ne_true

theorem engineIntermittent_congr {s t : State} {e : EngineId} (heng : t.engines = s.engines)
    (hfaults : t.faults.transients = s.faults.transients) (hclock : t.clock = s.clock) :
    engineIntermittent t e = engineIntermittent s e := by
  unfold engineIntermittent
  rw [heng, transients_congr hfaults hclock]

theorem exec_engineBistComplete {s : State} {e : EngineId} {x : Test} (h : runningTest s (.engine e) = some x) (pass : Bool) :
    exec (.engineBistComplete e pass) s = .next (
      if pass && !engineIntermittent (endTest s x pass) e then
        setEngine (endTest s x pass) e fun y => { y with run := if y.run = .bist then .inService else y.run, suspect := false }
      else checkMirrors (failEngine (endTest s x pass) e)) := by
  change execEngineBistComplete e pass s = _
  unfold execEngineBistComplete
  rw [h]

/-! ## The swap to a spare (R23) -/

/-- An engine with another role is not the spare that is found, retired or not. -/
theorem spareOf_retired {v : Vector Engine 64} {e : EngineId} {r : Role} (hr : v[e].role = some r) (hs : r ≠ .spare) :
    spareOf (vecMod v e fun x => { x with role := none, run := .retired }) = spareOf v := by
  unfold spareOf
  congr 1
  funext i
  by_cases hi : i = e
  · subst hi
    rw [getElem_vecMod_same, hr]
    have hno : (some r == some Role.spare) = false := beq_eq_false_iff_ne.2 fun h => hs (Option.some.inj h)
    rw [hno]
    rfl
  · rw [getElem_vecMod_ne _ _ hi]

theorem spareOf_role {v : Vector Engine 64} {x : EngineId} (h : spareOf v = some x) : v[x].role = some .spare := by
  have := List.find?_some h
  simp only [Bool.and_eq_true, beq_iff_eq] at this
  exact this.1

/-- A retired engine's role passes to the spare. -/
theorem retireEngine_spare {v : Vector Engine 64} {e x : EngineId} {r : Role} (hr : v[e].role = some r) (hs : r ≠ .spare)
    (hx : spareOf v = some x) : retireEngine v e =
      (vecMod (vecMod v e fun y => { y with role := none, run := .retired }) x fun y => { y with role := some r }, some r, some x) := by
  have hsub : substitute (vecMod v e fun y => { y with role := none, run := .retired }) = some x := by
    unfold substitute
    rw [spareOf_retired hr hs, hx]
  unfold retireEngine
  rw [hr]
  cases r with
  | spare => exact absurd rfl hs
  | _ =>
    dsimp only
    rw [hsub]

/-- What the notice about spares and the mirrors' check leave alone. -/
structure AfterSwap (s t : State) : Prop where
  engines : t.engines = s.engines
  faults : t.faults = s.faults
  dram : t.dram = s.dram
  host : t.host = s.host

namespace AfterSwap

theorem refl (s : State) : AfterSwap s s := ⟨rfl, rfl, rfl, rfl⟩

theorem trans {s t u : State} (h : AfterSwap s t) (k : AfterSwap t u) : AfterSwap s u :=
  ⟨k.engines.trans h.engines, k.faults.trans h.faults, k.dram.trans h.dram, k.host.trans h.host⟩

theorem raise (s : State) (code : Nat) (payload : List Nat) : AfterSwap s (raise s code payload) := by
  rw [raise_frame]
  exact ⟨rfl, rfl, rfl, rfl⟩

theorem spareNotice (s : State) (before : Bool) : AfterSwap s (spareNotice s before) := by
  unfold Machine.spareNotice
  split
  · refine (raise s 0x0106 []).trans ?_
    rw [evalPsub_frame]
    exact ⟨rfl, rfl, rfl, rfl⟩
  · exact refl s

theorem swapChannel (s : State) (r : Role) : AfterSwap s (swapChannel s r) := by
  unfold Machine.swapChannel
  split
  · split <;> exact ⟨rfl, rfl, rfl, rfl⟩
  · exact refl s

theorem mirrorFails (s : State) (m : Fin 2) : AfterSwap s (mirrorFails s m) := by
  have hlog (t : State) (code : BitVec 16) (sev : Nat) (payload : List Byte) : AfterSwap t (logEvent t code sev payload) := by
    rw [logEvent_frame]
    exact ⟨rfl, rfl, rfl, rfl⟩
  unfold Machine.mirrorFails
  split
  · exact refl s
  · have hset (fl : Flash) (rc : Recorder) : AfterSwap s { s with flash := fl, recorder := rc } := ⟨rfl, rfl, rfl, rfl⟩
    dsimp only
    split
    · exact ((hset _ _).trans (hlog _ _ _ _)).trans (raise _ _ _)
    · exact (hset _ _).trans (hlog _ _ _ _)

theorem checkMirrors (s : State) : AfterSwap s (checkMirrors s) := by
  have hone (s : State) (m : Fin 2) : AfterSwap s
      (if s.flash.mirrors[m].ok && mirrorGone s s.flash.mirrors[m].ch then Machine.mirrorFails s m else s) := by
    split
    · exact mirrorFails s m
    · exact refl s
  unfold Machine.checkMirrors
  rw [(fins_two 0).1]
  exact (hone s 0).trans (hone _ 1)

end AfterSwap

/-- An engine's record after its role has gone, and the spare's with it. -/
def rolePassed (s : State) (e x : EngineId) (r : Role) : State :=
  let t := addRepair s (.engine e)
  let v := vecMod (vecMod s.engines.eng e fun y => { y with role := none, run := .retired }) x fun y => { y with role := some r }
  let t := setEngine { t with engines := { t.engines with eng := v, swaps := t.engines.swaps.filter fun w => w.2 != e && some w.2 != some x } }
    x fun y => { y with run := .swapping, bankNew := s.engines.eng[e].bankNew }
  let t := raise t 0x0A03 [e.val, roleNo (some r), x.val]
  { t with engines := { t.engines with swaps := t.engines.swaps ++ [(r, x)] } }

/-- An engine that fails passes its role to the spare. -/
theorem failEngine_spare {s : State} {e x : EngineId} {r : Role} (hlive : s.engines.eng[e].run ≠ .retired)
    (hr : s.engines.eng[e].role = some r) (hs : r ≠ .spare) (hx : spareOf s.engines.eng = some x) :
    failEngine s e = spareNotice (swapChannel (rolePassed s e x r) r) true := by
  have heng : (addRepair s (.engine e)).engines = s.engines := by rw [addRepair_frame]
  unfold failEngine
  rw [if_neg hlive]
  dsimp only
  rw [heng, retireEngine_spare hr hs hx, hx]
  unfold rolePassed
  dsimp only
  rw [heng]
  rfl

theorem rolePassed_stands {s : State} {e x : EngineId} {r : Role} (hne : x ≠ e) :
    (rolePassed s e x r).engines.eng[e].run = .retired ∧ (rolePassed s e x r).engines.eng[e].role = none ∧
      (rolePassed s e x r).engines.eng[x].role = some r ∧ (rolePassed s e x r).engines.eng[x].run = .swapping ∧
      (r, x) ∈ (rolePassed s e x r).engines.swaps ∧
      (∀ k, k ≠ e → k ≠ x → (rolePassed s e x r).engines.eng[k] = s.engines.eng[k]) ∧ (rolePassed s e x r).dram = s.dram ∧
      (rolePassed s e x r).host = s.host := by
  unfold rolePassed
  dsimp only
  rw [addRepair_frame, raise_engines, raise_dram, raise_host]
  refine ⟨?_, ?_, ?_, ?_, List.mem_append_right _ (List.mem_singleton.2 rfl), fun k hk hkx => ?_, rfl, rfl⟩
  · rw [setEngine_ne _ _ hne.symm]
    dsimp only
    rw [getElem_vecMod_ne _ _ hne.symm, getElem_vecMod_same]
  · rw [setEngine_ne _ _ hne.symm]
    dsimp only
    rw [getElem_vecMod_ne _ _ hne.symm, getElem_vecMod_same]
  · rw [setEngine_same]
    dsimp only
    rw [getElem_vecMod_same]
  · rw [setEngine_same]
  · rw [setEngine_ne _ _ hkx]
    dsimp only
    rw [getElem_vecMod_ne _ _ hkx, getElem_vecMod_ne _ _ hk]

/-! ## The end of a swap (R23) -/

/-- With nothing waiting, nothing is taken up. -/
theorem runHeld_of_empty {s : State} (h : s.qmp.held = []) : runHeld s = s := by
  unfold runHeld setQmp
  rw [h, List.foldl_nil, ← h]

theorem serveMailboxes_of_none {s : State} (h : ∀ l : Link, s.host.link[l].mbx = none) : (fins 8).foldl serveMailbox s = s := by
  generalize fins 8 = ls
  induction ls with
  | nil => rfl
  | cons l ls ih =>
    have hone : serveMailbox s l = s := by
      unfold serveMailbox
      rw [h l]
    rw [List.foldl_cons, hone, ih]

/-- The engine of a swap that has ended works, and the swap is off the list. -/
def swapEnded (s : State) (x : EngineId) : State :=
  setEngine { s with engines := { s.engines with swaps := s.engines.swaps.filter fun w => w.2 != x } } x fun y => { y with run := .inService }

/-- A swap's end: beside the engine, a flash channel that was served by RAIN meanwhile. -/
theorem endSwap_cases {s : State} {x : EngineId} {r : Role} (h : (s.engines.swaps.find? fun w => w.2 == x) = some (r, x)) :
    ∃ v : Vector FlashChan 32, endSwap s x = { swapEnded s x with flash := { s.flash with ch := v } } ∧
      ∀ c, r = .flash c → s.flash.ch[c].run = .engineSwap → v[c].run = .inService := by
  unfold endSwap
  rw [h]
  cases r with
  | flash c =>
    dsimp only
    split
    · refine ⟨_, rfl, fun k hk _ => ?_⟩
      cases hk
      rw [getElem_vecMod_same]
    · rename_i hno
      refine ⟨s.flash.ch, rfl, fun k hk hrun => ?_⟩
      cases hk
      exact absurd hrun hno
  | persistence => exact ⟨s.flash.ch, rfl, fun _ hk => by cases hk⟩
  | dram => exact ⟨s.flash.ch, rfl, fun _ hk => by cases hk⟩
  | port => exact ⟨s.flash.ch, rfl, fun _ hk => by cases hk⟩
  | mgmt => exact ⟨s.flash.ch, rfl, fun _ hk => by cases hk⟩
  | spare => exact ⟨s.flash.ch, rfl, fun _ hk => by cases hk⟩

theorem endSwap_stands {s : State} {x : EngineId} {r : Role} (h : (s.engines.swaps.find? fun w => w.2 == x) = some (r, x)) :
    (endSwap s x).engines.eng[x].run = .inService ∧ (endSwap s x).engines.eng[x].role = s.engines.eng[x].role ∧
      (∀ w ∈ (endSwap s x).engines.swaps, w.2 ≠ x) ∧
      (∀ c, r = .flash c → s.flash.ch[c].run = .engineSwap → (endSwap s x).flash.ch[c].run = .inService) ∧
      endSwap s x = { s with engines := (endSwap s x).engines, flash := { s.flash with ch := (endSwap s x).flash.ch } } := by
  obtain ⟨v, heq, hv⟩ := endSwap_cases h
  rw [heq]
  refine ⟨?_, ?_, fun w hw => bne_iff_ne.1 (List.mem_filter.1 hw).2, hv, rfl⟩
  · change (swapEnded s x).engines.eng[x].run = _
    rw [swapEnded, setEngine_same]
  · change (swapEnded s x).engines.eng[x].role = _
    rw [swapEnded, setEngine_same]

/-- Settles O24: an exception by `queueTest_engine`, a failure by `failEngine_spare`, a swap's end by `endSwap_stands`. -/
theorem engineFaultsAreTestedAndSpared : Obligations.EngineFaultsAreTestedAndSpared := by
  refine ⟨⟨fun s => ⟨fun hp => ?_, fun hup hp hprog herase => ?_⟩, fun s e hup hr hrest hp => ?_, fun s e he hi hrun => ?_⟩,
    fun s e x r he hlive hr hs hx => ?_, fun s x r hx => ?_⟩
  · refine congrArg Host.Outcome.next (if_neg ?_)
    rw [beq_eq_false_iff_ne.2 hp, Bool.and_false]
    exact Bool.false_ne_true
  · refine congrArg Host.Outcome.next (if_pos ?_)
    rw [hup, hp, bne_iff_ne.2 hprog, bne_iff_ne.2 herase]
    rfl
  · have htested := tested_queueTest (s := countTransient (setEngine s e fun x => { x with run := .bist, suspect := false }) (.engine e))
      (p := .engine e) none (.inr ⟨rfl, rfl⟩)
    obtain ⟨tests, htests⟩ := queueTest_engine (countTransient (setEngine s e fun x => { x with run := .bist, suspect := false }) (.engine e)) e
    refine ⟨_, exec_engineException hup hr hrest hp, ?_, htested, ?_, fun k hk => ?_, ?_, ?_, ?_⟩
    all_goals rw [htests]
    · exact congrArg Engine.run (setEngine_same _ _ _)
    · rfl
    · exact setEngine_ne _ _ hk
    · rfl
    · rfl
    · rfl
  · obtain ⟨x, hx⟩ := Option.isSome_iff_exists.1 he
    have hended := endTest_ended hx true
    have heng : (endTest s x true).engines = s.engines := (congrArg State.engines (endTest_frame s x true) :)
    have hno : engineIntermittent (endTest s x true) e = false :=
      (engineIntermittent_congr heng (by rw [hended.faults]) hended.clock).trans hi
    refine ⟨_, (exec_engineBistComplete hx true).trans (congrArg Host.Outcome.next (if_pos (by rw [hno]; rfl))), ?_, ?_, ?_, hended.ended,
      fun k hk => ?_, hended.dram, hended.flash, hended.host⟩
    · rw [setEngine_same, heng]
      exact if_pos hrun
    · rw [setEngine_same]
    · rw [setEngine_same, heng]
    · rw [setEngine_ne _ _ hk, heng]
  · obtain ⟨y, hy⟩ := Option.isSome_iff_exists.1 he
    have hended := endTest_ended hy false
    have heng : (endTest s y false).engines = s.engines := (congrArg State.engines (endTest_frame s y false) :)
    have hne : x ≠ e := by
      rintro rfl
      exact hs (Option.some.inj (hr.symm.trans (spareOf_role hx)))
    have hfail := failEngine_spare (s := endTest s y false) (e := e) (x := x) (r := r) (by rw [heng]; exact hlive) (by rw [heng]; exact hr) hs
      (by rw [heng]; exact hx)
    have hafter := ((AfterSwap.swapChannel (rolePassed (endTest s y false) e x r) r).trans (.spareNotice _ true)).trans (.checkMirrors _)
    obtain ⟨hrun, hrole, hxrole, hxrun, hmem, hother, hdram, hhost⟩ := rolePassed_stands (s := endTest s y false) (r := r) hne
    refine ⟨_, (exec_engineBistComplete hy false).trans (congrArg Host.Outcome.next ((if_neg (by simp)).trans (congrArg checkMirrors hfail))),
      ?_, ?_, ?_, ?_, ?_, fun k hk hkx => ?_, ?_, ?_⟩
    · rw [hafter.engines, hrun]
    · rw [hafter.engines, hrole]
    · rw [hafter.engines, hxrole]
    · rw [hafter.engines, hxrun]
    · rw [hafter.engines]
      exact hmem
    · rw [hafter.engines, hother k hk hkx, heng]
    · rw [hafter.dram, hdram, hended.dram]
    · rw [hafter.host, hhost, hended.host]
  · obtain ⟨hrun, hrole, hswaps, hflash, heq⟩ := endSwap_stands hx
    refine ⟨endSwap s x, rfl, hrun, hrole, hswaps, hflash, heq, fun hheld hmbx => congrArg Host.Outcome.next ?_⟩
    rw [serveMailboxes_of_none, runHeld_of_empty]
    · rw [heq]
      exact hheld
    · rw [heq]
      exact hmbx

end Sys2Proof.Machine
end

section
/-! The start of a save (O25). -/

namespace Sys2Proof.Machine

open Sys2Proof

/-- What a trigger stops leaves these alone: memory, the manifest, the persistence loop, the save's own record,
host side, rails, power, temperatures, the button. -/
structure WorkStopped (s t : State) : Prop where
  mem : t.dram.mem = s.dram.mem
  manifest : t.flash.manifest = s.flash.manifest
  persist : t.persist = s.persist
  save : t.save = s.save
  host : t.host = s.host
  rails : t.rails = s.rails
  power : t.power = s.power
  thermal : t.thermal = s.thermal
  button : t.button = s.button

namespace WorkStopped

theorem refl (s : State) : WorkStopped s s := ⟨rfl, rfl, rfl, rfl, rfl, rfl, rfl, rfl, rfl⟩

theorem trans {s t u : State} (h : WorkStopped s t) (k : WorkStopped t u) : WorkStopped s u :=
  ⟨k.mem.trans h.mem, k.manifest.trans h.manifest, k.persist.trans h.persist, k.save.trans h.save, k.host.trans h.host,
    k.rails.trans h.rails, k.power.trans h.power, k.thermal.trans h.thermal,
    k.button.trans h.button⟩

theorem foldl {α : Type} {f : State → α → State} (hf : ∀ s x, WorkStopped s (f s x)) (l : List α) (s : State) :
    WorkStopped s (l.foldl f s) := by
  induction l generalizing s with
  | nil => exact refl s
  | cons x l ih => exact (hf s x).trans (ih (f s x))

theorem raise {s t : State} (h : WorkStopped s t) (code : Nat) (payload : List Nat) : WorkStopped s (raise t code payload) := by
  rw [raise_frame]
  exact ⟨h.mem, h.manifest, h.persist, h.save, h.host, h.rails, h.power, h.thermal, h.button⟩

theorem endRest (s : State) (cause : Nat) : WorkStopped s (endRest s cause) := by
  unfold Machine.endRest
  split
  · refine raise ?_ _ _
    exact ⟨rfl, rfl, rfl, rfl, rfl, rfl, rfl, rfl, rfl⟩
  · exact refl s

theorem abandonTest (s : State) (t : Test) : WorkStopped s (abandonTest s t) := by
  unfold Machine.abandonTest
  split
  · exact refl s
  · split <;> exact ⟨rfl, rfl, rfl, rfl, rfl, rfl, rfl, rfl, rfl⟩

theorem forceDebugClosed (s : State) : WorkStopped s (forceDebugClosed s) := by
  have hend : WorkStopped s (endSession s 1) := by
    unfold endSession
    split
    · refine raise ?_ _ _
      exact ⟨rfl, rfl, rfl, rfl, rfl, rfl, rfl, rfl, rfl⟩
    · exact refl s
  exact ⟨hend.mem, hend.manifest, hend.persist, hend.save, hend.host, hend.rails, hend.power, hend.thermal, hend.button⟩

end WorkStopped

theorem programRepair_frame (s : State) (r : Repair) : programRepair s r = { s with cf := (programRepair s r).cf } := by
  unfold programRepair cfPut
  split
  · split <;> rfl
  · rfl

/-- Entries that are programmed change the code flash alone. -/
theorem programHeld_frame (s : State) : ∃ cf, programHeld s = { s with cf := cf } := by
  unfold programHeld
  split
  · exact ⟨s.cf, rfl⟩
  · obtain ⟨cf, h⟩ := foldl_frame (get := fun s => s.cf) (put := fun s cf => { s with cf := cf }) (f := programRepair)
      (fun s r => ⟨_, programRepair_frame s r⟩) (fun _ => rfl) (fun _ _ _ => rfl) s.cf.held { s with cf := { s.cf with held := [] } }
    exact ⟨cf, h⟩

/-- The state of a trigger's work once tests, erases and debug have ended. -/
def workEnded (s : State) : State :=
  forceDebugClosed ((abandonTests (stopRetraining s)).flash.erases.foldl (fun s (e : EraseOp) => eraseBroken s e.ch e.die e.index)
    (abandonTests (stopRetraining s)))

theorem workEnded_stands (s : State) : WorkStopped s (workEnded s) := by
  have hstop : WorkStopped s (stopRetraining s) := by
    unfold stopRetraining
    exact ⟨rfl, rfl, rfl, rfl, rfl, rfl, rfl, rfl, rfl⟩
  have herases (es : List EraseOp) (u : State) : WorkStopped u (es.foldl (fun s e => eraseBroken s e.ch e.die e.index) u) :=
    .foldl (f := fun s (e : EraseOp) => eraseBroken s e.ch e.die e.index) (fun _ _ => ⟨rfl, rfl, rfl, rfl, rfl, rfl, rfl, rfl, rfl⟩) es u
  have habandon (u : State) : WorkStopped u (abandonTests u) := .foldl .abandonTest _ _
  unfold workEnded
  exact ((hstop.trans (habandon _)).trans (herases _ _)).trans (.forceDebugClosed _)

/-- What a trigger has stopped, on the flash medium above all (R157, R194). -/
theorem stopWork_cases (s : State) : ∃ shroud restore bank pack cf out, stopWork s = { workEnded s with
    shroud := shroud, flash := stopFlash (workEnded s).flash, restore := restore, bank := bank, pack := pack, cf := cf, out := out } := by
  obtain ⟨cf, hcf⟩ := programHeld_frame { workEnded s with
    shroud := { (workEnded s).shroud with pass := none, locked := none },
    flash := stopFlash (workEnded s).flash,
    restore := { (workEnded s).restore with inHand := [] },
    bank := { (workEnded s).bank with cbTest := false, testing := false, cbEn := false },
    pack := { (workEnded s).pack with hibernate := false },
    cf := if (workEnded s).cf.op = .erase then { (workEnded s).cf with op := .suspended, suspended := some (workEnded s).cf.sector }
      else (workEnded s).cf,
    out := if (workEnded s).cf.op = .erase then (workEnded s).out ++ [.romCall romSuspended 0] else (workEnded s).out }
  exact ⟨_, _, _, _, _, _, hcf⟩

theorem stopWork_stands (s : State) : WorkStopped s (stopWork s) ∧ (stopWork s).flash.erases = [] ∧ (stopWork s).flash.sealJob = none := by
  obtain ⟨hmem, hmanifest, hpersist, hsave, hhost, hrails, hpower, hthermal, hbutton⟩ := workEnded_stands s
  obtain ⟨_, _, _, _, _, _, h⟩ := stopWork_cases s
  rw [h]
  exact ⟨⟨hmem, hmanifest, hpersist, hsave, hhost, hrails, hpower, hthermal, hbutton⟩, rfl, rfl⟩

/-- A save that starts on an input trigger (R182, R190). -/
theorem startSave_begun {s : State} {trig : Trigger} (hi : isInput trig = true) :
    (startSave s trig).power.state = .save ∧ (startSave s trig).save.phase = 1 ∧ (startSave s trig).save.trigger = some trig ∧
      (startSave s trig).save.onStores = true ∧ (startSave s trig).save.plan = s.persist.plan ∧
      (startSave s trig).save.prior = s.power.state ∧ (startSave s trig).save.charge = s.save.heldCharge ∧
      (startSave s trig).host.stopped = true ∧ (startSave s trig).host.buf = s.host.buf ∧ (startSave s trig).host.slots = s.host.slots ∧
      (startSave s trig).persist = s.persist ∧ (startSave s trig).dram.mem = s.dram.mem ∧ (startSave s trig).rails = s.rails ∧
      (startSave s trig).flash.erases = [] ∧ (startSave s trig).flash.sealJob = none ∧
      (startSave s trig).flash.manifest = s.flash.manifest := by
  obtain ⟨hwork, herases, hseal⟩ := stopWork_stands (endRest s 2)
  obtain ⟨hmem, hmanifest, hpersist, hsave, hhost, hrails, hpower, _, _⟩ := (WorkStopped.endRest s 2).trans hwork
  have hno : outsideR59 trig = false := by
    cases trig <;> simp_all [isInput, outsideR59]
  unfold startSave
  dsimp only
  rw [hno, if_neg Bool.false_ne_true, hi]
  refine ⟨rfl, rfl, rfl, rfl, ?_, ?_, ?_, rfl, ?_, ?_, hpersist, hmem, hrails, herases, hseal, hmanifest⟩
  · rw [hpersist]
  · rw [hpower]
  · rw [hsave]
  · rw [hhost]
  · rw [hhost]

/-- A save that starts on whatever trigger: what follows the seal is the trigger's (Table 07-1). -/
theorem startSave_stands (s : State) (t : Trigger) : (startSave s t).power.state = .save ∧ (startSave s t).save.trigger = some t ∧
    (startSave s t).save.after = afterOf t ∧ (startSave s t).thermal = s.thermal ∧ (startSave s t).button = s.button ∧
    (startSave s t).dram.mem = s.dram.mem := by
  have hwork := (WorkStopped.endRest s 2).trans (stopWork_stands (endRest s 2)).1
  have hinterval (u : State) : WorkStopped u (beginInterval u .excluded) := by
    unfold beginInterval
    split <;> exact ⟨rfl, rfl, rfl, rfl, rfl, rfl, rfl, rfl, rfl⟩
  have hstop : WorkStopped s (if outsideR59 t then beginInterval (stopWork (endRest s 2)) .excluded else stopWork (endRest s 2)) := by
    split
    · exact hwork.trans (hinterval _)
    · exact hwork
  exact ⟨rfl, rfl, rfl, hstop.thermal, hstop.button, hstop.mem⟩

/-- In RUN or RESTORE, no start-up, minimal profile or lowering in the way, a trigger starts its save. -/
theorem triggerSave_starts {s : State} (t : Trigger) (hr : s.power.state = .run ∨ s.power.state = .restore)
    (hst : s.power.starting = false) (hm : s.power.minimal = false) (hl : s.security.lowering = false) :
    triggerSave s t = startSave s t := by
  have hsv : saving s = false := by
    unfold saving
    obtain h | h := hr <;> rw [h] <;> rfl
  have hmay : saveMayStart s = true := by
    unfold saveMayStart
    rw [hm, hst]
    obtain h | h := hr <;> rw [h] <;> rfl
  have hfix : loweringFixed s = false := by
    unfold loweringFixed
    rw [hl, Bool.false_and]
  unfold triggerSave
  rw [hsv, if_neg Bool.false_ne_true, hfix, if_neg Bool.false_ne_true, if_pos hmay]
  dsimp only
  rw [hl, if_neg Bool.false_ne_true]

/-- So does an input trigger. -/
theorem inputTrigger_starts {s : State} (t : Trigger) (hr : s.power.state = .run ∨ s.power.state = .restore)
    (hst : s.power.starting = false) (hm : s.power.minimal = false) (hl : s.security.lowering = false) :
    inputTrigger s t = startSave s t := by
  unfold inputTrigger
  rw [hst, Bool.and_false, Bool.false_and, if_neg Bool.false_ne_true]
  exact triggerSave_starts t hr hst hm hl

/-- Settles O25: both triggers by `inputTrigger_starts`, what a save begins with by `startSave_begun`. -/
theorem inputLossStartsTheSave : Obligations.InputLossStartsTheSave := by
  refine ⟨fun s hr hst hm hl => ⟨⟨startSave { s with power := { s.power with pfLow := true } } .pfN, ?_, startSave_begun rfl⟩,
    ⟨startSave { s with power := { s.power with inputOk := false } } .vinSense, ?_, startSave_begun rfl⟩⟩, fun s hr => ?_⟩
  · exact congrArg Host.Outcome.next (inputTrigger_starts (s := { s with power := { s.power with pfLow := true } }) .pfN hr hst hm hl)
  · exact congrArg Host.Outcome.next (inputTrigger_starts (s := { s with power := { s.power with inputOk := false } }) .vinSense hr hst hm hl)
  · have hsv : saving (assertHold { s with power := { s.power with inputOk := false } }) = false := by
      change (s.power.state == .save) = false
      obtain h | h := hr <;> rw [h] <;> rfl
    have hon : s.power.state = .run ∨ s.power.state = .restore ∨ s.power.state = .save := by
      obtain h | h := hr
      · exact .inl h
      · exact .inr (.inl h)
    refine ⟨_, congrArg Host.Outcome.next ((if_pos hon).trans (if_neg ?_)), rfl, rfl, rfl, rfl⟩
    rw [hsv]
    exact Bool.false_ne_true

end Sys2Proof.Machine
end

section
/-! The end of a save (O27): its seal, phase 7, and the Retained return. -/

namespace Sys2Proof.Machine

open Sys2Proof

/-! ## Phases 5 and 6 (R177, R194) -/

/-- The records of phase 6 change the recorder, the accounts of wear and of the pack, and the save's phase. -/
theorem saveRecord_frame (s : State) : ∃ rc pack, saveRecord s = { s with recorder := rc, pack := pack } := by
  unfold saveRecord
  dsimp only
  rw [logEvent_frame, logEvent_frame]
  exact ⟨_, _, rfl⟩

theorem sweepSuppressed_frame (s : State) : ∃ rc, sweepSuppressed s = { s with recorder := rc } := by
  unfold sweepSuppressed
  dsimp only
  obtain ⟨rc, h⟩ := foldl_frame (get := fun s => s.recorder) (put := fun s rc => { s with recorder := rc })
    (f := fun s b => setBucket (stage s (suppressed s (codeSeverity b.code.toNat) b)) { b with drops := 0 })
    (fun _ _ => ⟨_, rfl⟩) (fun _ => rfl) (fun _ _ _ => rfl) (s.recorder.buckets.filter fun b => b.drops != 0) s
  exact ⟨{ rc with sweptAt := s.clock.opTime }, by rw [h]⟩

theorem programPartial_frame (s : State) : ∃ rc wear, programPartial s = { s with
    recorder := rc, persist := { s.persist with wear := wear } } := by
  unfold programPartial
  split
  · exact ⟨_, _, rfl⟩
  · cases s.recorder.fullPage with
    | none =>
      dsimp only
      split <;> exact ⟨_, _, rfl⟩
    | some rs =>
      dsimp only
      split <;> exact ⟨_, _, rfl⟩

/-- A row that is closed leaves no open row that was not open. -/
theorem closeOne_openRows {s : State} {c : Settings} {band row : Nat} {x : OpenRow} (hx : x ∈ (closeOne s c band row).flash.openRows) :
    ∃ y ∈ s.flash.openRows, y.band = x.band ∧ y.row = x.row := by
  have hend (u : State) (h : x ∈ (endRow u band row).flash.openRows) : x ∈ u.flash.openRows := (List.mem_filter.1 h).1
  have hprog (u : State) (p : PageGroup) (h : x ∈ (programPage u c p).flash.openRows) :
      ∃ y ∈ u.flash.openRows, y.band = x.band ∧ y.row = x.row := by
    unfold programPage at h
    split at h
    · rw [logEvent_flash] at h
      exact ⟨x, h, rfl, rfl⟩
    · obtain ⟨y, hy, hyx⟩ := List.mem_map.1 h
      refine ⟨y, hy, ?_⟩
      rw [← hyx]
      split <;> exact ⟨rfl, rfl⟩
  unfold closeOne at hx
  split at hx
  · exact ⟨x, hend _ hx, rfl, rfl⟩
  · split at hx
    · split at hx
      · obtain ⟨y, hy, hband, hrow⟩ := hprog _ _ (hend _ hx)
        exact ⟨y, hy, hband, hrow⟩
      · exact ⟨x, hend _ hx, rfl, rfl⟩
    · exact ⟨x, hend _ hx, rfl, rfl⟩

/-- Closing every open row leaves none. -/
theorem closeAllRows_openRows (s : State) (c : Settings) : (closeAllRows s c).flash.openRows = [] := by
  have hfold (l : List OpenRow) (u : State) (x : OpenRow)
      (hx : x ∈ (l.foldl (fun s r => closeOne s c r.band r.row) u).flash.openRows) :
      (∃ y ∈ u.flash.openRows, y.band = x.band ∧ y.row = x.row) ∧ ∀ r ∈ l, ¬ (x.band = r.band ∧ x.row = r.row) := by
    induction l generalizing u with
    | nil => exact ⟨⟨x, hx, rfl, rfl⟩, fun _ h => absurd h List.not_mem_nil⟩
    | cons r l ih =>
      obtain ⟨⟨y, hy, hband, hrow⟩, hnot⟩ := ih _ hx
      obtain ⟨z, hz, hzband, hzrow⟩ := closeOne_openRows hy
      refine ⟨⟨z, hz, hzband.trans hband, hzrow.trans hrow⟩, fun q hq => ?_⟩
      obtain rfl | hq := List.mem_cons.1 hq
      · rw [← hband, ← hrow]
        exact closeOne_ends u c q.band q.row y hy
      · exact hnot q hq
  refine List.eq_nil_iff_forall_not_mem.2 fun x hx => ?_
  unfold closeAllRows at hx
  obtain ⟨ps, hps⟩ := issueWaiting_cases (s.flash.openRows.foldl (fun s r => closeOne s c r.band r.row) s)
  rw [hps] at hx
  obtain ⟨⟨y, hy, hband, hrow⟩, hnot⟩ := hfold _ s x hx
  exact hnot y hy ⟨hband.symm, hrow.symm⟩

theorem dropJob_sealJob (s : State) : (dropJob s).flash.sealJob = none := by
  unfold dropJob
  split
  · rfl
  · assumption

theorem closeAllRows_sealJob (s : State) (c : Settings) : (closeAllRows s c).flash.sealJob = s.flash.sealJob :=
  ((RowsStand.foldl (f := fun s (r : OpenRow) => closeOne s c r.band r.row) (fun s r => RowsStand.closeOne s c r.band r.row)
    s.flash.openRows s).trans (.issueWaiting _)).sealJob

/-- Phase 6 begins: rows closed, the seal record asked for. -/
theorem beginSaveSeal_stands {s : State} (c : Settings) {j : SealJob} (hw : metaWaits s .root = false) :
    (beginSaveSeal s c j).save.phase = 6 ∧ (beginSaveSeal s c j).flash.sealJob = some { j with stage := .record } ∧
      (beginSaveSeal s c j).flash.openRows = [] ∧ (beginSaveSeal s c j).flash.gens = s.flash.gens ∧
      (beginSaveSeal s c j).dram = s.dram ∧ (beginSaveSeal s c j).host = s.host := by
  obtain ⟨rc1, h1⟩ := sweepSuppressed_frame { s with save := { s.save with phase := 6, phaseAt := s.clock.now } }
  obtain ⟨rc2, pack, h2⟩ := saveRecord_frame { s with save := { s.save with phase := 6, phaseAt := s.clock.now }, recorder := rc1 }
  obtain ⟨rc3, wear, h3⟩ := programPartial_frame
    { s with save := { s.save with phase := 6, phaseAt := s.clock.now }, recorder := rc2, pack := pack }
  have heq : beginSaveSeal s c j = closeAllRows { s with
      save := { s.save with phase := 6, phaseAt := s.clock.now }, recorder := rc3, pack := pack, persist := { s.persist with wear := wear },
      flash := { s.flash with sealJob := some { j with stage := .record } } } c := by
    unfold beginSaveSeal
    dsimp only
    rw [h1, h2, h3]
    refine if_neg ?_
    rw [show metaWaits { s with
      save := { s.save with phase := 6, phaseAt := s.clock.now }, recorder := rc3, pack := pack, persist := { s.persist with wear := wear } } .root =
        metaWaits s .root from rfl, hw]
    exact Bool.false_ne_true
  rw [heq]
  have hwork := (FlashWork.refl { s with
      save := { s.save with phase := 6, phaseAt := s.clock.now }, recorder := rc3, pack := pack, persist := { s.persist with wear := wear },
      flash := { s.flash with sealJob := some { j with stage := .record } } }).closeAllRows c
  exact ⟨(congrArg (·.save.phase) hwork.eq :), closeAllRows_sealJob _ _, closeAllRows_openRows _ _, hwork.gens, hwork.dram, hwork.host⟩

theorem exec_saveManifestComplete {s : State} (hsv : s.power.state = .save) (hp : s.save.phase = 5) :
    exec .saveManifestComplete s = .next (
      if decide (flashChannels s < 2) || s.save.endCause == .noPage || s.flash.sealJob.isNone then sealedSave (dropJob s) false
      else match s.startup.settings, s.flash.sealJob with
        | some c, some j => if j.stage = .root && !metaWaits s .root then beginSaveSeal s c j else s
        | _, _ => s) := by
  refine congrArg Host.Outcome.next (if_pos ?_)
  unfold saving
  rw [hsv, hp]
  rfl

/-- A SAVE generation sealed in phase 6: phase 7 begins with its seal. -/
theorem sealDone_save {s : State} {j : SealJob} (d : Generation) (hk : j.kind = .save) (hr : j.restripe = []) (hp : s.save.phase = 6)
    (m : Fin 2) : ∃ es, sealDone s j d (oneCopy m) = sealedSave (copySessions (withErases { s with
      flash := { s.flash with gens := s.flash.gens ++ [newGeneration s .save d (oneCopy m)], gen := openGen s, flushed := 0,
                              sealedAt := s.clock.now, sealJob := none, blocks := s.flash.blocks.map fun b => { b with saved := b.erases } },
      persist := { s.persist with regionGen := regionGens s } } es)) true := by
  obtain ⟨es, hes⟩ := eraseReady_cases { s with
      flash := { s.flash with gens := s.flash.gens ++ [newGeneration s .save d (oneCopy m)], gen := openGen s, flushed := 0,
                              sealedAt := s.clock.now, sealJob := none, blocks := s.flash.blocks.map fun b => { b with saved := b.erases } },
      persist := { s.persist with regionGen := regionGens s } }
  have hnow : sealNow s .save d (oneCopy m) = _ := hes
  refine ⟨es, ?_⟩
  unfold sealDone
  rw [hk, hr, hnow]
  exact if_pos hp

/-- What the seal of a save does with no mirror that failed this attempt (R177). -/
theorem sealOn_save {s : State} {m : Fin 2} {j : SealJob} {d : Generation} (hm : s.flash.mirrors[m].ok = true)
    (hj : s.flash.sealJob = some j) (hd : j.draft = some d) (hr : sealReady s j = true) (hk : j.kind = .save)
    (h0 : j.failed0 = false) (h1 : j.failed1 = false) (hstand : (sealDone s j d (oneCopy m)).flash.mirrors = s.flash.mirrors)
    (k : State → State) : sealOn s m true k = sealDone s j d (oneCopy m) := by
  unfold sealOn
  rw [hm, if_neg (by decide), hj]
  dsimp only
  rw [hd]
  dsimp only
  rw [hr, if_neg (by decide), if_pos rfl, h0, h1, ite_self, Bool.false_or, hstand, Bool.not_and_self, if_neg Bool.false_ne_true, hk,
    if_neg (by decide)]

/-! ## Phase 7 (R98, R196) -/

/-- Words that are programmed one after the other change the code flash alone. -/
theorem cfPuts_frame (s : State) (a : Nat) (f : Nat → DWord) :
    ∃ cf, (List.range 4).foldl (fun t i => cfPut t (a + i) (f i)) s = { s with cf := cf } :=
  foldl_frame (get := fun s => s.cf) (put := fun s cf => { s with cf := cf }) (f := fun t i => cfPut t (a + i) (f i))
    (fun s i => by
      unfold cfPut
      split <;> exact ⟨_, rfl⟩) (fun _ => rfl) (fun _ _ _ => rfl) (List.range 4) s

theorem writeCheckpoint_frame (s : State) : ∃ cf, writeCheckpoint s = { s with cf := cf } := by
  have hgo (a : Nat) : ∃ cf, (List.range 4).foldl (fun t i => cfPut t (a + i) (BitVec.ofNat 64
      ((checkpointWords (if a % 512 = 0 then cfEraseSector s (a / 512) else s) ++
        [(crc32 ((checkpointWords (if a % 512 = 0 then cfEraseSector s (a / 512) else s)).flatMap fun w => leBytes 8 w)).toNat]).getD i 0)))
      (if a % 512 = 0 then cfEraseSector s (a / 512) else s) = { s with cf := cf } := by
    obtain ⟨cf, h⟩ := cfPuts_frame (if a % 512 = 0 then cfEraseSector s (a / 512) else s) a fun i => BitVec.ofNat 64
      ((checkpointWords (if a % 512 = 0 then cfEraseSector s (a / 512) else s) ++
        [(crc32 ((checkpointWords (if a % 512 = 0 then cfEraseSector s (a / 512) else s)).flatMap fun w => leBytes 8 w)).toNat]).getD i 0)
    refine ⟨cf, h.trans ?_⟩
    split <;> rfl
  exact hgo _

theorem writeTrip_frame (s : State) (r : TripRecord) : ∃ cf, writeTrip s r = { s with cf := cf } := by
  unfold writeTrip
  dsimp only
  split
  · exact cfPuts_frame s _ _
  · exact ⟨s.cf, rfl⟩

theorem recordTrip_frame (s : State) (r : TripRecord) (canWrite : Bool) : ∃ th rc cf, recordTrip s r canWrite =
    { s with thermal := th, recorder := rc, cf := cf } := by
  obtain ⟨cf, h⟩ := writeTrip_frame
    (logEvent { s with thermal := { s.thermal with pending := some r } } 0x0781 1 (slice (tripBytes r) 12 16)) r
  unfold recordTrip
  dsimp only
  rw [h, logEvent_frame]
  split <;> exact ⟨_, _, _, rfl⟩

theorem saveTrip_stands (s : State) : (saveTrip s).power = s.power ∧ (saveTrip s).save = s.save ∧ (saveTrip s).rails = s.rails ∧
    (saveTrip s).dram = s.dram := by
  unfold saveTrip
  split
  · obtain ⟨_, _, _, htrip⟩ := recordTrip_frame s (tripNow s (tripSaveBits s) (s.save.sealed.getD 0)) true
    rw [htrip]
    exact ⟨rfl, rfl, rfl, rfl⟩
  · exact ⟨rfl, rfl, rfl, rfl⟩

theorem writeCheckpoint_stands (s : State) : (writeCheckpoint s).power = s.power ∧ (writeCheckpoint s).save = s.save ∧
    (writeCheckpoint s).rails = s.rails ∧ (writeCheckpoint s).dram = s.dram := by
  obtain ⟨cf, h⟩ := writeCheckpoint_frame s
  rw [h]
  exact ⟨rfl, rfl, rfl, rfl⟩

theorem channelsSleep_frame (s : State) : ∃ d, channelsSleep s = { s with dram := d } ∧ d.mem = s.dram.mem := by
  unfold channelsSleep
  exact ⟨_, rfl, rfl⟩

/-- The retirement of phase 7 leaves all but the channels, the code flash, a trip record and the recorder. -/
theorem retire_stands (s : State) : (retire s).power = s.power ∧ (retire s).save = s.save ∧ (retire s).rails = s.rails ∧
    (retire s).dram = (channelsSleep s).dram := by
  obtain ⟨hpower, hsave, hrails, hdram⟩ := saveTrip_stands (writeCheckpoint (channelsSleep s))
  obtain ⟨kpower, ksave, krails, kdram⟩ := writeCheckpoint_stands (channelsSleep s)
  obtain ⟨d, hd, _⟩ := channelsSleep_frame s
  refine ⟨(hpower.trans kpower).trans ?_, (hsave.trans ksave).trans ?_, (hrails.trans krails).trans ?_, hdram.trans kdram⟩
  all_goals rw [hd]

theorem getElem_vecMap {α β : Type} {n : Nat} (v : Vector α n) (f : Fin n → α → β) (i : Fin n) : (vecMap v f)[i] = f i v[i] := by
  unfold vecMap
  exact Vector.getElem_ofFn i.isLt

theorem channelsSleep_mem (s : State) : (channelsSleep s).dram.mem = s.dram.mem := by
  obtain ⟨d, hd, hmem⟩ := channelsSleep_frame s
  rw [hd, hmem]

theorem channelsSleep_run {s : State} {ch : DramCh} (h : s.dram.ch[ch].run = .inService) :
    (channelsSleep s).dram.ch[ch].run = .selfRefresh := by
  unfold channelsSleep
  dsimp only
  rw [getElem_vecMap, if_pos]
  rw [chanUp, h]
  rfl

/-- A save that leaves the module off takes every rail down, cause 5 (R196, R290). -/
theorem saveDown_stands (s : State) : (saveDown s).dram = s.dram ∧ (saveDown s).flash = s.flash ∧ (saveDown s).host = s.host ∧
    (saveDown s).save.phase = s.save.phase ∧ (saveDown s).save.returning = false ∧ (saveDown s).rails.downTodo = enabledRails s ∧
    (saveDown s).rails.downThen.isSome = true ∧ (saveDown s).button.cause = 5 := by
  have hnotice : ∃ nt rc sm, deferredNotice s = { s with notices := nt, recorder := rc, smb := sm } := by
    unfold deferredNotice railFaultNotice
    split
    · rw [raise_frame]
      exact ⟨_, _, _, rfl⟩
    · exact ⟨_, _, _, rfl⟩
  obtain ⟨nt, rc, sm, h⟩ := hnotice
  unfold saveDown
  rw [h]
  exact ⟨rfl, rfl, rfl, rfl, rfl, rfl, rfl, rfl⟩

/-- The end of phase 7: a Retained return on the input, the rails' way down otherwise. -/
theorem exec_saveRetireComplete {s : State} (hsv : s.power.state = .save) (hp : s.save.phase = 7) (hd : s.rails.downThen = none)
    (hst : s.shroud.staging = []) (inputHeld : Bool) : exec (.saveRetireComplete inputHeld) s = .next (
      if s.save.returning && inputHeld && inputGood s && s.rails.deferred.isNone then saveEnded (releaseHold (retire s))
      else saveDown (retire s)) := by
  refine congrArg Host.Outcome.next (if_pos ?_)
  unfold saving
  rw [hsv, hp, hd, hst]
  rfl

/-- A Retained return begins: phase 8, HOLD_EN released. -/
theorem saveEnded_stands {s : State} (hsv : s.power.state = .save) (hp : s.save.phase = 7) :
    (saveEnded (releaseHold s)).dram = s.dram ∧ (saveEnded (releaseHold s)).save.phase = 8 ∧
      (saveEnded (releaseHold s)).charger.holdEn = false ∧ (saveEnded (releaseHold s)).charger.run = .held ∧
      (saveEnded (releaseHold s)).rails = s.rails := by
  have hgo : (saving (releaseHold s) && decide ((releaseHold s).save.phase = 7)) = true := by
    unfold saving
    rw [show (releaseHold s).power = s.power from rfl, show (releaseHold s).save = s.save from rfl, hsv, hp]
    rfl
  unfold saveEnded
  rw [if_pos hgo]
  exact ⟨rfl, rfl, rfl, rfl, rfl⟩

/-! ## The Retained return (R110, R196, R207, R228) -/

/-- The ranks leave self-refresh: DRAM's contents and the sealed generations stand, and a channel that was in service when it went to
sleep is in service. -/
structure Woken (s t : State) : Prop where
  eq : t = { s with dram := t.dram, shroud := t.shroud, flash := t.flash, recorder := t.recorder, persist := t.persist, pack := t.pack }
  mem : t.dram.mem = s.dram.mem
  gens : t.flash.gens = s.flash.gens
  slept : ∀ ch : DramCh, t.dram.ch[ch].sleptFrom = s.dram.ch[ch].sleptFrom
  served : ∀ ch : DramCh, s.dram.ch[ch].sleptFrom = .inService → s.dram.ch[ch].run = .inService → t.dram.ch[ch].run = .inService

namespace Woken

theorem refl (s : State) : Woken s s := ⟨rfl, rfl, rfl, fun _ => rfl, fun _ _ h => h⟩

theorem trans {s t u : State} (h : Woken s t) (k : Woken t u) : Woken s u := by
  refine ⟨?_, k.mem.trans h.mem, k.gens.trans h.gens, fun ch => (k.slept ch).trans (h.slept ch),
    fun ch hf hr => k.served ch ((h.slept ch).trans hf) (h.served ch hf hr)⟩
  rw [k.eq, h.eq]

/-- A change of one channel's record. -/
theorem setChan (s : State) (ch : DramCh) (f : DramChan → DramChan) (hf : (f s.dram.ch[ch]).sleptFrom = s.dram.ch[ch].sleptFrom)
    (hr : s.dram.ch[ch].sleptFrom = .inService → s.dram.ch[ch].run = .inService → (f s.dram.ch[ch]).run = .inService) :
    Woken s (setChan s ch f) := by
  refine ⟨rfl, rfl, rfl, fun k => ?_, fun k hk hkr => ?_⟩
  · by_cases h : k = ch
    · subst h
      rw [setChan_ch_same, hf]
    · rw [setChan_ch_ne _ _ h]
  · by_cases h : k = ch
    · subst h
      rw [setChan_ch_same, hr hk hkr]
    · rw [setChan_ch_ne _ _ h, hkr]

theorem wakeChannel (s : State) (c : Settings) (ch : DramCh) : Woken s (wakeChannel s c ch) := by
  have hset : Woken s (Machine.setChan s ch fun d => { d with
    run := if d.sleptFrom = .rebuilding ∨ d.sleptFrom = .retraining then d.sleptFrom else .inService, resetN := true,
    rate := s.dram.rate / 4, refreshes := (d.refreshes + 2 * c.dramPranks * c.dramStack) % 2 ^ 32 }) := by
    refine setChan s ch _ rfl fun hf _ => ?_
    dsimp only
    rw [hf]
    rfl
  have htrained (u : State) : Woken u (noteTrained u ch) := setChan u ch _ rfl fun _ h => h
  have hqueue (u : State) : Woken u (queueRetrain u ch) := by
    rw [queueRetrain_frame]
    exact ⟨rfl, rfl, rfl, fun _ => rfl, fun _ _ h => h⟩
  unfold Machine.wakeChannel
  dsimp only
  split
  · exact (hset.trans (htrained _)).trans (hqueue _)
  · exact hset.trans (htrained _)

theorem foldl {α : Type} {f : State → α → State} (hf : ∀ s x, Woken s (f s x)) (l : List α) (s : State) : Woken s (l.foldl f s) := by
  induction l generalizing s with
  | nil => exact refl s
  | cons x l ih => exact (hf s x).trans (ih (f s x))

theorem setShroudMode (s : State) : Woken s (setShroudMode s) := by
  unfold Machine.setShroudMode
  split <;> exact ⟨rfl, rfl, rfl, fun _ => rfl, fun _ _ h => h⟩

theorem putShroud (s : State) (sh : Shroud) : Woken s { s with shroud := sh } := ⟨rfl, rfl, rfl, fun _ => rfl, fun _ _ h => h⟩

theorem resumePass (s : State) : Woken s (resumePass s) := by
  have hwhole (ch : DramCh) : Woken s (endWhole s ch) := by
    unfold endWhole
    split
    · exact ((putShroud s _).trans (setChan _ ch _ rfl fun _ _ => rfl)).trans (setShroudMode _)
    · exact putShroud s _
  unfold Machine.resumePass
  split
  · exact refl s
  · split
    · exact refl s
    · dsimp only
      split
      · exact putShroud s _
      · split
        · exact putShroud s _
        · split
          · exact hwhole _
          · exact refl s

theorem renewMoves (s : State) : Woken s (renewMoves s) := by
  have hwork : FlashWork s (Machine.renewMoves s) := by
    unfold Machine.renewMoves
    split
    · exact .refl s
    · refine FlashWork.foldl (fun b h => ?_) _ (.refl s)
      split
      · exact (h.putFlash).moveBand _ _
      · split
        · exact h.moveBand _ _
        · exact .ite (h.moveBand _ _) (.ite (h.moveBand _ _) h)
  have hdram := hwork.dram
  refine ⟨?_, congrArg Dram.mem hdram, hwork.gens, fun ch => ?_, fun ch _ h => ?_⟩
  · rw [hwork.eq]
  · rw [hdram]
  · rw [hdram, h]

end Woken

/-- With no rank that fails, every rank in self-refresh wakes. -/
theorem wakeAll_of_none (s : State) (c : Settings) :
    wakeAll s c [] = (sleepingChannels s).foldl (fun s i => wakeChannel s c i) s := by
  unfold wakeAll
  simp

theorem wakeAll_woken (s : State) (c : Settings) : Woken s (wakeAll s c []) := by
  rw [wakeAll_of_none]
  exact .foldl (fun s i => .wakeChannel s c i) _ s

theorem wakeChannel_run (s : State) (c : Settings) {ch : DramCh} (h : s.dram.ch[ch].sleptFrom = .inService) :
    (wakeChannel s c ch).dram.ch[ch].run = .inService := by
  unfold wakeChannel noteTrained
  dsimp only
  split
  · rw [queueRetrain_frame]
    dsimp only
    rw [setChan_ch_same, setChan_ch_same]
    dsimp only
    rw [h]
    rfl
  · rw [setChan_ch_same, setChan_ch_same]
    dsimp only
    rw [h]
    rfl

/-- A channel that slept from service is in service again. -/
theorem wakeAll_run {s : State} (c : Settings) {ch : DramCh} (hr : s.dram.ch[ch].run = .selfRefresh)
    (hf : s.dram.ch[ch].sleptFrom = .inService) : (wakeAll s c []).dram.ch[ch].run = .inService := by
  have hfold (l : List DramCh) (u : State) (hl : ch ∈ l) (hu : u.dram.ch[ch].sleptFrom = .inService) :
      (l.foldl (fun s i => wakeChannel s c i) u).dram.ch[ch].run = .inService := by
    induction l generalizing u with
    | nil => cases hl
    | cons x l ih =>
      have hx := Woken.wakeChannel u c x
      rw [List.foldl_cons]
      obtain rfl | hl := List.mem_cons.1 hl
      · exact (Woken.foldl (fun s i => .wakeChannel s c i) l _).served ch ((hx.slept ch).trans hu) (wakeChannel_run u c hu)
      · exact ih _ hl ((hx.slept ch).trans hu)
  rw [wakeAll_of_none]
  refine hfold _ s (List.mem_filter.2 ⟨List.mem_finRange ch, ?_⟩) hf
  rw [hr]
  rfl

/-- The ranks awake, passes and moves going on: everything but the AON counts of the pack. -/
theorem wakeRetained_woken (s : State) (c : Settings) : Woken s (wakeRetained s c) := by
  have h := ((wakeAll_woken s c).trans (.resumePass _)).trans (.renewMoves _)
  exact h.trans ⟨rfl, rfl, rfl, fun _ => rfl, fun _ _ h => h⟩

theorem wakeRetained_run {s : State} (c : Settings) {ch : DramCh} (hr : s.dram.ch[ch].run = .selfRefresh)
    (hf : s.dram.ch[ch].sleptFrom = .inService) : (wakeRetained s c).dram.ch[ch].run = .inService :=
  ((Woken.resumePass _).trans (.renewMoves _)).served ch (((wakeAll_woken s c).slept ch).trans hf) (wakeAll_run c hr hf)

theorem beginSequence_frame (s : State) (rs : List Rail) (p : SeqPurpose) : ∃ rails, beginSequence s rs p = { s with rails := rails } := by
  obtain ⟨rails, h⟩ := foldl_frame (get := fun s => s.rails) (put := fun s r => { s with rails := r })
    (f := fun s (r : Rail) => setRail s r fun x => { x with retries := 0 }) (fun _ _ => ⟨_, rfl⟩) (fun _ => rfl) (fun _ _ _ => rfl)
    (rs.filter fun r => s.rails.rail[r].run != .qualified) s
  unfold beginSequence
  dsimp only
  rw [h]
  split <;> exact ⟨_, rfl⟩

/-- The state in which a Retained return takes service up again. -/
def serviceBack (s : State) : State :=
  { s with host := { s.host with stopped := false }, save := { s.save with retained := true, returning := false, sealWait := false } }

/-- Service is taken up again in RUN. -/
theorem resumeState_run {s : State} (hp : s.save.prior = .run) (hf : s.save.fromStart = false) : ∃ rails sec, resumeState s =
    { serviceBack s with power := { s.power with state := .run }, rails := rails, security := sec } := by
  have htake : takeUp (serviceBack s) = { serviceBack s with power := { s.power with state := .run } } := by
    unfold takeUp
    rw [show (serviceBack s).save.fromStart = s.save.fromStart from rfl, hf, if_neg Bool.false_ne_true,
      show (serviceBack s).save.prior = s.save.prior from rfl, hp]
    rfl
  obtain ⟨rails, h⟩ := beginSequence_frame (debugReturns { serviceBack s with power := { s.power with state := .run } }) [3, 4]
    (.groupAgain 0)
  have hres : resumeState s = beginSequence (debugReturns { serviceBack s with power := { s.power with state := .run } }) [3, 4]
      (.groupAgain 0) := by
    change (let s := takeUp (serviceBack s)
      if s.save.fromStart then s else beginSequence (if s.power.state = .run then debugReturns s else s) [3, 4] (.groupAgain 0)) = _
    rw [htake]
    refine (if_neg ?_).trans (congrArg (fun u => beginSequence u [3, 4] (.groupAgain 0)) (if_pos rfl))
    exact (Bool.eq_false_iff.1 hf)
  exact ⟨rails, _, hres.trans h⟩

/-- With no request held and MR_N not latched, what follows a return sends its notice and starts tests. -/
theorem afterReturn_stands {s : State} (hq : s.qmp.held = []) (hb : s.button.mrLatched = false) : ∃ nt rc sm fa, afterReturn s =
    { s with notices := nt, recorder := rc, smb := sm, faults := fa } := by
  have hidle (u : State) (h : u.button.mrLatched = false) : actLatchedReset u = u := by
    unfold actLatchedReset
    rw [h]
    rfl
  have hheld := runHeld_of_empty (s := raise s 0x0503 (saveCompletePayload s (s.save.sealed.getD 0))) (by rw [raise_qmp]; exact hq)
  unfold afterReturn
  rw [hheld, raise_frame]
  exact ⟨_, _, _, _, hidle _ (by exact hb)⟩

theorem exec_retainedReturnComplete {s : State} {c : Settings} (hc : s.startup.settings = some c) (hsv : s.power.state = .save)
    (hp : s.save.phase = 8) (hr : s.save.returning = true) (hw : s.save.sealWait = false) (trained : Bool) :
    exec (.retainedReturnComplete trained) s = .next (if !trained then saveDown s
      else if (wakeRetained s c).save.heldTrigs.isEmpty then sealReturn (wakeRetained s c) else startHeld (takeUp (wakeRetained s c))) := by
  refine congrArg Host.Outcome.next ((if_pos ?_).trans ?_)
  · unfold saving
    rw [hsv, hp, hr, hw]
    rfl
  · rw [hc]

/-- The end of phase 7: its channels in self-refresh. -/
theorem saveRetireComplete_ends {s : State} (hsv : s.power.state = .save) (hp : s.save.phase = 7) (keep : Bool) {t : State}
    (ht : t = if keep then saveEnded (releaseHold (retire s)) else saveDown (retire s)) :
    (∀ ch : DramCh, s.dram.ch[ch].run = .inService → t.dram.ch[ch].run = .selfRefresh) ∧ t.dram.mem = s.dram.mem ∧
      if keep then t.save.phase = 8 ∧ t.charger.holdEn = false ∧ t.charger.run = .held ∧ t.rails = s.rails
      else t.save.phase = 7 ∧ t.rails.downTodo = enabledRails s ∧ t.rails.downThen.isSome = true ∧ t.button.cause = 5 := by
  obtain ⟨hpower, hsave, hrails, hdram⟩ := retire_stands s
  subst ht
  cases keep
  · obtain ⟨kdram, _, _, hphase, _, htodo, hthen, hcause⟩ := saveDown_stands (retire s)
    have hen : enabledRails (retire s) = enabledRails s := by
      unfold enabledRails
      rw [hrails]
    rw [if_neg Bool.false_ne_true, if_neg Bool.false_ne_true, kdram, hdram, hphase, hsave, htodo, hen]
    exact ⟨fun ch h => channelsSleep_run h, channelsSleep_mem s, hp, rfl, hthen, hcause⟩
  · obtain ⟨kdram, hphase, hhold, hrun, krails⟩ := saveEnded_stands (s := retire s) (by rw [hpower]; exact hsv) (by rw [hsave]; exact hp)
    rw [if_pos rfl, if_pos rfl, kdram, hdram, krails, hrails]
    exact ⟨fun ch h => channelsSleep_run h, channelsSleep_mem s, hphase, hhold, hrun, rfl⟩

/-- Settles O27: the seal by `sealDone_save`, phase 7 by `retire_stands`, the return by `Woken`. -/
theorem saveSealsThenRetiresOrReturns : Obligations.SaveSealsThenRetiresOrReturns := by
  refine ⟨⟨fun s c hc hsv hp => ⟨fun j hfl hne hj hst hw => ?_, fun hend => ?_⟩, fun s m j d hb hm hp hw hj hd hready hk h0 h1 hrs => ?_,
    fun s inputHeld hsv hp hd hst => ?_⟩, fun s c hc hsv hp hr hw => ⟨fun hheld => ⟨fun hn => ?_, fun hn hprior hfrom hq hb => ?_⟩, ?_⟩⟩
  · refine ⟨beginSaveSeal s c j, (exec_saveManifestComplete hsv hp).trans (congrArg Host.Outcome.next ((if_neg ?_).trans ?_)),
      beginSaveSeal_stands c hw⟩
    · rw [decide_eq_false (by omega), beq_eq_false_iff_ne.2 hne, hj]
      exact Bool.false_ne_true
    · rw [hc, hj]
      exact if_pos (by rw [decide_eq_true hst, hw]; rfl)
  · have hwork := (FlashWork.refl s).dropJob
    refine ⟨sealedSave (dropJob s) false, (exec_saveManifestComplete hsv hp).trans (congrArg Host.Outcome.next (if_pos ?_)), rfl, rfl, rfl,
      dropJob_sealJob s, hwork.gens, hwork.dram, hwork.host⟩
    rw [hend, Bool.or_assoc, Bool.or_left_comm]
    rfl
  · obtain ⟨es, hes⟩ := sealDone_save (s := s) d hk hrs hp m
    have hon := sealOn_save hm hj hd hready hk h0 h1 (by rw [hes]; rfl) serviceSealed
    refine ⟨_, congrArg Host.Outcome.next ((if_neg (by rw [hb]; exact Bool.false_ne_true)).trans ((congrArg renewSeal (hon.trans hes)).trans
      (if_neg ?_))), rfl, rfl, rfl, ?_, rfl⟩
    · change ¬ (s.save.sealWait && _) = true
      rw [hw]
      exact Bool.false_ne_true
    · exact congrArg (Option.map Generation.kind) List.getLast?_concat
  · exact ⟨_, exec_saveRetireComplete hsv hp hd hst inputHeld, saveRetireComplete_ends hsv hp _ rfl⟩
  · have hwake := wakeRetained_woken s c
    have hsame : (wakeRetained s c).save = s.save := (congrArg State.save hwake.eq :)
    have hneeds : needsCheckpoint (wakeRetained s c) = true := by
      unfold needsCheckpoint newestGen
      rw [hwake.gens]
      exact hn
    refine ⟨{ wakeRetained s c with save := { (wakeRetained s c).save with sealWait := true } },
      (exec_retainedReturnComplete hc hsv hp hr hw true).trans (congrArg Host.Outcome.next ((if_neg (by decide)).trans ((if_pos ?_).trans
        (if_pos hneeds)))), ?_, rfl, hwake.mem, ?_⟩
    · rw [hsame, hheld]
      rfl
    · exact (congrArg (·.power.state) hwake.eq :).trans hsv
    · exact (congrArg (·.host.buf) hwake.eq :)
  · have hwake := wakeRetained_woken s c
    have hsame : (wakeRetained s c).save = s.save := (congrArg State.save hwake.eq :)
    have hneeds : needsCheckpoint (wakeRetained s c) = false := by
      unfold needsCheckpoint newestGen
      rw [hwake.gens]
      exact hn
    obtain ⟨rails, sec, hres⟩ := resumeState_run (s := wakeRetained s c) (by rw [hsame]; exact hprior) (by rw [hsame]; exact hfrom)
    have hq' : (wakeRetained s c).qmp.held = [] := (congrArg (·.qmp.held) hwake.eq :).trans hq
    have hb' : (wakeRetained s c).button.mrLatched = false := (congrArg (·.button.mrLatched) hwake.eq :).trans hb
    obtain ⟨_, _, _, _, hafter⟩ := afterReturn_stands (s := resumeState (wakeRetained s c)) (by rw [hres]; exact hq') (by rw [hres]; exact hb')
    refine ⟨_, (exec_retainedReturnComplete hc hsv hp hr hw true).trans (congrArg Host.Outcome.next ((if_neg (by decide)).trans
      ((if_pos ?_).trans ((if_neg ?_).trans hafter)))), ?_⟩
    · rw [hsame, hheld]
      rfl
    · rw [hneeds]
      exact Bool.false_ne_true
    · have hrun (ch : DramCh) (h : s.dram.ch[ch].run = .selfRefresh) (hf : s.dram.ch[ch].sleptFrom = .inService) :
          (wakeRetained s c).dram.ch[ch].run = .inService := wakeRetained_run c h hf
      have hbuf : (wakeRetained s c).host.buf = s.host.buf := (congrArg (·.host.buf) hwake.eq :)
      have hmem := hwake.mem
      rw [hres]
      exact ⟨rfl, rfl, rfl, rfl, hmem, hbuf, hrun⟩
  · obtain ⟨hdram, hflash, hhost, _, hret, htodo, _, _⟩ := saveDown_stands s
    have hexec := exec_retainedReturnComplete hc hsv hp hr hw false
    rw [if_pos (by rfl)] at hexec
    exact ⟨saveDown s, hexec,
      htodo, hret, hdram, hflash, hhost⟩

end Sys2Proof.Machine
end

section
/-! Restore on demand: the choice of a generation, background restore, and DRAM's way into service (O28 to O30). -/

namespace Sys2Proof.Machine

open Sys2Proof

/-! ## Moves that begin again (R165 to R167) -/

/-- What marking bands to be moved leaves alone: all but the flash medium and the recorder, and of the medium the manifest, the sealed
generations and the mark of a format. -/
structure MovesStand (s t : State) : Prop where
  eq : t = { s with flash := t.flash, recorder := t.recorder }
  manifest : t.flash.manifest = s.flash.manifest
  gens : t.flash.gens = s.flash.gens
  formatting : t.flash.formatting = s.flash.formatting

namespace MovesStand

theorem refl (s : State) : MovesStand s s := ⟨rfl, rfl, rfl, rfl⟩

theorem trans {s t u : State} (h : MovesStand s t) (k : MovesStand t u) : MovesStand s u := by
  refine ⟨?_, k.manifest.trans h.manifest, k.gens.trans h.gens, k.formatting.trans h.formatting⟩
  rw [k.eq, h.eq]

theorem foldl {α : Type} {f : State → α → State} (hf : ∀ s x, MovesStand s (f s x)) (l : List α) (s : State) :
    MovesStand s (l.foldl f s) := by
  induction l generalizing s with
  | nil => exact refl s
  | cons x l ih => exact (hf s x).trans (ih (f s x))

/-- Another flash medium in which these stand. -/
theorem putFlash (s : State) (f : Flash) (hm : f.manifest = s.flash.manifest := by rfl) (hg : f.gens = s.flash.gens := by rfl)
    (hf : f.formatting = s.flash.formatting := by rfl) : MovesStand s { s with flash := f } := ⟨rfl, hm, hg, hf⟩

theorem programPage (s : State) (c : Settings) (p : PageGroup) : MovesStand s (programPage s c p) := by
  unfold Machine.programPage
  split
  · rw [logEvent_frame]
    exact ⟨rfl, rfl, rfl, rfl⟩
  · exact putFlash s _

theorem closeOne (s : State) (c : Settings) (band row : Nat) : MovesStand s (closeOne s c band row) := by
  have hend (u : State) : MovesStand u (endRow u band row) := putFlash u _
  unfold Machine.closeOne
  split
  · exact hend s
  · split
    · split
      · exact ((putFlash s _).trans (programPage _ c _)).trans (hend _)
      · exact hend s
    · exact hend s

theorem closeBand (s : State) (n : Nat) : MovesStand s (closeBand s n) := by
  have hset (u : State) (f : Band → Band) : MovesStand u (setBand u n f) := putFlash u _
  have hissue (u : State) : MovesStand u (issueWaiting u) := by
    obtain ⟨ps, hps⟩ := issueWaiting_cases u
    rw [hps]
    exact putFlash u _
  unfold Machine.closeBand
  split
  · exact hset s _
  · rename_i c _
    exact (((foldl (f := fun s (r : OpenRow) => Machine.closeOne s c n r.row) (fun s r => closeOne s c n r.row) _ s).trans
      (putFlash _ _)).trans (hset _ _)).trans (hissue _)

theorem moveBand (s : State) (n : Nat) (why : MoveReason) : MovesStand s (moveBand s n why) := by
  have hset (u : State) (f : Band → Band) : MovesStand u (setBand u n f) := putFlash u _
  unfold Machine.moveBand
  split
  · exact refl s
  · exact (((putFlash s _).trans (closeBand _ n)).trans (putFlash _ _)).trans (hset _ _)

theorem renewMoves (s : State) : MovesStand s (renewMoves s) := by
  unfold Machine.renewMoves
  split
  · exact refl s
  · refine foldl (fun u b => ?_) _ s
    split
    · exact (putFlash u _).trans (moveBand _ _ _)
    · split
      · exact moveBand u _ _
      · split
        · exact moveBand u _ _
        · split
          · exact moveBand u _ _
          · exact refl u

theorem needsCheckpoint {s t : State} (h : MovesStand s t) : needsCheckpoint t = needsCheckpoint s := by
  unfold Machine.needsCheckpoint newestGen
  rw [h.gens]

end MovesStand

/-! ## Memory service (R209, R211, R300) -/

/-- Service that begins with no press deferred. -/
theorem beginService_frame {s : State} (hd : s.button.deferred = none) : beginService s = { withNotes s (beginService s) with
    startup := { s.startup with step := 9, step9At := some s.clock.now }, host := (activateMemory s).host,
    faults := (beginService s).faults } := by
  have hidle (u : State) (h : u.button.deferred = none) : actDeferred u = u := by
    unfold actDeferred
    rw [h]
  have hsame : beginService s = logEvent (endInterval (activateMemory { s with
      startup := { s.startup with step := 9, step9At := some s.clock.now } })) 0x0B83 0 (powerOnPayload (activateMemory { s with
      startup := { s.startup with step := 9, step9At := some s.clock.now } })) := by
    unfold beginService
    refine hidle _ ?_
    rw [logEvent_frame, endInterval_frame]
    exact hd
  rw [hsame, logEvent_frame, endInterval_frame]
  rfl

/-! ## Step 6 (R204 to R209) -/

theorem rollBack_stands (s : State) (cause : Nat) (used : DWord) : (rollBack s cause used).restore = { s.restore with
      hold := s.restore.hold || decide (cause ≠ 0) } ∧ (rollBack s cause used).startup = s.startup ∧
    (rollBack s cause used).dram = s.dram ∧ (rollBack s cause used).rails = s.rails := by
  unfold rollBack
  split
  · rename_i h
    rw [decide_eq_false (not_not_intro h), Bool.or_false]
    exact ⟨rfl, rfl, rfl, rfl⟩
  · rename_i h
    unfold countDirtyShutdown
    dsimp only
    rw [decide_eq_true h, Bool.or_true, raise_restore, raise_startup, raise_dram, raise_rails]
    exact ⟨rfl, rfl, rfl, rfl⟩

theorem reportSave_stands (s : State) (g : Generation) : (reportSave s g).restore = s.restore ∧ (reportSave s g).startup = s.startup ∧
    (reportSave s g).flash = s.flash ∧ (reportSave s g).dram = s.dram ∧ (reportSave s g).rails = s.rails := by
  unfold reportSave countDirtyShutdown
  dsimp only
  split
  · exact ⟨rfl, rfl, rfl, rfl, rfl⟩
  · split <;> simp only [raise_restore, raise_startup, raise_flash, raise_dram, raise_rails, and_self]

/-- The generation that is used: what step 6 leaves. -/
theorem useGeneration_stands (s : State) (g : Generation) : (useGeneration s g).startup.step = 6 ∧ (useGeneration s g).restore.phase = 2 ∧
    (useGeneration s g).restore.genUsed = g.gen ∧ (useGeneration s g).restore.hold = decide (rollbackCause s g ≠ 0) ∧
    (useGeneration s g).restore.cause = rollbackCause s g ∧
    (useGeneration s g).restore.source = (if rollbackCause s g = 0 then 0 else 1) ∧
    (useGeneration s g).flash.gens.getLast? = some g ∧ (useGeneration s g).flash.gen = highestSeen s ∧
    (useGeneration s g).dram = s.dram ∧ (useGeneration s g).rails = s.rails := by
  obtain ⟨hrestore, hstartup, hdram, hrails⟩ := rollBack_stands
    (chosen s (if rollbackCause s g = 0 then 0 else 1) (rollbackCause s g) g.gen .restore) (rollbackCause s g) g.gen
  unfold useGeneration
  dsimp only
  obtain ⟨krestore, kstartup, kflash, kdram, krails⟩ := reportSave_stands
    { rollBack (chosen s (if rollbackCause s g = 0 then 0 else 1) (rollbackCause s g) g.gen .restore) (rollbackCause s g) g.gen with
      flash := { (rollBack (chosen s (if rollbackCause s g = 0 then 0 else 1) (rollbackCause s g) g.gen .restore)
          (rollbackCause s g) g.gen).flash with
        gens := ((s.flash.gens.filter fun x => some x.keyId == s.security.key && x.gen != g.gen)) ++ [g], gen := highestSeen s },
      save := { (rollBack (chosen s (if rollbackCause s g = 0 then 0 else 1) (rollbackCause s g) g.gen .restore)
          (rollbackCause s g) g.gen).save with report := false } } g
  rw [krestore, kstartup, kflash, kdram, krails, hrestore, hstartup, hdram, hrails]
  exact ⟨rfl, rfl, rfl, Bool.false_or _, rfl, rfl, List.getLast?_concat, rfl, rfl, rfl⟩

/-! ## Steps 7 and 8 (R207, R210, R213) -/

theorem poisonLost_frame (s : State) (gs : List Nat) : ∃ ho pe, poisonLost s gs = { s with host := ho, persist := pe } ∧
    pe.heat = s.persist.heat := by
  unfold poisonLost
  induction gs generalizing s with
  | nil => exact ⟨s.host, s.persist, rfl, rfl⟩
  | cons g gs ih =>
    obtain ⟨ho, pe, h, hheat⟩ := ih (poisonGranule s g .internal)
    exact ⟨ho, pe, h, hheat⟩

/-- What the load of an image changes. -/
theorem loadImage_frame (s : State) (g : Generation) : ∃ nt rc sm ho fl pe qm, loadImage s g [] = { s with
    notices := nt, recorder := rc, smb := sm, host := ho, flash := fl, persist := pe, qmp := qm } ∧
      fl.manifest = loadedManifest s g [] ∧ fl.gens = s.flash.gens ∧ fl.formatting = s.flash.formatting ∧ pe.heat = g.heat ∧
      qm.held = s.qmp.held := by
  have hnote (u : State) (p : Prop) [Decidable p] (code : Nat) (payload : List Nat) : ∃ nt rc sm,
      (if p then raise u code payload else u) = { u with notices := nt, recorder := rc, smb := sm } := by
    split
    · rw [raise_frame]
      exact ⟨_, _, _, rfl⟩
    · exact ⟨_, _, _, rfl⟩
  have hlost (u : State) : ∃ ho pe, poisonLostEntries u = { u with host := ho, persist := pe } ∧ pe.heat = u.persist.heat :=
    poisonLost_frame u _
  unfold loadImage
  dsimp only [List.foldl_nil]
  obtain ⟨ho, pe, hl, hheat⟩ := hlost { s with
    flash := { s.flash with manifest := loadedManifest s g [], chunks := [], chunkMap := g.chunkMap },
    persist := { s.persist with
      heat := g.heat, wear := g.wear, wearPos := decide (0 < g.wear), metaFlushed := savedMeta s g.metaImg (loadedManifest s g []),
      regionGen := _, poisonFlag := _ },
    host := { s.host with
      poison := (savedMeta s g.metaImg (loadedManifest s g [])).poison, labels := (savedMeta s g.metaImg (loadedManifest s g [])).labels,
      shutdownDirty := (savedMeta s g.metaImg (loadedManifest s g [])).shutdownDirty,
      dirtyShutdowns := (savedMeta s g.metaImg (loadedManifest s g [])).dirtyShutdowns + s.host.dirtyShutdowns },
    notices := loadNotices s (savedMeta s g.metaImg (loadedManifest s g [])).notices,
    qmp := { s.qmp with sessions := (savedMeta s g.metaImg (loadedManifest s g [])).sessions.filter fun x => !x.isVolatile } }
  rw [hl]
  obtain ⟨nt, rc, sm, hn⟩ := hnote _ ((g.entries.any (fun e => decide (metaGranule s 5 ≤ e.1))) = true) 0x0904 [1, s.startup.sheetResult]
  exact ⟨nt, rc, sm, ho, _, pe, _, hn, rfl, rfl, rfl, hheat, rfl⟩

/-- Step 8: RESTORE begins on an image that is loaded. -/
def restoreStart (s : State) : State := beginRestore (mergeAon (setQmp s fun q => { q with tableLoaded := true }))

theorem restoreStart_stands (s : State) : (restoreStart s).power = { s.power with state := .restore, starting := false, dramUp := true } ∧
    (restoreStart s).startup = { s.startup with step := 8 } ∧ (restoreStart s).restore.running = true ∧
    (restoreStart s).restore.presence = [] ∧ (restoreStart s).restore.presentR = [] ∧
    (restoreStart s).restore.lostR = lostRegions s s.flash.manifest ∧ (restoreStart s).restore.hold = s.restore.hold ∧
    (restoreStart s).restore.source = s.restore.source ∧
    (restoreStart s).restore.step8At = s.clock.now ∧ (restoreStart s).flash.manifest = s.flash.manifest ∧
    (restoreStart s).flash.gens = s.flash.gens ∧ (restoreStart s).flash.formatting = s.flash.formatting ∧
    (restoreStart s).persist = s.persist ∧ (restoreStart s).dram = s.dram ∧ (restoreStart s).qmp.held = s.qmp.held ∧
    (restoreStart s).button = s.button :=
  ⟨rfl, rfl, rfl, rfl, rfl, rfl, rfl, rfl, rfl, rfl, rfl, rfl, rfl, rfl, rfl, rfl⟩

/-- The generation in use is restored: manifest and metadata loaded, nothing of host-visible capacity in DRAM, moves begun again. -/
def restoreBegun (s : State) (g : Generation) : State := renewMoves (restoreStart (loadImage s g []))

theorem lostRegions_congr {s t : State} (h : t.startup = s.startup) (m : List (Nat × Entry)) : lostRegions t m = lostRegions s m := by
  unfold lostRegions hvGranules
  rw [h]

/-- What a restore that has begun is. -/
structure RestoreBegun (s : State) (g : Generation) (t : State) : Prop where
  power : t.power = { s.power with state := .restore, starting := false, dramUp := true }
  startup : t.startup = { s.startup with step := 8 }
  running : t.restore.running = true
  presence : t.restore.presence = []
  presentR : t.restore.presentR = []
  lostR : t.restore.lostR = lostRegions s (loadedManifest s g [])
  hold : t.restore.hold = s.restore.hold
  source : t.restore.source = s.restore.source
  step8At : t.restore.step8At = s.clock.now
  manifest : t.flash.manifest = loadedManifest s g []
  heat : t.persist.heat = g.heat
  dram : t.dram = s.dram
  held : t.qmp.held = s.qmp.held
  button : t.button = s.button
  needs : needsCheckpoint t = needsCheckpoint s
  formatting : t.flash.formatting = s.flash.formatting

theorem restoreBegun_stands (s : State) (g : Generation) : RestoreBegun s g (restoreBegun s g) := by
  obtain ⟨nt, rc, sm, ho, fl, pe, qm, hload, hman, hgens, hform, hheat, hheld⟩ := loadImage_frame s g
  have hmoves := MovesStand.renewMoves (restoreStart (loadImage s g []))
  change MovesStand _ (restoreBegun s g) at hmoves
  generalize restoreBegun s g = u at hmoves ⊢
  generalize loadImage s g [] = v at hload hmoves
  subst hload
  obtain ⟨kpower, kstartup, krunning, kpresence, kpresentR, klostR, khold, ksource, kstep8, kman, kgens, kform, kpersist, kdram, kheld,
    kbutton⟩ := restoreStart_stands { s with
    notices := nt, recorder := rc, smb := sm, host := ho, flash := fl, persist := pe, qmp := qm }
  have hrestore : u.restore = (restoreStart { s with
      notices := nt, recorder := rc, smb := sm, host := ho, flash := fl, persist := pe, qmp := qm }).restore :=
    (congrArg State.restore hmoves.eq :)
  have hneeds : needsCheckpoint u = needsCheckpoint s := by
    unfold needsCheckpoint newestGen
    rw [hmoves.gens, kgens]
    dsimp only
    rw [hgens]
  refine ⟨(congrArg State.power hmoves.eq :).trans kpower, (congrArg State.startup hmoves.eq :).trans kstartup, ?_, ?_, ?_, ?_, ?_, ?_, ?_,
    (hmoves.manifest.trans kman).trans hman, ?_, (congrArg State.dram hmoves.eq :).trans kdram,
    ((congrArg (·.qmp.held) hmoves.eq :).trans kheld).trans hheld, (congrArg State.button hmoves.eq :).trans kbutton, hneeds,
    (hmoves.formatting.trans kform).trans hform⟩
  · rw [hrestore, krunning]
  · rw [hrestore, kpresence]
  · rw [hrestore, kpresentR]
  · rw [hrestore, klostR]
    dsimp only
    rw [hman]
    exact lostRegions_congr rfl _
  · rw [hrestore, khold]
  · rw [hrestore, ksource]
  · rw [hrestore, kstep8]
  · exact (congrArg (·.heat) ((congrArg State.persist hmoves.eq :).trans kpersist)).trans hheat

theorem exec_generationSelect {s : State} {c : Settings} {g : Generation} (hc : s.startup.settings = some c)
    (hp : s.power.state = .restore) (hst : s.power.starting = true) (hr : s.startup.retained = false) (hstep : s.startup.step = 5)
    (hg : highestOf (s.flash.gens.filter (candidate s c)) = some g) (h128 : g.gran128 = c.region128) :
    exec .generationSelect s = .next (useGeneration s g) := by
  refine congrArg Host.Outcome.next ((if_pos ?_).trans ?_)
  · rw [hp, hst, hr, hstep]
    rfl
  · rw [hc]
    dsimp only
    rw [hg]
    exact if_pos h128

theorem exec_manifestLoadComplete {s : State} {g : Generation} (hp : s.power.state = .restore) (hst : s.power.starting = true)
    (hstep : s.startup.step = 6) (hheld : s.qmp.held = []) (hsrc : s.restore.source ≠ 2)
    (hg : (s.flash.gens.find? fun x => x.gen == s.restore.genUsed) = some g) : exec (.manifestLoadComplete []) s = .next (endRestore (step9
      (if needsCheckpoint s && !s.flash.formatting then beginCheckpoint (restoreBegun s g) else restoreBegun s g))) := by
  have himg : (s.flash.gens.find? fun x => x.gen == s.restore.genUsed && s.restore.source != 2) = some g := by
    rw [bne_iff_ne.2 hsrc]
    simpa only [Bool.and_true] using hg
  have hbegun := restoreBegun_stands s g
  refine congrArg Host.Outcome.next ((if_pos ?_).trans ?_)
  · rw [hp, hst, hstep]
    rfl
  · rw [himg]
    change endRestore (step9 (if needsCheckpoint (runHeld (restoreBegun s g)) && !(runHeld (restoreBegun s g)).flash.formatting
      then beginCheckpoint (runHeld (restoreBegun s g)) else runHeld (restoreBegun s g))) = _
    rw [runHeld_of_empty (hbegun.held.trans hheld), hbegun.needs, hbegun.formatting]

/-- Step 9 after step 8: service begins unless a rollback holds it. -/
theorem step9_of_begun {s : State} (hn : checkpointWaits s = false) (hstep : s.startup.step = 8) :
    step9 s = if s.restore.hold then s
      else beginService { s with restore := { s.restore with offer := s.clock.now - s.startup.startedAt } } := by
  unfold step9
  rw [hn, hstep, Bool.or_false]
  cases s.restore.hold <;> rfl

/-- A restore with regions that are neither present nor lost goes on. -/
theorem endRestore_of_absent {s : State} (hp : s.restore.presentR = []) (hl : s.restore.lostR = []) (hv : 0 < hvRegions s) :
    endRestore s = s := by
  have hnot : ((List.range (hvRegions s)).all fun r => s.restore.presentR.contains r || s.restore.lostR.contains r) = false := by
    refine List.all_eq_false.2 ⟨0, List.mem_range.2 hv, ?_⟩
    rw [hp, hl]
    exact Bool.false_ne_true
  unfold endRestore
  rw [hnot, Bool.not_false, Bool.or_true, if_pos rfl]

/-- Step 9 of a restore that has begun without need of a checkpoint. -/
theorem RestoreBegun.served {s u : State} {g : Generation} (h : RestoreBegun s g u) (hn : needsCheckpoint s = false)
    (hd : s.button.deferred = none) (hv : 0 < hvRegions s) (hl : lostRegions s (loadedManifest s g []) = []) :
    (endRestore (step9 u)).power.starting = false ∧ (endRestore (step9 u)).power.dramUp = true ∧
      (endRestore (step9 u)).startup.step = (if s.restore.hold then 8 else 9) ∧ (endRestore (step9 u)).restore.running = true ∧
      (endRestore (step9 u)).restore.presence = [] ∧ (endRestore (step9 u)).restore.step8At = s.clock.now ∧
      (endRestore (step9 u)).dram.mem = s.dram.mem := by
  have hwait : checkpointWaits u = false := by
    unfold checkpointWaits
    rw [h.needs, hn]
    rfl
  have hstep : u.startup.step = 8 := congrArg (·.step) h.startup
  have hregions (w : State) (hw : w.startup.settings = s.startup.settings) : 0 < hvRegions w := by
    unfold hvRegions
    rw [hw]
    exact hv
  have hset : u.startup.settings = s.startup.settings := congrArg (·.settings) h.startup
  have hlost : u.restore.lostR = [] := h.lostR.trans hl
  rw [step9_of_begun hwait hstep, h.hold]
  cases hh : s.restore.hold
  · have hserve := beginService_frame (s := { u with restore := { u.restore with offer := u.clock.now - u.startup.startedAt } })
      ((congrArg (·.deferred) h.button).trans hd)
    rw [if_neg Bool.false_ne_true]
    rw [endRestore_of_absent]
    · rw [hserve]
      exact ⟨congrArg (·.starting) h.power, congrArg (·.dramUp) h.power, rfl, h.running, h.presence, h.step8At, congrArg (·.mem) h.dram⟩
    · rw [hserve]
      exact h.presentR
    · rw [hserve]
      exact hlost
    · refine hregions _ ?_
      rw [hserve]
      exact hset
  · rw [if_pos rfl, endRestore_of_absent h.presentR hlost (hregions _ hset)]
    exact ⟨congrArg (·.starting) h.power, congrArg (·.dramUp) h.power, hstep, h.running, h.presence, h.step8At, congrArg (·.mem) h.dram⟩

/-- Settles O28: step 6 by `useGeneration_stands`, step 8 by `restoreBegun_stands`. -/
theorem newestGenerationIsRestored : Obligations.NewestGenerationIsRestored := by
  refine ⟨fun s c g hc hp hst hr hstep hg h128 => ⟨_, exec_generationSelect hc hp hst hr hstep hg h128, useGeneration_stands s g⟩,
    fun s g hp hst hstep hheld hd hsrc hg hv hl => ?_⟩
  have hexec := exec_manifestLoadComplete hp hst hstep hheld hsrc hg
  have h := restoreBegun_stands s g
  refine ⟨restoreBegun s g, hexec, congrArg (·.starting) h.power, congrArg (·.dramUp) h.power, congrArg (·.step) h.startup, h.running,
    h.presence, h.step8At, h.manifest, h.heat, h.dram, fun hn => ?_⟩
  rw [hn, Bool.false_and, if_neg Bool.false_ne_true] at hexec
  exact ⟨_, hexec, h.served hn hd hv hl⟩

/-! ## Background restore (R215, R216, R218) -/

theorem exec_restoreGranuleComplete {s : State} {g : Nat} (o : DecodeOutcome) (hr : restoreRuns s = true) (hg : g ∈ s.restore.inHand) :
    exec (.restoreGranuleComplete g o) s = .next (
      if granulePresent s g then { s with restore := { s.restore with inHand := s.restore.inHand.filter fun x => x != g } }
      else bringIn (noteCopyRead { s with restore := { s.restore with inHand := s.restore.inHand.filter fun x => x != g } } g false o) g
        (readOk o)) := by
  refine congrArg Host.Outcome.next (if_pos ?_)
  rw [hr, List.contains_iff_mem.2 hg]
  rfl

/-- Settles O29: a granule in hand by `bringIn`, as a fetch. -/
theorem backgroundRestoreFollowsItsOrder : Obligations.BackgroundRestoreFollowsItsOrder := by
  refine ⟨fun s g hr hn => ⟨fun hy => ?_, fun hy => ?_⟩, fun s g o hr hg => ⟨fun hp => ?_, fun hp => ?_, fun hp hq => ?_⟩,
    fun s hr hs hdue hl => ?_⟩
  · refine congrArg Host.Outcome.next ((if_pos hr).trans ?_)
    rw [hn]
    exact if_neg (Bool.eq_false_iff.1 hy)
  · refine congrArg Host.Outcome.next ((if_pos hr).trans ?_)
    rw [hn]
    exact if_pos hy
  · rw [exec_restoreGranuleComplete o hr hg, if_pos hp]
  · rw [exec_restoreGranuleComplete o hr hg, if_neg (Bool.eq_false_iff.1 hp)]
  · obtain ⟨hslots, _⟩ := hq
    obtain ⟨heq, hpages, hman⟩ :=
      noteCopyRead_stands { s with restore := { s.restore with inHand := s.restore.inHand.filter fun x => x != g } } g false o
    rw [exec_restoreGranuleComplete o hr hg, if_neg (Bool.eq_false_iff.1 hp)]
    refine ⟨_, rfl, ?_⟩
    generalize noteCopyRead { s with restore := { s.restore with inHand := s.restore.inHand.filter fun x => x != g } } g false o = u
      at heq hpages hman
    have hus : u.host.slots = [] := by rw [heq]; exact hslots
    exact ⟨(bringIn_stands hus).2.1, fun hs => bringIn_outside hus hs (by rw [heq]) (by rw [heq]) (by rw [heq]) hpages hman⟩
  · have hlate : due s s.restore.step8At 90000 = true := decide_eq_true (by omega)
    refine ⟨_, congrArg Host.Outcome.next (if_pos ?_), ?_, ?_⟩
    · rw [hr, hs, hlate, decide_eq_true hl]
      rfl
    · rw [raise_restore]
    · rw [raise_frame]
      rfl

end Sys2Proof.Machine
end

section
/-! DRAM comes into service at a start-up, or is taken up or given up on a retained path (O30). -/

namespace Sys2Proof.Machine

open Sys2Proof

/-! ## Start-up training (R108, R109) -/

/-- A channel that has trained at a start-up comes into service. -/
def channelUp (s : State) (ch : DramCh) : State := noteTrained (setChan s ch fun d => { d with run := .inService, resetN := true }) ch

theorem channelUp_same (s : State) (ch : DramCh) :
    (channelUp s ch).dram.ch[ch].run = .inService ∧ (channelUp s ch).dram.ch[ch].resetN = true := by
  unfold channelUp noteTrained
  rw [setChan_ch_same, setChan_ch_same]
  exact ⟨rfl, rfl⟩

theorem channelUp_ne (s : State) {ch k : DramCh} (h : k ≠ ch) : (channelUp s ch).dram.ch[k] = s.dram.ch[k] :=
  (setChan_ch_ne _ _ h).trans (setChan_ch_ne _ _ h)

/-- Channels that come into service, one after the other. -/
theorem channelsUp (l : List DramCh) (s : State) :
    (∀ ch ∈ l, (l.foldl channelUp s).dram.ch[ch].run = .inService ∧ (l.foldl channelUp s).dram.ch[ch].resetN = true) ∧
    (∀ ch ∉ l, (l.foldl channelUp s).dram.ch[ch] = s.dram.ch[ch]) := by
  induction l generalizing s with
  | nil => exact ⟨fun _ h => absurd h List.not_mem_nil, fun _ _ => rfl⟩
  | cons x l ih =>
    obtain ⟨hin, hout⟩ := ih (channelUp s x)
    rw [List.foldl_cons]
    refine ⟨fun ch hch => ?_, fun ch hch => ?_⟩
    · by_cases hl : ch ∈ l
      · exact hin ch hl
      · obtain rfl := (List.mem_cons.1 hch).resolve_right hl
        rw [hout ch hl]
        exact channelUp_same s ch
    · rw [hout ch fun h => hch (List.mem_cons_of_mem _ h), channelUp_ne s fun h => hch (List.mem_cons.2 (.inl h))]

theorem channelsUp_frame (l : List DramCh) (s : State) : ∃ v, l.foldl channelUp s = { s with dram := { s.dram with ch := v } } :=
  foldl_frame (get := fun s => s.dram.ch) (put := fun s v => { s with dram := { s.dram with ch := v } })
    (fun _ _ => ⟨_, rfl⟩) (fun _ => rfl) (fun _ _ _ => rfl) l s

theorem mem_trainingChannels {s : State} {ch : DramCh} : ch ∈ trainingChannels s ↔ s.dram.ch[ch].run = .training := by
  unfold trainingChannels
  rw [List.mem_filter, beq_iff_eq]
  exact and_iff_right (List.mem_finRange ch)

/-- With no margin check that fails and no lower rate, the channels that train come into service. -/
theorem endTraining_of_none {s : State} (hr : s.dram.rateSteps = 0) : endTraining s [] =
    { (trainingChannels s).foldl channelUp s with shroud := { s.shroud with mode := if shroudOn s then .full else .off } } := by
  obtain ⟨v, hv⟩ := channelsUp_frame (trainingChannels s) s
  have hbad : ((trainingChannels s).filter fun i => ([] : List DramCh).contains i) = [] := List.filter_eq_nil_iff.2 fun _ _ => by simp
  have hgood : ((trainingChannels s).filter fun i => !([] : List DramCh).contains i) = trainingChannels s := by simp
  unfold endTraining
  rw [hbad]
  dsimp only [List.length_nil]
  rw [if_pos (by decide)]
  unfold trained
  rw [hgood]
  dsimp only [List.foldl_nil]
  change (if ((trainingChannels s).foldl channelUp s).dram.rateSteps = 0 then { (trainingChannels s).foldl channelUp s with
    shroud := { ((trainingChannels s).foldl channelUp s).shroud with
      mode := if shroudOn ((trainingChannels s).foldl channelUp s) then .full else .off } } else _) = _
  rw [hv]
  exact if_pos hr

theorem exec_dramTrainingComplete {s : State} {c : Settings} (hc : s.startup.settings = some c) (hp : s.power.state = .restore)
    (hst : s.power.starting = true) (hstep : s.startup.step = 4) (hr : s.startup.retained = false) (ht : trainingChannels s ≠ [])
    (failing : List DramCh) : exec (.dramTrainingComplete failing) s = .next (endStep5 (endTraining s failing)) := by
  refine congrArg Host.Outcome.next ((withSettings_of_some hc _).trans ((if_neg ?_).trans ((if_neg ?_).trans (if_neg ?_))))
  · rw [hp, hst, hstep]
    decide
  · rw [hr]
    exact Bool.false_ne_true
  · rw [List.isEmpty_iff]
    exact ht

/-! ## A retained path (R229) -/

/-- The state before the reset is taken up again. -/
def retainedUp (s : State) : State :=
  let s := { s with
    startup := { s.startup with path := .retained },
    restore := { s.restore with source := 3, phase := if s.restore.running then 3 else 5 },
    power := { s.power with state := if s.restore.running then .restore else .run, starting := false } }
  if s.restore.running then s else debugReturns s

theorem retainedUp_frame (s : State) : ∃ sec, retainedUp s = { s with
    startup := { s.startup with path := .retained },
    restore := { s.restore with source := 3, phase := if s.restore.running then 3 else 5 },
    power := { s.power with state := if s.restore.running then .restore else .run, starting := false }, security := sec } := by
  unfold retainedUp
  dsimp only
  split <;> exact ⟨_, rfl⟩

/-- Service on a retained path, with nothing held. -/
theorem retainedService_stands {s : State} (hheld : s.qmp.held = []) (hd : s.button.deferred = none) (hh : s.restore.hold = false) :
    (retainedService s).power.starting = false ∧ (retainedService s).startup.step = 9 ∧ (retainedService s).restore.source = 3 ∧
      (retainedService s).power.state = (if s.restore.running then .restore else .run) ∧
      (retainedService s).dram.mem = s.dram.mem := by
  obtain ⟨sec, hup⟩ := retainedUp_frame s
  have hserve := beginService_frame (s := retainedUp s) (by rw [hup]; exact hd)
  have hwoken := (Woken.resumePass (beginService (retainedUp s))).trans (.renewMoves _)
  have heq : retainedService s = renewMoves (resumePass (beginService (retainedUp s))) := by
    change runHeld (renewMoves (resumePass (if (retainedUp s).restore.hold then _ else beginService (retainedUp s)))) = _
    have hhold : (retainedUp s).restore.hold = false := by
      rw [hup]
      exact hh
    rw [hhold, if_neg Bool.false_ne_true]
    refine runHeld_of_empty ((congrArg (·.qmp.held) hwoken.eq :).trans ?_)
    rw [hserve, hup]
    exact hheld
  have hmem := hwoken.mem
  have hpower : (retainedService s).power = (beginService (retainedUp s)).power := by
    rw [heq]
    exact (congrArg State.power hwoken.eq :)
  have hstart : (retainedService s).startup = (beginService (retainedUp s)).startup := by
    rw [heq]
    exact (congrArg State.startup hwoken.eq :)
  have hrestore : (retainedService s).restore = (beginService (retainedUp s)).restore := by
    rw [heq]
    exact (congrArg State.restore hwoken.eq :)
  rw [hpower, hstart, hrestore, heq, hmem, hserve, hup]
  exact ⟨rfl, rfl, rfl, rfl, rfl⟩

theorem exec_retainedPathCheck {s : State} (hp : s.power.state = .restore) (hst : s.power.starting = true)
    (hr : s.startup.retained = true) (hstep : s.startup.step = 5) (settingsOk : Bool) : exec (.retainedPathCheck true settingsOk) s = .next
      (if !shroudMatches s || !settingsOk then notRetained s else retainedService s) := by
  refine congrArg Host.Outcome.next (if_pos ?_)
  rw [hp, hst, hr, hstep]
  rfl

/-- What is left where DRAM is not retained. -/
theorem notRetained_stands (s : State) : (notRetained s).startup.retained = false ∧ (notRetained s).power.dramUp = false ∧
    (notRetained s).dram.mem = [] ∧ (notRetained s).dram.ch = s.dram.ch ∧ (notRetained s).flash.gens = s.flash.gens := by
  unfold notRetained setShroudMode
  dsimp only
  split <;> exact ⟨rfl, rfl, rfl, rfl, rfl⟩

/-- Settles O30: training by `endTraining_of_none`, a retained path by `retainedService_stands`. -/
theorem dramComesIntoService : Obligations.DramComesIntoService := by
  refine ⟨fun s c hc hp hst hstep hr ht => ⟨exec_dramTrainingComplete hc hp hst hstep hr ht, fun hrate hflash => ?_⟩,
    fun s hp hst hr hstep hheld hd => ⟨fun hm hh => ?_, ?_⟩⟩
  · obtain ⟨hin, hout⟩ := channelsUp (trainingChannels s) s
    obtain ⟨v, hv⟩ := channelsUp_frame (trainingChannels s) s
    have hexec := exec_dramTrainingComplete hc hp hst hstep hr ht []
    rw [endTraining_of_none hrate] at hexec
    rw [hv] at hexec hin hout
    rw [endStep5_of_stillTraining] at hexec
    · exact ⟨_, hexec, fun ch h => hin ch (mem_trainingChannels.2 h), fun ch h => hout ch fun hm => h (mem_trainingChannels.1 hm), rfl, rfl⟩
    · unfold stillTraining
      dsimp only
      rw [hflash, Bool.or_true]
  · refine ⟨retainedService s, (exec_retainedPathCheck hp hst hr hstep true).trans (congrArg Host.Outcome.next (if_neg ?_)),
      retainedService_stands hheld hd hh⟩
    rw [hm]
    decide
  · refine ⟨notRetained s, (exec_retainedPathCheck hp hst hr hstep false).trans (congrArg Host.Outcome.next (if_pos ?_)),
      notRetained_stands s⟩
    rw [Bool.not_false, Bool.or_true]

end Sys2Proof.Machine
end

section
/-! The energy stores: the pack, the bank and the references (O31 to O33). -/

namespace Sys2Proof.Machine

open Sys2Proof

/-! ## What settling the pack's condition leaves alone (R235, R236, R241) -/

/-- The evaluation of the pack's condition, the charger and the ceiling: of the pack it sets the condition, the good time, the end of a
rest window and of a quiet period; beside the pack it changes the charger, the bank and the persistence loop's accounts, and sends
notices. -/
structure PackStands (s t : State) : Prop where
  eq : t = { withNotes s t with persist := t.persist, bank := t.bank, charger := t.charger, pack := t.pack }
  pack : t.pack = { s.pack with
    goodSince := t.pack.goodSince, cond := t.pack.cond, restActive := t.pack.restActive, calmSince := t.pack.calmSince,
    lastRestRef := t.pack.lastRestRef }
  taper : s.charger.taperSince = none → t.charger.taperSince = none

namespace PackStands

theorem refl (s : State) : PackStands s s := ⟨rfl, rfl, fun h => h⟩

theorem trans {s t u : State} (h : PackStands s t) (k : PackStands t u) : PackStands s u := by
  refine ⟨?_, ?_, fun hn => k.taper (h.taper hn)⟩
  · rw [k.eq, h.eq]
    rfl
  · rw [k.pack, h.pack]

theorem ite {s a b : State} {p : Prop} [Decidable p] (ha : PackStands s a) (hb : PackStands s b) : PackStands s (if p then a else b) := by
  split <;> assumption

section
variable {s t : State} (h : PackStands s t)
include h

theorem dram : t.dram = s.dram := (congrArg State.dram h.eq :)
theorem flash : t.flash = s.flash := (congrArg State.flash h.eq :)
theorem host : t.host = s.host := (congrArg State.host h.eq :)
theorem rails : t.rails = s.rails := (congrArg State.rails h.eq :)
theorem power : t.power = s.power := (congrArg State.power h.eq :)
theorem startup : t.startup = s.startup := (congrArg State.startup h.eq :)
theorem clock : t.clock = s.clock := (congrArg State.clock h.eq :)
theorem lb : t.lb = s.lb := (congrArg State.lb h.eq :)

end

theorem raise (s : State) (code : Nat) (payload : List Nat) : PackStands s (raise s code payload) := by
  rw [raise_frame]
  exact ⟨rfl, rfl, fun h => h⟩

theorem evalPsub (s : State) : PackStands s (evalPsub s) := by
  rw [evalPsub_frame]
  exact ⟨rfl, rfl, fun h => h⟩

theorem ceilingEvent (s : State) : PackStands s (ceilingEvent s) := by
  rw [ceilingEvent_frame]
  exact ⟨rfl, rfl, fun h => h⟩

theorem updateCharger (s : State) : PackStands s (updateCharger s) := by
  have htaper (p : Prop) [Decidable p] : s.charger.taperSince = none → (if p then s.charger.taperSince else none) = none := by
    intro h
    rw [h, ite_self]
  unfold Machine.updateCharger
  dsimp only
  split <;> exact ⟨rfl, rfl, htaper _⟩

theorem endWindow (s : State) (success cause : Nat) : PackStands s (endWindow s success cause) := by
  unfold Machine.endWindow
  split
  · refine PackStands.trans ?_ (updateCharger _)
    refine PackStands.trans ?_ (raise _ _ _)
    exact ⟨rfl, rfl, fun h => h⟩
  · exact refl s

theorem settlePack (s : State) : PackStands s (settlePack s) := by
  unfold Machine.settlePack
  dsimp only
  refine PackStands.trans (t := setPack s fun p => { p with
    goodSince := if s.pack.present && !activeFault s then some (p.goodSince.getD s.clock.now) else none, cond := condNow p })
    ⟨rfl, rfl, fun h => h⟩ (PackStands.trans ?_ (updateCharger _))
  exact ite ((endWindow _ _ _).trans (ceilingEvent _)) (refl _)

theorem failPack (s : State) (f : PackCond) : ∃ u, PackStands u (failPack s f) ∧
    u = { s with pack := { s.pack with failure := u.pack.failure, inService := u.pack.inService } } := by
  unfold Machine.failPack
  split
  · exact ⟨_, ((raise _ _ _).trans (settlePack _)).trans (evalPsub _), rfl⟩
  · exact ⟨s, settlePack s, rfl⟩

end PackStands

/-! ## Charge and temperature (R232 to R234) -/

theorem carryCycles_frame (s : State) : ∃ n q k d, carryCycles s = { s with pack := { s.pack with
    nefc := n, qres := q, changeSeq := k, esbDirty := d } } := by
  unfold carryCycles
  split
  · exact ⟨s.pack.nefc, s.pack.qres, s.pack.changeSeq, s.pack.esbDirty, rfl⟩
  · dsimp only
    split
    · exact ⟨s.pack.nefc, s.pack.qres, s.pack.changeSeq, s.pack.esbDirty, rfl⟩
    · exact ⟨_, _, _, _, rfl⟩

/-- Charge that is drawn is counted; of the pack no other field the readings show changes. -/
theorem countDrawn_frame (s : State) (uc : Nat) : ∃ n q k d m a, countDrawn s uc = { s with pack := { s.pack with
    qDis := s.pack.qDis + uc, nefc := n, qres := q, changeSeq := k, esbDirty := d, drawnMicro := m, aonDrawn := a } } := by
  unfold countDrawn
  dsimp only
  obtain ⟨n, q, k, d, h⟩ := carryCycles_frame (setPack s fun p =>
    { p with qDis := p.qDis + uc, drawnMicro := (p.drawnMicro + uc) % 1000,
             qres := if s.power.sram && !s.pack.esbDefault then p.qres + (s.pack.drawnMicro + uc) / 1000 else p.qres,
             aonDrawn := if s.pack.aonCounts || !s.power.sram then p.aonDrawn + (s.pack.drawnMicro + uc) / 1000 else p.aonDrawn })
  rw [h]
  exact ⟨n, q, k, d, _, _, rfl⟩

/-- A reading as the pack keeps it: current and voltage of the sample, charge drawn over its interval. -/
structure SampleTaken (s : State) (milliamps : Int) (millivolts : Nat) (t : State) : Prop where
  current : t.pack.current = milliamps
  voltage : t.pack.voltage = millivolts
  qDis : t.pack.qDis = s.pack.qDis + (if packCarries s then 0 else milliamps.natAbs * (if s.pack.hibernate then 1000 else 10))
  qChg : t.pack.qChg = s.pack.qChg
  dram : t.dram = s.dram
  flash : t.flash = s.flash
  host : t.host = s.host
  rails : t.rails = s.rails

namespace SampleTaken

variable {s t u : State} {milliamps : Int} {millivolts : Nat}

theorem stands (h : SampleTaken s milliamps millivolts t) (k : PackStands t u) : SampleTaken s milliamps millivolts u := by
  have hpack := k.pack
  refine ⟨?_, ?_, ?_, ?_, k.dram.trans h.dram, k.flash.trans h.flash, k.host.trans h.host, k.rails.trans h.rails⟩
  · rw [hpack]
    exact h.current
  · rw [hpack]
    exact h.voltage
  · rw [hpack]
    exact h.qDis
  · rw [hpack]
    exact h.qChg

theorem failPack (h : SampleTaken s milliamps millivolts t) (f : PackCond) : SampleTaken s milliamps millivolts (failPack t f) := by
  obtain ⟨u, hu, heq⟩ := PackStands.failPack t f
  refine stands (t := u) ?_ hu
  rw [heq]
  exact ⟨h.current, h.voltage, h.qDis, h.qChg, h.dram, h.flash, h.host, h.rails⟩

/-- Other fields of the pack. -/
theorem setPack (h : SampleTaken s milliamps millivolts t) (f : Pack → Pack) (hc : (f t.pack).current = t.pack.current)
    (hv : (f t.pack).voltage = t.pack.voltage) (hd : (f t.pack).qDis = t.pack.qDis) (hq : (f t.pack).qChg = t.pack.qChg) :
    SampleTaken s milliamps millivolts (setPack t f) :=
  ⟨hc.trans h.current, hv.trans h.voltage, hd.trans h.qDis, hq.trans h.qChg, h.dram, h.flash, h.host, h.rails⟩

end SampleTaken

/-- A sample of a current that is drawn (R232, R233). -/
theorem takeSample_taken (s : State) {milliamps : Int} (hpos : 0 < milliamps) (millivolts : Nat) :
    SampleTaken s milliamps millivolts (takeSample s milliamps millivolts) ∧
      (takeSample s milliamps millivolts).charger = s.charger := by
  have hint : ∃ pk, integrate s milliamps = { s with pack := pk } ∧
      pk.qDis = s.pack.qDis + (if packCarries s then 0 else milliamps.natAbs * (if s.pack.hibernate then 1000 else 10)) ∧
      pk.qChg = s.pack.qChg := by
    unfold integrate integrateFor
    dsimp only
    rw [if_pos (show milliamps > 0 from hpos)]
    split
    · exact ⟨s.pack, rfl, rfl, rfl⟩
    · obtain ⟨_, _, _, _, _, _, h⟩ := countDrawn_frame s (milliamps.natAbs * (if s.pack.hibernate then 1000 else 10))
      exact ⟨_, h, rfl, rfl⟩
  obtain ⟨pk, hpk, hdis, hchg⟩ := hint
  unfold takeSample
  rw [hpk]
  dsimp only
  split <;> exact ⟨⟨rfl, rfl, hdis, hchg, rfl, rfl, rfl, rfl⟩, rfl⟩

/-- The check of the voltage keeps the reading. -/
theorem voltageCheck_taken {s t : State} {milliamps : Int} {millivolts : Nat} (h : SampleTaken s milliamps millivolts t) :
    SampleTaken s milliamps millivolts (voltageCheck t) := by
  unfold voltageCheck
  dsimp only
  split
  · exact (h.setPack _ rfl rfl rfl rfl).failPack _
  · exact (h.setPack _ rfl rfl rfl rfl).stands (.settlePack _)

theorem voltageCheck_taper {s : State} (h : s.charger.taperSince = none) : (voltageCheck s).charger.taperSince = none := by
  unfold voltageCheck
  dsimp only
  split
  · obtain ⟨u, hu, heq⟩ := PackStands.failPack
      (setPack s fun p => { p with badVoltSince := (dwell s (s.pack.present && (decide (s.pack.voltage < 10000) ||
        decide (s.pack.voltage > 17200))) s.pack.badVoltSince 10).1 }) .voltage
    refine hu.taper ?_
    rw [heq]
    exact h
  · exact (PackStands.settlePack _).taper h

/-- A charging current that has not been low before is low for no time yet. -/
theorem taperCheck_taken {s t : State} {milliamps : Int} {millivolts : Nat} (h : SampleTaken s milliamps millivolts t)
    (hn : t.charger.taperSince = none) : SampleTaken s milliamps millivolts (taperCheck t) := by
  have hdwell (b : Bool) : (dwell t b none 60000).2 = false := by
    unfold dwell
    cases b
    · rfl
    · exact decide_eq_false (by simp)
  unfold taperCheck
  split
  · exact h
  · dsimp only
    rw [hn, hdwell, if_neg Bool.false_ne_true]
    exact ⟨h.current, h.voltage, h.qDis, h.qChg, h.dram, h.flash, h.host, h.rails⟩

theorem shipReached_taken {s t : State} {milliamps : Int} {millivolts : Nat} (h : SampleTaken s milliamps millivolts t) :
    SampleTaken s milliamps millivolts (shipReached t) := by
  unfold shipReached
  split
  · exact (h.setPack _ rfl rfl rfl rfl).stands (.raise _ _ _)
  · exact h

theorem exec_packSample {s : State} (ha : s.power.aon = true) (milliamps : Int) (millivolts : Nat) : exec (.packSample milliamps millivolts) s =
    .next (shipReached (taperCheck (voltageCheck (takeSample s milliamps millivolts)))) :=
  congrArg Host.Outcome.next (if_pos ha)

theorem packSample_taken (s : State) {milliamps : Int} (hpos : 0 < milliamps) (millivolts : Nat) (hn : s.charger.taperSince = none) :
    SampleTaken s milliamps millivolts (shipReached (taperCheck (voltageCheck (takeSample s milliamps millivolts)))) := by
  obtain ⟨htaken, hcharger⟩ := takeSample_taken s hpos millivolts
  exact shipReached_taken (taperCheck_taken (voltageCheck_taken htaken) (voltageCheck_taper (by rw [hcharger]; exact hn)))

/-- A temperature sample: of the pack the reading, and what its windows and its condition set. -/
theorem packTempSample_stands (s : State) (ntc remote : Option Int) :
    let t := settlePack (tempEndsRest (chargeWindow (dischargeWindow (setPackTemp s ntc remote) (packTemp (setPackTemp s ntc remote)))
      (packTemp (setPackTemp s ntc remote))))
    t.pack.temp = (ntc.orElse fun _ => remote).getD (-100) ∧
      t.pack.tempSrc = (if ntc.isSome then .ntc else if remote.isSome then .remote else .none) ∧ t.dram = s.dram ∧ t.flash = s.flash ∧
      t.host = s.host := by
  have hset : (setPackTemp s ntc remote).pack.temp = (ntc.orElse fun _ => remote).getD (-100) ∧
      (setPackTemp s ntc remote).pack.tempSrc = (if ntc.isSome then .ntc else if remote.isSome then .remote else .none) ∧
      (setPackTemp s ntc remote).dram = s.dram ∧ (setPackTemp s ntc remote).flash = s.flash ∧ (setPackTemp s ntc remote).host = s.host := by
    cases ntc with
    | some t => exact ⟨rfl, rfl, rfl, rfl, rfl⟩
    | none => cases remote <;> exact ⟨rfl, rfl, rfl, rfl, rfl⟩
  generalize setPackTemp s ntc remote = u at hset
  dsimp only
  generalize packTemp u = temp
  have hrest (v : State) : ∃ w, PackStands w (tempEndsRest v) ∧ w = { v with pack := { v.pack with
      calmSince := w.pack.calmSince, lastRestRef := w.pack.lastRestRef } } := by
    unfold tempEndsRest
    split
    · exact ⟨v, .refl v, rfl⟩
    · exact ⟨_, .endWindow _ _ _, rfl⟩
  obtain ⟨w, hw, heq⟩ := hrest (chargeWindow (dischargeWindow u temp) temp)
  have hstands := hw.trans (.settlePack _)
  have hpack := hstands.pack
  rw [hstands.dram, hstands.flash, hstands.host, hpack, heq]
  exact hset

/-! ## The condition (R235, R236) -/

theorem updateCharger_cond (s : State) : (updateCharger s).pack.cond = s.pack.cond := by
  unfold updateCharger
  dsimp only
  split <;> rfl

theorem endWindow_cond (s : State) (success cause : Nat) : (endWindow s success cause).pack.cond = s.pack.cond := by
  unfold endWindow
  split
  · rw [updateCharger_cond, raise_pack]
    rfl
  · rfl

theorem ceilingEvent_pack (s : State) : (ceilingEvent s).pack = s.pack := (congrArg State.pack (ceilingEvent_frame s) :)

/-- The condition is what holds now. -/
theorem settlePack_cond (s : State) : (settlePack s).pack.cond = condNow s.pack := by
  have hend (u : State) (p : Prop) [Decidable p] : (if p then ceilingEvent (endWindow u 0 4) else u).pack.cond = u.pack.cond := by
    split
    · rw [ceilingEvent_pack, endWindow_cond]
    · rfl
  unfold settlePack
  dsimp only
  rw [updateCharger_cond, hend]
  rfl

/-- A first failure is latched, and the pack leaves service. -/
theorem failPack_first {s : State} (f : PackCond) (h : s.pack.failure = none) :
    (failPack s f).pack.cond = condNow { s.pack with failure := some f, inService := false } ∧ (failPack s f).pack.failure = some f ∧
      (failPack s f).pack.inService = false := by
  have hor : s.pack.failure.isNone ∨ s.pack.failure = some .absent := .inl (by rw [h]; rfl)
  have hstands := PackStands.settlePack (raise (setPack s fun p => { p with failure := some f, inService := false }) 0x0601 [])
  have hpack := hstands.pack
  rw [raise_pack] at hpack
  unfold failPack
  rw [if_pos hor, evalPsub_pack]
  refine ⟨?_, ?_, ?_⟩
  · rw [settlePack_cond, raise_pack]
    rfl
  · rw [hpack]
    rfl
  · rw [hpack]
    rfl

/-- With a failure that may be met, all but the pack's condition stands. -/
theorem failIf_stands (s : State) (p : Prop) [Decidable p] (f : PackCond) : ∃ u, PackStands u (if p then failPack s f else settlePack s) ∧
    u = { s with pack := { s.pack with failure := u.pack.failure, inService := u.pack.inService } } := by
  split
  · exact PackStands.failPack s f
  · exact ⟨s, .settlePack s, rfl⟩

/-- Charge of either sign is counted in the pack. -/
theorem integrateFor_frame (s : State) (milliamps : Int) (ms : Nat) : ∃ pk, integrateFor s milliamps ms = { s with pack := pk } ∧
    pk.present = s.pack.present := by
  unfold integrateFor
  dsimp only
  split
  · exact ⟨s.pack, rfl, rfl⟩
  · split
    · obtain ⟨_, _, _, _, _, _, h⟩ := countDrawn_frame s (milliamps.natAbs * ms)
      exact ⟨_, h, rfl⟩
    · exact ⟨_, rfl, rfl⟩

/-! ## Identity (R257, R454) -/

/-- What accepting a serial leaves: the identity known, and for a pack that has changed the default counts. -/
theorem acceptSerial_stands (s : State) (serial : List Byte) : (acceptSerial s serial).pack.serial = serial ∧
    (acceptSerial s serial).pack.idUnknown = false ∧ (acceptSerial s serial).pack.idTried = true ∧
    (acceptSerial s serial).lb.idFailures = 0 ∧
    (serial ≠ s.pack.serial → noSerial s = false → (acceptSerial s serial).pack.changed = true ∧
      (acceptSerial s serial).pack.esbDefault = true ∧ (acceptSerial s serial).pack.nefc = defaultCycles s ∧
      (acceptSerial s serial).pack.qres = 0) ∧ (acceptSerial s serial).dram = s.dram := by
  have hknown : ∃ pk, (if s.pack.idUnknown then
      blockChanged (setPack { s with lb := { s.lb with idFailures := 0 } } fun p =>
        { p with idTried := true, idUnknown := false, idUnreadSent := false, readingDue := p.readingDue || s.pack.idUnknown,
                 readingFrom := if s.pack.idUnknown then s.clock.now else p.readingFrom })
      else setPack { s with lb := { s.lb with idFailures := 0 } } fun p =>
        { p with idTried := true, idUnknown := false, idUnreadSent := false, readingDue := p.readingDue || s.pack.idUnknown,
                 readingFrom := if s.pack.idUnknown then s.clock.now else p.readingFrom }) =
      { s with lb := { s.lb with idFailures := 0 }, pack := pk } ∧ pk.serial = s.pack.serial ∧ pk.idTried = true ∧ pk.idUnknown = false ∧
        pk.nefc = s.pack.nefc := by
    split <;> exact ⟨_, rfl, rfl, rfl, rfl, rfl⟩
  obtain ⟨pk, hpk, hserial, htried, hunknown, hnefc⟩ := hknown
  unfold acceptSerial
  dsimp only
  rw [hpk]
  have hno : noSerial { s with lb := { s.lb with idFailures := 0 }, pack := pk } = noSerial s := by
    unfold noSerial
    dsimp only
    rw [hserial]
  have hcycles : defaultCycles { s with lb := { s.lb with idFailures := 0 }, pack := pk } = defaultCycles s := by
    unfold defaultCycles
    dsimp only
    rw [hnefc]
  rw [hno]
  dsimp only
  rw [hserial]
  split
  · rename_i hsame
    exact ⟨by rw [hsame, ← hserial], hunknown, htried, rfl, fun h => absurd hsame h, rfl⟩
  · split
    · rename_i hnone
      exact ⟨rfl, hunknown, htried, rfl, fun _ h => absurd hnone (by rw [h]; exact Bool.false_ne_true), rfl⟩
    · unfold packChanged
      rw [ceilingEvent_frame, raise_frame]
      exact ⟨rfl, hunknown, htried, rfl, fun _ _ => ⟨rfl, rfl, hcycles, rfl⟩, rfl⟩

theorem identityPair_stands {s : State} {serial : List Byte} (hl : s.lb.state = .inService) (hp : s.pack.present = true)
    (hlen : serial.length = 16) : (identityPair s (some serial) (some serial)).pack.serial = serial ∧
    (identityPair s (some serial) (some serial)).pack.idUnknown = false ∧ (identityPair s (some serial) (some serial)).pack.idTried = true ∧
    (identityPair s (some serial) (some serial)).lb.idFailures = 0 ∧
    (serial ≠ s.pack.serial → noSerial s = false → (identityPair s (some serial) (some serial)).pack.changed = true ∧
      (identityPair s (some serial) (some serial)).pack.esbDefault = true ∧
      (identityPair s (some serial) (some serial)).pack.nefc = defaultCycles s ∧
      (identityPair s (some serial) (some serial)).pack.qres = 0) ∧ (identityPair s (some serial) (some serial)).dram = s.dram := by
  have hpair : identityPair s (some serial) (some serial) = settlePack (acceptSerial s serial) := by
    unfold identityPair
    rw [if_neg (by rw [hl, hp]; decide)]
    exact if_pos ⟨rfl, hlen⟩
  have hstands := PackStands.settlePack (acceptSerial s serial)
  rw [hpair, hstands.dram, hstands.lb, hstands.pack]
  exact acceptSerial_stands s serial

/-- Settles O31: a sample by `packSample_taken`, a condition by `settlePack_cond`, an identity by `identityPair_stands`. -/
theorem packIsReadAndFollowed : Obligations.PackIsReadAndFollowed := by
  refine ⟨fun s ha => ⟨fun mA mV hpos hn => ?_, fun ntc remote => ?_, fun c tenth hc hp => ?_, fun offset hs => ?_, fun hq hacc hrest ht hsv => ?_,
    congrArg Host.Outcome.next (if_pos ha)⟩, fun s ha => ⟨fun hp => ?_, fun hp hin hf => ?_, fun hq hcond => ?_, fun serial hl hp hlen => ?_⟩⟩
  · have h := packSample_taken s hpos mV hn
    exact ⟨_, exec_packSample ha mA mV, h.current, h.voltage, h.qDis, h.qChg, h.dram, h.flash, h.host, h.rails⟩
  · exact ⟨_, congrArg Host.Outcome.next (if_pos ha), packTempSample_stands s ntc remote⟩
  · have hexec : exec (.impedanceMeasure tenth) s = .next (if tenth > c.pack.rLimit
        then failPack (setPack s fun p => { p with impedance := tenth, impedanceAt := some s.clock.opTime }) .impedance
        else settlePack (setPack s fun p => { p with impedance := tenth, impedanceAt := some s.clock.opTime })) := by
      refine congrArg Host.Outcome.next ((if_pos ?_).trans ?_)
      · rw [ha, hp]
        rfl
      · dsimp only [setPack]
        rw [hc]
    obtain ⟨u, hu, heq⟩ := failIf_stands (setPack s fun p => { p with impedance := tenth, impedanceAt := some s.clock.opTime })
      (tenth > c.pack.rLimit) .impedance
    refine ⟨_, hexec, ?_, ?_, fun hlt hnone => ?_, ?_⟩
    · rw [hu.pack, heq]
      rfl
    · rw [hu.pack, heq]
      rfl
    · rw [if_pos hlt]
      obtain ⟨hcond, _, hout⟩ := failPack_first
        (s := setPack s fun p => { p with impedance := tenth, impedanceAt := some s.clock.opTime }) .impedance hnone
      refine ⟨hcond.trans ?_, hout⟩
      unfold condNow
      exact if_neg (by rw [show (setPack s _).pack.present = s.pack.present from rfl, hp]; decide)
    · rw [hu.dram, heq]
      rfl
  · obtain ⟨pk, hpk, hpres⟩ := integrateFor_frame s s.pack.current 10
    obtain ⟨u, hu, heq⟩ := failIf_stands (setPack (integrateFor s s.pack.current 10) fun p =>
      { p with shuntBad := decide (offset.natAbs > 5), zeroCheckAt := s.clock.now })
      ((decide (offset.natAbs > 5) && (setPack (integrateFor s s.pack.current 10) fun p =>
        { p with shuntBad := decide (offset.natAbs > 5), zeroCheckAt := s.clock.now }).pack.present) = true) .shunt
    refine ⟨_, congrArg Host.Outcome.next (if_pos (by rw [ha, hs]; rfl)), ?_, ?_, ?_⟩
    · rw [hu.pack, heq]
      rfl
    · rw [hu.pack, heq]
      rfl
    · rw [hu.dram, heq, hpk]
      rfl
  · refine congrArg Host.Outcome.next (if_pos ?_)
    have hquiet : due s s.pack.quietSince 60000 = true := decide_eq_true (by omega)
    have haccess : due s s.pack.accessAt 60000 = true := decide_eq_true (by omega)
    rw [ha, hquiet, haccess, hrest, ht, hsv]
    rfl
  · have hstands := PackStands.settlePack (setPack s fun p => { p with
        present := true, presentSince := some s.clock.now, idTried := false, readingDue := true, readingFrom := s.clock.now })
    refine ⟨_, congrArg Host.Outcome.next (if_pos (by rw [ha, hp]; rfl)), ?_, ?_, ?_, ?_, ?_⟩
    · rw [hstands.pack]
      rfl
    · rw [hstands.pack]
      rfl
    · rw [hstands.pack]
      rfl
    · rw [hstands.pack]
      rfl
    · rw [hstands.dram]
      rfl
  · have hfirst := failPack_first
      (s := setPack s fun p => { p with present := false, presentSince := none, idTried := false, badVoltSince := none }) .absent hf
    obtain ⟨u, hu, heq⟩ := PackStands.failPack
      (setPack s fun p => { p with present := false, presentSince := none, idTried := false, badVoltSince := none }) .absent
    obtain ⟨hcond, hfailure, hout⟩ := hfirst
    refine ⟨_, congrArg Host.Outcome.next ((if_neg ?_).trans (if_pos ?_)), ?_, hcond, hfailure, hout, ?_⟩
    · change ¬ (!s.power.aon) = true
      rw [ha]
      decide
    · rw [hin, hp]
      rfl
    · rw [hu.pack, heq]
      rfl
    · rw [hu.dram, heq]
      rfl
  · have hstands := (PackStands.updateCharger (setPack s fun p => { p with cond := .qualified, failure := none, inService := true })).trans
      (.evalPsub _)
    refine ⟨_, congrArg Host.Outcome.next (if_pos ?_), ?_, ?_, ?_, ?_⟩
    · rw [ha, hq, bne_iff_ne.2 hcond]
      rfl
    · rw [evalPsub_pack, updateCharger_cond]
      rfl
    · rw [hstands.pack]
      rfl
    · rw [hstands.pack]
      rfl
    · rw [hstands.dram]
      rfl
  · exact ⟨⟨_, congrArg Host.Outcome.next (if_pos ha), identityPair_stands hl hp hlen⟩,
      ⟨_, congrArg Host.Outcome.next (if_pos ha), identityPair_stands (s := touchEstimator s) hl hp hlen⟩⟩

end Sys2Proof.Machine
end

section
/-! The bank's test and the references (O32, O33). -/

namespace Sys2Proof.Machine

open Sys2Proof

/-! ## A capacitance test wakes the estimator (R239, R260) -/

/-- A module whose estimator hibernates, its bank present and no save near. -/
def hibernating : State :=
  { State.reset with
    power := { State.reset.power with aon := true, inputOk := true, pfLow := false },
    startup := { State.reset.startup with settings := some (sheetSettings [] true) },
    bank := { State.reset.bank with run := .charging },
    pack := { State.reset.pack with hibernate := true } }

theorem startCapTest_hibernating : (startCapTest hibernating).pack.hibernate = false := by decide

/-- Refutes O32: a capacitance test that starts while the estimator hibernates wakes it, so that more than the bank changes. -/
theorem not_bankIsTestedAndChargerPolled : ¬ Obligations.BankIsTestedAndChargerPolled := by
  rintro ⟨hbank, _⟩
  obtain ⟨_, hcap, _⟩ := hbank hibernating rfl
  obtain ⟨t, hexec, _, _, _, heq⟩ := hcap rfl rfl (by decide) rfl rfl
  cases hexec
  have hwoken := startCapTest_hibernating
  rw [heq] at hwoken
  exact absurd hwoken (by decide)

/-! ## References (R244 to R250) -/

theorem ocvSoc_frame (s : State) (p : PackSet) (millivolts : Nat) : ∃ n, (ocvSoc s p millivolts).2 = { s with fresh := n } := by
  unfold ocvSoc
  split <;> exact ⟨_, rfl⟩

/-- A voltage reference: the counts of charge begin again. -/
theorem voltageReference_frame (s : State) (c : Settings) (millivolts uBase : Nat) (src : SocSource) :
    ∃ n soc, voltageReference s c millivolts uBase src = { s with fresh := n, pack := { s.pack with
      socRef := soc, socSrc := src, qChg := 0, qDis := 0, uBase := uBase, refAt := s.clock.opTime, readingDue := false,
      changeSeq := s.pack.changeSeq + 1, esbDirty := true } } := by
  obtain ⟨n, h⟩ := ocvSoc_frame s c.pack millivolts
  unfold voltageReference
  dsimp only
  rw [h]
  exact ⟨n, _, rfl⟩

/-- A rest window is over once it has ended. -/
theorem endWindow_restActive (s : State) (success cause : Nat) : (endWindow s success cause).pack.restActive = false := by
  have hcharger (u : State) : (updateCharger u).pack.restActive = u.pack.restActive := by
    unfold updateCharger
    dsimp only
    split <;> rfl
  unfold endWindow
  split
  · rw [hcharger, raise_pack]
    rfl
  · rename_i h
    exact Bool.eq_false_iff.2 h

/-- The pack after a rest reference, its window not ended yet (R247). -/
def restReferenced (s : State) (c : Settings) (millivolts : Nat) : State :=
  setPack (voltageReference s c millivolts c.pack.uRest .rest) fun p =>
    { p with restDue := false, restOcv := millivolts, restTime := (voltageReference s c millivolts c.pack.uRest .rest).clock.opTime,
             lastRestRef := some (voltageReference s c millivolts c.pack.uRest .rest).clock.now }

theorem exec_restReference {s : State} {c : Settings} (hc : s.startup.settings = some c) (ha : s.power.aon = true)
    (hr : restReady s = true) (millivolts : Nat) : exec (.restReference millivolts) s = .next (endWindow (restReferenced s c millivolts) 1 0) := by
  change execRestReference millivolts s = _
  unfold execRestReference
  rw [hc]
  exact congrArg Host.Outcome.next (if_pos (by rw [ha, hr]; rfl))

theorem restReference_stands (s : State) (c : Settings) (mv : Nat) :
    let t := endWindow (restReferenced s c mv) 1 0
    t.pack.socSrc = .rest ∧ t.pack.qChg = 0 ∧ t.pack.qDis = 0 ∧ t.pack.uBase = c.pack.uRest ∧ t.pack.refAt = s.clock.opTime ∧
      t.pack.restDue = false ∧ t.pack.restOcv = mv ∧ t.pack.restActive = false ∧ t.pack.changeSeq = s.pack.changeSeq + 1 ∧
      t.dram = s.dram := by
  obtain ⟨n, soc, href⟩ := voltageReference_frame s c mv c.pack.uRest .rest
  have hstands := PackStands.endWindow (restReferenced s c mv) 1 0
  have hover := endWindow_restActive (restReferenced s c mv) 1 0
  dsimp only
  rw [hover, hstands.dram, hstands.pack]
  unfold restReferenced
  rw [href]
  exact ⟨rfl, rfl, rfl, rfl, rfl, rfl, rfl, rfl, rfl, rfl⟩

theorem exec_startupReading {s : State} {c : Settings} (hc : s.startup.settings = some c) (ha : s.power.aon = true)
    (hp : s.pack.present = true) (hdue : s.pack.readingDue = true) (hrun : s.charger.run ≠ .charging)
    (hquiet : readingQuiet s = true ∨ s.pack.readingFrom + 5000 ≤ s.clock.now) (millivolts : Nat) :
    exec (.startupReading millivolts) s =
      .next (updateCharger (voltageReference s c millivolts (if readingQuiet s then c.pack.uStart else 250) .reading)) := by
  have hready : (readingQuiet s || due s s.pack.readingFrom 5000) = true := by
    obtain h | h := hquiet
    · rw [h, Bool.true_or]
    · rw [show due s s.pack.readingFrom 5000 = true from decide_eq_true (by omega), Bool.or_true]
  change execStartupReading millivolts s = _
  unfold execStartupReading
  rw [hc]
  refine congrArg Host.Outcome.next (if_pos ?_)
  rw [ha, hp, hdue, hready, bne_iff_ne.2 hrun]
  rfl

theorem startupReading_stands (s : State) (c : Settings) (mv uBase : Nat) :
    let t := updateCharger (voltageReference s c mv uBase .reading)
    t.pack.socSrc = .reading ∧ t.pack.qChg = 0 ∧ t.pack.qDis = 0 ∧ t.pack.uBase = uBase ∧ t.pack.readingDue = false ∧ t.dram = s.dram := by
  obtain ⟨n, soc, href⟩ := voltageReference_frame s c mv uBase .reading
  have hstands := PackStands.updateCharger (voltageReference s c mv uBase .reading)
  dsimp only
  rw [hstands.dram, hstands.pack, href]
  exact ⟨rfl, rfl, rfl, rfl, rfl, rfl⟩

/-- Settles O33: a reference by `voltageReference_frame`, a window's end by `endWindow_restActive`. -/
theorem referencesSetTheStateOfCharge : Obligations.ReferencesSetTheStateOfCharge := by
  refine fun s ha => ⟨fun c mv hc hr => ⟨_, exec_restReference hc ha hr mv, restReference_stands s c mv⟩,
    fun c mv hc hp hdue hrun hquiet => ⟨_, exec_startupReading hc ha hp hdue hrun hquiet mv, startupReading_stands s c mv _⟩,
    fun hset hd hh => ?_, fun hd hdue => ?_, fun hdue => ?_, fun hsr hdirty hsent => ?_, fun hstep hdue hv => ?_⟩
  · refine ⟨_, congrArg Host.Outcome.next (if_pos ?_), ?_⟩
    · rw [ha, hset, hd, decide_eq_true hh]
      rfl
    · rw [raise_frame]
      rfl
  · refine ⟨_, congrArg Host.Outcome.next (if_pos ?_), ?_⟩
    · rw [ha, hd, show due s s.pack.restReqAt dayMs = true from decide_eq_true (by unfold dayMs; omega)]
      rfl
    · rw [raise_frame]
      rfl
  · have hstands := PackStands.endWindow s 0 5
    exact ⟨_, congrArg Host.Outcome.next (if_pos (decide_eq_true (by omega))), endWindow_restActive s 0 5, hstands.dram, hstands.flash⟩
  · refine ⟨_, congrArg Host.Outcome.next (if_pos ?_), ?_⟩
    · rw [hsr, hdirty, hsent]
      rfl
    · rw [raise_frame]
      rfl
  · have hraise := PackStands.raise (setPack s fun p => { p with ship := false, shipStep := 0 }) 0x0606 [s.pack.voltage]
    have hbank (u : State) : PackStands u (updateBank u) := ⟨rfl, rfl, fun h => h⟩
    have hstands := (hraise.trans (hbank _)).trans (.updateCharger _)
    refine ⟨_, congrArg Host.Outcome.next (if_pos ?_), ?_, ?_, ?_, ?_⟩
    · rw [ha, hstep, show due s s.pack.shipAt 1000 = true from decide_eq_true (by omega), decide_eq_true hv]
      rfl
    · rw [hstands.pack]
      rfl
    · rw [hstands.pack]
      rfl
    · rw [hstands.dram]
      rfl
    · rw [hstands.flash]
      rfl

end Sys2Proof.Machine
end

section
/-! Temperatures: samples, bands, levels and trips (O34). -/

namespace Sys2Proof.Machine

open Sys2Proof

/-! ## The end of a flush (R193, R194) -/

/-- The end of phase 4 and a generation that is asked for change the save, the flash medium, the accounts of the persistence loop and the
recorder. -/
def FlushEnds (s t : State) : Prop := t = { s with flash := t.flash, recorder := t.recorder, persist := t.persist, save := t.save }

namespace FlushEnds

theorem refl (s : State) : FlushEnds s s := rfl

theorem trans {s t u : State} (h : FlushEnds s t) (k : FlushEnds t u) : FlushEnds s u := by
  unfold FlushEnds at *
  rw [k, h]

theorem of_work {s t : State} (h : FlashWork s t) : FlushEnds s t := by
  unfold FlushEnds
  rw [h.eq]

theorem foldl {α : Type} {f : State → α → State} (hf : ∀ s x, FlushEnds s (f s x)) (l : List α) (s : State) : FlushEnds s (l.foldl f s) := by
  induction l generalizing s with
  | nil => exact refl s
  | cons x l ih => exact (hf s x).trans (ih (f s x))

theorem ite {s a b : State} {p : Prop} [Decidable p] (ha : FlushEnds s a) (hb : FlushEnds s b) : FlushEnds s (if p then a else b) := by
  split <;> assumption

theorem settleFlush (s : State) (f : InFlight) : FlushEnds s (settleFlush s f) := by
  obtain h | ⟨e, held, h⟩ := settleFlush_cases s f
  · rw [h]
    exact refl s
  · rw [h]
    rfl

theorem startChunks (s : State) (c : Settings) (j : SealJob) : FlushEnds s (startChunks s c j) := by
  have hgo (u : State) : FlushEnds u (match programMeta { u with flash := { u.flash with chunks := [] } } c .chunk
        (if j.every then allChunks c else u.flash.chunks) with
      | some t => { t with flash := { t.flash with
          sealJob := some { j with stage := .chunks, chunks := if j.every then allChunks c else u.flash.chunks, draft := some (draftOf u j.kind) } } }
      | none => { u with flash := { u.flash with sealJob := none } }) := by
    split
    · rename_i hp
      exact (of_work (FlashWork.programMeta ((FlashWork.refl u).putFlash) hp)).trans rfl
    · rfl
  have hsettled : FlushEnds s (if saving s then s.persist.inflight.foldl Machine.settleFlush s else s) := ite (foldl settleFlush _ s) (refl s)
  unfold Machine.startChunks
  exact ite (refl s) (hsettled.trans (hgo _))

theorem advanceSeal (s : State) : FlushEnds s (advanceSeal s) := by
  unfold Machine.advanceSeal
  split
  · exact refl s
  · rename_i c hc
    clear hc
    have hgo (st : SealStage) (f : State → SealJob → State) (hf : ∀ u j, FlushEnds u (f u j)) (u : State) :
        FlushEnds u (match u.flash.sealJob with | some j => if j.stage = st then f u j else u | none => u) := by
      split
      · exact ite (hf _ _) (refl _)
      · exact refl _
    exact ((hgo .asked (fun s j => Machine.startChunks s c j) (fun u j => startChunks u c j) s).trans
      (hgo .chunks (fun s j => startRoot s c j) (fun u j => of_work ((FlashWork.refl u).startRoot c j)) _)).trans
      (hgo .root (fun s j => if j.kind = .save then s else startRecord s c j)
        (fun u j => ite (refl u) (of_work ((FlashWork.refl u).startRecord c j))) _)

theorem endFlush (s : State) (cause : EndCause) : FlushEnds s (endFlush s cause) := by
  unfold Machine.endFlush
  refine ite (refl s) (ite rfl ?_)
  exact FlushEnds.trans (t := dropRewritten s) rfl ((foldl (f := markLost) (fun _ _ => rfl) _ _).trans rfl)

theorem stopFlush (s : State) (cause : EndCause) : FlushEnds s (stopFlush s cause) := by
  have hseal (u : State) (k : SealKind) : FlushEnds u (beginSeal u k) :=
    FlushEnds.trans (t := { u with flash := { u.flash with sealJob := some (askSeal k []) } }) rfl (advanceSeal _)
  unfold Machine.stopFlush
  exact ite ((endFlush s cause).trans (hseal _ _)) (endFlush s cause)

end FlushEnds

/-! ## After the samples of a cycle (R112, R193, R271, R278) -/

theorem checkRetrain_frame (s : State) : ∃ q, checkRetrain s = { s with dram := { s.dram with retrainQ := q } } := by
  unfold checkRetrain
  exact foldl_frame (get := fun s => s.dram.retrainQ) (put := fun s q => { s with dram := { s.dram with retrainQ := q } })
    (fun s i => by
      split
      · split
        · split
          · exact ⟨_, queueRetrain_frame s i⟩
          · exact ⟨s.dram.retrainQ, rfl⟩
        · exact ⟨s.dram.retrainQ, rfl⟩
      · exact ⟨s.dram.retrainQ, rfl⟩) (fun _ => rfl) (fun _ _ _ => rfl) (fins 17) s

/-- What follows the samples (crossings, retraining, the guard of a save, the cooling in STANDBY) leaves the sites, DRAM's contents, the
rails and the local bus. -/
structure SamplesStand (s t : State) : Prop where
  site : t.thermal.site = s.thermal.site
  mem : t.dram.mem = s.dram.mem
  rails : t.rails = s.rails
  lb : t.lb = s.lb

theorem afterSamples_stands (s : State) : SamplesStand s (afterSamples s) := by
  have htrans {s t u : State} (h : SamplesStand s t) (k : SamplesStand t u) : SamplesStand s u :=
    ⟨k.site.trans h.site, k.mem.trans h.mem, k.rails.trans h.rails, k.lb.trans h.lb⟩
  have hcross (u : State) : SamplesStand u (noteCrossings u) := ⟨rfl, rfl, rfl, rfl⟩
  have hretrain (u : State) : SamplesStand u (checkRetrain u) := by
    obtain ⟨q, hq⟩ := checkRetrain_frame u
    rw [hq]
    exact ⟨rfl, rfl, rfl, rfl⟩
  have hguard (u : State) : SamplesStand u (if saving u && thermalGuard u then stopFlush u .thermal else u) := by
    split
    · rw [FlushEnds.stopFlush u .thermal]
      exact ⟨rfl, rfl, rfl, rfl⟩
    · exact ⟨rfl, rfl, rfl, rfl⟩
  have hcool (u : State) : SamplesStand u (if inStandby u then
      { u with thermal := { u.thermal with coolSince := if dramCool u then some (u.thermal.coolSince.getD u.clock.now) else none } } else u) := by
    split <;> exact ⟨rfl, rfl, rfl, rfl⟩
  exact htrans (htrans (htrans (hcross s) (hretrain _)) (hguard _)) (hcool _)

/-! ## Samples (R266, R267, R269) -/

@[simp] theorem setSite_same (s : State) (i : Site) (f : SiteState → SiteState) : (setSite s i f).thermal.site[i] = f s.thermal.site[i] :=
  getElem_vecMod_same _ _ _

theorem setSite_ne (s : State) {i k : Site} (f : SiteState → SiteState) (h : k ≠ i) : (setSite s i f).thermal.site[k] = s.thermal.site[k] :=
  getElem_vecMod_ne _ _ h

/-- The site's record after a sample in range, while its values have been followed for less than 10 s. -/
def sampled (s : State) (t : Int) (x : SiteState) : SiteState :=
  follow s { x with samples := (t :: x.samples).take 8, badRange := 0, badReads := 0 }

theorem sampled_stands (s : State) (t : Int) (x : SiteState) : (sampled s t x).samples = (t :: x.samples).take 8 ∧
    (sampled s t x).badRange = 0 ∧ (sampled s t x).run = x.run := by
  unfold sampled follow
  split
  · split <;> exact ⟨rfl, rfl, rfl⟩
  · exact ⟨rfl, rfl, rfl⟩

/-- Values followed for less than 10 s give no spread. -/
theorem spread_sampled {s : State} (t : Int) {x : SiteState} (h : ∀ e ∈ x.hist, s.clock.now < 10000 + e.1) : spread s (sampled s t x) = none := by
  have hold : ∀ e ∈ (sampled s t x).hist, s.clock.now < 10000 + e.1 := by
    intro e he
    have hnow : s.clock.now < 10000 + s.clock.now := by omega
    unfold sampled follow at he
    split at he
    · split at he
      · obtain he | he := List.mem_append.1 (List.mem_of_mem_drop he)
        · exact h e he
        · obtain rfl := List.mem_singleton.1 he
          exact hnow
      · exact h e he
    · obtain rfl := List.mem_singleton.1 he
      exact hnow
  unfold spread
  split
  · rename_i e _ _ he
    exact if_neg (Nat.not_le.2 (hold e (List.mem_of_head? he)))
  · rfl

/-- A sample in range of a plausible site whose values have been followed for less than 10 s. -/
theorem sampleSite_plausible {s : State} {i : Site} {t : Int} (hr : s.thermal.site[i].run = .plausible) (hin : inSiteRange i t = true)
    (hh : ∀ e ∈ s.thermal.site[i].hist, s.clock.now < 10000 + e.1) : sampleSite s i (some t) = setSite s i (sampled s t) := by
  have hset : (setSite s i fun x =>
      let x := { x with samples := (t :: x.samples).take 8, badRange := 0, badReads := 0 }
      if x.run = .plausible then follow s x else { x with goodSince := some (x.goodSince.getD s.clock.now) }) = setSite s i (sampled s t) := by
    unfold setSite vecMod
    dsimp only
    rw [if_pos hr]
    rfl
  have hstuck : isStuck (setSite s i (sampled s t)) i = false := by
    unfold isStuck
    dsimp only
    rw [setSite_same]
    have hspread := spread_sampled (s := s) t hh
    change spread (setSite s i (sampled s t)) (sampled s t s.thermal.site[i]) = none at hspread
    rw [hspread]
    rfl
  unfold sampleSite
  rw [hr]
  dsimp only
  rw [if_pos hin]
  unfold goodSample
  dsimp only at hset ⊢
  rw [hset, hstuck, Bool.and_false]
  exact if_neg Bool.false_ne_true

/-! ## The minimums (R270) -/

/-- What the thresholds of a domain leave alone: the sites, DRAM's contents, the host side and the tests. -/
structure MinimumsStand (s t : State) : Prop where
  site : t.thermal.site = s.thermal.site
  mem : t.dram.mem = s.dram.mem
  host : t.host = s.host
  faults : t.faults = s.faults

namespace MinimumsStand

theorem refl (s : State) : MinimumsStand s s := ⟨rfl, rfl, rfl, rfl⟩

theorem trans {s t u : State} (h : MinimumsStand s t) (k : MinimumsStand t u) : MinimumsStand s u :=
  ⟨k.site.trans h.site, k.mem.trans h.mem, k.host.trans h.host, k.faults.trans h.faults⟩

theorem raise (s : State) (code : Nat) (payload : List Nat) : MinimumsStand s (raise s code payload) := by
  rw [raise_frame]
  exact ⟨rfl, rfl, rfl, rfl⟩

theorem setBand2x (s : State) (ch : DramCh) (on : Bool) : MinimumsStand s (setBand2x s ch on) := by
  unfold Machine.setBand2x
  split <;> exact ⟨rfl, rfl, rfl, rfl⟩

theorem enterForced (s : State) (d : Domain) : MinimumsStand s (enterForced s d) := by
  have hfold (l : List DramCh) (u : State) : MinimumsStand u (l.foldl (fun s i => Machine.setBand2x s i true) u) := by
    induction l generalizing u with
    | nil => exact refl u
    | cons i l ih => exact (setBand2x u i true).trans (ih _)
  cases d with
  | dram =>
    exact MinimumsStand.trans (t := { s with thermal := { s.thermal with
      forcedDram := true, dram := s.thermal.dram.map fun b => { b with reef := true } } }) ⟨rfl, rfl, rfl, rfl⟩ (hfold (fins 17) _)
  | die => exact ⟨rfl, rfl, rfl, rfl⟩
  | nand => exact ⟨rfl, rfl, rfl, rfl⟩
  | pack => exact refl s
  | board => exact refl s

theorem leaveForced (s : State) (d : Domain) : MinimumsStand s (leaveForced s d) := by
  cases d <;> exact ⟨rfl, rfl, rfl, rfl⟩

theorem setAtMin (s : State) (d : Domain) (b : Bool) : MinimumsStand s (setAtMin s d b) := by
  cases d <;> exact ⟨rfl, rfl, rfl, rfl⟩

theorem checkDomain (s : State) (c : Settings) (d : Domain) : MinimumsStand s (checkDomain s c d) := by
  have hmin (u : State) (p : Prop) [Decidable p] (b : Bool) (payload : List Nat) :
      MinimumsStand u (if p then Machine.raise (Machine.setAtMin u d true) 0x0705 payload else Machine.setAtMin u d b) := by
    split
    · exact (setAtMin u d true).trans (raise _ _ _)
    · exact setAtMin u d b
  have hforced (u : State) (p q : Prop) [Decidable p] [Decidable q] (payload : List Nat) :
      MinimumsStand u (if p then Machine.raise (Machine.enterForced u d) 0x0702 payload else if q then Machine.leaveForced u d else u) := by
    split
    · exact (enterForced u d).trans (raise _ _ _)
    · split
      · exact leaveForced u d
      · exact refl u
  exact (hmin s _ _ _).trans (hforced _ _ _ _)

theorem checkMinimums (s : State) : MinimumsStand s (checkMinimums s) := by
  have hpsub (u : State) : MinimumsStand u (evalPsub u) := by
    rw [evalPsub_frame]
    exact ⟨rfl, rfl, rfl, rfl⟩
  unfold Machine.checkMinimums
  split
  · exact refl s
  · split
    · exact refl s
    · exact (((checkDomain s _ _).trans (checkDomain _ _ _)).trans (checkDomain _ _ _)).trans (hpsub _)

end MinimumsStand

/-! ## Commands on the sites -/

theorem exec_dieSiteSample_first {s : State} (hup : coreUp s = true) (t : Int) :
    exec (.dieSiteSample [some t]) s = .next (afterSamples (sampleSite s 0 (some t))) := by
  have hsites : fins 8 = [0, 1, 2, 3, 4, 5, 6, 7] := by rfl
  refine congrArg Host.Outcome.next ((if_pos hup).trans (congrArg afterSamples ?_))
  rw [hsites]
  rfl

theorem exec_localBusCycle_reads {s : State} (hup : coreUp s = true) (hl : s.lb.state = .inService)
    (readings : List (Site × Option (BitVec 16))) (window skipped : Nat) : exec (.localBusCycle readings [] false window skipped) s =
      .next (afterSamples { readings.foldl readRemote s with lb := { (readings.foldl readRemote s).lb with
        window := min 255 (window / 4), skipped := satAdd 8 (readings.foldl readRemote s).lb.skipped skipped } }) := by
  have halerts (u : State) : takeAlerts u [] false = u := by
    unfold takeAlerts
    split <;> rfl
  refine congrArg Host.Outcome.next ((if_pos ?_).trans ?_)
  · rw [hl, hup]
    rfl
  · dsimp only
    rw [halerts]

/-- The read of a sensor whose site is plausible, its word in range. -/
theorem readRemote_plausible {s : State} {c : Settings} {i : Site} {e : SensorSet} {w : BitVec 16} (hc : s.startup.settings = some c)
    (he : c.sensors.find? (fun k => k.site == i) = some e) (hr : s.thermal.site[i].run = .plausible)
    (hin : inSiteRange i (sensorReading e.format w) = true) (hh : ∀ h ∈ s.thermal.site[i].hist, s.clock.now < 10000 + h.1) :
    readRemote s (i, some w) = setSite (notePointer s i true) i (sampled (notePointer s i true) (sensorReading e.format w)) := by
  unfold readRemote
  rw [hc]
  dsimp only [Option.bind_some]
  rw [he]
  dsimp only
  rw [hr]
  exact (if_neg (by decide)).trans (sampleSite_plausible (s := notePointer s i true) hr hin hh)

theorem exec_sensorRereadComplete {s : State} {i : Site} {x : Test} (h : runningTest s (.site i) = some x) (anyPlausible : Bool) :
    exec (.sensorRereadComplete i anyPlausible) s = .next (if anyPlausible then endTest (countTransient s (.site i)) x true
      else checkMinimums (endTest (raise (setSite s i fun y => { y with run := .retired }) 0x0A06
        [i.val, domainCode s.thermal.site[i].domain, reasonCode s.thermal.site[i].reason]) x false)) := by
  change execSensorRereadComplete i anyPlausible s = _
  unfold execSensorRereadComplete
  rw [h]

/-- A re-read test that fails retires its site. -/
theorem rereadFailed_stands {s : State} {i : Site} {x : Test} (h : runningTest s (.site i) = some x) {payload : List Nat} :
    tested (checkMinimums (endTest (raise (setSite s i fun y => { y with run := .retired }) 0x0A06 payload) x false)) (.site i) = false ∧
      (checkMinimums (endTest (raise (setSite s i fun y => { y with run := .retired }) 0x0A06 payload) x false)).thermal.site[i].run =
        .retired := by
  have hrun : runningTest (raise (setSite s i fun y => { y with run := .retired }) 0x0A06 payload) (.site i) = some x := by
    unfold runningTest
    rw [raise_faults]
    exact h
  have hended := endTest_ended hrun false
  have hstand := MinimumsStand.checkMinimums (endTest (raise (setSite s i fun y => { y with run := .retired }) 0x0A06 payload) x false)
  have hthermal : (endTest (raise (setSite s i fun y => { y with run := .retired }) 0x0A06 payload) x false).thermal =
      (setSite s i fun y => { y with run := .retired }).thermal := by
    rw [endTest_frame]
    exact raise_thermal _ _ _
  refine ⟨?_, ?_⟩
  · unfold tested
    rw [hstand.faults]
    exact hended.ended
  · rw [hstand.site, hthermal, setSite_same]

/-- The trip band starts its save, the trip fields set (R276). -/
theorem tripSave_run {s : State} (hr : s.power.state = .run) (hst : s.power.starting = false) (hm : s.power.minimal = false)
    (hl : s.security.lowering = false) : tripSave s .dieTrip = startSave s .dieTrip := by
  have hstart := triggerSave_starts .dieTrip (.inl hr) hst hm hl
  obtain ⟨hstate, _⟩ := startSave_stands s .dieTrip
  have hsv : saving (startSave s .dieTrip) = true := by
    unfold saving
    rw [hstate]
    rfl
  unfold tripSave
  rw [hstart]
  dsimp only
  rw [hsv, Bool.true_or, if_pos rfl]

theorem reefNotice_frame (s : State) (cause old new : Nat) (m : Option Int) : reefNotice s cause old new m =
    { withNotes s (reefNotice s cause old new m) with
      thermal := { s.thermal with reefSent := (reefNotice s cause old new m).thermal.reefSent } } := by
  unfold reefNotice
  split
  · rw [raise_frame]
    rfl
  · rfl

/-- Settles O34: a sample by `sampleSite_plausible`, a site by `MinimumsStand`, a trip by `startSave_stands`. -/
theorem temperaturesSetBandsAndLevels : Obligations.TemperaturesSetBandsAndLevels := by
  refine ⟨⟨fun s t hup hr hin hh => ?_, fun s window skipped hup hl => ?_, fun s c i e w window skipped hup hl hc he hi hr hin hh => ?_,
    fun s i since hr hg hdue => ?_, fun s i he => ⟨?_, ?_⟩, fun s t ha hr => ?_⟩, fun s edge entering hup => ?_,
    fun s entering hup => ⟨fun hd hx => ?_, fun ch hd hx => ?_⟩, fun s hr hst hm hl hd hx => ?_, fun s hup hdue => ?_, fun s hen => ?_⟩
  · have hstand := afterSamples_stands (sampleSite s 0 (some t))
    obtain ⟨hsamples, hbad, _⟩ := sampled_stands s t s.thermal.site[(0 : Site)]
    refine ⟨_, exec_dieSiteSample_first hup t, ?_⟩
    rw [hstand.site, hstand.mem, hstand.rails, sampleSite_plausible hr hin hh, setSite_same]
    exact ⟨hsamples, hbad, fun k hk => setSite_ne _ _ hk, rfl, rfl⟩
  · refine ⟨_, exec_localBusCycle_reads hup hl [] window skipped, ?_⟩
    rw [(afterSamples_stands _).lb, (afterSamples_stands _).site, (afterSamples_stands _).mem]
    exact ⟨rfl, rfl, rfl⟩
  · have hread := readRemote_plausible hc he hr hin hh
    obtain ⟨hsamples, hbad, _⟩ := sampled_stands (notePointer s i true) (sensorReading e.format w) s.thermal.site[i]
    have hexec := exec_localBusCycle_reads hup hl [(i, some w)] window skipped
    rw [List.foldl_cons, List.foldl_nil, hread] at hexec
    refine ⟨_, hexec, ?_⟩
    rw [(afterSamples_stands _).site, (afterSamples_stands _).mem]
    change (setSite _ i _).thermal.site[i].samples = _ ∧ (setSite _ i _).thermal.site[i].badRange = _ ∧
      (∀ k : Site, k ≠ i → (setSite _ i _).thermal.site[k] = _) ∧ _
    rw [setSite_same]
    exact ⟨hsamples, hbad, fun k hk => setSite_ne _ _ hk, rfl⟩
  · have hstand := (MinimumsStand.checkMinimums (setSite s i fun t =>
      { t with run := .plausible, reason := .none, goodSince := none, hist := [] })).trans
      (u := noteCrossings (checkMinimums (setSite s i fun t => { t with run := .plausible, reason := .none, goodSince := none, hist := [] })))
      ⟨rfl, rfl, rfl, rfl⟩
    refine ⟨_, congrArg Host.Outcome.next (if_pos ?_), ?_⟩
    · rw [hr, hg]
      exact decide_eq_true (by omega)
    · rw [hstand.site, hstand.mem, hstand.host, setSite_same]
      exact ⟨rfl, fun k hk => setSite_ne _ _ hk, rfl, rfl⟩
  · obtain ⟨x, hx⟩ := Option.isSome_iff_exists.1 he
    have hxc : runningTest (countTransient s (.site i)) (.site i) = some x := hx
    have hended := endTest_ended hxc true
    refine ⟨_, (exec_sensorRereadComplete hx true).trans (congrArg Host.Outcome.next (if_pos rfl)), hended.ended, ?_, ?_⟩
    · exact (congrArg State.thermal (endTest_frame (countTransient s (.site i)) x true) :)
    · rw [hended.faults]
      rfl
  · obtain ⟨x, hx⟩ := Option.isSome_iff_exists.1 he
    obtain ⟨htested, hsite⟩ := rereadFailed_stands hx
    exact ⟨_, (exec_sensorRereadComplete hx false).trans (congrArg Host.Outcome.next (if_neg Bool.false_ne_true)), htested, hsite⟩
  · have hno (u : State) (h : u.power.state = .run) : tryStart u = u := by
      unfold tryStart
      refine if_neg ?_
      rw [h]
      rintro ⟨h | h | ⟨h, _⟩, _⟩ <;> cases h
    refine congrArg Host.Outcome.next ((if_pos ha).trans ?_)
    simp only [decide_eq_true_eq]
    exact hno _ hr
  · refine congrArg Host.Outcome.next ?_
    rw [hup, Bool.true_and]
  · refine congrArg Host.Outcome.next ((if_pos ?_).trans (if_pos hx))
    rw [hup, hd]
    rfl
  · refine ⟨_, congrArg Host.Outcome.next ((if_pos ?_).trans (if_pos hx)), ?_, ?_, fun k hk => ⟨?_, ?_⟩, rfl⟩
    · rw [hup, hd]
      rfl
    · exact congrArg NandBand.band2 (getElem_vecMod_same _ _ _)
    · exact (congrArg FlashChan.band (getElem_vecMod_same _ _ _)).trans (congrArg nandBandOf (getElem_vecMod_same _ _ _))
    · exact getElem_vecMod_ne _ _ hk
    · exact getElem_vecMod_ne _ _ hk
  · obtain ⟨hstate, htrig, hafter, hthermal, _, hmem⟩ := startSave_stands (setTrip { s with thermal := { s.thermal with dieTrip := true } } 1
      (leadSite { s with thermal := { s.thermal with dieTrip := true } } fun x => x.domain == .die) 31 ((dieMax s).getD 0)) .dieTrip
    refine ⟨_, congrArg Host.Outcome.next ((if_pos ?_).trans ((if_pos ?_).trans (tripSave_run ?_ ?_ ?_ ?_))), hstate, htrig, hafter, ?_, ?_,
      hmem⟩
    · rw [hd, show coreUp s = true from ?_]
      · rfl
      · unfold coreUp
        rw [hr, hst]
        rfl
    · rw [hx]
      rfl
    · exact hr
    · exact hst
    · exact hm
    · exact hl
    · rw [hthermal]
      rfl
    · rw [hthermal]
      rfl
  · refine ⟨_, congrArg Host.Outcome.next (if_pos ?_), ?_, ?_⟩
    · rw [hup]
      exact decide_eq_true (by omega)
    · rw [reefNotice_frame, reefNotice_frame, reefNotice_frame]
    · rw [reefNotice_frame, reefNotice_frame, reefNotice_frame]
      rfl
  · have hrec (u : State) (r : TripRecord) : recordTrip u r false =
        { u with thermal := { u.thermal with pending := some r }, recorder := (recordTrip u r false).recorder } := by
      unfold recordTrip
      rw [logEvent_frame]
      rfl
    refine ⟨_, congrArg Host.Outcome.next (if_pos hen), ?_⟩
    dsimp only
    rw [hrec]
    exact ⟨rfl, rfl, rfl, rfl, rfl, rfl⟩

end Sys2Proof.Machine
end

section
/-! Rails and VDD_AON (O35, O36). -/

namespace Sys2Proof.Machine

open Sys2Proof

/-! ## A NAND rail that does not recover in a save (R176, R295) -/

/-- A save in which NAND_VCC, of class RETRY, has faulted and does not recover. -/
def nandRailFaulted : State :=
  { State.reset with
    power := { State.reset.power with state := .save },
    rails := { State.reset.rails with rail := vecMod State.reset.rails.rail 9 fun x =>
      { x with run := .fault, set_ := { x.set_ with cls := .retry, timeoutMs := 0 }, faultAt := some 0 } } }

/-- Its escalation, put off to the end of the save. -/
def nandRailEscalated : State := react (setRail nandRailFaulted 9 fun x => { x with faultAt := none }) 9 (escalated 9) true

theorem exec_nandRailFaulted : exec (.railRecoveryTimeout 9) nandRailFaulted = .next nandRailEscalated :=
  congrArg Host.Outcome.next (if_pos (by decide))

theorem nandRailEscalated_brownOut : nandRailEscalated.flash.brownOut = true := by decide

/-- Refutes O35: a NAND rail that does not recover in a save also stops the flash engines, so that more than the deferred reaction
changes. -/
theorem not_railsComeUpAndFaultsAreReacted : ¬ Obligations.RailsComeUpAndFaultsAreReacted := by
  rintro ⟨_, hfaults⟩
  obtain ⟨_, _, _, hrecovery, _⟩ := hfaults nandRailFaulted 9 (by decide)
  have hexec := hrecovery 0 (by decide) (by decide) (by decide) (by decide) (by decide)
  have hdown := nandRailEscalated_brownOut
  rw [Host.Outcome.next.inj (exec_nandRailFaulted.symm.trans hexec)] at hdown
  exact absurd hdown (by decide)

/-! ## What a reset of the core keeps (Table 11-5) -/

/-- Debug is forced closed, with a notice where a session ends. -/
theorem debugReset_frame (s : State) : ∃ security, debugReset s = { withNotes s (debugReset s) with security := security } := by
  unfold debugReset endSession
  split
  · rw [raise_frame]
    exact ⟨_, rfl⟩
  · exact ⟨_, rfl⟩

/-- Every link is down, no request and no accepted write left. -/
theorem linksReset_frame (s : State) : ∃ host notices, linksReset s = { s with host := host, notices := notices } ∧
    host.slots = [] ∧ host.buf = [] := by
  obtain ⟨⟨host, notices⟩, h⟩ := foldl_frame (get := fun s => (s.host, s.notices))
    (put := fun s b => { s with host := b.1, notices := b.2 }) (f := fun s (l : Link) => linkGone (linkReset s l) l)
    (fun s l => ⟨((linkTakenDown s l).host, (linkTakenDown s l).notices), linkTakenDown_frame s l⟩) (fun _ => rfl) (fun _ _ _ => rfl)
    (fins 8) s
  unfold linksReset
  dsimp only
  rw [h]
  exact ⟨_, _, rfl, rfl, rfl⟩

/-- A reset of the core: what AON, the pins, the rails and the save keep, and DRAM where it is kept. -/
structure CoreReset (s : State) (keep : Bool) (t : State) : Prop where
  power : t.power = { s.power with dramUp := t.power.dramUp }
  startup : t.startup = startupReset s keep
  rails : t.rails = s.rails
  button : t.button = s.button
  charger : t.charger = s.charger
  clock : t.clock = s.clock
  pack : t.pack = s.pack
  save : t.save = s.save
  smb : t.smb.stuck = s.smb.stuck
  faults : t.faults.interval = s.faults.interval
  slots : t.host.slots = []
  buf : t.host.buf = []
  kept : keep = true → t.dram.mem = s.dram.mem ∧ t.persist.dirty = s.persist.dirty

theorem resetCore_stands (s : State) (keep : Bool) : CoreReset s keep (resetCore s keep) := by
  obtain ⟨blocks, herases⟩ := breakErases_frame s
  obtain ⟨security, hdebug⟩ := debugReset_frame (breakErases s)
  obtain ⟨host, notices, hlinks, hslots, hbuf⟩ := linksReset_frame (debugReset (breakErases s))
  obtain ⟨dram, hsleep, hmem⟩ := channelsSleep_frame (linksReset (debugReset (breakErases s)))
  unfold resetCore
  dsimp only
  cases keep with
  | true =>
    rw [hlinks, hdebug, herases] at hmem
    rw [if_pos rfl, hsleep, hlinks, hdebug, herases]
    exact ⟨rfl, rfl, rfl, rfl, rfl, rfl, rfl, rfl, rfl, rfl, hslots, hbuf, fun _ => ⟨hmem, rfl⟩⟩
  | false =>
    rw [if_neg Bool.false_ne_true]
    unfold dramGone
    rw [hlinks, hdebug, herases]
    exact ⟨rfl, rfl, rfl, rfl, rfl, rfl, rfl, rfl, rfl, rfl, hslots, hbuf, fun h => absurd h Bool.false_ne_true⟩

end Sys2Proof.Machine
end

section
/-! VDD_AON and the input come and go (O36). -/

namespace Sys2Proof.Machine

open Sys2Proof

/-! ## A start-up begins (R287, R304) -/

/-- A sequence of rails changes them and its own place in the supervisor. -/
theorem beginSequence_eq (s : State) (rs : List Rail) (p : SeqPurpose) : ∃ rail, beginSequence s rs p = { s with
    rails := { s.rails with rail := rail, seqTodo := rs.filter fun r => s.rails.rail[r].run != .qualified, seqFor := p } } := by
  obtain ⟨rail, h⟩ := foldl_frame (get := fun s => s.rails.rail) (put := fun s v => { s with rails := { s.rails with rail := v } })
    (f := fun s (r : Rail) => setRail s r fun x => { x with retries := 0 }) (fun _ _ => ⟨_, rfl⟩) (fun _ => rfl) (fun _ _ _ => rfl)
    (rs.filter fun r => s.rails.rail[r].run != .qualified) s
  unfold beginSequence
  dsimp only
  rw [h]
  generalize (rs.filter fun r => s.rails.rail[r].run != .qualified) = todo
  cases todo with
  | nil => exact ⟨rail, rfl⟩
  | cons r todo => exact ⟨_, rfl⟩

/-- A start-up of the boot stage: what AON and the pins keep. -/
structure BootStarted (s t : State) : Prop where
  begins : bootBegins t
  aon : t.power.aon = s.power.aon
  aux : t.power.aux = s.power.aux
  strapPins : t.startup.strapPins = s.startup.strapPins
  strapLow : t.startup.strapLow = s.startup.strapLow
  smb : t.smb.stuck = s.smb.stuck
  restartWait : t.rails.restartWait = s.rails.restartWait

theorem startBoot_started (s : State) : BootStarted s (startBoot s) := by
  have hreset := resetCore_stands s false
  unfold startBoot
  dsimp only
  generalize resetCore s false = u at hreset
  obtain ⟨rail, h⟩ := beginSequence_eq { sramLost u with
    power := { (sramLost u).power with
      state := .restore, starting := true, idle := false, minimal := false, dramUp := false },
    startup := { startupReset (sramLost u) false with
      retained := false, startedAt := (sramLost u).clock.now, strapHigh := BitVec.ofNat 5 ((sramLost u).startup.strapPins.toNat / 8) },
    pack := { (sramLost u).pack with
      shipStep := 0, ship := false, readingDue := (sramLost u).pack.readingDue || (sramLost u).pack.ship,
      readingFrom := (sramLost u).clock.now },
    clock := if (sramLost u).clock.resumed then { (sramLost u).clock with pcycle := (sramLost u).clock.pcycle + 1, timeEst := false }
      else (sramLost u).clock,
    rails := { (sramLost u).rails with seqTop := 1, deferred := none, groupWait := [] } } [1, 2] .boot
  rw [h]
  refine ⟨⟨rfl, rfl, rfl, rfl, rfl, rfl⟩, ?_, ?_, ?_, ?_, hreset.smb, ?_⟩
  · exact (congrArg Power.aon hreset.power :)
  · exact (congrArg Power.aux hreset.power :)
  · exact (congrArg Startup.strapPins hreset.startup :)
  · exact (congrArg Startup.strapLow hreset.startup :)
  · exact (congrArg Rails.restartWait hreset.rails :)

/-- A start that may follow begins the boot stage, or nothing happens. -/
theorem tryStart_cases (s : State) : tryStart s = startBoot s ∨ tryStart s = s := by
  unfold tryStart
  split
  · exact .inl rfl
  · exact .inr rfl

theorem beginInterval_frame (s : State) (k : AvailKind) : ∃ faults, beginInterval s k = { s with faults := faults } := by
  unfold beginInterval
  split <;> exact ⟨_, rfl⟩

theorem BootStarted.beginInterval {s t : State} (h : BootStarted s t) (k : AvailKind) : BootStarted s (beginInterval t k) := by
  obtain ⟨faults, hf⟩ := beginInterval_frame t k
  rw [hf]
  exact ⟨h.begins, h.aon, h.aux, h.strapPins, h.strapLow, h.smb, h.restartWait⟩

/-! ## VDD_AON (R283, R418) -/

theorem sendCurrent_frame (s : State) : ∃ smb out, sendCurrent s = { s with smb := smb, out := out } := by
  unfold sendCurrent
  split
  · split <;> exact ⟨_, _, rfl⟩
  · exact ⟨_, _, rfl⟩

theorem sendQueued_frame (s : State) : ∃ smb out, sendQueued s = { s with smb := smb, out := out } := by
  unfold sendQueued sendMessage
  split
  · split
    · exact ⟨_, _, rfl⟩
    · rename_i m t _ _ _
      exact sendCurrent_frame (setSmb (setSmb s fun b => { b with queue := t }) fun b =>
        { b with current := some (m, 0, b.nextTag), nextTag := (b.nextTag + 1) % 8 })
  · exact ⟨_, _, rfl⟩

/-- A bus that is declared stuck: the event is logged, or a notice sent. -/
theorem smbusStuck_frame (s : State) (scl : Bool) : ∃ notices recorder alert, smbusStuck s scl = { s with
    notices := notices, recorder := recorder,
    smb := { s.smb with stuck := true, state := .idle, retryAt := s.clock.now, alert := alert } } := by
  unfold smbusStuck
  dsimp only
  split
  · rw [logEvent_frame]
    exact ⟨_, _, _, rfl⟩
  · rw [raise_frame]
    exact ⟨_, _, _, rfl⟩

/-- A bus clear of the SMBus (R458, R459). -/
theorem clearSmbus_frame (s : State) (c : Option ClearOutcome) : ∃ smb out notices recorder, clearSmbus s c = { s with
    smb := smb, out := out, notices := notices, recorder := recorder } := by
  unfold clearSmbus
  split
  · exact ⟨_, _, _, _, rfl⟩
  · dsimp only
    split
    · split
      · unfold smbusCleared
        dsimp only
        split
        · obtain ⟨smb, out, h⟩ := sendCurrent_frame (setSmb (setSmb s fun b => { b with clear := satAdd 8 b.clear 1 }) fun b =>
            { b with stuck := false })
          exact ⟨_, _, _, _, h⟩
        · obtain ⟨smb, out, h⟩ := sendQueued_frame (setSmb (setSmb s fun b => { b with clear := satAdd 8 b.clear 1 }) fun b =>
            { b with stuck := false })
          exact ⟨_, _, _, _, h⟩
      · exact ⟨_, _, _, _, rfl⟩
    · rename_i scl
      split
      · exact ⟨_, _, _, _, rfl⟩
      · obtain ⟨_, _, _, h⟩ := smbusStuck_frame (setSmb s fun b => { b with clear := satAdd 8 b.clear 1 }) scl
        exact ⟨_, _, _, _, h⟩

/-- A bus that a clear leaves held is stuck from then on (R459). -/
theorem clearSmbus_stuck {s : State} (scl : Bool) (h : s.smb.stuck = false) : (clearSmbus s (some (.stuck scl))).smb.stuck = true := by
  obtain ⟨_, _, _, hs⟩ := smbusStuck_frame (setSmb s fun b => { b with clear := satAdd 8 b.clear 1 }) scl
  refine (congrArg (fun t : State => t.smb.stuck) (if_neg ?_)).trans ?_
  · rw [Bool.not_eq_true]
    exact h
  · rw [hs]

/-- VDD_AON has risen, and the straps are sampled (R283, R304). -/
def aonRisen (s : State) (straps : Byte) (aux : Bool) : State :=
  { s with power := { s.power with aon := true, aux := aux }, startup := { s.startup with strapPins := straps, strapLow := straps.setWidth 3 } }

theorem aonRisen_stands (s : State) (straps : Byte) (aux : Bool) (smbus : Option ClearOutcome) :
    let t := tryStart (clearSmbus (aonRisen s straps aux) smbus)
    t.power.aon = true ∧ t.power.aux = aux ∧ t.startup.strapPins = straps ∧ t.startup.strapLow = straps.setWidth 3 ∧
      (∀ scl, smbus = some (.stuck scl) → s.smb.stuck = false → t.smb.stuck = true) := by
  obtain ⟨smb, out, notices, recorder, hclear⟩ := clearSmbus_frame (aonRisen s straps aux) smbus
  have hstuck (scl : Bool) (hc : smbus = some (.stuck scl)) (hs : s.smb.stuck = false) :
      (clearSmbus (aonRisen s straps aux) smbus).smb.stuck = true := hc ▸ clearSmbus_stuck scl hs
  dsimp only
  obtain h | h := tryStart_cases (clearSmbus (aonRisen s straps aux) smbus)
  · have hstart := startBoot_started (clearSmbus (aonRisen s straps aux) smbus)
    rw [h, hstart.aon, hstart.aux, hstart.strapPins, hstart.strapLow, hstart.smb]
    refine ⟨?_, ?_, ?_, ?_, hstuck⟩ <;> rw [hclear] <;> rfl
  · rw [h]
    refine ⟨?_, ?_, ?_, ?_, hstuck⟩ <;> rw [hclear] <;> rfl

/-! ## The input (R287, R301) -/

theorem tryStart_of_run {s : State} (h : s.power.state = .run) : tryStart s = s := by
  refine if_neg fun hstart => ?_
  obtain ⟨hstate, _⟩ := hstart
  rw [h] at hstate
  obtain h | h | ⟨h, _⟩ := hstate <;> exact absurd h (by decide)

/-- Only a STANDBY that waits for a press is changed by a fall of the input (R301). -/
theorem afterInputFall_of_ne {s : State} (h : (inStandby s && s.power.standby == .byPress) = false) : afterInputFall s = s := by
  unfold afterInputFall
  rw [h, Bool.false_and, if_neg Bool.false_ne_true]

theorem exec_inputQualified_run {s : State} (straps : Byte) (h : s.power.state = .run) :
    exec (.inputQualified straps) s = .next (inputIsGood s straps) := by
  have hfall : afterInputFall s = s := by
    refine afterInputFall_of_ne ?_
    unfold inStandby
    rw [h]
    rfl
  have htry : tryStart (inputIsGood (afterInputFall s) straps) = inputIsGood s straps := by
    rw [hfall]
    exact tryStart_of_run h
  change execInputQualified straps s = _
  unfold execInputQualified
  rw [htry]
  refine congrArg Host.Outcome.next (if_neg ?_)
  change ¬ ((s.power.state == .save) || (s.power.starting && !s.power.starting)) = true
  rw [h, Bool.and_not_self]
  decide

theorem inputQualified_starts {s : State} (straps : Byte) (hstate : s.power.state = .standby) (hby : s.power.standby = .byInput)
    (hmay : mayStart (inputIsGood s straps) = true) : ∃ t, exec (.inputQualified straps) s = .next t ∧ bootBegins t := by
  have hfall : afterInputFall s = s := by
    refine afterInputFall_of_ne ?_
    rw [hby]
    exact Bool.and_false _
  have htry : tryStart (inputIsGood (afterInputFall s) straps) = startBoot (inputIsGood s straps) := by
    rw [hfall]
    exact if_pos ⟨.inr (.inr ⟨hstate, hby⟩), hmay⟩
  have hstart := startBoot_started (inputIsGood s straps)
  have hexec : exec (.inputQualified straps) s = .next _ := rfl
  refine ⟨_, hexec, ?_⟩
  rw [htry]
  split
  · exact (hstart.beginInterval .counted).begins
  · exact hstart.begins

/-! ## Settled -/

/-- What a loss of VDD_AON leaves (R283). -/
abbrev aonGone (s t : State) : Prop :=
  t.power.aon = false ∧ t.notices.pend = [] ∧ t.qmp.sessions = [] ∧ t.dram.mem = [] ∧ t.flash.gens = s.flash.gens ∧
    t.cf.words = s.cf.words ∧ t.recorder.ring = s.recorder.ring ∧ t.pack.present = s.pack.present

theorem aonLost_gone {s : State} (hidle : s.cf.op = .idle) (hsusp : s.cf.suspended = none) : aonGone s (aonLost s) := by
  obtain ⟨blocks, h⟩ := breakErases_frame s
  have hcf : breakCfErase (breakErases s) = breakErases s := by
    unfold breakCfErase
    rw [h]
    dsimp only
    rw [hidle, if_neg (by decide), hsusp]
  unfold aonLost
  rw [hcf, h]
  exact ⟨rfl, rfl, rfl, rfl, rfl, rfl, rfl, rfl⟩

/-- Settles O36: every start by `startBoot_started`, a loss of VDD_AON by `aonLost_gone`. -/
theorem aonPowerComesAndGoes : Obligations.AonPowerComesAndGoes := by
  refine ⟨fun s straps aux smbus haon => ?_, fun s haon hop hsusp => ⟨⟨_, congrArg Host.Outcome.next (if_pos haon), aonLost_gone hop hsusp⟩,
      fun hin hhold => ⟨_, congrArg Host.Outcome.next (if_pos ?_), aonLost_gone hop hsusp⟩⟩,
    fun s hin => congrArg Host.Outcome.next (if_neg ?_), fun s straps => ⟨fun hrun => ?_, fun hstand hby hmay => ?_⟩,
    fun s hwait hdue hmay => ⟨_, congrArg Host.Outcome.next ((if_pos ?_).trans (if_pos hmay)), ?_⟩,
    fun s hstand hby hcool hmay => ⟨_, congrArg Host.Outcome.next (if_pos ?_), (startBoot_started s).begins⟩⟩
  · refine ⟨_, congrArg Host.Outcome.next (congrArg (fun t : State => tryStart (clearSmbus { t with
      power := { t.power with aon := true, aux := aux },
      startup := { t.startup with strapPins := straps, strapLow := straps.setWidth 3 } } smbus)) (if_neg ?_)), aonRisen_stands s straps aux smbus⟩
    rw [haon]
    exact Bool.false_ne_true
  · rw [haon, hin, hhold]
    rfl
  · rw [hin, Bool.not_true, Bool.and_false, Bool.false_and]
    exact Bool.false_ne_true
  · exact exec_inputQualified_run straps hrun
  · exact inputQualified_starts straps hstand hby hmay
  · rw [hwait, show due s s.rails.restartAt 100 = true from decide_eq_true (by omega)]
    rfl
  · have h := (startBoot_started { s with rails := { s.rails with restartWait := false } }).beginInterval .counted
    exact ⟨h.begins, h.restartWait⟩
  · unfold inStandby
    rw [hstand, hby, hcool, hmay]
    rfl

end Sys2Proof.Machine
end

section
/-! MR_N, the button and the Sheet at start-up (O37, O38). -/

namespace Sys2Proof.Machine

open Sys2Proof

/-! ## A reset of the data path keeps DRAM (R37, R296) -/

/-- What a drain into self-refresh touches: the host side, the parity lines and the recorder; memory and the dirty bits stand. -/
structure Drained (s t : State) : Prop where
  state : t.power.state = s.power.state
  starting : t.power.starting = s.power.starting
  startup : t.startup = s.startup
  rails : t.rails = s.rails
  button : t.button = s.button
  mem : t.dram.mem = s.dram.mem
  dirty : t.persist.dirty = s.persist.dirty

namespace Drained

theorem refl (s : State) : Drained s s := ⟨rfl, rfl, rfl, rfl, rfl, rfl, rfl⟩

theorem trans {s t u : State} (h : Drained s t) (k : Drained t u) : Drained s u :=
  ⟨k.state.trans h.state, k.starting.trans h.starting, k.startup.trans h.startup, k.rails.trans h.rails, k.button.trans h.button,
    k.mem.trans h.mem, k.dirty.trans h.dirty⟩

theorem closeStaging (s : State) (st : Nat) : Drained s (closeStaging s st) := by
  cases ho : openEntry s st with
  | none =>
    unfold Machine.closeStaging
    rw [ho]
    exact refl s
  | some e =>
    have hmem := closeStaging_mem s st
    rw [closeStaging_frame ho] at hmem ⊢
    exact ⟨rfl, rfl, rfl, rfl, rfl, hmem, rfl⟩

theorem foldl {α : Type} {f : State → α → State} (hf : ∀ s x, Drained s (f s x)) (l : List α) (s : State) : Drained s (l.foldl f s) := by
  induction l generalizing s with
  | nil => exact refl s
  | cons x l ih => exact (hf s x).trans (ih (f s x))

theorem programPartial (s : State) : Drained s (programPartial s) := by
  obtain ⟨rc, wear, h⟩ := programPartial_frame s
  rw [h]
  exact ⟨rfl, rfl, rfl, rfl, rfl, rfl, rfl⟩

/-- With nothing accepted left, only the parity lines that are still staged are written. -/
theorem selfRefreshAll {s : State} (hbuf : s.host.buf = []) : Drained s (selfRefreshAll s) := by
  have hfetch : finishFetches s = { s with host := { s.host with stopped := true } } := by
    unfold finishFetches
    rw [hbuf]
    rfl
  have hdrain (u : State) (hu : u.host.buf = []) : Drained u (drainBuffers u) := by
    have hclose := foldl (f := fun s (e : StagingEntry) => Machine.closeStaging s e.stripe) (fun s e => closeStaging s e.stripe)
      (u.shroud.staging.filter fun e => !e.written) u
    unfold drainBuffers drainAll
    rw [hu]
    exact ⟨hclose.state, hclose.starting, hclose.startup, hclose.rails, hclose.button, hclose.mem, hclose.dirty⟩
  have hsleep (u : State) : Drained u (channelsSleep u) := by
    obtain ⟨d, h, hmem⟩ := channelsSleep_frame u
    rw [h]
    exact ⟨rfl, rfl, rfl, rfl, rfl, hmem, rfl⟩
  have hstop : Drained s { s with host := { s.host with stopped := true } } := ⟨rfl, rfl, rfl, rfl, rfl, rfl, rfl⟩
  unfold Machine.selfRefreshAll
  rw [hfetch]
  exact ((hstop.trans (hdrain _ hbuf)).trans (.programPartial _)).trans (hsleep _)

end Drained

/-- A reset of the data path out of RUN, nothing accepted left: start-up follows with the rails kept, and with DRAM where it served. -/
theorem dataPathReset_stands {s : State} (hst : s.power.starting = false) (hbuf : s.host.buf = []) :
    let t := dataPathReset s
    t.power.state = .restore ∧ t.power.starting = true ∧ t.startup.step = 0 ∧ t.startup.retained = dramServing s ∧
      t.button = s.button ∧ t.rails.rail = s.rails.rail ∧ t.host.slots = [] ∧
      (dramServing s = true → t.dram.mem = s.dram.mem ∧ t.persist.dirty = s.persist.dirty) := by
  have hkeep : (dramServing s && (!s.power.starting || s.startup.retained)) = dramServing s := by
    rw [hst]
    exact Bool.and_true _
  have hdrained : Drained s (if dramServing s then selfRefreshAll s else s) := by
    split
    · exact .selfRefreshAll hbuf
    · exact .refl s
  have hreset := resetCore_stands (if dramServing s then selfRefreshAll s else s) (dramServing s)
  obtain ⟨faults, hinterval⟩ := beginInterval_frame (resetCore (if dramServing s then selfRefreshAll s else s) (dramServing s)) .counted
  unfold dataPathReset
  dsimp only
  rw [hkeep, hinterval]
  refine ⟨rfl, rfl, ?_, ?_, hreset.button.trans hdrained.button, ?_, hreset.slots, fun h => ?_⟩
  · exact (congrArg Startup.step hreset.startup :)
  · exact (congrArg Startup.retained hreset.startup :)
  · exact (congrArg Rails.rail (hreset.rails.trans hdrained.rails) :)
  · obtain ⟨hmem, hdirty⟩ := hreset.kept h
    exact ⟨hmem.trans hdrained.mem, hdirty.trans hdrained.dirty⟩

/-- The state in which MR_N resets the data path: counted and reported, a debug session and a lowering ended. -/
def resetReported (s : State) : State :=
  raise (endSession { s with
      button := { s.button with mrCount := min 65535 (s.button.mrCount + 1), mrLatched := false, cause := 1, causeRail := 0 },
      security := { s.security with lowering := false, step := 0 } } 2)
    0x0805 [min 65535 (s.button.mrCount + 1), bit (dramServing s && (!s.power.starting || s.startup.retained))]

theorem resetReported_frame (s : State) : ∃ security, resetReported s = { withNotes s (resetReported s) with
    button := { s.button with mrCount := min 65535 (s.button.mrCount + 1), mrLatched := false, cause := 1, causeRail := 0 },
    security := security } := by
  unfold resetReported endSession
  dsimp only
  split
  · rw [raise_frame, raise_frame]
    exact ⟨_, rfl⟩
  · rw [raise_frame]
    exact ⟨_, rfl⟩

theorem manualReset_stands {s : State} (hst : s.power.starting = false) (hbuf : s.host.buf = []) :
    let t := manualReset s
    t.power.state = .restore ∧ t.power.starting = true ∧ t.startup.step = 0 ∧ t.startup.retained = dramServing s ∧
      t.button.mrCount = min 65535 (s.button.mrCount + 1) ∧ t.button.cause = 1 ∧ t.rails.rail = s.rails.rail ∧ t.host.slots = [] ∧
      (dramServing s = true → t.dram.mem = s.dram.mem ∧ t.persist.dirty = s.persist.dirty) := by
  obtain ⟨security, hreport⟩ := resetReported_frame s
  have hstarting : (resetReported s).power.starting = false := by
    rw [hreport]
    exact hst
  have hempty : (resetReported s).host.buf = [] := by
    rw [hreport]
    exact hbuf
  have hserving : dramServing (resetReported s) = dramServing s := by
    unfold dramServing
    rw [hreport]
    rfl
  obtain ⟨hstate, hstart, hstep, hret, hbutton, hrail, hslots, hkept⟩ := dataPathReset_stands hstarting hempty
  rw [hserving] at hret hkept
  have hrail' : (resetReported s).rails.rail = s.rails.rail := by rw [hreport]; rfl
  have hmem : (resetReported s).dram.mem = s.dram.mem := by rw [hreport]; rfl
  have hdirty : (resetReported s).persist.dirty = s.persist.dirty := by rw [hreport]; rfl
  have hpressed : (resetReported s).button =
      { s.button with mrCount := min 65535 (s.button.mrCount + 1), mrLatched := false, cause := 1, causeRail := 0 } := by
    rw [hreport]
  rw [hpressed] at hbutton
  exact ⟨hstate, hstart, hstep, hret, (congrArg Button.mrCount hbutton :), (congrArg Button.cause hbutton :), hrail.trans hrail', hslots,
    fun h => ⟨(hkept h).1.trans hmem, (hkept h).2.trans hdirty⟩⟩

/-! ## The hard off (R299) -/

theorem brokenSector_frame (s : State) (sec : Nat) : ∃ fresh cf fw recorder, brokenSector s sec = { s with
    fresh := fresh, cf := cf, fw := fw, recorder := recorder } := by
  unfold brokenSector sectorGone
  exact ⟨_, _, _, _, rfl⟩

/-- A pulse that is cut off changes the code flash and what its sector held. -/
theorem cfPowerLoss_frame (s : State) : ∃ fresh cf fw recorder, cfPowerLoss s = { s with
    fresh := fresh, cf := cf, fw := fw, recorder := recorder } := by
  unfold cfPowerLoss
  split
  · obtain ⟨fresh, cf, fw, recorder, h⟩ := brokenSector_frame s s.cf.sector
    dsimp only
    rw [h]
    exact ⟨_, _, _, _, rfl⟩
  · split <;> exact ⟨_, _, _, _, rfl⟩
  · exact ⟨_, _, _, _, rfl⟩

/-- The core has lost its power (R283): what AON holds stands, the rails and the button with it. -/
theorem coreLost_stands (s : State) : (coreLost s).power.aux = s.power.aux ∧ (coreLost s).power.inputOk = s.power.inputOk ∧
    (coreLost s).rails = s.rails ∧ (coreLost s).button = s.button := by
  obtain ⟨_, _, _, _, hcf⟩ := cfPowerLoss_frame s
  have hreset := resetCore_stands (cfPowerLoss s) false
  unfold coreLost
  dsimp only
  refine ⟨(congrArg Power.aux hreset.power :).trans ?_, (congrArg Power.inputOk hreset.power :).trans ?_, hreset.rails.trans ?_,
    hreset.button.trans ?_⟩ <;> rw [hcf]

theorem switchOff_frame (l : List Rail) (s : State) : ∃ rail,
    l.foldl (fun s r => if r.val = 0 then s else switchRailOff s r) s = { s with rails := { s.rails with rail := rail } } := by
  refine foldl_frame (get := fun s => s.rails.rail) (put := fun s v => { s with rails := { s.rails with rail := v } }) (fun s r => ?_)
    (fun _ => rfl) (fun _ _ _ => rfl) l s
  dsimp only
  split <;> exact ⟨_, rfl⟩

/-- A rail that is off stays off while others are switched off. -/
theorem switchRailOff_en (s : State) (k : Rail) {r : Rail} (h : r = k ∨ s.rails.rail[r].en = false) :
    (switchRailOff s k).rails.rail[r].en = false := by
  by_cases hk : r = k
  · subst hk
    exact congrArg RailState.en (getElem_vecMod_same _ _ _)
  · exact (congrArg RailState.en (getElem_vecMod_ne _ _ hk)).trans (h.resolve_left hk)

/-- Rails of a list that are switched off one after the other. -/
theorem switchOff_en (l : List Rail) (s : State) {r : Rail} (hr : r.val ≠ 0) (h : r ∈ l ∨ s.rails.rail[r].en = false) :
    (l.foldl (fun s r => if r.val = 0 then s else switchRailOff s r) s).rails.rail[r].en = false := by
  induction l generalizing s with
  | nil => exact h.resolve_left List.not_mem_nil
  | cons k l ih =>
    rw [List.foldl_cons]
    refine ih _ ?_
    by_cases hmem : r ∈ l
    · exact .inl hmem
    · have hhere : r = k ∨ s.rails.rail[r].en = false := h.imp_left fun h => (List.mem_cons.1 h).resolve_right hmem
      refine .inr ?_
      split
      · rename_i hk
        exact hhere.resolve_left fun e => hr (e ▸ hk)
      · exact switchRailOff_en s k hhere

theorem enterStandby_supplied {s : State} (k : StandbyKind) (h : (s.power.aux || s.power.inputOk) = true) :
    (enterStandby s k).power.state = .standby ∧ (enterStandby s k).button = { s.button with mrLatched := false } ∧
      (enterStandby s k).rails = s.rails ∧ (enterStandby s k).charger.holdEn = false := by
  unfold enterStandby
  dsimp only
  rw [if_pos (by exact h)]
  exact ⟨rfl, rfl, rfl, rfl⟩

/-- Every rail but the first switched off, with the interval of unavailability begun. -/
def allRailsOff (s : State) : State :=
  (fins 12).foldl (fun s r => if r.val = 0 then s else switchRailOff s r) (beginInterval s .excluded)

/-- The core without power after a hard off, with its cause. -/
def hardOffCaused (s : State) : State :=
  setCause { coreLost (allRailsOff s) with
    button := { (coreLost (allRailsOff s)).button with
      hardOff := some (1500, if saving s then s.save.phase else 0), action := .hardOff },
    rails := { (coreLost (allRailsOff s)).rails with
      downTodo := [], downThen := none, seqTodo := [], groupWait := [], restartWait := false, deferred := none } } 4 0

theorem hardOff_eq (s : State) : hardOff s = { enterStandby (hardOffCaused s) .byPress with
    charger := { (enterStandby (hardOffCaused s) .byPress).charger with run := .held } } := rfl

theorem hardOff_stands {s : State} (hin : s.power.inputOk = true) : (hardOff s).power.state = .standby ∧
    (hardOff s).button.action = .hardOff ∧ (hardOff s).button.cause = 4 ∧ (hardOff s).charger.holdEn = false ∧
    (∀ r : Rail, r.val ≠ 0 → (hardOff s).rails.rail[r].en = false) := by
  obtain ⟨faults, hinterval⟩ := beginInterval_frame s .excluded
  obtain ⟨rail, hoff⟩ := switchOff_frame (fins 12) (beginInterval s .excluded)
  obtain ⟨haux, hinput, hrails, hbutton⟩ := coreLost_stands (allRailsOff s)
  have hinput' : (allRailsOff s).power.inputOk = true := by
    unfold allRailsOff
    rw [hoff, hinterval]
    exact hin
  have hsupplied : ((hardOffCaused s).power.aux || (hardOffCaused s).power.inputOk) = true := by
    rw [show (hardOffCaused s).power.inputOk = (coreLost (allRailsOff s)).power.inputOk from rfl, hinput, hinput']
    exact Bool.or_true _
  obtain ⟨hstate, hpressed, hrail, hhold⟩ := enterStandby_supplied .byPress hsupplied
  rw [hardOff_eq]
  refine ⟨hstate, (congrArg Button.action hpressed :), (congrArg Button.cause hpressed :), hhold, fun r hr => ?_⟩
  have hen := switchOff_en (fins 12) (beginInterval s .excluded) hr (.inl (List.mem_finRange r))
  have hv : (hardOffCaused s).rails.rail = (allRailsOff s).rails.rail := (congrArg Rails.rail hrails :)
  rw [show (enterStandby (hardOffCaused s) .byPress).rails.rail = (allRailsOff s).rails.rail from
    (congrArg Rails.rail hrail).trans hv]
  exact hen

/-! ## A press in service (R297, R298) -/

theorem pbRow_service {s : State} (h : pbRow s = .service) : (s.power.state = .run ∨ s.power.state = .restore) ∧
    s.power.starting = false ∧ s.power.minimal = false := by
  unfold pbRow at h
  cases hstate : s.power.state <;> rw [hstate] at h <;> dsimp only at h
  case off | ship | save | crocus => cases h
  case standby => split at h <;> cases h
  all_goals
    split at h
    · cases h
    · rename_i hmin
      split at h
      · cases h
      · split at h
        · cases h
        · rename_i hstart
          rw [Bool.not_eq_true, Bool.or_eq_false_iff] at hstart
          exact ⟨by decide, hstart.1, Bool.eq_false_iff.2 hmin⟩

/-- A press is over, its duration kept. -/
def pressEnded (s : State) (duration : Nat) : State :=
  { s with button := { s.button with held := false, markDone := false, duration := min 65535 (duration / 10) } }

theorem exec_pbRelease {s : State} {duration : Nat} (hh : s.button.held = true) (hm : s.button.markDone = false)
    (hr : pbRow s = .service) : exec (.pbRelease duration) s = .next (pressService (pressEnded s duration) duration) := by
  have hrow : pbRow (pressEnded s duration) = .service := hr
  refine congrArg Host.Outcome.next ((if_neg ?_).trans ((if_neg ?_).trans ?_))
  · rw [hh]
    exact Bool.false_ne_true
  · rw [hm]
    exact Bool.false_ne_true
  · change pressReleased (pressEnded s duration) duration = _
    unfold pressReleased
    rw [hrow]

/-- A press held to 8 s in service starts a save. -/
theorem pressForced_service {s : State} (h : pbRow s = .service) (hl : s.security.lowering = false) :
    pressForced s = startSave (pbAct s .forcedOff) .forcedPress := by
  obtain ⟨hstate, hstart, hmin⟩ := pbRow_service h
  unfold pressForced
  rw [h]
  exact triggerSave_starts .forcedPress hstate hstart hmin hl

theorem exec_pbForcedMark {s : State} (hh : s.button.held = true) :
    exec .pbForcedMark s = .next (pressForced { s with button := { s.button with markDone := true } }) :=
  congrArg Host.Outcome.next (if_pos hh)

theorem pressForced_saves {s : State} (h : pbRow s = .service) (hl : s.security.lowering = false) :
    (pressForced s).power.state = .save ∧ (pressForced s).save.trigger = some .forcedPress ∧
      (pressForced s).button.action = .forcedOff ∧ (pressForced s).dram.mem = s.dram.mem := by
  obtain ⟨hsave, htrigger, _, _, hbutton, hmem⟩ := startSave_stands (pbAct s .forcedOff) .forcedPress
  rw [pressForced_service h hl]
  exact ⟨hsave, htrigger, (congrArg Button.action hbutton :), hmem⟩

theorem pressHard_service {s : State} (h : pbRow s = .service) : pressHard s = hardOff s := by
  unfold pressHard
  rw [h]

theorem pressForced_standby {s : State} (h : pbRow s = .standby) :
    pressForced { s with button := { s.button with markDone := true } } = pbLog { s with button := { s.button with markDone := true } } 8000 .logged := by
  unfold pressForced
  rw [show pbRow { s with button := { s.button with markDone := true } } = .standby from h]

theorem pbLog_marked (s : State) :
    pbLog { s with button := { s.button with markDone := true } } 8000 .logged = { s with
      recorder := (pbLog { s with button := { s.button with markDone := true } } 8000 .logged).recorder,
      button := { s.button with markDone := true, action := .logged } } := by
  unfold pbLog
  rw [logEvent_frame]
  rfl

theorem pressHard_standby {s : State} (h : pbRow s = .standby) :
    pressHard { s with button := { s.button with markDone := true } } = pbAct { s with button := { s.button with markDone := true } } .logged := by
  unfold pressHard
  rw [show pbRow { s with button := { s.button with markDone := true } } = .standby from h]

/-! ## MR_N (R296, R458) -/

theorem exec_mrN_save {s : State} (ha : s.power.aon = true) (hs : s.power.state = .save) :
    exec .mrN s = .next { s with button := { s.button with mrLow := true, mrLatched := true } } := by
  refine congrArg Host.Outcome.next ((if_neg ?_).trans (if_pos ?_))
  · rw [ha]
    exact Bool.false_ne_true
  · change ((s.power.state == .save) || _) = true
    rw [hs]
    rfl

theorem exec_mrN_run {s : State} (ha : s.power.aon = true) (hs : s.power.state = .run) (hl : s.security.lowering = false) :
    exec .mrN s = .next (manualReset { s with button := { s.button with mrLow := true } }) := by
  refine congrArg Host.Outcome.next ((if_neg ?_).trans ((if_neg ?_).trans (if_pos ?_)))
  · rw [ha]
    exact Bool.false_ne_true
  · change ¬ ((s.power.state == .save) || (s.security.lowering && decide (s.security.step ≥ 2))) = true
    rw [hs, hl, Bool.false_and]
    decide
  · change ((s.power.state == .run) || _ || _) = true
    rw [hs]
    rfl

/-- In RUN, no start-up in the way, the release of MR_N clears the buses and no more. -/
theorem exec_mrNRelease {s t : State} {localBus smbus : Option ClearOutcome} (hlow : s.button.mrLow = true)
    (hclear : clearSmbus (clearLocal { s with button := { s.button with mrLow := false } } localBus) smbus = t)
    (hrun : t.power.state = .run) : exec (.mrNRelease localBus smbus) s = .next t := by
  refine congrArg Host.Outcome.next ((if_pos hlow).trans ?_)
  dsimp only
  rw [hclear, hrun, decide_eq_false (by decide)]
  exact tryStart_of_run hrun

/-- A bus clear that leaves the local bus idle (R452, R453, R458). -/
theorem clearLocal_idle {s : State} (h : s.lb.state = .inService) : clearLocal s (some .idle) = { s with
    lb := { s.lb with clear := satAdd 8 s.lb.clear 1, pointers := [], chargerSet := false } } := by
  unfold clearLocal
  dsimp only
  split
  · rename_i hstuck
    exact absurd (h.symm.trans hstuck) (by decide)
  · rfl
  · rename_i hc _
    cases hc
  · rename_i hc _
    cases hc

theorem clearSmbus_idle {s : State} (h : s.smb.stuck = false) : clearSmbus s (some .idle) = { s with
    smb := { s.smb with clear := satAdd 8 s.smb.clear 1 } } :=
  if_neg (by rw [Bool.not_eq_true]; exact h)

/-- A bus clear that finds the SMBus held, at a release of MR_N in RUN. -/
theorem mrNRelease_stuck {s : State} (scl : Bool) (hlow : s.button.mrLow = true) (hr : s.power.state = .run)
    (hs : s.smb.stuck = false) : ∃ t, exec (.mrNRelease none (some (.stuck scl))) s = .next t ∧ t.smb.stuck = true ∧
      t.button.mrLow = false := by
  have key (u : State) (hu : u.power.state = .run) (hus : u.smb.stuck = false) (hb : u.button.mrLow = false) :
      (clearSmbus u (some (.stuck scl))).power.state = .run ∧ (clearSmbus u (some (.stuck scl))).smb.stuck = true ∧
        (clearSmbus u (some (.stuck scl))).button.mrLow = false := by
    have hstuck := clearSmbus_stuck scl hus
    obtain ⟨smb, out, notices, recorder, hclear⟩ := clearSmbus_frame u (some (.stuck scl))
    refine ⟨?_, hstuck, ?_⟩
    · rw [hclear]
      exact hu
    · rw [hclear]
      exact hb
  obtain ⟨hrun, hstuck, hbutton⟩ := key { s with button := { s.button with mrLow := false } } hr hs rfl
  exact ⟨_, exec_mrNRelease hlow rfl hrun, hstuck, hbutton⟩

/-- Settles O37: MR_N by `manualReset_stands`, the button by `startSave_stands` and `hardOff_stands`. -/
theorem resetAndButtonAct : Obligations.ResetAndButtonAct := by
  refine ⟨fun s ha => ⟨exec_mrN_save ha, fun hr hst hl hbuf => ⟨_, exec_mrN_run ha hr hl,
      manualReset_stands (s := { s with button := { s.button with mrLow := true } }) hst hbuf⟩,
    fun hr hst hlow => ⟨exec_mrNRelease hlow rfl hr, fun hlb hsmb => ⟨exec_mrNRelease hlow ?_ hr,
      fun scl => mrNRelease_stuck scl hlow hr hsmb⟩⟩⟩,
    fun s hrow => congrArg Host.Outcome.next (if_neg hrow),
    fun s duration hh hm hrow => ⟨fun hd => ⟨_, (exec_pbRelease hh hm hrow).trans (congrArg Host.Outcome.next (if_pos hd)), ?_⟩,
      fun hlo hhi => ⟨_, (exec_pbRelease hh hm hrow).trans (congrArg Host.Outcome.next
        ((if_neg (by omega)).trans ((if_neg (by omega)).trans (if_pos hhi)))), ?_⟩⟩,
    fun s hh hrow hl => ⟨?_, fun hin => ⟨_, congrArg Host.Outcome.next ((if_pos hh).trans (pressHard_service hrow)),
      hardOff_stands (s := { s with button := { s.button with markDone := true } }) hin⟩⟩,
    fun s hh hrow => ⟨?_, ?_⟩⟩
  · rw [clearLocal_idle (s := { s with button := { s.button with mrLow := false } }) hlb]
    exact clearSmbus_idle hsmb
  · unfold pbNotice
    rw [raise_frame]
    rfl
  · unfold pbLog
    rw [logEvent_frame]
    rfl
  · exact ⟨_, exec_pbForcedMark hh, pressForced_saves (s := { s with button := { s.button with markDone := true } }) hrow hl⟩
  · exact ⟨_, (exec_pbForcedMark hh).trans (congrArg Host.Outcome.next (pressForced_standby hrow)), pbLog_marked s⟩
  · exact congrArg Host.Outcome.next ((if_pos hh).trans (pressHard_standby hrow))

end Sys2Proof.Machine
end

section
/-! The Sheet image comes into force (O38). -/

namespace Sys2Proof.Machine

open Sys2Proof

/-! ## The minimal profile (R319) -/

theorem memoryRailsDown_frame (s : State) : ∃ rail, memoryRailsDown s = { s with rails := { s.rails with rail := rail } } :=
  foldl_frame (get := fun s => s.rails.rail) (put := fun s v => { s with rails := { s.rails with rail := v } }) (f := switchRailOff)
    (fun _ _ => ⟨_, rfl⟩) (fun _ => rfl) (fun _ _ _ => rfl) _ s

theorem enterMinimal_stands (s : State) (cause : Nat) :
    (enterMinimal s cause).power.minimal = true ∧ (enterMinimal s cause).power.state = .run ∧
      (enterMinimal s cause).startup.minCause = cause ∧ (enterMinimal s cause).startup.settings = none ∧
      (enterMinimal s cause).startup.sheetResult = s.startup.sheetResult ∧ (enterMinimal s cause).dram.mem = [] := by
  obtain ⟨rail, hdown⟩ := memoryRailsDown_frame (dramGone s)
  have key (u : State) : (beginSequence (debugReturns u) smallRails .main).power = u.power ∧
      (beginSequence (debugReturns u) smallRails .main).startup = u.startup ∧
      (beginSequence (debugReturns u) smallRails .main).dram = u.dram := by
    obtain ⟨rail, h⟩ := beginSequence_eq (debugReturns u) smallRails .main
    rw [h]
    exact ⟨rfl, rfl, rfl⟩
  unfold enterMinimal
  dsimp only
  rw [hdown, (key _).1, (key _).2.1, (key _).2.2]
  exact ⟨rfl, rfl, rfl, rfl, rfl, rfl⟩

/-- An image that could not be read brings the minimal profile up (R311). -/
theorem finishSheet_unreadable {s : State} (fuse80 : Bool) (hret : s.startup.retained = false) :
    let t := finishSheet s (readSheet none fuse80)
    t.power.minimal = true ∧ t.power.state = .run ∧ t.startup.minCause = 1 ∧ t.startup.settings = none ∧ t.startup.sheetResult = 2 ∧
      t.dram.mem = [] := by
  have hfin : finishSheet s (readSheet none fuse80) =
      enterMinimal (sheetInvalid (sheetRegs s (readSheet none fuse80) 2) 2 ⟨1, 0, 0⟩ 0) 1 := by
    unfold finishSheet
    rw [hret, if_neg Bool.false_ne_true]
    rfl
  obtain ⟨hmin, hstate, hcause, hset, hresult, hmem⟩ := enterMinimal_stands (sheetInvalid (sheetRegs s (readSheet none fuse80) 2) 2 ⟨1, 0, 0⟩ 0) 1
  dsimp only
  rw [hfin]
  refine ⟨hmin, hstate, hcause, hset, hresult.trans ?_, hmem⟩
  unfold sheetInvalid
  rw [raise_frame]
  rfl

/-! ## An image that checks (R312) -/

/-- Step 4 with a main rail still to come up. -/
theorem step4_eq {s : State} (h : ∃ r ∈ mainRails, s.rails.rail[r].run ≠ .qualified) : ∃ rails, step4 s = { s with
    startup := { s.startup with step := 3 }, rails := rails } ∧ rails.seqFor = .main := by
  obtain ⟨rail, hseq⟩ := beginSequence_eq { s with startup := { s.startup with step := 3 } } mainRails .main
  obtain ⟨r, hr, hrun⟩ := h
  have hne : (mainRails.filter fun r => s.rails.rail[r].run != .qualified).isEmpty = false :=
    List.isEmpty_eq_false_iff_exists_mem.2 ⟨r, List.mem_filter.2 ⟨hr, bne_iff_ne.2 hrun⟩⟩
  unfold step4
  dsimp only
  rw [hseq]
  exact ⟨_, if_neg (by dsimp only; rw [hne]; exact Bool.false_ne_true), rfl⟩

/-- What an accepted image reports: a data rate above the suffix, and sections that were skipped. -/
def imageReported (s : State) (r : SheetRead) : State :=
  if r.skipped.isEmpty then logRate s r else raise (logRate s r) 0x0906 r.skipped

theorem imageReported_frame (s : State) (r : SheetRead) : imageReported s r = withNotes s (imageReported s r) := by
  have hlog : logRate s r = withNotes s (logRate s r) := by
    refine withNotes_ite ?_ rfl
    rw [logEvent_frame]
    rfl
  exact withNotes_ite hlog (withNotes_trans hlog (raise_frame _ _ _))

/-- The state in which a new image has come into force. -/
def sheetAccepted (s : State) (r : SheetRead) (c : Settings) : State := imageReported (acceptSettings (sheetRegs s r 1) c r) r

theorem finishSheet_accepts {s : State} {r : SheetRead} {c : Settings} (hret : s.startup.retained = false) (hfail : r.fail = none)
    (hset : r.settings = some c) : finishSheet s r = step4 (sheetAccepted s r c) := by
  unfold finishSheet
  rw [hret, if_neg Bool.false_ne_true, hfail, hset]
  rfl

theorem defaultNefc_frame (s : State) (c : Settings) : ∃ pack, defaultNefc s c = { s with pack := pack } := by
  unfold defaultNefc
  split <;> exact ⟨_, rfl⟩

theorem acceptSettings_rails (s : State) (c : Settings) (r : SheetRead) : (acceptSettings s c r).rails = (railsSettings s c).rails := by
  obtain ⟨pack, h⟩ := defaultNefc_frame (railsSettings s c) c
  have hsites (u : State) : (mapSites u c.singleMode c.sensors).rails = u.rails := rfl
  change (mapSites (defaultNefc (railsSettings s c) c) c.singleMode c.sensors).rails = _
  rw [hsites, h]

theorem acceptSettings_run (s : State) (c : Settings) (r : SheetRead) (k : Rail) :
    (acceptSettings s c r).rails.rail[k].run = s.rails.rail[k].run := by
  rw [acceptSettings_rails]
  unfold railsSettings
  dsimp only
  rw [getElem_vecMap, apply_ite RailState.run, ite_self]

theorem acceptSettings_stands (s : State) (c : Settings) (r : SheetRead) : (acceptSettings s c r).startup.settings = some c ∧
    (acceptSettings s c r).startup.sheetResult = s.startup.sheetResult ∧ (acceptSettings s c r).startup.sheetCrc = r.crc ∧
    (acceptSettings s c r).dram.mem = s.dram.mem := by
  unfold acceptSettings defaultNefc
  dsimp only
  split <;> exact ⟨rfl, rfl, rfl, rfl⟩

theorem sheetAccepted_stands (s : State) (r : SheetRead) (c : Settings) : (sheetAccepted s r c).startup.settings = some c ∧
    (sheetAccepted s r c).startup.sheetResult = 1 ∧ (sheetAccepted s r c).startup.sheetCrc = r.crc ∧
    (sheetAccepted s r c).dram.mem = s.dram.mem ∧ (∀ k : Rail, (sheetAccepted s r c).rails.rail[k].run = s.rails.rail[k].run) := by
  obtain ⟨hset, hresult, hcrc, hmem⟩ := acceptSettings_stands (sheetRegs s r 1) c r
  have hrun := acceptSettings_run (sheetRegs s r 1) c r
  unfold sheetAccepted
  rw [imageReported_frame]
  exact ⟨hset, hresult, hcrc, hmem, hrun⟩

/-- A bus clear that finds the local bus in order leaves all but the bus (R458). -/
theorem clearLocal_quiet {s : State} {cleared : Option ClearOutcome} (hcl : cleared = none ∨ cleared = some .idle)
    (hlb : s.lb.state ≠ .stuck) : ∃ lb, clearLocal s cleared = { s with lb := lb } ∧ lb.state ≠ .stuck := by
  obtain rfl | rfl := hcl
  · exact ⟨s.lb, rfl, hlb⟩
  · unfold clearLocal
    dsimp only
    split
    · rename_i h
      exact absurd h hlb
    · exact ⟨_, rfl, hlb⟩
    · rename_i h _
      cases h
    · rename_i h _
      cases h

/-! ## Settled -/

/-- Settles O38: an unreadable image by `finishSheet_unreadable`, one that checks by `sheetAccepted_stands` and `step4_eq`. -/
theorem sheetComesIntoForce : Obligations.SheetComesIntoForce := by
  refine ⟨fun s address hread hfew => congrArg Host.Outcome.next ((if_pos hread).trans (if_neg (by omega))),
    fun s address hread hret => ⟨⟨_, ?_, finishSheet_unreadable s.startup.fuse80 hret⟩,
      fun hmany => ⟨_, congrArg Host.Outcome.next ((if_pos hread).trans (if_pos hmany)), finishSheet_unreadable s.startup.fuse80 hret⟩⟩,
    fun s image c cleared hcl hread hret hlb hfail hset hrail => ?_,
    fun s link hoffers hup => congrArg Host.Outcome.next (if_pos ?_),
    fun s since hsince => ⟨fun hnot => congrArg Host.Outcome.next (if_neg ?_), fun hdue => congrArg Host.Outcome.next (if_pos ?_)⟩⟩
  · have hstuck : (if s.lb.state = .stuck then none else (none : Option (List Byte))) = none := by split <;> rfl
    refine congrArg Host.Outcome.next ((if_pos hread).trans ((if_pos hread).trans ?_))
    change finishSheet s (readSheet (if s.lb.state = .stuck then none else none) s.startup.fuse80) = _
    rw [hstuck]
  · obtain ⟨lb, hclear, hstate⟩ := clearLocal_quiet hcl hlb
    have hexec : exec (.sheetImageRead (some image) cleared) s =
        .next (finishSheet { s with lb := lb } (readSheet (some image) s.startup.fuse80)) := by
      refine congrArg Host.Outcome.next ((if_pos hread).trans ?_)
      dsimp only
      rw [hclear]
      exact (if_pos hread).trans (congrArg (fun i => finishSheet { s with lb := lb } (readSheet i s.startup.fuse80)) (if_neg hstate))
    obtain ⟨hset', hresult, hcrc, hmem, hrun⟩ := sheetAccepted_stands { s with lb := lb } (readSheet (some image) s.startup.fuse80) c
    have hrail' : ∃ r ∈ mainRails,
        (sheetAccepted { s with lb := lb } (readSheet (some image) s.startup.fuse80) c).rails.rail[r].run ≠ .qualified := by
      obtain ⟨r, hr, hne⟩ := hrail
      exact ⟨r, hr, by rw [hrun]; exact hne⟩
    obtain ⟨rails, hstep, hfor⟩ := step4_eq hrail'
    refine ⟨_, hexec, ?_⟩
    rw [finishSheet_accepts (s := { s with lb := lb }) hret hfail hset, hstep]
    exact ⟨hset', hresult, hcrc, rfl, hfor, hmem⟩
  · rw [hoffers, hup]
    rfl
  · rw [hsince]
    exact fun h => absurd (of_decide_eq_true h) (by omega)
  · rw [hsince]
    exact decide_eq_true (by omega)

end Sys2Proof.Machine
end

section
/-! The persistence loop (O39). -/

namespace Sys2Proof.Machine

open Sys2Proof

/-! ## The update of every 100 ms (R44, R47, R51) -/

/-- The accounts of the update before the ceiling is computed: windows turned, HEAT and the wear credit gained. -/
def loopGained (s : State) (c : Settings) : State := gainWear (addHeat (turnWindows s)) c

theorem loopGained_frame (s : State) (c : Settings) : loopGained s c = { s with persist := (loopGained s c).persist } := rfl

/-- A computation that is published: the ceiling as computed, the accounts as they were. -/
theorem publish_persist (s : State) (c : Settings) (k : Ceiling) : (publish s c k).persist = { s.persist with
    ceiling := k, plan := computePlan s c k, holdRate := holdingRate s k, cls := flushClass s c k, lastLimit := k.limit } := by
  unfold publish limitNotice
  dsimp only
  split
  · rw [raise_persist]
  · rfl

/-- The steps of the CEIL and WEAR causes change their levels and their time, and send a notice. -/
def causesStepped (s : State) (c : Settings) : State :=
  if due s s.thermal.loopAt 100 then stepWear (stepCeil { s with thermal := { s.thermal with loopAt := s.clock.now } } c) c else s

theorem causesStepped_frame (s : State) (c : Settings) : causesStepped s c = { withNotes s (causesStepped s c) with
    thermal := { s.thermal with
      reef := { s.thermal.reef with ceil := (causesStepped s c).thermal.reef.ceil, wear := (causesStepped s c).thermal.reef.wear },
      loopAt := (causesStepped s c).thermal.loopAt } } := by
  unfold causesStepped
  split
  · unfold stepWear
    dsimp only
    split
    · rw [raise_frame]
      rfl
    · rfl
  · rfl

theorem loopUpdate_eq (s : State) (c : Settings) : loopUpdate s c = evalPsub (causesStepped (updateCeiling (loopGained s c)) c) := rfl

theorem bankQualify_run (s : State) : bankQualify s = { s with bank := { s.bank with run := (bankQualify s).bank.run } } := by
  unfold bankQualify
  split
  · rfl
  · split
    · split <;> rfl
    · rfl

/-- The ceiling that an update computes. -/
def ceilingAt (s : State) (c : Settings) : Ceiling := computeCeiling (bankQualify (loopGained s c)) c

theorem ceilingAt_stands (s : State) (c : Settings) : (ceilingAt s c).updateSeq = (s.persist.ceiling.updateSeq + 1) % 256 ∧
    (ceilingAt s c).cE = ratMax (ceilingAt s c).cPack (ceilingAt s c).cBp ∧ (c.capMib ≠ 0 → (ceilingAt s c).c ≤ capBytes c) ∧
    (ceilingAt s c).uncov = decide ((ceilingAt s c).cE < (dirtyBytes s : Rat)) := by
  have hdirty : dirtyBytes (bankQualify (loopGained s c)) = dirtyBytes s := by
    rw [bankQualify_run]
    rfl
  refine ⟨?_, rfl, fun hcap => ?_, congrArg (fun n : Nat => decide ((ceilingAt s c).cE < (n : Rat))) hdirty⟩
  · change ((bankQualify (loopGained s c)).persist.ceiling.updateSeq + 1) % 256 = _
    rw [bankQualify_run]
    rfl
  · have hmin (a b : Rat) : ratMin a b ≤ b ∧ ratMin a b ≤ a := by
      unfold ratMin
      split
      · rename_i h
        exact ⟨le_of_lt h, le_refl a⟩
      · rename_i h
        exact ⟨le_refl b, not_lt.1 h⟩
    change ceilingOf _ c _ ≤ _
    unfold ceilingOf
    rw [if_neg hcap]
    dsimp only
    split
    · exact (hmin _ _).2.trans (hmin _ _).1
    · exact (hmin _ _).1

/-- What the update publishes (R47). -/
theorem updateCeiling_gained {s : State} {c : Settings} (hc : s.startup.settings = some c) :
    updateCeiling (loopGained s c) = publish (bankQualify (loopGained s c)) c (ceilingAt s c) := by
  unfold updateCeiling
  rw [show (loopGained s c).startup.settings = some c from hc]
  rfl

/-- The accounts after an update (R41, R44, R51). -/
theorem loopUpdate_persist {s : State} {c : Settings} (hc : s.startup.settings = some c) : ∃ plan hold cls psub n lost,
    (loopUpdate s c).persist = { (loopGained s c).persist with
      ceiling := ceilingAt s c, plan := plan, holdRate := hold, cls := cls, lastLimit := (ceilingAt s c).limit, psub := psub, nLost := n,
      lostSeen := lost } := by
  have hpub := publish_persist (bankQualify (loopGained s c)) c (ceilingAt s c)
  rw [show (bankQualify (loopGained s c)).persist = (loopGained s c).persist by rw [bankQualify_run]] at hpub
  rw [loopUpdate_eq, evalPsub_frame, causesStepped_frame, updateCeiling_gained hc]
  dsimp only [withNotes]
  rw [hpub]
  exact ⟨_, _, _, _, _, _, rfl⟩

/-- What an update may change: notices, the loop's own accounts, the bank's qualification and the causes of reefing. -/
def LoopWork (s t : State) : Prop := ∃ notices recorder alert persist run ceil wear loopAt, t = { s with
  notices := notices, recorder := recorder, smb := { s.smb with alert := alert }, persist := persist, bank := { s.bank with run := run },
  thermal := { s.thermal with reef := { s.thermal.reef with ceil := ceil, wear := wear }, loopAt := loopAt } }

namespace LoopWork

theorem trans {s t u : State} (h : LoopWork s t) (k : LoopWork t u) : LoopWork s u := by
  obtain ⟨_, _, _, _, _, _, _, _, rfl⟩ := h
  obtain ⟨_, _, _, _, _, _, _, _, rfl⟩ := k
  exact ⟨_, _, _, _, _, _, _, _, rfl⟩

theorem publish (s : State) (c : Settings) (k : Ceiling) : LoopWork s (publish s c k) := by
  rw [publish_frame]
  exact ⟨_, _, _, _, _, _, _, _, rfl⟩

theorem bankQualify (s : State) : LoopWork s (bankQualify s) := by
  rw [bankQualify_run]
  exact ⟨_, _, _, _, _, _, _, _, rfl⟩

theorem causesStepped (s : State) (c : Settings) : LoopWork s (causesStepped s c) := by
  rw [causesStepped_frame]
  exact ⟨_, _, _, _, _, _, _, _, rfl⟩

theorem evalPsub (s : State) : LoopWork s (evalPsub s) := by
  rw [evalPsub_frame]
  exact ⟨_, _, _, _, _, _, _, _, rfl⟩

theorem frame {s t : State} (h : LoopWork s t) : t = { withNotes s t with
    persist := t.persist, bank := { s.bank with run := t.bank.run },
    thermal := { s.thermal with
      reef := { s.thermal.reef with ceil := t.thermal.reef.ceil, wear := t.thermal.reef.wear }, loopAt := t.thermal.loopAt } } := by
  obtain ⟨_, _, _, _, _, _, _, _, rfl⟩ := h
  rfl

end LoopWork

theorem loopUpdate_work {s : State} {c : Settings} (hc : s.startup.settings = some c) : LoopWork s (loopUpdate s c) := by
  have hgain : LoopWork s (loopGained s c) := ⟨_, _, _, _, _, _, _, _, rfl⟩
  rw [loopUpdate_eq, updateCeiling_gained hc]
  exact (((hgain.trans (.bankQualify _)).trans (.publish _ c _)).trans (.causesStepped _ c)).trans (.evalPsub _)

theorem gainWear_eq (s : State) (c : Settings) : (gainWear s c).persist.wear =
    min (s.persist.wear + ((c.wearRate * 100000 : Nat) : Int)) ((c.wearRate * 86400000000 : Nat) : Int) := by
  have hgain : wearRateBytes c / 10 = c.wearRate * 100000 := by
    unfold wearRateBytes
    omega
  have hcap : wearCapacity c = ((c.wearRate * 86400000000 : Nat) : Int) := by
    unfold wearCapacity wearRateBytes
    omega
  unfold gainWear
  dsimp only
  rw [hgain, hcap]
  split <;> omega

theorem kvGetD_kvSet_same {α : Type} (m : List (Nat × α)) (x : Nat) (v d : α) : kvGetD (kvSet m x v) x d = v := by
  unfold kvGetD
  rw [kvGet_kvSet_same]
  rfl

theorem loopGained_heat {s : State} (c : Settings) {r n : Nat} (h : s.persist.newDirty = [(r, n)]) :
    kvGetD (loopGained s c).persist.heat r 0 = min 255 (kvGetD s.persist.heat r 0 + n) := by
  have hheat : (loopGained s c).persist.heat = kvSet s.persist.heat r (min 255 (kvGetD s.persist.heat r 0 + n)) := by
    change (s.persist.newDirty.foldl (fun h p => kvSet h p.1 (min 255 (kvGetD h p.1 0 + p.2))) s.persist.heat) = _
    rw [h]
    rfl
  rw [hheat, kvGetD_kvSet_same]

/-! ## HEAT halves (R41) -/

theorem kvGetD_cons (k v : Nat) (m : List (Nat × Nat)) (r : Nat) :
    kvGetD ((k, v) :: m) r 0 = if r = k then v else kvGetD m r 0 := by
  unfold kvGetD
  rw [kvGet]
  split <;> rfl

theorem kvGetD_mem (m : List (Nat × Nat)) (r : Nat) : kvGetD m r 0 = 0 ∨ (r, kvGetD m r 0) ∈ m := by
  induction m with
  | nil => exact .inl rfl
  | cons p m ih =>
    obtain ⟨k, v⟩ := p
    rw [kvGetD_cons]
    split
    · rename_i h
      exact .inr (h ▸ List.mem_cons_self)
    · exact ih.imp_right (List.mem_cons_of_mem _)

/-- Halving the values of a map whose keys do not repeat. -/
theorem kvGetD_halved {m : List (Nat × Nat)} (hm : ∀ p ∈ m, ∀ q ∈ m, p.1 = q.1 → p = q) (r : Nat) :
    kvGetD ((m.map fun p => (p.1, p.2 / 2)).filter fun p => p.2 != 0) r 0 = kvGetD m r 0 / 2 := by
  induction m with
  | nil => exact (Nat.zero_div 2).symm
  | cons p m ih =>
    obtain ⟨k, v⟩ := p
    have htail := ih fun p hp q hq => hm p (List.mem_cons_of_mem _ hp) q (List.mem_cons_of_mem _ hq)
    rw [List.map_cons, List.filter_cons, kvGetD_cons]
    by_cases hk : r = k
    · subst hk
      rw [if_pos rfl]
      split
      · rw [kvGetD_cons, if_pos rfl]
      · rename_i hv
        have hzero : v / 2 = 0 := by simpa using hv
        rw [htail]
        obtain h | h := kvGetD_mem m r
        · rw [h, hzero]
        · have heq := hm _ List.mem_cons_self _ (List.mem_cons_of_mem _ h) rfl
          rw [← (Prod.mk.inj heq).2]
    · rw [if_neg hk]
      split
      · rw [kvGetD_cons, if_neg hk, htail]
      · exact htail

/-! ## A flush is issued (R18, R43) -/

/-- A band with room for a granule's rows is open, where one can be. -/
def roomMade (s : State) (c : Settings) : State :=
  match openBand s with
  | some b => if b.nextRow + halves c ≤ 512 then s else openNewBand (closeBand s b.num) c
  | none => openNewBand s c

/-- The next rows of the open band are opened. -/
def rowsAdded (s : State) (c : Settings) : State :=
  match openBand s with
  | none => s
  | some b =>
    if b.nextRow + halves c ≤ 512 then
      let rows : List OpenRow := (List.range (halves c)).map fun i => ⟨b.num, b.nextRow + i, [], s.clock.now⟩
      setBand { s with flash := { s.flash with openRows := s.flash.openRows ++ rows } } b.num
        fun x => { x with nextRow := b.nextRow + halves c }
    else s

theorem openRows_eq (s : State) (c : Settings) : openRows s c = rowsAdded (roomMade s c) c := rfl

/-- Rows and programs: page groups stand but for the start of their programs, and so do the loop's accounts. -/
structure Placed (s t : State) : Prop where
  persist : t.persist = s.persist
  pages : PagesStand s t

namespace Placed

theorem refl (s : State) : Placed s s := ⟨rfl, .of_subset fun _ h => h⟩

theorem trans {s t u : State} (h : Placed s t) (k : Placed t u) : Placed s u := ⟨k.persist.trans h.persist, h.pages.trans k.pages⟩

theorem foldl {α : Type} {f : State → α → State} (hf : ∀ s x, Placed s (f s x)) (l : List α) (s : State) : Placed s (l.foldl f s) := by
  induction l generalizing s with
  | nil => exact refl s
  | cons x l ih => exact (hf s x).trans (ih (f s x))

theorem issueWaiting (s : State) : Placed s (issueWaiting s) := by
  refine ⟨?_, .issueWaiting s⟩
  obtain ⟨ps, h⟩ := issueWaiting_cases s
  rw [h]
  rfl

theorem programPage (s : State) (c : Settings) (p : PageGroup) : Placed s (programPage s c p) := by
  refine ⟨?_, .programPage s c p⟩
  unfold Machine.programPage
  split
  · rw [logEvent_persist]
  · rfl

theorem closeOne (s : State) (c : Settings) (band row : Nat) : Placed s (closeOne s c band row) := by
  refine ⟨?_, .closeOne s c band row⟩
  unfold Machine.closeOne
  split
  · rfl
  · split
    · split
      · exact (programPage { s with flash := { s.flash with nextSeq := s.flash.nextSeq + 1 } } c _).persist
      · rfl
    · rfl

theorem closeBand (s : State) (n : Nat) : Placed s (closeBand s n) := by
  have hclose (c : Settings) := foldl (f := fun s (r : OpenRow) => Machine.closeOne s c n r.row) (fun s r => closeOne s c n r.row)
    (s.flash.openRows.filter fun r => r.band == n) s
  unfold Machine.closeBand
  split
  · exact ⟨rfl, fun p hp => ⟨p.issuedAt, hp⟩⟩
  · rename_i c _
    have hclosed (bs : List BlockSet) : Placed s (setBand { (s.flash.openRows.filter fun r => r.band == n).foldl (fun s r => Machine.closeOne s c n r.row) s with
        flash := { ((s.flash.openRows.filter fun r => r.band == n).foldl (fun s r => Machine.closeOne s c n r.row) s).flash with blocks := bs } } n
          fun b => { b with closed := true }) := ⟨(hclose c).persist, (hclose c).pages⟩
    exact (hclosed _).trans (issueWaiting _)

theorem openNewBand (s : State) (c : Settings) : Placed s (openNewBand s c) := by
  unfold Machine.openNewBand
  split
  · exact refl s
  · dsimp only
    split
    · exact refl s
    · exact ⟨rfl, fun p hp => ⟨p.issuedAt, hp⟩⟩

theorem roomMade (s : State) (c : Settings) : Placed s (roomMade s c) := by
  unfold Machine.roomMade
  split
  · split
    · exact refl s
    · exact (closeBand s _).trans (openNewBand _ c)
  · exact openNewBand s c

theorem openRows (s : State) (c : Settings) : Placed s (openRows s c) := by
  have hadd (u : State) : Placed u (rowsAdded u c) := by
    unfold rowsAdded
    split
    · exact refl u
    · split
      · exact ⟨rfl, fun p hp => ⟨p.issuedAt, hp⟩⟩
      · exact refl u
  rw [openRows_eq]
  exact (roomMade s c).trans (hadd _)

theorem ensureRows (s : State) (c : Settings) : Placed s (ensureRows s c) := by
  unfold Machine.ensureRows
  split
  · split
    · exact refl s
    · exact openRows s c
  · exact openRows s c

/-- Page groups of one write are placed: they stand among the others. -/
theorem placeOn {s u : State} {c : Settings} {ch : FlashCh} {kind : PageKind} {idx : Nat} {keyId : Word} {parts : List (List Host.Cell)}
    {head : Option (Nat × DWord)} {seqs : List Nat} {rows : List (Nat × Nat)}
    (hp : placeOn s c ch kind idx keyId parts head = some (u, seqs, rows)) : Placed s u := by
  unfold Machine.placeOn at hp
  split at hp
  · cases hp
  · split at hp
    · cases hp
    · cases hp
      have hnumber (n : Nat) : Placed s { s with flash := { s.flash with nextSeq := n } } := ⟨rfl, fun p hp => ⟨p.issuedAt, hp⟩⟩
      exact ((hnumber _).trans (foldl (fun s p => programPage s c p) _ _)).trans (issueWaiting _)

end Placed

/-- One page group of a granule is placed on the channel. -/
theorem placeOn_page {s u : State} {c : Settings} {ch : FlashCh} {kind : PageKind} {idx : Nat} {keyId : Word} {cells : List Host.Cell}
    {seqs : List Nat} {rows : List (Nat × Nat)} (hp : placeOn s c ch kind idx keyId [cells] none = some (u, seqs, rows)) :
    ∀ q ∈ seqs, ∃ p ∈ u.flash.pages, p.seq = q ∧ p.kind = kind ∧ p.index = idx ∧ p.ch = ch ∧ p.passed = false := by
  unfold placeOn at hp
  split at hp
  · cases hp
  · rename_i b hb
    split at hp
    · cases hp
    · rename_i rs hf
      obtain ⟨r, rfl, htakes, _⟩ := ensureRows_of_freeRows hb hf
      have hnext : nextPage s ch (bandDie c b.num) (bandSet c b.num) r.row = true := by
        unfold rowTakes memberTakes at htakes
        simp only [Bool.and_eq_true] at htakes
        exact htakes.2.2
      cases hp
      intro q hq
      obtain ⟨a, ha⟩ := PagesStand.issueWaiting (programPage { s with flash := { s.flash with nextSeq := s.flash.nextSeq + 1 } } c
        { band := b.num, row := r.row, ch := ch, kind := kind, half := 0, seq := s.flash.nextSeq, index := idx, gen := openGen s,
          keyId := keyId, cells := cells, issuedAt := none, passed := false, covers := [] })
        { band := b.num, row := r.row, ch := ch, kind := kind, half := 0, seq := s.flash.nextSeq, index := idx, gen := openGen s,
          keyId := keyId, cells := cells, issuedAt := none, passed := false, covers := [] } (by
        unfold programPage
        dsimp only
        rw [show nextPage { s with flash := { s.flash with nextSeq := s.flash.nextSeq + 1 } } ch (bandDie c b.num) (bandSet c b.num) r.row = true
          from hnext, if_neg (by decide)]
        exact List.mem_append_right _ (List.mem_singleton.2 rfl))
      exact ⟨_, ha, (List.mem_singleton.1 hq).symm, rfl, rfl, rfl, rfl⟩

/-- What a flush reads: accesses to DRAM alone (Table 01-6). -/
theorem flushAccess_frame (s : State) (g : Nat) : ∃ idle acc, flushAccess s g = { s with
    power := { s.power with idle := idle }, dram := { s.dram with acc := acc } } := ⟨_, _, rfl⟩

theorem halves_one {c : Settings} {s : State} {g : Nat} (h : halves c = 1) : ∃ cells, granuleParts s c g = [cells] := by
  unfold granuleParts
  rw [h]
  exact ⟨_, rfl⟩

theorem exec_flushIssue {w read u : State} {c : Settings} {ch : FlashCh} {g : Nat} {b : Band} {seqs : List Nat} {rows : List (Nat × Nat)}
    {errs : List (Nat × EccOutcome)} (hc : w.startup.settings = some c) (hsv : saving w = false) (hruns : flushRuns w c = true)
    (hclass : flushClass w c w.persist.ceiling ≠ .background ∨ restoreWaits w ch = false) (hpick : flushPick w = some g)
    (hband : openBand (rowsFor w c) = some b) (hmay : mayProgram (rowsFor w c) c ch (bandDie c b.num) = true)
    (hread : eccEffects (flushAccess (rowsFor w c) g) errs (fun l => lineGranule w l == g) = read)
    (hplace : placeOn read c ch .granule g (keyIdNow read) (granuleParts read c g) none = some (u, seqs, rows)) :
    flushOn w ch errs = putInFlight (chargeWear u (granuleBytes c)) c g seqs rows := by
  have hgo : (flushClass w c w.persist.ceiling != .background || !restoreWaits w ch) = true := by
    obtain h | h := hclass
    · rw [bne_iff_ne.2 h, Bool.true_or]
    · rw [h, Bool.not_false, Bool.or_true]
  unfold flushOn
  rw [hc]
  dsimp only
  rw [hsv, if_neg Bool.false_ne_true, hruns, hgo, hpick]
  unfold issueFlush
  dsimp only
  rw [hband]
  dsimp only
  rw [hmay, hread, hplace]
  rfl

/-- What is issued: the granule is in flight, and nothing but its page groups has come to the flash medium. -/
theorem flushIssue_stands {s u : State} {c : Settings} {ch : FlashCh} {g : Nat} {seqs : List Nat} {rows : List (Nat × Nat)} {keyId : Word}
    (hplace : placeOn (flushAccess (rowsFor (issueWaiting s) c) g) c ch .granule g keyId
      (granuleParts (flushAccess (rowsFor (issueWaiting s) c) g) c g) none = some (u, seqs, rows)) :
    let t := putInFlight (chargeWear u (granuleBytes c)) c g seqs rows
    (∃ f, t.persist.inflight = s.persist.inflight ++ [f] ∧ f.granule = g ∧ f.pages = seqs ∧ f.rows = rows ∧ f.rewritten = false) ∧
      t.persist.wear = s.persist.wear - (granuleBytes c : Int) ∧ t.persist.issued = s.persist.issued + granuleBytes c ∧
      (halves c = 1 → ∀ q ∈ seqs, ∃ p ∈ t.flash.pages, p.seq = q ∧ p.kind = .granule ∧ p.index = g ∧ p.ch = ch ∧ p.passed = false) ∧
      (∀ p ∈ s.flash.pages, ∃ a, { p with issuedAt := a } ∈ t.flash.pages) ∧ t.persist.dirty = s.persist.dirty ∧
      t.dram = { s.dram with acc := t.dram.acc } ∧ t.host = s.host := by
  have hrows := ((Placed.issueWaiting s).trans (.ensureRows _ c))
  have hread : Placed s (flushAccess (rowsFor (issueWaiting s) c) g) := ⟨hrows.persist, hrows.pages⟩
  have hplaced := hread.trans (.placeOn hplace)
  have hwork := FlashWork.ensureRows c (FlashWork.issueWaiting (.refl s))
  have hon := FlashWork.placeOn (.refl _) hplace
  have hdram : u.dram = { s.dram with acc := u.dram.acc } := by
    rw [hon.dram]
    obtain ⟨idle, acc, h⟩ := flushAccess_frame (rowsFor (issueWaiting s) c) g
    rw [h]
    exact congrArg (fun d : Dram => { d with acc := acc }) hwork.dram
  refine ⟨⟨{
      granule := g, pages := seqs, rows := rows, rewritten := false,
      image := if hvGranules (chargeWear u (granuleBytes c)) ≤ g then some (metaImage (chargeWear u (granuleBytes c))) else none },
      (congrArg (fun p : Persist => p.inflight ++ _) hplaced.persist :), rfl, rfl, rfl, rfl⟩,
    (congrArg (fun p : Persist => p.wear - (granuleBytes c : Int)) hplaced.persist :),
    (congrArg (fun p : Persist => p.issued + granuleBytes c) hplaced.persist :), fun hone => ?_, hplaced.pages,
    (congrArg Persist.dirty hplaced.persist :), hdram, hon.host.trans hwork.host⟩
  · obtain ⟨cells, hcells⟩ := halves_one (s := flushAccess (rowsFor (issueWaiting s) c) g) (g := g) hone
    rw [hcells] at hplace
    exact fun q hq => placeOn_page hplace q hq

/-- Settles O39: an update by `loopUpdate_persist` and `loopUpdate_frame`, a flush by `flushIssue_stands`. -/
theorem persistenceLoopKeepsItsAccounts : Obligations.PersistenceLoopKeepsItsAccounts := by
  refine ⟨fun s c hruns hc => ?_, fun s hruns => ⟨⟨_, congrArg Host.Outcome.next (if_pos hruns), rfl, fun hm r => kvGetD_halved hm r⟩,
      congrArg Host.Outcome.next (if_pos hruns)⟩,
    fun s w u c ch g b seqs rows errs hw hc hsv hfr hclass hpick hband hmay hplace => ⟨?_, fun herrs => ?_⟩⟩
  · obtain ⟨hseq, hcE, hcap, huncov⟩ := ceilingAt_stands s c
    obtain ⟨plan, hold, cls, psub, n, lost, hpersist⟩ := loopUpdate_persist hc
    refine ⟨loopUpdate s c, ?_, ?_⟩
    · change execCeilingUpdate s = _
      unfold execCeilingUpdate
      rw [hc]
      exact congrArg Host.Outcome.next (if_pos hruns)
    · refine ⟨?_, ?_, ?_, ?_, ?_, ?_, ?_, ?_, ?_, ?_, ?_, ?_, ?_, (loopUpdate_work hc).frame⟩
      all_goals rw [hpersist]
      · exact hseq
      · exact hcE
      · exact hcap
      · exact huncov
      · rfl
      · rfl
      · rfl
      · rfl
      · rfl
      · exact gainWear_eq (addHeat (turnWindows s)) c
      · exact fun r n h => loopGained_heat c h
      · rfl
      · rfl
  · subst hw
    exact congrArg Host.Outcome.next (exec_flushIssue hc hsv hfr hclass hpick hband hmay rfl hplace)
  · subst hw herrs
    exact ⟨_, congrArg Host.Outcome.next (exec_flushIssue hc hsv hfr hclass hpick hband hmay rfl hplace), flushIssue_stands hplace⟩

end Sys2Proof.Machine
end

section
/-! QMP commands with effect: energy, power and self-test (O41). -/

namespace Sys2Proof.Machine

open Sys2Proof

/-! ## A cleared NAND latch brings a channel without an engine out of service (R24, R167, R293) -/

/-- An open session at version 2. -/
def openedSession : Session :=
  { id := 0, version := 2, next := 1, tag := 0, chunkMs := 2000, isVolatile := false, lastUse := 0, results := [] }

/-- CLEAR_RAIL_LATCH on PCIe VDM, with the session's NEXT. -/
def clearLatchHdr : QmpHdr :=
  { carrier := .vdm 0, mbxOpcode := 0xC080, source := 0, version := 2, flags := 0, session := 0, reserved := 0, status := 0, seq := 1,
    length := 0, delivered := 0 }

/-- A module in RUN whose NAND group is latched, its rails good, and whose flash channel 0 has no engine. -/
def nandLatched : State :=
  { State.reset with
    power := { State.reset.power with aon := true, state := .run },
    startup := { State.reset.startup with settings := some (sheetSettings [] true) },
    rails := { State.reset.rails with
      rail := vecMap State.reset.rails.rail fun _ x => { x with run := .qualified }, groupLatched := (Vector.replicate 3 false).set 2 true },
    host := { State.reset.host with link := vecMap State.reset.host.link fun _ k => { k with offersIo := true } },
    persist := { State.reset.persist with ceiling := { resetCeiling with limit := 4 } },
    flash := { State.reset.flash with ch := vecMod State.reset.flash.ch 0 fun f => { f with hasEngine := false }, capLow := true, capGone := true },
    qmp := { State.reset.qmp with sessions := [openedSession] } }

theorem nandLatched_runs : runsNext nandLatched clearLatchHdr .clearRailLatch openedSession := by decide

theorem nandLatched_held : heldLatches nandLatched ≠ 0 := by decide

theorem nandLatched_updates : (receive nandLatched clearLatchHdr .clearRailLatch).persist.ceiling.updateSeq = 1 := by decide

theorem exec_clearRailLatch {s : State} {hdr : QmpHdr} : exec (.clearRailLatch hdr) s = .next (receive s hdr .clearRailLatch) := rfl

/-- Refutes O41: with the NAND rails good, a cleared latch starts the flash again at once; a channel without an engine then leaves
service, and the ceiling is computed anew. -/
theorem not_managementCommandsTakeEffect : ¬ Obligations.ManagementCommandsTakeEffect := by
  rintro ⟨hsession, _⟩
  obtain ⟨_, _, _, hclear, _⟩ := hsession nandLatched clearLatchHdr openedSession
  obtain ⟨t, hexec, _, _, _, hpersist, _⟩ := hclear nandLatched_runs nandLatched_held rfl rfl
  have hupdate := nandLatched_updates
  rw [Host.Outcome.next.inj (exec_clearRailLatch.symm.trans hexec), hpersist] at hupdate
  exact absurd hupdate (by decide)

end Sys2Proof.Machine
end

section
/-! QMP commands without effect, and MCTP messages (O42). -/

namespace Sys2Proof.Machine

open Sys2Proof

/-! ## Commands without effect (R329, R335, R376) -/

/-- A command without effect in an open session runs once its session has been used, and its answer leaves. -/
theorem receive_plain {s : State} {hdr : QmpHdr} {b : QmpBody} {x : Session} (h : inOpenSession s hdr b x) (hn : isNegotiate b = false)
    (he : hasEffect b = false) {t : State} {body : List Byte} (hrun : runPlain (sessionUsed s hdr) hdr b = (.ok, body, t)) :
    receive s hdr b = { t with out := t.out ++ [answerOf hdr b .ok body] } := by
  rw [receive_inOpenSession h hn, he, if_neg Bool.false_ne_true]
  obtain ⟨_, hcar, _⟩ := h
  unfold answerPlain
  rw [hrun]
  exact respond_eq hcar _ _ _ _

/-- What opens or closes a session is answered on the state as it is. -/
theorem receive_negotiate {s : State} {hdr : QmpHdr} {b : QmpBody} (h : requestArrives s hdr b) (hcar : hdr.carrier ≠ .smbus)
    (hn : isNegotiate b = true) {t : State} {body : List Byte} (hrun : runPlain s hdr b = (.ok, body, t)) :
    receive s hdr b = { t with out := t.out ++ [answerOf hdr b .ok body] } := by
  rw [receive_of_arrives h, hn, if_pos rfl]
  unfold answerPlain
  rw [hrun]
  exact respond_eq hcar _ _ _ _

/-- The state, the carrier and the length let a command run whether or not its session has been used. -/
theorem blockedStatus_sessionUsed (s : State) (hdr : QmpHdr) (b : QmpBody) :
    blockedStatus (sessionUsed s hdr) hdr b = blockedStatus s hdr b := rfl

theorem runPlain_esbGet {s : State} {hdr : QmpHdr} (h : blockedStatus s hdr .esbGet = none) :
    runPlain s hdr .esbGet = (.ok, esbBlock (touchEstimator s), touchEstimator s) := by
  unfold runPlain
  rw [h]

theorem runPlain_persistStatus {s : State} {hdr : QmpHdr} (h : blockedStatus s hdr .persistStatus = none) :
    runPlain s hdr .persistStatus = (.ok, persistBody s, s) := by
  unfold runPlain
  rw [h]

/-- The records that LOG_READ returns (R376). -/
def readRecords (s : State) (start count : Word) : List Record :=
  ((heldRecords s).filter fun r => decide (start.toNat ≤ r.recno.toNat)).take (min count.toNat 128)

theorem logReadBody_some {s : State} {start count : Word} {r : Record} (hr : (readRecords s start count).getLast? = some r) :
    logReadBody s start count = (leBytes 4 (r.recno.toNat + 1) ++ leBytes 4 (readRecords s start count).length
      ++ (readRecords s start count).flatMap recordBytes, s) := by
  unfold readRecords at hr
  unfold logReadBody
  dsimp only
  rw [hr]
  rfl

theorem runPlain_logRead {s : State} {hdr : QmpHdr} {start count : Word} {r : Record}
    (h : blockedStatus s hdr (.logRead start count) = none)
    (hr : (readRecords s start count).getLast? = some r) :
    runPlain s hdr (.logRead start count) = (.ok, (logReadBody s start count).1, s) := by
  have hstate : (logReadBody s start count).2 = s := by rw [logReadBody_some hr]
  unfold runPlain
  rw [h]
  dsimp only
  rw [hstate]

theorem runPlain_lastwordsRead {s : State} {hdr : QmpHdr} {start count : Byte}
    (h : blockedStatus s hdr (.lastwordsRead start count) = none) (hs : start.toNat ≤ 63) (hc : count.toNat ≤ 64) :
    runPlain s hdr (.lastwordsRead start count) = (.ok, lastWordsBody s start count, s) := by
  unfold runPlain
  rw [h]
  exact if_neg (by omega)

/-! ## Sessions (R329, R330) -/

/-- The chunk timeout that an opening NEGOTIATE asks for lies in its range, or is left to its default. -/
def chunkTimeGood (flags : Byte) (chunkMs : BitVec 16) : Prop :=
  if flags.getLsbD 2 then 100 ≤ chunkMs.toNat ∧ chunkMs.toNat ≤ 30000 else chunkMs = 0

/-- An opening NEGOTIATE outside STANDBY whose flags, versions and timeout are good. -/
theorem openNegotiate_good {s : State} {hdr : QmpHdr} {versions tag : Word} {flags : Byte} {chunkMs : BitVec 16}
    (hst : inStandby s = false) (hn : flags.getLsbD 1 = false) (hv : versions.getLsbD 1 = true ∨ versions.getLsbD 2 = true)
    (hms : chunkTimeGood flags chunkMs) :
    (∀ x, s.qmp.sessions.find? (fun y => tag != 0 && y.tag == tag) = some x →
      openNegotiate s hdr versions tag flags chunkMs = (.ok, negotiateBody x true, s)) ∧
    (∀ id, s.qmp.sessions.find? (fun y => tag != 0 && y.tag == tag) = none → freeSession (s.qmp.sessions.map (·.id)) = some id →
      openNegotiate s hdr versions tag flags chunkMs = (.ok, negotiateBody (newSession s id (if versions.getLsbD 2 then 2 else 1) tag
        (if flags.getLsbD 2 then chunkMs.toNat else 2000)) false, addSession s (newSession s id (if versions.getLsbD 2 then 2 else 1) tag
        (if flags.getLsbD 2 then chunkMs.toNat else 2000)))) := by
  have hrange : (flags.getLsbD 2 && decide (chunkMs.toNat < 100 ∨ 30000 < chunkMs.toNat)) = false := by
    unfold chunkTimeGood at hms
    split at hms
    · rw [decide_eq_false (by omega), Bool.and_false]
    · rename_i h
      rw [Bool.eq_false_iff.2 h, Bool.false_and]
  have hdefault : (!flags.getLsbD 2 && chunkMs != 0) = false := by
    unfold chunkTimeGood at hms
    split at hms
    · rename_i h
      rw [h]
      rfl
    · rw [hms]
      exact Bool.and_false _
  have hversion : (!versions.getLsbD 1 && !versions.getLsbD 2) = false := by
    obtain h | h := hv <;> rw [h]
    · rfl
    · exact Bool.and_false _
  have hregister (u : State) (x : Session) : register u hdr x false = u := rfl
  unfold openNegotiate openSession
  dsimp only
  rw [hrange, hdefault, hversion, hst, hn]
  refine ⟨fun x hx => ?_, fun id hx hid => ?_⟩
  · simp only [hx, hregister, Bool.false_eq_true, if_false]
  · simp only [hx, hid, hregister, Bool.false_eq_true, if_false]

theorem runPlain_negotiate {s : State} {hdr : QmpHdr} {versions tag : Word} {flags : Byte} {chunkMs : BitVec 16}
    (h : blockedStatus s hdr (.negotiate versions tag flags chunkMs) = none) (hopen : flags.getLsbD 0 = false) :
    runPlain s hdr (.negotiate versions tag flags chunkMs) = openNegotiate s hdr versions tag flags chunkMs := by
  unfold runPlain
  rw [h]
  exact if_neg (by rw [hopen]; exact Bool.false_ne_true)

theorem runPlain_negotiateClose {s : State} {hdr : QmpHdr} {x : Session} (h : blockedStatus s hdr .negotiateClose = none)
    (hx : sessionOf s hdr.session = some x) :
    runPlain s hdr .negotiateClose = (.ok, negotiateBody x false, dropSession s hdr.session) := by
  unfold runPlain closeNegotiate
  rw [h]
  dsimp only
  rw [hx]

/-! ## A whole MCTP message (R325, R326) -/

theorem field_drop (l : List Byte) (k ofs n : Nat) : field (l.drop k) ofs n = field l (k + ofs) n := by
  unfold field slice
  rw [List.drop_drop]

/-- A message that holds a request of Table 13-4 is taken as that request. -/
theorem wholeMessage_of_isRequest {s : State} {bytes : List Byte} {verifies : Bool} {op : Nat} {b : QmpBody}
    (h : isRequest bytes verifies op b) (c : Carrier) (source : BitVec 16) :
    wholeMessage s c source bytes verifies = receiveOp s (parseHdr c source (bytes.drop 3) 0) (BitVec.ofNat 16 op) (some b) := by
  obtain ⟨hlen, htype, hop, hbody⟩ := h
  have hop' : field (bytes.drop 3) 0 2 = op := (field_drop bytes 3 0 2).trans hop
  have hbody' : parseBody op ((bytes.drop 3).drop 16) verifies = some (b, 0) := by
    rw [List.drop_drop]
    exact hbody
  refine (if_neg ?_).trans ?_
  · rw [List.length_drop]
    omega
  · rw [hop', hbody']
    rfl

/-- Settles O42: each command by what `runPlain` gives for it, a message by `wholeMessage_of_isRequest`. -/
theorem plainCommandsAnswer : Obligations.PlainCommandsAnswer := by
  refine ⟨fun s hdr x => ⟨fun h hb => ?_, fun h hb => ?_, fun start count r h hb hr => ?_, fun start count h hb hs hc => ?_⟩,
    fun s hdr versions tag flags chunkMs hcar harr hb hst hopen hn hv hms => ⟨fun x hx => ?_, fun id hx hid => ?_⟩,
    fun s hdr x hcar harr hb hx => ?_, fun s u c source command rate seq tag payload verifies op b htakes hu hnone hreq => ?_,
    fun s carrier => ⟨_, rfl, rfl, fun p => ?_⟩⟩
  · exact congrArg Host.Outcome.next (receive_plain h rfl rfl (runPlain_esbGet (s := sessionUsed s hdr) hb))
  · exact congrArg Host.Outcome.next (receive_plain h rfl rfl (runPlain_persistStatus (s := sessionUsed s hdr) hb))
  · have hbody : (logReadBody (sessionUsed s hdr) start count).1 = (logReadBody s start count).1 := by
      rw [logReadBody_some (s := sessionUsed s hdr) hr, logReadBody_some hr]
      rfl
    rw [← hbody]
    exact congrArg Host.Outcome.next (receive_plain h rfl rfl (runPlain_logRead (s := sessionUsed s hdr) hb hr))
  · exact congrArg Host.Outcome.next (receive_plain h rfl rfl (runPlain_lastwordsRead (s := sessionUsed s hdr) hb hs hc))
  · exact congrArg Host.Outcome.next (receive_negotiate harr hcar rfl
      ((runPlain_negotiate hb hopen).trans ((openNegotiate_good hst hn hv hms).1 x hx)))
  · exact ⟨_, rfl, rfl, rfl, rfl, rfl, rfl, congrArg Host.Outcome.next (receive_negotiate harr hcar rfl
      ((runPlain_negotiate hb hopen).trans ((openNegotiate_good hst hn hv hms).2 id hx hid)))⟩
  · exact congrArg Host.Outcome.next (receive_negotiate harr hcar rfl (runPlain_negotiateClose hb hx))
  · subst hu
    rw [exec_mctpPacket_of_takesPacket htakes source rate, if_pos rfl, takePacket_first hnone, if_pos rfl, wholeMessage_of_isRequest hreq]
  · change p ∈ s.qmp.partials.filter (fun p => !(p.carrier == carrier && due s p.lastAt (chunkTimeout s p))) ↔ _
    rw [List.mem_filter]
    refine and_congr_right fun _ => ?_
    unfold due
    simp only [Bool.not_eq_true', Bool.and_eq_false_imp, beq_iff_eq, decide_eq_false_iff_not, not_le]

end Sys2Proof.Machine
end

section
/-! The event recorder (O45). -/

namespace Sys2Proof.Machine

open Sys2Proof

/-! ## What a record that is staged leaves alone (R367, R368) -/

/-- Records move toward the pages and the ring: the NAND log, its loss and the report of drops stand, and drops that are owed stay owed. -/
structure RecordsStaged (a b : Recorder) : Prop where
  nand : b.nand = a.nand
  sramOnly : b.sramOnly = a.sramOnly
  reported : b.logDroppedAt = a.logDroppedAt
  owed : a.dropsOwed = true → b.dropsOwed = true

namespace RecordsStaged

theorem refl (a : Recorder) : RecordsStaged a a := ⟨rfl, rfl, rfl, id⟩

theorem trans {a b c : Recorder} (h : RecordsStaged a b) (k : RecordsStaged b c) : RecordsStaged a c :=
  ⟨k.nand.trans h.nand, k.sramOnly.trans h.sramOnly, k.reported.trans h.reported, fun x => k.owed (h.owed x)⟩

theorem turnPage (rc : Recorder) : RecordsStaged rc (turnPage rc) := by
  unfold Machine.turnPage
  split
  · exact refl rc
  · split
    · exact ⟨rfl, rfl, rfl, id⟩
    · split <;> exact ⟨rfl, rfl, rfl, id⟩

theorem ringWrite (now : Nat) (rc : Recorder) (r : Record) : RecordsStaged rc (ringWrite now rc r) := by
  unfold Machine.ringWrite
  dsimp only
  split <;> exact ⟨rfl, rfl, rfl, id⟩

theorem pageAdd (now sev : Nat) (rc : Recorder) (r : Record) : RecordsStaged rc (pageAdd now sev rc r) := by
  have hadd (n : Record) : RecordsStaged rc { rc with page := rc.page ++ [n], nextRecno := rc.nextRecno + 1 } := ⟨rfl, rfl, rfl, id⟩
  unfold Machine.pageAdd
  dsimp only
  refine trans (b := if sev ≤ r.severity then _ else _) ?_ (turnPage _)
  split
  · exact (hadd _).trans (ringWrite _ _ _)
  · exact hadd _

theorem moveStaged (fuel now sev : Nat) (base : Record) (rc : Recorder) : RecordsStaged rc (moveStaged fuel now sev base rc) := by
  induction fuel generalizing rc with
  | zero => exact refl rc
  | succ fuel ih =>
    unfold Machine.moveStaged
    split
    · exact refl rc
    · split
      · rename_i o _
        have hadd := pageAdd now sev { rc with overflow := none } (overflowRecord base o)
        exact (trans (a := rc) (b := { rc with overflow := none }) ⟨rfl, rfl, rfl, id⟩ hadd).trans (ih _)
      · split
        · exact refl rc
        · rename_i r t _
          have hadd := pageAdd now sev { rc with staging := t } r
          exact (trans (a := rc) (b := { rc with staging := t }) ⟨rfl, rfl, rfl, id⟩ hadd).trans (ih _)

theorem countDrop (now sev : Nat) (rc : Recorder) : RecordsStaged rc (countDrop now sev rc) := ⟨rfl, rfl, rfl, fun _ => rfl⟩

theorem stageRecord (now : Nat) (rc : Recorder) (r : Record) : RecordsStaged rc (stageRecord now rc r) := by
  unfold Machine.stageRecord
  split
  · exact ⟨rfl, rfl, rfl, id⟩
  · dsimp only
    split
    · exact countDrop _ _ _
    · exact ⟨rfl, rfl, rfl, fun _ => rfl⟩

theorem stage (s : State) (r : Record) : RecordsStaged s.recorder (stage s r).recorder :=
  (stageRecord _ _ _).trans (moveStaged _ _ _ _ _)

theorem restage (s : State) : RecordsStaged s.recorder (restage s).recorder := moveStaged 600 _ _ _ _

theorem setBucket (s : State) (b : Bucket) : RecordsStaged s.recorder (setBucket s b).recorder := ⟨rfl, rfl, rfl, id⟩

theorem logEvent (s : State) (code : BitVec 16) (sev : Nat) (payload : List Byte) :
    RecordsStaged s.recorder (logEvent s code sev payload).recorder := by
  unfold Machine.logEvent
  split
  · exact refl _
  · split
    · exact stage _ _
    · dsimp only
      split
      · exact setBucket _ _
      · split
        · exact (setBucket _ _).trans (stage _ _)
        · exact ((setBucket _ _).trans (stage _ _)).trans (stage _ _)

theorem queueNotice (s : State) (code : BitVec 16) (cls : Nat) (payload : List Word) :
    (queueNotice s code cls payload).recorder = s.recorder := by
  rw [queueNotice_frame]

theorem raise (s : State) (code : Nat) (payload : List Nat) : RecordsStaged s.recorder (raise s code payload).recorder := by
  have h := logEvent (Machine.queueNotice s (BitVec.ofNat 16 code) (noticeClass code) (payload.map (BitVec.ofNat 32))) (BitVec.ofNat 16 code)
    (3 - noticeClass code) (wordBytes (payload.take 4))
  rw [queueNotice] at h
  exact h

end RecordsStaged

/-! ## A mirror fails (R371, R372) -/

/-- The mirror and the loss of both, once one has failed, before it is logged. -/
def mirrorDown (s : State) (m : Fin 2) : State :=
  let t := setMirror s m fun x => { x with ok := false }
  { t with flash := { t.flash with relocating := !bothLost t }, recorder := { t.recorder with sramOnly := t.recorder.sramOnly || bothLost t } }

/-- A mirror in service fails: it is logged, and the loss of both is reported. -/
theorem mirrorFails_eq {s : State} {m : Fin 2} (h : s.flash.mirrors[m].ok = true) : mirrorFails s m =
    let t := logEvent (mirrorDown s m) 0x0B84 2 (wordBytes [s.flash.mirrors[m].ch.val, 0, s.recorder.logSet])
    if bothLost (mirrorDown s m) then raise t 0x0B01 [t.recorder.nextRecno.toNat] else t := by
  unfold mirrorFails
  rw [h, if_neg (by decide)]
  rfl

/-- What the program of a log page leaves of the mirrors: those whose program failed are out of service. -/
structure MirrorsTried (s : State) (pass0 pass1 : Bool) (u : State) : Prop where
  eq : u = { withNotes s u with flash := u.flash }
  first : u.flash.mirrors[(0 : Fin 2)].ok = pass0
  second : u.flash.mirrors[(1 : Fin 2)].ok = pass1
  passed : pass0 = true → pass1 = true → u = s
  records : RecordsStaged { s.recorder with sramOnly := s.recorder.sramOnly || !pass0 && !pass1 } u.recorder
  notices : pass0 = true → u.notices = s.notices

theorem mirrorDown_ok (s : State) (m k : Fin 2) : (mirrorDown s m).flash.mirrors[k].ok = (s.flash.mirrors[k].ok && k != m) := by
  by_cases h : k = m
  · subst h
    rw [bne_self_eq_false, Bool.and_false]
    exact congrArg Mirror.ok (getElem_vecMod_same _ _ _)
  · rw [bne_iff_ne.2 h, Bool.and_true]
    exact congrArg Mirror.ok (getElem_vecMod_ne _ _ h)

theorem mirrorDown_lost (s : State) (m : Fin 2) :
    (mirrorDown s m).recorder = { s.recorder with sramOnly := s.recorder.sramOnly || bothLost (mirrorDown s m) } := rfl

/-- What a mirror's failure leaves. -/
theorem mirrorFails_stands {s : State} {m : Fin 2} (h : s.flash.mirrors[m].ok = true) :
    (mirrorFails s m).flash = (mirrorDown s m).flash ∧ mirrorFails s m = { withNotes s (mirrorFails s m) with flash := (mirrorFails s m).flash } ∧
      RecordsStaged { s.recorder with sramOnly := s.recorder.sramOnly || bothLost (mirrorDown s m) } (mirrorFails s m).recorder ∧
      (bothLost (mirrorDown s m) = false → (mirrorFails s m).notices = s.notices) := by
  have hlog := RecordsStaged.logEvent (mirrorDown s m) 0x0B84 2 (wordBytes [s.flash.mirrors[m].ch.val, 0, s.recorder.logSet])
  rw [mirrorFails_eq h]
  dsimp only
  split
  · rename_i hlost
    refine ⟨?_, ?_, hlog.trans (.raise _ _ _), fun hn => absurd (hn.symm.trans hlost) Bool.false_ne_true⟩
    · rw [raise_flash, logEvent_flash]
    · rw [raise_frame, logEvent_frame]
      rfl
  · refine ⟨?_, ?_, hlog, fun _ => ?_⟩
    · rw [logEvent_flash]
    · rw [logEvent_frame]
      rfl
    · rw [logEvent_notices]
      rfl

theorem bothLost_eq (s : State) : bothLost s = (!s.flash.mirrors[(0 : Fin 2)].ok && !s.flash.mirrors[(1 : Fin 2)].ok) := rfl

/-- With the first mirror gone, the failure of the second leaves the recorder its SRAM alone (R372). -/
theorem mirrorsLost {s : State} (h0 : s.flash.mirrors[(0 : Fin 2)].ok = false) (h1 : s.flash.mirrors[(1 : Fin 2)].ok = true) :
    bothLost (mirrorDown s 1) = true := by
  rw [bothLost_eq, mirrorDown_ok, mirrorDown_ok, h0, h1]
  rfl

theorem mirrorsTried {s : State} (h0 : s.flash.mirrors[(0 : Fin 2)].ok = true) (h1 : s.flash.mirrors[(1 : Fin 2)].ok = true)
    (pass0 pass1 : Bool) : MirrorsTried s pass0 pass1
      (if pass1 then (if pass0 then s else mirrorFails s 0) else mirrorFails (if pass0 then s else mirrorFails s 0) 1) := by
  have hdown0 : bothLost (mirrorDown s 0) = false := by
    rw [bothLost_eq, mirrorDown_ok, mirrorDown_ok, h0, h1]
    rfl
  have hdown1 : bothLost (mirrorDown s 1) = false := by
    rw [bothLost_eq, mirrorDown_ok, mirrorDown_ok, h0, h1]
    rfl
  obtain ⟨hflash0, heq0, hrec0, hnote0⟩ := mirrorFails_stands h0
  obtain ⟨hflash1, heq1, hrec1, hnote1⟩ := mirrorFails_stands h1
  have hfirst0 : (mirrorFails s 0).flash.mirrors[(0 : Fin 2)].ok = false := by rw [hflash0, mirrorDown_ok, h0]; rfl
  have hsecond0 : (mirrorFails s 0).flash.mirrors[(1 : Fin 2)].ok = true := by rw [hflash0, mirrorDown_ok, h1]; rfl
  have hfirst1 : (mirrorFails s 1).flash.mirrors[(0 : Fin 2)].ok = true := by rw [hflash1, mirrorDown_ok, h0]; rfl
  have hsecond1 : (mirrorFails s 1).flash.mirrors[(1 : Fin 2)].ok = false := by rw [hflash1, mirrorDown_ok, h1]; rfl
  rw [hdown0] at hrec0
  rw [hdown1] at hrec1
  cases pass0 <;> cases pass1
  case true.true =>
    refine ⟨rfl, h0, h1, fun _ _ => rfl, ⟨rfl, (Bool.or_false _).symm, rfl, id⟩, fun _ => rfl⟩
  case true.false => exact ⟨heq1, hfirst1, hsecond1, fun _ h => absurd h Bool.false_ne_true, hrec1, fun _ => hnote1 hdown1⟩
  case false.true => exact ⟨heq0, hfirst0, hsecond0, fun h => absurd h Bool.false_ne_true, hrec0, fun h => absurd h Bool.false_ne_true⟩
  case false.false =>
    obtain ⟨hflash, heq, hrec, _⟩ := mirrorFails_stands hsecond0
    rw [mirrorsLost hfirst0 hsecond0, Bool.or_true] at hrec
    refine ⟨?_, ?_, ?_, fun h => absurd h Bool.false_ne_true, ?_, fun h => absurd h Bool.false_ne_true⟩
    · exact (congrArg (fun u : State => u) heq).trans (by rw [heq0]; rfl)
    · exact (congrArg (fun f : Flash => f.mirrors[(0 : Fin 2)].ok) hflash).trans (by rw [mirrorDown_ok, hfirst0]; rfl)
    · exact (congrArg (fun f : Flash => f.mirrors[(1 : Fin 2)].ok) hflash).trans (by rw [mirrorDown_ok, hsecond0]; rfl)
    · exact ⟨hrec.nand.trans hrec0.nand, hrec.sramOnly.trans (Bool.or_true _).symm, hrec.reported.trans hrec0.reported,
        fun h => hrec.owed (hrec0.owed h)⟩

/-! ## A log page is programmed (R368, R370) -/

theorem appendLog_suffix (rc : Recorder) (rs : List Record) : rs <:+ (appendLog rc rs).nand := by
  unfold appendLog
  split <;> exact List.suffix_append _ _

/-- The full page goes into the NAND log, charged to the wear credit. -/
theorem programFull_stands (s : State) (rs : List Record) :
    programFull s rs = { s with
      recorder := (programFull s rs).recorder, persist := { s.persist with wear := s.persist.wear - (logPageBytes s : Int) } } ∧
    rs <:+ (programFull s rs).recorder.nand ∧ (programFull s rs).recorder.logDroppedAt = s.recorder.logDroppedAt ∧
    (s.recorder.dropsOwed = true → (programFull s rs).recorder.dropsOwed = true) := by
  have hturn := RecordsStaged.turnPage { appendLog s.recorder rs with fullPage := none }
  have hstaged : RecordsStaged (appendLog s.recorder rs) (programFull s rs).recorder :=
    (RecordsStaged.trans (a := appendLog s.recorder rs) (b := { appendLog s.recorder rs with fullPage := none })
      ⟨rfl, rfl, rfl, id⟩ hturn).trans (.restage { chargeWear s (logPageBytes s) with
        recorder := turnPage { appendLog s.recorder rs with fullPage := none } })
  have happend : (appendLog s.recorder rs).logDroppedAt = s.recorder.logDroppedAt ∧
      (appendLog s.recorder rs).dropsOwed = s.recorder.dropsOwed := by
    unfold appendLog
    split <;> exact ⟨rfl, rfl⟩
  refine ⟨rfl, ?_, hstaged.reported.trans happend.1, fun h => hstaged.owed (happend.2.trans h)⟩
  rw [hstaged.nand]
  exact appendLog_suffix _ _

/-- A notice that meets none pending is queued (R340). -/
theorem raise_joinsPending {s : State} (code : Nat) (payload : List Nat) (h : s.notices.pend = []) :
    ∃ n ∈ (raise s code payload).notices.pend, n.code = BitVec.ofNat 16 code := by
  have hqueue : (raise s code payload).notices =
      (queueNotice s (BitVec.ofNat 16 code) (noticeClass code) (payload.map (BitVec.ofNat 32))).notices := by
    unfold raise raiseClass
    rw [logEvent_frame]
  rw [hqueue]
  unfold queueNotice
  rw [h]
  exact ⟨_, List.mem_append_right _ (List.mem_singleton.2 rfl), rfl⟩

/-- LOG_DROPPED is sent where drops are owed and it has not been sent (Table 15-7). -/
theorem reportDrops_stands (s : State) : reportDrops s = withNotes s (reportDrops s) ∧
    (reportDrops s).recorder.nand = s.recorder.nand ∧
    (s.recorder.dropsOwed = true → s.recorder.logDroppedAt = none → s.notices.pend = [] →
      (reportDrops s).recorder.logDroppedAt = some s.clock.now ∧ ∃ n ∈ (reportDrops s).notices.pend, n.code = 0x0B02) := by
  have hraise := RecordsStaged.raise { s with recorder := { s.recorder with dropsOwed := false, logDroppedAt := some s.clock.now } } 0x0B02
    [s.recorder.drops]
  unfold reportDrops
  split
  · refine ⟨?_, hraise.nand, fun _ _ hp => ⟨hraise.reported, raise_joinsPending (s := { s with
      recorder := { s.recorder with dropsOwed := false, logDroppedAt := some s.clock.now } }) 0x0B02 [s.recorder.drops] hp⟩⟩
    rw [raise_frame]
    rfl
  · rename_i hno
    refine ⟨rfl, rfl, fun ho hl _ => absurd ?_ hno⟩
    rw [ho, hl]
    rfl

/-! ## The sweep (R366) -/

theorem turnPage_buckets (rc : Recorder) : (turnPage rc).buckets = rc.buckets := by
  unfold turnPage
  split
  · rfl
  · split
    · rfl
    · split <;> rfl

theorem pageAdd_buckets (now sev : Nat) (rc : Recorder) (r : Record) : (pageAdd now sev rc r).buckets = rc.buckets := by
  have hring (rc : Recorder) (r : Record) : (ringWrite now rc r).buckets = rc.buckets := by
    unfold ringWrite
    dsimp only
    split <;> rfl
  unfold pageAdd
  dsimp only
  rw [turnPage_buckets, apply_ite Recorder.buckets, hring, ite_self]

theorem moveStaged_buckets (fuel now sev : Nat) (base : Record) (rc : Recorder) :
    (moveStaged fuel now sev base rc).buckets = rc.buckets := by
  induction fuel generalizing rc with
  | zero => rfl
  | succ fuel ih =>
    unfold moveStaged
    split
    · rfl
    · split
      · rw [ih, pageAdd_buckets]
      · split
        · rfl
        · rw [ih, pageAdd_buckets]

theorem stage_buckets (s : State) (r : Record) : (stage s r).recorder.buckets = s.recorder.buckets := by
  refine (moveStaged_buckets _ _ _ _ _).trans ?_
  unfold stageRecord countDrop
  split
  · rfl
  · dsimp only
    split <;> rfl

/-- Once the SUPPRESSED record of each of some buckets has been staged, none of their codes has drops. -/
theorem sweep_buckets (l : List Bucket) (s : State) {b : Bucket} (hb : b ∈ (l.foldl (fun s b =>
    setBucket (stage s (suppressed s (codeSeverity b.code.toNat) b)) { b with drops := 0 }) s).recorder.buckets) :
    b.drops = 0 ∨ b ∈ s.recorder.buckets ∧ ∀ x ∈ l, b.code ≠ x.code := by
  induction l generalizing s with
  | nil => exact .inr ⟨hb, fun _ h => absurd h List.not_mem_nil⟩
  | cons y l ih =>
    obtain hzero | ⟨hmem, hcodes⟩ := ih _ hb
    · exact .inl hzero
    · obtain hold | hnew := List.mem_append.1 hmem
      · obtain ⟨hin, hne⟩ := List.mem_filter.1 hold
        rw [stage_buckets] at hin
        refine .inr ⟨hin, fun x hx => ?_⟩
        obtain rfl | hx := List.mem_cons.1 hx
        · exact bne_iff_ne.1 hne
        · exact hcodes x hx
      · rw [List.mem_singleton.1 hnew]
        exact .inl rfl

theorem sweepSuppressed_sweptAt (s : State) : (sweepSuppressed s).recorder.sweptAt = s.clock.opTime := by
  unfold sweepSuppressed
  dsimp only
  obtain ⟨rc, h⟩ := foldl_frame (get := fun s => s.recorder) (put := fun s rc => { s with recorder := rc })
    (f := fun s b => setBucket (stage s (suppressed s (codeSeverity b.code.toNat) b)) { b with drops := 0 })
    (fun _ _ => ⟨_, rfl⟩) (fun _ => rfl) (fun _ _ _ => rfl) (s.recorder.buckets.filter fun b => b.drops != 0) s
  rw [h]

theorem sweepSuppressed_drops (s : State) : ∀ b ∈ (sweepSuppressed s).recorder.buckets, b.drops = 0 := by
  intro b hb
  obtain hzero | ⟨hmem, hcodes⟩ := sweep_buckets _ _ hb
  · exact hzero
  · by_contra hne
    exact hcodes b (List.mem_filter.2 ⟨hmem, bne_iff_ne.2 hne⟩) rfl

/-! ## Checkpoints (R364) -/

theorem cfPut_words_same {s : State} {a : Nat} (d : DWord) (h : cfBlank s a = true) : kvGet (cfPut s a d).cf.words a = some ⟨d, false⟩ := by
  unfold cfPut
  rw [if_pos h]
  exact kvGet_kvSet_same _ _ _

theorem cfPut_words_ne (s : State) {a x : Nat} (d : DWord) (h : x ≠ a) : kvGet (cfPut s a d).cf.words x = kvGet s.cf.words x := by
  unfold cfPut
  split
  · exact kvGet_kvSet_ne _ _ h
  · rfl

/-- Words put one after the other into blank places. -/
theorem cfPuts_words {n : Nat} {s : State} {a : Nat} (f : Nat → DWord) (hblank : ∀ i < n, cfBlank s (a + i) = true) :
    (∀ i < n, kvGet ((List.range n).foldl (fun t i => cfPut t (a + i) (f i)) s).cf.words (a + i) = some ⟨f i, false⟩) ∧
      ∀ x, (∀ i < n, x ≠ a + i) → kvGet ((List.range n).foldl (fun t i => cfPut t (a + i) (f i)) s).cf.words x = kvGet s.cf.words x := by
  induction n with
  | zero => exact ⟨fun _ h => absurd h (Nat.not_lt_zero _), fun _ _ => rfl⟩
  | succ n ih =>
    obtain ⟨hput, hout⟩ := ih fun i hi => hblank i (by omega)
    rw [List.range_succ, List.foldl_append]
    refine ⟨fun i hi => ?_, fun x hx => ?_⟩
    · by_cases h : i = n
      · subst h
        refine cfPut_words_same (f i) ?_
        unfold cfBlank
        rw [hout _ fun j hj => by omega]
        exact hblank i hi
      · exact (cfPut_words_ne _ (f n) (by omega)).trans (hput i (by omega))
    · exact (cfPut_words_ne _ (f n) (hx n (by omega))).trans (hout x fun i hi => hx i (by omega))

theorem cfPut_frame (s : State) (a : Nat) (d : DWord) : ∃ words, cfPut s a d = { s with cf := { s.cf with words := words } } := by
  unfold cfPut
  split <;> exact ⟨_, rfl⟩

theorem cfPuts_flash (n : Nat) (s : State) (a : Nat) (f : Nat → DWord) : ∃ words,
    (List.range n).foldl (fun t i => cfPut t (a + i) (f i)) s = { s with cf := { s.cf with words := words } } :=
  foldl_frame (get := fun s => s.cf.words) (put := fun s words => { s with cf := { s.cf with words := words } })
    (f := fun t i => cfPut t (a + i) (f i)) (fun s i => cfPut_frame s (a + i) (f i)) (fun _ => rfl) (fun _ _ _ => rfl) (List.range n) s

/-- The newest checkpoint is one of those that check, in a slot of its sectors. -/
theorem newestCheckpoint_slot {s : State} {c : Nat × Nat × Nat × Nat} (h : newestCheckpoint s = some c) : c.1 % 4 = 0 := by
  have hbest (l : List (Nat × Nat × Nat × Nat)) (f : Option (Nat × Nat × Nat × Nat) → Nat × Nat × Nat × Nat → Option (Nat × Nat × Nat × Nat))
      (hf : ∀ o x, f o x = o ∨ f o x = some x) (o : Option (Nat × Nat × Nat × Nat)) (hl : l.foldl f o = some c) : o = some c ∨ c ∈ l := by
    induction l generalizing o with
    | nil => exact .inl hl
    | cons x l ih =>
      obtain h | h := ih (f o x) hl
      · obtain hold | hnew := hf o x
        · exact .inl (hold.symm.trans h)
        · exact .inr (Option.some.inj (hnew.symm.trans h) ▸ List.mem_cons_self)
      · exact .inr (List.mem_cons_of_mem _ h)
  have hmem : c ∈ checkpoints s := by
    refine (hbest _ _ (fun o x => ?_) none h).resolve_left (by simp)
    cases o with
    | none => exact .inr rfl
    | some b =>
      dsimp only
      split
      · exact .inl rfl
      · split
        · exact .inr rfl
        · exact .inl rfl
  obtain ⟨w, _, hw⟩ := List.mem_filterMap.1 hmem
  split at hw
  · rename_i hslot
    obtain ⟨_, _, rfl⟩ := Option.map_eq_some_iff.1 hw
    exact hslot.2.2
  · cases hw

/-- The sector of a slot is erased before its first slot is written. -/
def slotOpened (s : State) (a : Nat) : State := if a % 512 = 0 then cfEraseSector s (a / 512) else s

/-- The words that a checkpoint writes, with their CRC. -/
def checkpointSealed (s : State) (i : Nat) : DWord :=
  BitVec.ofNat 64 ((checkpointWords s ++ [(crc32 ((checkpointWords s).flatMap fun w => leBytes 8 w)).toNat]).getD i 0)

theorem kvGet_filter {α : Type} (m : List (Nat × α)) (p : Nat → Bool) (x : Nat) :
    kvGet (m.filter fun w => p w.1) x = if p x then kvGet m x else none := by
  induction m with
  | nil => rw [List.filter_nil, kvGet, ite_self]
  | cons w m ih =>
    obtain ⟨k, v⟩ := w
    rw [List.filter_cons, kvGet]
    by_cases hk : x = k
    · subst hk
      rw [if_pos rfl]
      split
      · rw [kvGet, if_pos rfl]
      · rename_i hp
        rw [ih, if_neg hp]
    · rw [if_neg hk]
      split
      · rw [kvGet, if_neg hk, ih]
      · exact ih

theorem slotOpened_words (s : State) {a x : Nat} (h : x / 512 ≠ a / 512) : kvGet (slotOpened s a).cf.words x = kvGet s.cf.words x := by
  unfold slotOpened
  split
  · exact (kvGet_filter s.cf.words (fun k => k / 512 != a / 512) x).trans (if_pos (bne_iff_ne.2 h))
  · rfl

theorem slotOpened_blank {s : State} {a : Nat} (h : a % 512 = 0 ∨ ∀ i < 4, cfBlank s (a + i) = true) :
    ∀ i < 4, cfBlank (slotOpened s a) (a + i) = true := by
  intro i hi
  unfold slotOpened cfBlank
  split
  · rename_i hopen
    have hsector : (a + i) / 512 = a / 512 := by omega
    rw [show kvGet (cfEraseSector s (a / 512)).cf.words (a + i) = none from
      (kvGet_filter s.cf.words (fun k => k / 512 != a / 512) (a + i)).trans (if_neg (by rw [hsector, bne_self_eq_false]; exact Bool.false_ne_true))]
    rfl
  · rename_i hopen
    exact h.resolve_left hopen i hi

theorem checkpointSlot_of_blank {fuel : Nat} (hfuel : fuel ≠ 0) {s : State} {a : Nat} (h : ∀ i < 4, cfBlank s (a + i) = true) :
    checkpointSlot fuel s a = a := by
  cases fuel with
  | zero => exact absurd rfl hfuel
  | succ fuel => exact if_pos (.inr (List.all_eq_true.2 fun i hi => h i (List.mem_range.1 hi)))

/-- A checkpoint goes into its slot, the newest one's next (R364). -/
theorem writeCheckpoint_eq {s : State} {a : Nat} (h : newestCheckpoint s = none ∧ a = sectorBase secCheckpoint ∨
    ∃ c, newestCheckpoint s = some c ∧ a = nextCheckpointSlot c.1 ∧ a % 512 ≠ 0 ∧ ∀ i < 4, cfBlank s (a + i) = true) :
    writeCheckpoint s = (List.range 4).foldl (fun t i => cfPut t (a + i) (checkpointSealed s i)) (slotOpened s a) := by
  have hwords : checkpointWords (slotOpened s a) = checkpointWords s := by
    unfold slotOpened
    split <;> rfl
  have hput : (List.range 4).foldl (fun t i => cfPut t (a + i) (checkpointSealed (slotOpened s a) i)) (slotOpened s a) =
      (List.range 4).foldl (fun t i => cfPut t (a + i) (checkpointSealed s i)) (slotOpened s a) := by
    unfold checkpointSealed
    rw [hwords]
  have hslot : (match newestCheckpoint s with
      | some c => checkpointSlot 512 s (nextCheckpointSlot c.1)
      | none => sectorBase secCheckpoint) = a := by
    obtain ⟨hnone, ha⟩ | ⟨c, hsome, ha, hopen, hblank⟩ := h
    · rw [hnone, ha]
    · rw [hsome]
      dsimp only
      rw [← ha]
      exact checkpointSlot_of_blank (by omega) hblank
  rw [← hput, ← hslot]
  rfl

/-- A checkpoint that is written: its words in their slot, every other sector as it was. -/
theorem writeCheckpoint_words {s : State} {a : Nat} (h : newestCheckpoint s = none ∧ a = sectorBase secCheckpoint ∨
    ∃ c, newestCheckpoint s = some c ∧ a = nextCheckpointSlot c.1 ∧ a % 512 ≠ 0 ∧ ∀ i < 4, cfBlank s (a + i) = true) :
    writeCheckpoint s = { s with cf := { s.cf with words := (writeCheckpoint s).cf.words } } ∧
      (∀ i < 3, kvGet (writeCheckpoint s).cf.words (a + i) = some ⟨BitVec.ofNat 64 ((checkpointWords s).getD i 0), false⟩) ∧
      (∀ x, x / 512 ≠ a / 512 → kvGet (writeCheckpoint s).cf.words x = kvGet s.cf.words x) := by
  have haligned : a % 4 = 0 := by
    obtain ⟨hnone, ha⟩ | ⟨c, hsome, ha, hopen, hblank⟩ := h
    · rw [ha]
      unfold sectorBase
      omega
    · have hc := newestCheckpoint_slot hsome
      rw [ha]
      unfold nextCheckpointSlot sectorBase secCheckpoint
      dsimp only
      omega
  have hblank : ∀ i < 4, cfBlank (slotOpened s a) (a + i) = true := by
    refine slotOpened_blank ?_
    obtain ⟨_, ha⟩ | ⟨_, _, _, _, hblank⟩ := h
    · rw [ha]
      exact .inl (Nat.mul_mod_right 512 _)
    · exact .inr hblank
  obtain ⟨hput, hout⟩ := cfPuts_words (checkpointSealed s) hblank
  obtain ⟨words, hframe⟩ := cfPuts_flash 4 (slotOpened s a) a (checkpointSealed s)
  rw [writeCheckpoint_eq h]
  refine ⟨?_, fun i hi => (hput i (by omega)).trans ?_, fun x hx => (hout x fun i hi => ?_).trans (slotOpened_words s hx)⟩
  · rw [hframe]
    unfold slotOpened
    split <;> rfl
  · refine congrArg (fun n : Nat => some (⟨BitVec.ofNat 64 n, false⟩ : CfWord)) ?_
    rw [List.getD_append _ _ _ _ (by exact hi)]
  · omega

/-- A log page of both mirrors takes 131,072 bytes of the wear credit (R370). -/
theorem logPageBytes_both {s : State} (h0 : s.flash.mirrors[(0 : Fin 2)].ok = true) (h1 : s.flash.mirrors[(1 : Fin 2)].ok = true) :
    logPageBytes s = 131072 := by
  have hlist (v : Vector Mirror 2) : v.toList = [v[(0 : Fin 2)], v[(1 : Fin 2)]] := by
    obtain ⟨⟨l⟩, hl⟩ := v
    obtain ⟨a, b, rfl⟩ := List.length_eq_two.1 hl
    rfl
  unfold logPageBytes
  rw [hlist, List.filter_cons, if_pos h0, List.filter_cons, if_pos h1]
  rfl

theorem exec_logPageProgram {s : State} {rs : List Record} (hfull : s.recorder.fullPage = some rs) (hlog : logWritable s = true)
    (hsv : saving s = false) (h0 : s.flash.mirrors[(0 : Fin 2)].ok = true) (h1 : s.flash.mirrors[(1 : Fin 2)].ok = true)
    (pass0 pass1 : Bool) :
    let u := if pass1 then (if pass0 then s else mirrorFails s 0) else mirrorFails (if pass0 then s else mirrorFails s 0) 1
    exec (.logPageProgram pass0 pass1) s = .next (if pass0 || pass1 then reportDrops (programFull u rs) else u) := by
  have h0' : (s.flash.mirrors[0] : Mirror).ok = true := h0
  have h1' : (s.flash.mirrors[1] : Mirror).ok = true := h1
  change execLogPageProgram pass0 pass1 s = _
  unfold execLogPageProgram
  rw [hfull, hlog, hsv, h0', h1']
  rfl

/-- A full page is in the NAND log where one of the two programs passes, and the log is in SRAM alone where neither does (R370 to
R372). -/
theorem logPageProgrammed {s u : State} {pass0 pass1 : Bool} (hu : MirrorsTried s pass0 pass1 u) (rs : List Record)
    (hbytes : logPageBytes s = 131072) :
    let t := if pass0 || pass1 then reportDrops (programFull u rs) else u
    t.flash.mirrors[(0 : Fin 2)].ok = pass0 ∧ t.flash.mirrors[(1 : Fin 2)].ok = pass1 ∧
      (pass0 = true ∨ pass1 = true → rs <:+ t.recorder.nand) ∧
      (pass0 = true → pass1 = true → t.persist.wear = s.persist.wear - 131072 ∧ t.flash = s.flash) ∧
      (pass0 = true → s.recorder.dropsOwed = true → s.recorder.logDroppedAt = none → s.notices.pend = [] →
        t.recorder.logDroppedAt = some s.clock.now ∧ ∃ n ∈ t.notices.pend, n.code = 0x0B02) ∧
      (pass0 = false → pass1 = false → t.recorder.sramOnly = true ∧ t.recorder.nand = s.recorder.nand) ∧
      t.dram = s.dram ∧ t.host = s.host ∧ t.cf = s.cf := by
  have hdram : u.dram = s.dram ∧ u.host = s.host ∧ u.cf = s.cf ∧ u.clock = s.clock := by
    rw [hu.eq]
    exact ⟨rfl, rfl, rfl, rfl⟩
  obtain ⟨hdram, hhost, hcf, hclock⟩ := hdram
  dsimp only
  split
  · rename_i hpass
    obtain ⟨hprog, hnand, hat, howed⟩ := programFull_stands u rs
    obtain ⟨hreport, hsame, hsent⟩ := reportDrops_stands (programFull u rs)
    generalize reportDrops (programFull u rs) = t at hreport hsame hsent ⊢
    generalize programFull u rs = p at hprog hnand hat howed hreport hsame hsent
    have hstand : t.flash = u.flash ∧ t.persist.wear = u.persist.wear - (logPageBytes u : Int) ∧ t.dram = u.dram ∧ t.host = u.host ∧
        t.cf = u.cf := by
      rw [hreport, hprog]
      exact ⟨rfl, rfl, rfl, rfl, rfl⟩
    have hearlier : p.clock = u.clock ∧ p.notices = u.notices := by
      rw [hprog]
      exact ⟨rfl, rfl⟩
    obtain ⟨hflash, hwear, hd, hh, hc⟩ := hstand
    refine ⟨(congrArg (fun f : Flash => f.mirrors[(0 : Fin 2)].ok) hflash).trans hu.first,
      (congrArg (fun f : Flash => f.mirrors[(1 : Fin 2)].ok) hflash).trans hu.second, fun _ => hsame ▸ hnand, fun p0 p1 => ?_, fun p0 ho hl hn => ?_,
      fun p0 p1 => absurd hpass (by rw [p0, p1]; exact Bool.false_ne_true), hd.trans hdram, hh.trans hhost, hc.trans hcf⟩
    · rw [hwear, hflash, hu.passed p0 p1, hbytes]
      exact ⟨rfl, rfl⟩
    · rw [← hclock, ← hearlier.1]
      exact hsent (howed (hu.records.owed ho)) (hat.trans (hu.records.reported.trans hl)) (by rw [hearlier.2, hu.notices p0, hn])
  · rename_i hno
    have hfail : pass0 = false ∧ pass1 = false := by
      rw [Bool.or_eq_true, not_or] at hno
      exact ⟨eq_false_of_ne_true hno.1, eq_false_of_ne_true hno.2⟩
    obtain ⟨rfl, rfl⟩ := hfail
    refine ⟨hu.first, hu.second, fun h => absurd (h.elim id id) Bool.false_ne_true, fun h => absurd h Bool.false_ne_true,
      fun h => absurd h Bool.false_ne_true, fun _ _ => ⟨?_, hu.records.nand⟩, hdram, hhost, hcf⟩
    rw [hu.records.sramOnly]
    exact Bool.or_true _

/-- A read that a mirror gives changes nothing. -/
theorem readLog_given {s : State} {ok0 ok1 : Bool} (h0 : ok0 = true) (h : s.flash.mirrors[(0 : Fin 2)].ok = true ∨ ok1 = true) :
    readLog s ok0 ok1 = s := by
  unfold readLog
  split
  · rfl
  · rename_i hno
    obtain hok | rfl := h
    · exact absurd (Bool.and_eq_true_iff.2 ⟨hok, h0⟩) hno
    · subst h0
      rfl

/-! ## Settled -/

/-- Settles O45: a log page by `mirrorsTried`, `programFull_stands` and `reportDrops_stands`, the sweep by `sweepSuppressed_drops`, a
checkpoint by `writeCheckpoint_words`. -/
theorem recorderKeepsItsRecords : Obligations.RecorderKeepsItsRecords := by
  refine ⟨fun s rs pass0 pass1 hfull hlog hsv h0 h1 => ?_, fun s hup hdue => ?_, fun s a hup hcr hsv hdue ha => ?_,
    fun s l recno => ⟨fun hserves => congrArg Host.Outcome.next (if_pos hserves), fun hfetch hsv => ⟨fun r ok0 ok1 hr hread => ?_,
      fun ok0 ok1 hnone => ?_⟩⟩⟩
  · exact ⟨_, exec_logPageProgram hfull hlog hsv h0 h1 pass0 pass1,
      logPageProgrammed (mirrorsTried h0 h1 pass0 pass1) rs (logPageBytes_both h0 h1)⟩
  · obtain ⟨rc, hframe⟩ := sweepSuppressed_frame s
    refine ⟨sweepSuppressed s, congrArg Host.Outcome.next (if_pos ?_), ?_, sweepSuppressed_sweptAt s, sweepSuppressed_drops s⟩
    · rw [hup]
      exact decide_eq_true hdue
    · rw [hframe]
  · refine ⟨writeCheckpoint s, congrArg Host.Outcome.next (if_pos ?_), writeCheckpoint_words ha⟩
    rw [hup, hcr, hsv]
    exact decide_eq_true hdue
  · change execLogFetchComplete l ok0 ok1 s = _
    unfold execLogFetchComplete
    rw [hr, if_pos ⟨hfetch, by rw [hsv]; rfl⟩]
    dsimp only
    obtain hsram | ⟨hok, hmirror⟩ := hread
    · rw [hsram, if_neg Bool.false_ne_true, hr]
      rfl
    · rw [readLog_given hok hmirror, ite_self, hr]
      rfl
  · change execLogFetchComplete l ok0 ok1 s = _
    unfold execLogFetchComplete
    rw [hnone, if_pos ⟨hfetch, by rw [hsv]; rfl⟩]
    dsimp only
    rw [hnone]
    rfl

end Sys2Proof.Machine
end

section
/-! A notice held back from the SMBus (O44). -/

namespace Sys2Proof.Machine

open Sys2Proof

/-- The notice whose transfer on the SMBus failed for good, no further notice raised since (R442). -/
def heldNotice : Notice :=
  { seq := 1, code := 0x0203, cls := 0, late := false, merged := false, powerCycle := 0, opTime := 0, repeats := 0, drops := 0,
    payload := [], aliases := [], aonFull := false, deliveredOn := [], onLinks := [], inRings := [], firstAt := none,
    announcedAt := 0, disregarded := false, smbHeld := some State.reset.notices.nextSeq }

/-- A state in which that notice alone is pending, a notify address registered and the SMBus free. -/
def noticeHeldBack : State :=
  { State.reset with
    power := { State.reset.power with aon := true },
    smb := { State.reset.smb with notify := some 0x21 },
    notices := { State.reset.notices with pend := [heldNotice] } }

theorem noticeHeldBack_next : nextFor noticeHeldBack (smbMaySend noticeHeldBack) = none := by decide

theorem exec_noticeHeldBack : exec (.noticeDeliver .smbus) noticeHeldBack = .next noticeHeldBack := by
  have hsend : sendNextNotice noticeHeldBack = noticeHeldBack := by
    have hdone : completeSmb noticeHeldBack = noticeHeldBack := rfl
    unfold sendNextNotice
    dsimp only
    rw [hdone, noticeHeldBack_next]
    rfl
  exact congrArg Host.Outcome.next ((if_neg (by decide)).trans hsend)

/-- Refutes O44: a notice whose transfer on the SMBus failed for good is the next one that SMBus has not had, and is not sent there
again until a further notice is raised or it is announced again (R442). -/
theorem not_noticesReachTheirCarriers : ¬ Obligations.NoticesReachTheirCarriers := by
  rintro ⟨_, hsmbus, _⟩
  obtain ⟨t, hexec, hsending, _⟩ := hsmbus noticeHeldBack 0x21 heldNotice rfl rfl (by decide) rfl rfl (by decide) (by decide)
  rw [← Host.Outcome.next.inj (exec_noticeHeldBack.symm.trans hexec)] at hsending
  exact absurd hsending (by decide)

end Sys2Proof.Machine
end

section
/-! The ROM routine of the code flash (O46). -/

namespace Sys2Proof.Machine

open Sys2Proof

/-! ## A call with no call in progress (R382) -/

/-- A program meets the refusals of Table 16-2 in their order, else its pulse begins. -/
theorem exec_cfProgram {s : State} (h : romFree s = true) (address : Nat) (data : DWord) : exec (.cfProgram address data) s = .next
    (if address % 8 ≠ 0 ∨ cfBytes ≤ address then romReturn s romRange 0
    else if cfProtected s (address / 8 / 512) then romReturn s romProtected 0
    else if s.cf.suspended = some (address / 8 / 512) then romReturn s romBusy 0
    else if !cfWordBlank s (address / 8) then romReturn s romNotBlank 0
    else if s.cf.blocked then romReturn { s with cf := { s.cf with notDone := true } } romNotDone 0
    else { s with cf := { s.cf with op := .program, sector := address / 8 / 512, target := some (address / 8, data) } }) :=
  congrArg Host.Outcome.next (if_neg (by rw [h]; exact Bool.false_ne_true))

/-- An erase, outside a save. -/
theorem exec_cfErase {s : State} (h : romFree s = true) (hs : saving s = false) (sector : Nat) : exec (.cfErase sector) s = .next
    (if 8192 ≤ sector then romReturn s romRange 0
    else if cfProtected s sector then romReturn s romProtected 0
    else if s.cf.suspended.isSome then romReturn s romBusy 0
    else if s.cf.blocked then romReturn { s with cf := { s.cf with notDone := true } } romNotDone 0
    else { s with cf := { s.cf with op := .erase, sector := sector, target := none } }) :=
  congrArg Host.Outcome.next (if_neg (by rw [h, hs]; exact Bool.false_ne_true))

theorem exec_cfResume {s : State} {sector : Nat} (h : romFree s = true) (hs : saving s = false) (hsus : s.cf.suspended = some sector)
    (hb : s.cf.blocked = false) : exec .cfResume s = .next { s with
      cf := { s.cf with op := .erase, sector := sector, suspended := none, target := none } } := by
  refine congrArg Host.Outcome.next ((if_neg (by rw [h, hs]; exact Bool.false_ne_true)).trans ?_)
  rw [hsus]
  exact if_neg (by rw [hb]; exact Bool.false_ne_true)

/-! ## The end of an operation (R384, R385) -/

theorem cfIdle_of_none {c : CodeFlash} (h : c.suspended = none) (notDone : Bool) :
    cfIdle c notDone = { c with op := .idle, notDone := notDone, target := none } := by
  unfold cfIdle
  rw [h]

theorem cfIdle_notDone (c : CodeFlash) (notDone : Bool) : (cfIdle c notDone).notDone = notDone := by
  unfold cfIdle
  split <;> rfl

theorem programHeld_of_nil {s : State} (h : s.cf.held = []) : programHeld s = s := by
  have hsame : ({ s.cf with held := [] } : CodeFlash) = s.cf := (congrArg (fun l => ({ s.cf with held := l } : CodeFlash)) h.symm :)
  unfold programHeld
  split
  · rfl
  · rw [h, List.foldl_nil, hsame]

theorem exec_cfOperationComplete_program {s : State} {a : Nat} {d : DWord} (hsus : s.cf.suspended = none) (hop : s.cf.op = .program)
    (htarget : s.cf.target = some (a, d)) (hblank : cfBlank s a = true) : exec .cfOperationComplete s = .next (programHeld { s with
      cf := { s.cf with words := kvSet s.cf.words a ⟨d, false⟩, op := .idle, notDone := false, target := none },
      out := s.out ++ [.romCall romOk 0] }) := by
  have hput : cfPut s a d = { s with cf := { s.cf with words := kvSet s.cf.words a ⟨d, false⟩ } } := if_pos hblank
  change execCfOperationComplete s = _
  unfold execCfOperationComplete
  rw [hop, htarget]
  dsimp only
  rw [hput, cfIdle_of_none (by exact hsus)]
  rfl

/-- The state at the end of an erase, before what waited for it. -/
def eraseEnded (s : State) : State :=
  let t := sectorGone (cfEraseSector s s.cf.sector) s.cf.sector
  romReturn { t with cf := cfIdle t.cf false } romOk 0

theorem exec_cfOperationComplete_erase {s : State} (hop : s.cf.op = .erase) :
    exec .cfOperationComplete s = .next (programHeld (eraseEnded s)) := by
  change execCfOperationComplete s = _
  unfold execCfOperationComplete
  rw [hop]
  rfl

theorem eraseEnded_cf {s : State} (hsus : s.cf.suspended = none) : (eraseEnded s).cf = { s.cf with
    words := s.cf.words.filter (fun w => w.1 / 512 != s.cf.sector), op := .idle, notDone := false, target := none } :=
  cfIdle_of_none (c := { s.cf with words := s.cf.words.filter (fun w => w.1 / 512 != s.cf.sector) }) hsus false

/-! ## A brown-out (R388) -/

theorem exec_cfBrownout {s : State} (h : coreUp s = true) :
    let t := if s.cf.op = .program ∨ s.cf.op = .erase then romReturn (cfPowerLoss s) romNotDone 0 else s
    exec .cfBrownout s = .next { t with cf := { t.cf with blocked := true } } :=
  congrArg Host.Outcome.next (if_neg (by rw [h]; exact Bool.false_ne_true))

/-- A pulse that is cut off has not done its work. -/
theorem cfPowerLoss_notDone {s : State} (h : s.cf.op = .program ∨ s.cf.op = .erase) : (cfPowerLoss s).cf.notDone = true := by
  unfold cfPowerLoss
  obtain hop | hop := h <;> rw [hop] <;> dsimp only
  · split
    · exact cfIdle_notDone s.cf true
    · exact cfIdle_notDone s.cf true
  · exact cfIdle_notDone _ true

/-! ## Settled -/

/-- Settles O46: each call is one row of its ladder; the operations that end by `exec_cfOperationComplete_program` and `eraseEnded_cf`, a
brown-out by `cfPowerLoss_notDone`. -/
theorem codeFlashCallsReturn : Obligations.CodeFlashCallsReturn := by
  refine ⟨fun s address data hfree => ?_, fun s sector hfree hsv => ?_, fun s hfree => congrArg Host.Outcome.next (if_pos hfree),
    fun s hsus => ⟨fun a d hop htarget hblank => exec_cfOperationComplete_program hsus hop htarget hblank,
      fun hop => ⟨eraseEnded s, exec_cfOperationComplete_erase hop, eraseEnded_cf hsus, rfl, rfl, rfl, rfl, rfl⟩,
      programHeld_of_nil⟩,
    fun s hup => ⟨?_, _, congrArg Host.Outcome.next (if_pos hup), ?_, ?_⟩⟩
  · rw [exec_cfProgram hfree]
    refine ⟨fun hrange => ?_, fun haligned hinside => ?_⟩
    · rw [if_pos hrange]
      rfl
    · rw [if_neg (not_or.2 ⟨not_not.2 haligned, Nat.not_le.2 hinside⟩)]
      refine ⟨fun hprot => ?_, fun hprot hsus => ⟨fun hblank => ?_, fun hblank hopen => ?_⟩⟩
      · rw [if_pos hprot]
        rfl
      · rw [hprot, if_neg Bool.false_ne_true, if_neg hsus, hblank]
        rfl
      · rw [hprot, if_neg Bool.false_ne_true, if_neg hsus, hblank, hopen]
        rfl
  · refine ⟨fun hrange => ?_, fun hinside hprot => ?_, fun hinside hprot hsus hopen => ?_,
      fun hsus hopen => exec_cfResume hfree hsv hsus hopen⟩
    all_goals rw [exec_cfErase hfree hsv]
    · rw [if_pos hrange]
      rfl
    · rw [if_neg (Nat.not_le.2 hinside), if_pos hprot]
      rfl
    · rw [if_neg (Nat.not_le.2 hinside), hprot, hsus, hopen]
      rfl
  · refine ⟨_, exec_cfBrownout hup, ?_⟩
    obtain ⟨fresh, cf, fw, recorder, hframe⟩ := cfPowerLoss_frame s
    by_cases hpulse : s.cf.op = .program ∨ s.cf.op = .erase
    · rw [if_pos hpulse]
      refine ⟨rfl, ?_, ?_, fun _ => ⟨?_, cfPowerLoss_notDone hpulse⟩⟩
      · exact (congrArg State.dram hframe :)
      · exact (congrArg State.host hframe :)
      · exact (congrArg (fun t : State => t.out ++ [.romCall romNotDone 0]) hframe :)
    · rw [if_neg hpulse]
      exact ⟨rfl, rfl, rfl, fun h => absurd h hpulse⟩
  · rw [logEvent_frame]
  · rw [logEvent_frame]

end Sys2Proof.Machine
end

section
/-! The Halyard ports and the relay down the chain (O49, O50). -/

namespace Sys2Proof.Machine

open Sys2Proof

/-! ## A chunk that fails its CRC-32 after a save (R404, R405) -/

/-- A module in pass-through whose upstream port is up at version 2 and owes one credit that a save held back. -/
def creditWithheld : State :=
  { State.reset with
    power := { State.reset.power with state := .run, minimal := true, aon := true },
    rails := { State.reset.rails with rail := vecMod State.reset.rails.rail 11 fun x => { x with run := .qualified } },
    fw := { State.reset.fw with up := { State.reset.fw.up with version := 2, withheld := 1 } } }

theorem exec_creditWithheld : exec (.chunk 0 0 0 0 []) creditWithheld = .next (takeChunk (setPort (heard creditWithheld true) true
    fun p => { p with pieces := [], partialAt := none }) { package := 0, offset := 0, total := 0, crc := 0, data := [] }) :=
  congrArg Host.Outcome.next (if_neg (by decide))

theorem creditWithheld_out : (takeChunk (setPort (heard creditWithheld true) true fun p => { p with pieces := [], partialAt := none })
    { package := 0, offset := 0, total := 0, crc := 0, data := [] }).out = [.halyard true 3 (leBytes 4 0 ++ leBytes 1 2)] := by decide

/-- Refutes O50: the credit of a chunk that fails its check goes out together with those that a save held back. -/
theorem not_halyardRelaysTheChain : ¬ Obligations.HalyardRelaysTheChain := by
  rintro ⟨hchunk, _⟩
  obtain ⟨hbad, _⟩ := hchunk creditWithheld 0 0 0 0 [] _ rfl (by decide) rfl (by decide)
  obtain ⟨t, hexec, _, _, _, _, hout⟩ := hbad (.inr (by decide))
  have hsent := creditWithheld_out
  rw [Host.Outcome.next.inj (exec_creditWithheld.symm.trans hexec), hout] at hsent
  exact absurd hsent (by decide)

/-! ## What goes up and down the chain -/

/-- The report may end: it is marked, and a notice sent. -/
theorem checkReport_frame (s : State) : ∃ done, checkReport s = { withNotes s (checkReport s) with fw := { s.fw with reportDone := done } } := by
  unfold checkReport finishReport
  split
  · split
    · exact ⟨_, rfl⟩
    · dsimp only
      split
      · split
        · rw [raise_frame]
          exact ⟨_, rfl⟩
        · exact ⟨_, rfl⟩
      · exact ⟨_, rfl⟩
  · exact ⟨_, rfl⟩

/-- The activation of the chain may be complete: it is marked, and a notice sent. -/
theorem checkChainDone_frame (s : State) : ∃ done, checkChainDone s =
    { withNotes s (checkChainDone s) with fw := { s.fw with chainDone := done } } := by
  unfold checkChainDone
  split
  · rw [raise_frame]
    exact ⟨_, rfl⟩
  · exact ⟨_, rfl⟩

theorem sendStatus_frame (s : State) : ∃ out, sendStatus s = { s with out := out } := by
  unfold sendStatus
  split <;> exact ⟨_, rfl⟩

/-- The status list goes up; the report and the activation of the chain may be complete with it. -/
theorem reported_frame (s : State) : ∃ out report chain, checkChainDone (checkReport (sendStatus s)) =
    { withNotes s (checkChainDone (checkReport (sendStatus s))) with
      fw := { s.fw with reportDone := report, chainDone := chain }, out := out } := by
  obtain ⟨out, hout⟩ := sendStatus_frame s
  obtain ⟨report, hreport⟩ := checkReport_frame (sendStatus s)
  obtain ⟨chain, hchain⟩ := checkChainDone_frame (checkReport (sendStatus s))
  refine ⟨out, report, chain, ?_⟩
  generalize checkChainDone (checkReport (sendStatus s)) = t at hchain ⊢
  rw [hchain, hreport, hout]
  rfl

/-- A credit for an upstream port that is up, outside a save: with it go those that were held back (R404). -/
theorem sendCredit_up {s : State} (hup : s.fw.up.version ≠ 0) (hsv : saving s = false) (credits : Nat) : sendCredit s credits = { s with
    fw := { s.fw with up := { s.fw.up with withheld := 0 } },
    out := s.out ++ [.halyard true 3 (leBytes 4 s.fw.resumeAt ++ leBytes 1 (s.fw.up.withheld + credits))] } := by
  have hsv' : saving (setFw s fun f => { f with up := { f.up with withheld := 0 } }) = false := hsv
  unfold sendCredit
  rw [if_neg hup, hsv]
  dsimp only
  rw [if_neg Bool.false_ne_true, hsv']
  rfl

theorem sendCredit_frame (s : State) (credits : Nat) : ∃ withheld out, sendCredit s credits = { s with
    fw := { s.fw with up := { s.fw.up with withheld := withheld } }, out := out } := by
  unfold sendCredit
  split <;> exact ⟨_, _, rfl⟩

theorem sendRelay_of_none {s : State} (h : s.fw.relayed = none) (n : Nat) : sendRelay n s = s := by
  cases n with
  | zero => rfl
  | succ n =>
    unfold sendRelay
    rw [h]

theorem checkPosition_frame (s : State) (up : Bool) (v position : Nat) :
    checkPosition s up v position = withNotes s (checkPosition s up v position) := by
  unfold checkPosition
  dsimp only
  split
  · rfl
  · rw [raise_frame]
    rfl

/-! ## Ports -/

theorem portOf_setPort_same (s : State) (up : Bool) (f : HyPort → HyPort) : portOf (setPort s up f) up = f (portOf s up) := by
  cases up <;> rfl

theorem portOf_setPort_not (s : State) (up : Bool) (f : HyPort → HyPort) : portOf (setPort s up f) (!up) = portOf s (!up) := by
  cases up <;> rfl

/-- A port that a HELLO at version `v` has brought up (R402, R403). -/
def helloed (s : State) (up : Bool) (v position : Nat) : State :=
  let fresh := (portOf s up).version == 0
  setPort (checkPosition s up v position) up fun p => { p with
    version := v, lastAt := (checkPosition s up v position).clock.now, peer := if v = 2 then position else 0,
    credits := if fresh then 0 else p.credits, withheld := if fresh then 0 else p.withheld }

theorem exec_hello {s : State} (h : portsWork s = true) (up : Bool) {versions : Word} (hv : commonVersion versions ≠ 0)
    (position chainLen : Nat) (part : BitVec 16) (fwVersion : Word) :
    exec (.hello up versions position chainLen part fwVersion) s = .next
      (if (up && (portOf s up).version == 0) = true then sendCredit (helloed s up (commonVersion versions) position) 8
      else helloed s up (commonVersion versions) position) := by
  refine congrArg Host.Outcome.next ((if_neg (by rw [h]; exact Bool.false_ne_true)).trans ?_)
  exact if_neg hv

/-- What a HELLO leaves of the ports. -/
structure PortHelloed (s t : State) (up : Bool) (v position : Nat) : Prop where
  version : (portOf t up).version = v
  heard : (portOf t up).lastAt = s.clock.now
  peer : (portOf t up).peer = if v = 2 then position else 0
  other : portOf t (!up) = portOf s (!up)
  rest : t = { withNotes s t with fw := t.fw, out := t.out }

theorem helloed_stands (s : State) (up : Bool) (v position : Nat) : PortHelloed s (helloed s up v position) up v position := by
  have hcheck := checkPosition_frame s up v position
  unfold helloed
  dsimp only
  generalize checkPosition s up v position = u at hcheck ⊢
  have hport (b : Bool) : portOf u b = portOf s b := by rw [hcheck]; rfl
  have hclock : u.clock = s.clock := by rw [hcheck]; rfl
  refine ⟨?_, ?_, ?_, ?_, ?_⟩
  · rw [portOf_setPort_same]
  · rw [portOf_setPort_same, hclock]
  · rw [portOf_setPort_same]
  · rw [portOf_setPort_not, hport]
  · unfold setPort setFw
    rw [hcheck]
    rfl

theorem sendCredit_helloed {s t : State} {v position : Nat} (h : PortHelloed s t true v position) (credits : Nat) :
    PortHelloed s (sendCredit t credits) true v position := by
  obtain ⟨withheld, out, hframe⟩ := sendCredit_frame t credits
  obtain ⟨hversion, hheard, hpeer, hother, hrest⟩ := h
  rw [hframe]
  refine ⟨hversion, hheard, hpeer, hother, ?_⟩
  rw [hrest]
  rfl

/-- A port that heard nothing is reset, but for the frame under way. -/
def portDowned (s : State) (up : Bool) : State :=
  raise (setPort s up fun q => { resetPort with partialAt := q.partialAt, pieces := q.pieces }) 0x0C04 [bit (!up), (portOf s up).peer]

theorem exec_halyardPortDown {s : State} {up : Bool} (h : portUp s up = true) (hdue : due s (portOf s up).lastAt 1000 = true) :
    exec (.halyardPortDown up) s = .next
      (if up then portDowned s up else checkChainDone (checkReport (sendStatus (loseDownstream (portDowned s up))))) :=
  congrArg Host.Outcome.next (if_neg (by rw [h, hdue]; exact Bool.false_ne_true))

theorem portDowned_eq (s : State) (up : Bool) : portDowned s up = { withNotes s (portDowned s up) with
    fw := (setPort s up fun q => { resetPort with partialAt := q.partialAt, pieces := q.pieces }).fw } := by
  unfold portDowned
  rw [raise_frame]
  rfl

/-! ## Settled -/

/-- Settles O49: a HELLO by `helloed_stands` and `sendCredit_up`, a port that goes down by `portDowned_eq` and `reported_frame`. -/
theorem halyardPortsComeAndGo : Obligations.HalyardPortsComeAndGo := by
  refine ⟨fun s up versions position chainLen part fwVersion hwork => ⟨fun hv => ?_, fun hv => ⟨_, exec_hello hwork up hv position chainLen part fwVersion, ?_⟩⟩,
    fun s hwork => ?_, fun s up hup hdue => ⟨_, exec_halyardPortDown hup hdue, ?_⟩, fun s up at_ hat hdue => ?_⟩
  · refine ⟨logEvent s (Config.unnamedEvent 5) 1 [], congrArg Host.Outcome.next
      ((if_neg (by rw [hwork]; exact Bool.false_ne_true)).trans (if_pos hv)), ?_⟩
    rw [logEvent_frame]
  · have hstand := helloed_stands s up (commonVersion versions) position
    split
    · rename_i hfresh
      obtain ⟨rfl, hzero⟩ := Bool.and_eq_true_iff.1 hfresh
      have hcredit := sendCredit_helloed hstand 8
      refine ⟨hcredit.version, hcredit.heard, hcredit.peer, hcredit.other, fun _ _ hsv => ?_, hcredit.rest⟩
      have hkept : saving (helloed s true (commonVersion versions) position) = false ∧
          (helloed s true (commonVersion versions) position).fw.resumeAt = s.fw.resumeAt ∧
          (helloed s true (commonVersion versions) position).fw.up.withheld = 0 := by
        have hcheck := checkPosition_frame s true (commonVersion versions) position
        unfold helloed
        dsimp only
        rw [hzero]
        generalize checkPosition s true (commonVersion versions) position = u at hcheck ⊢
        rw [hcheck]
        exact ⟨hsv, rfl, rfl⟩
      obtain ⟨hsv', hresume, hwithheld⟩ := hkept
      have hup : (helloed s true (commonVersion versions) position).fw.up.version ≠ 0 := hstand.version.symm ▸ hv
      rw [sendCredit_up hup hsv', hresume, hwithheld]
      exact List.mem_append_right _ (List.mem_singleton.2 rfl)
    · rename_i hfresh
      refine ⟨hstand.version, hstand.heard, hstand.peer, hstand.other, fun hup hzero _ => absurd ?_ hfresh, hstand.rest⟩
      rw [hup, ← hup, hzero, hup]
      rfl
  · have hexec : exec .helloTimer s = .next (afterSave (emit (emit s (.halyard true 1 (helloPayload s))) (.halyard false 1 (helloPayload s)))) :=
      congrArg Host.Outcome.next (if_pos hwork)
    refine ⟨fun hquiet => hexec.trans (congrArg Host.Outcome.next ?_), fun hsv hheld hver hrelay => hexec.trans (congrArg Host.Outcome.next ?_)⟩
    · unfold afterSave
      split
      · rfl
      · rename_i hsv
        obtain hsaving | ⟨hnone, hrelay⟩ := hquiet
        · exact absurd hsaving hsv
        · rw [if_pos (by exact hnone), sendRelay_of_none (by exact hrelay)]
          rfl
    · unfold afterSave
      rw [if_neg (by rw [show saving (emit (emit s _) _) = saving s from rfl, hsv]; exact Bool.false_ne_true), if_neg (by exact hheld),
        sendCredit_up (by exact hver) (by exact hsv), sendRelay_of_none (by exact hrelay)]
      rfl
  · have hdown := portDowned_eq s up
    cases up
    · obtain ⟨out, report, chain, hrep⟩ := reported_frame (loseDownstream (portDowned s false))
      rw [if_neg Bool.false_ne_true]
      generalize checkChainDone (checkReport (sendStatus (loseDownstream (portDowned s false)))) = t at hrep ⊢
      generalize portDowned s false = u at hdown hrep
      have hfw : u.fw = { s.fw with dn := { resetPort with partialAt := s.fw.dn.partialAt, pieces := s.fw.dn.pieces } } :=
        (congrArg State.fw hdown :)
      have hfw' : t.fw = { (loseDownstream u).fw with reportDone := report, chainDone := chain } := (congrArg State.fw hrep :)
      refine ⟨?_, ?_, fun _ e he => ?_, fun h => absurd h Bool.false_ne_true, ?_⟩
      · unfold portOf
        rw [hfw']
        exact (congrArg (fun f : Firmware => f.dn.version) hfw :)
      · unfold portOf
        rw [hfw']
        exact (congrArg (fun f : Firmware => f.up) hfw :)
      · rw [hfw'] at he
        obtain ⟨e', -, rfl⟩ := List.mem_map.1 he
        rfl
      · rw [hrep, hdown]
        rfl
    · rw [if_pos rfl]
      generalize portDowned s true = t at hdown ⊢
      have hfw : t.fw = { s.fw with up := { resetPort with partialAt := s.fw.up.partialAt, pieces := s.fw.up.pieces } } :=
        (congrArg State.fw hdown :)
      refine ⟨?_, ?_, fun h => absurd h.symm Bool.false_ne_true, fun _ => ?_, ?_⟩
      · unfold portOf
        rw [hfw]
        rfl
      · unfold portOf
        rw [hfw]
        rfl
      · rw [hfw]
      · rw [hdown]
        rfl
  · refine ⟨setPort s up fun p => { p with partialAt := none, pieces := [] }, ?_, portOf_setPort_same _ _ _, portOf_setPort_not _ _ _, rfl⟩
    change execHalyardFrameTimeout up s = _
    unfold execHalyardFrameTimeout
    rw [hat]
    exact congrArg Host.Outcome.next (if_pos hdue)

end Sys2Proof.Machine
end

section
/-! Firmware chunks and activation over QMP, the owner lock, and the debug challenge (O47). -/

namespace Sys2Proof.Machine

open Sys2Proof

/-! ## A chunk in the half not running (R338, R400) -/

/-- A sector that is erased is blank. -/
theorem cfEraseSector_blank (s : State) {sec a : Nat} (h : a / 512 = sec) : cfBlank (cfEraseSector s sec) a = true := by
  have hgone : kvGet (cfEraseSector s sec).cf.words a = none :=
    (kvGet_filter s.cf.words (fun k => k / 512 != sec) a).trans
      (if_neg (by rw [h, bne_self_eq_false]; exact Bool.false_ne_true))
  unfold cfBlank
  rw [hgone]
  rfl

theorem programChunk_frame (s : State) (sec : Nat) (data : List Byte) :
    ∃ words, programChunk s sec data = { s with cf := { s.cf with words := words } } := by
  obtain ⟨words, h⟩ := cfPuts_flash (chunkWords data).length (cfEraseSector s sec) (sectorBase sec) fun i => (chunkWords data).getD i 0
  exact ⟨words, h⟩

theorem chunkWords_length (data : List Byte) : (chunkWords data).length = (data.length + 7) / 8 := by
  unfold chunkWords
  rw [List.length_map, List.length_range]

/-- A chunk lies in its sector, word by word. -/
theorem programChunk_words (s : State) (sec : Nat) {data : List Byte} (h : data.length ≤ 4096) : ∀ i < (chunkWords data).length,
    kvGet (programChunk s sec data).cf.words (sectorBase sec + i) = some ⟨(chunkWords data).getD i 0, false⟩ := by
  have hlen := chunkWords_length data
  refine (cfPuts_words (s := cfEraseSector s sec) (fun i => (chunkWords data).getD i 0) fun i hi => cfEraseSector_blank s ?_).1
  unfold sectorBase
  omega

/-- The module's own entry changes; where it does, a status frame may go up. -/
theorem setOwn_frame (s : State) (r : EntryRun) : ∃ out, setOwn s r = { s with fw := { s.fw with entry := r }, out := out } := by
  unfold setOwn sendStatus
  split
  · rename_i h
    subst h
    exact ⟨_, rfl⟩
  · split <;> exact ⟨_, rfl⟩

theorem setImage_frame (s : State) (b : Bool) (h : Option FwHeader) : setImage s b h = { s with
    fw := { s.fw with imageA := if b then s.fw.imageA else h, imageB := if b then h else s.fw.imageB } } := by
  unfold setImage
  cases b <;> rfl

/-- What staging a chunk leaves: the package and its first missing byte, and the chunk in its sector. -/
structure ChunkStaged (s : State) (k : HyChunk) (t : State) : Prop where
  eq : t = { s with cf := { s.cf with words := t.cf.words }, fw := t.fw, out := t.out }
  phase : t.fw.phase = .staging
  entry : t.fw.entry = .staging
  package : (t.fw.staging.map fun g => (g.packageId, g.missing)) = some (k.package, k.offset + k.data.length)
  words : k.data.length ≤ 4096 → ∀ i < (chunkWords k.data).length,
    kvGet t.cf.words (sectorBase (halfSector (stagingHalf s) + k.offset / 4096) + i) = some ⟨(chunkWords k.data).getD i 0, false⟩
  waiting : t.fw.waiting = s.fw.waiting

/-- What is staged once a chunk has come (R400). -/
def stagedWith (s : State) (k : HyChunk) (owner : Option Byte) : Staging :=
  match s.fw.staging with
  | some g =>
    if k.offset = 0 then { packageId := k.package, total := k.total, missing := k.data.length, owner := owner, lastAt := s.clock.now,
                           header := some (parseHeader k.data), whole := false }
    else { g with missing := k.offset + k.data.length, owner := owner, lastAt := s.clock.now }
  | none => { packageId := k.package, total := k.total, missing := k.data.length, owner := owner, lastAt := s.clock.now,
              header := some (parseHeader k.data), whole := false }

theorem stageChunk_eq (s : State) (k : HyChunk) (owner : Option Byte) :
    let u := programChunk s (halfSector (stagingHalf s) + k.offset / 4096) k.data
    stageChunk s k owner = setOwn (setFw (if k.offset = 0 then setImage u (stagingHalf s) none else u) fun f =>
      { f with staging := some (stagedWith u k owner), phase := .staging, reportDone := false, chainDone := false }) .staging := by
  unfold stageChunk stagedWith
  rfl

theorem stagedWith_package {s : State} {k : HyChunk} (h : k.offset = 0 ∨ ∃ g, s.fw.staging = some g ∧ g.packageId = k.package)
    (owner : Option Byte) : (stagedWith s k owner).packageId = k.package ∧ (stagedWith s k owner).missing = k.offset + k.data.length := by
  unfold stagedWith
  obtain hzero | ⟨g, hg, hpackage⟩ := h
  · have hlength : k.data.length = k.offset + k.data.length := by rw [hzero, Nat.zero_add]
    split
    · rw [if_pos hzero]
      exact ⟨rfl, hlength⟩
    · exact ⟨rfl, hlength⟩
  · rw [hg]
    dsimp only
    split
    · rename_i hzero
      exact ⟨rfl, by rw [hzero, Nat.zero_add]⟩
    · exact ⟨hpackage, rfl⟩

theorem stageChunk_stands {s : State} {k : HyChunk} (h : k.offset = 0 ∨ ∃ g, s.fw.staging = some g ∧ g.packageId = k.package)
    (owner : Option Byte) : ChunkStaged s k (stageChunk s k owner) := by
  rw [stageChunk_eq]
  obtain ⟨words, hprog⟩ := programChunk_frame s (halfSector (stagingHalf s) + k.offset / 4096) k.data
  have hwords := programChunk_words s (halfSector (stagingHalf s) + k.offset / 4096) (data := k.data)
  generalize programChunk s (halfSector (stagingHalf s) + k.offset / 4096) k.data = u at hprog hwords ⊢
  have hcf : u.cf.words = words := by rw [hprog]
  have hstaged := stagedWith_package (s := u) (k := k) (by rw [hprog]; exact h) owner
  generalize stagedWith u k owner = g at hstaged ⊢
  obtain ⟨hpackage, hmissing⟩ := hstaged
  have himage : ∃ a b, (if k.offset = 0 then setImage u (stagingHalf s) none else u) =
      { u with fw := { u.fw with imageA := a, imageB := b } } := by
    split
    · rw [setImage_frame]
      exact ⟨_, _, rfl⟩
    · exact ⟨_, _, rfl⟩
  obtain ⟨a, b, himage⟩ := himage
  rw [himage]
  obtain ⟨out, hown⟩ := setOwn_frame (setFw { u with fw := { u.fw with imageA := a, imageB := b } } fun f =>
    { f with staging := some g, phase := .staging, reportDone := false, chainDone := false }) .staging
  rw [hown]
  refine ⟨?_, rfl, rfl, ?_, fun hlen => hwords hlen, ?_⟩
  · rw [hprog]
    rfl
  · exact congrArg some (Prod.ext hpackage hmissing)
  · exact (congrArg (fun t : State => t.fw.waiting) hprog :)

/-- The chunk is the first of a package where none is staged, or the next one of the package that its session sends. -/
abbrev chunkFollows (s : State) (k : HyChunk) (session : Byte) : Prop :=
  s.fw.staging = none ∧ k.offset = 0 ∧ (parseHeader k.data).packageId = k.package ∨
    k.offset ≠ 0 ∧ ∃ g, s.fw.staging = some g ∧ g.packageId = k.package ∧ g.total = k.total ∧ g.missing = k.offset ∧ g.owner = some session

theorem notInChain {s : State} (h : inChain s = false) : inCrocus s = false := by
  unfold inChain at h
  rw [Bool.or_eq_false_iff, Bool.or_eq_false_iff] at h
  exact h.1.2

/-- A chunk that follows, with every check passed, is staged (R338). -/
theorem fwChunkAnswer_staged {s : State} {k : HyChunk} {session : Byte} (haligned : k.offset % 4096 = 0)
    (hlen : k.data.length = min 4096 (k.total - k.offset)) (htotal : k.total ≤ 15 * 2 ^ 20) (hcrc : crc32 k.data = k.crc)
    (hchain : inChain s = false) (hwhy : chunkReasons s k = 0) (hnext : chunkFollows s k session) :
    fwChunkAnswer s k session = (.ok, leBytes 4 (missingByte (stageChunk s k (some session))), stageChunk s k (some session)) := by
  have hrelay : relayIn s k = s := by
    unfold relayIn
    rw [hchain]
    rfl
  have hlock : logIgnoredLock s = s := by
    unfold logIgnoredLock
    rw [notInChain hchain]
    rfl
  unfold fwChunkAnswer
  dsimp only
  rw [if_neg (not_or.2 ⟨not_not.2 haligned, not_not.2 hlen⟩), if_neg (Nat.not_lt.2 htotal), hrelay, hlock,
    if_neg (not_not.2 hwhy)]
  obtain ⟨hnone, hzero, hheader⟩ | ⟨hoffset, g, hg, hpackage, hgtotal, hmissing, howner⟩ := hnext
  · have hstarts : startsPackage s k = true := by
      unfold startsPackage
      rw [hnone, hzero]
      rfl
    simp [hstarts, hnone, hzero, hcrc, hheader]
  · have hstarts : startsPackage s k = false := by
      unfold startsPackage
      rw [beq_eq_false_iff_ne.2 hoffset]
      rfl
    have hbyte : missingByte s = k.offset := by
      unfold missingByte
      rw [hg]
      exact hmissing
    simp [hstarts, hg, hbyte, howner, hpackage, hgtotal, hoffset, hcrc]

/-! ## Commands whose answer is all that follows -/

/-- A command whose SEQ is NEXT, whose answer does not wait, and after whose answer nothing follows. -/
theorem runsNext_answered {s t : State} {hdr : QmpHdr} {b : QmpBody} {x : Session} {cmd : Instr} {st : QmpStatus} {body : List Byte}
    (hcmd : effectCommand hdr b = some cmd) (h : runsNext s hdr b x) (heff : effectOf (sessionUsed s hdr) hdr b = (st, body, t))
    (hwaits : waitsFor t b st body = false) (hafter : afterAnswer (answered s t hdr b st body) b st body = answered s t hdr b st body)
    (hs : t.qmp.sessions = usedSessions s hdr) (hclk : t.clock.opTime = s.clock.opTime) :
    exec cmd s = .next (answered s t hdr b st body) ∧ answeredOnce s (answered s t hdr b st body) hdr b x st body := by
  obtain ⟨hopen, hseq, hblock⟩ := h
  have hrun : runEffect (sessionUsed s hdr) hdr b = (st, body, t) := by
    unfold runEffect
    rw [show blockedStatus (sessionUsed s hdr) hdr b = none from hblock]
    exact heff
  obtain ⟨-, hcar, hsess, -, -, hwaiting⟩ := id hopen
  refine ⟨?_, answeredOnce_of hsess rfl (List.mem_append_right _ (List.mem_singleton.2 rfl))⟩
  rw [exec_sequenced hcmd hopen, sequenced_next (by exact hwaiting) hseq, executeNext_of_effect hcar hrun hwaits hs hclk, hafter]

/-- A chunk that follows is staged and counted (R338, R400). -/
theorem exec_fwChunk_staged {s : State} {hdr : QmpHdr} {x : Session} {package offset total crc : Word} {data : List Byte} {k : HyChunk}
    (hk : k = { package := package, offset := offset.toNat, total := total.toNat, crc := crc, data := data })
    (h : runsNext s hdr (.fwChunk package offset total crc 0 data) x) (haligned : k.offset % 4096 = 0)
    (hlen : k.data.length = min 4096 (k.total - k.offset)) (htotal : k.total ≤ 15 * 2 ^ 20) (hcrc : crc32 data = crc)
    (hchain : inChain s = false) (hwhy : chunkReasons s k = 0) (hnext : chunkFollows s k hdr.session) :
    ∃ t, exec (.fwChunk hdr package offset total crc 0 data) s = .next t ∧
      answeredOnce s t hdr (.fwChunk package offset total crc 0 data) x .ok (leBytes 4 (k.offset + data.length)) ∧
      t.fw.phase = .staging ∧ t.fw.entry = .staging ∧
      (t.fw.staging.map fun g => (g.packageId, g.missing)) = some (package, k.offset + data.length) ∧
      (∀ i < (chunkWords data).length,
        kvGet t.cf.words (sectorBase (halfSector (stagingHalf s) + k.offset / 4096) + i) = some ⟨(chunkWords data).getD i 0, false⟩) ∧
      t.dram = s.dram ∧ t.host = s.host ∧ t.security = s.security := by
  have hdata : k.data = data := by rw [hk]
  have hpackage : k.package = package := by rw [hk]
  have hkcrc : crc32 k.data = k.crc := by rw [hk]; exact hcrc
  have hchoice : k.offset = 0 ∨ ∃ g, (sessionUsed s hdr).fw.staging = some g ∧ g.packageId = k.package :=
    hnext.imp (fun h => h.2.1) fun ⟨_, g, hg, hp, _⟩ => ⟨g, hg, hp⟩
  have hstaged := stageChunk_stands hchoice (some hdr.session)
  have hanswer : effectOf (sessionUsed s hdr) hdr (.fwChunk package offset total crc 0 data) =
      (.ok, leBytes 4 (missingByte (stageChunk (sessionUsed s hdr) k (some hdr.session))),
        stageChunk (sessionUsed s hdr) k (some hdr.session)) := by
    refine Eq.trans ?_ (fwChunkAnswer_staged (s := sessionUsed s hdr) haligned hlen htotal hkcrc hchain hwhy hnext)
    rw [hk]
    rfl
  generalize stageChunk (sessionUsed s hdr) k (some hdr.session) = u at hstaged hanswer
  obtain ⟨heq, hphase, hentry, hpack, hwords, -⟩ := hstaged
  have hmissing : missingByte u = k.offset + data.length := by
    cases hg : u.fw.staging with
    | none =>
      rw [hg] at hpack
      exact absurd hpack (by simp)
    | some g =>
      rw [hg] at hpack
      unfold missingByte
      rw [hg, ← hdata]
      exact congrArg Prod.snd (Option.some.inj hpack)
  rw [hmissing] at hanswer
  have hsess : u.qmp.sessions = usedSessions s hdr := (congrArg (fun u : State => u.qmp.sessions) heq :)
  have hclk : u.clock.opTime = s.clock.opTime := (congrArg (fun u : State => u.clock.opTime) heq :)
  obtain ⟨hexec, honce⟩ := runsNext_answered (b := .fwChunk package offset total crc 0 data) rfl h hanswer rfl rfl hsess hclk
  refine ⟨_, hexec, honce, hphase, hentry, ?_, ?_, ?_, ?_, ?_⟩
  · rw [← hpackage, ← hdata]
    exact hpack
  · rw [← hdata]
    exact hwords (hlen.le.trans (Nat.min_le_left _ _))
  · exact (congrArg State.dram heq :)
  · exact (congrArg State.host heq :)
  · exact (congrArg State.security heq :)

/-! ## Activation over QMP (R409) -/

/-- A package in probation or committed already is answered at once. -/
theorem exec_fwActivate_active {s : State} {hdr : QmpHdr} {x : Session} {package : Word} (h : runsNext s hdr (.fwActivate package 0) x)
    (hcrocus : inCrocus s = false) (hactive : alreadyActive s package = true) :
    ∃ t, exec (.fwActivate hdr package 0) s = .next t ∧
      answeredOnce s t hdr (.fwActivate package 0) x (activateStatus s) (statusList s) ∧ t.fw.phase = s.fw.phase ∧
      t.fw.staging = s.fw.staging ∧ t.dram = s.dram ∧ t.cf = s.cf := by
  have hrun : activatePackage (setFw (sessionUsed s hdr) fun f => { f with chain := false, chainDone := false }) package =
      (setFw (sessionUsed s hdr) fun f => { f with chain := false, chainDone := false }, false) := by
    unfold activatePackage
    exact if_pos hactive
  have hanswer : effectOf (sessionUsed s hdr) hdr (.fwActivate package 0) = (activateStatus s, statusList s,
      setFw (sessionUsed s hdr) fun f => { f with chain := false, chainDone := false }) := by
    change activateAnswer (sessionUsed s hdr) package 0 = _
    unfold activateAnswer
    dsimp only
    rw [show (0 : Byte).getLsbD 0 = false from rfl, hrun]
    rfl
  have hlist : (statusList s).isEmpty = false := by
    unfold statusList
    rfl
  have hwaits (t : State) : waitsFor t (.fwActivate package 0) (activateStatus s) (statusList s) = false := by
    unfold waitsFor
    rw [hlist, Bool.and_false, Bool.false_and]
  have hafter (t : State) (ht : inCrocus t = false) :
      afterAnswer t (.fwActivate package 0) (activateStatus s) (statusList s) = t := by
    have hrestart : crocusRestart t = t := by
      unfold crocusRestart
      rw [ht]
      rfl
    unfold afterAnswer
    split <;> exact hrestart
  obtain ⟨hexec, honce⟩ := runsNext_answered (b := .fwActivate package 0) rfl h hanswer (hwaits _) (hafter _ hcrocus) rfl rfl
  exact ⟨_, hexec, honce, rfl, rfl, rfl, rfl⟩

/-- A package that is staged whole begins to load, and its answer waits (R409). -/
theorem exec_fwActivate_loads {s : State} {hdr : QmpHdr} {x : Session} {package : Word} {flags : Byte} {g : Staging} {h : FwHeader}
    (hnext : runsNext s hdr (.fwActivate package flags) x) (hcrocus : inCrocus s = false) (hactive : alreadyActive s package = false)
    (hhalves : bothHalvesUsed s = false) (hg : s.fw.staging = some g) (hpackage : g.packageId = package) (hwhole : g.whole = true)
    (hheader : g.header = some h) (hmode : s.shroud.mode ≠ .retrain) (hwhy : stateReasons s + headerReasons s (some h) = 0)
    (hhitless : hitless s h = true) : exec (.fwActivate hdr package flags) s = .next { s with
      qmp := { s.qmp with sessions := usedSessions s hdr },
      fw := { s.fw with chain := flags.getLsbD 0, chainDone := false, phase := .loading, nextEngine := 0, reverting := false,
                        waitRetrain := false, waiting := some hdr } } := by
  have hbegin (u : State) (hc : inCrocus u = false) (hw : stateReasons u + headerReasons u (some h) = 0) (hh : hitless u h = true) :
      beginActivation u h 0 = setFw u fun f => { f with phase := .loading, nextEngine := 0, reverting := false, waitRetrain := false } := by
    unfold beginActivation
    dsimp only
    rw [if_neg (by rw [hw]; exact not_not.2 rfl), hc, hh]
    rfl
  have hloads (u : State) (ha : alreadyActive u package = false) (hb : bothHalvesUsed u = false) (hs : u.fw.staging = some g)
      (hm : u.shroud.mode ≠ .retrain) (hc : inCrocus u = false) (hw : stateReasons u + headerReasons u (some h) = 0)
      (hh : hitless u h = true) : activatePackage u package =
        (setFw u fun f => { f with phase := .loading, nextEngine := 0, reverting := false, waitRetrain := false }, true) := by
    unfold activatePackage
    rw [ha, if_neg Bool.false_ne_true, hb, if_neg Bool.false_ne_true, hs]
    dsimp only
    rw [if_neg (not_not.2 hpackage), hwhole, hheader]
    dsimp only
    rw [if_neg (by decide), if_neg hm, hbegin u hc hw hh]
    rfl
  have hrun : runEffect (sessionUsed s hdr) hdr (.fwActivate package flags) = (.ok, [],
      setFw (setFw (sessionUsed s hdr) fun f => { f with chain := flags.getLsbD 0, chainDone := false }) fun f =>
        { f with phase := .loading, nextEngine := 0, reverting := false, waitRetrain := false }) := by
    unfold runEffect
    rw [show blockedStatus (sessionUsed s hdr) hdr (.fwActivate package flags) = none from hnext.2.2]
    change activateAnswer (sessionUsed s hdr) package flags = _
    unfold activateAnswer
    dsimp only
    rw [hloads (setFw (sessionUsed s hdr) fun f => { f with chain := flags.getLsbD 0, chainDone := false }) hactive hhalves hg hmode hcrocus hwhy hhitless]
    rfl
  obtain ⟨hopen, hseq, -⟩ := hnext
  rw [exec_sequenced (b := .fwActivate package flags) rfl hopen, sequenced_next (by exact hopen.2.2.2.2.2) hseq]
  unfold executeNext
  rw [hrun]
  rfl

/-! ## The owner lock (R392, R336) -/

/-- What a state finds in the code flash is a matter of the code flash alone. -/
theorem newestSwap_congr {s t : State} (h : t.cf = s.cf) (magic base slots : Nat) :
    newestSwap t magic base slots = newestSwap s magic base slots := by
  unfold newestSwap swapRecords cfGood
  rw [h]

theorem firstBlankSlot_congr {s t : State} (h : t.cf = s.cf) (base slots : Nat) : firstBlankSlot t base slots = firstBlankSlot s base slots := by
  unfold firstBlankSlot cfBlank
  rw [h]

theorem cfPut_congr {s t : State} (h : t.cf = s.cf) (a : Nat) (d : DWord) : (cfPut t a d).cf = (cfPut s a d).cf := by
  unfold cfPut cfBlank
  rw [h]
  split
  · rfl
  · exact h

theorem cfEraseSector_congr {s t : State} (h : t.cf = s.cf) (sec : Nat) : (cfEraseSector t sec).cf = (cfEraseSector s sec).cf :=
  congrArg (fun c : CodeFlash => { c with words := c.words.filter fun w => w.1 / 512 != sec }) h

theorem writeSwap_congr {s t : State} (h : t.cf = s.cf) (magic base slots low : Nat) :
    (writeSwap t magic base slots low).cf = (writeSwap s magic base slots low).cf := by
  unfold writeSwap
  rw [newestSwap_congr h, firstBlankSlot_congr h]
  split
  · exact h
  · exact cfPut_congr (cfPut_congr h _ _) _ _

/-- Sector B of the owner lock is the one in use. -/
def lockInB (s : State) : Bool :=
  match newestSwap s magicLock (sectorBase secLock) 256, newestSwap s magicLock (sectorBase (secLock + 1)) 256 with
  | some x, some y => decide (x.1 < y.1)
  | none, some _ => true
  | _, _ => false

/-- The record that follows the newest one of a range. -/
def nextSwap (s : State) (magic base : Nat) (low : Nat) : DWord :=
  swapWord0 magic (match newestSwap s magic base 256 with
    | some r => r.1 + 1
    | none => 1) low

/-- The owner lock written, sector B or A being in use (R392). -/
def lockPut (s : State) (b inB : Bool) : State :=
  let base := if inB then sectorBase (secLock + 1) else sectorBase secLock
  let other := if inB then secLock else secLock + 1
  if (firstBlankSlot s base 256).isSome then writeSwap s magicLock base 256 (lowBit b)
  else
    let w0 := nextSwap s magicLock base (lowBit b)
    cfEraseSector (cfPut (cfPut (cfEraseSector s other) (sectorBase other) w0) (sectorBase other + 1) (swapWord1 w0))
      (if inB then secLock + 1 else secLock)

theorem setOwnerLock_eq (s : State) (b : Bool) : setOwnerLock s b = lockPut s b (lockInB s) := rfl

theorem setOwnerLock_congr {s t : State} (h : t.cf = s.cf) (b : Bool) : (setOwnerLock t b).cf = (setOwnerLock s b).cf := by
  have hin : lockInB t = lockInB s := by
    unfold lockInB
    rw [newestSwap_congr h, newestSwap_congr h]
  rw [setOwnerLock_eq, setOwnerLock_eq, hin]
  unfold lockPut nextSwap
  dsimp only
  generalize (if lockInB s then sectorBase (secLock + 1) else sectorBase secLock) = base
  generalize (if lockInB s then secLock else secLock + 1) = other
  rw [firstBlankSlot_congr h, newestSwap_congr h]
  split
  · exact writeSwap_congr h _ _ _ _
  · exact cfEraseSector_congr (cfPut_congr (cfPut_congr (cfEraseSector_congr h _) _ _) _ _) _

theorem ownerLock_congr {s t : State} (h : t.cf = s.cf) : ownerLock t = ownerLock s := by
  unfold ownerLock swapRecords cfGood
  rw [h]

theorem writeSwap_frame (s : State) (magic base slots low : Nat) :
    ∃ words, writeSwap s magic base slots low = { s with cf := { s.cf with words := words } } := by
  unfold writeSwap
  split
  · exact ⟨_, rfl⟩
  · dsimp only
    rename_i i _
    generalize swapWord0 magic _ low = w
    obtain ⟨v, hv⟩ := cfPut_frame s (base + 2 * i) w
    obtain ⟨u, hu⟩ := cfPut_frame (cfPut s (base + 2 * i) w) (base + 2 * i + 1) (swapWord1 w)
    rw [hu, hv]
    exact ⟨_, rfl⟩

theorem setOwnerLock_frame (s : State) (b : Bool) : ∃ words, setOwnerLock s b = { s with cf := { s.cf with words := words } } := by
  rw [setOwnerLock_eq]
  unfold lockPut
  dsimp only
  generalize (if lockInB s then sectorBase (secLock + 1) else sectorBase secLock) = base
  generalize (if lockInB s then secLock else secLock + 1) = other
  generalize nextSwap s magicLock base (lowBit b) = w
  split
  · exact writeSwap_frame _ _ _ _ _
  · obtain ⟨v, hv⟩ := cfPut_frame (cfEraseSector s other) (sectorBase other) w
    obtain ⟨u, hu⟩ := cfPut_frame (cfPut (cfEraseSector s other) (sectorBase other) w) (sectorBase other + 1) (swapWord1 w)
    rw [hu, hv]
    exact ⟨_, rfl⟩

/-- The lock is written and read back before the answer. -/
theorem lock_answered {s : State} {hdr : QmpHdr} {x : Session} {b : QmpBody} {cmd : Instr} (lock : Bool)
    (hcmd : effectCommand hdr b = some cmd) (h : runsNext s hdr b x)
    (heff : effectOf (sessionUsed s hdr) hdr b = lockAnswer (sessionUsed s hdr) lock) (hb : b = .fwLockSet ∨ b = .fwLockClear) :
    ∃ t, exec cmd s = .next t ∧ answeredOnce s t hdr b x .ok (leBytes 1 (bit (ownerLock t))) ∧
      t.cf = (setOwnerLock s lock).cf ∧ t.dram = s.dram ∧ t.host = s.host ∧ t.fw = s.fw := by
  obtain ⟨words, hframe⟩ := setOwnerLock_frame (sessionUsed s hdr) lock
  have hcf : (setOwnerLock (sessionUsed s hdr) lock).cf = (setOwnerLock s lock).cf :=
    setOwnerLock_congr (s := s) (t := sessionUsed s hdr) rfl lock
  unfold lockAnswer at heff
  dsimp only at heff
  generalize setOwnerLock (sessionUsed s hdr) lock = u at heff hframe hcf
  have hquiet : ∀ v body, waitsFor v b .ok body = false ∧ afterAnswer v b .ok body = v := by
    obtain rfl | rfl := hb <;> exact fun _ _ => ⟨rfl, rfl⟩
  obtain ⟨hexec, honce⟩ := runsNext_answered hcmd h heff (hquiet _ _).1 (hquiet _ _).2
    (congrArg (fun u : State => u.qmp.sessions) hframe :) (congrArg (fun u : State => u.clock.opTime) hframe :)
  refine ⟨_, hexec, ?_, hcf, (congrArg State.dram hframe :), (congrArg State.host hframe :), (congrArg State.fw hframe :)⟩
  rw [show ownerLock (answered s u hdr b .ok (leBytes 1 (bit (ownerLock u)))) = ownerLock u from ownerLock_congr rfl]
  exact honce

/-! ## The debug challenge (R431, Table 18-6) -/

theorem challengeBytes_length (s : State) (nonce : List Byte) : (challengeBytes s nonce).length = 48 := by
  unfold challengeBytes
  simp only [List.length_append, List.length_map, List.length_range, padTo_length, leBytes_length, List.length_replicate]

/-- A session that ends closes the port, with its notice. -/
theorem endSession_frame (s : State) (c : Nat) : endSession s c = { withNotes s (endSession s c) with
    security := if s.security.dbg = .authenticated then { s.security with dbg := .closed, endCause := c } else s.security } := by
  unfold endSession
  split
  · rw [raise_frame]
    rfl
  · rfl

theorem endSession_closed (s : State) (c : Nat) : (endSession s c).security.dbg ≠ .authenticated := by
  rw [endSession_frame]
  dsimp only
  split
  · exact fun h => by cases h
  · assumption

theorem exec_debugChallenge_given {s : State} {hdr : QmpHdr} {x : Session} (h : runsNext s hdr .debugChallenge x)
    (hlevel : s.security.level ≠ .l0) (hblocked : challengeBlocked s = false) :
    ∃ t bs, exec (.debugChallenge hdr) s = .next t ∧ answeredOnce s t hdr .debugChallenge x .ok bs ∧ bs.length = 48 ∧
      t.security.challenge = some (bs, s.clock.now) ∧ t.security.dbg ≠ .authenticated ∧ t.security.level = s.security.level ∧
      t.dram = s.dram ∧ t.cf = s.cf := by
  have hend := endSession_frame (sessionUsed s hdr) 4
  have hclosed := endSession_closed (sessionUsed s hdr) 4
  have hanswer : effectOf (sessionUsed s hdr) hdr .debugChallenge =
      (.ok, challengeBytes (endSession (sessionUsed s hdr) 4) (drawRandom (endSession (sessionUsed s hdr) 4) 16).1,
        setSec (drawRandom (endSession (sessionUsed s hdr) 4) 16).2 fun y => { y with
          challenge := some (challengeBytes (endSession (sessionUsed s hdr) 4) (drawRandom (endSession (sessionUsed s hdr) 4) 16).1,
            (endSession (sessionUsed s hdr) 4).clock.now), blockedAt := none }) := by
    change giveChallenge (sessionUsed s hdr) = _
    unfold giveChallenge
    rw [if_neg (by exact hlevel), show challengeBlocked (sessionUsed s hdr) = false from hblocked]
    rfl
  generalize endSession (sessionUsed s hdr) 4 = u at hend hclosed hanswer
  obtain ⟨hexec, honce⟩ := runsNext_answered (b := .debugChallenge) rfl h hanswer rfl rfl
    (congrArg (fun u : State => u.qmp.sessions) hend :) (congrArg (fun u : State => u.clock.opTime) hend :)
  refine ⟨_, _, hexec, honce, challengeBytes_length _ _, ?_, hclosed, ?_, (congrArg State.dram hend :), (congrArg State.cf hend :)⟩
  · exact congrArg (fun n => some (_, n)) (congrArg (fun u : State => u.clock.now) hend :)
  · refine (congrArg (fun u : State => u.security.level) hend :).trans ?_
    dsimp only
    split <;> rfl

/-- A response that verifies opens the port. -/
theorem exec_debugResponse_verifies {s : State} {hdr : QmpHdr} {x : Session} {signature bs : List Byte} {t0 : Nat}
    (hlevel : s.security.level ≠ .l0) (hchallenge : s.security.challenge = some (bs, t0)) (hdue : due s t0 60000 = false)
    (h : runsNext s hdr (.debugResponse signature true) x) :
    ∃ t, exec (.debugResponse hdr signature true) s = .next t ∧ answeredOnce s t hdr (.debugResponse signature true) x .ok [] ∧
      t.security = { s.security with
        challenge := none, dbg := .authenticated, fails := 0, sessions := satAdd 15 s.security.sessions 1, openedAt := s.clock.now } ∧ t.dram = s.dram ∧ t.cf = s.cf := by
  have hanswer : effectOf (sessionUsed s hdr) hdr (.debugResponse signature true) = (.ok, [],
      raise (setSec (sessionUsed s hdr) fun y =>
        { y with challenge := none, dbg := .authenticated, fails := 0, sessions := satAdd 15 y.sessions 1, openedAt := s.clock.now }) 0x0D05
        [1, s.security.endCause, satAdd 15 s.security.sessions 1]) := by
    change takeResponse (sessionUsed s hdr) hdr.carrier true = _
    unfold takeResponse
    rw [if_neg (by exact hlevel), show (sessionUsed s hdr).security.challenge = _ from hchallenge]
    dsimp only
    rw [show due (sessionUsed s hdr) t0 60000 = false from hdue]
    rfl
  rw [raise_frame] at hanswer
  obtain ⟨hexec, honce⟩ := runsNext_answered (b := .debugResponse signature true) rfl h hanswer rfl rfl rfl rfl
  exact ⟨_, hexec, honce, rfl, rfl, rfl⟩

/-- One that does not verify is counted; the fourth blocks the challenges (R431). -/
theorem exec_debugResponse_fails {s : State} {hdr : QmpHdr} {x : Session} {signature bs : List Byte} {t0 : Nat}
    (hlevel : s.security.level ≠ .l0) (hchallenge : s.security.challenge = some (bs, t0)) (hdue : due s t0 60000 = false)
    (h : runsNext s hdr (.debugResponse signature false) x) :
    ∃ t, exec (.debugResponse hdr signature false) s = .next t ∧ answeredOnce s t hdr (.debugResponse signature false) x .authFail [] ∧
      t.security.challenge = none ∧ t.security.fails = min 4 (s.security.fails + 1) ∧ t.security.dbg = s.security.dbg ∧
      (3 ≤ s.security.fails → t.security.blockedAt = some s.clock.now) ∧ t.dram = s.dram ∧ t.cf = s.cf := by
  have hanswer : effectOf (sessionUsed s hdr) hdr (.debugResponse signature false) = (.authFail, [],
      if min 4 (s.security.fails + 1) ≥ 4 then
        raise (setSec (sessionUsed s hdr) fun y => { y with challenge := none, fails := min 4 (y.fails + 1), blockedAt := some s.clock.now })
          0x0D03 [min 4 (s.security.fails + 1), carrierCode hdr.carrier]
      else setSec (sessionUsed s hdr) fun y => { y with challenge := none, fails := min 4 (y.fails + 1) }) := by
    change takeResponse (sessionUsed s hdr) hdr.carrier false = _
    unfold takeResponse
    rw [if_neg (by exact hlevel), show (sessionUsed s hdr).security.challenge = _ from hchallenge]
    dsimp only
    rw [show due (sessionUsed s hdr) t0 60000 = false from hdue]
    rfl
  by_cases hfourth : 3 ≤ s.security.fails
  · rw [if_pos (by omega), raise_frame] at hanswer
    obtain ⟨hexec, honce⟩ := runsNext_answered (b := .debugResponse signature false) rfl h hanswer rfl rfl rfl rfl
    exact ⟨_, hexec, honce, rfl, rfl, rfl, fun _ => rfl, rfl, rfl⟩
  · rw [if_neg (by omega)] at hanswer
    obtain ⟨hexec, honce⟩ := runsNext_answered (b := .debugResponse signature false) rfl h hanswer rfl rfl rfl rfl
    exact ⟨_, hexec, honce, rfl, rfl, rfl, fun h => absurd h hfourth, rfl, rfl⟩

/-- A path that may not clear the lock is refused (R336). -/
theorem exec_fwLockClear_refused {s : State} {hdr : QmpHdr} {x : Session} (h : runsNext s hdr .fwLockClear x)
    (hmay : mayUnlock s hdr = false) :
    ∃ t, exec (.fwLockClear hdr) s = .next t ∧ answeredOnce s t hdr .fwLockClear x .notPermitted [] ∧ t.cf = s.cf := by
  obtain ⟨hexec, honce⟩ := runsNext_answered (b := .fwLockClear) rfl h
    (show effectOf (sessionUsed s hdr) hdr .fwLockClear = (.notPermitted, [], sessionUsed s hdr) from
      if_neg (by rw [show mayUnlock (sessionUsed s hdr) hdr = false from hmay]; exact Bool.false_ne_true)) rfl rfl rfl rfl
  exact ⟨_, hexec, honce, rfl⟩

/-! ## Settled -/

/-- Settles O47: every command runs under its SEQ and is answered once (`runsNext_answered`); what each does is said above. -/
theorem firmwareAndDebugCommandsTakeEffect : Obligations.FirmwareAndDebugCommandsTakeEffect := by
  refine ⟨fun s hdr x package offset total crc data k hk h haligned hlen htotal hcrc hchain hwhy hnext => ?_,
    fun s hdr x package flags h hcrocus => ⟨?_, fun g hd ha hb hg hp hw hh hm hr hit =>
      exec_fwActivate_loads h hcrocus ha hb hg hp hw hh hm hr hit⟩,
    fun s hdr x => ⟨fun h => lock_answered true rfl h rfl (.inl rfl), fun h => ⟨fun hmay => ?_, exec_fwLockClear_refused h⟩,
      exec_debugChallenge_given,
      fun signature bs t0 hlevel hchallenge hdue => ⟨exec_debugResponse_verifies hlevel hchallenge hdue,
        exec_debugResponse_fails hlevel hchallenge hdue⟩⟩⟩
  · refine exec_fwChunk_staged hk h haligned hlen htotal hcrc hchain hwhy (hnext.imp (fun ⟨hnone, hzero, hheader⟩ => ⟨hnone, hzero, ?_⟩)
      fun ⟨hoffset, g, hg, hp, ht, hm, ho⟩ => ⟨hoffset, g, hg, ?_, ht, hm, ho⟩)
    · rw [hk]
      exact hheader
    · rw [hk]
      exact hp
  · rintro hactive rfl
    exact exec_fwActivate_active h hcrocus hactive
  · exact lock_answered false rfl h (if_pos hmay) (.inr rfl)

end Sys2Proof.Machine
end

section
/-! The check of a package and the steps of an activation (O48). -/

namespace Sys2Proof.Machine

open Sys2Proof

/-! ## Signals, relays and selectors -/

/-- An interrupt on every link changes the pending vectors of the links and what has left. -/
theorem signalAll_frame (s : State) (v : Nat) : ∃ link out, signalAll s v = { s with host := { s.host with link := link }, out := out } := by
  obtain ⟨b, h⟩ := foldl_frame (get := fun s => (s.host.link, s.out))
    (put := fun s b => { s with host := { s.host with link := b.1 }, out := b.2 }) (f := fun s (l : Link) => signal s l v)
    (fun s l => by
      unfold signal
      split
      · exact ⟨(_, _), rfl⟩
      · exact ⟨(_, _), rfl⟩) (fun _ => rfl) (fun _ _ _ => rfl)
    ((fins 8).filter fun l => s.host.link[l].offersIo && s.host.link[l].partner != .r11) s
  exact ⟨b.1, b.2, h⟩

/-- Relaying what the neighbour has credits for changes the relay stream, and what has left. -/
theorem sendRelay_frame (n : Nat) (s : State) : ∃ relayed dn last done out, sendRelay n s = { s with
    fw := { s.fw with relayed := relayed, dn := dn, lastRelayAt := last, reportDone := done }, out := out } := by
  induction n generalizing s with
  | zero => exact ⟨_, _, _, _, _, rfl⟩
  | succ n ih =>
    unfold sendRelay
    split
    · exact ⟨_, _, _, _, _, rfl⟩
    · split
      · exact ⟨_, _, _, _, _, rfl⟩
      · rename_i pkg off _ _ k _
        dsimp only
        split
        · exact ⟨_, _, _, _, _, rfl⟩
        · obtain ⟨out, hout⟩ := foldl_frame (get := fun s => s.out) (put := fun s out => { s with out := out })
            (f := fun s b => emit s (.halyard false 2 b)) (fun _ _ => ⟨_, rfl⟩) (fun _ => rfl) (fun _ _ _ => rfl)
            (chunkFrames s.fw.dn.version k) s
          rw [hout]
          obtain ⟨relayed, dn, last, done, out', h⟩ := ih (setFw { s with out := out } fun f =>
            { f with relayed := some (pkg, off + k.data.length), dn := { f.dn with credits := f.dn.credits - 1 },
                     lastRelayAt := some s.clock.now, reportDone := false })
          exact ⟨relayed, dn, last, done, out', h⟩

theorem sendActivate_frame (s : State) (pkg : Word) : ∃ out, sendActivate s pkg = { s with out := out } := by
  unfold sendActivate
  split <;> exact ⟨_, rfl⟩

theorem selectHalf_frame (s : State) (b : Bool) : ∃ words, selectHalf s b = { s with
    cf := { s.cf with words := words }, fw := { s.fw with half := b } } := by
  unfold selectHalf
  dsimp only
  split
  · obtain ⟨words, h⟩ := writeSwap_frame s magicFw (sectorBase secFwSel) 256 (lowBit b)
    rw [h]
    exact ⟨_, rfl⟩
  · obtain ⟨words, h⟩ := writeSwap_frame (cfEraseSector s secFwSel) magicFw (sectorBase secFwSel) 256 (lowBit b)
    rw [h]
    exact ⟨_, rfl⟩

/-- A selector sector that is renewed names the same half. -/
theorem renewSelector_frame (s : State) : ∃ words a b, renewSelector s = { s with
    cf := { s.cf with words := words }, fw := { s.fw with imageA := a, imageB := b } } := by
  unfold renewSelector
  split
  · exact ⟨_, _, _, rfl⟩
  · dsimp only
    rw [setImage_frame]
    obtain ⟨words, h⟩ := selectHalf_frame (cfEraseSector { cfEraseRange s (halfSector (!s.fw.half)) (halfSector (!s.fw.half) + 3840) with
      fw := { s.fw with imageA := if (!s.fw.half) = true then s.fw.imageA else none,
                        imageB := if (!s.fw.half) = true then none else s.fw.imageB } } secFwSel) s.fw.half
    exact ⟨_, _, _, h⟩

/-- Erasing sectors, and a change of the firmware block. -/
theorem setFw_erased (u : State) (lo hi sec : Nat) (f : Firmware → Firmware) : ∃ words,
    setFw (cfEraseSector (cfEraseRange u lo hi) sec) f = { u with cf := { u.cf with words := words }, fw := f u.fw } := ⟨_, rfl⟩

/-- Naming a boot block keeps that block; the sector's renewal erases the other one (R391). -/
theorem selectBoot_frame (s : State) (b : Bool) : ∃ words boot, selectBoot s b = { s with
    cf := { s.cf with words := words },
    fw := { s.fw with boot0 := if b then boot else s.fw.boot0, boot1 := if b then s.fw.boot1 else boot } } := by
  obtain ⟨words, h⟩ := writeSwap_frame s magicBoot (sectorBase secBootSel) 256 (lowBit b)
  unfold selectBoot
  dsimp only
  rw [h]
  split
  · refine ⟨words, if b then s.fw.boot0 else s.fw.boot1, ?_⟩
    cases b <;> rfl
  · generalize (if b then 0 else 64) = o
    obtain ⟨words', h'⟩ := setFw_erased { s with cf := { s.cf with words := words } } o (o + 64) secBootSel fun f =>
      if b then { f with boot0 := false } else { f with boot1 := false }
    rw [h']
    obtain ⟨words'', h''⟩ := writeSwap_frame { s with
      cf := { s.cf with words := words' }, fw := if b then { s.fw with boot0 := false } else { s.fw with boot1 := false } }
      magicBoot (sectorBase secBootSel) 256 (lowBit b)
    refine ⟨words'', false, h''.trans ?_⟩
    cases b <;> rfl

/-! ## The check of a package (R397, R398, R401) -/

/-- The package goes on down the chain, every link is signalled, and the report may be complete (R401, R404). -/
theorem announced_frame (u : State) : ∃ link out relayed dn last done, checkReport (sendRelay 9 (signalAll u 6)) =
    { withNotes u (checkReport (sendRelay 9 (signalAll u 6))) with
      host := { u.host with link := link },
      fw := { u.fw with relayed := relayed, dn := dn, lastRelayAt := last, reportDone := done },
      out := out } := by
  obtain ⟨link, out, hsignal⟩ := signalAll_frame u 6
  obtain ⟨relayed, dn, last, done, out', hrelay⟩ := sendRelay_frame 9 (signalAll u 6)
  obtain ⟨done', hreport⟩ := checkReport_frame (sendRelay 9 (signalAll u 6))
  refine ⟨link, out', relayed, dn, last, done', ?_⟩
  generalize checkReport (sendRelay 9 (signalAll u 6)) = t at hreport ⊢
  rw [hreport, hrelay, hsignal]
  rfl

/-- A package marked as staged whole, with its header as the image of its half. -/
def wholeMarked (s : State) (g : Staging) (h : FwHeader) : State :=
  setFw (setImage s (stagingHalf s) (some h)) fun f =>
    { f with staging := some { g with whole := true }, phase := .staged, verified := some g.packageId }

/-- What a staged whole package leaves. -/
theorem packageWhole_frame (s : State) (g : Staging) (h : FwHeader) : ∃ link out relayed dn last done, packageWhole s g h =
    { withNotes s (packageWhole s g h) with
      host := { s.host with link := link },
      fw := { s.fw with
        imageA := if stagingHalf s then s.fw.imageA else some h, imageB := if stagingHalf s then some h else s.fw.imageB,
        staging := some { g with whole := true }, phase := .staged, verified := some g.packageId, entry := .staged,
        relayed := relayed, dn := dn, lastRelayAt := last, reportDone := done },
      out := out } := by
  have hmarked : wholeMarked s g h = { s with fw := { s.fw with
      imageA := if stagingHalf s then s.fw.imageA else some h, imageB := if stagingHalf s then some h else s.fw.imageB,
      staging := some { g with whole := true }, phase := .staged, verified := some g.packageId } } := by
    unfold wholeMarked
    rw [setImage_frame]
    rfl
  obtain ⟨out, hown⟩ := setOwn_frame (wholeMarked s g h) .staged
  obtain ⟨link, out', relayed, dn, last, done, hsent⟩ := announced_frame (setOwn (wholeMarked s g h) .staged)
  change packageWhole s g h = _ at hsent
  refine ⟨link, out', relayed, dn, last, done, ?_⟩
  generalize packageWhole s g h = t at hsent ⊢
  rw [hsent, hown, hmarked]
  rfl

theorem packageBad_frame (s : State) (svn : Bool) : ∃ out a b, packageBad s svn = { s with
    fw := { s.fw with imageA := a, imageB := b, staging := none, phase := .idle, entry := if svn then .refused else .sigBad,
                      reasons := if svn then 64 else s.fw.reasons },
    out := out } := by
  unfold packageBad
  rw [setImage_frame]
  dsimp only
  split
  · obtain ⟨out, h⟩ := sendStatus_frame (refuseFw (setFw { s with fw := { s.fw with
      imageA := if stagingHalf s then s.fw.imageA else none, imageB := if stagingHalf s then none else s.fw.imageB } } fun f =>
      { f with staging := none, phase := .idle }) 64)
    rw [h]
    exact ⟨_, _, _, rfl⟩
  · obtain ⟨out, h⟩ := setOwn_frame (setFw { s with fw := { s.fw with
      imageA := if stagingHalf s then s.fw.imageA else none, imageB := if stagingHalf s then none else s.fw.imageB } } fun f =>
      { f with staging := none, phase := .idle }) .sigBad
    rw [h]
    exact ⟨_, _, _, rfl⟩

theorem exec_packageVerifyComplete {s : State} {g : Staging} {h : FwHeader} (hup : coreUp s = true) (hg : s.fw.staging = some g)
    (hwhole : g.whole = false) (hall : g.total ≤ g.missing) (hheader : g.header = some h) (sig dig : Bool) :
    exec (.packageVerifyComplete sig dig) s = .next (if !(headerValid h && sig && dig) then packageBad s false
      else if h.svn < svnNeeded s then packageBad s true else packageWhole s g h) := by
  change execPackageVerifyComplete sig dig s = _
  unfold execPackageVerifyComplete
  rw [hup, if_neg (by decide), hg]
  dsimp only
  rw [hwhole, if_neg Bool.false_ne_true, if_neg (Nat.not_lt.2 hall), hheader]

/-! ## Engines that switch (R409, R411, R413) -/

theorem exec_engineSwitch {s : State} {e : EngineId} (hmay : maySwitch s = true) (hnext : nextSwitch s s.fw.nextEngine = some e)
    (accepted : Bool) : exec (.engineSwitch accepted) s = .next
      (if (!accepted && !s.fw.reverting) = true then startRevert s 2
      else if (s.fw.reverting && (nextSwitch (switchBank s e) (e.val + 1)).isNone) = true then finishActivate (finishRevert (switchBank s e))
      else switchBank s e) := by
  change execEngineSwitch accepted s = _
  unfold execEngineSwitch
  rw [hmay, if_neg (by decide), hnext]
  rfl

/-- An engine that has changed its bank still runs code. -/
theorem nextSwitch_switchBank (s : State) (e : EngineId) (n : Nat) : nextSwitch (switchBank s e) n = nextSwitch s n := by
  have hrun (i : EngineId) : switches (switchBank s e) i = switches s i := by
    unfold switches
    by_cases h : i = e
    · subst h
      have hown : (switchBank s i).engines.eng[i] = { s.engines.eng[i] with bankNew := !s.fw.reverting } := Vector.getElem_set_self _
      rw [hown]
    · have hother : (switchBank s e).engines.eng[i] = s.engines.eng[i] :=
        Vector.getElem_set_ne e.isLt i.isLt (fun hv => h (Fin.ext hv.symm))
      rw [hother]
  unfold nextSwitch
  exact congrArg (fun p => (fins 64).find? p) (funext fun i => by rw [hrun])

/-- What a reversion leaves: the old image, the package still staged whole. -/
theorem finishRevert_frame (s : State) : ∃ link out, finishRevert s = { withNotes s (finishRevert s) with
    host := { s.host with link := link },
    engines := { s.engines with eng := vecMap s.engines.eng fun _ e => { e with bankNew := false } },
    fw := { s.fw with phase := .staged, active := s.fw.old.orElse fun _ => s.fw.active, old := none, running := s.fw.half,
                      nextEngine := 0, reverting := false, entry := .reverted },
    out := out } := by
  unfold finishRevert
  dsimp only
  obtain ⟨out, hown⟩ := setOwn_frame (setFw { s with engines := { s.engines with
    eng := vecMap s.engines.eng fun _ e => { e with bankNew := false } } } fun f =>
    { f with phase := .staged, active := f.old.orElse fun _ => f.active, old := none, running := f.half, nextEngine := 0,
             reverting := false }) .reverted
  rw [hown]
  generalize hu : ({ setFw _ _ with fw := _, out := out } : State) = u
  generalize hn : raise u 0x0C02 _ = n
  have hraise : n = withNotes u n := by rw [← hn, raise_frame]; rfl
  obtain ⟨link, out', hsignal⟩ := signalAll_frame n 6
  rw [hsignal]
  split
  · obtain ⟨out'', hsend⟩ := sendActivate_frame { n with host := { n.host with link := link }, out := out' } (Staging.packageId ‹_›)
    rw [hsend, hraise, ← hu]
    exact ⟨link, out'', rfl⟩
  · rw [hraise, ← hu]
    exact ⟨link, out', rfl⟩

theorem finishActivate_of_none {s : State} (h : s.fw.waiting = none) : finishActivate s = s := by
  unfold finishActivate
  rw [h]

/-- An engine that has switched runs the code of its bank. -/
theorem switchBank_eq {s : State} {r : Bool} (h : s.fw.reverting = r) (e : EngineId) : switchBank s e = { s with
    engines := { s.engines with eng := s.engines.eng.set e { s.engines.eng[e] with bankNew := !r } },
    fw := { s.fw with nextEngine := e.val + 1 } } := by
  rw [← h]
  rfl

theorem bankNew_reset (v : Vector Engine 64) (i : EngineId) :
    (vecMap v fun _ e => { e with bankNew := false })[i].bankNew = false :=
  congrArg Engine.bankNew (getElem_vecMap _ _ _)

/-- A reversion that has ended with no request waiting. -/
theorem finishRevert_ended {s : State} (hw : s.fw.waiting = none) :
    let t := finishActivate (finishRevert s)
    t.fw.phase = .staged ∧ t.fw.entry = .reverted ∧ t.fw.running = s.fw.half ∧ (∀ i : EngineId, t.engines.eng[i].bankNew = false) ∧
      t.fw.staging = s.fw.staging ∧ t.cf = s.cf := by
  obtain ⟨link, out, hframe⟩ := finishRevert_frame s
  have hwaiting : (finishRevert s).fw.waiting = none := (congrArg (fun t : State => t.fw.waiting) hframe :).trans hw
  dsimp only
  rw [finishActivate_of_none hwaiting]
  generalize finishRevert s = t at hframe
  rw [hframe]
  exact ⟨rfl, rfl, rfl, bankNew_reset _, rfl, rfl⟩

/-! ## The masthead handed over (R409) -/

/-- What the beginning of a probation leaves. -/
theorem beginProbation_frame (s : State) (h : FwHeader) : ∃ link out, beginProbation s h = { withNotes s (beginProbation s h) with
    host := { s.host with link := link },
    fw := { s.fw with phase := .probation, old := s.fw.active, active := some h, running := stagingHalf s,
                      probFrom := s.clock.opTime, cause := 0, entry := .probation },
    out := out } := by
  unfold beginProbation
  dsimp only
  obtain ⟨out, hown⟩ := setOwn_frame (setFw s fun f =>
    { f with phase := .probation, old := f.active, active := some h, running := stagingHalf s, probFrom := s.clock.opTime, cause := 0 })
    .probation
  generalize hu : setOwn _ _ = u at hown ⊢
  generalize hn : raise u 0x0C03 _ = n
  have hraise : n = withNotes u n := by rw [← hn, raise_frame]; rfl
  obtain ⟨link, out', hsignal⟩ := signalAll_frame n 6
  rw [hsignal]
  split
  · obtain ⟨out'', hsend⟩ := sendActivate_frame { n with host := { n.host with link := link }, out := out' } h.packageId
    rw [hsend, hraise, hown]
    exact ⟨link, out'', rfl⟩
  · rw [hraise, hown]
    exact ⟨link, out', rfl⟩

theorem exec_mastheadHandoverComplete {s : State} {g : Staging} {h : FwHeader} (hphase : s.fw.phase = .switching)
    (hrev : s.fw.reverting = false) (hup : coreUp s = true) (hsv : saving s = false) (hnext : nextSwitch s s.fw.nextEngine = none)
    (hg : s.fw.staging = some g) (hheader : g.header = some h) (accepted : Bool) :
    exec (.mastheadHandoverComplete accepted) s = .next
      (if accepted then checkChainDone (finishActivate (beginProbation s h)) else startRevert s 2) := by
  refine congrArg Host.Outcome.next ((if_pos (by rw [hphase, hrev, hup, hsv, hnext]; decide)).trans ?_)
  rw [hg, Option.bind_some, hheader]

/-! ## Commit and boot copy (R412–R414) -/

/-- What a commit leaves. -/
theorem commitImage_frame (s : State) (h : FwHeader) : ∃ words a b out, commitImage s h = { s with
    cf := { s.cf with words := words },
    engines := { s.engines with eng := vecMap s.engines.eng fun _ e => { e with bankNew := false } },
    fw := { s.fw with half := s.fw.running, staging := none, old := none, bootDue := h.bootLen != 0, entry := .committed,
                      phase := if h.bootLen = 0 then .idle else .bootCopy, imageA := a, imageB := b },
    out := out } := by
  unfold commitImage
  dsimp only
  obtain ⟨words, hselect⟩ := selectHalf_frame s s.fw.running
  rw [hselect]
  generalize hu : setFw _ _ = u
  obtain ⟨out, hown⟩ := setOwn_frame u .committed
  obtain ⟨words', a, b, hrenew⟩ := renewSelector_frame (setOwn u .committed)
  rw [hrenew, hown, ← hu]
  exact ⟨words', a, b, out, rfl⟩

/-- The boot block that a copy goes into. -/
def copyTarget (s : State) : Bool :=
  match bootRecord s with
  | some r => !r.2
  | none => !s.startup.twin

/-- A boot part copied into one of the two blocks, of `n` words (R391, R414). -/
def copiedInto (s : State) (half : Bool) (h : FwHeader) (verifies target : Bool) (n : Nat) : State :=
  let base := sectorBase (if target then 64 else 0)
  let ws := (List.range n).map fun j =>
    BitVec.ofNat 64 (fromLe ((List.range 8).map fun k => halfByte s half (512 + h.fwLen + 8 * j + k)))
  let t := (List.range n).foldl (fun t j => cfPut t (base + j) (ws.getD j 0)) (cfEraseRange s (base / 512) (base / 512 + 64))
  let t := setFw t fun f =>
    if target then { f with boot1 := verifies, bootVer1 := Config.bootVersion h.packageId, bootDue := false }
    else { f with boot0 := verifies, bootVer0 := Config.bootVersion h.packageId, bootDue := false }
  if verifies then selectBoot t target else t

theorem copyBoot_eq (s : State) (half : Bool) (h : FwHeader) (verifies : Bool) :
    copyBoot s half h verifies = copiedInto s half h verifies (copyTarget s) 32768 := rfl

/-- What a boot copy leaves: the block that was not selected holds the copy, the other one stands or, where the selector's sector was
renewed, is erased. -/
theorem copiedInto_frame (s : State) (half : Bool) (h : FwHeader) (verifies target : Bool) (n : Nat) :
    ∃ words ver0 ver1 boot, copiedInto s half h verifies target n = { s with
      cf := { s.cf with words := words },
      fw := { s.fw with
        bootVer0 := ver0, bootVer1 := ver1, bootDue := false, boot0 := if target then boot else verifies,
        boot1 := if target then verifies else boot } } ∧
      (verifies = false → boot = if target then s.fw.boot0 else s.fw.boot1) := by
  unfold copiedInto
  dsimp only
  generalize (sectorBase (if target then 64 else 0)) = base
  obtain ⟨words, hput⟩ := cfPuts_flash n (cfEraseRange s (base / 512) (base / 512 + 64)) base fun j =>
    ((List.range n).map fun j => BitVec.ofNat 64 (fromLe ((List.range 8).map fun k => halfByte s half (512 + h.fwLen + 8 * j + k)))).getD j 0
  rw [hput]
  cases verifies
  · rw [if_neg Bool.false_ne_true]
    cases target
    · exact ⟨words, _, _, s.fw.boot1, rfl, fun _ => rfl⟩
    · exact ⟨words, _, _, s.fw.boot0, rfl, fun _ => rfl⟩
  · rw [if_pos rfl]
    generalize hu : setFw _ _ = u
    obtain ⟨words', boot, hselect⟩ := selectBoot_frame u target
    rw [hselect, ← hu]
    cases target
    · exact ⟨words', _, _, boot, rfl, fun h => absurd h (by decide)⟩
    · exact ⟨words', _, _, boot, rfl, fun h => absurd h (by decide)⟩

theorem exec_bootCopyComplete {s : State} {h : FwHeader} (hphase : s.fw.phase = .bootCopy) (hup : coreUp s = true)
    (hsv : saving s = false) (himage : (if s.fw.half then s.fw.imageB else s.fw.imageA) = some h) (verifies : Bool) :
    exec (.bootCopyComplete verifies) s = .next (raise (setFw (copyBoot s s.fw.half h verifies) fun f =>
      { f with phase := .idle, bootDue := false }) 0x0C08 [h.version.toNat, bit verifies]) := by
  refine congrArg Host.Outcome.next ((if_pos (by rw [hphase, hup, hsv]; decide)).trans ?_)
  rw [himage]

theorem exec_probationEnd {s : State} {h : FwHeader} (hphase : s.fw.phase = .probation) (hup : coreUp s = true)
    (hsv : saving s = false) (hdue : 60000 + s.fw.probFrom ≤ s.clock.opTime) (hactive : s.fw.active = some h) :
    exec .probationEnd s = .next (if h.bootLen = 0 then raise (commitImage s h) 0x0C08 [h.version.toNat, 0] else commitImage s h) := by
  refine congrArg Host.Outcome.next ((if_pos ?_).trans ?_)
  · rw [hphase, hup, hsv]
    exact decide_eq_true hdue
  · rw [hactive]

/-! ## Settled -/

theorem raisedWhere_stands (u : State) (p : Prop) [Decidable p] (code : Nat) (payload : List Nat) :
    (if p then raise u code payload else u) = withNotes u (if p then raise u code payload else u) := by
  split
  · rw [raise_frame]
    rfl
  · rfl

/-- The commit, with its notice where the package has no boot part. -/
theorem committed_stands {s t : State} {h : FwHeader} (ht : t = withNotes (commitImage s h) t) (hactive : s.fw.active = some h) :
    t.fw.phase = (if h.bootLen = 0 then .idle else .bootCopy) ∧ t.fw.staging = none ∧ t.fw.old = none ∧ t.fw.entry = .committed ∧
      t.fw.half = s.fw.running ∧ t.fw.active = some h ∧ (∀ i : EngineId, t.engines.eng[i].bankNew = false) ∧ t.dram = s.dram := by
  obtain ⟨words, a, b, out, hframe⟩ := commitImage_frame s h
  rw [ht, hframe]
  exact ⟨rfl, rfl, rfl, rfl, rfl, hactive, bankNew_reset _, rfl⟩

/-- The boot copy: the block that was not selected holds what was copied. -/
theorem exec_bootCopyComplete_stands {s : State} {h : FwHeader} (hphase : s.fw.phase = .bootCopy) (hup : coreUp s = true)
    (hsv : saving s = false) (himage : (if s.fw.half then s.fw.imageB else s.fw.imageA) = some h) (verifies : Bool) :
    ∃ t, exec (.bootCopyComplete verifies) s = .next t ∧ t.fw.phase = .idle ∧ t.fw.bootDue = false ∧ (if copyTarget s then t.fw.boot1 else t.fw.boot0) = verifies ∧
      (verifies = false → t.fw.boot0 = s.fw.boot0 ∨ t.fw.boot1 = s.fw.boot1) ∧ t.dram = s.dram ∧ t.engines = s.engines := by
  refine ⟨_, exec_bootCopyComplete hphase hup hsv himage verifies, ?_⟩
  rw [copyBoot_eq]
  generalize 32768 = n
  obtain ⟨words, ver0, ver1, boot, hframe, hkept⟩ := copiedInto_frame s s.fw.half h verifies (copyTarget s) n
  rw [hframe, raise_frame]
  generalize copyTarget s = target at hkept ⊢
  cases target
  · exact ⟨rfl, rfl, rfl, fun hv => .inr (hkept hv), rfl, rfl⟩
  · exact ⟨rfl, rfl, rfl, fun hv => .inl (hkept hv), rfl, rfl⟩

/-- Settles O48: what each step leaves is said by its frame (`packageWhole_frame`, `switchBank_eq`, `finishRevert_frame`,
`beginProbation_frame`, `commitImage_frame`, `copiedInto_frame`). -/
theorem activationFollowsItsSteps : Obligations.ActivationFollowsItsSteps := by
  refine ⟨fun s g h sig dig hup hg hwhole hall hheader => ?_, fun s hup hphase => ?_, fun s e hmay hnext => ⟨fun hrev => ⟨?_, ?_⟩,
      fun accepted hrev hw => ⟨fun hlast => ?_, fun hmore => ?_⟩⟩,
    fun s g h hphase hrev hup hsv hnext hg hheader => ⟨fun hw => ?_, exec_mastheadHandoverComplete hphase hrev hup hsv hnext hg hheader false⟩,
    fun s h hup hsv => ⟨fun hphase hdue hactive => ⟨_, exec_probationEnd hphase hup hsv hdue hactive, ?_⟩,
      fun verifies hphase himage => ?_⟩⟩
  · have hexec := exec_packageVerifyComplete hup hg hwhole hall hheader sig dig
    refine ⟨fun hbad => ?_, fun hvalid hsig hdig => ?_⟩
    · rw [hbad, if_pos (by rfl)] at hexec
      obtain ⟨out, a, b, hframe⟩ := packageBad_frame s false
      refine ⟨_, hexec, ?_⟩
      rw [hframe]
      exact ⟨rfl, rfl, rfl, rfl, rfl⟩
    · subst hsig hdig
      rw [hvalid, if_neg (by decide)] at hexec
      refine ⟨fun hlow => ?_, fun hok => ?_⟩
      · rw [if_pos hlow] at hexec
        obtain ⟨out, a, b, hframe⟩ := packageBad_frame s true
        refine ⟨_, hexec, ?_⟩
        rw [hframe]
        exact ⟨rfl, rfl, rfl⟩
      · rw [if_neg (Nat.not_lt.2 hok)] at hexec
        obtain ⟨link, out, relayed, dn, last, done, hframe⟩ := packageWhole_frame s g h
        refine ⟨_, hexec, ?_⟩
        generalize packageWhole s g h = t at hframe
        rw [hframe]
        refine ⟨rfl, rfl, rfl, ?_, rfl, rfl⟩
        dsimp only
        cases stagingHalf s <;> rfl
  · refine congrArg Host.Outcome.next (if_pos ?_)
    rw [hup, hphase]
    rfl
  · rw [exec_engineSwitch hmay hnext, hrev, switchBank_eq hrev]
    rfl
  · rw [exec_engineSwitch hmay hnext, hrev]
    rfl
  · have hexec := exec_engineSwitch hmay hnext accepted
    rw [nextSwitch_switchBank, hrev, hlast, Bool.not_true, Bool.and_false, if_neg Bool.false_ne_true, if_pos (by rfl)] at hexec
    exact ⟨_, hexec, finishRevert_ended (s := switchBank s e) hw⟩
  · have hexec := exec_engineSwitch hmay hnext accepted
    rw [nextSwitch_switchBank, hrev, Option.isNone_eq_false_iff.2 hmore, Bool.not_true, Bool.and_false, if_neg Bool.false_ne_true, Bool.true_and,
      if_neg Bool.false_ne_true, switchBank_eq hrev] at hexec
    exact hexec
  · obtain ⟨link, out, hframe⟩ := beginProbation_frame s h
    refine ⟨_, exec_mastheadHandoverComplete hphase hrev hup hsv hnext hg hheader true, ?_⟩
    have hwaiting : (beginProbation s h).fw.waiting = none := (congrArg (fun t : State => t.fw.waiting) hframe :).trans hw
    rw [if_pos rfl, finishActivate_of_none hwaiting]
    obtain ⟨done, hdone⟩ := checkChainDone_frame (beginProbation s h)
    generalize checkChainDone (beginProbation s h) = t at hdone ⊢
    generalize beginProbation s h = u at hframe hdone
    rw [hdone, hframe]
    exact ⟨rfl, rfl, rfl, rfl, rfl, rfl, rfl, rfl, rfl⟩
  · exact committed_stands (raisedWhere_stands (commitImage s h) (h.bootLen = 0) 0x0C08 [h.version.toNat, 0]) hactive
  · obtain ⟨t, hexec, hidle, hdue, hboot, hkept, hdram, hengines⟩ := exec_bootCopyComplete_stands hphase hup hsv himage verifies
    refine ⟨t, hexec, hidle, hdue, ?_, hkept, hdram, hengines⟩
    have hother (b x y : Bool) : (if b then x else y) = if !b then y else x := by cases b <;> rfl
    unfold copyTarget at hboot
    cases hr : bootRecord s with
    | none =>
      rw [hr] at hboot
      dsimp only at hboot ⊢
      rw [← hboot]
      exact hother _ _ _
    | some r =>
      rw [hr] at hboot
      dsimp only at hboot ⊢
      rw [← hboot]
      exact hother _ _ _

end Sys2Proof.Machine
end

section
/-! A lowering whose last steps meet a key in the crypto block (O51). -/

namespace Sys2Proof.Machine

open Sys2Proof

/-- A lowering at step 4 whose crypto block still holds a key, with the boot-stage rails qualified. -/
def keyedLowering : State :=
  { State.reset with
    rails := { State.reset.rails with
      rail := vecMod (vecMod State.reset.rails.rail 1 fun x => { x with run := .qualified }) 2 fun x => { x with run := .qualified } },
    security := { State.reset.security with lowering := true, step := 4, key := some 0 } }

/-- What follows the erase: the record of the new level, and a start-up with the rails kept. -/
def keyedErased : State :=
  actLatchedReset (restartKept (beginInterval (commitLowering (dramGone (eraseUnkept keyedLowering)) keyedLowering.security.level
    keyedLowering.security.target (lastKeyId keyedLowering)) .notCounted))

theorem exec_keyedLowering : exec .loweringEraseComplete keyedLowering = .next keyedErased :=
  congrArg Host.Outcome.next (if_pos (by decide))

theorem keyedErased_key : keyedErased.security.key = some 0 := by decide +kernel

/-- Refutes O51: steps 5 and 6 of a lowering leave the crypto block as it is, which step 3 clears. -/
theorem not_protectionLevelAndDebugPortAct : ¬ Obligations.ProtectionLevelAndDebugPortAct := by
  rintro ⟨⟨_, hlower⟩, _⟩
  obtain ⟨_, herase⟩ := hlower keyedLowering rfl rfl
  obtain ⟨t, hexec, _, _, _, hkey, _⟩ := herase rfl (by decide) rfl rfl
  have hheld := keyedErased_key
  rw [Host.Outcome.next.inj (exec_keyedLowering.symm.trans hexec), hkey] at hheld
  exact absurd hheld (by decide)

end Sys2Proof.Machine
end

section
/-! The two-wire buses: transfers that are repeated (O52), and a local bus that recovers (O53). -/

namespace Sys2Proof.Machine

open Sys2Proof

/-! ## Transfers that fail (R442) -/

theorem exec_smbNack_again {s : State} {m : SmbMsg} {n tag : Nat} (hcur : s.smb.current = some (m, n, tag))
    (hstate : s.smb.state = .sending) (hn : n < 4) :
    failTransfer s = { s with smb := { s.smb with state := .idle, failedAt := s.clock.now } } := by
  unfold failTransfer
  rw [hstate, hcur]
  exact if_pos hn

/-- A message that is given up: of a notice, it is held back from the SMBus. -/
def givenUp (s : State) (m : SmbMsg) : State :=
  match m with
  | .notice _ seq => setNotice s seq fun k => { k with smbHeld := some s.notices.nextSeq }
  | .response .. => s

/-- The message is a notice. -/
def isNotice : SmbMsg → Bool
  | .notice _ _ => true
  | .response .. => false

theorem failTransfer_last {s : State} {m : SmbMsg} {n tag : Nat} (hcur : s.smb.current = some (m, n, tag))
    (hstate : s.smb.state = .sending) (hn : 4 ≤ n) : failTransfer s = sendQueued (setSmb (givenUp s m) fun b =>
      { b with state := .idle, current := none, nacked := satAdd 8 b.nacked 1, alert := b.alert || isNotice m }) := by
  unfold failTransfer
  rw [hstate, hcur]
  exact if_neg (Nat.not_lt.2 hn)

theorem sendQueued_of_empty {s : State} (h : s.smb.queue = []) : sendQueued s = s := by
  unfold sendQueued
  rw [h]
  cases s.smb.current <;> rfl

/-- The last try of a message fails, with no response that waits. -/
theorem exec_smbNack_last {s : State} {m : SmbMsg} {n tag : Nat} (hcur : s.smb.current = some (m, n, tag))
    (hstate : s.smb.state = .sending) (hn : 4 ≤ n) (hqueue : s.smb.queue = []) :
    ∃ t, exec .smbNack s = .next t ∧ t.smb.current = none ∧ t.smb.state = .idle ∧ t.smb.nacked = satAdd 8 s.smb.nacked 1 ∧
      ((∃ a q, m = .notice a q) → t.smb.alert = true) ∧
      (∀ a q, m = .notice a q → ∀ k ∈ t.notices.pend, k.seq = q → k.smbHeld = some s.notices.nextSeq) ∧
      t = { s with smb := t.smb, notices := { s.notices with pend := t.notices.pend } } ∧
      ((∀ a q, m ≠ .notice a q) → t.notices = s.notices) := by
  have hexec : exec .smbNack s = .next _ := congrArg Host.Outcome.next (failTransfer_last hcur hstate hn)
  cases m with
  | response carrier op se q st rp body =>
    rw [sendQueued_of_empty (by exact hqueue)] at hexec
    refine ⟨_, hexec, rfl, rfl, rfl, ?_, fun a q h => (by cases h), rfl, fun _ => rfl⟩
    rintro ⟨a, q, h⟩
    cases h
  | notice a q =>
    rw [sendQueued_of_empty (by exact hqueue)] at hexec
    refine ⟨_, hexec, rfl, rfl, rfl, fun _ => Bool.or_true _, fun a' q' h k hk hseq => ?_, rfl, fun h => absurd rfl (h a q)⟩
    cases h
    obtain ⟨k', -, rfl⟩ := List.mem_map.1 hk
    split
    · rfl
    · rename_i hne
      rw [if_neg hne] at hseq
      exact absurd hseq hne

/-- A message goes once more. -/
theorem sendCurrent_of_some {s : State} {m : SmbMsg} {n tag : Nat} (hcur : s.smb.current = some (m, n, tag)) (hstuck : s.smb.stuck = false) :
    sendCurrent s = { s with smb := { s.smb with state := .sending, current := some (m, n + 1, tag) }, out := s.out ++ [smbOutput s m] } := by
  unfold sendCurrent
  rw [hcur]
  exact if_neg (by rw [hstuck]; exact Bool.false_ne_true)

theorem exec_smbBusFree {s : State} {m : SmbMsg} {n tag : Nat} (hcur : s.smb.current = some (m, n, tag)) (hstate : s.smb.state = .waitFree)
    (hstuck : s.smb.stuck = false) (hn : 1 ≤ n) : exec .smbBusFree s = .next { s with
      smb := { s.smb with state := .sending, current := some (m, n, tag) }, out := s.out ++ [smbOutput s m] } := by
  have hsent := sendCurrent_of_some (s := setSmb s fun b => { b with current := some (m, n - 1, tag) }) (m := m) (n := n - 1) (tag := tag)
    rfl hstuck
  refine congrArg Host.Outcome.next ((if_pos hstate).trans ?_)
  rw [hcur]
  dsimp only
  rw [hsent, Nat.sub_add_cancel hn]
  cases m <;> rfl

/-! ## Errors as a target (R445, R446) -/

theorem abandonPacket_state (s : State) : (abandonPacket s).smb.state ≠ .receiving := by
  unfold abandonPacket
  dsimp only
  split
  · exact fun h => by cases h
  · assumption

theorem abandonPacket_partials (s : State) (p : PartialMsg) :
    p ∈ (abandonPacket s).qmp.partials ↔ p ∈ s.qmp.partials ∧ p.carrier ≠ .smbus := by
  unfold abandonPacket
  dsimp only
  rw [List.mem_filter, bne_iff_ne]

/-- Settles O52: what each error leaves of the message in hand (`failTransfer_last`, `sendCurrent_of_some`) or of the packet that was
arriving (`abandonPacket_partials`). -/
theorem smbusTransfersAreRepeated : Obligations.SmbusTransfersAreRepeated := by
  refine ⟨fun s m n tag hcur => ⟨fun hstate hn => congrArg Host.Outcome.next (exec_smbNack_again hcur hstate hn),
      exec_smbNack_last hcur, fun hstate hstuck hdue => ?_, fun hstate => ⟨?_, _, congrArg Host.Outcome.next (if_pos hstate), ?_⟩,
      exec_smbBusFree hcur⟩,
    fun s haon => ⟨⟨_, congrArg Host.Outcome.next (if_pos haon), ?_⟩, ⟨_, congrArg Host.Outcome.next (if_pos haon), ?_⟩, fun won halert => ?_⟩⟩
  · refine congrArg Host.Outcome.next ((if_pos ⟨hstate, ?_⟩).trans (sendCurrent_of_some hcur hstuck))
    exact decide_eq_true (by omega)
  · exact congrArg Host.Outcome.next ((if_pos hstate).trans (if_pos (by exact hstate)))
  · unfold loseBus
    rw [logEvent_frame, if_pos (by exact hstate)]
    exact ⟨rfl, rfl⟩
  · have hpartials := abandonPacket_partials (setSmb s fun b => { b with rsAck := satAdd 8 b.rsAck 1 })
    have hstate := abandonPacket_state (setSmb s fun b => { b with rsAck := satAdd 8 b.rsAck 1 })
    rw [logEvent_frame]
    exact ⟨rfl, hstate, hpartials, rfl⟩
  · exact ⟨rfl, abandonPacket_state _, abandonPacket_partials _, rfl⟩
  · refine congrArg Host.Outcome.next ((if_pos (by rw [halert, haon]; rfl)).trans ?_)
    have hlow : ({ s.smb with alert := true } : Smb) = s.smb := (congrArg (fun a => ({ s.smb with alert := a } : Smb)) halert.symm :)
    cases won
    · rw [Bool.not_false, hlow]
      rfl
    · rfl

/-! ## Regulators (R455) -/

/-- A regulator that is polled: the rail is qualified and the bus in service. -/
theorem exec_regulatorPoll {s : State} {r : Rail} (hlb : s.lb.state = .inService) (hup : coreUp s = true)
    (hrun : s.rails.rail[r].run = .qualified) (hr : r.val ≠ 0) (hanswers : s.lb.regSilent.contains r = false)
    (status : Option (BitVec 16)) : exec (.regulatorPoll r status) s = .next (match status with
      | none => regulatorSilent s r
      | some w =>
        if lastStatus s r = some w then s
        else logEvent (setLb s fun b => { b with regStatus := (b.regStatus.filter fun x => x.1 != r) ++ [(r, w)] }) 0x0E85 1
          ([BitVec.ofNat 8 (railNo r)] ++ leBytes 2 w.toNat)) := by
  refine congrArg Host.Outcome.next ((if_pos ?_).trans ?_)
  · rw [hlb, hup, hrun, hanswers, bne_iff_ne.2 hr]
    decide
  · cases status <;> rfl

/-- The last word of a regulator after it has changed. -/
theorem lastStatus_replaced {s t : State} {r : Rail} {w : BitVec 16}
    (h : t.lb.regStatus = (s.lb.regStatus.filter fun x => x.1 != r) ++ [(r, w)]) :
    lastStatus t r = some w ∧ ∀ k, k ≠ r → lastStatus t k = lastStatus s k := by
  have hgone : (s.lb.regStatus.filter fun x => x.1 != r).find? (fun x => x.1 == r) = none :=
    List.find?_eq_none.2 fun x hx => by
      have hne := (List.mem_filter.1 hx).2
      rw [beq_iff_eq]
      exact bne_iff_ne.1 hne
  refine ⟨?_, fun k hk => ?_⟩
  · unfold lastStatus
    rw [h, List.find?_append, hgone, Option.none_or, List.find?_cons_of_pos (by exact beq_self_eq_true r)]
    rfl
  · unfold lastStatus
    rw [h, List.find?_append, List.find?_filter, List.find?_cons_of_neg (by rw [beq_iff_eq]; exact hk.symm), List.find?_nil, Option.or_none]
    refine congrArg (fun p => (s.lb.regStatus.find? p).map Prod.snd) (funext fun x => ?_)
    by_cases hx : x.1 = k
    · simp [hx, hk]
    · simp [hx]

/-! ## A local bus that is declared stuck (R458, R459) -/

/-- What a stuck local bus leaves alone: the bus itself, DRAM's contents, the power state, start-up and the rails. -/
structure BusStands (s t : State) : Prop where
  lb : t.lb = s.lb
  mem : t.dram.mem = s.dram.mem
  power : t.power = s.power
  startup : t.startup = s.startup
  rails : t.rails = s.rails

namespace BusStands

theorem refl (s : State) : BusStands s s := ⟨rfl, rfl, rfl, rfl, rfl⟩

theorem trans {s t u : State} (h : BusStands s t) (k : BusStands t u) : BusStands s u :=
  ⟨k.lb.trans h.lb, k.mem.trans h.mem, k.power.trans h.power, k.startup.trans h.startup, k.rails.trans h.rails⟩

theorem ite {s t u : State} {p : Prop} [Decidable p] (h : BusStands s t) (k : BusStands s u) : BusStands s (if p then t else u) := by
  split <;> assumption

theorem raise (s : State) (code : Nat) (payload : List Nat) : BusStands s (raise s code payload) := by
  rw [raise_frame]
  exact ⟨rfl, rfl, rfl, rfl, rfl⟩

theorem enterForced (s : State) (d : Domain) : BusStands s (enterForced s d) := by
  have hband (u : State) (i : DramCh) : BusStands u (setBand2x u i true) := by
    unfold setBand2x
    exact ite (refl u) ⟨rfl, rfl, rfl, rfl, rfl⟩
  have hfold (l : List DramCh) (u : State) : BusStands u (l.foldl (fun s i => setBand2x s i true) u) := by
    induction l generalizing u with
    | nil => exact refl u
    | cons i l ih => exact (hband u i).trans (ih _)
  cases d with
  | dram =>
    exact BusStands.trans (t := { s with thermal := { s.thermal with
      forcedDram := true, dram := s.thermal.dram.map fun b => { b with reef := true } } }) ⟨rfl, rfl, rfl, rfl, rfl⟩ (hfold (fins 17) _)
  | die => exact ⟨rfl, rfl, rfl, rfl, rfl⟩
  | nand => exact ⟨rfl, rfl, rfl, rfl, rfl⟩
  | pack => exact refl s
  | board => exact refl s

theorem checkDomain (s : State) (c : Settings) (d : Domain) : BusStands s (checkDomain s c d) := by
  have hmin (u : State) (b : Bool) : BusStands u (setAtMin u d b) := by
    cases d <;> exact ⟨rfl, rfl, rfl, rfl, rfl⟩
  have hleave (u : State) : BusStands u (leaveForced u d) := by
    cases d <;> exact ⟨rfl, rfl, rfl, rfl, rfl⟩
  have hforced (u : State) (p q : Prop) [Decidable p] [Decidable q] (payload : List Nat) :
      BusStands u (if p then Machine.raise (Machine.enterForced u d) 0x0702 payload else if q then leaveForced u d else u) :=
    ite ((enterForced u d).trans (raise _ _ _)) (ite (hleave u) (refl u))
  exact BusStands.trans (ite ((hmin s true).trans (raise _ _ _)) (hmin s _)) (hforced _ _ _ _)

theorem checkMinimums (s : State) : BusStands s (checkMinimums s) := by
  have hpsub (u : State) : BusStands u (evalPsub u) := by
    rw [evalPsub_frame]
    exact ⟨rfl, rfl, rfl, rfl, rfl⟩
  unfold Machine.checkMinimums
  split
  · exact refl s
  · exact ite (refl s) ((((checkDomain s _ _).trans (checkDomain _ _ _)).trans (checkDomain _ _ _)).trans (hpsub _))

/-- A remote site that a stuck bus hides is ignored, and no fault of its own. -/
theorem ignoreSite (s : State) (i : Site) : BusStands s (ignoreSite s i .busStuck) := by
  unfold Machine.ignoreSite
  refine ite (refl s) ?_
  dsimp only
  rw [if_pos rfl, if_pos rfl]
  refine BusStands.trans ?_ (checkMinimums _)
  exact ⟨rfl, rfl, rfl, rfl, rfl⟩

theorem ignoreRemote (s : State) : BusStands s (ignoreRemote s) := by
  unfold Machine.ignoreRemote
  generalize fins 32 = l
  induction l generalizing s with
  | nil => exact refl s
  | cons i l ih => exact (ite (ignoreSite s i) (refl s)).trans (ih _)

theorem identityLost (s : State) (stat : Nat) : BusStands s (identityLost s stat) := by
  have hunknown : BusStands s (if s.pack.idUnknown then s else blockChanged (setPack s fun p => { p with idUnknown := true })) :=
    ite (refl s) ⟨rfl, rfl, rfl, rfl, rfl⟩
  refine hunknown.trans ?_
  unfold Machine.identityLost
  generalize (if s.pack.idUnknown then s else blockChanged (setPack s fun p => { p with idUnknown := true })) = u
  dsimp only
  split
  · exact ⟨rfl, rfl, rfl, rfl, rfl⟩
  · rw [raise_frame]
    exact ⟨rfl, rfl, rfl, rfl, rfl⟩

theorem updateCharger (s : State) : BusStands s (updateCharger s) := by
  unfold Machine.updateCharger
  exact ite ⟨rfl, rfl, rfl, rfl, rfl⟩ ⟨rfl, rfl, rfl, rfl, rfl⟩

end BusStands

/-- On a bus that is stuck the charger does not charge (R453). -/
theorem updateCharger_stuck {s : State} (h : s.lb.state = .stuck) : (updateCharger s).charger.run ≠ .charging := by
  have hmay (u : State) (hu : u.lb.state = .stuck) : mayCharge u = false := by
    unfold mayCharge
    split
    · rfl
    · rw [hu, bne_self_eq_false, Bool.and_false, Bool.false_and, Bool.false_and]
  have hnext (u : State) (hu : u.lb.state = .stuck) : nextCharge u ≠ .charging := by
    unfold nextCharge
    rw [hmay u hu]
    split
    · exact fun h => by cases h
    · split <;> exact fun h => by cases h
  have hrun : (updateCharger s).charger.run =
      nextCharge { s with charger := { s.charger with terminated := s.charger.terminated && !socLow s } } := by
    unfold updateCharger
    dsimp only
    split <;> rfl
  rw [hrun]
  exact hnext _ h

/-- The bus declared stuck, with the notice. -/
def stuckRaised (s : State) : State :=
  let s := setLb s fun b => { b with
    state := .stuck, stuckCount := satAdd 8 b.stuckCount 1, stuckSince := s.clock.now, retryAt := s.clock.now, chargerSet := false }
  raise s 0x0E02 [s.lb.lastAddr.toNat, s.startup.step]

/-- What depends on the local bus, once it is declared stuck. -/
def stuckSettled (s : State) : State :=
  updateCharger (identityLost (ignoreRemote s) (regLbStat s).toNat)

theorem localStuck_eq (s : State) : localStuck s =
    if readingSheet (stuckSettled (stuckRaised s)) then
      finishSheet (stuckSettled (stuckRaised s)) (readSheet none (stuckSettled (stuckRaised s)).startup.fuse80)
    else stuckSettled (stuckRaised s) := by
  unfold localStuck stuckSettled stuckRaised
  dsimp only

/-- What a local bus that is declared stuck leaves, outside step 3. -/
theorem localStuck_stands {s : State} (h : readingSheet s = false) : (localStuck s).lb.state = .stuck ∧
    (localStuck s).lb.stuckCount = satAdd 8 s.lb.stuckCount 1 ∧ (localStuck s).lb.stuckSince = s.clock.now ∧
    (localStuck s).charger.run ≠ .charging ∧ (localStuck s).dram.mem = s.dram.mem := by
  have hraised : (stuckRaised s).lb = { s.lb with
      state := .stuck, stuckCount := satAdd 8 s.lb.stuckCount 1, stuckSince := s.clock.now, retryAt := s.clock.now, chargerSet := false } ∧ (stuckRaised s).dram = s.dram ∧ (stuckRaised s).power = s.power ∧
      (stuckRaised s).startup = s.startup ∧ (stuckRaised s).rails = s.rails := by
    unfold stuckRaised
    rw [raise_frame]
    exact ⟨rfl, rfl, rfl, rfl, rfl⟩
  obtain ⟨hlb, hdram, hpower, hstartup, hrails⟩ := hraised
  have hlost := (BusStands.ignoreRemote (stuckRaised s)).trans
    (BusStands.identityLost (ignoreRemote (stuckRaised s)) (regLbStat (stuckRaised s)).toNat)
  have hsettled : BusStands (stuckRaised s) (stuckSettled (stuckRaised s)) := by
    unfold stuckSettled
    exact hlost.trans (BusStands.updateCharger _)
  have hrun : (stuckSettled (stuckRaised s)).charger.run ≠ .charging := by
    unfold stuckSettled
    exact updateCharger_stuck (by rw [hlost.lb, hlb])
  rw [localStuck_eq]
  generalize stuckSettled (stuckRaised s) = t at hsettled hrun ⊢
  have hquiet : readingSheet t = false := by
    unfold readingSheet at h ⊢
    rw [hsettled.power, hsettled.startup, hsettled.rails, hpower, hstartup, hrails, h]
  rw [hquiet, if_neg Bool.false_ne_true]
  refine ⟨?_, ?_, ?_, hrun, hsettled.mem.trans (by rw [hdram])⟩ <;> rw [hsettled.lb, hlb]

/-! ## Bus clears (R457–R459) -/

/-- A bus clear that leaves a bus in use idle. -/
theorem clearLocal_free {s : State} (h : s.lb.state ≠ .stuck) : clearLocal s (some .idle) = { s with
    lb := { s.lb with clear := satAdd 8 s.lb.clear 1, pointers := [], chargerSet := false } } := by
  unfold clearLocal
  dsimp only
  split
  · rename_i hstuck
    exact absurd hstuck h
  · rfl
  · rename_i hc _
    cases hc
  · rename_i hc _
    cases hc

/-- One that leaves it held: the bus is stuck from then on. -/
theorem clearLocal_held {s : State} (h : s.lb.state ≠ .stuck) (scl : Bool) :
    clearLocal s (some (.stuck scl)) = localStuck (setLb s fun b => { b with clear := satAdd 8 b.clear 1 }) := by
  unfold clearLocal
  dsimp only
  split
  · rename_i hc _
    cases hc
  · rename_i hc _
    cases hc
  · rename_i hstuck
    exact absurd hstuck h
  · rfl

/-- A clear of a bus that is stuck already, which ends idle or held. -/
theorem clearLocal_again {s : State} (h : s.lb.state = .stuck) :
    clearLocal s (some .idle) = localCleared (setLb s fun b => { b with clear := satAdd 8 b.clear 1 }) ∧
      ∀ scl, clearLocal s (some (.stuck scl)) = setLb s fun b => { b with clear := satAdd 8 b.clear 1 } := by
  unfold clearLocal
  dsimp only
  rw [show (setLb s fun b => { b with clear := satAdd 8 b.clear 1 }).lb.state = .stuck from h]
  exact ⟨rfl, fun _ => rfl⟩

theorem localFailed_of_none {s : State} (h : s.startup.settings = none) (a : BitVec 7) : localFailed s a = s := by
  unfold localFailed
  rw [h]

/-- The clock was stretched on the local bus: it is counted and logged. -/
def localStretched (s : State) (a : BitVec 7) : State :=
  logEvent (setLb s fun b => { b with timeout := satAdd 8 b.timeout 1, lastAddr := a }) 0x0E82 1 [a.setWidth 8]

theorem localStretched_eq (s : State) (a : BitVec 7) : localStretched s a = { s with
    lb := { s.lb with timeout := satAdd 8 s.lb.timeout 1, lastAddr := a }, recorder := (localStretched s a).recorder } := by
  unfold localStretched
  rw [logEvent_frame]
  rfl

theorem exec_clockStretchTimeout_local {s : State} (haon : s.power.aon = true) (hlb : s.lb.state ≠ .stuck) (a : BitVec 7)
    (c : ClearOutcome) : exec (.clockStretchTimeout true a c) s = .next
      (if (clearLocal (localStretched s a) (some c)).lb.state = .stuck then clearLocal (localStretched s a) (some c)
      else localFailed (clearLocal (localStretched s a) (some c)) a) := by
  have hgo : localTimeout s a c = _ := if_neg (by rw [haon]; exact not_or.2 ⟨hlb, by decide⟩)
  exact congrArg Host.Outcome.next hgo

/-- The clock was stretched in a message that the controller sends: a failed transfer, to be sent again. -/
def smbStretched (s : State) (a : BitVec 7) : State :=
  failTransfer (logEvent (setSmb s fun b => { b with timeout := satAdd 8 b.timeout 1 }) 0x0E82 1 [a.setWidth 8])

theorem exec_clockStretchTimeout_smbus {s : State} (hstate : s.smb.state = .sending) (a : BitVec 7) (c : ClearOutcome) :
    exec (.clockStretchTimeout false a c) s = .next (clearSmbus (smbStretched s a) (some c)) := by
  have hgo : smbusTimeout s a c = _ := if_neg (not_not.2 hstate)
  exact congrArg Host.Outcome.next hgo

theorem smbStretched_eq {s : State} {m : SmbMsg} {n tag : Nat} (hcur : s.smb.current = some (m, n, tag))
    (hstate : s.smb.state = .sending) (hn : n < 4) (a : BitVec 7) : smbStretched s a = { s with
      smb := { s.smb with timeout := satAdd 8 s.smb.timeout 1, state := .idle, failedAt := s.clock.now },
      recorder := (smbStretched s a).recorder } := by
  unfold smbStretched
  rw [logEvent_frame]
  rw [exec_smbNack_again (by exact hcur) (by exact hstate) hn]
  rfl

/-- What sending leaves of the SMBus: its stuck flag and its clears. -/
structure SmbSent (s t : State) : Prop where
  eq : t = { s with smb := t.smb, out := t.out }
  stuck : t.smb.stuck = s.smb.stuck
  clear : t.smb.clear = s.smb.clear
  retryAt : t.smb.retryAt = s.smb.retryAt

theorem SmbSent.base {s u t : State} (h : SmbSent u t) (hu : u = { s with smb := u.smb }) : t = { s with smb := t.smb, out := t.out } := by
  rw [h.eq, hu]

theorem sendCurrent_sent (s : State) : SmbSent s (sendCurrent s) := by
  unfold sendCurrent
  split
  · split <;> exact ⟨rfl, rfl, rfl, rfl⟩
  · exact ⟨rfl, rfl, rfl, rfl⟩

theorem sendQueued_sent (s : State) : SmbSent s (sendQueued s) := by
  unfold sendQueued
  split
  · split
    · exact ⟨rfl, rfl, rfl, rfl⟩
    · rename_i m q _ _ _
      have h := sendCurrent_sent (setSmb (setSmb s fun b => { b with queue := q }) fun b =>
        { b with current := some (m, 0, b.nextTag), nextTag := (b.nextTag + 1) % 8 })
      unfold sendMessage
      generalize sendCurrent _ = t at h ⊢
      obtain ⟨heq, hstuck, hclear, hretry⟩ := h
      exact ⟨heq, hstuck, hclear, hretry⟩
  · exact ⟨rfl, rfl, rfl, rfl⟩

/-- The SMBus comes back, and what was held is sent. -/
theorem smbusCleared_sent (s : State) : SmbSent (setSmb s fun b => { b with stuck := false }) (smbusCleared s) := by
  unfold smbusCleared
  dsimp only
  split
  · exact sendCurrent_sent _
  · exact sendQueued_sent _

theorem clearSmbus_back {s : State} (h : s.smb.stuck = true) :
    clearSmbus s (some .idle) = smbusCleared (setSmb s fun b => { b with clear := satAdd 8 b.clear 1 }) :=
  if_pos h

theorem clearSmbus_held {s : State} (h : s.smb.stuck = false) (scl : Bool) :
    clearSmbus s (some (.stuck scl)) = smbusStuck (setSmb s fun b => { b with clear := satAdd 8 b.clear 1 }) scl :=
  if_neg (by rw [Bool.not_eq_true]; exact h)

theorem clearSmbus_heldAgain {s : State} (h : s.smb.stuck = true) (scl : Bool) :
    clearSmbus s (some (.stuck scl)) = setSmb s fun b => { b with clear := satAdd 8 b.clear 1 } :=
  if_pos h

theorem localCleared_stands {s : State} (u : State) (h : u = { s with lb := u.lb }) :
    (localCleared u).lb = { u.lb with state := .inService, pointers := [], chargerSet := false } ∧
      localCleared u = { withNotes s (localCleared u) with lb := (localCleared u).lb } := by
  have hraise := raise_frame (afterClear (setLb u fun b => { b with state := .inService })) 0x0E04
    [u.clock.now - u.lb.stuckSince]
  change localCleared u = _ at hraise
  generalize localCleared u = t at hraise ⊢
  have hlb : t.lb = { u.lb with state := .inService, pointers := [], chargerSet := false } := by rw [hraise]; rfl
  refine ⟨hlb, ?_⟩
  rw [hraise, h]
  rfl

theorem exec_busClearRetry_local {s : State} (hlb : s.lb.state = .stuck) (hdue : due s s.lb.retryAt 60000 = true) (c : ClearOutcome) :
    exec (.busClearRetry true c) s = .next (clearLocal (setLb s fun b => { b with retryAt := s.clock.now }) (some c)) := by
  change Host.Outcome.next (if _ then _ else s) = _
  exact congrArg Host.Outcome.next (if_pos (by rw [hlb, hdue]; rfl))

theorem exec_busClearRetry_smbus {s : State} (hstuck : s.smb.stuck = true) (haon : s.power.aon = true)
    (hdue : due s s.smb.retryAt 60000 = true) (c : ClearOutcome) :
    exec (.busClearRetry false c) s = .next (clearSmbus (setSmb s fun b => { b with retryAt := s.clock.now }) (some c)) := by
  change Host.Outcome.next (if _ then _ else s) = _
  exact congrArg Host.Outcome.next (if_pos (by rw [hstuck, haon, hdue]; rfl))

/-- Settles O53: a poll by `exec_regulatorPoll` and `lastStatus_replaced`, a bus that is declared stuck by `localStuck_stands`, the
clears by the row of `clearLocal` or `clearSmbus` that they meet. -/
theorem localBusRecovers : Obligations.LocalBusRecovers := by
  refine ⟨fun s hmasked hdue => congrArg Host.Outcome.next (if_pos (by rw [hmasked, hdue]; rfl)),
    fun s r hlb hup hrun hr hanswers => ⟨⟨_, exec_regulatorPoll hlb hup hrun hr hanswers none, ?_⟩, fun w hw => ?_, fun w hw => ?_⟩,
    fun s a haon => ⟨fun hlb hnone => ⟨_, exec_clockStretchTimeout_local haon hlb a .idle, ?_⟩,
      fun hlb scl hquiet => ⟨_, exec_clockStretchTimeout_local haon hlb a (.stuck scl), ?_⟩⟩,
    fun s a m n tag hstate hcur hn hfree => ⟨⟨_, exec_clockStretchTimeout_smbus hstate a .idle, ?_⟩,
      fun scl => ⟨_, exec_clockStretchTimeout_smbus hstate a (.stuck scl), ?_⟩⟩,
    fun s => ⟨fun hlb hdue => ⟨⟨_, exec_busClearRetry_local hlb hdue .idle, ?_⟩, fun scl => ?_⟩,
      fun hstuck haon hdue => ⟨⟨_, exec_busClearRetry_smbus hstuck haon hdue .idle, ?_⟩, fun scl => ?_⟩⟩⟩
  · dsimp only
    unfold regulatorSilent
    rw [logEvent_frame]
    exact ⟨rfl, rfl, rfl⟩
  · rw [exec_regulatorPoll hlb hup hrun hr hanswers]
    exact congrArg Host.Outcome.next (if_pos hw)
  · refine ⟨_, (exec_regulatorPoll hlb hup hrun hr hanswers (some w)).trans (congrArg Host.Outcome.next (if_neg hw)), ?_⟩
    rw [logEvent_frame]
    obtain ⟨hsame, hother⟩ := lastStatus_replaced (s := s)
      (t := setLb s fun b => { b with regStatus := (b.regStatus.filter fun x => x.1 != r) ++ [(r, w)] }) rfl
    exact ⟨hsame, hother, rfl⟩
  · have heq := localStretched_eq s a
    generalize localStretched s a = u at heq
    have hstate : u.lb.state ≠ .stuck := by
      rw [heq]
      exact hlb
    have hsettings : u.startup.settings = none := by
      rw [heq]
      exact hnone
    rw [clearLocal_free hstate, if_neg (by exact hstate), localFailed_of_none (by exact hsettings), heq]
    exact ⟨rfl, rfl⟩
  · have heq := localStretched_eq s a
    generalize localStretched s a = u at heq
    have hstate : u.lb.state ≠ .stuck := by
      rw [heq]
      exact hlb
    have hquiet' : readingSheet (setLb u fun b => { b with clear := satAdd 8 b.clear 1 }) = false := by
      rw [heq]
      exact hquiet
    obtain ⟨hstuck, hcount, hsince, hcharger, hmem⟩ := localStuck_stands hquiet'
    rw [clearLocal_held hstate, if_pos hstuck]
    refine ⟨hstuck, hcount.trans ?_, hsince.trans ?_, hcharger, hmem.trans ?_⟩ <;> rw [heq] <;> rfl
  · have heq := smbStretched_eq hcur hstate hn a
    generalize smbStretched s a = u at heq
    rw [clearSmbus_idle (by rw [heq]; exact hfree), heq]
    exact ⟨rfl, rfl, hcur, rfl⟩
  · have heq := smbStretched_eq hcur hstate hn a
    generalize smbStretched s a = u at heq
    have hopen : u.smb.stuck = false := by
      rw [heq]
      exact hfree
    obtain ⟨notices, recorder, alert, hheld⟩ := smbusStuck_frame (setSmb u fun b => { b with clear := satAdd 8 b.clear 1 }) scl
    rw [clearSmbus_held hopen, hheld, heq]
    exact ⟨rfl, rfl, rfl⟩
  · rw [(clearLocal_again (by exact hlb)).1]
    exact localCleared_stands _ rfl
  · rw [exec_busClearRetry_local hlb hdue, (clearLocal_again (by exact hlb)).2]
    rfl
  · rw [clearSmbus_back (s := setSmb s fun b => { b with retryAt := s.clock.now }) hstuck]
    have hback := smbusCleared_sent
      (setSmb (setSmb s fun b => { b with retryAt := s.clock.now }) fun b => { b with clear := satAdd 8 b.clear 1 })
    exact ⟨hback.stuck, hback.clear, hback.retryAt, hback.base rfl⟩
  · rw [exec_busClearRetry_smbus hstuck haon hdue, clearSmbus_heldAgain (s := setSmb s fun b => { b with retryAt := s.clock.now }) hstuck]
    rfl

end Sys2Proof.Machine
end

section
/-! Snapshots, read latches and FIFOs (O54), and writes to the register block (O55). -/

namespace Sys2Proof.Machine

open Sys2Proof

/-! ## Snapshots (R470) -/

theorem setFn_fn_same (s : State) (l : Link) (f : FnRegs → FnRegs) : (setFn s l f).host.fn[l] = f s.host.fn[l] :=
  getElem_vecMod_same _ _ _

theorem setFn_fn_ne (s : State) {l k : Link} (f : FnRegs → FnRegs) (h : k ≠ l) : (setFn s l f).host.fn[k] = s.host.fn[k] :=
  getElem_vecMod_ne _ _ h

/-- A group code that Table 20-5 names is captured, any other has no effect. -/
theorem takeSnapshot_eq (s : State) (l : Link) {g : Nat} (hg : s.host.fn[l].snapGroup = g) : takeSnapshot s l =
    if g = 0 ∨ g > 5 then s
    else setFn s l fun f => { f with snapSeq := (f.snapSeq + 1) % 256, snap := some { group := g, at_ := s.clock.now, regs := captured s l g } } := by
  unfold takeSnapshot
  rw [hg]

theorem exec_take {s : State} {link : Link} (h : blockServes s link = true) (group : Fin 16) :
    exec (.take link group) s = .next (takeSnapshot (setFn s link fun f => { f with snapGroup := group.val }) link) :=
  congrArg Host.Outcome.next (if_pos h)

theorem exec_take_captures {s : State} {link : Link} (h : blockServes s link = true) {group : Fin 16} (hlo : 1 ≤ group.val)
    (hhi : group.val ≤ 5) :
    ∃ t p, exec (.take link group) s = .next t ∧ t.host.fn[link].snap = some p ∧ p.group = group.val ∧ p.at_ = s.clock.now ∧
      t.host.fn[link].snapSeq = (s.host.fn[link].snapSeq + 1) % 256 ∧ (∀ l, l ≠ link → t.host.fn[l] = s.host.fn[l]) ∧
      t = { s with host := { s.host with fn := t.host.fn } } := by
  have hgroup : (setFn s link fun f => { f with snapGroup := group.val }).host.fn[link].snapGroup = group.val := by
    rw [setFn_fn_same]
  have hexec := exec_take h group
  rw [takeSnapshot_eq _ _ hgroup, if_neg (by omega)] at hexec
  refine ⟨_, _, hexec, congrArg FnRegs.snap (setFn_fn_same _ _ _), rfl, rfl, ?_, fun l hl => ?_, rfl⟩
  · rw [setFn_fn_same, setFn_fn_same]
  · rw [setFn_fn_ne _ _ hl, setFn_fn_ne _ _ hl]

theorem exec_snapshotExpiry {s : State} {link : Link} {p : Snapshot} (h : s.host.fn[link].snap = some p) :
    exec (.snapshotExpiry link) s = .next (if due s p.at_ 10 = true then releaseSnapshot s link else s) := by
  change execSnapshotExpiry link s = _
  unfold execSnapshotExpiry
  rw [h]
  rfl

/-! ## Read latches (R203, R252, R471) -/

/-- With no snapshot frozen every register is the live one. -/
theorem frozenReg_of_none {s : State} {l : Link} (h : s.host.fn[l].snap = none) (group off : Nat) : frozenReg s l group off = none := by
  unfold frozenReg
  rw [h]

theorem exec_flGenLatch {s : State} {link : Link} (h : blockServes s link = true) (hsnap : s.host.fn[link].snap = none) :
    exec (.flGenLatch link) s = .next { s with
      host := { s.host with fn := vecMod s.host.fn link fun f =>
        { f with genHi := BitVec.ofNat 32 ((newestSealed s).toNat / 2 ^ 32) } },
      out := s.out ++ [.register link 0x0A08 (hostReg s link 0x0A08).toNat] } := by
  refine congrArg Host.Outcome.next ((if_pos h).trans ?_)
  dsimp only
  rw [frozenReg_of_none (by exact hsnap)]
  rfl

theorem exec_planInfoLatch {s : State} {link : Link} (h : blockServes s link = true) (hsnap : s.host.fn[link].snap = none) :
    exec (.planInfoLatch link) s = .next { s with
      host := { s.host with fn := vecMod s.host.fn link fun f =>
        { f with planMarks := (List.range 4).map fun i => (planMarkRegs s).getD i 0 } },
      out := s.out ++ [.register link 0x0290 (hostReg s link 0x0290).toNat] } := by
  refine congrArg Host.Outcome.next ((if_pos h).trans ?_)
  dsimp only
  simp only [frozenReg_of_none (s := emit s _) (l := link) hsnap]
  rfl

/-- The window of the estimator state block, latched by a read at its start (R252). -/
theorem exec_esbWindowLatch {s : State} {link : Link} (h : blockServes s link = true) (endRead : Bool) :
    let u := if (!endRead && s.host.fn[link].esbAt.any fun t0 => !due s t0 10) = true then touchEstimator s
      else setFn (touchEstimator s) link fun f => { f with esb := esbBlock (touchEstimator s), esbAt := some s.clock.now }
    exec (.esbWindowLatch link endRead) s = .next (emit u (.register link 0x0500 (hostReg u link 0x0500).toNat)) :=
  congrArg Host.Outcome.next (if_pos h)

/-- Settles O54: each command sets the fields that it names (`exec_take_captures`, `exec_flGenLatch`, `exec_planInfoLatch`,
`exec_esbWindowLatch`). -/
theorem snapshotsAndLatchesHoldOneMoment : Obligations.SnapshotsAndLatchesHoldOneMoment := by
  refine ⟨fun s link value => ⟨fun h => congrArg Host.Outcome.next (if_pos h), fun h => congrArg Host.Outcome.next (if_pos h)⟩,
    fun s link group h => ⟨fun hgroup => ?_, exec_take_captures h, congrArg Host.Outcome.next (if_pos h),
      fun p hp => ⟨fun hdue => ?_, fun hdue => ?_⟩⟩,
    fun s link h hsnap => ⟨exec_flGenLatch h hsnap, ⟨_, exec_planInfoLatch h hsnap, ?_, rfl⟩, congrArg Host.Outcome.next (if_pos ?_)⟩,
    fun s link endRead h => ⟨_, exec_esbWindowLatch h endRead, ?_⟩,
    fun s fifo far => ⟨fun near hnone hnear => ?_, fun hother => ?_⟩⟩
  · have hset : (setFn s link fun f => { f with snapGroup := group.val }).host.fn[link].snapGroup = group.val := by
      rw [setFn_fn_same]
    rw [exec_take h, takeSnapshot_eq _ _ hset, if_pos hgroup]
    rfl
  · rw [exec_snapshotExpiry hp, if_pos hdue]
    rfl
  · rw [exec_snapshotExpiry hp, hdue, if_neg Bool.false_ne_true]
  · exact congrArg FnRegs.planMarks (getElem_vecMod_same _ _ _)
  · unfold regServes
    unfold blockServes at h
    obtain ⟨hup, hrom⟩ := Bool.and_eq_true_iff.1 h
    rw [hup, hrom]
    rfl
  · split
    · rename_i hheld
      obtain ⟨hend, hrecent⟩ := Bool.and_eq_true_iff.1 hheld
      refine ⟨rfl, ?_, rfl, rfl⟩
      rw [if_pos ⟨by simpa using hend, hrecent⟩]
      rfl
    · rename_i hfree
      refine ⟨rfl, ?_, rfl, rfl⟩
      rw [if_neg (fun hboth => hfree (by rw [hboth.1, hboth.2]; rfl))]
      have hset := setFn_fn_same (touchEstimator s) link fun f => { f with esb := esbBlock (touchEstimator s), esbAt := some s.clock.now }
      exact ⟨congrArg FnRegs.esb hset, congrArg FnRegs.esbAt hset⟩
  · change execFifoResync fifo far s = _
    unfold execFifoResync
    rw [hnone, hnear]
  · change execFifoResync fifo far s = _
    unfold execFifoResync
    rw [hother]
    cases far <;> rfl

/-! ## Unaligned accesses (R500) -/

theorem noteUnaligned_frame (s : State) (l : Link) : ∃ fn r, noteUnaligned s l = { s with host := { s.host with fn := fn }, recorder := r } ∧
    ∀ k, k ≠ l → fn[k] = s.host.fn[k] := by
  unfold noteUnaligned
  split
  · exact ⟨_, _, rfl, fun _ _ => rfl⟩
  · rw [logEvent_frame]
    exact ⟨_, _, rfl, fun k hk => setFn_fn_ne s _ hk⟩

theorem exec_unalignedAccess {s : State} {link : Link} {offset size : Nat} (hreach : blockReached s link = true)
    (hal : aligned offset size = false) (isWrite : Bool) :
    exec (.unalignedAccess link isWrite offset size) s = .next (unaligned s link isWrite offset size) :=
  congrArg Host.Outcome.next (if_pos (by rw [hreach, hal]; rfl))

/-! ## Fields under a write of a whole word (R500) -/

theorem maskWrite_whole (old v : Word) : maskWrite old v 0xFFFFFFFF 0xFFFFFFFF = v := by
  change (old &&& ~~~(BitVec.allOnes 32 &&& BitVec.allOnes 32)) ||| (v &&& (BitVec.allOnes 32 &&& BitVec.allOnes 32)) = v
  rw [BitVec.and_self, BitVec.and_allOnes, BitVec.not_allOnes, BitVec.and_zero, BitVec.zero_or]

theorem fieldWrite_whole (old : Nat) (v : Word) (lo w : Nat) : fieldWrite old v 0xFFFFFFFF lo w = bitsOf v.toNat lo w := by
  unfold fieldWrite
  rw [maskWrite_whole]

theorem hits_whole (v : Word) (lo w : Nat) : hits v 0xFFFFFFFF lo w = (bitsOf v.toNat lo w != 0) := by
  unfold hits
  rw [show v &&& 0xFFFFFFFF = v from BitVec.and_allOnes]

theorem bitsOf_low_half (v : Word) : bitsOf v.toNat 0 16 = (v.setWidth 16).toNat := by
  simp [bitsOf]

theorem bitsOf_low_bit (v : Word) : (bitsOf v.toNat 0 1 == 1) = v.getLsbD 0 := by
  rw [BitVec.getLsbD, Nat.testBit_zero]
  unfold bitsOf
  rw [Nat.pow_zero, Nat.div_one]
  rfl

/-- A counter in the low half is cleared by any 1 written to it. -/
theorem clearIf_low_half (old : Nat) (v : Word) : clearIf old v 0xFFFFFFFF 0 16 = if v.setWidth 16 = 0#16 then old else 0 := by
  unfold clearIf
  rw [hits_whole, bitsOf_low_half]
  by_cases hv : v.setWidth 16 = 0#16
  · rw [if_pos hv, hv]
    rfl
  · rw [if_neg hv, if_pos]
    exact bne_iff_ne.2 fun h0 => hv (BitVec.eq_of_toNat_eq h0)

/-! ## Writes of 4 and 8 bytes (R500, R503) -/

/-- The register is served where the block is reached, unless CROCUS leaves it to the ROM. -/
theorem regServes_of_not_crocus {s : State} {l : Link} (hreach : blockReached s l = true) (hrom : inCrocus s = false) (off : Nat) :
    regServes s l off = true := by
  unfold regServes
  rw [show (s.host.link[l].offersIo && coreUp s) = true from hreach, hrom]
  rfl

theorem blockServes_of_not_crocus {s : State} {l : Link} (hreach : blockReached s l = true) (hrom : inCrocus s = false) :
    blockServes s l = true := by
  unfold blockServes
  rw [show (s.host.link[l].offersIo && coreUp s) = true from hreach, hrom]
  rfl

theorem writeServed_of_not_reached {s : State} {l : Link} (hreach : blockReached s l = false) (off : Nat) (val en : Word) :
    writeServed s l off val en = s := by
  refine if_neg ?_
  unfold regServes
  rw [show (s.host.link[l].offersIo && coreUp s) = false from hreach]
  exact Bool.false_ne_true

theorem exec_registerWrite_not_reached {s : State} {l : Link} (hreach : blockReached s l = false) (off size : Nat) (value : DWord) :
    exec (.registerWrite l off size value) s = .next s :=
  congrArg Host.Outcome.next (if_pos (by rw [hreach]; rfl))

theorem exec_registerWrite_beyond {s : State} {l : Link} (hreach : blockReached s l = true) {off : Nat} (hoff : 0x10000 ≤ off)
    (size : Nat) (value : DWord) :
    exec (.registerWrite l off size value) s = .next (writeBeyond s l (off - 0x10000) size value) := by
  refine congrArg Host.Outcome.next ((if_neg ?_).trans (if_pos hoff))
  rw [hreach]
  exact Bool.false_ne_true

theorem exec_registerWrite_block {s : State} {l : Link} (hreach : blockReached s l = true) {off size : Nat} (hoff : off < 0x10000)
    (hal : aligned off size = true) (value : DWord) :
    exec (.registerWrite l off size value) s = .next (writeBlock s l off size value) := by
  refine congrArg Host.Outcome.next ((if_neg ?_).trans ((if_neg (by omega)).trans (if_pos hal)))
  rw [hreach]
  exact Bool.false_ne_true

theorem setWidth_eq_ofNat_mod (value : DWord) : BitVec.ofNat 32 (value.toNat % 2 ^ 32 * 2 ^ 0) = value.setWidth 32 :=
  BitVec.eq_of_toNat_eq (by simp)

theorem setWidth_high_half (value : DWord) : (value >>> 32).setWidth 32 = BitVec.ofNat 32 (value.toNat / 2 ^ 32) :=
  BitVec.eq_of_toNat_eq (by simp [Nat.shiftRight_eq_div_pow])

/-- One word outside the tables. -/
theorem exec_registerWrite_word {s : State} {l : Link} {off : Nat} (hreach : blockReached s l = true) (hoff : off < 0x10000)
    (hal : off % 4 = 0) (htab : inTables off = false) (value : DWord) :
    exec (.registerWrite l off 4 value) s = .next (writeServed s l off (value.setWidth 32) 0xFFFFFFFF) := by
  have haligned : aligned off 4 = true := by
    unfold aligned
    rw [hal]
    rfl
  have hword : off / 4 * 4 = off := by omega
  rw [exec_registerWrite_block hreach hoff haligned]
  unfold writeBlock
  rw [htab, if_neg Bool.false_ne_true, if_neg (by decide), hword, hal, setWidth_eq_ofNat_mod]
  rfl

/-- Two words outside the tables. -/
theorem exec_registerWrite_words {s : State} {l : Link} {off : Nat} (hreach : blockReached s l = true) (hoff : off < 0x10000)
    (hal : off % 8 = 0) (htab : inTables off = false) (value : DWord) :
    exec (.registerWrite l off 8 value) s =
      .next (writeServed (writeServed s l off (value.setWidth 32) 0xFFFFFFFF) l (off + 4) ((value >>> 32).setWidth 32) 0xFFFFFFFF) := by
  have haligned : aligned off 8 = true := by
    unfold aligned
    rw [hal]
    rfl
  rw [exec_registerWrite_block hreach hoff haligned, setWidth_high_half]
  unfold writeBlock
  rw [htab, if_neg Bool.false_ne_true, if_pos rfl]

/-- Outside CROCUS a word of the block reaches its register. -/
theorem exec_registerWrite_reg {s : State} {l : Link} {off : Nat} (hreach : blockReached s l = true) (hrom : inCrocus s = false)
    (hoff : off < 0x1700) (hal : off % 4 = 0) (value : DWord) :
    exec (.registerWrite l off 4 value) s = .next (writeReg s l off (value.setWidth 32) 0xFFFFFFFF) := by
  rw [exec_registerWrite_word hreach (by omega) hal (decide_eq_false (by omega))]
  exact congrArg Host.Outcome.next (if_pos (regServes_of_not_crocus hreach hrom off))

/-! ## Registers with writable fields -/

theorem writeDcPd_whole {s : State} (hmin : s.power.minimal = false) (v : Word) :
    writeDcPd s v 0xFFFFFFFF = { s with dram := { s.dram with pdTimer := v.setWidth 16 } } := by
  unfold writeDcPd
  rw [hmin, if_neg Bool.false_ne_true, fieldWrite_whole, bitsOf_low_half, BitVec.ofNat_toNat, BitVec.setWidth_eq]

theorem writeReg_drops (s : State) (l : Link) (v : Word) : writeReg s l 0x0E00 v 0xFFFFFFFF =
    { s with recorder := { s.recorder with drops := if v.setWidth 16 = 0#16 then s.recorder.drops else 0 } } := by
  rw [← clearIf_low_half]
  rfl

theorem writeReg_holdflag (s : State) (l : Link) (v : Word) :
    writeReg s l 0x1400 v 0xFFFFFFFF = { s with crossings := { s.crossings with holdflag := v.getLsbD 0 } } := by
  rw [← bitsOf_low_bit, ← fieldWrite_whole (bit s.crossings.holdflag)]
  rfl

theorem vecMod_id {α : Type} {n : Nat} (v : Vector α n) (i : Fin n) {f : α → α} (hf : f v[i] = v[i]) : vecMod v i f = v := by
  unfold vecMod
  rw [hf]
  exact Vector.set_getElem_self _

theorem setFn_congr (s : State) (l : Link) {f g : FnRegs → FnRegs} (h : f s.host.fn[l] = g s.host.fn[l]) : setFn s l f = setFn s l g := by
  unfold setFn vecMod
  rw [h]

/-- A head outside the ring is ignored. -/
theorem writeReg_ringHead (s : State) (l : Link) (v : Word) : writeReg s l 0x0C0C v 0xFFFFFFFF =
    setFn s l fun f => { f with ringHead := if f.ringSize ≤ (v.setWidth 16).toNat then f.ringHead else (v.setWidth 16).toNat } := by
  change (if fieldWrite s.host.fn[l].ringHead v 0xFFFFFFFF 0 16 ≥ s.host.fn[l].ringSize then s
    else setFn s l fun f => { f with ringHead := fieldWrite s.host.fn[l].ringHead v 0xFFFFFFFF 0 16 }) = _
  rw [fieldWrite_whole, bitsOf_low_half]
  split
  · rename_i hout
    unfold setFn
    rw [vecMod_id s.host.fn l (by rw [if_pos hout])]
  · rename_i hin
    refine setFn_congr s l ?_
    rw [if_neg hin]

theorem writeReg_logSel (s : State) (l : Link) (v : Word) :
    writeReg s l 0x0E0C v 0xFFFFFFFF = setFn s l fun f => { f with logSel := v, logSelState := .fetching } := by
  change setFn s l (fun r => { r with logSel := maskWrite r.logSel v 0xFFFFFFFF 0xFFFFFFFF, logSelState := .fetching }) = _
  simp only [maskWrite_whole]

/-- A word below 0x1000 without a writable field ignores a write. -/
theorem writeReg_without_fields {off : Nat} (s : State) (l : Link) (v en : Word) (hal : off % 4 = 0) (hoff : off < 4096)
    (hnot : off ∉ [0x0180, 0x0194, 0x02C4, 0x040C, 0x0860, 0x0888, 0x0C00, 0x0C04, 0x0C08, 0x0C0C, 0x0C10, 0x0E00, 0x0E0C]) :
    writeReg s l off v en = s := by
  simp only [List.mem_cons, List.not_mem_nil, or_false, not_or] at hnot
  unfold writeReg
  repeat rw [if_neg (by omega)]

/-! ## Behind BAR2: MSI-X (R86) -/

theorem exec_registerWrite_vectorControl {s : State} {l : Link} (hreach : blockReached s l = true) (vec : Fin 8) (value : DWord) :
    exec (.registerWrite l (0x1000C + 16 * vec.val) 4 value) s = .next (maskVector s l vec (value.getLsbD 0)) := by
  have hoff : 0x1000C + 16 * vec.val - 0x10000 = 12 + 16 * vec.val := by omega
  have hentry : Fin.ofNat 8 ((12 + 16 * vec.val) / 16 % 8) = vec := Fin.ext (by simp only [Fin.val_ofNat]; omega)
  rw [exec_registerWrite_beyond hreach (by omega), hoff]
  unfold writeBeyond
  rw [if_pos ⟨rfl, by omega⟩]
  unfold writeBeyondWord
  rw [if_pos (by omega)]
  unfold writeVector
  dsimp only
  rw [if_neg (by omega), if_neg (by omega), if_neg (by omega), hentry]
  simp

theorem maskVector_unmask_pending {s : State} {l : Link} {vec : Fin 8} (hmask : s.host.link[l].msixMask.getLsbD vec.val = true)
    (hpend : s.host.link[l].msixPend.getLsbD vec.val = true) : maskVector s l vec false =
      emit (setLink s l fun k => { k with msixMask := k.msixMask &&& ~~~(1#8 <<< vec.val),
                                          msixPend := k.msixPend &&& ~~~(1#8 <<< vec.val) }) (.msix l vec.val) := by
  unfold maskVector
  rw [if_neg Bool.false_ne_true]
  dsimp only
  rw [hmask, hpend]
  rfl

theorem getLsbD_clear_same (b : Byte) (i : Fin 8) : (b &&& ~~~(1#8 <<< i.val)).getLsbD i.val = false := by
  simp

/-- A link that changes in the MSI-X table, its base or Bus Master Enable offers CXL.io as before. -/
theorem blockReached_setLink {s : State} {l : Link} {f : HostLink → HostLink} (hf : (f s.host.link[l]).offersIo = s.host.link[l].offersIo) :
    blockReached (setLink s l f) l = blockReached s l := by
  have hlink : (setLink s l f).host.link[l] = f s.host.link[l] := getElem_vecMod_same _ _ _
  unfold blockReached
  rw [hlink, hf]
  rfl

theorem blockReached_maskVector (s : State) (l : Link) (v : Fin 8) (on : Bool) : blockReached (maskVector s l v on) l = blockReached s l := by
  unfold maskVector
  cases on
  · dsimp only
    rw [if_neg Bool.false_ne_true]
    split
    · exact blockReached_setLink (s := s) (l := l) (f := fun k => { k with
        msixMask := k.msixMask &&& ~~~(1#8 <<< v.val), msixPend := k.msixPend &&& ~~~(1#8 <<< v.val) }) rfl
    · exact blockReached_setLink rfl
  · exact blockReached_setLink rfl

theorem blockReached_writeVector (s : State) (l : Link) (off : Nat) (v : Word) :
    blockReached (writeVector s l off v) l = blockReached s l := by
  unfold writeVector
  dsimp only
  split
  · exact blockReached_setLink rfl
  split
  · exact blockReached_setLink rfl
  split
  · exact blockReached_setLink rfl
  · exact blockReached_maskVector _ _ _ _

theorem blockReached_writeBeyondWord (s : State) (l : Link) (off : Nat) (v : Word) :
    blockReached (writeBeyondWord s l off v) l = blockReached s l := by
  unfold writeBeyondWord
  split
  · exact blockReached_writeVector _ _ _ _
  split
  · exact blockReached_setLink rfl
  split
  · exact blockReached_setLink rfl
  split
  · exact blockReached_setLink rfl
  · rfl

/-! ## A write of 8 bytes is two of 4 -/

theorem exec_registerWrite_8_beyond {s : State} {l : Link} {off : Nat} (hreach : blockReached s l = true) (hoff : 0x10000 ≤ off)
    (hal : off % 8 = 0) (value : DWord) : ∃ t, exec (.registerWrite l off 4 value) s = .next t ∧
      exec (.registerWrite l off 8 value) s = exec (.registerWrite l (off + 4) 4 (value >>> 32)) t := by
  have hword : ∀ (u : State) (x : DWord), writeBeyond u l (off - 0x10000) 4 x = writeBeyondWord u l (off - 0x10000) (x.setWidth 32) :=
    fun u x => if_pos ⟨rfl, by omega⟩
  have hnext : off + 4 - 0x10000 = off - 0x10000 + 4 := by omega
  refine ⟨_, (exec_registerWrite_beyond hreach hoff 4 value).trans (congrArg _ (hword s value)), ?_⟩
  rw [exec_registerWrite_beyond hreach hoff, exec_registerWrite_beyond ((blockReached_writeBeyondWord _ _ _ _).trans hreach) (by omega), hnext]
  unfold writeBeyond
  rw [if_neg (fun h => absurd h.1 (by decide)), if_pos ⟨rfl, by omega⟩, if_pos ⟨rfl, by omega⟩, setWidth_high_half]

theorem exec_registerWrite_8_block {s : State} {l : Link} {off : Nat} (hreach : blockReached s l = true) (hoff : off < 0x10000)
    (hal : off % 8 = 0) (htab : inTables off = false) (value : DWord) : ∃ t, exec (.registerWrite l off 4 value) s = .next t ∧
      exec (.registerWrite l off 8 value) s = exec (.registerWrite l (off + 4) 4 (value >>> 32)) t := by
  have hout : ¬ ((0x4000 ≤ off ∧ off < 0x10000) ∨ (0x1700 ≤ off ∧ off < 0x1800)) := of_decide_eq_false htab
  have htab4 : inTables (off + 4) = false := decide_eq_false (by omega)
  refine ⟨_, exec_registerWrite_word hreach hoff (by omega) htab value, ?_⟩
  rw [exec_registerWrite_words hreach hoff hal htab]
  generalize writeServed s l off (value.setWidth 32) 0xFFFFFFFF = t
  cases ht : blockReached t l with
  | false => rw [writeServed_of_not_reached ht, exec_registerWrite_not_reached ht]
  | true => rw [exec_registerWrite_word ht (by omega) (by omega) htab4]

/-- Settles O55: each register by its equation (`writeReg_drops`, `writeReg_ringHead`, …), the MSI-X vector by
`maskVector_unmask_pending`, 8 bytes as two words. -/
theorem registerWritesReachTheirFields : Obligations.RegisterWritesReachTheirFields := by
  refine ⟨fun s link isWrite offset size hreach hal => ?_, fun s link value v hreach hrom hv => ?_, fun s link value hreach hrom hmin => ?_,
    fun s link vec value hreach hv hmask hpend => ?_, fun s link off value hal htab => ?_⟩
  · obtain ⟨fn, r, hnote, hother⟩ := noteUnaligned_frame s link
    refine ⟨_, exec_unalignedAccess hreach hal isWrite, ?_⟩
    unfold unaligned
    rw [hnote]
    cases isWrite
    · exact ⟨rfl, hother, rfl⟩
    · exact ⟨(List.append_nil _).symm, hother, rfl⟩
  · subst hv
    have hreg := fun off (hoff : off < 0x1700) hal => exec_registerWrite_reg hreach hrom (off := off) hoff hal value
    refine ⟨fun hmin => ?_, ?_, ?_, ?_, ?_, fun off hal hoff hnot => ?_⟩
    · exact (hreg 0x0860 (by decide) rfl).trans (congrArg _ (writeDcPd_whole hmin _))
    · rw [hreg 0x0E00 (by decide) rfl, writeReg_drops]
    · rw [hreg 0x1400 (by decide) rfl, writeReg_holdflag]
    · rw [hreg 0x0C0C (by decide) rfl, writeReg_ringHead]
      rfl
    · rw [hreg 0x0E0C (by decide) rfl, writeReg_logSel]
      rfl
    · rw [hreg off (by omega) hal, writeReg_without_fields s link _ _ hal hoff hnot]
  · exact congrArg Host.Outcome.next ((if_pos (blockServes_of_not_crocus hreach hrom)).trans (writeDcPd_whole hmin value))
  · have hlink : ∀ f, (setLink s link f).host.link[link] = f s.host.link[link] := fun f => getElem_vecMod_same _ _ _
    refine ⟨_, exec_registerWrite_vectorControl hreach vec value, ?_⟩
    rw [hv, maskVector_unmask_pending hmask hpend]
    refine ⟨?_, ?_, fun k hk => getElem_vecMod_ne _ _ hk, rfl⟩
    · exact (congrArg (fun k : HostLink => k.msixMask.getLsbD vec.val) (hlink _)).trans (getLsbD_clear_same _ _)
    · exact (congrArg (fun k : HostLink => k.msixPend.getLsbD vec.val) (hlink _)).trans (getLsbD_clear_same _ _)
  · cases hreach : blockReached s link with
    | false =>
      exact ⟨s, exec_registerWrite_not_reached hreach _ _ _,
        (exec_registerWrite_not_reached hreach _ _ _).trans (exec_registerWrite_not_reached hreach _ _ _).symm⟩
    | true =>
      by_cases hoff : off < 0x10000
      · exact exec_registerWrite_8_block hreach hoff hal htab value
      · exact exec_registerWrite_8_beyond hreach (by omega) hal value

end Sys2Proof.Machine
end

section
/-! The queue of waiting commands is left alone (O57), in any state, sound or not: one lemma for each operation and each command, as
Laws/KeptShared.lean and Laws/KeptCommands.lean have it of sound states. -/

namespace Sys2Proof.Machine

open Sys2Proof

/-- The queue of the state is `pq`. -/
def Queued (pq : List Instr) (s : State) : Prop := s.pending = pq

/-- A command ends in a next state with the queue `pq`. -/
def QueuedR (pq : List Instr) (r : Result) : Prop := ∃ t, r = .next t ∧ Queued pq t

theorem queuedR_next {pq : List Instr} {t : State} (h : Queued pq t) : QueuedR pq (.next t) := ⟨t, rfl, h⟩

theorem queued_parts {pq : List Instr} {s : State} (h : Queued pq s) : s.pending = pq := h

/-- A state written out has the queue written into it. -/
theorem queued_mk {pq : List Instr} {f_pending f_out f_fresh f_clock f_power f_startup f_rails f_button f_thermal f_pack f_bank
    f_charger f_security f_host f_rt f_persist f_dram f_shroud f_flash f_save f_restore f_notices f_qmp f_recorder f_faults f_cf
    f_fw f_smb f_lb f_engines f_crossings}
    (h : f_pending = pq) :
    Queued pq (State.mk f_pending f_out f_fresh f_clock f_power f_startup f_rails f_button f_thermal f_pack f_bank f_charger f_security
      f_host f_rt f_persist f_dram f_shroud f_flash f_save f_restore f_notices f_qmp f_recorder f_faults f_cf f_fw f_smb f_lb f_engines
      f_crossings) := h

theorem queued_ite {pq : List Instr} {c : Prop} [Decidable c] {a b : State} (ha : Queued pq a) (hb : Queued pq b) :
    Queued pq (if c then a else b) := by split <;> assumption

theorem queued_foldl {α : Type} {pq : List Instr} {f : State → α → State} (h : ∀ s x, Queued pq s → Queued pq (f s x)) :
    ∀ (l : List α) {s : State}, Queued pq s → Queued pq (l.foldl f s)
  | [], _, hs => hs
  | x :: l, _, hs => queued_foldl h l (h _ x hs)


/-! ## Machine/Ops.lean -/

theorem emit_queued {pq : List Instr} (s : State) (o : Output) (hk : Queued pq s) : Queued pq (emit s o) := hk

theorem drawRandom_queued {pq : List Instr} (s : State) (n : Nat) (hk : Queued pq s) : Queued pq (drawRandom s n).2 := hk

theorem drawRandom_queuedE {pq : List Instr} {s : State} {n : Nat} {ra} {rb} (hk : Queued pq s) (he : drawRandom s n = (ra, rb)) :
    Queued pq rb := by
  have := drawRandom_queued (pq := pq) s n hk
  rw [he] at this; exact this

theorem setBucket_queued {pq : List Instr} (s : State) (b : Bucket) (hk : Queued pq s) : Queued pq (setBucket s b) :=
  hk

theorem stage_queued {pq : List Instr} (s : State) (r : Record) (hk : Queued pq s) : Queued pq (stage s r) :=
  hk

theorem logEvent_queued {pq : List Instr} (s : State) (code : BitVec 16) (sev : Nat) (payload : List Byte) (hk : Queued pq s) :
    Queued pq (logEvent s code sev payload) := by
  unfold logEvent
  repeat' (with_reducible first | exact hk | apply stage_queued | apply setBucket_queued | apply queued_ite)

theorem queueNotice_queued {pq : List Instr} (s : State) (code : BitVec 16) (cls : Nat) (payload : List Word) (hk : Queued pq s) :
    Queued pq (queueNotice s code cls payload) := by
  unfold queueNotice
  repeat' (with_reducible first | exact hk | apply queued_ite | fail_if_no_progress refine queued_mk (queued_parts ?_) | split)

theorem raiseClass_queued {pq : List Instr} (s : State) (code cls : Nat) (payload : List Nat) (hk : Queued pq s) :
    Queued pq (raiseClass s code cls payload) := by
  unfold raiseClass
  repeat' (with_reducible first | exact hk | apply logEvent_queued | apply queueNotice_queued)

theorem raise_queued {pq : List Instr} (s : State) (code : Nat) (payload : List Nat) (hk : Queued pq s) :
    Queued pq (raise s code payload) := by
  unfold raise
  repeat' (with_reducible first | exact hk | apply raiseClass_queued)

theorem endSession_queued {pq : List Instr} (s : State) (c : Nat) (hk : Queued pq s) : Queued pq (endSession s c) := by
  unfold endSession
  repeat' (with_reducible first | exact hk | apply raise_queued | apply queued_ite | fail_if_no_progress refine queued_mk (queued_parts ?_))

theorem debugReturns_queued {pq : List Instr} (s : State) (hk : Queued pq s) : Queued pq (debugReturns s) := hk

theorem passTime_queued {pq : List Instr} (s : State) (hk : Queued pq s) : Queued pq (passTime s) := hk

theorem addPoison_queued {pq : List Instr} (s : State) (line : Nat) (src : PoisonSource) (hk : Queued pq s) :
    Queued pq (addPoison s line src) := hk

theorem dropPoison_queued {pq : List Instr} (s : State) (line : Nat) (hk : Queued pq s) : Queued pq (dropPoison s line) := hk

theorem poisonGranule_queued {pq : List Instr} (s : State) (g : Nat) (src : PoisonSource) (hk : Queued pq s) :
    Queued pq (poisonGranule s g src) := hk

theorem countDirtyShutdown_queued {pq : List Instr} (s : State) (hk : Queued pq s) : Queued pq (countDirtyShutdown s) := by
  unfold countDirtyShutdown
  repeat' (with_reducible first | exact hk | apply queued_ite | fail_if_no_progress refine queued_mk (queued_parts ?_) | split)

theorem markDirty_queued {pq : List Instr} (s : State) (g : Nat) (hk : Queued pq s) : Queued pq (markDirty s g) := hk

theorem clearDirty_queued {pq : List Instr} (s : State) (g : Nat) (hk : Queued pq s) : Queued pq (clearDirty s g) := hk

theorem resetFunction_queued {pq : List Instr} (s : State) (l : Link) (hk : Queued pq s) : Queued pq (resetFunction s l) := hk

theorem dropRequests_queued {pq : List Instr} (s : State) (l : Link) (hk : Queued pq s) : Queued pq (dropRequests s l) := hk

theorem linkReset_queued {pq : List Instr} (s : State) (l : Link) (hk : Queued pq s) : Queued pq (linkReset s l) := by
  unfold linkReset
  repeat' (with_reducible first | exact hk | apply dropRequests_queued | apply resetFunction_queued
                                | fail_if_no_progress refine queued_mk (queued_parts ?_))

theorem linkGone_queued {pq : List Instr} (s : State) (l : Link) (hk : Queued pq s) : Queued pq (linkGone s l) := hk

theorem idleLinks_queued {pq : List Instr} (s : State) (hk : Queued pq s) : Queued pq (idleLinks s) := by
  unfold idleLinks
  repeat' (with_reducible first | exact hk | assumption | apply linkGone_queued | apply linkReset_queued | refine queued_foldl ?_ _ ?_
                                | intro _ _ _ | fail_if_no_progress refine queued_mk (queued_parts ?_))

/-! ## Machine/Ceiling.lean -/

theorem bankQualify_queued {pq : List Instr} (s : State) (hk : Queued pq s) : Queued pq (bankQualify s) := by
  unfold bankQualify
  repeat' (with_reducible first | exact hk | apply queued_ite | fail_if_no_progress refine queued_mk (queued_parts ?_) | split)

theorem firstPartNotices_queued {pq : List Instr} (s : State) (parts : List Nat) (hk : Queued pq s) :
    Queued pq (firstPartNotices s parts) := by
  unfold firstPartNotices
  repeat' (with_reducible first | exact hk | assumption | apply raise_queued | apply queued_ite | refine queued_foldl ?_ _ ?_
                                | intro _ _ _)

theorem transitionNotices_queued {pq : List Instr} (s : State) (old new : Psub) (returned : Bool) (hk : Queued pq s) :
    Queued pq (transitionNotices s old new returned) := by
  unfold transitionNotices
  repeat' (with_reducible first | exact hk | apply raise_queued | apply queued_ite)

theorem evalPsub_queued {pq : List Instr} (s : State) (hk : Queued pq s) : Queued pq (evalPsub s) := by
  unfold evalPsub
  repeat' (with_reducible first | exact hk | apply transitionNotices_queued | apply firstPartNotices_queued | apply queued_ite
                                | fail_if_no_progress refine queued_mk (queued_parts ?_) | split)

theorem followD_queued {pq : List Instr} (s : State) (hk : Queued pq s) : Queued pq (followD s) := by
  unfold followD
  repeat' (with_reducible first | exact hk | apply evalPsub_queued | apply queued_ite | split)

theorem limitNotice_queued {pq : List Instr} (s : State) (hk : Queued pq s) : Queued pq (limitNotice s) := by
  unfold limitNotice
  repeat' (with_reducible first | exact hk | apply raise_queued | apply queued_ite | fail_if_no_progress refine queued_mk (queued_parts ?_))

theorem publish_queued {pq : List Instr} (s : State) (c : Settings) (k : Ceiling) (hk : Queued pq s) : Queued pq (publish s c k) := by
  unfold publish
  repeat' (with_reducible first | exact hk | apply limitNotice_queued | fail_if_no_progress refine queued_mk (queued_parts ?_))

theorem updateCeiling_queued {pq : List Instr} (s : State) (hk : Queued pq s) : Queued pq (updateCeiling s) := by
  unfold updateCeiling
  repeat' (with_reducible first | exact hk | apply bankQualify_queued | apply publish_queued | split)

theorem ceilingEvent_queued {pq : List Instr} (s : State) (hk : Queued pq s) : Queued pq (ceilingEvent s) := by
  unfold ceilingEvent
  repeat' (with_reducible first | exact hk | apply bankQualify_queued | apply evalPsub_queued | apply publish_queued
                                | apply queued_ite | fail_if_no_progress refine queued_mk (queued_parts ?_) | split)

/-! ## Machine/CodeOps.lean -/

theorem cfPut_queued {pq : List Instr} (s : State) (a : Nat) (d : DWord) (hk : Queued pq s) : Queued pq (cfPut s a d) := by
  unfold cfPut
  repeat' (with_reducible first | exact hk | apply queued_ite | fail_if_no_progress refine queued_mk (queued_parts ?_))

theorem cfEraseSector_queued {pq : List Instr} (s : State) (sec : Nat) (hk : Queued pq s) : Queued pq (cfEraseSector s sec) := hk

theorem sectorGone_queued {pq : List Instr} (s : State) (sec : Nat) (hk : Queued pq s) : Queued pq (sectorGone s sec) :=
  hk

theorem cfEraseRange_queued {pq : List Instr} (s : State) (lo hi : Nat) (hk : Queued pq s) : Queued pq (cfEraseRange s lo hi) := hk

theorem writeSwap_queued {pq : List Instr} (s : State) (magic base slots low : Nat) (hk : Queued pq s) :
    Queued pq (writeSwap s magic base slots low) := by
  unfold writeSwap
  repeat' (with_reducible first | exact hk | apply cfPut_queued | split)

theorem setOwnerLock_queued {pq : List Instr} (s : State) (b : Bool) (hk : Queued pq s) : Queued pq (setOwnerLock s b) := by
  unfold setOwnerLock
  repeat' (with_reducible first | exact hk | apply writeSwap_queued | apply cfEraseSector_queued | apply cfPut_queued | apply queued_ite)

theorem writeLevel_queued {pq : List Instr} (s : State) (isLevel : Bool) (l : Level) (hk : Queued pq s) :
    Queued pq (writeLevel s isLevel l) := by
  unfold writeLevel
  repeat' (with_reducible first | exact hk | apply writeSwap_queued)

theorem writeKeySlot_queued {pq : List Instr} (s : State) (i : Nat) (wrapped : List DWord) (keyId : Word) (hk : Queued pq s) :
    Queued pq (writeKeySlot s i wrapped keyId) := by
  unfold writeKeySlot
  repeat' (with_reducible first | exact hk | assumption | apply cfPut_queued | refine queued_foldl ?_ _ ?_ | intro _ _ _)

theorem killKey_queued {pq : List Instr} (s : State) (hk : Queued pq s) : Queued pq (killKey s) := by
  unfold killKey
  repeat' (with_reducible first | exact hk | apply cfPut_queued | split)

theorem programRepair_queued {pq : List Instr} (s : State) (r : Repair) (hk : Queued pq s) : Queued pq (programRepair s r) := by
  unfold programRepair
  repeat' (with_reducible first | exact hk | apply cfPut_queued | fail_if_no_progress refine queued_mk (queued_parts ?_) | split)

theorem addRepair_queued {pq : List Instr} (s : State) (r : Repair) (hk : Queued pq s) : Queued pq (addRepair s r) := by
  unfold addRepair
  repeat' (with_reducible first | exact hk | apply programRepair_queued | apply queued_ite
                                | fail_if_no_progress refine queued_mk (queued_parts ?_) | split)

theorem programHeld_queued {pq : List Instr} (s : State) (hk : Queued pq s) : Queued pq (programHeld s) := by
  unfold programHeld
  repeat' (with_reducible first | exact hk | assumption | apply programRepair_queued | apply queued_ite
                                | refine queued_foldl ?_ _ ?_ | intro _ _ _ | fail_if_no_progress refine queued_mk (queued_parts ?_)
                                | split)

theorem writeCheckpoint_queued {pq : List Instr} (s : State) (hk : Queued pq s) : Queued pq (writeCheckpoint s) := by
  unfold writeCheckpoint
  repeat' (with_reducible first | exact hk | assumption | apply cfEraseSector_queued | apply cfPut_queued | apply queued_ite
                                | refine queued_foldl ?_ _ ?_ | intro _ _ _)

theorem writeTrip_queued {pq : List Instr} (s : State) (r : TripRecord) (hk : Queued pq s) : Queued pq (writeTrip s r) := by
  unfold writeTrip
  repeat' (with_reducible first | exact hk | assumption | apply cfPut_queued | refine queued_foldl ?_ _ ?_ | intro _ _ _ | split)

/-! ## Machine/FaultOps.lean -/

theorem setTests_queued {pq : List Instr} (s : State) (ts : List Test) (hk : Queued pq s) : Queued pq (setTests s ts) := hk

theorem startTests_queued {pq : List Instr} (s : State) (hk : Queued pq s) : Queued pq (startTests s) := hk

theorem countTransient_queued {pq : List Instr} (s : State) (p : Part) (hk : Queued pq s) : Queued pq (countTransient s p) := hk

theorem withholdSet_queued {pq : List Instr} (s : State) (ch : FlashCh) (die : Fin 16) (idx : Nat) (hk : Queued pq s) :
    Queued pq (withholdSet s ch die idx) := by
  unfold withholdSet
  repeat' (with_reducible first | exact hk | apply queued_ite | fail_if_no_progress refine queued_mk (queued_parts ?_) | split)

theorem moveTested_queued {pq : List Instr} (s : State) (ch : FlashCh) (n : Nat) (hk : Queued pq s) : Queued pq (moveTested s ch n) := by
  unfold moveTested
  repeat' (with_reducible first | exact hk | apply queued_ite | fail_if_no_progress refine queued_mk (queued_parts ?_))

theorem prepareTest_queued {pq : List Instr} (s : State) (v0 : Part) (hk : Queued pq s) : Queued pq (prepareTest s v0) := by
  unfold prepareTest
  repeat' (with_reducible first | exact hk | apply moveTested_queued | apply withholdSet_queued | split)

theorem queueTest_queued {pq : List Instr} (s : State) (p : Part) (cmd : Option Word) (hk : Queued pq s) :
    Queued pq (queueTest s p cmd) := by
  unfold queueTest
  repeat' (with_reducible first | exact hk | apply setTests_queued | apply logEvent_queued | apply countTransient_queued
                                | apply startTests_queued | apply prepareTest_queued | apply queued_ite)

theorem endTest_queued {pq : List Instr} (s : State) (t : Test) (pass : Bool) (hk : Queued pq s) : Queued pq (endTest s t pass) := by
  unfold endTest
  repeat' (with_reducible first | exact hk | apply setTests_queued | apply logEvent_queued | apply raise_queued | apply startTests_queued
                                | apply queued_ite | split)

theorem removeTest_queued {pq : List Instr} (s : State) (p : Part) (hk : Queued pq s) : Queued pq (removeTest s p) := hk

theorem pauseTest_queued {pq : List Instr} (s : State) (p : Part) (hk : Queued pq s) : Queued pq (pauseTest s p) := hk

theorem eraseBroken_queued {pq : List Instr} (s : State) (ch : FlashCh) (die : Fin 16) (idx : Nat) (hk : Queued pq s) :
    Queued pq (eraseBroken s ch die idx) := hk

theorem abandonTest_queued {pq : List Instr} (s : State) (t : Test) (hk : Queued pq s) : Queued pq (abandonTest s t) := by
  unfold abandonTest
  repeat' (with_reducible first | exact hk | apply countTransient_queued | apply removeTest_queued | apply eraseBroken_queued
                                | apply pauseTest_queued | apply queued_ite | split)

theorem abandonTests_queued {pq : List Instr} (s : State) (hk : Queued pq s) : Queued pq (abandonTests s) := by
  unfold abandonTests
  repeat' (with_reducible first | exact hk | assumption | apply abandonTest_queued | refine queued_foldl ?_ _ ?_)

/-! ## Machine/SaveOps.lean -/

theorem beginShutdown_queued {pq : List Instr} (s : State) (k : DownThen) (hk : Queued pq s) : Queued pq (beginShutdown s k) := hk

theorem switchRailOff_queued {pq : List Instr} (s : State) (r : Rail) (hk : Queued pq s) : Queued pq (switchRailOff s r) := hk

theorem assertHold_queued {pq : List Instr} (s : State) (hk : Queued pq s) : Queued pq (assertHold s) := hk

theorem releaseHold_queued {pq : List Instr} (s : State) (hk : Queued pq s) : Queued pq (releaseHold s) := hk

theorem switchOver_queued {pq : List Instr} (s : State) (hk : Queued pq s) : Queued pq (switchOver s) := hk

theorem changeStore_queued {pq : List Instr} (s : State) (hk : Queued pq s) : Queued pq (changeStore s) := by
  unfold changeStore
  repeat' (with_reducible first | exact hk | apply queued_ite | fail_if_no_progress refine queued_mk (queued_parts ?_))

theorem beginInterval_queued {pq : List Instr} (s : State) (k : AvailKind) (hk : Queued pq s) : Queued pq (beginInterval s k) := by
  unfold beginInterval
  repeat' (with_reducible first | exact hk | fail_if_no_progress refine queued_mk (queued_parts ?_) | split)

theorem forceDebugClosed_queued {pq : List Instr} (s : State) (hk : Queued pq s) : Queued pq (forceDebugClosed s) := by
  unfold forceDebugClosed
  repeat' (with_reducible first | exact hk | apply endSession_queued | fail_if_no_progress refine queued_mk (queued_parts ?_))

theorem stopRetraining_queued {pq : List Instr} (s : State) (hk : Queued pq s) : Queued pq (stopRetraining s) := hk

theorem stopWork_queued {pq : List Instr} (s : State) (hk : Queued pq s) : Queued pq (stopWork s) := by
  unfold stopWork
  repeat' (with_reducible first | exact hk | assumption | apply abandonTests_queued | apply stopRetraining_queued
                                | apply eraseBroken_queued | apply forceDebugClosed_queued | apply programHeld_queued
                                | apply queued_ite | refine queued_foldl ?_ _ ?_ | intro _ _ _
                                | fail_if_no_progress refine queued_mk (queued_parts ?_) | split)

theorem endRest_queued {pq : List Instr} (s : State) (cause : Nat) (hk : Queued pq s) : Queued pq (endRest s cause) := by
  unfold endRest
  repeat' (with_reducible first | exact hk | apply raise_queued | apply queued_ite | fail_if_no_progress refine queued_mk (queued_parts ?_))

theorem startSave_queued {pq : List Instr} (s : State) (t : Trigger) (hk : Queued pq s) : Queued pq (startSave s t) := by
  unfold startSave
  repeat' (with_reducible first | exact hk | apply stopWork_queued | apply endRest_queued | apply beginInterval_queued
                                | apply queued_ite | fail_if_no_progress refine queued_mk (queued_parts ?_) | split)

theorem goOver_queued {pq : List Instr} (s : State) (hk : Queued pq s) : Queued pq (goOver s) := by
  unfold goOver
  repeat' (with_reducible first | exact hk | apply switchOver_queued | apply queued_ite | split)

theorem mergeTrigger_queued {pq : List Instr} (s : State) (t : Trigger) (hk : Queued pq s) : Queued pq (mergeTrigger s t) := by
  unfold mergeTrigger
  repeat' (with_reducible first | exact hk | apply goOver_queued | apply queued_ite
                                | fail_if_no_progress refine queued_mk (queued_parts ?_) | split)

theorem noSave_queued {pq : List Instr} (s : State) (t : Trigger) (hk : Queued pq s) : Queued pq (noSave s t) := by
  unfold noSave
  repeat' (with_reducible first | exact hk | apply beginShutdown_queued | apply logEvent_queued
                                | fail_if_no_progress refine queued_mk (queued_parts ?_) | split)

theorem holdTrigger_queued {pq : List Instr} (s : State) (t : Trigger) (hk : Queued pq s) : Queued pq (holdTrigger s t) := hk

theorem takeUp_queued {pq : List Instr} (s : State) (hk : Queued pq s) : Queued pq (takeUp s) := by
  unfold takeUp
  repeat' (with_reducible first | exact hk | apply queued_ite | fail_if_no_progress refine queued_mk (queued_parts ?_) | split)

theorem startHeld_queued {pq : List Instr} (s : State) (hk : Queued pq s) : Queued pq (startHeld s) := by
  unfold startHeld
  repeat' (with_reducible first | exact hk | assumption | apply mergeTrigger_queued | apply startSave_queued
                                | refine queued_foldl ?_ _ ?_ | intro _ _ _ | fail_if_no_progress refine queued_mk (queued_parts ?_)
                                | split)

theorem triggerSave_queued {pq : List Instr} (s : State) (t : Trigger) (hk : Queued pq s) : Queued pq (triggerSave s t) := by
  unfold triggerSave
  repeat' (with_reducible first | exact hk | apply startSave_queued | apply takeUp_queued | apply holdTrigger_queued
                                | apply mergeTrigger_queued | apply beginShutdown_queued | apply refuse_queued | apply noSave_queued
                                | apply queued_ite | fail_if_no_progress refine queued_mk (queued_parts ?_) | split)

theorem setEntry_queued {pq : List Instr} (s : State) (g : Nat) (e : Entry) (hk : Queued pq s) : Queued pq (setEntry s g e) := hk

theorem markLost_queued {pq : List Instr} (s : State) (g : Nat) (hk : Queued pq s) : Queued pq (markLost s g) := hk

theorem dropRewritten_queued {pq : List Instr} (s : State) (hk : Queued pq s) : Queued pq (dropRewritten s) := hk

theorem beginManifest_queued {pq : List Instr} (s : State) (cause : EndCause) (left : List Nat) (hk : Queued pq s) :
    Queued pq (beginManifest s cause left) := hk

theorem endFlush_queued {pq : List Instr} (s : State) (cause : EndCause) (hk : Queued pq s) : Queued pq (endFlush s cause) := by
  unfold endFlush
  repeat' (with_reducible first | exact hk | assumption | apply beginManifest_queued | apply markLost_queued
                                | apply dropRewritten_queued | apply queued_ite | refine queued_foldl ?_ _ ?_)

theorem checkOverrun_queued {pq : List Instr} (s : State) (hk : Queued pq s) : Queued pq (checkOverrun s) := by
  unfold checkOverrun
  repeat' (with_reducible first | exact hk | assumption | apply raise_queued | refine queued_foldl ?_ _ ?_ | intro _ _ _
                                | fail_if_no_progress refine queued_mk (queued_parts ?_))

/-! ## Machine/FlashOps.lean -/

theorem setBlock_queued {pq : List Instr} (s : State) (ch : FlashCh) (die : Fin 16) (idx : Nat) (f : BlockSet → BlockSet) (hk : Queued
    pq s) :
    Queued pq (setBlock s ch die idx f) := hk

theorem setBand_queued {pq : List Instr} (s : State) (n : Nat) (f : Band → Band) (hk : Queued pq s) : Queued pq (setBand s n f) := hk

theorem openNewBand_queued {pq : List Instr} (s : State) (c : Settings) (hk : Queued pq s) : Queued pq (openNewBand s c) := by
  unfold openNewBand
  repeat' (with_reducible first | exact hk | apply queued_ite | fail_if_no_progress refine queued_mk (queued_parts ?_) | split)

theorem issuePage_queued {pq : List Instr} (s : State) (p : PageGroup) (hk : Queued pq s) : Queued pq (issuePage s p) := by
  unfold issuePage
  repeat' (with_reducible first | exact hk | apply queued_ite | fail_if_no_progress refine queued_mk (queued_parts ?_) | split)

theorem issueWaiting_queued {pq : List Instr} (s : State) (hk : Queued pq s) : Queued pq (issueWaiting s) := by
  unfold issueWaiting
  repeat' (with_reducible first | exact hk | assumption | apply issuePage_queued | apply queued_ite | refine queued_foldl ?_ _ ?_
                                | intro _ _ _ | fail_if_no_progress refine queued_mk (queued_parts ?_) | split)

theorem takePage_queued {pq : List Instr} (s : State) (c : Settings) (p : PageGroup) (hk : Queued pq s) : Queued pq (takePage s c p) := by
  unfold takePage
  repeat' (with_reducible first | exact hk | apply setBlock_queued | apply queued_ite
                                | fail_if_no_progress refine queued_mk (queued_parts ?_) | split)

theorem programPage_queued {pq : List Instr} (s : State) (c : Settings) (p : PageGroup) (hk : Queued pq s) :
    Queued pq (programPage s c p) := by
  unfold programPage
  repeat' (with_reducible first | exact hk | apply logEvent_queued | apply takePage_queued | apply openRows_queued | apply queued_ite
                                | fail_if_no_progress refine queued_mk (queued_parts ?_) | split)

theorem endRow_queued {pq : List Instr} (s : State) (band row : Nat) (hk : Queued pq s) : Queued pq (endRow s band row) := by
  unfold endRow
  repeat' (with_reducible first | exact hk | apply openRows_queued | fail_if_no_progress refine queued_mk (queued_parts ?_))

theorem closeOne_queued {pq : List Instr} (s : State) (c : Settings) (band row : Nat) (hk : Queued pq s) :
    Queued pq (closeOne s c band row) := by
  unfold closeOne
  repeat' (with_reducible first | exact hk | apply endRow_queued | apply programPage_queued | apply queued_ite
                                | fail_if_no_progress refine queued_mk (queued_parts ?_) | split)

theorem closeRow_queued {pq : List Instr} (s : State) (c : Settings) (band row : Nat) (hk : Queued pq s) :
    Queued pq (closeRow s c band row) := by
  unfold closeRow
  repeat' (with_reducible first | exact hk | assumption | apply issueWaiting_queued | apply openRows_queued | apply closeOne_queued
                                | refine queued_foldl ?_ _ ?_ | intro _ _ _)

theorem closeAllRows_queued {pq : List Instr} (s : State) (c : Settings) (hk : Queued pq s) : Queued pq (closeAllRows s c) := by
  unfold closeAllRows
  repeat' (with_reducible first | exact hk | assumption | apply issueWaiting_queued | apply openRows_queued | apply closeOne_queued
                                | refine queued_foldl ?_ _ ?_ | intro _ _ _)

theorem closeBand_queued {pq : List Instr} (s : State) (n : Nat) (hk : Queued pq s) : Queued pq (closeBand s n) := by
  unfold closeBand
  repeat' (with_reducible first | exact hk | assumption | apply setBand_queued | apply openRows_queued | apply closeOne_queued
                                | apply issueWaiting_queued | apply queued_ite | refine queued_foldl ?_ _ ?_ | intro _ _ _
                                | fail_if_no_progress refine queued_mk (queued_parts ?_) | split)

theorem openRows_queued {pq : List Instr} (s : State) (c : Settings) (hk : Queued pq s) : Queued pq (openRows s c) := by
  unfold openRows
  extract_lets t rows
  have ht : Queued pq t := by
    show Queued pq (match openBand s with | some b => _ | none => _)
    repeat' (with_reducible first | exact hk | apply openNewBand_queued | apply closeBand_queued | apply queued_ite | split)
  clear_value t
  repeat' (with_reducible first | exact ht | apply setBand_queued | apply queued_ite
                                | fail_if_no_progress refine queued_mk (queued_parts ?_) | split)

theorem placeOn_queuedE {pq : List Instr} {s : State} {c ch kind idx keyId parts head t a b} (hk : Queued pq s)
    (he : placeOn s c ch kind idx keyId parts head = some (t, a, b)) : Queued pq t := by
  unfold placeOn at he
  split at he
  · cases he
  · split at he
    · cases he
    · cases he
      exact issueWaiting_queued _ (queued_foldl (fun s p h => programPage_queued s c p h) _ hk)

theorem ensureRows_queued {pq : List Instr} (s : State) (c : Settings) (hk : Queued pq s) : Queued pq (ensureRows s c) := by
  unfold ensureRows
  repeat' (with_reducible first | exact hk | apply openRows_queued | apply queued_ite | split)

theorem placeAny_queuedE {pq : List Instr} {s : State} {c chs kind idx keyId parts head t a b} (hk : Queued pq s)
    (he : placeAny s c chs kind idx keyId parts head = some (t, a, b)) : Queued pq t := by
  unfold placeAny at he
  dsimp only at he
  split at he
  · rename_i r hr
    cases he
    obtain ⟨ch, _, h⟩ := List.exists_of_findSome?_eq_some hr
    exact placeOn_queuedE (ensureRows_queued s c hk) h
  · obtain ⟨ch, _, h⟩ := List.exists_of_findSome?_eq_some he
    exact placeOn_queuedE (openRows_queued _ c (closeAllRows_queued _ c (ensureRows_queued s c hk))) h

theorem settleFlush_queued {pq : List Instr} (s : State) (f : InFlight) (hk : Queued pq s) : Queued pq (settleFlush s f) := by
  unfold settleFlush
  repeat' (with_reducible first | exact hk | apply setEntry_queued | fail_if_no_progress refine queued_mk (queued_parts ?_) | split)

theorem finishFlush_queued {pq : List Instr} (s : State) (f : InFlight) (hk : Queued pq s) : Queued pq (finishFlush s f) := by
  unfold finishFlush
  repeat' (with_reducible first | exact hk | apply settleFlush_queued | apply clearDirty_queued | apply followD_queued
                                | apply queued_ite | fail_if_no_progress refine queued_mk (queued_parts ?_) | split)

theorem finishFlushes_queued {pq : List Instr} (s : State) (hk : Queued pq s) : Queued pq (finishFlushes s) := by
  unfold finishFlushes
  repeat' (with_reducible first | exact hk | assumption | apply finishFlush_queued | refine queued_foldl ?_ _ ?_)

theorem chargeWear_queued {pq : List Instr} (s : State) (bytes : Nat) (hk : Queued pq s) : Queued pq (chargeWear s bytes) := hk

theorem moveBand_queued {pq : List Instr} (s : State) (n : Nat) (why : MoveReason) (hk : Queued pq s) : Queued pq (moveBand s n why) := by
  unfold moveBand
  repeat' (with_reducible first | exact hk | assumption | apply closeBand_queued | apply setBand_queued | apply queued_ite
                                | refine queued_foldl ?_ _ ?_ | intro _ _ _ | fail_if_no_progress refine queued_mk (queued_parts ?_)
                                | split)

theorem copyOut_queued {pq : List Instr} (s : State) (c : Settings) (g : Nat) (ch : FlashCh) (hk : Queued pq s) :
    Queued pq (copyOut s c g ch) := by
  unfold copyOut
  repeat' (with_reducible first | exact hk | apply ensureRows_queued | apply chargeWear_queued
                                | refine placeAny_queuedE ?_ (by assumption) | refine placeOn_queuedE ?_ (by assumption)
                                | refine placeOn_queuedE ?_ (by assumption) | split | dsimp only)

theorem repoint_queued {pq : List Instr} (s : State) (g : Nat) (hk : Queued pq s) : Queued pq (repoint s g) := by
  unfold repoint
  repeat' (with_reducible first | exact hk | apply setEntry_queued | apply queued_ite
                                | fail_if_no_progress refine queued_mk (queued_parts ?_) | split)

theorem dropPage_queued {pq : List Instr} (s : State) (p : PageGroup) (hk : Queued pq s) : Queued pq (dropPage s p) := hk

theorem reflush_queued {pq : List Instr} (s : State) (c : Settings) (f : InFlight) (ch : FlashCh) (hk : Queued pq s) :
    Queued pq (reflush s c f ch) := by
  unfold reflush
  dsimp only
  split
  · rename_i he
    exact queued_mk (queued_parts (chargeWear_queued _ _ (placeAny_queuedE (queued_mk (queued_parts hk)) he)))
  · exact queued_mk (queued_parts hk)

theorem dropJob_queued {pq : List Instr} (s : State) (hk : Queued pq s) : Queued pq (dropJob s) := by
  unfold dropJob
  repeat' (with_reducible first | exact hk | assumption | refine queued_foldl ?_ _ ?_ | intro _ _ _
                                | fail_if_no_progress refine queued_mk (queued_parts ?_) | split)

theorem rewriteMeta_queued {pq : List Instr} (s : State) (c : Settings) (p : PageGroup) (hk : Queued pq s) : Queued pq (rewriteMeta s c p) := by
  unfold rewriteMeta
  split
  · rename_i he
    exact chargeWear_queued _ _ (placeAny_queuedE hk he)
  · exact dropJob_queued s hk

theorem recopy_queued {pq : List Instr} (s : State) (c : Settings) (p : PageGroup) (hk : Queued pq s) : Queued pq (recopy s c p) := by
  unfold recopy
  repeat' (with_reducible first | exact hk | apply placeOn_queued | apply ensureRows_queued | apply copyOut_queued | apply queued_ite
                                | fail_if_no_progress refine queued_mk (queued_parts ?_) | split)

theorem rewritePage_queued {pq : List Instr} (s : State) (c : Settings) (p : PageGroup) (hk : Queued pq s) :
    Queued pq (rewritePage s c p) := by
  unfold rewritePage
  repeat' (with_reducible first | exact hk | apply reflush_queued | apply rewriteMeta_queued | apply recopy_queued | apply queued_ite
                                | fail_if_no_progress refine queued_mk (queued_parts ?_) | split)

theorem mendRows_queued {pq : List Instr} (s : State) (c : Settings) (hk : Queued pq s) : Queued pq (mendRows s c) := by
  unfold mendRows
  repeat' (with_reducible first | exact hk | assumption | apply rewritePage_queued | apply dropPage_queued
                                | refine queued_foldl ?_ _ ?_ | intro _ _ _)

theorem tornPage_queued {pq : List Instr} (s : State) (c : Settings) (p : PageGroup) (hk : Queued pq s) : Queued pq (tornPage s c p) := by
  unfold tornPage
  repeat' (with_reducible first | exact hk | apply dropPage_queued | apply mendRows_queued | apply rewritePage_queued
                                | apply queued_ite | split)

theorem checkCapacity_queued {pq : List Instr} (s : State) (hk : Queued pq s) : Queued pq (checkCapacity s) := by
  unfold checkCapacity
  repeat' (with_reducible first | exact hk | apply raise_queued | apply triggerSave_queued | apply queued_ite
                                | fail_if_no_progress refine queued_mk (queued_parts ?_) | split)

theorem leaveBands_queued {pq : List Instr} (s : State) (ns : List Nat) (why : MoveReason) (hk : Queued pq s) :
    Queued pq (leaveBands s ns why) := by
  unfold leaveBands
  repeat' (with_reducible first | exact hk | assumption | apply closeBand_queued | apply moveBand_queued | apply queued_ite
                                | refine queued_foldl ?_ _ ?_ | intro _ _ _ | split)

theorem rewriteLost_queued {pq : List Instr} (s : State) (ch : FlashCh) (die : Option (Fin 16)) (hk : Queued pq s) :
    Queued pq (rewriteLost s ch die) := by
  unfold rewriteLost
  repeat' (with_reducible first | exact hk | assumption | apply mendRows_queued | apply rewritePage_queued | apply dropPage_queued
                                | refine queued_foldl ?_ _ ?_ | intro _ _ _ | fail_if_no_progress refine queued_mk (queued_parts ?_)
                                | split)

theorem flashChannelOut_queued {pq : List Instr} (s : State) (ch : FlashCh) (hk : Queued pq s) : Queued pq (flashChannelOut s ch) := by
  unfold flashChannelOut
  repeat' (with_reducible first | exact hk | apply rewriteLost_queued | apply leaveBands_queued | apply checkCapacity_queued
                                | apply ceilingEvent_queued | apply raise_queued | apply queued_ite
                                | fail_if_no_progress refine queued_mk (queued_parts ?_) | split)

theorem retireDie_queued {pq : List Instr} (s : State) (ch : FlashCh) (die : Fin 16) (hk : Queued pq s) :
    Queued pq (retireDie s ch die) := by
  unfold retireDie
  repeat' (with_reducible first | exact hk | apply rewriteLost_queued | apply leaveBands_queued | apply raise_queued
                                | apply flashChannelOut_queued | apply checkCapacity_queued | apply queued_ite
                                | fail_if_no_progress refine queued_mk (queued_parts ?_) | split)

theorem retireBlockSet_queued {pq : List Instr} (s : State) (ch : FlashCh) (die : Fin 16) (idx : Nat) (hk : Queued pq s) :
    Queued pq (retireBlockSet s ch die idx) := by
  unfold retireBlockSet
  repeat' (with_reducible first | exact hk | apply setBlock_queued | apply logEvent_queued | apply mendRows_queued
                                | apply leaveBands_queued | apply retireDie_queued | apply checkCapacity_queued | apply queued_ite
                                | fail_if_no_progress refine queued_mk (queued_parts ?_) | split)

theorem startErases_queued {pq : List Instr} (s : State) (c : Settings) (b : Band) (hk : Queued pq s) : Queued pq (startErases s c b) := hk

theorem eraseReady_queued {pq : List Instr} (s : State) (hk : Queued pq s) : Queued pq (eraseReady s) := by
  unfold eraseReady
  repeat' (with_reducible first | exact hk | assumption | apply startErases_queued | apply queued_ite | refine queued_foldl ?_ _ ?_
                                | intro _ _ _ | fail_if_no_progress refine queued_mk (queued_parts ?_) | split)

theorem endMove_queued {pq : List Instr} (s : State) (n : Nat) (hk : Queued pq s) : Queued pq (endMove s n) := hk

theorem dropErasedBand_queued {pq : List Instr} (s : State) (c : Settings) (n : Nat) (hk : Queued pq s) :
    Queued pq (dropErasedBand s c n) := by
  unfold dropErasedBand
  repeat' (with_reducible first | exact hk | apply endMove_queued | apply queued_ite
                                | fail_if_no_progress refine queued_mk (queued_parts ?_) | split)

theorem noteRestriped_queued {pq : List Instr} (s : State) (n : Nat) (hk : Queued pq s) : Queued pq (noteRestriped s n) := by
  unfold noteRestriped
  repeat' (with_reducible first | exact hk | apply logEvent_queued | apply queued_ite | split)

theorem suspendErase_queued {pq : List Instr} (s : State) (ch : FlashCh) (die : Fin 16) (hk : Queued pq s) :
    Queued pq (suspendErase s ch die) := hk

theorem countReads_queued {pq : List Instr} (s : State) (c : Settings) (ch : FlashCh) (die : Fin 16) (idx : Nat) (demand : Bool)
    (o : DecodeOutcome) (hk : Queued pq s) :
    Queued pq (countReads s c ch die idx demand o) := by
  unfold countReads
  repeat' (with_reducible first | exact hk | apply queued_ite | fail_if_no_progress refine queued_mk (queued_parts ?_) | split)

theorem noteDecode_queued {pq : List Instr} (s : State) (ch : FlashCh) (die : Fin 16) (idx : Nat) (o : DecodeOutcome) (hk : Queued pq s) :
    Queued pq (noteDecode s ch die idx o) := by
  unfold noteDecode
  repeat' (with_reducible first | exact hk | apply queueTest_queued | apply setBlock_queued | apply logEvent_queued | apply queued_ite
                                | fail_if_no_progress refine queued_mk (queued_parts ?_) | split)

theorem noteRead_queued {pq : List Instr} (s : State) (ch : FlashCh) (die : Fin 16) (idx : Nat) (demand : Bool)
    (o : DecodeOutcome) (hk : Queued pq s) :
    Queued pq (noteRead s ch die idx demand o) := by
  unfold noteRead
  repeat' (with_reducible first | exact hk | apply countReads_queued | apply noteDecode_queued
                                | fail_if_no_progress refine queued_mk (queued_parts ?_) | split)

theorem poisonLost_queued {pq : List Instr} (s : State) (gs : List Nat) (hk : Queued pq s) : Queued pq (poisonLost s gs) := by
  unfold poisonLost
  repeat' (with_reducible first | exact hk | assumption | apply poisonGranule_queued | refine queued_foldl ?_ _ ?_ | intro _ _ _)

theorem programMeta_queued {pq : List Instr} {s t : State} {c kind idx} (hk : Queued pq s) (he : programMeta s c kind idx = some t) :
    Queued pq t := by
  have step : ∀ (l : List Nat) (o : Option State), (∀ x, o = some x → Queued pq x) → ∀ t,
      l.foldl (fun s i => s.bind fun s =>
        (placeAny s c (readyChannels s) kind i (keyIdNow s) [[]] none).map fun r => chargeWear r.1 65536) o = some t → Queued pq t := by
    intro l
    induction l with
    | nil => exact fun o h t ht => h t ht
    | cons i l ih =>
      refine fun o h t ht => ih _ (fun x hx => ?_) t ht
      obtain ⟨y, hy, hx⟩ := Option.bind_eq_some_iff.1 hx
      obtain ⟨r, hr, rfl⟩ := Option.map_eq_some_iff.1 hx
      exact chargeWear_queued _ _ (placeAny_queuedE (h y hy) hr)
  exact step idx (some s) (fun x hx => by cases hx; exact hk) t he

theorem startChunks_queued {pq : List Instr} (s : State) (c : Settings) (j : SealJob) (hk : Queued pq s) : Queued pq (startChunks s c j) := by
  unfold startChunks
  split
  · exact hk
  · extract_lets t ks
    have ht : Queued pq t := queued_ite (queued_foldl (fun s f h => settleFlush_queued s f h) _ hk) hk
    split
    · rename_i he
      exact queued_mk (queued_parts (programMeta_queued (queued_mk (queued_parts ht)) he))
    · exact queued_mk (queued_parts ht)

theorem startRoot_queued {pq : List Instr} (s : State) (c : Settings) (j : SealJob) (hk : Queued pq s) : Queued pq (startRoot s c j) := by
  unfold startRoot
  split
  · exact hk
  · split
    · rename_i he
      exact queued_mk (queued_parts (programMeta_queued hk he))
    · exact dropJob_queued s hk

theorem startRecord_queued {pq : List Instr} (s : State) (c : Settings) (j : SealJob) (hk : Queued pq s) :
    Queued pq (startRecord s c j) := by
  unfold startRecord
  repeat' (with_reducible first | exact hk | apply closeAllRows_queued | apply stage_queued | apply queued_ite
                                | fail_if_no_progress refine queued_mk (queued_parts ?_) | split)

theorem advanceSeal_queued {pq : List Instr} (s : State) (hk : Queued pq s) : Queued pq (advanceSeal s) := by
  unfold advanceSeal
  split
  · exact hk
  · rename_i c _
    have go : ∀ (st : SealStage) (f : State → SealJob → State), (∀ s j, Queued pq s → Queued pq (f s j)) → ∀ s, Queued pq s →
        Queued pq (match s.flash.sealJob with | some j => if j.stage = st then f s j else s | none => s) := by
      intro st f hf s hs
      split
      · exact queued_ite (hf _ _ hs) hs
      · exact hs
    exact go .root (fun s j => if j.kind = .save then s else startRecord s c j) (fun s j h => queued_ite h (startRecord_queued s c j h)) _
      (go .chunks (fun s j => startRoot s c j) (fun s j h => startRoot_queued s c j h) _
        (go .asked (fun s j => startChunks s c j) (fun s j h => startChunks_queued s c j h) _ hk))

theorem sealNow_queued {pq : List Instr} (s : State) (kind : SealKind) (d : Generation) (copies : Bool × Bool) (hk : Queued pq s) :
    Queued pq (sealNow s kind d copies) := by
  unfold sealNow
  repeat' (with_reducible first | exact hk | apply eraseReady_queued | fail_if_no_progress refine queued_mk (queued_parts ?_))

theorem beginSeal_queued {pq : List Instr} (s : State) (kind : SealKind) (hk : Queued pq s) : Queued pq (beginSeal s kind) := by
  unfold beginSeal
  repeat' (with_reducible first | exact hk | apply advanceSeal_queued | fail_if_no_progress refine queued_mk (queued_parts ?_))

theorem stopFlush_queued {pq : List Instr} (s : State) (cause : EndCause) (hk : Queued pq s) : Queued pq (stopFlush s cause) := by
  unfold stopFlush
  repeat' (with_reducible first | exact hk | apply endFlush_queued | apply beginSeal_queued | apply queued_ite | split)

theorem restripeEnd_queued {pq : List Instr} (s : State) (hk : Queued pq s) : Queued pq (restripeEnd s) := by
  unfold restripeEnd
  repeat' (with_reducible first | exact hk | apply advanceSeal_queued | apply queued_ite
                                | fail_if_no_progress refine queued_mk (queued_parts ?_) | split)

/-! ## Machine/DramOps.lean -/

theorem setChan_queued {pq : List Instr} (s : State) (ch : DramCh) (f : DramChan → DramChan) (hk : Queued pq s) :
    Queued pq (setChan s ch f) := hk

theorem touch_queued {pq : List Instr} (s : State) (st : Nat) (isWrite : Bool) (chs : List DramCh) (hk : Queued pq s) :
    Queued pq (touch s st isWrite chs) := by
  unfold touch
  repeat' (with_reducible first | exact hk | fail_if_no_progress refine queued_mk (queued_parts ?_))

theorem readAccess_queued {pq : List Instr} (s : State) (line : Nat) (hk : Queued pq s) : Queued pq (readAccess s line) := by
  unfold readAccess
  repeat' (with_reducible first | exact hk | apply touch_queued | apply queued_ite | split)

theorem granuleAccess_queued {pq : List Instr} (s : State) (g : Nat) (isWrite : Bool) (chs : Nat → List DramCh) (hk : Queued pq s) :
    Queued pq (granuleAccess s g isWrite chs) := by
  unfold granuleAccess
  repeat' (with_reducible first | exact hk | assumption | refine queued_foldl ?_ _ ?_ | intro _ _ _
                                | fail_if_no_progress refine queued_mk (queued_parts ?_))

theorem flushAccess_queued {pq : List Instr} (s : State) (g : Nat) (hk : Queued pq s) : Queued pq (flushAccess s g) := by
  unfold flushAccess
  repeat' (with_reducible first | exact hk | apply granuleAccess_queued | apply queued_ite | split)

theorem restoreAccess_queued {pq : List Instr} (s : State) (g : Nat) (hk : Queued pq s) : Queued pq (restoreAccess s g) := by
  unfold restoreAccess
  repeat' (with_reducible first | exact hk | apply granuleAccess_queued | apply queued_ite | split)

theorem setParity_queued {pq : List Instr} (s : State) (st : Nat) (l : Line) (hk : Queued pq s) : Queued pq (setParity s st l) :=
  (setParity_pending s st l).trans hk

theorem granuleParity_queued {pq : List Instr} (s : State) (g : Nat) (hk : Queued pq s) : Queued pq (granuleParity s g) := by
  unfold granuleParity
  exact queued_ite hk hk

theorem logDram_queued {pq : List Instr} (s : State) (type : Nat) (ch : DramCh) (row : Option RowId) (column device : Nat)
    (lanes : Option (BitVec 4)) (hk : Queued pq s) :
    Queued pq (logDram s type ch row column device lanes) := by
  unfold logDram
  repeat' (with_reducible first | exact hk | apply logEvent_queued | apply queued_ite
                                | fail_if_no_progress refine queued_mk (queued_parts ?_) | split)

theorem setShroudMode_queued {pq : List Instr} (s : State) (hk : Queued pq s) : Queued pq (setShroudMode s) := by
  unfold setShroudMode
  repeat' (with_reducible first | exact hk | apply queued_ite | fail_if_no_progress refine queued_mk (queued_parts ?_))

theorem poisonDirty_queued {pq : List Instr} (s : State) (g : Nat) (hk : Queued pq s) : Queued pq (poisonDirty s g) := by
  unfold poisonDirty
  repeat' (with_reducible first | exact hk | apply raise_queued | apply markLost_queued | apply poisonGranule_queued)

theorem loseInSave_queued {pq : List Instr} (s : State) (hit : List Nat) (hk : Queued pq s) : Queued pq (loseInSave s hit) := by
  unfold loseInSave
  repeat' (with_reducible first | exact hk | assumption | apply markLost_queued | refine queued_foldl ?_ _ ?_ | intro _ _ _
                                | fail_if_no_progress refine queued_mk (queued_parts ?_))

theorem loseUnshrouded_queued {pq : List Instr} (s : State) (ch : DramCh) (hk : Queued pq s) : Queued pq (loseUnshrouded s ch) := by
  unfold loseUnshrouded
  repeat' (with_reducible first | exact hk | assumption | apply loseInSave_queued | apply poisonDirty_queued
                                | apply countDirtyShutdown_queued | apply queued_ite | refine queued_foldl ?_ _ ?_ | intro _ _ _
                                | fail_if_no_progress refine queued_mk (queued_parts ?_) | split)

theorem channelOut_queued {pq : List Instr} (s : State) (ch : DramCh) (hk : Queued pq s) : Queued pq (channelOut s ch) := by
  unfold channelOut
  repeat' (with_reducible first | exact hk | apply setChan_queued | apply raise_queued | apply triggerSave_queued
                                | apply evalPsub_queued | apply loseInSave_queued | apply setShroudMode_queued
                                | apply loseUnshrouded_queued | apply queued_ite
                                | fail_if_no_progress refine queued_mk (queued_parts ?_) | split)

theorem trainingFails_queued {pq : List Instr} (s : State) (ch : DramCh) (hk : Queued pq s) : Queued pq (trainingFails s ch) := by
  unfold trainingFails
  repeat' (with_reducible first | exact hk | apply channelOut_queued | apply logDram_queued)

theorem queueRetrain_queued {pq : List Instr} (s : State) (ch : DramCh) (hk : Queued pq s) : Queued pq (queueRetrain s ch) := by
  unfold queueRetrain
  repeat' (with_reducible first | exact hk | apply queued_ite | fail_if_no_progress refine queued_mk (queued_parts ?_))

theorem errorRetrain_queued {pq : List Instr} (s : State) (ch : DramCh) (hk : Queued pq s) : Queued pq (errorRetrain s ch) := by
  unfold errorRetrain
  repeat' (with_reducible first | exact hk | apply setChan_queued | apply channelOut_queued | apply queueRetrain_queued | apply queued_ite)

theorem countCrc_queued {pq : List Instr} (s : State) (ch : DramCh) (hk : Queued pq s) : Queued pq (countCrc s ch) := by
  unfold countCrc
  repeat' (with_reducible first | exact hk | apply setChan_queued | apply errorRetrain_queued | apply queued_ite)

theorem countMismatch_queued {pq : List Instr} (s : State) (ch : DramCh) (hk : Queued pq s) : Queued pq (countMismatch s ch) := by
  unfold countMismatch
  repeat' (with_reducible first | exact hk | apply setChan_queued | apply errorRetrain_queued | apply queued_ite)

theorem countCorrectable_queued {pq : List Instr} (s : State) (ch : DramCh) (rank : Fin 4) (dev : Fin 10) (dq : BitVec 4)
    (hk : Queued pq s) :
    Queued pq (countCorrectable s ch rank dev dq) := by
  unfold countCorrectable
  repeat' (with_reducible first | exact hk | apply setChan_queued | apply errorRetrain_queued | apply queued_ite
                                | fail_if_no_progress refine queued_mk (queued_parts ?_) | split)

theorem markDevice_queued {pq : List Instr} (s : State) (ch : DramCh) (rank : Fin 4) (dev : Fin 10) (hk : Queued pq s) :
    Queued pq (markDevice s ch rank dev) := by
  unfold markDevice
  repeat' (with_reducible first | exact hk | apply setChan_queued | apply logDram_queued | apply raise_queued
                                | apply channelOut_queued | apply evalPsub_queued | apply queued_ite
                                | fail_if_no_progress refine queued_mk (queued_parts ?_) | split)

theorem retireRow_queued {pq : List Instr} (s : State) (ch : DramCh) (row : RowId) (dev : Fin 10) (hk : Queued pq s) :
    Queued pq (retireRow s ch row dev) := by
  unfold retireRow
  repeat' (with_reducible first | exact hk | apply markDevice_queued | apply addRepair_queued | apply raise_queued | apply queued_ite
                                | fail_if_no_progress refine queued_mk (queued_parts ?_) | split)

theorem poisonLine_queued {pq : List Instr} (s : State) (line : Nat) (hk : Queued pq s) : Queued pq (poisonLine s line) := by
  unfold poisonLine
  repeat' (with_reducible first | exact hk | apply raise_queued | apply addPoison_queued | apply queued_ite
                                | fail_if_no_progress refine queued_mk (queued_parts ?_))

theorem uncorrectable_queued {pq : List Instr} (s : State) (line : Nat) (ch : DramCh) (row : RowId) (col : Nat) (hk : Queued pq s) :
    Queued pq (uncorrectable s line ch row col) := by
  unfold uncorrectable
  repeat' (with_reducible first | exact hk | apply queueTest_queued | apply logDram_queued | apply poisonLine_queued)

theorem detected_queued {pq : List Instr} (s : State) (line : Nat) (ch : DramCh) (row : RowId) (col : Nat) (clean : Bool)
    (hk : Queued pq s) :
    Queued pq (detected s line ch row col clean) := by
  unfold detected
  repeat' (with_reducible first | exact hk | apply logDram_queued | apply touch_queued | apply setChan_queued | apply queueTest_queued
                                | apply uncorrectable_queued | apply queued_ite
                                | fail_if_no_progress refine queued_mk (queued_parts ?_) | split)

theorem eccEffect_queued {pq : List Instr} (s : State) (line : Nat) (e : EccOutcome) (hk : Queued pq s) :
    Queued pq (eccEffect s line e) := by
  unfold eccEffect
  repeat' (with_reducible first | exact hk | apply detected_queued | apply countCorrectable_queued | apply touch_queued
                                | apply queueTest_queued | apply logDram_queued | apply uncorrectable_queued
                                | apply countMismatch_queued | apply queued_ite
                                | fail_if_no_progress refine queued_mk (queued_parts ?_) | split)

theorem eccEffects_queued {pq : List Instr} (s : State) (errs : List (Nat × EccOutcome)) (p : Nat → Bool) (hk : Queued pq s) :
    Queued pq (eccEffects s errs p) := by
  unfold eccEffects
  repeat' (with_reducible first | exact hk | assumption | apply eccEffect_queued | apply queued_ite | refine queued_foldl ?_ _ ?_
                                | intro _ _ _ | split)

theorem beginPass_queued {pq : List Instr} (s : State) (k : PassKind) (hk : Queued pq s) : Queued pq (beginPass s k) := hk

theorem endPass_queued {pq : List Instr} (s : State) (hk : Queued pq s) : Queued pq (endPass s) := by
  unfold endPass
  repeat' (with_reducible first | exact hk | apply setChan_queued | apply setShroudMode_queued | apply evalPsub_queued
                                | apply beginPass_queued | apply queued_ite | fail_if_no_progress refine queued_mk (queued_parts ?_)
                                | split)

/-! ## Machine/ThermalOps.lean -/

theorem setSite_queued {pq : List Instr} (s : State) (i : Site) (f : SiteState → SiteState) (hk : Queued pq s) :
    Queued pq (setSite s i f) := hk

theorem setBand2x_queued {pq : List Instr} (s : State) (ch : DramCh) (on : Bool) (hk : Queued pq s) : Queued pq (setBand2x s ch on) := by
  unfold setBand2x
  repeat' (with_reducible first | exact hk | apply setChan_queued | apply queued_ite
                                | fail_if_no_progress refine queued_mk (queued_parts ?_) | split)

theorem enterForced_queued {pq : List Instr} (s : State) (d : Domain) (hk : Queued pq s) : Queued pq (enterForced s d) := by
  unfold enterForced
  repeat' (with_reducible first | exact hk | assumption | apply setBand2x_queued | refine queued_foldl ?_ _ ?_ | intro _ _ _
                                | fail_if_no_progress refine queued_mk (queued_parts ?_) | split)

theorem leaveForced_queued {pq : List Instr} (s : State) (d : Domain) (hk : Queued pq s) : Queued pq (leaveForced s d) := by
  unfold leaveForced
  repeat' (with_reducible first | exact hk | fail_if_no_progress refine queued_mk (queued_parts ?_) | split)

theorem setAtMin_queued {pq : List Instr} (s : State) (d : Domain) (b : Bool) (hk : Queued pq s) : Queued pq (setAtMin s d b) := by
  unfold setAtMin
  repeat' (with_reducible first | exact hk | fail_if_no_progress refine queued_mk (queued_parts ?_) | split)

theorem checkDomain_queued {pq : List Instr} (s : State) (c : Settings) (d : Domain) (hk : Queued pq s) :
    Queued pq (checkDomain s c d) := by
  unfold checkDomain
  repeat' (with_reducible first | exact hk | apply raise_queued | apply setAtMin_queued | apply enterForced_queued
                                | apply leaveForced_queued | apply queued_ite)

theorem checkMinimums_queued {pq : List Instr} (s : State) (hk : Queued pq s) : Queued pq (checkMinimums s) := by
  unfold checkMinimums
  repeat' (with_reducible first | exact hk | apply evalPsub_queued | apply checkDomain_queued | apply queued_ite | split)

theorem ignoreSite_queued {pq : List Instr} (s : State) (i : Site) (why : SiteReason) (hk : Queued pq s) :
    Queued pq (ignoreSite s i why) := by
  unfold ignoreSite
  repeat' (with_reducible first | exact hk | apply setSite_queued | apply raise_queued | apply queueTest_queued
                                | apply checkMinimums_queued | apply queued_ite)

theorem goodSample_queued {pq : List Instr} (s : State) (i : Site) (t : Int) (hk : Queued pq s) : Queued pq (goodSample s i t) := by
  unfold goodSample
  repeat' (with_reducible first | exact hk | apply setSite_queued | apply ignoreSite_queued | apply queued_ite)

theorem badSample_queued {pq : List Instr} (s : State) (i : Site) (hk : Queued pq s) : Queued pq (badSample s i) := by
  unfold badSample
  repeat' (with_reducible first | exact hk | apply setSite_queued | apply ignoreSite_queued | apply queued_ite)

theorem failedRead_queued {pq : List Instr} (s : State) (i : Site) (hk : Queued pq s) : Queued pq (failedRead s i) := by
  unfold failedRead
  repeat' (with_reducible first | exact hk | apply setSite_queued | apply ignoreSite_queued | apply queued_ite)

theorem sampleSite_queued {pq : List Instr} (s : State) (i : Site) (reading : Option Int) (hk : Queued pq s) :
    Queued pq (sampleSite s i reading) := by
  unfold sampleSite
  repeat' (with_reducible first | exact hk | apply failedRead_queued | apply goodSample_queued | apply badSample_queued
                                | apply queued_ite | split)

theorem noteCrossings_queued {pq : List Instr} (s : State) (hk : Queued pq s) : Queued pq (noteCrossings s) := by
  unfold noteCrossings
  repeat' (with_reducible first | exact hk | apply queued_ite | fail_if_no_progress refine queued_mk (queued_parts ?_) | split)

theorem checkRetrain_queued {pq : List Instr} (s : State) (hk : Queued pq s) : Queued pq (checkRetrain s) := by
  unfold checkRetrain
  repeat' (with_reducible first | exact hk | assumption | apply queueRetrain_queued | apply queued_ite | refine queued_foldl ?_ _ ?_
                                | intro _ _ _ | split)

theorem afterSamples_queued {pq : List Instr} (s : State) (hk : Queued pq s) : Queued pq (afterSamples s) := by
  unfold afterSamples
  repeat' (with_reducible first | exact hk | apply checkRetrain_queued | apply noteCrossings_queued | apply stopFlush_queued
                                | apply queued_ite | fail_if_no_progress refine queued_mk (queued_parts ?_) | split)

theorem recordTrip_queued {pq : List Instr} (s : State) (r : TripRecord) (canWrite : Bool) (hk : Queued pq s) :
    Queued pq (recordTrip s r canWrite) := by
  unfold recordTrip
  repeat' (with_reducible first | exact hk | apply logEvent_queued | apply writeTrip_queued | apply queued_ite
                                | fail_if_no_progress refine queued_mk (queued_parts ?_))

theorem setTrip_queued {pq : List Instr} (s : State) (kind site ch : Nat) (temp : Int) (hk : Queued pq s) :
    Queued pq (setTrip s kind site ch temp) := hk

theorem tripSave_queued {pq : List Instr} (s : State) (t : Trigger) (hk : Queued pq s) : Queued pq (tripSave s t) := by
  unfold tripSave
  repeat' (with_reducible first | exact hk | apply triggerSave_queued | apply recordTrip_queued | apply queued_ite
                                | fail_if_no_progress refine queued_mk (queued_parts ?_) | split)

/-! ## Machine/RecorderOps.lean -/

theorem sweepSuppressed_queued {pq : List Instr} (s : State) (hk : Queued pq s) : Queued pq (sweepSuppressed s) :=
  queued_foldl (f := fun s (b : Bucket) =>
      setBucket (stage s (suppressed s (codeSeverity b.code.toNat) b)) { b with drops := 0 })
    (fun s b h => setBucket_queued _ _ (stage_queued s _ h)) (s.recorder.buckets.filter fun b => b.drops != 0) hk

theorem restage_queued {pq : List Instr} (s : State) (hk : Queued pq s) : Queued pq (restage s) :=
  hk

theorem setMirror_queued {pq : List Instr} (s : State) (m : Fin 2) (f : Mirror → Mirror) (hk : Queued pq s) :
    Queued pq (setMirror s m f) := hk

theorem mirrorFails_queued {pq : List Instr} (s : State) (m : Fin 2) (hk : Queued pq s) : Queued pq (mirrorFails s m) := by
  unfold mirrorFails
  split
  · exact hk
  · with_reducible apply queued_ite
    · exact raise_queued _ _ _ (logEvent_queued _ _ _ _ (setMirror_queued s m (fun x => { x with ok := false }) hk))
    · exact logEvent_queued _ _ _ _ (setMirror_queued s m (fun x => { x with ok := false }) hk)

theorem mirrorOfChannel_queued {pq : List Instr} (s : State) (ch : FlashCh) (hk : Queued pq s) : Queued pq (mirrorOfChannel s ch) := by
  unfold mirrorOfChannel
  repeat' (with_reducible first | exact hk | assumption | apply mirrorFails_queued | apply queued_ite | refine queued_foldl ?_ _ ?_
                                | intro _ _ _)

theorem relocateMirror_queued {pq : List Instr} (s : State) (m other : Fin 2) (ch : FlashCh) (hk : Queued pq s) :
    Queued pq (relocateMirror s m other ch) := by
  unfold relocateMirror
  repeat' (with_reducible first | exact hk | apply setMirror_queued | apply logEvent_queued | apply queued_ite
                                | fail_if_no_progress refine queued_mk (queued_parts ?_))

theorem programFull_queued {pq : List Instr} (s : State) (rs : List Record) (hk : Queued pq s) : Queued pq (programFull s rs) :=
  restage_queued _ (queued_mk (queued_parts (chargeWear_queued s (logPageBytes s) hk)))

theorem programPartial_queued {pq : List Instr} (s : State) (hk : Queued pq s) : Queued pq (programPartial s) := by
  unfold programPartial
  split
  · exact hk
  · have h1 : ∀ o : Option (List Record), Queued pq (match o with | some rs => programFull s rs | none => s) := fun o => by
      cases o with
      | none => exact hk
      | some rs => exact programFull_queued s rs hk
    have h1 := h1 s.recorder.fullPage
    extract_lets s1 s2
    have h1 : Queued pq s1 := h1
    clear_value s1
    split
    · exact h1
    · have h := chargeWear_queued s1 (logPageBytes s1) h1
      exact restage_queued _ h

theorem bringLog_queued {pq : List Instr} (s : State) (hk : Queued pq s) : Queued pq (bringLog s) := by
  unfold bringLog
  split
  · exact hk
  · with_reducible apply queued_ite
    · exact restage_queued _ hk
    · exact restage_queued _ (logEvent_queued _ _ _ _ hk)

theorem logReadBody_queued {pq : List Instr} (s : State) (start count : Word) (hk : Queued pq s) :
    Queued pq (logReadBody s start count).2 := by
  unfold logReadBody
  repeat' (with_reducible first | exact hk | fail_if_no_progress refine queued_mk (queued_parts ?_) | split | dsimp only)

theorem logReadBody_queuedE {pq : List Instr} {s : State} {start count : Word} {ra} {rb} (hk : Queued pq s) (he : logReadBody s start
    count = (ra, rb)) :
    Queued pq rb := by
  have := logReadBody_queued (pq := pq) s start count hk
  rw [he] at this; exact this

/-! ## Machine/MemOps.lean -/

theorem refuse_queued {pq : List Instr} (s : State) (l : Link) (id : Nat) (isWrite : Bool) (hk : Queued pq s) :
    Queued pq (refuse s l id isWrite) := by
  unfold refuse
  repeat' (with_reducible first | exact hk | apply logEvent_queued | apply raise_queued | apply queued_ite
                                | fail_if_no_progress refine queued_mk (queued_parts ?_))

theorem noteFilled_queued {pq : List Instr} (s : State) (g : Nat) (hk : Queued pq s) : Queued pq (noteFilled s g) := by
  unfold noteFilled
  repeat' (with_reducible first | exact hk | apply queued_ite | fail_if_no_progress refine queued_mk (queued_parts ?_) | split)

theorem setPresent_queued {pq : List Instr} (s : State) (g : Nat) (hk : Queued pq s) : Queued pq (setPresent s g) := by
  unfold setPresent
  repeat' (with_reducible first | exact hk | apply noteFilled_queued | apply queued_ite
                                | fail_if_no_progress refine queued_mk (queued_parts ?_) | split)

theorem staleRegion_queued {pq : List Instr} (s : State) (r : Nat) (hk : Queued pq s) : Queued pq (staleRegion s r) := by
  unfold staleRegion
  repeat' (with_reducible first | exact hk | apply queued_ite | fail_if_no_progress refine queued_mk (queued_parts ?_) | split)

theorem writeGranule_queued {pq : List Instr} (s : State) (g : Nat) (cells : List Host.Cell) (hk : Queued pq s) :
    Queued pq (writeGranule s g cells) := by
  unfold writeGranule
  exact staleRegion_queued _ _ (granuleParity_queued _ _ (restoreAccess_queued _ _ hk))

theorem zeroFill_queued {pq : List Instr} (s : State) (g : Nat) (hk : Queued pq s) : Queued pq (zeroFill s g) := by
  unfold zeroFill
  repeat' (with_reducible first | exact hk | apply setPresent_queued | apply writeGranule_queued)

theorem acceptWrite_queued {pq : List Instr} (s : State) (q : Slot) (data : Line) (poison wait : Bool) (ecc : EccOutcome)
    (hk : Queued pq s) :
    Queued pq (acceptWrite s q data poison wait ecc) := by
  unfold acceptWrite
  repeat' (with_reducible first | exact hk | apply waitFetch_queued | apply emit_queued
                                | fail_if_no_progress refine queued_mk (queued_parts ?_))

theorem answerWith_queued {pq : List Instr} (s : State) (q : Slot) (c : Line × Bool) (hk : Queued pq s) :
    Queued pq (answerWith s q c) := by
  unfold answerWith
  repeat' (with_reducible first | exact hk | apply emit_queued | apply queued_ite | split)

theorem answerRead_queued {pq : List Instr} (s : State) (q : Slot) (hk : Queued pq s) : Queued pq (answerRead s q) := by
  unfold answerRead
  repeat' (with_reducible first | exact hk | apply answerWith_queued)

theorem readDram_queued {pq : List Instr} (s : State) (q : Slot) (hk : Queued pq s) : Queued pq (readDram s q) := by
  unfold readDram
  repeat' (with_reducible first | exact hk | apply answerRead_queued | apply eccEffect_queued | apply readAccess_queued)

theorem acceptPartial_queued {pq : List Instr} (s : State) (q : Slot) (wait : Bool) (hk : Queued pq s) :
    Queued pq (acceptPartial s q wait) := by
  unfold acceptPartial
  repeat' (with_reducible first | exact hk | apply eccEffect_queued | apply readAccess_queued | apply acceptWrite_queued
                                | apply queued_ite | split)

theorem startFetch_queued {pq : List Instr} (s : State) (g : Nat) (hk : Queued pq s) : Queued pq (startFetch s g) := by
  unfold startFetch
  repeat' (with_reducible first | exact hk | apply suspendErase_queued | apply queued_ite
                                | fail_if_no_progress refine queued_mk (queued_parts ?_) | split | dsimp only)

theorem waitIn_queued {pq : List Instr} (s : State) (q : Slot) (w : WaitFor) (hk : Queued pq s) : Queued pq (waitIn s q w) := hk

theorem waitFetch_queued {pq : List Instr} (s : State) (q : Slot) (hk : Queued pq s) : Queued pq (waitFetch s q) := by
  unfold waitFetch
  repeat' (with_reducible first | exact hk | apply startFetch_queued | apply waitIn_queued
                                | fail_if_no_progress refine queued_mk (queued_parts ?_))

theorem admitRead_queued {pq : List Instr} (s : State) (q : Slot) (hk : Queued pq s) : Queued pq (admitRead s q) := by
  unfold admitRead
  repeat' (with_reducible first | exact hk | apply answerRead_queued | apply readDram_queued | apply zeroFill_queued
                                | apply waitFetch_queued | apply queued_ite | split)

theorem admitWrite_queued {pq : List Instr} (s : State) (q : Slot) (hk : Queued pq s) : Queued pq (admitWrite s q) := by
  unfold admitWrite
  repeat' (with_reducible first | exact hk | apply zeroFill_queued | apply acceptWrite_queued | apply startFetch_queued
                                | apply waitFetch_queued | apply acceptPartial_queued | apply queued_ite | split)

theorem admitSlot_queued {pq : List Instr} (s : State) (q : Slot) (hk : Queued pq s) : Queued pq (admitSlot s q) := by
  unfold admitSlot
  repeat' (with_reducible first | exact hk | apply refuse_queued | apply emit_queued | apply admitWrite_queued
                                | apply admitRead_queued | apply queued_ite | split)

theorem keepWaiting_queued {pq : List Instr} (s : State) (q : Slot) (w : WaitFor) (hk : Queued pq s) : Queued pq (keepWaiting s q w) := by
  unfold keepWaiting
  repeat' (with_reducible first | exact hk | apply startFetch_queued | apply waitIn_queued | apply queued_ite | split)

theorem enterSlot_queued {pq : List Instr} (s : State) (q : Slot) (hk : Queued pq s) : Queued pq (enterSlot s q) := by
  unfold enterSlot
  repeat' (with_reducible first | exact hk | apply keepWaiting_queued | apply admitSlot_queued
                                | fail_if_no_progress refine queued_mk (queued_parts ?_) | split)

theorem takeTurn_queued {pq : List Instr} (s : State) (n : Nat) (hk : Queued pq s) : Queued pq (takeTurn s n) := by
  unfold takeTurn
  repeat' (with_reducible first | exact hk | apply queued_ite | fail_if_no_progress refine queued_mk (queued_parts ?_) | split)

theorem admitNext_queuedE {pq : List Instr} {s t : State} (hk : Queued pq s) (he : admitNext s = some t) : Queued pq t := by
  unfold admitNext at he
  split at he
  · cases he
  · obtain ⟨q, _, rfl⟩ := Option.map_eq_some_iff.1 he
    exact admitSlot_queued _ _ (takeTurn_queued _ _ (queued_mk (queued_parts hk)))

theorem admitAll_queued {pq : List Instr} : ∀ (n : Nat) (s : State), Queued pq s → Queued pq (admitAll n s)
  | 0, _, hk => hk
  | n + 1, s, hk => by
    unfold admitAll
    split
    · rename_i he
      exact admitAll_queued n _ (admitNext_queuedE hk he)
    · exact hk

theorem renewWaits_queued {pq : List Instr} (s : State) (hk : Queued pq s) : Queued pq (renewWaits s) := by
  unfold renewWaits
  repeat' (with_reducible first | exact hk | assumption | apply waitIn_queued | apply keepWaiting_queued | apply queued_ite
                                | refine queued_foldl ?_ _ ?_ | intro _ _ _ | fail_if_no_progress refine queued_mk (queued_parts ?_)
                                | split)

theorem retrySlots_queued {pq : List Instr} (s : State) (hk : Queued pq s) : Queued pq (retrySlots s) := by
  unfold retrySlots
  repeat' (with_reducible first | exact hk | apply renewWaits_queued | apply admitAll_queued | apply queued_ite | split)

theorem serveOne_queued {pq : List Instr} (s : State) (q : Slot) (hk : Queued pq s) : Queued pq (serveOne s q) := by
  unfold serveOne
  repeat' (with_reducible first | exact hk | apply answerWith_queued | apply waitIn_queued | apply acceptPartial_queued
                                | apply queued_ite | split)

theorem serveWaiting_queued {pq : List Instr} (s : State) (g : Nat) (hk : Queued pq s) : Queued pq (serveWaiting s g) := by
  unfold serveWaiting
  repeat' (with_reducible first | exact hk | assumption | apply serveOne_queued | refine queued_foldl ?_ _ ?_ | intro _ _ _
                                | fail_if_no_progress refine queued_mk (queued_parts ?_))

theorem releaseWaiting_queued {pq : List Instr} (s : State) (g : Nat) (hk : Queued pq s) : Queued pq (releaseWaiting s g) := hk

theorem restoreToRun_queued {pq : List Instr} (s : State) (hk : Queued pq s) : Queued pq (restoreToRun s) := by
  unfold restoreToRun
  repeat' (with_reducible first | exact hk | apply debugReturns_queued | apply queued_ite
                                | fail_if_no_progress refine queued_mk (queued_parts ?_))

theorem rebuildAfterRestore_queued {pq : List Instr} (s : State) (hk : Queued pq s) : Queued pq (rebuildAfterRestore s) := by
  unfold rebuildAfterRestore
  repeat' (with_reducible first | exact hk | apply endPass_queued | apply queued_ite
                                | fail_if_no_progress refine queued_mk (queued_parts ?_) | split)

theorem endRestore_queued {pq : List Instr} (s : State) (hk : Queued pq s) : Queued pq (endRestore s) := by
  unfold endRestore
  repeat' (with_reducible first | exact hk | apply rebuildAfterRestore_queued | apply restoreToRun_queued | apply raise_queued
                                | apply queued_ite | fail_if_no_progress refine queued_mk (queued_parts ?_))

theorem endFill_queued {pq : List Instr} (s : State) (hk : Queued pq s) : Queued pq (endFill s) := by
  unfold endFill
  repeat' (with_reducible first | exact hk | apply endPass_queued | apply queued_ite | split)

theorem bringIn_queued {pq : List Instr} (s : State) (g : Nat) (ok : Bool) (hk : Queued pq s) : Queued pq (bringIn s g ok) := by
  unfold bringIn
  repeat' (with_reducible first | exact hk | apply writeGranule_queued | apply poisonGranule_queued | apply raise_queued
                                | apply endFill_queued | apply endRestore_queued | apply retrySlots_queued | apply serveWaiting_queued
                                | apply releaseWaiting_queued | apply setPresent_queued | apply queued_ite
                                | fail_if_no_progress refine queued_mk (queued_parts ?_))

theorem noteCopyRead_queued {pq : List Instr} (s : State) (g : Nat) (demand : Bool) (o : DecodeOutcome) (hk : Queued pq s) :
    Queued pq (noteCopyRead s g demand o) := by
  unfold noteCopyRead
  repeat' (with_reducible first | exact hk | apply noteRead_queued | apply queued_ite
                                | fail_if_no_progress refine queued_mk (queued_parts ?_) | split)

theorem endFetch_queued {pq : List Instr} (s : State) (g : Nat) (o : DecodeOutcome) (micros : Nat) (hk : Queued pq s) :
    Queued pq (endFetch s g o micros) := by
  unfold endFetch
  repeat' (with_reducible first | exact hk | apply noteCopyRead_queued | apply issueWaiting_queued | apply bringIn_queued
                                | apply queued_ite | fail_if_no_progress refine queued_mk (queued_parts ?_) | split)

theorem closeStaging_queued {pq : List Instr} (s : State) (st : Nat) (hk : Queued pq s) : Queued pq (closeStaging s st) := by
  unfold closeStaging
  repeat' (with_reducible first | exact hk | apply setParity_queued | apply touch_queued | apply queued_ite
                                | fail_if_no_progress refine queued_mk (queued_parts ?_) | split)

theorem foldParity_queued {pq : List Instr} (s : State) (st : Nat) (delta : Line) (hk : Queued pq s) :
    Queued pq (foldParity s st delta) := by
  unfold foldParity
  repeat' (with_reducible first | exact hk | apply closeStaging_queued | apply queued_ite
                                | fail_if_no_progress refine queued_mk (queued_parts ?_) | split)

theorem markStale_queued {pq : List Instr} (s : State) (line : Nat) (hk : Queued pq s) : Queued pq (markStale s line) := by
  unfold markStale
  repeat' (with_reducible first | exact hk | apply staleRegion_queued | apply queued_ite | split)

theorem drainAccess_queued {pq : List Instr} (s : State) (line : Nat) (hk : Queued pq s) : Queued pq (drainAccess s line) := by
  unfold drainAccess
  repeat' (with_reducible first | exact hk | apply touch_queued | apply queued_ite | split)

theorem drainLine_queued {pq : List Instr} (s : State) (b : BufLine) (hk : Queued pq s) : Queued pq (drainLine s b) := by
  unfold drainLine
  repeat' (with_reducible first | exact hk | apply followD_queued | apply markDirty_queued | apply foldParity_queued | apply markStale_queued
                                | apply addPoison_queued | apply dropPoison_queued | apply drainAccess_queued | apply eccEffect_queued
                                | apply queued_ite | refine queued_mk (queued_parts ?_))

theorem releaseLine_queued {pq : List Instr} (s : State) (line : Nat) (hk : Queued pq s) : Queued pq (releaseLine s line) := by
  unfold releaseLine
  repeat' (with_reducible first | exact hk | apply queued_ite | fail_if_no_progress refine queued_mk (queued_parts ?_) | split)

theorem drainAll_queued {pq : List Instr} : ∀ (n : Nat) (s : State), Queued pq s → Queued pq (drainAll n s)
  | 0, _, hk => hk
  | n + 1, s, hk => by
    unfold drainAll
    split
    · exact queued_mk (queued_parts (queued_foldl (fun s e h => closeStaging_queued s e.stripe h) _ hk))
    · exact drainAll_queued n _ (drainLine_queued s _ hk)

theorem drainBuffers_queued {pq : List Instr} (s : State) (hk : Queued pq s) : Queued pq (drainBuffers s) := by
  unfold drainBuffers
  repeat' (with_reducible first | exact hk | apply drainAll_queued)

/-! ## Machine/PowerOps.lean -/

theorem checkBudget_queued {pq : List Instr} (s : State) (old : Nat) (hk : Queued pq s) : Queued pq (checkBudget s old) := by
  unfold checkBudget
  repeat' (with_reducible first | exact hk | apply raise_queued | apply queued_ite)

theorem endInterval_queued {pq : List Instr} (s : State) (hk : Queued pq s) : Queued pq (endInterval s) := by
  unfold endInterval
  repeat' (with_reducible first | exact hk | apply hold_queued | apply checkBudget_queued
                                | fail_if_no_progress refine queued_mk (queued_parts ?_) | split)

theorem breakErases_queued {pq : List Instr} (s : State) (hk : Queued pq s) : Queued pq (breakErases s) := by
  unfold breakErases
  repeat' (with_reducible first | exact hk | assumption | apply eraseBroken_queued | refine queued_foldl ?_ _ ?_ | intro _ _ _)

theorem brokenSector_queued {pq : List Instr} (s : State) (sec : Nat) (hk : Queued pq s) : Queued pq (brokenSector s sec) := by
  unfold brokenSector
  repeat' (with_reducible first | exact hk | apply sectorGone_queued | fail_if_no_progress refine queued_mk (queued_parts ?_))

theorem breakCfErase_queued {pq : List Instr} (s : State) (hk : Queued pq s) : Queued pq (breakCfErase s) := by
  unfold breakCfErase
  repeat' (with_reducible first | exact hk | apply brokenSector_queued | apply queued_ite | split | dsimp only)

theorem aonLost_queued {pq : List Instr} (s : State) (hk : Queued pq s) : Queued pq (aonLost s) :=
  breakCfErase_queued _ (breakErases_queued s hk)

theorem linksReset_queued {pq : List Instr} (s : State) (hk : Queued pq s) : Queued pq (linksReset s) := by
  unfold linksReset
  repeat' (with_reducible first | exact hk | assumption | apply linkGone_queued | apply linkReset_queued
                                | refine queued_foldl ?_ _ ?_ | intro _ _ _ | fail_if_no_progress refine queued_mk (queued_parts ?_))

theorem channelsSleep_queued {pq : List Instr} (s : State) (hk : Queued pq s) : Queued pq (channelsSleep s) := by
  unfold channelsSleep
  repeat' (with_reducible first | exact hk | apply queued_ite | fail_if_no_progress refine queued_mk (queued_parts ?_) | split)

theorem dramGone_queued {pq : List Instr} (s : State) (hk : Queued pq s) : Queued pq (dramGone s) := hk

theorem debugReset_queued {pq : List Instr} (s : State) (hk : Queued pq s) : Queued pq (debugReset s) := by
  unfold debugReset
  repeat' (with_reducible first | exact hk | apply endSession_queued | apply refuse_queued
                                | fail_if_no_progress refine queued_mk (queued_parts ?_))

theorem resetCore_queued {pq : List Instr} (s : State) (keep : Bool) (hk : Queued pq s) : Queued pq (resetCore s keep) := by
  unfold resetCore
  repeat' (with_reducible first | exact hk | apply linksReset_queued | apply debugReset_queued | apply breakErases_queued
                                | apply channelsSleep_queued | apply dramGone_queued | apply queued_ite
                                | refine queued_mk (queued_parts ?_))

theorem sramLost_queued {pq : List Instr} (s : State) (hk : Queued pq s) : Queued pq (sramLost s) := hk

theorem cfPowerLoss_queued {pq : List Instr} (s : State) (hk : Queued pq s) : Queued pq (cfPowerLoss s) := by
  unfold cfPowerLoss
  repeat' (with_reducible first | exact hk | apply brokenSector_queued | fail_if_no_progress refine queued_mk (queued_parts ?_) | split)

theorem coreLost_queued {pq : List Instr} (s : State) (hk : Queued pq s) : Queued pq (coreLost s) := by
  unfold coreLost
  repeat' (with_reducible first | exact hk | apply sramLost_queued | apply resetCore_queued | apply cfPowerLoss_queued
                                | fail_if_no_progress refine queued_mk (queued_parts ?_))

theorem finishFetches_queued {pq : List Instr} (s : State) (hk : Queued pq s) : Queued pq (finishFetches s) := by
  unfold finishFetches
  repeat' (with_reducible first | exact hk | assumption | apply waitFetch_queued | apply bringIn_queued
                                | refine queued_foldl ?_ _ ?_ | intro _ _ _ | fail_if_no_progress refine queued_mk (queued_parts ?_))

theorem selfRefreshAll_queued {pq : List Instr} (s : State) (hk : Queued pq s) : Queued pq (selfRefreshAll s) := by
  unfold selfRefreshAll
  repeat' (with_reducible first | exact hk | apply channelsSleep_queued | apply programPartial_queued | apply drainBuffers_queued
                                | apply finishFetches_queued)

theorem dataPathReset_queued {pq : List Instr} (s : State) (hk : Queued pq s) : Queued pq (dataPathReset s) := by
  unfold dataPathReset
  repeat' (with_reducible first | exact hk | apply selfRefreshAll_queued | apply beginInterval_queued | apply resetCore_queued
                                | apply queued_ite | fail_if_no_progress refine queued_mk (queued_parts ?_))

theorem setRail_queued {pq : List Instr} (s : State) (r : Rail) (f : RailState → RailState) (hk : Queued pq s) :
    Queued pq (setRail s r f) := hk

theorem enableRail_queued {pq : List Instr} (s : State) (r : Rail) (hk : Queued pq s) : Queued pq (enableRail s r) := by
  unfold enableRail
  repeat' (with_reducible first | exact hk | apply setRail_queued | fail_if_no_progress refine queued_mk (queued_parts ?_))

theorem beginSequence_queued {pq : List Instr} (s : State) (rs : List Rail) (p : SeqPurpose) (hk : Queued pq s) :
    Queued pq (beginSequence s rs p) := by
  unfold beginSequence
  repeat' (with_reducible first | exact hk | assumption | apply setRail_queued | apply enableRail_queued | refine queued_foldl ?_ _ ?_
                                | intro _ _ _ | fail_if_no_progress refine queued_mk (queued_parts ?_) | split | dsimp only)

theorem startBoot_queued {pq : List Instr} (s : State) (hk : Queued pq s) : Queued pq (startBoot s) := by
  unfold startBoot
  repeat' (with_reducible first | exact hk | apply sramLost_queued | apply resetCore_queued | apply beginSequence_queued
                                | apply queued_ite | fail_if_no_progress refine queued_mk (queued_parts ?_) | split)

theorem tryStart_queued {pq : List Instr} (s : State) (hk : Queued pq s) : Queued pq (tryStart s) := by
  unfold tryStart
  repeat' (with_reducible first | exact hk | apply startBoot_queued | apply queued_ite)

theorem enterStandby_queued {pq : List Instr} (s : State) (k : StandbyKind) (hk : Queued pq s) : Queued pq (enterStandby s k) := by
  unfold enterStandby
  repeat' (with_reducible first | exact hk | apply releaseHold_queued | apply aonLost_queued | apply queued_ite
                                | fail_if_no_progress refine queued_mk (queued_parts ?_) | split)

theorem setCause_queued {pq : List Instr} (s : State) (c rail : Nat) (hk : Queued pq s) : Queued pq (setCause s c rail) := hk

theorem saveEnded_queued {pq : List Instr} (s : State) (hk : Queued pq s) : Queued pq (saveEnded s) := by
  unfold saveEnded
  repeat' (with_reducible first | exact hk | apply queued_ite | fail_if_no_progress refine queued_mk (queued_parts ?_) | split)

theorem finishDown_queued {pq : List Instr} (s : State) (hk : Queued pq s) : Queued pq (finishDown s) := by
  unfold finishDown
  repeat' (with_reducible first | exact hk | apply tryStart_queued | apply enterStandby_queued | apply saveEnded_queued
                                | apply beginInterval_queued | apply setCause_queued | apply setRail_queued | apply raise_queued
                                | apply queued_ite | fail_if_no_progress refine queued_mk (queued_parts ?_) | split)

theorem railGone_queued {pq : List Instr} (s : State) (r : Rail) (hk : Queued pq s) : Queued pq (railGone s r) := by
  unfold railGone
  repeat' (with_reducible first | exact hk | apply idleLinks_queued | apply coreLost_queued | apply queued_ite | split)

theorem downStep_queued {pq : List Instr} (s : State) (hk : Queued pq s) : Queued pq (downStep s) := by
  unfold downStep
  repeat' (with_reducible first | exact hk | apply finishDown_queued | apply railGone_queued | apply switchRailOff_queued
                                | apply queued_ite | fail_if_no_progress refine queued_mk (queued_parts ?_) | split)

theorem nandDown_queued {pq : List Instr} (s : State) (hk : Queued pq s) : Queued pq (nandDown s) := hk

theorem portsDown_queued {pq : List Instr} (s : State) (hk : Queued pq s) : Queued pq (portsDown s) := hk

theorem linksDown_queued {pq : List Instr} (s : State) (hk : Queued pq s) : Queued pq (linksDown s) := by
  unfold linksDown
  repeat' (with_reducible first | exact hk | apply idleLinks_queued)

theorem holdConsumers_queued {pq : List Instr} (s : State) (r : Rail) (hk : Queued pq s) : Queued pq (holdConsumers s r) := by
  unfold holdConsumers
  repeat' (with_reducible first | exact hk | apply linksDown_queued | apply nandDown_queued | apply portsDown_queued | apply queued_ite)

theorem resumeConsumers_queued {pq : List Instr} (s : State) (r : Rail) (hk : Queued pq s) : Queued pq (resumeConsumers s r) := by
  unfold resumeConsumers
  repeat' (with_reducible first | exact hk | assumption | apply retrySlots_queued | apply queueRetrain_queued | apply queued_ite
                                | refine queued_foldl ?_ _ ?_ | intro _ _ _ | fail_if_no_progress refine queued_mk (queued_parts ?_))

theorem railFaultNotice_queued {pq : List Instr} (s : State) (r : Rail) (reaction : RailClass) (escalated : Bool) (hk : Queued pq s) :
    Queued pq (railFaultNotice s r reaction escalated) := by
  unfold railFaultNotice
  repeat' (with_reducible first | exact hk | apply raise_queued)

theorem resetReaction_queued {pq : List Instr} (s : State) (r : Rail) (hk : Queued pq s) : Queued pq (resetReaction s r) := by
  unfold resetReaction
  repeat' (with_reducible first | exact hk | apply setCause_queued | apply dataPathReset_queued | apply setRail_queued
                                | apply beginShutdown_queued | apply queued_ite)

theorem groupOut_queued {pq : List Instr} (s : State) (g : Fin 3) (hk : Queued pq s) : Queued pq (groupOut s g) := by
  unfold groupOut
  repeat' (with_reducible first | exact hk | assumption | apply beginInterval_queued | apply linksDown_queued
                                | apply breakErases_queued | apply ceilingEvent_queued | apply queued_ite | refine queued_foldl ?_ _ ?_
                                | intro _ _ _ | fail_if_no_progress refine queued_mk (queued_parts ?_))

theorem groupReaction_queued {pq : List Instr} (s : State) (r : Rail) (g : Fin 3) (hk : Queued pq s) :
    Queued pq (groupReaction s r g) := by
  unfold groupReaction
  repeat' (with_reducible first | exact hk | apply resetReaction_queued | apply groupOut_queued | apply queued_ite
                                | fail_if_no_progress refine queued_mk (queued_parts ?_))

theorem deferReaction_queued {pq : List Instr} (s : State) (r : Rail) (cls : RailClass) (hk : Queued pq s) :
    Queued pq (deferReaction s r cls) := by
  unfold deferReaction
  repeat' (with_reducible first | exact hk | apply nandDown_queued | apply queued_ite
                                | fail_if_no_progress refine queued_mk (queued_parts ?_) | split)

theorem react_queued {pq : List Instr} (s : State) (r : Rail) (cls : RailClass) (escalated : Bool) (hk : Queued pq s) :
    Queued pq (react s r cls escalated) := by
  unfold react
  repeat' (with_reducible first | exact hk | apply deferReaction_queued | apply railFaultNotice_queued | apply groupReaction_queued
                                | apply resetReaction_queued | apply queued_ite
                                | fail_if_no_progress refine queued_mk (queued_parts ?_) | split)

theorem logFault_queued {pq : List Instr} (s : State) (r : Rail) (hk : Queued pq s) : Queued pq (logFault s r) := by
  unfold logFault
  repeat' (with_reducible first | exact hk | apply logEvent_queued | apply queued_ite | split)

theorem faultRail_queued {pq : List Instr} (s : State) (r : Rail) (hk : Queued pq s) : Queued pq (faultRail s r) := by
  unfold faultRail
  repeat' (with_reducible first | exact hk | apply setRail_queued | apply logFault_queued | apply react_queued
                                | apply holdConsumers_queued | apply queued_ite
                                | fail_if_no_progress refine queued_mk (queued_parts ?_) | split)

theorem recoverRail_queued {pq : List Instr} (s : State) (r : Rail) (half : Nat) (hk : Queued pq s) :
    Queued pq (recoverRail s r half) := by
  unfold recoverRail
  repeat' (with_reducible first | exact hk | apply setRail_queued | apply railFaultNotice_queued | apply raise_queued
                                | apply resumeConsumers_queued | apply queued_ite)

/-! ## Machine/EngineOps.lean -/

theorem setEngine_queued {pq : List Instr} (s : State) (e : EngineId) (f : Engine → Engine) (hk : Queued pq s) :
    Queued pq (setEngine s e f) := hk

theorem withoutEngine_queued {pq : List Instr} (s : State) (c : FlashCh) (hk : Queued pq s) : Queued pq (withoutEngine s c) := hk

theorem thinRole_queued {pq : List Instr} (x : State × Bool) (e : EngineId) (hk : Queued pq x.1) : Queued pq (thinRole x e).1 := by
  unfold thinRole
  repeat' (with_reducible first | exact hk | apply withoutEngine_queued | fail_if_no_progress refine queued_mk (queued_parts ?_) | split)

theorem retestHeld_queued {pq : List Instr} (s : State) (hk : Queued pq s) : Queued pq (retestHeld s) := by
  unfold retestHeld
  repeat' (with_reducible first | exact hk | assumption | apply queueTest_queued | apply setEngine_queued | apply queued_ite
                                | refine queued_foldl ?_ _ ?_ | intro _ _ _ | fail_if_no_progress refine queued_mk (queued_parts ?_)
                                | split)

theorem assignEngines_queued {pq : List Instr} (s : State) (hk : Queued pq s) : Queued pq (assignEngines s).1 := by
  unfold assignEngines
  extract_lets first t
  have fold : ∀ (l : List EngineId) (x : State × Bool), Queued pq x.1 → Queued pq (l.foldl thinRole x).1 := by
    intro l
    induction l with
    | nil => exact fun x h => h
    | cons e l ih => exact fun x h => ih _ (thinRole_queued x e h)
  exact fold _ _ (queued_mk (queued_parts hk))

theorem swapChannel_queued {pq : List Instr} (s : State) (r : Role) (hk : Queued pq s) : Queued pq (swapChannel s r) := by
  unfold swapChannel
  repeat' (with_reducible first | exact hk | apply queued_ite | fail_if_no_progress refine queued_mk (queued_parts ?_) | split)

theorem roleLost_queued {pq : List Instr} (s : State) (r : Role) (hk : Queued pq s) : Queued pq (roleLost s r) := by
  unfold roleLost
  repeat' (with_reducible first | exact hk | apply mirrorOfChannel_queued | apply withoutEngine_queued | apply flashChannelOut_queued
                                | apply triggerSave_queued | fail_if_no_progress refine queued_mk (queued_parts ?_) | split)

theorem spareNotice_queued {pq : List Instr} (s : State) (before : Bool) (hk : Queued pq s) : Queued pq (spareNotice s before) := by
  unfold spareNotice
  repeat' (with_reducible first | exact hk | apply evalPsub_queued | apply raise_queued | apply queued_ite)

theorem failEngine_queued {pq : List Instr} (s : State) (e : EngineId) (hk : Queued pq s) : Queued pq (failEngine s e) := by
  unfold failEngine
  repeat' (with_reducible first | exact hk | apply addRepair_queued | apply raise_queued | apply setEngine_queued
                                | apply swapChannel_queued | apply roleLost_queued | apply spareNotice_queued | apply queued_ite
                                | fail_if_no_progress refine queued_mk (queued_parts ?_) | split)

theorem endSwap_queued {pq : List Instr} (s : State) (x : EngineId) (hk : Queued pq s) : Queued pq (endSwap s x) := by
  unfold endSwap
  repeat' (with_reducible first | exact hk | apply setEngine_queued | apply queued_ite
                                | fail_if_no_progress refine queued_mk (queued_parts ?_) | split)

/-! ## Machine/StartOps.lean -/

theorem resumeClock_queued {pq : List Instr} (s : State) (hk : Queued pq s) : Queued pq (resumeClock s) := by
  unfold resumeClock
  repeat' (with_reducible first | exact hk | apply logEvent_queued | apply queued_ite
                                | fail_if_no_progress refine queued_mk (queued_parts ?_) | split)

theorem writePending_queued {pq : List Instr} (s : State) (hk : Queued pq s) : Queued pq (writePending s) := by
  unfold writePending
  repeat' (with_reducible first | exact hk | apply writeTrip_queued | apply queued_ite
                                | fail_if_no_progress refine queued_mk (queued_parts ?_) | split)

theorem eraseUnkept_queued {pq : List Instr} (s : State) (hk : Queued pq s) : Queued pq (eraseUnkept s) := hk

theorem commitLowering_queued {pq : List Instr} (s : State) (old new : Level) (keyId : Word) (hk : Queued pq s) :
    Queued pq (commitLowering s old new keyId) := by
  unfold commitLowering
  repeat' (with_reducible first | exact hk | apply writeLevel_queued | apply cfEraseSector_queued | apply raise_queued
                                | fail_if_no_progress refine queued_mk (queued_parts ?_))

theorem completeLowering_queued {pq : List Instr} (s : State) (target : Level) (hk : Queued pq s) :
    Queued pq (completeLowering s target) := by
  unfold completeLowering
  repeat' (with_reducible first | exact hk | apply dramGone_queued | apply killKey_queued | apply commitLowering_queued
                                | apply eraseUnkept_queued | fail_if_no_progress refine queued_mk (queued_parts ?_))

theorem missingRecord_queued {pq : List Instr} (s : State) (hk : Queued pq s) : Queued pq (missingRecord s) := by
  unfold missingRecord
  repeat' (with_reducible first | exact hk | apply writeLevel_queued | apply cfEraseSector_queued | apply writeKeySlot_queued
                                | apply countDirtyShutdown_queued | apply raise_queued | apply queued_ite
                                | fail_if_no_progress refine queued_mk (queued_parts ?_) | split)

theorem readLevel_queued {pq : List Instr} (s : State) (hk : Queued pq s) : Queued pq (readLevel s) := by
  unfold readLevel
  repeat' (with_reducible first | exact hk | apply completeLowering_queued | apply missingRecord_queued
                                | fail_if_no_progress refine queued_mk (queued_parts ?_) | split)

theorem memoryRailsDown_queued {pq : List Instr} (s : State) (hk : Queued pq s) : Queued pq (memoryRailsDown s) := by
  unfold memoryRailsDown
  repeat' (with_reducible first | exact hk | assumption | apply switchRailOff_queued | refine queued_foldl ?_ _ ?_)

theorem mapSites_queued {pq : List Instr} (s : State) (single : Bool) (sensors : List SensorSet) (hk : Queued pq s) :
    Queued pq (mapSites s single sensors) := hk

theorem enterCrocus_queued {pq : List Instr} (s : State) (why : Nat) (hk : Queued pq s) : Queued pq (enterCrocus s why) := by
  unfold enterCrocus
  repeat' (with_reducible first | exact hk | apply mapSites_queued | apply memoryRailsDown_queued | apply dramGone_queued
                                | apply beginSequence_queued | apply raise_queued | apply debugReturns_queued | apply queued_ite
                                | fail_if_no_progress refine queued_mk (queued_parts ?_) | split)

theorem mapPresent_queued {pq : List Instr} (s : State) (hk : Queued pq s) : Queued pq (mapPresent s) := by
  unfold mapPresent
  repeat' (with_reducible first | exact hk | apply mapSites_queued | fail_if_no_progress refine queued_mk (queued_parts ?_) | split)

theorem enterMinimal_queued {pq : List Instr} (s : State) (cause : Nat) (hk : Queued pq s) : Queued pq (enterMinimal s cause) := by
  unfold enterMinimal
  repeat' (with_reducible first | exact hk | apply mapSites_queued | apply memoryRailsDown_queued | apply dramGone_queued
                                | apply beginSequence_queued | apply debugReturns_queued
                                | fail_if_no_progress refine queued_mk (queued_parts ?_))

theorem twinNotice_queued {pq : List Instr} (s : State) (hk : Queued pq s) : Queued pq (twinNotice s) := by
  unfold twinNotice
  repeat' (with_reducible first | exact hk | apply raise_queued | apply queued_ite)

theorem step1_queued {pq : List Instr} (s : State) (hk : Queued pq s) : Queued pq (step1 s).1 := by
  unfold step1
  repeat' (with_reducible first | exact hk | apply readLevel_queued | apply writePending_queued | apply resumeClock_queued
                                | apply twinNotice_queued | apply enterCrocus_queued | apply queued_ite
                                | fail_if_no_progress refine queued_mk (queued_parts ?_) | split | dsimp only)

theorem step1_queuedE {pq : List Instr} {s : State} {ra} {rb} (hk : Queued pq s) (he : step1 s = (ra, rb)) : Queued pq ra := by
  have := step1_queued (pq := pq) s hk
  rw [he] at this; exact this

theorem firmwareUp_queued {pq : List Instr} (s : State) (h : Bool) (x : FwHeader) (hk : Queued pq s) : Queued pq (firmwareUp s h x) := by
  unfold firmwareUp
  repeat' (with_reducible first | exact hk | apply raise_queued | apply queued_ite | fail_if_no_progress refine queued_mk (queued_parts ?_))

theorem finishCfErase_queued {pq : List Instr} (s : State) (hk : Queued pq s) : Queued pq (finishCfErase s) := by
  unfold finishCfErase
  repeat' (with_reducible first | exact hk | apply sectorGone_queued | apply cfEraseSector_queued
                                | fail_if_no_progress refine queued_mk (queued_parts ?_) | split)

theorem ageTrips_queued {pq : List Instr} (s : State) (hk : Queued pq s) : Queued pq (ageTrips s) := by
  unfold ageTrips
  repeat' (with_reducible first | exact hk | apply cfEraseSector_queued | apply queued_ite)

theorem owedReports_queued {pq : List Instr} (s : State) (hk : Queued pq s) : Queued pq (owedReports s) := by
  unfold owedReports
  repeat' (with_reducible first | exact hk | apply raise_queued | apply hardOff_queued | apply logEvent_queued
                                | fail_if_no_progress refine queued_mk (queued_parts ?_) | split | dsimp only)

theorem loadKey_queued {pq : List Instr} (s : State) (hk : Queued pq s) : Queued pq (loadKey s) := hk

theorem step2Rest_queued {pq : List Instr} (s : State) (lost : Bool) (hk : Queued pq s) : Queued pq (step2Rest s lost) := by
  unfold step2Rest
  repeat' (with_reducible first | exact hk | apply mapPresent_queued | apply retestHeld_queued | apply bringLog_queued
                                | apply owedReports_queued | apply writeCheckpoint_queued | apply ageTrips_queued
                                | apply startHeld_queued | apply triggerSave_queued | apply queued_ite
                                | fail_if_no_progress refine queued_mk (queued_parts ?_) | split)

theorem step2_queued {pq : List Instr} (s : State) (hk : Queued pq s) : Queued pq (step2 s) := by
  unfold step2
  extract_lets s1
  have h1 : Queued pq s1 := finishCfErase_queued s hk
  clear_value s1
  split
  · exact enterCrocus_queued _ _ h1
  · rename_i h x _
    exact step2Rest_queued _ _ (assignEngines_queued _ (firmwareUp_queued _ h x (loadKey_queued _ h1)))

theorem bootSteps_queued {pq : List Instr} (s : State) (hk : Queued pq s) : Queued pq (bootSteps s) := by
  unfold bootSteps
  repeat' (first | with_reducible exact hk | with_reducible assumption | with_reducible refine queuedR_next ?_
                 | with_reducible apply step1_queued | with_reducible refine step1_queuedE ?_ (by assumption)
                 | with_reducible apply step2_queued | with_reducible apply queued_ite | with_reducible refine queued_foldl ?_ _ ?_
                 | (intro _ _ _) | (intro _)
                 | (fail_if_no_progress (with_reducible refine queued_mk ?_; with_reducible refine queued_parts ?_)) | split)

theorem railsSettings_queued {pq : List Instr} (s : State) (c : Settings) (hk : Queued pq s) : Queued pq (railsSettings s c) := hk

theorem defaultNefc_queued {pq : List Instr} (s : State) (c : Settings) (hk : Queued pq s) : Queued pq (defaultNefc s c) := by
  unfold defaultNefc
  repeat' (with_reducible first | exact hk | apply queued_ite | fail_if_no_progress refine queued_mk (queued_parts ?_))

theorem acceptSettings_queued {pq : List Instr} (s : State) (c : Settings) (r : SheetRead) (hk : Queued pq s) :
    Queued pq (acceptSettings s c r) := by
  unfold acceptSettings
  repeat' (with_reducible first | exact hk | apply mapSites_queued | apply defaultNefc_queued | apply railsSettings_queued
                                | apply queued_ite | fail_if_no_progress refine queued_mk (queued_parts ?_))

theorem startFlash_queued {pq : List Instr} (s : State) (c : Settings) (hk : Queued pq s) : Queued pq (startFlash s c) := by
  unfold startFlash
  repeat' (with_reducible first | exact hk | assumption | apply flashChannelOut_queued | apply queued_ite
                                | refine queued_foldl ?_ _ ?_ | intro _ _ _ | fail_if_no_progress refine queued_mk (queued_parts ?_)
                                | split)

theorem step5Begins_queued {pq : List Instr} (s : State) (hk : Queued pq s) : Queued pq (step5Begins s) := by
  unfold step5Begins
  repeat' (with_reducible first | exact hk | apply startFlash_queued | apply queued_ite
                                | fail_if_no_progress refine queued_mk (queued_parts ?_) | split)

theorem mainDone_queued {pq : List Instr} (s : State) (hk : Queued pq s) : Queued pq (mainDone s) := by
  unfold mainDone
  repeat' (with_reducible first | exact hk | apply step5Begins_queued | apply queued_ite)

theorem step4_queued {pq : List Instr} (s : State) (hk : Queued pq s) : Queued pq (step4 s) := by
  unfold step4
  repeat' (with_reducible first | exact hk | apply beginSequence_queued | apply mainDone_queued | apply queued_ite
                                | fail_if_no_progress refine queued_mk (queued_parts ?_))

theorem sheetRegs_queued {pq : List Instr} (s : State) (r : SheetRead) (result : Nat) (hk : Queued pq s) :
    Queued pq (sheetRegs s r result) := hk

theorem sheetInvalid_queued {pq : List Instr} (s : State) (result : Nat) (f : SheetFail) (seq : Nat) (hk : Queued pq s) :
    Queued pq (sheetInvalid s result f seq) := by
  unfold sheetInvalid
  repeat' (with_reducible first | exact hk | apply raise_queued)

theorem logRate_queued {pq : List Instr} (s : State) (r : SheetRead) (hk : Queued pq s) : Queued pq (logRate s r) := by
  unfold logRate
  repeat' (with_reducible first | exact hk | apply logEvent_queued | apply queued_ite | split)

theorem finishSheet_queued {pq : List Instr} (s : State) (r : SheetRead) (hk : Queued pq s) : Queued pq (finishSheet s r) := by
  unfold finishSheet
  repeat' (with_reducible first | exact hk | apply step4_queued | apply sheetRegs_queued | apply raise_queued
                                | apply sheetInvalid_queued | apply logRate_queued | apply acceptSettings_queued
                                | apply enterMinimal_queued | apply queued_ite
                                | fail_if_no_progress refine queued_mk (queued_parts ?_) | split)

theorem groupBack_queued {pq : List Instr} (s : State) (g : Fin 3) (hk : Queued pq s) : Queued pq (groupBack s g) := by
  unfold groupBack
  repeat' (with_reducible first | exact hk | apply startFlash_queued | apply queued_ite
                                | fail_if_no_progress refine queued_mk (queued_parts ?_) | split)

theorem sequenceNext_queued {pq : List Instr} (s : State) (hk : Queued pq s) : Queued pq (sequenceNext s) := by
  unfold sequenceNext
  repeat' (with_reducible first | exact hk | apply enableRail_queued | apply bootSteps_queued | apply mainDone_queued
                                | apply groupBack_queued | fail_if_no_progress refine queued_mk (queued_parts ?_) | split | dsimp only)

theorem activateMemory_queued {pq : List Instr} (s : State) (hk : Queued pq s) : Queued pq (activateMemory s) := hk

/-! ## Machine/ButtonOps.lean -/

theorem pbAct_queued {pq : List Instr} (s : State) (a : PbAction) (hk : Queued pq s) : Queued pq (pbAct s a) := hk

theorem pbNotice_queued {pq : List Instr} (s : State) (d : Nat) (a : PbAction) (hk : Queued pq s) : Queued pq (pbNotice s d a) := by
  unfold pbNotice
  repeat' (with_reducible first | exact hk | apply raise_queued | apply pbAct_queued)

theorem pbLog_queued {pq : List Instr} (s : State) (d : Nat) (a : PbAction) (hk : Queued pq s) : Queued pq (pbLog s d a) := by
  unfold pbLog
  repeat' (with_reducible first | exact hk | apply logEvent_queued | apply pbAct_queued)

theorem hardOff_queued {pq : List Instr} (s : State) (hk : Queued pq s) : Queued pq (hardOff s) := by
  unfold hardOff
  repeat' (with_reducible first | exact hk | assumption | apply beginInterval_queued | apply coreLost_queued
                                | apply switchRailOff_queued | apply setCause_queued | apply enterStandby_queued | apply queued_ite
                                | refine queued_foldl ?_ _ ?_ | intro _ _ _ | fail_if_no_progress refine queued_mk (queued_parts ?_)
                                | split)

theorem pressService_queued {pq : List Instr} (s : State) (d : Nat) (hk : Queued pq s) : Queued pq (pressService s d) := by
  unfold pressService
  repeat' (with_reducible first | exact hk | apply pbNotice_queued | apply triggerSave_queued | apply pbAct_queued
                                | apply pbLog_queued | apply hardOff_queued | apply queued_ite | split)

theorem pressReleased_queued {pq : List Instr} (s : State) (d : Nat) (hk : Queued pq s) : Queued pq (pressReleased s d) := by
  unfold pressReleased
  repeat' (with_reducible first | exact hk | apply pressService_queued | apply pbLog_queued | apply pbNotice_queued
                                | apply beginShutdown_queued | apply pbAct_queued | apply startBoot_queued | apply raise_queued
                                | apply queued_ite | fail_if_no_progress refine queued_mk (queued_parts ?_) | split)

theorem pressForced_queued {pq : List Instr} (s : State) (hk : Queued pq s) : Queued pq (pressForced s) := by
  unfold pressForced
  repeat' (with_reducible first | exact hk | apply triggerSave_queued | apply pbAct_queued | apply beginShutdown_queued
                                | apply pbLog_queued | fail_if_no_progress refine queued_mk (queued_parts ?_) | split)

theorem pressHard_queued {pq : List Instr} (s : State) (hk : Queued pq s) : Queued pq (pressHard s) := by
  unfold pressHard
  repeat' (with_reducible first | exact hk | apply hardOff_queued | apply pbAct_queued | apply queued_ite
                                | fail_if_no_progress refine queued_mk (queued_parts ?_) | split)

theorem actDeferred_queued {pq : List Instr} (s : State) (hk : Queued pq s) : Queued pq (actDeferred s) := by
  unfold actDeferred
  repeat' (with_reducible first | exact hk | apply pressService_queued | fail_if_no_progress refine queued_mk (queued_parts ?_) | split)

theorem manualReset_queued {pq : List Instr} (s : State) (hk : Queued pq s) : Queued pq (manualReset s) := by
  unfold manualReset
  repeat' (with_reducible first | exact hk | apply dataPathReset_queued | apply raise_queued | apply endSession_queued
                                | fail_if_no_progress refine queued_mk (queued_parts ?_))

theorem resumeBoot_queued {pq : List Instr} (s : State) (hk : Queued pq s) : Queued pq (resumeBoot s) := by
  unfold resumeBoot
  repeat' (with_reducible first | exact hk | apply bootSteps_queued | apply beginSequence_queued | apply queued_ite)

theorem actLatchedReset_queued {pq : List Instr} (s : State) (hk : Queued pq s) : Queued pq (actLatchedReset s) := by
  unfold actLatchedReset
  repeat' (with_reducible first | exact hk | apply manualReset_queued | apply resumeBoot_queued | apply queued_ite
                                | fail_if_no_progress refine queued_mk (queued_parts ?_) | split)

/-! ## Machine/EnergyOps.lean -/

theorem setPack_queued {pq : List Instr} (s : State) (f : Pack → Pack) (hk : Queued pq s) : Queued pq (setPack s f) := hk

theorem setBank_queued {pq : List Instr} (s : State) (f : Bank → Bank) (hk : Queued pq s) : Queued pq (setBank s f) := hk

theorem blockChanged_queued {pq : List Instr} (s : State) (hk : Queued pq s) : Queued pq (blockChanged s) := hk

theorem touchEstimator_queued {pq : List Instr} (s : State) (hk : Queued pq s) : Queued pq (touchEstimator s) := hk

theorem carryCycles_queued {pq : List Instr} (s : State) (hk : Queued pq s) : Queued pq (carryCycles s) := by
  unfold carryCycles
  repeat' (with_reducible first | exact hk | apply blockChanged_queued | apply setPack_queued | apply queued_ite
                                | fail_if_no_progress refine queued_mk (queued_parts ?_) | split)

theorem countDrawn_queued {pq : List Instr} (s : State) (uc : Nat) (hk : Queued pq s) : Queued pq (countDrawn s uc) := by
  unfold countDrawn
  repeat' (with_reducible first | exact hk | apply carryCycles_queued | apply setPack_queued)

theorem integrateFor_queued {pq : List Instr} (s : State) (milliamps : Int) (ms : Nat) (hk : Queued pq s) :
    Queued pq (integrateFor s milliamps ms) := by
  unfold integrateFor
  repeat' (with_reducible first | exact hk | apply countDrawn_queued | apply setPack_queued | apply queued_ite
                                | fail_if_no_progress refine queued_mk (queued_parts ?_) | split)

theorem integrate_queued {pq : List Instr} (s : State) (milliamps : Int) (hk : Queued pq s) : Queued pq (integrate s milliamps) := by
  unfold integrate
  repeat' (with_reducible first | exact hk | apply integrateFor_queued | apply queued_ite | split)

theorem setReference_queued {pq : List Instr} (s : State) (soc : Rat) (src : SocSource) (hk : Queued pq s) :
    Queued pq (setReference s soc src) := hk

theorem ocvSoc_queued {pq : List Instr} (s : State) (p : PackSet) (millivolts : Nat) (hk : Queued pq s) :
    Queued pq (ocvSoc s p millivolts).2 := by
  unfold ocvSoc
  repeat' (with_reducible first | exact hk | fail_if_no_progress refine queued_mk (queued_parts ?_) | split)

theorem ocvSoc_queuedE {pq : List Instr} {s : State} {p : PackSet} {millivolts : Nat} {ra} {rb} (hk : Queued pq s) (he : ocvSoc s p
    millivolts = (ra, rb)) :
    Queued pq rb := by
  have := ocvSoc_queued (pq := pq) s p millivolts hk
  rw [he] at this; exact this

theorem voltageReference_queued {pq : List Instr} (s : State) (c : Settings) (millivolts uBase : Nat) (src : SocSource) (hk : Queued pq
    s) :
    Queued pq (voltageReference s c millivolts uBase src) := by
  unfold voltageReference
  repeat' (with_reducible first | exact hk | apply ocvSoc_queued | apply blockChanged_queued | apply setPack_queued
                                | apply setReference_queued)

theorem updateCharger_queued {pq : List Instr} (s : State) (hk : Queued pq s) : Queued pq (updateCharger s) := by
  unfold updateCharger
  repeat' (with_reducible first | exact hk | apply setPack_queued | apply queued_ite
                                | fail_if_no_progress refine queued_mk (queued_parts ?_))

theorem terminateCharge_queued {pq : List Instr} (s : State) (hk : Queued pq s) : Queued pq (terminateCharge s) := by
  unfold terminateCharge
  repeat' (with_reducible first | exact hk | apply setReference_queued | apply updateCharger_queued | apply queued_ite
                                | fail_if_no_progress refine queued_mk (queued_parts ?_))

theorem taperCheck_queued {pq : List Instr} (s : State) (hk : Queued pq s) : Queued pq (taperCheck s) := by
  unfold taperCheck
  repeat' (with_reducible first | exact hk | apply terminateCharge_queued | apply queued_ite
                                | fail_if_no_progress refine queued_mk (queued_parts ?_) | split)

theorem endWindow_queued {pq : List Instr} (s : State) (success cause : Nat) (hk : Queued pq s) :
    Queued pq (endWindow s success cause) := by
  unfold endWindow
  repeat' (with_reducible first | exact hk | apply updateCharger_queued | apply raise_queued | apply setPack_queued | apply queued_ite)

theorem settlePack_queued {pq : List Instr} (s : State) (hk : Queued pq s) : Queued pq (settlePack s) := by
  unfold settlePack
  repeat' (with_reducible first | exact hk | apply setPack_queued | apply ceilingEvent_queued | apply endWindow_queued
                                | apply updateCharger_queued | apply queued_ite)

theorem failPack_queued {pq : List Instr} (s : State) (f : PackCond) (hk : Queued pq s) : Queued pq (failPack s f) := by
  unfold failPack
  repeat' (with_reducible first | exact hk | apply evalPsub_queued | apply settlePack_queued | apply raise_queued
                                | apply setPack_queued | apply queued_ite | fail_if_no_progress refine queued_mk (queued_parts ?_)
                                | split)

theorem voltageCheck_queued {pq : List Instr} (s : State) (hk : Queued pq s) : Queued pq (voltageCheck s) := by
  unfold voltageCheck
  repeat' (with_reducible first | exact hk | apply setPack_queued | apply failPack_queued | apply settlePack_queued | apply queued_ite)

theorem dischargeWindow_queued {pq : List Instr} (s : State) (t : Int) (hk : Queued pq s) : Queued pq (dischargeWindow s t) := hk

theorem chargeWindow_queued {pq : List Instr} (s : State) (t : Int) (hk : Queued pq s) : Queued pq (chargeWindow s t) := hk

theorem packChanged_queued {pq : List Instr} (s : State) (old new : List Byte) (hk : Queued pq s) : Queued pq (packChanged s old new) := by
  unfold packChanged
  repeat' (with_reducible first | exact hk | apply setPack_queued | apply ceilingEvent_queued | apply raise_queued
                                | apply blockChanged_queued | fail_if_no_progress refine queued_mk (queued_parts ?_))

theorem acceptSerial_queued {pq : List Instr} (s : State) (serial : List Byte) (hk : Queued pq s) : Queued pq (acceptSerial s serial) := by
  unfold acceptSerial
  repeat' (with_reducible first | exact hk | apply setPack_queued | apply blockChanged_queued | apply packChanged_queued
                                | apply queued_ite | fail_if_no_progress refine queued_mk (queued_parts ?_) | split)

theorem identityLost_queued {pq : List Instr} (s : State) (stat : Nat) (hk : Queued pq s) : Queued pq (identityLost s stat) := by
  unfold identityLost
  repeat' (with_reducible first | exact hk | apply blockChanged_queued | apply setPack_queued | apply raise_queued | apply queued_ite)

theorem failedPair_queued {pq : List Instr} (s : State) (hk : Queued pq s) : Queued pq (identityPair.failedPair s) := by
  unfold identityPair.failedPair
  repeat' (first | with_reducible exact hk | with_reducible apply settlePack_queued | with_reducible apply identityLost_queued
                 | with_reducible apply setPack_queued | with_reducible apply queued_ite
                 | (fail_if_no_progress (with_reducible refine queued_mk ?_; with_reducible refine queued_parts ?_)) | split)

theorem identityPair_queued {pq : List Instr} (s : State) (first second : Option (List Byte)) (hk : Queued pq s) :
    Queued pq (identityPair s first second) := by
  unfold identityPair
  repeat' (first | with_reducible exact hk | with_reducible apply settlePack_queued | with_reducible apply acceptSerial_queued
                 | with_reducible apply failedPair_queued | with_reducible apply queued_ite
                 | (fail_if_no_progress (with_reducible refine queued_mk ?_; with_reducible refine queued_parts ?_)) | split)

theorem updateBank_queued {pq : List Instr} (s : State) (hk : Queued pq s) : Queued pq (updateBank s) := hk

theorem failBank_queued {pq : List Instr} (s : State) (hk : Queued pq s) : Queued pq (failBank s) := by
  unfold failBank
  repeat' (with_reducible first | exact hk | apply updateBank_queued | apply setBank_queued | apply ceilingEvent_queued
                                | apply raise_queued)

theorem bankReturns_queued {pq : List Instr} (s : State) (hk : Queued pq s) : Queued pq (bankReturns s) := by
  unfold bankReturns
  repeat' (with_reducible first | exact hk | apply bankQualify_queued | apply setBank_queued | apply evalPsub_queued | apply queued_ite)

theorem bankLoss_queued {pq : List Instr} (s : State) (hk : Queued pq s) : Queued pq (bankLoss s) := by
  unfold bankLoss
  repeat' (with_reducible first | exact hk | apply bankQualify_queued | apply ceilingEvent_queued | apply queued_ite)

theorem commitBlock_queued {pq : List Instr} (s : State) (b : List Byte) (hk : Queued pq s) : Queued pq (commitBlock s b) := by
  unfold commitBlock
  repeat' (with_reducible first | exact hk | apply setPack_queued | apply carryCycles_queued | apply blockChanged_queued
                                | fail_if_no_progress refine queued_mk (queued_parts ?_))

theorem shipPulse_queued {pq : List Instr} (s : State) (hk : Queued pq s) : Queued pq (shipPulse s) := hk

theorem shipDrained_queued {pq : List Instr} (s : State) (hk : Queued pq s) : Queued pq (shipDrained s) := by
  unfold shipDrained
  repeat' (with_reducible first | exact hk | apply shipPulse_queued | apply setBank_queued | apply queued_ite)

theorem shipReached_queued {pq : List Instr} (s : State) (hk : Queued pq s) : Queued pq (shipReached s) := by
  unfold shipReached
  repeat' (with_reducible first | exact hk | apply raise_queued | apply setPack_queued | apply queued_ite)

theorem enterShip_queued {pq : List Instr} (s : State) (hk : Queued pq s) : Queued pq (enterShip s) := by
  unfold enterShip
  repeat' (with_reducible first | exact hk | apply shipDrained_queued | apply updateCharger_queued | apply setBank_queued
                                | apply setPack_queued)

/-! ## Machine/NoticeOps.lean -/

theorem signal_queued {pq : List Instr} (s : State) (l : Link) (v : Nat) (hk : Queued pq s) : Queued pq (signal s l v) := by
  unfold signal
  repeat' (with_reducible first | exact hk | apply emit_queued | apply queued_ite | fail_if_no_progress refine queued_mk (queued_parts ?_))

theorem setFn_queued {pq : List Instr} (s : State) (l : Link) (f : FnRegs → FnRegs) (hk : Queued pq s) : Queued pq (setFn s l f) := hk

theorem writeRecord_queued {pq : List Instr} (s : State) (l : Link) (log kind : Nat) (seq : Word) (hk : Queued pq s) :
    Queued pq (writeRecord s l log kind seq) := hk

theorem intoLogs_queued {pq : List Instr} (s : State) (l : Link) (n : Notice) (hk : Queued pq s) : Queued pq (intoLogs s l n) := by
  unfold intoLogs
  repeat' (with_reducible first | exact hk | apply writeRecord_queued | apply signal_queued | apply queued_ite | split)

theorem setNotice_queued {pq : List Instr} (s : State) (seq : Word) (f : Notice → Notice) (hk : Queued pq s) :
    Queued pq (setNotice s seq f) := hk

theorem intoRing_queued {pq : List Instr} (s : State) (l : Link) (n : Notice) (hk : Queued pq s) : Queued pq (intoRing s l n) := by
  unfold intoRing
  repeat' (with_reducible first | exact hk | apply setFn_queued | apply emit_queued | apply signal_queued | apply setNotice_queued
                                | apply queued_ite | fail_if_no_progress refine queued_mk (queued_parts ?_) | split)

theorem deliverLink_queued {pq : List Instr} (s : State) (l : Link) (n : Notice) (hk : Queued pq s) : Queued pq (deliverLink s l n) := by
  unfold deliverLink
  repeat' (with_reducible first | exact hk | apply intoRing_queued | apply intoLogs_queued | apply setNotice_queued | apply queued_ite
                                | fail_if_no_progress refine queued_mk (queued_parts ?_) | split)

theorem writeEverywhere_queued {pq : List Instr} (s : State) (n : Notice) (hk : Queued pq s) : Queued pq (writeEverywhere s n) := by
  unfold writeEverywhere
  repeat' (with_reducible first | exact hk | assumption | apply deliverLink_queued | apply queued_ite | refine queued_foldl ?_ _ ?_
                                | intro _ _ _ | split)

theorem retireDelivered_queued {pq : List Instr} (s : State) (hk : Queued pq s) : Queued pq (retireDelivered s) := by
  unfold retireDelivered
  repeat' (with_reducible first | exact hk | assumption | apply writeEverywhere_queued | refine queued_foldl ?_ _ ?_ | intro _ _ _
                                | fail_if_no_progress refine queued_mk (queued_parts ?_))

theorem deliverNext_queued {pq : List Instr} (s : State) (c : Carrier) (hk : Queued pq s) : Queued pq (deliverNext s c) := by
  unfold deliverNext
  repeat' (with_reducible first | exact hk | apply retireDelivered_queued | apply deliverLink_queued | apply setNotice_queued
                                | apply emit_queued | apply queued_ite | split)

theorem rewriteLogs_queued {pq : List Instr} (s : State) (l : Link) (hk : Queued pq s) : Queued pq (rewriteLogs s l) := by
  unfold rewriteLogs
  repeat' (with_reducible first | exact hk | assumption | apply setNotice_queued | apply intoLogs_queued | apply queued_ite
                                | refine queued_foldl ?_ _ ?_ | intro _ _ _)

/-! ## Machine/SmbOps.lean -/

theorem setSmb_queued {pq : List Instr} (s : State) (f : Smb → Smb) (hk : Queued pq s) : Queued pq (setSmb s f) := hk

theorem sendCurrent_queued {pq : List Instr} (s : State) (hk : Queued pq s) : Queued pq (sendCurrent s) := by
  unfold sendCurrent
  repeat' (with_reducible first | exact hk | apply emit_queued | apply setSmb_queued | apply queued_ite
                                | fail_if_no_progress refine queued_mk (queued_parts ?_) | split)

theorem sendMessage_queued {pq : List Instr} (s : State) (m : SmbMsg) (hk : Queued pq s) : Queued pq (sendMessage s m) := by
  unfold sendMessage
  repeat' (with_reducible first | exact hk | apply sendCurrent_queued | apply setSmb_queued)

theorem messageSent_queued {pq : List Instr} (s : State) (m : SmbMsg) (hk : Queued pq s) : Queued pq (messageSent s m) := by
  unfold messageSent
  repeat' (with_reducible first | exact hk | apply retireDelivered_queued | apply setNotice_queued | apply setSmb_queued
                                | apply queued_ite | fail_if_no_progress refine queued_mk (queued_parts ?_) | split)

theorem sendQueued_queued {pq : List Instr} (s : State) (hk : Queued pq s) : Queued pq (sendQueued s) := by
  unfold sendQueued
  repeat' (with_reducible first | exact hk | apply sendMessage_queued | apply setSmb_queued | apply queued_ite
                                | fail_if_no_progress refine queued_mk (queued_parts ?_) | split)

theorem completeSmb_queued {pq : List Instr} (s : State) (hk : Queued pq s) : Queued pq (completeSmb s) := by
  unfold completeSmb
  repeat' (with_reducible first | exact hk | apply sendQueued_queued | apply messageSent_queued | apply setSmb_queued
                                | fail_if_no_progress refine queued_mk (queued_parts ?_) | split)

theorem respondSmb_queued {pq : List Instr} (s : State) (m : SmbMsg) (hk : Queued pq s) : Queued pq (respondSmb s m) := by
  unfold respondSmb
  repeat' (with_reducible first | exact hk | apply completeSmb_queued | apply sendQueued_queued | apply setSmb_queued)

theorem sendNextNotice_queued {pq : List Instr} (s : State) (hk : Queued pq s) : Queued pq (sendNextNotice s) := by
  unfold sendNextNotice
  repeat' (with_reducible first | exact hk | apply completeSmb_queued | apply sendMessage_queued | apply queued_ite | split | dsimp only)

theorem failTransfer_queued {pq : List Instr} (s : State) (hk : Queued pq s) : Queued pq (failTransfer s) := by
  unfold failTransfer
  repeat' (with_reducible first | exact hk | apply setSmb_queued | apply setNotice_queued | apply sendQueued_queued | apply queued_ite
                                | fail_if_no_progress refine queued_mk (queued_parts ?_) | split)

theorem loseBus_queued {pq : List Instr} (s : State) (hk : Queued pq s) : Queued pq (loseBus s) := by
  unfold loseBus
  repeat' (with_reducible first | exact hk | apply setSmb_queued | apply queued_ite)

theorem tick_queued {pq : List Instr} (s : State) (hk : Queued pq s) : Queued pq (tick s) := by
  unfold tick
  repeat' (with_reducible first | exact hk | apply programHeld_queued | apply passTime_queued | apply completeSmb_queued)

/-! ## Machine/FwOps.lean -/

theorem setFw_queued {pq : List Instr} (s : State) (f : Firmware → Firmware) (hk : Queued pq s) : Queued pq (setFw s f) := hk

theorem setImage_queued {pq : List Instr} (s : State) (b : Bool) (h : Option FwHeader) (hk : Queued pq s) :
    Queued pq (setImage s b h) := hk

theorem selectHalf_queued {pq : List Instr} (s : State) (b : Bool) (hk : Queued pq s) : Queued pq (selectHalf s b) := by
  unfold selectHalf
  repeat' (with_reducible first | exact hk | apply cfEraseSector_queued | apply setFw_queued | apply writeSwap_queued | apply queued_ite)

theorem renewSelector_queued {pq : List Instr} (s : State) (hk : Queued pq s) : Queued pq (renewSelector s) := by
  unfold renewSelector
  repeat' (with_reducible first | exact hk | apply selectHalf_queued | apply cfEraseSector_queued | apply setImage_queued
                                | apply cfEraseRange_queued | apply queued_ite)

theorem selectBoot_queued {pq : List Instr} (s : State) (b : Bool) (hk : Queued pq s) : Queued pq (selectBoot s b) := by
  unfold selectBoot
  repeat' (with_reducible first | exact hk | apply writeSwap_queued | apply cfEraseSector_queued | apply cfEraseRange_queued
                                | apply setFw_queued | apply queued_ite)

theorem refuseFw_queued {pq : List Instr} (s : State) (reasons : Nat) (hk : Queued pq s) : Queued pq (refuseFw s reasons) := hk

theorem logIgnoredLock_queued {pq : List Instr} (s : State) (hk : Queued pq s) : Queued pq (logIgnoredLock s) := by
  unfold logIgnoredLock
  repeat' (with_reducible first | exact hk | apply logEvent_queued | apply queued_ite)

theorem signalAll_queued {pq : List Instr} (s : State) (v : Nat) (hk : Queued pq s) : Queued pq (signalAll s v) := by
  unfold signalAll
  repeat' (with_reducible first | exact hk | assumption | apply signal_queued | refine queued_foldl ?_ _ ?_ | intro _ _ _)

theorem sendRelay_queued {pq : List Instr} : ∀ (n : Nat) (s : State), Queued pq s → Queued pq (sendRelay n s)
  | 0, _, hk => hk
  | n + 1, s, hk => by
    unfold sendRelay
    split
    · exact hk
    · split
      · exact hk
      · dsimp only
        split
        · exact hk
        · exact sendRelay_queued n _ (setFw_queued _ _ (queued_foldl (fun s b h => emit_queued s _ h) _ hk))

theorem relayIn_queued {pq : List Instr} (s : State) (k : HyChunk) (hk : Queued pq s) : Queued pq (relayIn s k) := by
  unfold relayIn
  repeat' (with_reducible first | exact hk | apply setFw_queued | apply sendRelay_queued | apply queued_ite)

theorem sendStatus_queued {pq : List Instr} (s : State) (hk : Queued pq s) : Queued pq (sendStatus s) := by
  unfold sendStatus
  repeat' (with_reducible first | exact hk | apply emit_queued | apply queued_ite)

theorem setOwn_queued {pq : List Instr} (s : State) (r : EntryRun) (hk : Queued pq s) : Queued pq (setOwn s r) := by
  unfold setOwn
  repeat' (with_reducible first | exact hk | apply sendStatus_queued | apply setFw_queued | apply queued_ite)

theorem sendCredit_queued {pq : List Instr} (s : State) (credits : Nat) (hk : Queued pq s) : Queued pq (sendCredit s credits) := by
  unfold sendCredit
  repeat' (with_reducible first | exact hk | apply setFw_queued | apply emit_queued | apply queued_ite
                                | fail_if_no_progress refine queued_mk (queued_parts ?_) | split)

theorem sendActivate_queued {pq : List Instr} (s : State) (pkg : Word) (hk : Queued pq s) : Queued pq (sendActivate s pkg) := by
  unfold sendActivate
  repeat' (with_reducible first | exact hk | apply emit_queued | apply queued_ite)

theorem finishReport_queued {pq : List Instr} (s : State) (hk : Queued pq s) : Queued pq (finishReport s) := by
  unfold finishReport
  repeat' (with_reducible first | exact hk | apply setFw_queued | apply raise_queued | apply queued_ite
                                | fail_if_no_progress refine queued_mk (queued_parts ?_) | split | dsimp only)

theorem checkReport_queued {pq : List Instr} (s : State) (hk : Queued pq s) : Queued pq (checkReport s) := by
  unfold checkReport
  repeat' (with_reducible first | exact hk | apply finishReport_queued | apply queued_ite)

theorem checkChainDone_queued {pq : List Instr} (s : State) (hk : Queued pq s) : Queued pq (checkChainDone s) := by
  unfold checkChainDone
  repeat' (with_reducible first | exact hk | apply raise_queued | apply setFw_queued | apply queued_ite)

theorem programChunk_queued {pq : List Instr} (s : State) (sec : Nat) (data : List Byte) (hk : Queued pq s) :
    Queued pq (programChunk s sec data) := by
  unfold programChunk
  repeat' (with_reducible first | exact hk | assumption | apply cfEraseSector_queued | apply cfPut_queued | refine queued_foldl ?_ _ ?_
                                | intro _ _ _)

theorem stageChunk_queued {pq : List Instr} (s : State) (k : HyChunk) (owner : Option Byte) (hk : Queued pq s) :
    Queued pq (stageChunk s k owner) := by
  unfold stageChunk
  repeat' (with_reducible first | exact hk | apply programChunk_queued | apply setImage_queued | apply setOwn_queued | apply setFw_queued
                                | apply queued_ite)

theorem fwChunkAnswer_queued {pq : List Instr} (s : State) (k : HyChunk) (session : Byte) (hk : Queued pq s) :
    Queued pq (fwChunkAnswer s k session).2.2 := by
  unfold fwChunkAnswer
  repeat' (with_reducible first | exact hk | apply relayIn_queued | apply sendStatus_queued | apply refuseFw_queued
                                | apply stageChunk_queued | apply logIgnoredLock_queued | apply queued_ite | split | dsimp only)

theorem fwChunkAnswer_queuedE {pq : List Instr} {s : State} {k : HyChunk} {session : Byte} {ra} {rb rc} (hk : Queued pq s) (he :
    fwChunkAnswer s k session = (ra, rb, rc)) :
    Queued pq rc := by
  have := fwChunkAnswer_queued (pq := pq) s k session hk
  rw [he] at this; exact this

theorem pendRestart_queued {pq : List Instr} (s : State) (h : FwHeader) (hk : Queued pq s) : Queued pq (pendRestart s h) := by
  unfold pendRestart
  repeat' (with_reducible first | exact hk | apply selectHalf_queued | apply setOwn_queued | apply setFw_queued | apply signalAll_queued
                                | apply raise_queued)

theorem beginActivation_queued {pq : List Instr} (s : State) (h : FwHeader) (whole : Nat) (hk : Queued pq s) :
    Queued pq (beginActivation s h whole) := by
  unfold beginActivation
  repeat' (with_reducible first | exact hk | apply sendStatus_queued | apply refuseFw_queued | apply pendRestart_queued
                                | apply logIgnoredLock_queued | apply setFw_queued | apply queued_ite)

theorem activatePackage_queued {pq : List Instr} (s : State) (pkg : Word) (hk : Queued pq s) : Queued pq (activatePackage s pkg).1 := by
  unfold activatePackage
  repeat' (with_reducible first | exact hk | apply setOwn_queued | apply sendStatus_queued | apply refuseFw_queued | apply setFw_queued
                                | apply beginActivation_queued | apply queued_ite
                                | fail_if_no_progress refine queued_mk (queued_parts ?_) | split)

theorem activatePackage_queuedE {pq : List Instr} {s : State} {pkg : Word} {ra} {rb} (hk : Queued pq s) (he : activatePackage s pkg =
    (ra, rb)) :
    Queued pq ra := by
  have := activatePackage_queued (pq := pq) s pkg hk
  rw [he] at this; exact this

theorem startRevert_queued {pq : List Instr} (s : State) (cause : Nat) (hk : Queued pq s) : Queued pq (startRevert s cause) := hk

theorem finishRevert_queued {pq : List Instr} (s : State) (hk : Queued pq s) : Queued pq (finishRevert s) := by
  unfold finishRevert
  dsimp only
  split
  · exact sendActivate_queued _ _ (signalAll_queued _ _ (raise_queued _ _ _ (setOwn_queued _ _ (setFw_queued _ _ (queued_mk (queued_parts hk))))))
  · exact signalAll_queued _ _ (raise_queued _ _ _ (setOwn_queued _ _ (setFw_queued _ _ (queued_mk (queued_parts hk)))))

/-! ## Machine/SecOps.lean -/

theorem setSec_queued {pq : List Instr} (s : State) (f : Security → Security) (hk : Queued pq s) : Queued pq (setSec s f) := hk

theorem refuseLevel_queued {pq : List Instr} (s : State) (why : Nat) (hk : Queued pq s) : Queued pq (refuseLevel s why) := hk

theorem loweringStep1_queued {pq : List Instr} (s : State) (target : Level) (hk : Queued pq s) : Queued pq (loweringStep1 s target) := by
  unfold loweringStep1
  repeat' (with_reducible first | exact hk | apply endSession_queued | apply idleLinks_queued | apply drainBuffers_queued
                                | apply setSec_queued | apply refuse_queued | fail_if_no_progress refine queued_mk (queued_parts ?_))

theorem loweringSteps23_queued {pq : List Instr} (s : State) (hk : Queued pq s) : Queued pq (loweringSteps23 s) := by
  unfold loweringSteps23
  repeat' (with_reducible first | exact hk | apply writeLevel_queued | apply setSec_queued | apply killKey_queued
                                | fail_if_no_progress refine queued_mk (queued_parts ?_))

theorem requestLowering_queued {pq : List Instr} (s : State) (l : Link) (target : Level) (hk : Queued pq s) :
    Queued pq (requestLowering s l target) := by
  unfold requestLowering
  repeat' (with_reducible first | exact hk | apply refuseLevel_queued | apply loweringStep1_queued | apply queued_ite)

theorem lowerOn_queued {pq : List Instr} (s : State) (hk : Queued pq s) : Queued pq (lowerOn s) := by
  unfold lowerOn
  repeat' (with_reducible first | exact hk | apply loweringSteps23_queued | apply queued_ite)

theorem raiseLevel_queued {pq : List Instr} (s : State) (l : Link) (target : Level) (hk : Queued pq s) :
    Queued pq (raiseLevel s l target) := by
  unfold raiseLevel
  repeat' (with_reducible first | exact hk | apply refuseLevel_queued | apply endSession_queued | apply writeLevel_queued
                                | apply setSec_queued | apply refuse_queued | apply raise_queued | apply queued_ite)

theorem armLowering_queued {pq : List Instr} (s : State) (l : Link) (hk : Queued pq s) : Queued pq (armLowering s l) := by
  unfold armLowering
  repeat' (with_reducible first | exact hk | apply refuseLevel_queued | apply setSec_queued | apply refuse_queued | apply queued_ite)

theorem writeSecLevel_queued {pq : List Instr} (s : State) (l : Link) (v : Word) (hk : Queued pq s) :
    Queued pq (writeSecLevel s l v) := by
  unfold writeSecLevel
  repeat' (with_reducible first | exact hk | apply armLowering_queued | apply refuseLevel_queued | apply raiseLevel_queued
                                | apply requestLowering_queued | apply queued_ite)

theorem giveChallenge_queued {pq : List Instr} (s : State) (hk : Queued pq s) : Queued pq (giveChallenge s).2.2 := by
  unfold giveChallenge
  repeat' (with_reducible first | exact hk | apply endSession_queued | apply drawRandom_queued | apply setSec_queued
                                | refine drawRandom_queuedE ?_ (by assumption) | apply queued_ite
                                | fail_if_no_progress refine queued_mk (queued_parts ?_) | split)

theorem giveChallenge_queuedE {pq : List Instr} {s : State} {ra} {rb rc} (hk : Queued pq s) (he : giveChallenge s = (ra, rb, rc)) :
    Queued pq rc := by
  have := giveChallenge_queued (pq := pq) s hk
  rw [he] at this; exact this

theorem takeResponse_queued {pq : List Instr} (s : State) (c : Carrier) (verifies : Bool) (hk : Queued pq s) :
    Queued pq (takeResponse s c verifies).2.2 := by
  unfold takeResponse
  repeat' (with_reducible first | exact hk | apply setSec_queued | apply raise_queued | apply queued_ite
                                | fail_if_no_progress refine queued_mk (queued_parts ?_) | split)

theorem takeResponse_queuedE {pq : List Instr} {s : State} {c : Carrier} {verifies : Bool} {ra} {rb rc} (hk : Queued pq s) (he :
    takeResponse s c verifies = (ra, rb, rc)) :
    Queued pq rc := by
  have := takeResponse_queued (pq := pq) s c verifies hk
  rw [he] at this; exact this

/-! ## Machine/RestoreOps.lean -/

theorem beginService_queued {pq : List Instr} (s : State) (hk : Queued pq s) : Queued pq (beginService s) := by
  unfold beginService
  repeat' (with_reducible first | exact hk | apply activateMemory_queued | apply actDeferred_queued | apply logEvent_queued
                                | apply endInterval_queued | fail_if_no_progress refine queued_mk (queued_parts ?_))

theorem step9_queued {pq : List Instr} (s : State) (hk : Queued pq s) : Queued pq (step9 s) := by
  unfold step9
  repeat' (with_reducible first | exact hk | apply hold_queued | apply beginService_queued | apply queued_ite
                                | fail_if_no_progress refine queued_mk (queued_parts ?_) | split)

theorem clearRollback_queued {pq : List Instr} (s : State) (hk : Queued pq s) : Queued pq (clearRollback s) := by
  unfold clearRollback
  repeat' (with_reducible first | exact hk | apply step9_queued | apply hold_queued | apply queued_ite
                                | fail_if_no_progress refine queued_mk (queued_parts ?_))

theorem rollBack_queued {pq : List Instr} (s : State) (cause : Nat) (used : DWord) (hk : Queued pq s) :
    Queued pq (rollBack s cause used) := by
  unfold rollBack
  repeat' (with_reducible first | exact hk | apply raise_queued | apply countDirtyShutdown_queued | apply hold_queued | apply queued_ite
                                | fail_if_no_progress refine queued_mk (queued_parts ?_))

theorem chosen_queued {pq : List Instr} (s : State) (source cause : Nat) (used : DWord) (path : BootPath) (hk : Queued pq s) :
    Queued pq (chosen s source cause used path) := hk

theorem reportSave_queued {pq : List Instr} (s : State) (g : Generation) (hk : Queued pq s) : Queued pq (reportSave s g) := by
  unfold reportSave
  repeat' (with_reducible first | exact hk | apply raise_queued | apply countDirtyShutdown_queued | apply queued_ite)

theorem useGeneration_queued {pq : List Instr} (s : State) (g : Generation) (hk : Queued pq s) : Queued pq (useGeneration s g) := by
  unfold useGeneration
  repeat' (with_reducible first | exact hk | apply rollBack_queued | apply chosen_queued | apply reportSave_queued | apply queued_ite
                                | fail_if_no_progress refine queued_mk (queued_parts ?_))

theorem granMismatch_queued {pq : List Instr} (s : State) (hk : Queued pq s) : Queued pq (granMismatch s) := by
  unfold granMismatch
  repeat' (with_reducible first | exact hk | apply enterMinimal_queued | apply sheetInvalid_queued
                                | fail_if_no_progress refine queued_mk (queued_parts ?_))

theorem readySlot_queued {pq : List Instr} (s : State) (hk : Queued pq s) : Queued pq (readySlot s).1 := by
  unfold readySlot
  repeat' (with_reducible first | exact hk | apply writeLevel_queued | apply cfEraseSector_queued | split)

theorem readySlot_queuedE {pq : List Instr} {s : State} {ra} {rb} (hk : Queued pq s) (he : readySlot s = (ra, rb)) : Queued pq ra := by
  have := readySlot_queued (pq := pq) s hk
  rw [he] at this; exact this

theorem makeKey_queued {pq : List Instr} (s : State) (hk : Queued pq s) : Queued pq (makeKey s) := by
  unfold makeKey
  repeat' (with_reducible first | exact hk | apply drawRandom_queued | apply readySlot_queued | apply writeKeySlot_queued
                                | apply queued_ite | fail_if_no_progress refine queued_mk (queued_parts ?_) | split)

theorem retireFactory_queued {pq : List Instr} (s : State) (c : Settings) (hk : Queued pq s) : Queued pq (retireFactory s c) := by
  unfold retireFactory
  repeat' (with_reducible first | exact hk | assumption | apply setBlock_queued | apply retireDie_queued | apply queued_ite
                                | refine queued_foldl ?_ _ ?_ | intro _ _ _)

theorem beginFormat_queued {pq : List Instr} (s : State) (c : Settings) (hk : Queued pq s) : Queued pq (beginFormat s c) := by
  unfold beginFormat
  repeat' (with_reducible first | exact hk | apply retireFactory_queued | apply makeKey_queued | apply openRows_queued
                                | apply beginSeal_queued | fail_if_no_progress refine queued_mk (queued_parts ?_))

/-! ## Machine/QmpOps.lean -/

theorem setQmp_queued {pq : List Instr} (s : State) (f : Qmp → Qmp) (hk : Queued pq s) : Queued pq (setQmp s f) := hk

theorem respond_queued {pq : List Instr} (s : State) (hdr : QmpHdr) (op : BitVec 16) (st : QmpStatus) (replay : Bool) (body : List
    Byte) (hk : Queued pq s) :
    Queued pq (respond s hdr op st replay body) := by
  unfold respond
  repeat' (with_reducible first | exact hk | apply respondSmb_queued | apply emit_queued | split)

theorem hold_queued {pq : List Instr} (s : State) (hdr : QmpHdr) (b : QmpBody) (hk : Queued pq s) : Queued pq (hold s hdr b) := hk

theorem modSession_queued {pq : List Instr} (s : State) (id : Byte) (f : Session → Session) (hk : Queued pq s) :
    Queued pq (modSession s id f) := hk

theorem addSession_queued {pq : List Instr} (s : State) (x : Session) (hk : Queued pq s) : Queued pq (addSession s x) := hk

theorem dropSession_queued {pq : List Instr} (s : State) (id : Byte) (hk : Queued pq s) : Queued pq (dropSession s id) := hk

theorem copySessions_queued {pq : List Instr} (s : State) (hk : Queued pq s) : Queued pq (copySessions s) := hk

theorem mergeAon_queued {pq : List Instr} (s : State) (hk : Queued pq s) : Queued pq (mergeAon s) := hk

theorem register_queued {pq : List Instr} (s : State) (hdr : QmpHdr) (x : Session) (notify : Bool) (hk : Queued pq s) :
    Queued pq (register s hdr x notify) := by
  unfold register
  repeat' (with_reducible first | exact hk | apply setQmp_queued | apply queued_ite
                                | fail_if_no_progress refine queued_mk (queued_parts ?_) | split)

theorem openSession_queued {pq : List Instr} (s : State) (hdr : QmpHdr) (x : Session) (notify : Bool) (hk : Queued pq s) :
    Queued pq (openSession s hdr x notify).2.2 := by
  unfold openSession
  repeat' (with_reducible first | exact hk | apply register_queued | apply addSession_queued)

theorem openSession_queuedE {pq : List Instr} {s : State} {hdr : QmpHdr} {x : Session} {notify : Bool} {ra} {rb rc} (hk : Queued pq s)
    (he : openSession s hdr x notify = (ra, rb, rc)) :
    Queued pq rc := by
  have := openSession_queued (pq := pq) s hdr x notify hk
  rw [he] at this; exact this

theorem openNegotiate_queued {pq : List Instr} (s : State) (hdr : QmpHdr) (versions tag : Word) (flags : Byte) (chunkMs : BitVec 16)
    (hk : Queued pq s) :
    Queued pq (openNegotiate s hdr versions tag flags chunkMs).2.2 := by
  unfold openNegotiate
  repeat' (with_reducible first | exact hk | apply openSession_queued | apply register_queued | apply raise_queued
                                | apply dropSession_queued | refine openSession_queuedE ?_ (by assumption) | apply queued_ite | split
                                | dsimp only)

theorem openNegotiate_queuedE {pq : List Instr} {s : State} {hdr : QmpHdr} {versions tag : Word} {flags : Byte} {chunkMs : BitVec 16}
    {ra} {rb rc} (hk : Queued pq s) (he : openNegotiate s hdr versions tag flags chunkMs = (ra, rb, rc)) :
    Queued pq rc := by
  have := openNegotiate_queued (pq := pq) s hdr versions tag flags chunkMs hk
  rw [he] at this; exact this

theorem closeNegotiate_queued {pq : List Instr} (s : State) (hdr : QmpHdr) (hk : Queued pq s) : Queued pq (closeNegotiate s hdr).2.2 := by
  unfold closeNegotiate
  repeat' (with_reducible first | exact hk | apply dropSession_queued | apply setQmp_queued | apply queued_ite
                                | fail_if_no_progress refine queued_mk (queued_parts ?_) | split)

theorem closeNegotiate_queuedE {pq : List Instr} {s : State} {hdr : QmpHdr} {ra} {rb rc} (hk : Queued pq s) (he : closeNegotiate s hdr
    = (ra, rb, rc)) :
    Queued pq rc := by
  have := closeNegotiate_queued (pq := pq) s hdr hk
  rw [he] at this; exact this

theorem runPlain_queued {pq : List Instr} (s : State) (hdr : QmpHdr) (b : QmpBody) (hk : Queued pq s) :
    Queued pq (runPlain s hdr b).2.2 := by
  unfold runPlain
  split
  · exact hk
  · cases b with
    | esbGet => exact touchEstimator_queued s hk
    | logRead start count => exact logReadBody_queued s start count hk
    | lastwordsRead start count => dsimp only; split <;> exact hk
    | negotiate v t f m =>
      dsimp only
      split
      · exact closeNegotiate_queued s hdr hk
      · exact openNegotiate_queued s hdr v t f m hk
    | negotiateClose => exact closeNegotiate_queued s hdr hk
    | _ => exact hk

theorem runPlain_queuedE {pq : List Instr} {s : State} {hdr : QmpHdr} {b : QmpBody} {ra} {rb rc} (hk : Queued pq s) (he : runPlain s
    hdr b = (ra, rb, rc)) :
    Queued pq rc := by
  have := runPlain_queued (pq := pq) s hdr b hk
  rw [he] at this; exact this

theorem restoreBlock_queued {pq : List Instr} (s : State) (blk : List Byte) (hk : Queued pq s) : Queued pq (restoreBlock s blk).2.2 := by
  unfold restoreBlock
  repeat' (with_reducible first | exact hk | apply touchEstimator_queued | apply packChanged_queued | apply commitBlock_queued | split
                                | dsimp only)

theorem restoreBlock_queuedE {pq : List Instr} {s : State} {blk : List Byte} {ra} {rb rc} (hk : Queued pq s) (he : restoreBlock s blk =
    (ra, rb, rc)) :
    Queued pq rc := by
  have := restoreBlock_queued (pq := pq) s blk hk
  rw [he] at this; exact this

theorem openWindow_queued {pq : List Instr} (s : State) (hk : Queued pq s) : Queued pq (openWindow s) := by
  unfold openWindow
  repeat' (with_reducible first | exact hk | apply setPack_queued | fail_if_no_progress refine queued_mk (queued_parts ?_))

theorem grantWindow_queued {pq : List Instr} (s : State) (hk : Queued pq s) : Queued pq (grantWindow s).2.2 := by
  unfold grantWindow
  extract_lets s1
  have h1 : Queued pq s1 := touchEstimator_queued s hk
  clear_value s1
  repeat' (with_reducible first | exact h1 | split | apply updateCharger_queued | apply openWindow_queued)

theorem grantWindow_queuedE {pq : List Instr} {s : State} {ra} {rb rc} (hk : Queued pq s) (he : grantWindow s = (ra, rb, rc)) :
    Queued pq rc := by
  have := grantWindow_queued (pq := pq) s hk
  rw [he] at this; exact this

theorem shipAnswer_queued {pq : List Instr} (s : State) (hk : Queued pq s) : Queued pq (shipAnswer s).2.2 := by
  unfold shipAnswer
  repeat' (with_reducible first | exact hk | apply touchEstimator_queued | apply enterShip_queued | apply queued_ite | split | dsimp only)

theorem shipAnswer_queuedE {pq : List Instr} {s : State} {ra} {rb rc} (hk : Queued pq s) (he : shipAnswer s = (ra, rb, rc)) :
    Queued pq rc := by
  have := shipAnswer_queued (pq := pq) s hk
  rw [he] at this; exact this

theorem clearLatches_queued {pq : List Instr} (s : State) (hk : Queued pq s) : Queued pq (clearLatches s).2.2 := by
  unfold clearLatches
  repeat' (with_reducible first | exact hk | apply queued_ite | fail_if_no_progress refine queued_mk (queued_parts ?_) | split)

theorem clearLatches_queuedE {pq : List Instr} {s : State} {ra} {rb rc} (hk : Queued pq s) (he : clearLatches s = (ra, rb, rc)) :
    Queued pq rc := by
  have := clearLatches_queued (pq := pq) s hk
  rw [he] at this; exact this

theorem clearTripLatch_queued {pq : List Instr} (s : State) (hk : Queued pq s) : Queued pq (clearTripLatch s).2.2 := by
  unfold clearTripLatch
  repeat' (with_reducible first | exact hk | apply queued_ite | fail_if_no_progress refine queued_mk (queued_parts ?_) | split)

theorem clearTripLatch_queuedE {pq : List Instr} {s : State} {ra} {rb rc} (hk : Queued pq s) (he : clearTripLatch s = (ra, rb, rc)) :
    Queued pq rc := by
  have := clearTripLatch_queued (pq := pq) s hk
  rw [he] at this; exact this

theorem lockAnswer_queued {pq : List Instr} (s : State) (b : Bool) (hk : Queued pq s) : Queued pq (lockAnswer s b).2.2 := by
  unfold lockAnswer
  repeat' (with_reducible first | exact hk | apply setOwnerLock_queued)

theorem lockAnswer_queuedE {pq : List Instr} {s : State} {b : Bool} {ra} {rb rc} (hk : Queued pq s) (he : lockAnswer s b = (ra, rb,
    rc)) :
    Queued pq rc := by
  have := lockAnswer_queued (pq := pq) s b hk
  rw [he] at this; exact this

theorem selftestAnswer_queued {pq : List Instr} (s : State) (target : Byte) (index : BitVec 16) (hk : Queued pq s) :
    Queued pq (selftestAnswer s target index).2.2 := by
  unfold selftestAnswer
  repeat' (with_reducible first | exact hk | apply queueTest_queued | apply queued_ite
                                | fail_if_no_progress refine queued_mk (queued_parts ?_) | split)

theorem selftestAnswer_queuedE {pq : List Instr} {s : State} {target : Byte} {index : BitVec 16} {ra} {rb rc} (hk : Queued pq s) (he :
    selftestAnswer s target index = (ra, rb, rc)) :
    Queued pq rc := by
  have := selftestAnswer_queued (pq := pq) s target index hk
  rw [he] at this; exact this

theorem ackNotices_queued {pq : List Instr} (s : State) (first last : Word) (hk : Queued pq s) :
    Queued pq (ackNotices s first last).2.2 := by
  unfold ackNotices
  repeat' (with_reducible first | exact hk | apply clearRollback_queued | apply queued_ite
                                | fail_if_no_progress refine queued_mk (queued_parts ?_) | split)

theorem ackNotices_queuedE {pq : List Instr} {s : State} {first last : Word} {ra} {rb rc} (hk : Queued pq s) (he : ackNotices s first
    last = (ra, rb, rc)) :
    Queued pq rc := by
  have := ackNotices_queued (pq := pq) s first last hk
  rw [he] at this; exact this

theorem activateAnswer_queued {pq : List Instr} (s : State) (pkg : Word) (flags : Byte) (hk : Queued pq s) :
    Queued pq (activateAnswer s pkg flags).2.2 := by
  unfold activateAnswer
  repeat' (with_reducible first | exact hk | apply activatePackage_queued | apply setFw_queued | apply sendActivate_queued
                                | refine activatePackage_queuedE ?_ (by assumption) | apply queued_ite
                                | fail_if_no_progress refine queued_mk (queued_parts ?_) | split | dsimp only)

theorem activateAnswer_queuedE {pq : List Instr} {s : State} {pkg : Word} {flags : Byte} {ra} {rb rc} (hk : Queued pq s) (he :
    activateAnswer s pkg flags = (ra, rb, rc)) :
    Queued pq rc := by
  have := activateAnswer_queued (pq := pq) s pkg flags hk
  rw [he] at this; exact this

theorem effectOf_queued {pq : List Instr} (s : State) (hdr : QmpHdr) (b : QmpBody) (hk : Queued pq s) :
    Queued pq (effectOf s hdr b).2.2 := by
  cases b with
  | esbRestore blk => exact restoreBlock_queued s blk hk
  | grantRest => exact grantWindow_queued s hk
  | fwChunk pkg off total crc rsv data => exact fwChunkAnswer_queued s _ _ hk
  | fwActivate pkg flags => exact activateAnswer_queued s pkg flags hk
  | fwLockSet => exact lockAnswer_queued s true hk
  | fwLockClear =>
    unfold effectOf
    dsimp only
    split
    · exact lockAnswer_queued s false hk
    · exact hk
  | selftest target index => exact selftestAnswer_queued s target index hk
  | debugChallenge => exact giveChallenge_queued s hk
  | debugResponse sig verifies => exact takeResponse_queued s hdr.carrier verifies hk
  | shipMode => exact shipAnswer_queued s hk
  | clearRailLatch => exact clearLatches_queued s hk
  | clearTrip => exact clearTripLatch_queued s hk
  | noticeAck first last => exact ackNotices_queued s first last hk
  | _ => exact hk

theorem effectOf_queuedE {pq : List Instr} {s : State} {hdr : QmpHdr} {b : QmpBody} {ra} {rb rc} (hk : Queued pq s) (he : effectOf s
    hdr b = (ra, rb, rc)) :
    Queued pq rc := by
  have := effectOf_queued (pq := pq) s hdr b hk
  rw [he] at this; exact this

theorem runEffect_queued {pq : List Instr} (s : State) (hdr : QmpHdr) (b : QmpBody) (hk : Queued pq s) :
    Queued pq (runEffect s hdr b).2.2 := by
  unfold runEffect
  repeat' (with_reducible first | exact hk | apply effectOf_queued | refine effectOf_queuedE ?_ (by assumption) | split)

theorem runEffect_queuedE {pq : List Instr} {s : State} {hdr : QmpHdr} {b : QmpBody} {ra} {rb rc} (hk : Queued pq s) (he : runEffect s
    hdr b = (ra, rb, rc)) :
    Queued pq rc := by
  have := runEffect_queued (pq := pq) s hdr b hk
  rw [he] at this; exact this

theorem copyBoot_queued {pq : List Instr} (s : State) (half : Bool) (h : FwHeader) (verifies : Bool) (hk : Queued pq s) :
    Queued pq (copyBoot s half h verifies) := by
  unfold copyBoot
  repeat' (with_reducible first | exact hk | assumption | apply cfEraseRange_queued | apply cfPut_queued | apply setFw_queued
                                | apply selectBoot_queued | apply queued_ite | refine queued_foldl ?_ _ ?_ | intro _ _ _)

theorem restartKept_queued {pq : List Instr} (s : State) (hk : Queued pq s) : Queued pq (restartKept s) := by
  unfold restartKept
  repeat' (with_reducible first | exact hk | apply bootSteps_queued | apply dataPathReset_queued)

theorem crocusRestart_queued {pq : List Instr} (s : State) (hk : Queued pq s) : Queued pq (crocusRestart s) := by
  unfold crocusRestart
  repeat' (with_reducible first | exact hk | apply copyBoot_queued | apply restartKept_queued | apply queued_ite | split)

theorem resequenceCleared_queued {pq : List Instr} (s : State) (cleared : Nat) (hk : Queued pq s) :
    Queued pq (resequenceCleared s cleared) := by
  unfold resequenceCleared
  repeat' (with_reducible first | exact hk | apply tryStart_queued | apply resumeBoot_queued | apply beginSequence_queued
                                | apply groupBack_queued | apply queued_ite | fail_if_no_progress refine queued_mk (queued_parts ?_)
                                | split | dsimp only)

theorem afterAnswer_queued {pq : List Instr} (s : State) (b : QmpBody) (st : QmpStatus) (body : List Byte) (hk : Queued pq s) :
    Queued pq (afterAnswer s b st body) := by
  unfold afterAnswer
  repeat' (with_reducible first | exact hk | apply crocusRestart_queued | apply triggerSave_queued | apply resequenceCleared_queued
                                | apply tryStart_queued | apply queued_ite | fail_if_no_progress refine queued_mk (queued_parts ?_) | split)

theorem consume_queued {pq : List Instr} (s : State) (hdr : QmpHdr) (op : BitVec 16) (st : QmpStatus) (body : List Byte) (hk : Queued
    pq s) :
    Queued pq (consume s hdr op st body) := hk

theorem consumeAon_queued {pq : List Instr} (s : State) (hdr : QmpHdr) (op : BitVec 16) (st : QmpStatus) (body : List Byte) (hk :
    Queued pq s) :
    Queued pq (consumeAon s hdr op st body) := by
  unfold consumeAon
  repeat' (with_reducible first | exact hk | apply setQmp_queued | apply modSession_queued | apply queued_ite
                                | fail_if_no_progress refine queued_mk (queued_parts ?_) | split | dsimp only)

theorem executeNext_queued {pq : List Instr} (s : State) (hdr : QmpHdr) (b : QmpBody) (hk : Queued pq s) :
    Queued pq (executeNext s hdr b) := by
  unfold executeNext
  repeat' (with_reducible first | exact hk | apply runEffect_queued | apply setFw_queued | apply afterAnswer_queued
                                | apply respond_queued | apply consume_queued | refine runEffect_queuedE ?_ (by assumption)
                                | apply queued_ite)

theorem sequenced_queued {pq : List Instr} (s : State) (hdr : QmpHdr) (b : QmpBody) (x : Session) (hk : Queued pq s) :
    Queued pq (sequenced s hdr b x) := by
  unfold sequenced
  repeat' (with_reducible first | exact hk | apply hold_queued | apply respond_queued | apply executeNext_queued | apply queued_ite | split)

theorem sequencedAon_queued {pq : List Instr} (s : State) (hdr : QmpHdr) (b : QmpBody) (next : Word) (hk : Queued pq s) :
    Queued pq (sequencedAon s hdr b next) := by
  unfold sequencedAon
  repeat' (with_reducible first | exact hk | apply runEffect_queued | apply afterAnswer_queued | apply respond_queued
                                | apply consumeAon_queued | refine runEffect_queuedE ?_ (by assumption) | apply queued_ite | split)

theorem answerPlain_queued {pq : List Instr} (s : State) (hdr : QmpHdr) (b : QmpBody) (hk : Queued pq s) :
    Queued pq (answerPlain s hdr b) := by
  unfold answerPlain
  repeat' (with_reducible first | exact hk | apply runPlain_queued | apply respond_queued)

theorem inSession_queued {pq : List Instr} (s : State) (hdr : QmpHdr) (b : QmpBody) (hk : Queued pq s) :
    Queued pq (inSession s hdr b) := by
  unfold inSession
  repeat' (with_reducible first | exact hk | apply modSession_queued | apply respond_queued | apply answerPlain_queued
                                | apply sequencedAon_queued | apply sequenced_queued | apply queued_ite
                                | fail_if_no_progress refine queued_mk (queued_parts ?_) | split)

theorem admitRequest_queued {pq : List Instr} (s : State) (hdr : QmpHdr) (b : QmpBody) (hk : Queued pq s) :
    Queued pq (admitRequest s hdr b) := by
  unfold admitRequest
  repeat' (with_reducible first | exact hk | apply hold_queued | apply respond_queued | apply answerPlain_queued
                                | apply inSession_queued | apply queued_ite | fail_if_no_progress refine queued_mk (queued_parts ?_)
                                | split)

theorem receiveOp_queued {pq : List Instr} (s : State) (hdr : QmpHdr) (op : BitVec 16) (b : Option QmpBody) (hk : Queued pq s) :
    Queued pq (receiveOp s hdr op b) := by
  unfold receiveOp
  repeat' (with_reducible first | exact hk | apply emit_queued | apply respond_queued | apply admitRequest_queued | apply queued_ite
                                | split)

theorem receive_queued {pq : List Instr} (s : State) (hdr : QmpHdr) (b : QmpBody) (hk : Queued pq s) : Queued pq (receive s hdr b) := by
  unfold receive
  repeat' (with_reducible first | exact hk | apply receiveOp_queued)

theorem runHeld_queued {pq : List Instr} (s : State) (hk : Queued pq s) : Queued pq (runHeld s) := by
  unfold runHeld
  repeat' (with_reducible first | exact hk | assumption | apply admitRequest_queued | apply setQmp_queued | apply queued_ite
                                | refine queued_foldl ?_ _ ?_ | intro _ _ _)

theorem finishActivate_queued {pq : List Instr} (s : State) (hk : Queued pq s) : Queued pq (finishActivate s) := by
  unfold finishActivate
  repeat' (with_reducible first | exact hk | apply setFw_queued | apply runHeld_queued | apply respond_queued | apply consume_queued
                                | fail_if_no_progress refine queued_mk (queued_parts ?_) | split)

/-! ## Machine/BusOps.lean -/

theorem setLb_queued {pq : List Instr} (s : State) (f : LocalBus → LocalBus) (hk : Queued pq s) : Queued pq (setLb s f) := hk

theorem afterClear_queued {pq : List Instr} (s : State) (hk : Queued pq s) : Queued pq (afterClear s) := hk

theorem ignoreRemote_queued {pq : List Instr} (s : State) (hk : Queued pq s) : Queued pq (ignoreRemote s) := by
  unfold ignoreRemote
  repeat' (with_reducible first | exact hk | assumption | apply ignoreSite_queued | apply queued_ite | refine queued_foldl ?_ _ ?_
                                | intro _ _ _)

theorem localStuck_queued {pq : List Instr} (s : State) (hk : Queued pq s) : Queued pq (localStuck s) := by
  unfold localStuck
  repeat' (with_reducible first | exact hk | apply setLb_queued | apply raise_queued | apply updateCharger_queued
                                | apply identityLost_queued | apply ignoreRemote_queued | apply finishSheet_queued | apply queued_ite
                                | fail_if_no_progress refine queued_mk (queued_parts ?_) | split)

theorem smbusStuck_queued {pq : List Instr} (s : State) (scl : Bool) (hk : Queued pq s) : Queued pq (smbusStuck s scl) := by
  unfold smbusStuck
  repeat' (with_reducible first | exact hk | apply setSmb_queued | apply logEvent_queued | apply raise_queued | apply queued_ite
                                | fail_if_no_progress refine queued_mk (queued_parts ?_) | split)

theorem localCleared_queued {pq : List Instr} (s : State) (hk : Queued pq s) : Queued pq (localCleared s) := by
  unfold localCleared
  repeat' (with_reducible first | exact hk | apply raise_queued | apply afterClear_queued | apply setLb_queued)

theorem smbusCleared_queued {pq : List Instr} (s : State) (hk : Queued pq s) : Queued pq (smbusCleared s) := by
  unfold smbusCleared
  repeat' (with_reducible first | exact hk | apply setSmb_queued | apply sendCurrent_queued | apply sendQueued_queued | apply queued_ite)

theorem clearLocal_queued {pq : List Instr} (s : State) (c : Option ClearOutcome) (hk : Queued pq s) : Queued pq (clearLocal s c) := by
  unfold clearLocal
  split
  · exact hk
  · extract_lets t
    have h : Queued pq t := setLb_queued _ _ hk
    clear_value t
    split
    · exact localCleared_queued _ h
    · exact afterClear_queued _ h
    · exact h
    · exact localStuck_queued _ h

theorem clearSmbus_queued {pq : List Instr} (s : State) (c : Option ClearOutcome) (hk : Queued pq s) : Queued pq (clearSmbus s c) := by
  unfold clearSmbus
  repeat' (with_reducible first | exact hk | apply setSmb_queued | apply smbusCleared_queued | apply smbusStuck_queued
                                | apply queued_ite | fail_if_no_progress refine queued_mk (queued_parts ?_) | split)

/-! ## Machine/PersistOps.lean -/

theorem addHeat_queued {pq : List Instr} (s : State) (hk : Queued pq s) : Queued pq (addHeat s) := hk

theorem halveHeat_queued {pq : List Instr} (s : State) (hk : Queued pq s) : Queued pq (halveHeat s) := hk

theorem gainWear_queued {pq : List Instr} (s : State) (c : Settings) (hk : Queued pq s) : Queued pq (gainWear s c) := hk

theorem stepWear_queued {pq : List Instr} (s : State) (c : Settings) (hk : Queued pq s) : Queued pq (stepWear s c) := by
  unfold stepWear
  repeat' (with_reducible first | exact hk | apply raise_queued | apply queued_ite | fail_if_no_progress refine queued_mk (queued_parts ?_))

theorem stepCeil_queued {pq : List Instr} (s : State) (c : Settings) (hk : Queued pq s) : Queued pq (stepCeil s c) := hk

theorem turnWindows_queued {pq : List Instr} (s : State) (hk : Queued pq s) : Queued pq (turnWindows s) := hk

theorem loopUpdate_queued {pq : List Instr} (s : State) (c : Settings) (hk : Queued pq s) : Queued pq (loopUpdate s c) := by
  unfold loopUpdate
  repeat' (with_reducible first | exact hk | apply updateCeiling_queued | apply gainWear_queued | apply addHeat_queued
                                | apply turnWindows_queued | apply stepWear_queued | apply stepCeil_queued | apply evalPsub_queued
                                | apply queued_ite | fail_if_no_progress refine queued_mk (queued_parts ?_) | split)

theorem rowsFor_queued {pq : List Instr} (s : State) (c : Settings) (hk : Queued pq s) : Queued pq (rowsFor s c) := by
  unfold rowsFor
  repeat' (with_reducible first | exact hk | apply ensureRows_queued)

theorem putInFlight_queued {pq : List Instr} (s : State) (c : Settings) (g : Nat) (seqs : List Nat) (rows : List (Nat × Nat))
    (hk : Queued pq s) :
    Queued pq (putInFlight s c g seqs rows) := by
  unfold putInFlight
  repeat' (with_reducible first | exact hk | apply queued_ite | fail_if_no_progress refine queued_mk (queued_parts ?_) | split)

theorem issueFlush_queued {pq : List Instr} (s : State) (c : Settings) (ch : FlashCh) (g : Nat) (errs : List (Nat × EccOutcome))
    (hk : Queued pq s) : Queued pq (issueFlush s c ch g errs) := by
  unfold issueFlush
  extract_lets s1
  have h1 : Queued pq s1 := rowsFor_queued s c hk
  clear_value s1
  split
  · exact h1
  · split
    · exact h1
    · split
      · exact h1
      · rename_i he
        exact putInFlight_queued _ _ _ _ _ (chargeWear_queued _ _ (placeOn_queuedE (eccEffects_queued _ _ _ (flushAccess_queued _ _ h1)) he))

theorem flushOn_queued {pq : List Instr} (s : State) (ch : FlashCh) (errs : List (Nat × EccOutcome)) (hk : Queued pq s) :
    Queued pq (flushOn s ch errs) := by
  unfold flushOn
  repeat' (with_reducible first | exact hk | apply issueFlush_queued | apply queued_ite
                                | fail_if_no_progress refine queued_mk (queued_parts ?_) | split)


/-! ## Machine/Activation.lean -/

theorem packageWhole_queued {pq : List Instr} (s : State) (g : Staging) (h : FwHeader) (hk : Queued pq s) :
    Queued pq (packageWhole s g h) := by
  unfold packageWhole
  repeat' (with_reducible first | exact hk | apply setFw_queued | apply setImage_queued | apply checkReport_queued
                                | apply sendRelay_queued | apply signalAll_queued | apply setOwn_queued)

theorem packageBad_queued {pq : List Instr} (s : State) (svn : Bool) (hk : Queued pq s) : Queued pq (packageBad s svn) := by
  unfold packageBad
  repeat' (with_reducible first | exact hk | apply setFw_queued | apply setImage_queued | apply sendStatus_queued | apply refuseFw_queued
                                | apply setOwn_queued | apply queued_ite)

theorem relayVerified_queued {pq : List Instr} (s : State) (ok : Bool) (hk : Queued pq s) : Queued pq (relayVerified s ok) := by
  unfold relayVerified
  repeat' (with_reducible first | exact hk | apply sendRelay_queued | apply setFw_queued | apply queued_ite
                                | fail_if_no_progress refine queued_mk (queued_parts ?_) | split)

theorem execPackageVerifyComplete_queued {pq : List Instr} (signatureOk digestOk : Bool) (s : State) (hk : Queued pq s) :
    QueuedR pq (execPackageVerifyComplete signatureOk digestOk s) := by
  unfold execPackageVerifyComplete
  repeat' (with_reducible first | exact hk | refine queuedR_next ?_ | apply relayVerified_queued | apply packageBad_queued
                                | apply packageWhole_queued | apply queued_ite | split)

theorem execBankLoadComplete_queued {pq : List Instr} (s : State) (hk : Queued pq s) : QueuedR pq (execBankLoadComplete s) := by
  unfold execBankLoadComplete
  repeat' (with_reducible first | exact hk | refine queuedR_next ?_ | apply setFw_queued | apply queued_ite)

theorem switchBank_queued {pq : List Instr} (s : State) (e : EngineId) (hk : Queued pq s) : Queued pq (switchBank s e) := hk

theorem execEngineSwitch_queued {pq : List Instr} (accepted : Bool) (s : State) (hk : Queued pq s) :
    QueuedR pq (execEngineSwitch accepted s) := by
  unfold execEngineSwitch
  repeat' (with_reducible first | exact hk | refine queuedR_next ?_ | apply startRevert_queued | apply switchBank_queued
                                | apply finishActivate_queued | apply finishRevert_queued | apply queued_ite | split)

theorem beginProbation_queued {pq : List Instr} (s : State) (h : FwHeader) (hk : Queued pq s) : Queued pq (beginProbation s h) := by
  unfold beginProbation
  repeat' (with_reducible first | exact hk | apply setFw_queued | apply signalAll_queued | apply raise_queued | apply setOwn_queued
                                | apply sendActivate_queued | apply queued_ite)

theorem execMastheadHandoverComplete_queued {pq : List Instr} (accepted : Bool) (s : State) (hk : Queued pq s) :
    QueuedR pq (execMastheadHandoverComplete accepted s) := by
  unfold execMastheadHandoverComplete
  repeat' (with_reducible first | exact hk | refine queuedR_next ?_ | apply checkChainDone_queued | apply finishActivate_queued
                                | apply beginProbation_queued | apply startRevert_queued | apply queued_ite | split)

theorem commitImage_queued {pq : List Instr} (s : State) (h : FwHeader) (hk : Queued pq s) : Queued pq (commitImage s h) := by
  unfold commitImage
  repeat' (with_reducible first | exact hk | apply selectHalf_queued | apply setFw_queued | apply renewSelector_queued
                                | apply setOwn_queued | apply queued_ite | fail_if_no_progress refine queued_mk (queued_parts ?_))

theorem execProbationEnd_queued {pq : List Instr} (s : State) (hk : Queued pq s) : QueuedR pq (execProbationEnd s) := by
  unfold execProbationEnd
  repeat' (with_reducible first | exact hk | refine queuedR_next ?_ | apply commitImage_queued | apply raise_queued | apply queued_ite
                                | split)

theorem execBootCopyComplete_queued {pq : List Instr} (verifies : Bool) (s : State) (hk : Queued pq s) :
    QueuedR pq (execBootCopyComplete verifies s) := by
  unfold execBootCopyComplete
  repeat' (with_reducible first | exact hk | refine queuedR_next ?_ | apply copyBoot_queued | apply raise_queued | apply setFw_queued
                                | apply queued_ite | fail_if_no_progress refine queued_mk (queued_parts ?_) | split)

/-! ## Machine/Button.lean -/

theorem execMrN_queued {pq : List Instr} (s : State) (hk : Queued pq s) : QueuedR pq (execMrN s) := by
  unfold execMrN
  repeat' (with_reducible first | exact hk | refine queuedR_next ?_ | apply manualReset_queued | apply queued_ite
                                | fail_if_no_progress refine queued_mk (queued_parts ?_))

theorem execMrNRelease_queued {pq : List Instr} (localBus smbus : Option ClearOutcome) (s : State) (hk : Queued pq s) :
    QueuedR pq (execMrNRelease localBus smbus s) := by
  unfold execMrNRelease
  repeat' (with_reducible first | exact hk | refine queuedR_next ?_ | apply clearSmbus_queued | apply clearLocal_queued
                                | apply resumeBoot_queued | apply tryStart_queued | apply queued_ite
                                | fail_if_no_progress refine queued_mk (queued_parts ?_) | split)

theorem execPbPressStart_queued {pq : List Instr} (s : State) (hk : Queued pq s) : QueuedR pq (execPbPressStart s) := by
  unfold execPbPressStart
  repeat' (with_reducible first | exact hk | refine queuedR_next ?_ | apply queued_ite
                                | fail_if_no_progress refine queued_mk (queued_parts ?_))

theorem execPbRelease_queued {pq : List Instr} (duration : Nat) (s : State) (hk : Queued pq s) :
    QueuedR pq (execPbRelease duration s) := by
  unfold execPbRelease
  repeat' (with_reducible first | exact hk | refine queuedR_next ?_ | apply pressReleased_queued | apply queued_ite
                                | fail_if_no_progress refine queued_mk (queued_parts ?_))

theorem execPbForcedMark_queued {pq : List Instr} (s : State) (hk : Queued pq s) : QueuedR pq (execPbForcedMark s) := by
  unfold execPbForcedMark
  repeat' (with_reducible first | exact hk | refine queuedR_next ?_ | apply pressForced_queued | apply queued_ite
                                | fail_if_no_progress refine queued_mk (queued_parts ?_))

theorem execPbHardOff_queued {pq : List Instr} (s : State) (hk : Queued pq s) : QueuedR pq (execPbHardOff s) := by
  unfold execPbHardOff
  repeat' (with_reducible first | exact hk | refine queuedR_next ?_ | apply pressHard_queued | apply queued_ite
                                | fail_if_no_progress refine queued_mk (queued_parts ?_))

/-! ## Machine/Recorder.lean -/

theorem reportDrops_queued {pq : List Instr} (s : State) (hk : Queued pq s) : Queued pq (reportDrops s) := by
  unfold reportDrops
  repeat' (with_reducible first | exact hk | apply raise_queued | apply queued_ite
                                | fail_if_no_progress refine queued_mk (queued_parts ?_) | split)

theorem execLogPageProgram_queued {pq : List Instr} (pass0 pass1 : Bool) (s : State) (hk : Queued pq s) :
    QueuedR pq (execLogPageProgram pass0 pass1 s) := by
  unfold execLogPageProgram
  repeat' (with_reducible first | exact hk | refine queuedR_next ?_ | apply mirrorFails_queued | apply reportDrops_queued
                                | apply programFull_queued | apply queued_ite | fail_if_no_progress refine queued_mk (queued_parts ?_)
                                | split)

theorem execSuppressedSweep_queued {pq : List Instr} (s : State) (hk : Queued pq s) : QueuedR pq (execSuppressedSweep s) := by
  unfold execSuppressedSweep
  repeat' (with_reducible first | exact hk | refine queuedR_next ?_ | apply sweepSuppressed_queued | apply queued_ite)

theorem execOptimeCheckpoint_queued {pq : List Instr} (s : State) (hk : Queued pq s) : QueuedR pq (execOptimeCheckpoint s) := by
  unfold execOptimeCheckpoint
  repeat' (with_reducible first | exact hk | refine queuedR_next ?_ | apply writeCheckpoint_queued | apply queued_ite)

theorem execLogSel_queued {pq : List Instr} (link : Link) (recno : Word) (s : State) (hk : Queued pq s) :
    QueuedR pq (execLogSel link recno s) := by
  unfold execLogSel
  repeat' (with_reducible first | exact hk | refine queuedR_next ?_ | apply setFn_queued | apply queued_ite)

theorem readLog_queued {pq : List Instr} (s : State) (ok0 ok1 : Bool) (hk : Queued pq s) : Queued pq (readLog s ok0 ok1) := by
  unfold readLog
  repeat' (with_reducible first | exact hk | apply mirrorFails_queued | apply queued_ite | split)

theorem execLogFetchComplete_queued {pq : List Instr} (link : Link) (ok0 ok1 : Bool) (s : State) (hk : Queued pq s) :
    QueuedR pq (execLogFetchComplete link ok0 ok1 s) := by
  unfold execLogFetchComplete
  refine queuedR_next (queued_ite ?_ hk)
  extract_lets s1
  have h1 : Queued pq s1 := by
    show Queued pq (match selectedRecord s link with | some r => _ | none => _)
    split
    · exact queued_ite (readLog_queued s ok0 ok1 hk) hk
    · exact hk
  clear_value s1
  split <;> exact setFn_queued _ _ _ h1

/-! ## Machine/Clocks.lean -/

theorem setHoldflag_queued {pq : List Instr} (s : State) (v : Bool) (hk : Queued pq s) : Queued pq (setHoldflag s v) := hk

theorem execHoldflag_queued {pq : List Instr} (link : Link) (value : Bool) (s : State) (hk : Queued pq s) :
    QueuedR pq (execHoldflag link value s) := by
  unfold execHoldflag
  repeat' (with_reducible first | exact hk | refine queuedR_next ?_ | apply setHoldflag_queued | apply queued_ite)

theorem execHfSwitchComplete_queued {pq : List Instr} (s : State) (hk : Queued pq s) : QueuedR pq (execHfSwitchComplete s) := by
  unfold execHfSwitchComplete
  repeat' (with_reducible first | exact hk | refine queuedR_next ?_ | apply queued_ite
                                | fail_if_no_progress refine queued_mk (queued_parts ?_))

theorem takeSnapshot_queued {pq : List Instr} (s : State) (l : Link) (hk : Queued pq s) : Queued pq (takeSnapshot s l) := by
  unfold takeSnapshot
  repeat' (with_reducible first | exact hk | apply setFn_queued | apply queued_ite)

theorem releaseSnapshot_queued {pq : List Instr} (s : State) (l : Link) (hk : Queued pq s) : Queued pq (releaseSnapshot s l) := hk

theorem execTake_queued {pq : List Instr} (link : Link) (group : Fin 16) (s : State) (hk : Queued pq s) :
    QueuedR pq (execTake link group s) := by
  unfold execTake
  repeat' (with_reducible first | exact hk | refine queuedR_next ?_ | apply takeSnapshot_queued | apply setFn_queued | apply queued_ite)

theorem execRelease_queued {pq : List Instr} (link : Link) (s : State) (hk : Queued pq s) : QueuedR pq (execRelease link s) := by
  unfold execRelease
  repeat' (with_reducible first | exact hk | refine queuedR_next ?_ | apply releaseSnapshot_queued | apply queued_ite)

theorem execSnapshotExpiry_queued {pq : List Instr} (link : Link) (s : State) (hk : Queued pq s) :
    QueuedR pq (execSnapshotExpiry link s) := by
  unfold execSnapshotExpiry
  repeat' (with_reducible first | exact hk | refine queuedR_next ?_ | apply releaseSnapshot_queued | apply queued_ite)

theorem execFlGenLatch_queued {pq : List Instr} (link : Link) (s : State) (hk : Queued pq s) : QueuedR pq (execFlGenLatch link s) := by
  unfold execFlGenLatch
  repeat' (with_reducible first | exact hk | refine queuedR_next ?_ | apply emit_queued | apply setFn_queued | apply queued_ite)

theorem execPlanInfoLatch_queued {pq : List Instr} (link : Link) (s : State) (hk : Queued pq s) :
    QueuedR pq (execPlanInfoLatch link s) := by
  unfold execPlanInfoLatch
  repeat' (with_reducible first | exact hk | refine queuedR_next ?_ | apply emit_queued | apply setFn_queued | apply queued_ite)

theorem execOptimeLatch_queued {pq : List Instr} (link : Link) (s : State) (hk : Queued pq s) : QueuedR pq (execOptimeLatch link s) := by
  unfold execOptimeLatch
  repeat' (with_reducible first | exact hk | refine queuedR_next ?_ | apply emit_queued | apply setFn_queued | apply queued_ite)

theorem execEsbWindowLatch_queued {pq : List Instr} (link : Link) (endRead : Bool) (s : State) (hk : Queued pq s) :
    QueuedR pq (execEsbWindowLatch link endRead s) := by
  unfold execEsbWindowLatch
  repeat' (with_reducible first | exact hk | refine queuedR_next ?_ | apply touchEstimator_queued | apply setFn_queued
                                | apply emit_queued | apply queued_ite)

theorem execFifoResync_queued {pq : List Instr} (fifo : Nat) (far : Bool) (s : State) (hk : Queued pq s) :
    QueuedR pq (execFifoResync fifo far s) := by
  unfold execFifoResync
  repeat' (with_reducible first | exact hk | refine queuedR_next ?_ | apply queued_ite
                                | fail_if_no_progress refine queued_mk (queued_parts ?_) | split)

/-! ## Machine/CodeFlash.lean -/

theorem romReturn_queued {pq : List Instr} (s : State) (status value : Nat) (hk : Queued pq s) :
    Queued pq (romReturn s status value) := hk

theorem execCfProgram_queued {pq : List Instr} (address : Nat) (data : DWord) (s : State) (hk : Queued pq s) :
    QueuedR pq (execCfProgram address data s) := by
  unfold execCfProgram
  repeat' (with_reducible first | exact hk | refine queuedR_next ?_ | apply romReturn_queued | apply queued_ite
                                | fail_if_no_progress refine queued_mk (queued_parts ?_))

theorem execCfErase_queued {pq : List Instr} (sector : Nat) (s : State) (hk : Queued pq s) : QueuedR pq (execCfErase sector s) := by
  unfold execCfErase
  repeat' (with_reducible first | exact hk | refine queuedR_next ?_ | apply romReturn_queued | apply queued_ite
                                | fail_if_no_progress refine queued_mk (queued_parts ?_))

theorem execCfResume_queued {pq : List Instr} (s : State) (hk : Queued pq s) : QueuedR pq (execCfResume s) := by
  unfold execCfResume
  repeat' (with_reducible first | exact hk | refine queuedR_next ?_ | apply romReturn_queued | apply queued_ite
                                | fail_if_no_progress refine queued_mk (queued_parts ?_) | split)

theorem execCfStatus_queued {pq : List Instr} (s : State) (hk : Queued pq s) : QueuedR pq (execCfStatus s) := by
  unfold execCfStatus
  repeat' (with_reducible first | exact hk | refine queuedR_next ?_ | apply romReturn_queued | apply queued_ite)

theorem execCfOperationComplete_queued {pq : List Instr} (s : State) (hk : Queued pq s) : QueuedR pq (execCfOperationComplete s) := by
  unfold execCfOperationComplete
  repeat' (with_reducible first | exact hk | refine queuedR_next ?_ | apply cfPut_queued | apply programHeld_queued
                                | apply romReturn_queued | apply sectorGone_queued | apply cfEraseSector_queued
                                | fail_if_no_progress refine queued_mk (queued_parts ?_) | split)

theorem execCfBrownout_queued {pq : List Instr} (s : State) (hk : Queued pq s) : QueuedR pq (execCfBrownout s) := by
  unfold execCfBrownout
  repeat' (with_reducible first | exact hk | refine queuedR_next ?_ | apply romReturn_queued | apply cfPowerLoss_queued
                                | apply queued_ite | fail_if_no_progress refine queued_mk (queued_parts ?_))

theorem execCfAccessRefused_queued {pq : List Instr} (s : State) (hk : Queued pq s) : QueuedR pq (execCfAccessRefused s) := by
  unfold execCfAccessRefused
  repeat' (with_reducible first | exact hk | refine queuedR_next ?_ | apply logEvent_queued | apply queued_ite
                                | fail_if_no_progress refine queued_mk (queued_parts ?_))

/-! ## Machine/HostLink.lean -/

theorem takeLinkDown_queued {pq : List Instr} (s : State) (l : Link) (hk : Queued pq s) : Queued pq (takeLinkDown s l) := by
  unfold takeLinkDown
  repeat' (with_reducible first | exact hk | apply linkGone_queued | apply linkReset_queued | apply queued_ite)

theorem execPerstAssert_queued {pq : List Instr} (port : Fin 4) (s : State) (hk : Queued pq s) : QueuedR pq (execPerstAssert port s) := by
  unfold execPerstAssert
  repeat' (with_reducible first | exact hk | refine queuedR_next ?_ | apply takeLinkDown_queued)

theorem execLinkDown_queued {pq : List Instr} (link : Link) (s : State) (hk : Queued pq s) : QueuedR pq (execLinkDown link s) := by
  unfold execLinkDown
  repeat' (with_reducible first | exact hk | refine queuedR_next ?_ | apply takeLinkDown_queued)

theorem execHotReset_queued {pq : List Instr} (link : Link) (s : State) (hk : Queued pq s) : QueuedR pq (execHotReset link s) := by
  unfold execHotReset
  repeat' (with_reducible first | exact hk | refine queuedR_next ?_ | apply takeLinkDown_queued)

theorem execCxlReset_queued {pq : List Instr} (link : Link) (s : State) (hk : Queued pq s) : QueuedR pq (execCxlReset link s) := by
  unfold execCxlReset
  repeat' (with_reducible first | exact hk | refine queuedR_next ?_ | apply rewriteLogs_queued | apply linkReset_queued | apply queued_ite)

theorem execRefclkFault_queued {pq : List Instr} (port : Fin 4) (s : State) (hk : Queued pq s) : QueuedR pq (execRefclkFault port s) := by
  unfold execRefclkFault
  repeat' (with_reducible first | exact hk | refine queuedR_next ?_ | apply takeLinkDown_queued)

theorem degraded_queued {pq : List Instr} (s : State) (l : Link) (hk : Queued pq s) : Queued pq (degraded s l) := by
  unfold degraded
  repeat' (with_reducible first | exact hk | apply queueTest_queued | apply raise_queued | apply queued_ite)

theorem linkBack_queued {pq : List Instr} (s : State) (hk : Queued pq s) : Queued pq (linkBack s) := by
  unfold linkBack
  repeat' (with_reducible first | exact hk | apply endInterval_queued | apply queued_ite)

theorem execLinkTrained_queued {pq : List Instr} (link : Link) (width : Nat) (revision : Fin 3) (s : State) (hk : Queued pq s) :
    QueuedR pq (execLinkTrained link width revision s) := by
  unfold execLinkTrained
  repeat' (with_reducible first | exact hk | refine queuedR_next ?_ | apply trained_queued | apply rewriteLogs_queued
                                | apply linkBack_queued | apply degraded_queued | apply queued_ite
                                | fail_if_no_progress refine queued_mk (queued_parts ?_))

theorem execLinkErrorBurst_queued {pq : List Instr} (link : Link) (s : State) (hk : Queued pq s) :
    QueuedR pq (execLinkErrorBurst link s) := by
  unfold execLinkErrorBurst
  repeat' (with_reducible first | exact hk | refine queuedR_next ?_ | apply queueTest_queued | apply queued_ite)

theorem retireLane_queued {pq : List Instr} (s : State) (l : Link) (width : Nat) (lane : Fin 16) (hk : Queued pq s) :
    Queued pq (retireLane s l width lane) := by
  unfold retireLane
  repeat' (with_reducible first | exact hk | apply raise_queued | apply queued_ite | fail_if_no_progress refine queued_mk (queued_parts ?_))

theorem execLaneMarginTestComplete_queued {pq : List Instr} (link : Link) (failing : List (Fin 16)) (width : Nat) (s : State) (hk :
    Queued pq s) :
    QueuedR pq (execLaneMarginTestComplete link failing width s) := by
  unfold execLaneMarginTestComplete
  repeat' (with_reducible first | exact hk | refine queuedR_next ?_ | assumption | apply endTest_queued | apply countTransient_queued
                                | apply retireLane_queued | apply raise_queued | apply queued_ite | refine queued_foldl ?_ _ ?_
                                | intro _ _ _ | fail_if_no_progress refine queued_mk (queued_parts ?_) | split)

theorem execGpfPhase2_queued {pq : List Instr} (link : Link) (s : State) (hk : Queued pq s) : QueuedR pq (execGpfPhase2 link s) := by
  unfold execGpfPhase2
  repeat' (with_reducible first | exact hk | refine queuedR_next ?_ | apply emit_queued | apply queued_ite)

theorem updateIdle_queued {pq : List Instr} (s : State) (hk : Queued pq s) : Queued pq (updateIdle s) := hk

theorem execLinkL1OrL0pChange_queued {pq : List Instr} (link : Link) (resting : Bool) (s : State) (hk : Queued pq s) :
    QueuedR pq (execLinkL1OrL0pChange link resting s) := by
  unfold execLinkL1OrL0pChange
  repeat' (with_reducible first | exact hk | refine queuedR_next ?_ | apply updateIdle_queued | apply queued_ite
                                | fail_if_no_progress refine queued_mk (queued_parts ?_))

theorem execHdmDecoderCommit_queued {pq : List Instr} (link : Link) (index base size dpaBase ways gran : Nat) (locked : Bool) (s :
    State) (hk : Queued pq s) :
    QueuedR pq (execHdmDecoderCommit link index base size dpaBase ways gran locked s) := by
  unfold execHdmDecoderCommit
  repeat' (with_reducible first | exact hk | refine queuedR_next ?_ | apply queued_ite
                                | fail_if_no_progress refine queued_mk (queued_parts ?_))

/-! ## Machine/ConfigSpace.lean -/

theorem setLink_queued {pq : List Instr} (s : State) (l : Link) (f : HostLink → HostLink) (hk : Queued pq s) :
    Queued pq (setLink s l f) := hk

theorem maskVector_queued {pq : List Instr} (s : State) (l : Link) (v : Fin 8) (on : Bool) (hk : Queued pq s) :
    Queued pq (maskVector s l v on) := by
  unfold maskVector
  repeat' (with_reducible first | exact hk | apply setLink_queued | apply emit_queued | apply queued_ite
                                | fail_if_no_progress refine queued_mk (queued_parts ?_) | split)

theorem writeVector_queued {pq : List Instr} (s : State) (l : Link) (off : Nat) (v : Word) (hk : Queued pq s) :
    Queued pq (writeVector s l off v) := by
  unfold writeVector
  repeat' (with_reducible first | exact hk | apply setLink_queued | apply maskVector_queued | apply queued_ite
                                | fail_if_no_progress refine queued_mk (queued_parts ?_) | split)

theorem writeBeyondWord_queued {pq : List Instr} (s : State) (l : Link) (off : Nat) (v : Word) (hk : Queued pq s) :
    Queued pq (writeBeyondWord s l off v) := by
  unfold writeBeyondWord
  repeat' (with_reducible first | exact hk | apply writeVector_queued | apply setLink_queued | apply queued_ite
                                | fail_if_no_progress refine queued_mk (queued_parts ?_) | split)

theorem writeBeyond_queued {pq : List Instr} (s : State) (l : Link) (off size : Nat) (value : DWord) (hk : Queued pq s) :
    Queued pq (writeBeyond s l off size value) := by
  unfold writeBeyond
  repeat' (with_reducible first | exact hk | apply writeBeyondWord_queued | apply queued_ite | split)

/-! ## Machine/ReqTable.lean -/

theorem shadowWord_queued {pq : List Instr} (s : State) (off : Nat) (val enabled : Word) (hk : Queued pq s) :
    Queued pq (shadowWord s off val enabled) := by
  unfold shadowWord
  repeat' (with_reducible first | exact hk | apply queued_ite | fail_if_no_progress refine queued_mk (queued_parts ?_))

theorem shadowWrite_queued {pq : List Instr} (s : State) (off size : Nat) (value : DWord) (hk : Queued pq s) :
    Queued pq (shadowWrite s off size value) := by
  unfold shadowWrite
  repeat' (with_reducible first | exact hk | apply shadowWord_queued | apply queued_ite)

theorem tableWrite_queued {pq : List Instr} (s : State) (l : Link) (off size : Nat) (value : DWord) (hk : Queued pq s) :
    Queued pq (tableWrite s l off size value) := by
  unfold tableWrite
  repeat' (with_reducible first | exact hk | apply shadowWrite_queued | apply queued_ite
                                | fail_if_no_progress refine queued_mk (queued_parts ?_))

theorem execRtShadowWrite_queued {pq : List Instr} (link : Link) (offset : Nat) (size : Nat) (value : DWord) (s : State) (hk : Queued
    pq s) :
    QueuedR pq (execRtShadowWrite link offset size value s) := by
  unfold execRtShadowWrite
  repeat' (with_reducible first | exact hk | refine queuedR_next ?_ | apply tableWrite_queued | apply queued_ite)

theorem commitTables_queued {pq : List Instr} (s : State) (hk : Queued pq s) : Queued pq (commitTables s) := by
  unfold commitTables
  repeat' (with_reducible first | exact hk | apply retrySlots_queued | fail_if_no_progress refine queued_mk (queued_parts ?_))

theorem commitWrite_queued {pq : List Instr} (s : State) (l : Link) (hk : Queued pq s) : Queued pq (commitWrite s l) := by
  unfold commitWrite
  repeat' (with_reducible first | exact hk | apply commitTables_queued | apply queued_ite
                                | fail_if_no_progress refine queued_mk (queued_parts ?_))

theorem execCommit_queued {pq : List Instr} (link : Link) (s : State) (hk : Queued pq s) : QueuedR pq (execCommit link s) := by
  unfold execCommit
  repeat' (with_reducible first | exact hk | refine queuedR_next ?_ | apply commitWrite_queued)

theorem applyWaiting_queued {pq : List Instr} : ∀ (l : List TableOp) (s : State), Queued pq s → Queued pq (applyWaiting s l)
  | [], _, hk => hk
  | .write _ off size v :: t, s, hk => applyWaiting_queued t _ (shadowWrite_queued s off size v hk)
  | .commit _ :: _, s, hk => commitTables_queued _ hk

theorem execCommitRefillEnd_queued {pq : List Instr} (s : State) (hk : Queued pq s) : QueuedR pq (execCommitRefillEnd s) := by
  unfold execCommitRefillEnd
  repeat' (with_reducible first | exact hk | refine queuedR_next ?_ | apply applyWaiting_queued | apply queued_ite
                                | fail_if_no_progress refine queued_mk (queued_parts ?_))

/-! ## Machine/Energy.lean -/

theorem takeSample_queued {pq : List Instr} (s : State) (milliamps : Int) (millivolts : Nat) (hk : Queued pq s) :
    Queued pq (takeSample s milliamps millivolts) := by
  unfold takeSample
  repeat' (with_reducible first | exact hk | apply integrate_queued | apply setPack_queued | apply queued_ite)

theorem execPackSample_queued {pq : List Instr} (milliamps : Int) (millivolts : Nat) (s : State) (hk : Queued pq s) :
    QueuedR pq (execPackSample milliamps millivolts s) := by
  unfold execPackSample
  repeat' (with_reducible first | exact hk | refine queuedR_next ?_ | apply shipReached_queued | apply taperCheck_queued
                                | apply voltageCheck_queued | apply takeSample_queued | apply queued_ite)

theorem setPackTemp_queued {pq : List Instr} (s : State) (ntc remote : Option Int) (hk : Queued pq s) :
    Queued pq (setPackTemp s ntc remote) := by
  unfold setPackTemp
  repeat' (with_reducible first | exact hk | apply setPack_queued | fail_if_no_progress refine queued_mk (queued_parts ?_) | split)

theorem tempEndsRest_queued {pq : List Instr} (s : State) (hk : Queued pq s) : Queued pq (tempEndsRest s) := by
  unfold tempEndsRest
  repeat' (with_reducible first | exact hk | apply endWindow_queued | apply setPack_queued | apply queued_ite)

theorem execPackTempSample_queued {pq : List Instr} (ntc remote : Option Int) (s : State) (hk : Queued pq s) :
    QueuedR pq (execPackTempSample ntc remote s) := by
  unfold execPackTempSample
  repeat' (with_reducible first | exact hk | refine queuedR_next ?_ | apply setPackTemp_queued | apply settlePack_queued
                                | apply tempEndsRest_queued | apply chargeWindow_queued | apply dischargeWindow_queued | apply queued_ite)

theorem execPackInserted_queued {pq : List Instr} (s : State) (hk : Queued pq s) : QueuedR pq (execPackInserted s) := by
  unfold execPackInserted
  repeat' (with_reducible first | exact hk | refine queuedR_next ?_ | apply settlePack_queued | apply setPack_queued
                                | apply queued_ite | fail_if_no_progress refine queued_mk (queued_parts ?_) | split)

theorem execPackRemoved_queued {pq : List Instr} (s : State) (hk : Queued pq s) : QueuedR pq (execPackRemoved s) := by
  unfold execPackRemoved
  repeat' (with_reducible first | exact hk | refine queuedR_next ?_ | apply setPack_queued | apply failPack_queued
                                | apply settlePack_queued | apply queued_ite)

theorem execPackQualified_queued {pq : List Instr} (s : State) (hk : Queued pq s) : QueuedR pq (execPackQualified s) := by
  unfold execPackQualified
  repeat' (with_reducible first | exact hk | refine queuedR_next ?_ | apply evalPsub_queued | apply updateCharger_queued
                                | apply setPack_queued | apply queued_ite)

theorem execImpedanceMeasure_queued {pq : List Instr} (tenthMilliohm : Nat) (s : State) (hk : Queued pq s) :
    QueuedR pq (execImpedanceMeasure tenthMilliohm s) := by
  unfold execImpedanceMeasure
  repeat' (with_reducible first | exact hk | refine queuedR_next ?_ | apply setPack_queued | apply failPack_queued
                                | apply settlePack_queued | apply queued_ite | fail_if_no_progress refine queued_mk (queued_parts ?_)
                                | split | dsimp only)

theorem execZeroCurrentCheck_queued {pq : List Instr} (offsetMilliamps : Int) (s : State) (hk : Queued pq s) :
    QueuedR pq (execZeroCurrentCheck offsetMilliamps s) := by
  unfold execZeroCurrentCheck
  repeat' (with_reducible first | exact hk | refine queuedR_next ?_ | apply setPack_queued | apply integrateFor_queued
                                | apply failPack_queued | apply settlePack_queued | apply queued_ite
                                | fail_if_no_progress refine queued_mk (queued_parts ?_) | split)

theorem execPackIdRead_queued {pq : List Instr} (first second : Option (List Byte)) (s : State) (hk : Queued pq s) :
    QueuedR pq (execPackIdRead first second s) := by
  unfold execPackIdRead
  repeat' (with_reducible first | exact hk | refine queuedR_next ?_ | apply identityPair_queued | apply queued_ite)

theorem execIdRead_queued {pq : List Instr} (first second : Option (List Byte)) (s : State) (hk : Queued pq s) :
    QueuedR pq (execIdRead first second s) := by
  unfold execIdRead
  repeat' (with_reducible first | exact hk | refine queuedR_next ?_ | apply identityPair_queued | apply touchEstimator_queued
                                | apply queued_ite)

theorem drawTest_queued {pq : List Instr} (s : State) (hk : Queued pq s) : Queued pq (drawTest s) := by
  unfold drawTest
  repeat' (with_reducible first | exact hk | apply setBank_queued | apply queued_ite
                                | fail_if_no_progress refine queued_mk (queued_parts ?_) | split)

theorem execBankSample_queued {pq : List Instr} (millivolts : Nat) (s : State) (hk : Queued pq s) :
    QueuedR pq (execBankSample millivolts s) := by
  unfold execBankSample
  repeat' (with_reducible first | exact hk | refine queuedR_next ?_ | apply drawTest_queued | apply setBank_queued
                                | apply shipDrained_queued | apply updateBank_queued | apply bankReturns_queued
                                | apply bankLoss_queued | apply failBank_queued | apply queued_ite
                                | fail_if_no_progress refine queued_mk (queued_parts ?_) | split)

theorem startCapTest_queued {pq : List Instr} (s : State) (hk : Queued pq s) : Queued pq (startCapTest s) := by
  unfold startCapTest
  repeat' (with_reducible first | exact hk | apply setPack_queued | apply updateBank_queued | apply setBank_queued | apply queued_ite
                                | fail_if_no_progress refine queued_mk (queued_parts ?_) | split)

theorem execCapTest_queued {pq : List Instr} (s : State) (hk : Queued pq s) : QueuedR pq (execCapTest s) := by
  unfold execCapTest
  repeat' (with_reducible first | exact hk | refine queuedR_next ?_ | apply startCapTest_queued)

theorem capacitance_queued {pq : List Instr} (s : State) (testI drop : Nat) (hk : Queued pq s) :
    Queued pq (capacitance s testI drop).2 := by
  unfold capacitance
  repeat' (with_reducible first | exact hk | apply queued_ite | fail_if_no_progress refine queued_mk (queued_parts ?_) | split)

theorem capacitance_queuedE {pq : List Instr} {s : State} {testI drop : Nat} {ra} {rb} (hk : Queued pq s) (he : capacitance s testI
    drop = (ra, rb)) :
    Queued pq rb := by
  have := capacitance_queued (pq := pq) s testI drop hk
  rw [he] at this; exact this

theorem capResult_queued {pq : List Instr} (s : State) (b : BankSet) (leak drop : Nat) (hk : Queued pq s) :
    Queued pq (capResult s b leak drop) := by
  unfold capResult
  repeat' (with_reducible first | exact hk | apply capacitance_queued | apply setBank_queued | apply failBank_queued
                                | apply updateBank_queued | apply bankReturns_queued | apply bankLoss_queued
                                | refine capacitance_queuedE ?_ (by assumption) | apply queued_ite)

theorem execCapTestComplete_queued {pq : List Instr} (leakMillivolts dropMillivolts : Nat) (s : State) (hk : Queued pq s) :
    QueuedR pq (execCapTestComplete leakMillivolts dropMillivolts s) := by
  unfold execCapTestComplete
  repeat' (with_reducible first | exact hk | refine queuedR_next ?_ | apply capResult_queued | apply queued_ite | split)

theorem chargerSilent_queued {pq : List Instr} (s : State) (hk : Queued pq s) : Queued pq (chargerSilent s) := by
  unfold chargerSilent
  repeat' (with_reducible first | exact hk | apply updateCharger_queued | apply logEvent_queued
                                | fail_if_no_progress refine queued_mk (queued_parts ?_))

theorem chargerStatus_queued {pq : List Instr} (s : State) (w : BitVec 16) (hk : Queued pq s) : Queued pq (chargerStatus s w) := by
  unfold chargerStatus
  repeat' (with_reducible first | exact hk | apply failPack_queued | apply settlePack_queued | apply terminateCharge_queued
                                | apply queued_ite | fail_if_no_progress refine queued_mk (queued_parts ?_))

theorem pollCharger_queued {pq : List Instr} (s : State) (status : Option (BitVec 16)) (hk : Queued pq s) :
    Queued pq (pollCharger s status) := by
  unfold pollCharger
  repeat' (with_reducible first | exact hk | apply chargerStatus_queued | apply chargerSilent_queued | apply queued_ite
                                | fail_if_no_progress refine queued_mk (queued_parts ?_) | split)

theorem execChargerStatusPoll_queued {pq : List Instr} (status : Option (BitVec 16)) (s : State) (hk : Queued pq s) :
    QueuedR pq (execChargerStatusPoll status s) := by
  unfold execChargerStatusPoll
  repeat' (with_reducible first | exact hk | refine queuedR_next ?_ | apply pollCharger_queued)

theorem execChargeHeld_queued {pq : List Instr} (s : State) (hk : Queued pq s) : QueuedR pq (execChargeHeld s) := by
  unfold execChargeHeld
  repeat' (with_reducible first | exact hk | refine queuedR_next ?_ | apply raise_queued | apply queued_ite
                                | fail_if_no_progress refine queued_mk (queued_parts ?_))

theorem execRestReference_queued {pq : List Instr} (millivolts : Nat) (s : State) (hk : Queued pq s) :
    QueuedR pq (execRestReference millivolts s) := by
  unfold execRestReference
  repeat' (with_reducible first | exact hk | refine queuedR_next ?_ | apply voltageReference_queued | apply setPack_queued
                                | apply endWindow_queued | apply queued_ite | fail_if_no_progress refine queued_mk (queued_parts ?_)
                                | split)

theorem execStartupReading_queued {pq : List Instr} (millivolts : Nat) (s : State) (hk : Queued pq s) :
    QueuedR pq (execStartupReading millivolts s) := by
  unfold execStartupReading
  repeat' (with_reducible first | exact hk | refine queuedR_next ?_ | apply updateCharger_queued | apply voltageReference_queued
                                | apply queued_ite | fail_if_no_progress refine queued_mk (queued_parts ?_) | split)

theorem execRestDue_queued {pq : List Instr} (s : State) (hk : Queued pq s) : QueuedR pq (execRestDue s) := by
  unfold execRestDue
  repeat' (with_reducible first | exact hk | refine queuedR_next ?_ | apply blockChanged_queued | apply setPack_queued
                                | apply raise_queued | apply queued_ite)

theorem execRestRequest_queued {pq : List Instr} (s : State) (hk : Queued pq s) : QueuedR pq (execRestRequest s) := by
  unfold execRestRequest
  repeat' (with_reducible first | exact hk | refine queuedR_next ?_ | apply raise_queued | apply setPack_queued | apply queued_ite)

theorem execRestWindowTimeout_queued {pq : List Instr} (s : State) (hk : Queued pq s) : QueuedR pq (execRestWindowTimeout s) := by
  unfold execRestWindowTimeout
  repeat' (with_reducible first | exact hk | refine queuedR_next ?_ | apply endWindow_queued | apply queued_ite)

theorem execEsbChanged_queued {pq : List Instr} (s : State) (hk : Queued pq s) : QueuedR pq (execEsbChanged s) := by
  unfold execEsbChanged
  repeat' (with_reducible first | exact hk | refine queuedR_next ?_ | apply raise_queued | apply setPack_queued | apply queued_ite)

theorem execEstimatorHibernate_queued {pq : List Instr} (s : State) (hk : Queued pq s) : QueuedR pq (execEstimatorHibernate s) := by
  unfold execEstimatorHibernate
  repeat' (with_reducible first | exact hk | refine queuedR_next ?_ | apply setPack_queued | apply queued_ite)

theorem execEstimatorWake_queued {pq : List Instr} (s : State) (hk : Queued pq s) : QueuedR pq (execEstimatorWake s) := by
  unfold execEstimatorWake
  repeat' (with_reducible first | exact hk | refine queuedR_next ?_ | apply setPack_queued | apply queued_ite)

theorem execShipFailed_queued {pq : List Instr} (s : State) (hk : Queued pq s) : QueuedR pq (execShipFailed s) := by
  unfold execShipFailed
  repeat' (with_reducible first | exact hk | refine queuedR_next ?_ | apply updateCharger_queued | apply updateBank_queued
                                | apply raise_queued | apply setPack_queued | apply queued_ite)

/-! ## Machine/Startup.lean -/

theorem execSheetTransferRetry_queued {pq : List Instr} (address : BitVec 16) (s : State) (hk : Queued pq s) :
    QueuedR pq (execSheetTransferRetry address s) := by
  unfold execSheetTransferRetry
  repeat' (with_reducible first | exact hk | refine queuedR_next ?_ | apply finishSheet_queued | apply queued_ite
                                | fail_if_no_progress refine queued_mk (queued_parts ?_) | split)

theorem execSheetImageRead_queued {pq : List Instr} (image : Option (List Byte)) (cleared : Option ClearOutcome) (s : State)
    (hk : Queued pq s) :
    QueuedR pq (execSheetImageRead image cleared s) := by
  unfold execSheetImageRead
  repeat' (with_reducible first | exact hk | refine queuedR_next ?_ | apply clearLocal_queued | apply finishSheet_queued
                                | apply queued_ite | split)

theorem lockStartup_queued {pq : List Instr} (s : State) (hk : Queued pq s) : Queued pq (lockStartup s) := hk

theorem execLock_queued {pq : List Instr} (link : Link) (s : State) (hk : Queued pq s) : QueuedR pq (execLock link s) := by
  unfold execLock
  repeat' (with_reducible first | exact hk | refine queuedR_next ?_ | apply lockStartup_queued | apply queued_ite)

theorem execStartupEndTimeout_queued {pq : List Instr} (s : State) (hk : Queued pq s) : QueuedR pq (execStartupEndTimeout s) := by
  unfold execStartupEndTimeout
  repeat' (with_reducible first | exact hk | refine queuedR_next ?_ | apply lockStartup_queued | apply queued_ite)

/-! ## Machine/Notice.lean -/

theorem execNoticeDeliver_queued {pq : List Instr} (carrier : Carrier) (s : State) (hk : Queued pq s) :
    QueuedR pq (execNoticeDeliver carrier s) := by
  unfold execNoticeDeliver
  repeat' (with_reducible first | exact hk | refine queuedR_next ?_ | apply sendNextNotice_queued | apply deliverNext_queued
                                | apply queued_ite | fail_if_no_progress refine queued_mk (queued_parts ?_) | split)

theorem execNoticeReannounce_queued {pq : List Instr} (seq : Word) (s : State) (hk : Queued pq s) :
    QueuedR pq (execNoticeReannounce seq s) := by
  unfold execNoticeReannounce
  repeat' (with_reducible first | exact hk | refine queuedR_next ?_ | assumption | apply setNotice_queued | apply signal_queued
                                | apply queued_ite | refine queued_foldl ?_ _ ?_ | intro _ _ _
                                | fail_if_no_progress refine queued_mk (queued_parts ?_) | split)

theorem execNoticeDisregarded_queued {pq : List Instr} (seq : Word) (s : State) (hk : Queued pq s) :
    QueuedR pq (execNoticeDisregarded seq s) := by
  unfold execNoticeDisregarded
  repeat' (with_reducible first | exact hk | refine queuedR_next ?_ | apply logEvent_queued | apply setNotice_queued | apply queued_ite
                                | fail_if_no_progress refine queued_mk (queued_parts ?_) | split)

theorem fillRing_queued {pq : List Instr} (l : Link) (s : State) (m : Notice) (hk : Queued pq s) : Queued pq (fillRing l s m) := by
  unfold fillRing
  repeat' (with_reducible first | exact hk | apply setNotice_queued | apply intoRing_queued | apply queued_ite
                                | fail_if_no_progress refine queued_mk (queued_parts ?_) | split)

theorem writeRingSize_queued {pq : List Instr} (s : State) (l : Link) (n : Nat) (hk : Queued pq s) : Queued pq (writeRingSize s l n) := by
  unfold writeRingSize
  repeat' (with_reducible first | exact hk | assumption | apply setFn_queued | apply retireDelivered_queued | apply fillRing_queued
                                | apply queued_ite | refine queued_foldl ?_ _ ?_ | intro _ _ _
                                | fail_if_no_progress refine queued_mk (queued_parts ?_) | split)

theorem execNringSizeWrite_queued {pq : List Instr} (link : Link) (value : Word) (busMaster : Bool) (s : State) (hk : Queued pq s) :
    QueuedR pq (execNringSizeWrite link value busMaster s) := by
  unfold execNringSizeWrite
  repeat' (with_reducible first | exact hk | refine queuedR_next ?_ | apply writeRingSize_queued
                                | fail_if_no_progress refine queued_mk (queued_parts ?_))

/-! ## Machine/DeviceBlock.lean -/

theorem noteUnaligned_queued {pq : List Instr} (s : State) (l : Link) (hk : Queued pq s) : Queued pq (noteUnaligned s l) := by
  unfold noteUnaligned
  repeat' (with_reducible first | exact hk | apply logEvent_queued | apply setFn_queued | apply queued_ite)

theorem unaligned_queued {pq : List Instr} (s : State) (l : Link) (isWrite : Bool) (off size : Nat) (hk : Queued pq s) :
    Queued pq (unaligned s l isWrite off size) := by
  unfold unaligned
  repeat' (with_reducible first | exact hk | apply noteUnaligned_queued | apply emit_queued | apply queued_ite)

theorem execUnalignedAccess_queued {pq : List Instr} (link : Link) (isWrite : Bool) (offset size : Nat) (s : State) (hk : Queued pq s) :
    QueuedR pq (execUnalignedAccess link isWrite offset size s) := by
  unfold execUnalignedAccess
  repeat' (with_reducible first | exact hk | refine queuedR_next ?_ | apply unaligned_queued | apply queued_ite)

theorem writeDcPd_queued {pq : List Instr} (s : State) (val en : Word) (hk : Queued pq s) : Queued pq (writeDcPd s val en) := by
  unfold writeDcPd
  repeat' (with_reducible first | exact hk | apply queued_ite | fail_if_no_progress refine queued_mk (queued_parts ?_))

theorem execDcPdWrite_queued {pq : List Instr} (link : Link) (value : Word) (s : State) (hk : Queued pq s) :
    QueuedR pq (execDcPdWrite link value s) := by
  unfold execDcPdWrite
  repeat' (with_reducible first | exact hk | refine queuedR_next ?_ | apply writeDcPd_queued | apply queued_ite)

theorem closePort_queued {pq : List Instr} (s : State) (l : Link) (hk : Queued pq s) : Queued pq (closePort s l) := by
  unfold closePort
  repeat' (with_reducible first | exact hk | apply endSession_queued | apply queued_ite
                                | fail_if_no_progress refine queued_mk (queued_parts ?_))

theorem writeDbg_queued {pq : List Instr} (s : State) (l : Link) (val en : Word) (hk : Queued pq s) :
    Queued pq (writeDbg s l val en) := by
  unfold writeDbg
  repeat' (with_reducible first | exact hk | apply closePort_queued | apply queued_ite
                                | fail_if_no_progress refine queued_mk (queued_parts ?_))

theorem writeRtCtl_queued {pq : List Instr} (s : State) (l : Link) (val en : Word) (hk : Queued pq s) :
    Queued pq (writeRtCtl s l val en) := by
  unfold writeRtCtl
  repeat' (with_reducible first | exact hk | apply setFn_queued | apply commitWrite_queued | apply queued_ite
                                | fail_if_no_progress refine queued_mk (queued_parts ?_))

theorem writeSnapCtl_queued {pq : List Instr} (s : State) (l : Link) (val en : Word) (hk : Queued pq s) :
    Queued pq (writeSnapCtl s l val en) := by
  unfold writeSnapCtl
  repeat' (with_reducible first | exact hk | apply setFn_queued | apply takeSnapshot_queued | apply releaseSnapshot_queued
                                | apply queued_ite)

theorem writeRing_queued {pq : List Instr} (s : State) (l : Link) (off : Nat) (val en : Word) (hk : Queued pq s) :
    Queued pq (writeRing s l off val en) := by
  unfold writeRing
  repeat' (with_reducible first | exact hk | apply setFn_queued | apply writeRingSize_queued | apply queued_ite)

theorem writeBusErrors_queued {pq : List Instr} (s : State) (off : Nat) (val en : Word) (hk : Queued pq s) :
    Queued pq (writeBusErrors s off val en) := by
  unfold writeBusErrors
  repeat' (with_reducible first | exact hk | apply queued_ite | fail_if_no_progress refine queued_mk (queued_parts ?_))

theorem writeECtl_queued {pq : List Instr} (s : State) (val en : Word) (hk : Queued pq s) : Queued pq (writeECtl s val en) := by
  unfold writeECtl
  repeat' (with_reducible first | exact hk | apply touchEstimator_queued | apply startCapTest_queued | apply queued_ite)

theorem writeLogSel_queued {pq : List Instr} (s : State) (l : Link) (val en : Word) (hk : Queued pq s) :
    Queued pq (writeLogSel s l val en) := hk

theorem writeReg_queued {pq : List Instr} (s : State) (l : Link) (off : Nat) (val en : Word) (hk : Queued pq s) :
    Queued pq (writeReg s l off val en) := by
  unfold writeReg
  repeat' (with_reducible first | exact hk | apply lockStartup_queued | apply writeECtl_queued | apply writeDcPd_queued
                                | apply writeRing_queued | apply writeLogSel_queued | apply writeSecLevel_queued | apply writeDbg_queued
                                | apply setHoldflag_queued | apply writeSnapCtl_queued | apply writeRtCtl_queued
                                | apply writeBusErrors_queued | apply queued_ite | refine queued_mk (queued_parts ?_))

theorem writeServed_queued {pq : List Instr} (s : State) (l : Link) (off : Nat) (val en : Word) (hk : Queued pq s) :
    Queued pq (writeServed s l off val en) := by
  unfold writeServed
  repeat' (with_reducible first | exact hk | apply writeReg_queued | apply queued_ite)

theorem writeBlock_queued {pq : List Instr} (s : State) (l : Link) (off size : Nat) (value : DWord) (hk : Queued pq s) :
    Queued pq (writeBlock s l off size value) := by
  unfold writeBlock
  repeat' (with_reducible first | exact hk | apply tableWrite_queued | apply writeServed_queued | apply queued_ite)

theorem execRegisterWrite_queued {pq : List Instr} (link : Link) (offset size : Nat) (value : DWord) (s : State) (hk : Queued pq s) :
    QueuedR pq (execRegisterWrite link offset size value s) := by
  unfold execRegisterWrite
  repeat' (with_reducible first | exact hk | refine queuedR_next ?_ | apply writeBeyond_queued | apply writeBlock_queued
                                | apply unaligned_queued | apply queued_ite | split)

/-! ## Machine/FlashJobs.lean -/

theorem checkMirrors_queued {pq : List Instr} (s : State) (hk : Queued pq s) : Queued pq (checkMirrors s) := by
  unfold checkMirrors
  repeat' (with_reducible first | exact hk | assumption | apply mirrorFails_queued | apply queued_ite | refine queued_foldl ?_ _ ?_
                                | intro _ _ _)

theorem finishRestripe_queued {pq : List Instr} (s : State) (hk : Queued pq s) : Queued pq (finishRestripe s) := by
  unfold finishRestripe
  repeat' (with_reducible first | exact hk | apply restripeEnd_queued | apply queued_ite | split)

theorem renewMoves_queued {pq : List Instr} (s : State) (hk : Queued pq s) : Queued pq (renewMoves s) := by
  unfold renewMoves
  repeat' (with_reducible first | exact hk | assumption | apply moveBand_queued | apply queued_ite | refine queued_foldl ?_ _ ?_
                                | intro _ _ _ | fail_if_no_progress refine queued_mk (queued_parts ?_) | split)

theorem programFails_queued {pq : List Instr} (s : State) (c : Settings) (p : PageGroup) (hk : Queued pq s) :
    Queued pq (programFails s c p) := by
  unfold programFails
  repeat' (with_reducible first | exact hk | apply advanceSeal_queued | apply issueWaiting_queued | apply checkMirrors_queued
                                | apply tornPage_queued | apply retireBlockSet_queued)

theorem closeFullRow_queued {pq : List Instr} (s : State) (c : Settings) (band row : Nat) (hk : Queued pq s) :
    Queued pq (closeFullRow s c band row) := by
  unfold closeFullRow
  repeat' (with_reducible first | exact hk | apply closeRow_queued | apply queued_ite)

theorem copyPasses_queued {pq : List Instr} (s : State) (g : Nat) (hk : Queued pq s) : Queued pq (copyPasses s g) := by
  unfold copyPasses
  repeat' (with_reducible first | exact hk | apply repoint_queued | apply eraseReady_queued | apply finishRestripe_queued
                                | apply noteRestriped_queued | apply queued_ite | split)

theorem parityPasses_queued {pq : List Instr} (s : State) (band row : Nat) (hk : Queued pq s) : Queued pq (parityPasses s band row) := by
  unfold parityPasses
  repeat' (with_reducible first | exact hk | assumption | apply copyPasses_queued | refine queued_foldl ?_ _ ?_ | intro _ _ _
                                | fail_if_no_progress refine queued_mk (queued_parts ?_))

theorem chunkPasses_queued {pq : List Instr} (s : State) (p : PageGroup) (hk : Queued pq s) : Queued pq (chunkPasses s p) := hk

theorem granulePasses_queued {pq : List Instr} (s : State) (p : PageGroup) (hk : Queued pq s) : Queued pq (granulePasses s p) := by
  unfold granulePasses
  repeat' (with_reducible first | exact hk | apply queued_ite | fail_if_no_progress refine queued_mk (queued_parts ?_) | split)

theorem programPasses_queued {pq : List Instr} (s : State) (c : Settings) (p : PageGroup) (hk : Queued pq s) :
    Queued pq (programPasses s c p) := by
  unfold programPasses
  repeat' (with_reducible first | exact hk | apply parityPasses_queued | apply copyPasses_queued | apply chunkPasses_queued
                                | apply granulePasses_queued | apply advanceSeal_queued | apply issueWaiting_queued
                                | apply finishFlushes_queued | apply closeFullRow_queued | apply queued_ite
                                | fail_if_no_progress refine queued_mk (queued_parts ?_) | split)

theorem wearNotice_queued {pq : List Instr} (s : State) (c : Settings) (hk : Queued pq s) : Queued pq (wearNotice s c) := by
  unfold wearNotice
  repeat' (with_reducible first | exact hk | apply raiseClass_queued | apply queued_ite
                                | fail_if_no_progress refine queued_mk (queued_parts ?_))

theorem dropErase_queued {pq : List Instr} (s : State) (ch : FlashCh) (die : Fin 16) (idx : Nat) (hk : Queued pq s) :
    Queued pq (dropErase s ch die idx) := hk

theorem afterErase_queued {pq : List Instr} (s : State) (c : Settings) (die : Fin 16) (idx : Nat) (hk : Queued pq s) :
    Queued pq (afterErase s c die idx) := by
  unfold afterErase
  repeat' (with_reducible first | exact hk | apply dropErasedBand_queued | apply queued_ite | split)

theorem eraseEnds_queued {pq : List Instr} (s : State) (c : Settings) (ch : FlashCh) (die : Fin 16) (idx : Nat) (pass : Bool)
    (hk : Queued pq s) :
    Queued pq (eraseEnds s c ch die idx pass) := by
  unfold eraseEnds
  repeat' (with_reducible first | exact hk | apply dropErase_queued | apply setBlock_queued | apply issueWaiting_queued
                                | apply wearNotice_queued | apply eraseReady_queued | apply afterErase_queued
                                | apply checkMirrors_queued | apply retireBlockSet_queued | apply queued_ite
                                | fail_if_no_progress refine queued_mk (queued_parts ?_) | split)

theorem countTimeout_queued {pq : List Instr} (s : State) (ch : FlashCh) (die : Fin 16) (hk : Queued pq s) :
    Queued pq (countTimeout s ch die) := by
  unfold countTimeout
  repeat' (with_reducible first | exact hk | apply checkMirrors_queued | apply retireDie_queued | apply queueTest_queued
                                | apply queued_ite | fail_if_no_progress refine queued_mk (queued_parts ?_))

theorem copyTo_queued {pq : List Instr} (s : State) (c : Settings) (g : Nat) (ch : FlashCh) (low : Bool) (hk : Queued pq s) :
    Queued pq (copyTo s c g ch low) := by
  unfold copyTo
  extract_lets s1
  have h1 : Queued pq s1 := rowsFor_queued s c hk
  clear_value s1
  repeat' (with_reducible first | exact h1 | apply copyOut_queued | apply queued_ite | split)

theorem copyMoved_queued {pq : List Instr} (s : State) (c : Settings) (g : Nat) (ch : FlashCh) (r : MoveReason) (hk : Queued pq s) :
    Queued pq (copyMoved s c g ch r) := by
  unfold copyMoved
  repeat' (with_reducible first | exact hk | apply copyTo_queued | apply queued_ite | split)

theorem compactPicked_queued {pq : List Instr} (s : State) (c : Settings) (g : Nat) (ch : FlashCh) (band : Nat) (hk : Queued pq s) :
    Queued pq (compactPicked s c g ch band) := by
  unfold compactPicked
  repeat' (with_reducible first | exact hk | apply copyTo_queued | apply moveBand_queued | apply queued_ite
                                | fail_if_no_progress refine queued_mk (queued_parts ?_) | split)

theorem compactGranule_queued {pq : List Instr} (s : State) (c : Settings) (g : Nat) (ch : FlashCh) (hk : Queued pq s) :
    Queued pq (compactGranule s c g ch) := by
  unfold compactGranule
  repeat' (with_reducible first | exact hk | apply copyMoved_queued | apply compactPicked_queued | apply queued_ite | split)

theorem restripeGranule_queued {pq : List Instr} (s : State) (c : Settings) (g : Nat) (ch : FlashCh) (hk : Queued pq s) :
    Queued pq (restripeGranule s c g ch) := by
  unfold restripeGranule
  repeat' (with_reducible first | exact hk | apply copyTo_queued | apply queued_ite
                                | fail_if_no_progress refine queued_mk (queued_parts ?_) | split)

theorem wearMove_queued {pq : List Instr} (s : State) (c : Settings) (hk : Queued pq s) : Queued pq (wearMove s c) := by
  unfold wearMove
  repeat' (with_reducible first | exact hk | apply moveBand_queued | apply queued_ite | split)

theorem startRefresh_queued {pq : List Instr} (s : State) (hk : Queued pq s) : Queued pq (startRefresh s) := by
  unfold startRefresh
  repeat' (with_reducible first | exact hk | assumption | apply moveBand_queued | apply queued_ite | refine queued_foldl ?_ _ ?_
                                | intro _ _ _ | split)

theorem scrubBand_queued {pq : List Instr} (s : State) (n : Nat) (hk : Queued pq s) : Queued pq (scrubBand s n) := by
  unfold scrubBand
  repeat' (with_reducible first | exact hk | apply queued_ite | fail_if_no_progress refine queued_mk (queued_parts ?_) | split)

theorem beginCheckpoint_queued {pq : List Instr} (s : State) (hk : Queued pq s) : Queued pq (beginCheckpoint s) := by
  unfold beginCheckpoint
  repeat' (with_reducible first | exact hk | apply beginSeal_queued)

theorem sealedSave_queued {pq : List Instr} (s : State) (ok : Bool) (hk : Queued pq s) : Queued pq (sealedSave s ok) := hk

theorem sealFailed_queued {pq : List Instr} (s : State) (j : SealJob) (hk : Queued pq s) : Queued pq (sealFailed s j) := by
  unfold sealFailed
  repeat' (with_reducible first | exact hk | apply dropJob_queued | apply sealedSave_queued | apply queued_ite
                                | fail_if_no_progress refine queued_mk (queued_parts ?_) | split)

theorem otherCopy_queued {pq : List Instr} (s : State) (m : Fin 2) (hk : Queued pq s) : Queued pq (otherCopy s m) := by
  unfold otherCopy
  repeat' (with_reducible first | exact hk | apply queued_ite | fail_if_no_progress refine queued_mk (queued_parts ?_) | split)

theorem sealDone_queued {pq : List Instr} (s : State) (j : SealJob) (d : Generation) (copies : Bool × Bool) (hk : Queued pq s) :
    Queued pq (sealDone s j d copies) := by
  unfold sealDone
  repeat' (with_reducible first | exact hk | apply copySessions_queued | apply sealNow_queued | apply evalPsub_queued
                                | apply sealedSave_queued | apply beginCheckpoint_queued | apply queued_ite
                                | fail_if_no_progress refine queued_mk (queued_parts ?_) | split)

theorem sealOn_queued {pq : List Instr} (s : State) (m : Fin 2) (pass : Bool) (k : State → State) (hk : Queued pq s)
    (hs : ∀ t, Queued pq t → Queued pq (k t)) : Queued pq (sealOn s m pass k) := by
  unfold sealOn
  repeat' (with_reducible first | exact hk | apply otherCopy_queued | apply hs | apply sealDone_queued | apply mirrorFails_queued
                                | apply sealFailed_queued | apply queued_ite | fail_if_no_progress refine queued_mk (queued_parts ?_)
                                | split)

theorem flashUp_queued {pq : List Instr} (s : State) (hk : Queued pq s) : Queued pq (flashUp s) := by
  unfold flashUp
  repeat' (with_reducible first | exact hk | apply checkCapacity_queued | apply bringLog_queued
                                | fail_if_no_progress refine queued_mk (queued_parts ?_))

theorem flashStartFailed_queued {pq : List Instr} (s : State) (hk : Queued pq s) : Queued pq (flashStartFailed s) := by
  unfold flashStartFailed
  repeat' (with_reducible first | exact hk | apply enterMinimal_queued | apply raise_queued)

theorem endStep5_queued {pq : List Instr} (s : State) (hk : Queued pq s) : Queued pq (endStep5 s) := by
  unfold endStep5
  repeat' (with_reducible first | exact hk | apply flashStartFailed_queued | apply flashUp_queued | apply queued_ite
                                | fail_if_no_progress refine queued_mk (queued_parts ?_) | split)

/-! ## Machine/DramJobs.lean -/

theorem noteForced_queued {pq : List Instr} (s : State) (ch : DramCh) (r : Fin 32) (hk : Queued pq s) :
    Queued pq (noteForced s ch r) := by
  unfold noteForced
  repeat' (with_reducible first | exact hk | apply setChan_queued | apply logEvent_queued | apply queued_ite)

theorem startRetrain_queued {pq : List Instr} (s : State) (c : Settings) (ch : DramCh) (hk : Queued pq s) :
    Queued pq (startRetrain s c ch) := by
  unfold startRetrain
  repeat' (with_reducible first | exact hk | apply setChan_queued | apply setShroudMode_queued | apply queued_ite
                                | fail_if_no_progress refine queued_mk (queued_parts ?_))

theorem noteTrained_queued {pq : List Instr} (s : State) (ch : DramCh) (hk : Queued pq s) : Queued pq (noteTrained s ch) := by
  unfold noteTrained
  repeat' (with_reducible first | exact hk | apply setChan_queued | fail_if_no_progress refine queued_mk (queued_parts ?_))

theorem retryActivation_queued {pq : List Instr} (s : State) (hk : Queued pq s) : Queued pq (retryActivation s) := by
  unfold retryActivation
  repeat' (with_reducible first | exact hk | apply setFw_queued | apply finishActivate_queued | apply beginActivation_queued
                                | apply queued_ite | fail_if_no_progress refine queued_mk (queued_parts ?_) | split | dsimp only)

theorem endWhole_queued {pq : List Instr} (s : State) (ch : DramCh) (hk : Queued pq s) : Queued pq (endWhole s ch) := by
  unfold endWhole
  repeat' (with_reducible first | exact hk | apply setShroudMode_queued | apply setChan_queued | apply beginPass_queued
                                | apply queued_ite | fail_if_no_progress refine queued_mk (queued_parts ?_))

theorem stepDown_queued {pq : List Instr} (s : State) (rate : Nat) (hk : Queued pq s) : Queued pq (stepDown s rate) := by
  unfold stepDown
  repeat' (with_reducible first | exact hk | apply logEvent_queued | apply queued_ite
                                | fail_if_no_progress refine queued_mk (queued_parts ?_))

theorem dramStartFailed_queued {pq : List Instr} (s : State) (bad : List DramCh) (hk : Queued pq s) :
    Queued pq (dramStartFailed s bad) := by
  unfold dramStartFailed
  repeat' (with_reducible first | exact hk | apply enterMinimal_queued | apply raise_queued)

theorem trained_queued {pq : List Instr} (s : State) (bad : List DramCh) (hk : Queued pq s) : Queued pq (trained s bad) := by
  unfold trained
  repeat' (with_reducible first | exact hk | assumption | apply noteTrained_queued | apply setChan_queued
                                | apply trainingFails_queued | apply raise_queued | apply queued_ite | refine queued_foldl ?_ _ ?_
                                | intro _ _ _ | fail_if_no_progress refine queued_mk (queued_parts ?_) | split)

theorem endTraining_queued {pq : List Instr} (s : State) (failing : List DramCh) (hk : Queued pq s) :
    Queued pq (endTraining s failing) := by
  unfold endTraining
  repeat' (with_reducible first | exact hk | apply trained_queued | apply stepDown_queued | apply dramStartFailed_queued
                                | apply queued_ite | split)

theorem wakeChannel_queued {pq : List Instr} (s : State) (c : Settings) (ch : DramCh) (hk : Queued pq s) :
    Queued pq (wakeChannel s c ch) := by
  unfold wakeChannel
  repeat' (with_reducible first | exact hk | apply noteTrained_queued | apply setChan_queued | apply queueRetrain_queued
                                | apply queued_ite | fail_if_no_progress refine queued_mk (queued_parts ?_) | split)

theorem resumePass_queued {pq : List Instr} (s : State) (hk : Queued pq s) : Queued pq (resumePass s) := by
  unfold resumePass
  repeat' (with_reducible first | exact hk | apply endWhole_queued | apply queued_ite
                                | fail_if_no_progress refine queued_mk (queued_parts ?_) | split)

theorem wakeAll_queued {pq : List Instr} (s : State) (c : Settings) (failing : List DramCh) (hk : Queued pq s) :
    Queued pq (wakeAll s c failing) := by
  unfold wakeAll
  repeat' (with_reducible first | exact hk | assumption | apply wakeChannel_queued | apply trainingFails_queued
                                | refine queued_foldl ?_ _ ?_ | intro _ _ _)

theorem rewriteStripe_queued {pq : List Instr} (s : State) (ch : DramCh) (st : Nat) (errs : List (Nat × EccOutcome)) (hk : Queued pq s) :
    Queued pq (rewriteStripe s ch st errs) := by
  unfold rewriteStripe
  repeat' (with_reducible first | exact hk | assumption | apply touch_queued | apply eccEffect_queued | apply setParity_queued
                                | apply queued_ite | refine queued_foldl ?_ _ ?_ | intro _ _ _
                                | fail_if_no_progress refine queued_mk (queued_parts ?_) | split)

theorem copyStripeBack_queued {pq : List Instr} (s : State) (ch : DramCh) (st : Nat) (errs : List (Nat × EccOutcome)) (hk : Queued pq s) :
    Queued pq (copyStripeBack s ch st errs) := by
  unfold copyStripeBack
  repeat' (with_reducible first | exact hk | apply touch_queued | apply eccEffects_queued
                                | fail_if_no_progress refine queued_mk (queued_parts ?_) | split)

theorem passStripe_queued {pq : List Instr} (s : State) (k : PassKind) (ch : DramCh) (st : Nat) (errs : List (Nat × EccOutcome))
    (hk : Queued pq s) :
    Queued pq (passStripe s k ch st errs) := by
  unfold passStripe
  repeat' (with_reducible first | exact hk | apply copyStripeBack_queued | apply rewriteStripe_queued | apply queued_ite | split)

theorem advancePass_queued {pq : List Instr} (s : State) (errs : List (Nat × EccOutcome)) (hk : Queued pq s) :
    Queued pq (advancePass s errs) := by
  unfold advancePass
  repeat' (with_reducible first | exact hk | apply passStripe_queued | apply endPass_queued | apply queued_ite
                                | fail_if_no_progress refine queued_mk (queued_parts ?_) | split)

theorem rejoin_queued {pq : List Instr} (s : State) (ch : DramCh) (hk : Queued pq s) : Queued pq (rejoin s ch) := by
  unfold rejoin
  repeat' (with_reducible first | exact hk | apply noteTrained_queued | apply setChan_queued | apply beginPass_queued
                                | apply setShroudMode_queued | apply queued_ite
                                | fail_if_no_progress refine queued_mk (queued_parts ?_) | split)

/-! ## Machine/Flash.lean -/

theorem withSettings_queued {pq : List Instr} {s : State} {f : Settings → State} (hk : Queued pq s) (hf : ∀ c, Queued pq (f c)) :
    Queued pq (withSettings s f) := by
  unfold withSettings
  split
  · exact hf _
  · exact hk

theorem claimedFetchFails_queued {pq : List Instr} (s : State) (g : Nat) (hk : Queued pq s) : Queued pq (claimedFetchFails s g) := by
  unfold claimedFetchFails
  repeat' (first
    | with_reducible first | exact hk | assumption | apply raise_queued | apply poisonGranule_queued | apply setPresent_queued
                           | apply writeGranule_queued | apply markDirty_queued | apply dropPoison_queued | apply queued_ite
                           | refine queued_foldl ?_ _ ?_ | intro _ _ _
    | fail_if_no_progress with_reducible refine queued_mk (queued_parts ?_))

theorem copyLost_queued {pq : List Instr} (s : State) (g : Nat) (hk : Queued pq s) : Queued pq (copyLost s g) := by
  unfold copyLost
  repeat' (with_reducible first | exact hk | apply markDirty_queued | apply bringIn_queued | apply queued_ite | split)

theorem execFlashReadComplete_queued {pq : List Instr} (ch : FlashCh) (die : Fin 16) (index granule : Nat)
    (outcome : DecodeOutcome) (s : State) (hk : Queued pq s) :
    QueuedR pq (execFlashReadComplete ch die index granule outcome s) := by
  unfold execFlashReadComplete
  repeat' (with_reducible first | exact hk | refine queuedR_next ?_ | apply startRefresh_queued | apply noteRead_queued
                                | apply mirrorFails_queued | apply waitFetch_queued | apply claimedFetchFails_queued
                                | apply copyLost_queued | apply queued_ite | fail_if_no_progress refine queued_mk (queued_parts ?_)
                                | split)

theorem execFlashProgramComplete_queued {pq : List Instr} (seq : Nat) (pass : Bool) (s : State) (hk : Queued pq s) :
    QueuedR pq (execFlashProgramComplete seq pass s) := by
  unfold execFlashProgramComplete
  repeat' (with_reducible first | exact hk | refine queuedR_next ?_ | apply withSettings_queued | apply programPasses_queued
                                | apply programFails_queued | apply queued_ite | intro _ | split)

theorem execMirrorRelocated_queued {pq : List Instr} (ch : FlashCh) (s : State) (hk : Queued pq s) :
    QueuedR pq (execMirrorRelocated ch s) := by
  unfold execMirrorRelocated
  repeat' (with_reducible first | exact hk | refine queuedR_next ?_ | apply relocateMirror_queued | apply queued_ite | split)

theorem execFlashEraseComplete_queued {pq : List Instr} (ch : FlashCh) (die : Fin 16) (index : Nat) (pass : Bool) (s : State) (hk :
    Queued pq s) :
    QueuedR pq (execFlashEraseComplete ch die index pass s) := by
  unfold execFlashEraseComplete
  repeat' (with_reducible first | exact hk | refine queuedR_next ?_ | apply withSettings_queued | apply eraseEnds_queued
                                | apply queued_ite | intro _)

theorem execEraseResume_queued {pq : List Instr} (ch : FlashCh) (die : Fin 16) (s : State) (hk : Queued pq s) :
    QueuedR pq (execEraseResume ch die s) := by
  unfold execEraseResume
  repeat' (with_reducible first | exact hk | refine queuedR_next ?_ | apply withSettings_queued | apply queued_ite | intro _
                                | fail_if_no_progress refine queued_mk (queued_parts ?_))

theorem execFlashBusyTimeout_queued {pq : List Instr} (ch : FlashCh) (die : Fin 16) (op : BusyOp) (s : State) (hk : Queued pq s) :
    QueuedR pq (execFlashBusyTimeout ch die op s) := by
  unfold execFlashBusyTimeout
  repeat' (with_reducible first | exact hk | refine queuedR_next ?_ | apply withSettings_queued | apply countTimeout_queued
                                | apply programFails_queued | apply issueWaiting_queued | apply eraseBroken_queued
                                | apply dropErase_queued | intro c | apply queued_ite
                                | fail_if_no_progress refine queued_mk (queued_parts ?_) | split)

theorem execRestripeCopy_queued {pq : List Instr} (granule : Nat) (ch : FlashCh) (s : State) (hk : Queued pq s) :
    QueuedR pq (execRestripeCopy granule ch s) := by
  unfold execRestripeCopy
  repeat' (with_reducible first | exact hk | refine queuedR_next ?_ | apply withSettings_queued | apply eraseReady_queued
                                | apply finishRestripe_queued | apply restripeGranule_queued | apply queued_ite | intro _)

theorem execFlashChannelTraining_queued {pq : List Instr} (ch : FlashCh) (badDies : List (Fin 16)) (pass : Bool) (s : State)
    (hk : Queued pq s) :
    QueuedR pq (execFlashChannelTraining ch badDies pass s) := by
  unfold execFlashChannelTraining
  repeat' (with_reducible first | exact hk | refine queuedR_next ?_ | assumption | apply withSettings_queued
                                | apply retireDie_queued | apply flashChannelOut_queued | apply endStep5_queued
                                | apply checkMirrors_queued | apply finishRestripe_queued | intro c | apply queued_ite
                                | refine queued_foldl ?_ _ ?_ | intro _ _ _ | fail_if_no_progress refine queued_mk (queued_parts ?_)
                                | split)

theorem execFlashTrainingRetry_queued {pq : List Instr} (ch : FlashCh) (pass : Bool) (s : State) (hk : Queued pq s) :
    QueuedR pq (execFlashTrainingRetry ch pass s) := by
  unfold execFlashTrainingRetry
  repeat' (with_reducible first | exact hk | refine queuedR_next ?_ | apply withSettings_queued | apply ceilingEvent_queued
                                | intro c | apply queued_ite | fail_if_no_progress refine queued_mk (queued_parts ?_) | split)

theorem execRowCloseTimeout_queued {pq : List Instr} (band row : Nat) (s : State) (hk : Queued pq s) :
    QueuedR pq (execRowCloseTimeout band row s) := by
  unfold execRowCloseTimeout
  repeat' (with_reducible first | exact hk | refine queuedR_next ?_ | apply withSettings_queued | apply closeRow_queued
                                | apply queued_ite | intro _)

theorem execCheckpointSeal_queued {pq : List Instr} (s : State) (hk : Queued pq s) : QueuedR pq (execCheckpointSeal s) := by
  unfold execCheckpointSeal
  repeat' (with_reducible first | exact hk | refine queuedR_next ?_ | apply beginCheckpoint_queued | apply restripeEnd_queued
                                | apply queued_ite | split)

theorem execCompaction_queued {pq : List Instr} (granule : Nat) (ch : FlashCh) (s : State) (hk : Queued pq s) :
    QueuedR pq (execCompaction granule ch s) := by
  unfold execCompaction
  repeat' (with_reducible first | exact hk | refine queuedR_next ?_ | apply withSettings_queued | apply eraseReady_queued
                                | apply compactGranule_queued | apply queued_ite | intro _)

theorem execWearLevelMove_queued {pq : List Instr} (s : State) (hk : Queued pq s) : QueuedR pq (execWearLevelMove s) := by
  unfold execWearLevelMove
  repeat' (with_reducible first | exact hk | refine queuedR_next ?_ | apply withSettings_queued | apply wearMove_queued
                                | apply queued_ite | intro _)

theorem execRetentionScrub_queued {pq : List Instr} (band : Nat) (s : State) (hk : Queued pq s) :
    QueuedR pq (execRetentionScrub band s) := by
  unfold execRetentionScrub
  repeat' (with_reducible first | exact hk | refine queuedR_next ?_ | apply withSettings_queued | apply startRefresh_queued
                                | apply scrubBand_queued | intro c | apply queued_ite | split)

theorem execRetentionDue_queued {pq : List Instr} (s : State) (hk : Queued pq s) : QueuedR pq (execRetentionDue s) := by
  unfold execRetentionDue
  repeat' (with_reducible first | exact hk | refine queuedR_next ?_ | apply raise_queued | apply queued_ite
                                | fail_if_no_progress refine queued_mk (queued_parts ?_))

theorem execNandBrownout_queued {pq : List Instr} (s : State) (hk : Queued pq s) : QueuedR pq (execNandBrownout s) := by
  unfold execNandBrownout
  repeat' (with_reducible first | exact hk | refine queuedR_next ?_ | apply nandDown_queued | apply queued_ite)

theorem recoverNand_queued {pq : List Instr} (s : State) (c : Settings) (hk : Queued pq s) : Queued pq (recoverNand s c) := by
  unfold recoverNand
  repeat' (with_reducible first | exact hk | assumption | apply breakErases_queued | apply advanceSeal_queued
                                | apply issueWaiting_queued | apply tornPage_queued | apply queued_ite | refine queued_foldl ?_ _ ?_
                                | intro _ _ _ | fail_if_no_progress refine queued_mk (queued_parts ?_) | split)

theorem execNandRailRecovery_queued {pq : List Instr} (s : State) (hk : Queued pq s) : QueuedR pq (execNandRailRecovery s) := by
  unfold execNandRailRecovery
  repeat' (with_reducible first | exact hk | refine queuedR_next ?_ | apply withSettings_queued | apply recoverNand_queued
                                | apply queued_ite | intro _)

theorem execEngineProgramRefused_queued {pq : List Instr} (ch : FlashCh) (die : Fin 16) (index page : Nat) (s : State) (hk : Queued pq
    s) :
    QueuedR pq (execEngineProgramRefused ch die index page s) := by
  unfold execEngineProgramRefused
  repeat' (with_reducible first | exact hk | refine queuedR_next ?_ | apply logEvent_queued | apply queued_ite)

/-! ## Machine/Dram.lean -/

theorem execRefreshTick_queued {pq : List Instr} (ch : DramCh) (rank : Fin 32) (accessWaiting : Bool) (s : State) (hk : Queued pq s) :
    QueuedR pq (execRefreshTick ch rank accessWaiting s) := by
  unfold execRefreshTick
  repeat' (with_reducible first | exact hk | refine queuedR_next ?_ | apply withSettings_queued | apply setChan_queued
                                | apply noteForced_queued | intro c | apply queued_ite
                                | fail_if_no_progress refine queued_mk (queued_parts ?_) | split)

theorem execRefreshPullIn_queued {pq : List Instr} (ch : DramCh) (rank : Fin 32) (s : State) (hk : Queued pq s) :
    QueuedR pq (execRefreshPullIn ch rank s) := by
  unfold execRefreshPullIn
  repeat' (with_reducible first | exact hk | refine queuedR_next ?_ | apply withSettings_queued | apply setChan_queued | apply queued_ite
                                | intro _)

theorem execMr4Poll_queued {pq : List Instr} (ch : DramCh) (above : Bool) (s : State) (hk : Queued pq s) :
    QueuedR pq (execMr4Poll ch above s) := by
  unfold execMr4Poll
  repeat' (with_reducible first | exact hk | refine queuedR_next ?_ | apply logEvent_queued | apply setBand2x_queued | apply queued_ite)

theorem execPowerDownEntry_queued {pq : List Instr} (ch : DramCh) (rank : Fin 4) (s : State) (hk : Queued pq s) :
    QueuedR pq (execPowerDownEntry ch rank s) := by
  unfold execPowerDownEntry
  repeat' (with_reducible first | exact hk | refine queuedR_next ?_ | apply withSettings_queued | apply updateIdle_queued | intro c
                                | apply queued_ite | fail_if_no_progress refine queued_mk (queued_parts ?_) | split)

theorem repairParity_queued {pq : List Instr} (s : State) (st : Nat) (hk : Queued pq s) : Queued pq (repairParity s st) := by
  unfold repairParity
  repeat' (with_reducible first | exact hk | apply logEvent_queued | apply touch_queued | apply setParity_queued | apply queued_ite
                                | fail_if_no_progress refine queued_mk (queued_parts ?_) | split)

theorem scrubCount_queued {pq : List Instr} (s : State) (ch : DramCh) (n : Nat) (hk : Queued pq s) : Queued pq (scrubCount s ch n) := by
  unfold scrubCount
  repeat' (with_reducible first | exact hk | apply setChan_queued | apply queued_ite
                                | fail_if_no_progress refine queued_mk (queued_parts ?_) | split)

theorem scrubStripes_queued {pq : List Instr} (s : State) (ch : DramCh) (sts mismatch : List Nat) (errs : List
    (Nat × EccOutcome)) (hk : Queued pq s) :
    Queued pq (scrubStripes s ch sts mismatch errs) := by
  unfold scrubStripes
  repeat' (with_reducible first | exact hk | assumption | apply touch_queued | apply scrubCount_queued | apply eccEffects_queued
                                | apply repairParity_queued | refine queued_foldl ?_ _ ?_ | intro _ _ _)

theorem execPatrolScrub_queued {pq : List Instr} (ch : DramCh) (rank : Fin 4) (stripes mismatch : List Nat) (errs : List
    (Nat × EccOutcome)) (s : State) (hk : Queued pq s) :
    QueuedR pq (execPatrolScrub ch rank stripes mismatch errs s) := by
  unfold execPatrolScrub
  repeat' (with_reducible first | exact hk | refine queuedR_next ?_ | apply withSettings_queued | apply setChan_queued
                                | apply scrubStripes_queued | intro c | apply queued_ite
                                | fail_if_no_progress refine queued_mk (queued_parts ?_) | split)

theorem execScrubWake_queued {pq : List Instr} (ch : DramCh) (rank : Fin 4) (mismatch : List Nat) (errs : List
    (Nat × EccOutcome)) (s : State) (hk : Queued pq s) :
    QueuedR pq (execScrubWake ch rank mismatch errs s) := by
  unfold execScrubWake
  repeat' (with_reducible first | exact hk | refine queuedR_next ?_ | apply setChan_queued | apply updateIdle_queued
                                | apply scrubStripes_queued | apply queued_ite
                                | fail_if_no_progress refine queued_mk (queued_parts ?_) | split)

theorem execZqCalibration_queued {pq : List Instr} (ch : DramCh) (rank : Fin 4) (s : State) (hk : Queued pq s) :
    QueuedR pq (execZqCalibration ch rank s) := by
  unfold execZqCalibration
  repeat' (with_reducible first | exact hk | refine queuedR_next ?_ | apply withSettings_queued | apply setChan_queued | apply queued_ite
                                | intro _)

theorem execDqsOscCalibration_queued {pq : List Instr} (ch : DramCh) (rank : Fin 4) (drift : Bool) (s : State) (hk : Queued pq s) :
    QueuedR pq (execDqsOscCalibration ch rank drift s) := by
  unfold execDqsOscCalibration
  repeat' (with_reducible first | exact hk | refine queuedR_next ?_ | apply withSettings_queued | apply setChan_queued | apply queued_ite
                                | intro _)

theorem execReadCenteringTrack_queued {pq : List Instr} (ch : DramCh) (rank : Fin 4) (s : State) (hk : Queued pq s) :
    QueuedR pq (execReadCenteringTrack ch rank s) := by
  unfold execReadCenteringTrack
  repeat' (with_reducible first | exact hk | refine queuedR_next ?_ | apply withSettings_queued | apply setChan_queued | apply queued_ite
                                | intro _)

theorem replayWrites_queued {pq : List Instr} (s : State) (ch : DramCh) (hk : Queued pq s) : Queued pq (replayWrites s ch) := by
  unfold replayWrites
  repeat' (with_reducible first | exact hk | assumption | apply touch_queued | apply setParity_queued | apply queued_ite
                                | refine queued_foldl ?_ _ ?_ | intro _ _ _ | split)

theorem execWriteCrcError_queued {pq : List Instr} (ch : DramCh) (row : RowId) (column : Nat) (s : State) (hk : Queued pq s) :
    QueuedR pq (execWriteCrcError ch row column s) := by
  unfold execWriteCrcError
  repeat' (with_reducible first | exact hk | refine queuedR_next ?_ | apply logDram_queued | apply queueRetrain_queued
                                | apply setChan_queued | apply countCrc_queued | apply replayWrites_queued | apply queued_ite
                                | fail_if_no_progress refine queued_mk (queued_parts ?_) | split)

theorem execChannelRetrainStart_queued {pq : List Instr} (s : State) (hk : Queued pq s) : QueuedR pq (execChannelRetrainStart s) := by
  unfold execChannelRetrainStart
  repeat' (with_reducible first | exact hk | refine queuedR_next ?_ | apply withSettings_queued | apply startRetrain_queued
                                | intro c | apply queued_ite | fail_if_no_progress refine queued_mk (queued_parts ?_) | split)

theorem execRetrainSlice_queued {pq : List Instr} (ch : DramCh) (s : State) (hk : Queued pq s) : QueuedR pq (execRetrainSlice ch s) := by
  unfold execRetrainSlice
  repeat' (with_reducible first | exact hk | refine queuedR_next ?_ | apply withSettings_queued | apply setChan_queued | apply queued_ite
                                | intro _)

theorem execChannelRetrainComplete_queued {pq : List Instr} (ch : DramCh) (pass : Bool) (s : State) (hk : Queued pq s) :
    QueuedR pq (execChannelRetrainComplete ch pass s) := by
  unfold execChannelRetrainComplete
  repeat' (with_reducible first | exact hk | refine queuedR_next ?_ | apply setChan_queued | apply noteTrained_queued
                                | apply trainingFails_queued | apply retryActivation_queued | apply endWhole_queued | apply queued_ite
                                | fail_if_no_progress refine queued_mk (queued_parts ?_) | split)

theorem execLineTestComplete_queued {pq : List Instr} (ch : DramCh) (row : RowId) (column : Nat) (pass : Bool) (device : Fin 10) (s :
    State) (hk : Queued pq s) :
    QueuedR pq (execLineTestComplete ch row column pass device s) := by
  unfold execLineTestComplete
  repeat' (with_reducible first | exact hk | refine queuedR_next ?_ | apply endTest_queued | apply countTransient_queued
                                | apply retireRow_queued | apply queued_ite | split)

theorem execRowTestComplete_queued {pq : List Instr} (ch : DramCh) (row : RowId) (pass : Bool) (device : Fin 10)
    (twoGroups : Bool) (s : State) (hk : Queued pq s) :
    QueuedR pq (execRowTestComplete ch row pass device twoGroups s) := by
  unfold execRowTestComplete
  repeat' (with_reducible first | exact hk | refine queuedR_next ?_ | apply endTest_queued | apply countTransient_queued
                                | apply retireRow_queued | apply markDevice_queued | apply queued_ite
                                | fail_if_no_progress refine queued_mk (queued_parts ?_) | split)

theorem execChannelPatternTestComplete_queued {pq : List Instr} (ch : DramCh) (pass : Bool) (s : State) (hk : Queued pq s) :
    QueuedR pq (execChannelPatternTestComplete ch pass s) := by
  unfold execChannelPatternTestComplete
  repeat' (with_reducible first | exact hk | refine queuedR_next ?_ | apply endTest_queued | apply countTransient_queued
                                | apply channelOut_queued | apply queued_ite | split)

theorem execDramTrainingComplete_queued {pq : List Instr} (failing : List DramCh) (s : State) (hk : Queued pq s) :
    QueuedR pq (execDramTrainingComplete failing s) := by
  unfold execDramTrainingComplete
  repeat' (with_reducible first | exact hk | refine queuedR_next ?_ | apply withSettings_queued | apply endStep5_queued
                                | apply wakeAll_queued | apply endTraining_queued | apply queued_ite | intro _)

theorem execChannelTrainingRetry_queued {pq : List Instr} (ch : DramCh) (pass : Bool) (s : State) (hk : Queued pq s) :
    QueuedR pq (execChannelTrainingRetry ch pass s) := by
  unfold execChannelTrainingRetry
  repeat' (with_reducible first | exact hk | refine queuedR_next ?_ | apply rejoin_queued | apply logDram_queued
                                | apply setChan_queued | apply queued_ite | fail_if_no_progress refine queued_mk (queued_parts ?_)
                                | split)

/-! ## Machine/Engines.lean -/

theorem execMastheadWatchdogExpiry_queued {pq : List Instr} (s : State) (hk : Queued pq s) :
    QueuedR pq (execMastheadWatchdogExpiry s) := by
  unfold execMastheadWatchdogExpiry
  repeat' (with_reducible first | exact hk | refine queuedR_next ?_ | apply startRevert_queued | apply queued_ite)

theorem execEngineException_queued {pq : List Instr} (engine : EngineId) (s : State) (hk : Queued pq s) :
    QueuedR pq (execEngineException engine s) := by
  unfold execEngineException
  repeat' (with_reducible first | exact hk | refine queuedR_next ?_ | apply countTransient_queued | apply setEngine_queued
                                | apply queueTest_queued | apply startRevert_queued | apply queued_ite)

theorem execEngineBistComplete_queued {pq : List Instr} (engine : EngineId) (pass : Bool) (s : State) (hk : Queued pq s) :
    QueuedR pq (execEngineBistComplete engine pass s) := by
  unfold execEngineBistComplete
  repeat' (with_reducible first | exact hk | refine queuedR_next ?_ | apply endTest_queued | apply setEngine_queued
                                | apply checkMirrors_queued | apply failEngine_queued | apply queued_ite
                                | fail_if_no_progress refine queued_mk (queued_parts ?_) | split)

/-! ## Machine/FaultTest.lean -/

theorem testedSet_queued {pq : List Instr} (s : State) (c : Settings) (ch : FlashCh) (die : Fin 16) (idx : Nat) (hk : Queued pq s) :
    Queued pq (testedSet s c ch die idx) := by
  unfold testedSet
  repeat' (with_reducible first | exact hk | apply setBlock_queued | fail_if_no_progress refine queued_mk (queued_parts ?_) | split)

theorem execBlockTestComplete_queued {pq : List Instr} (ch : FlashCh) (die : Fin 16) (index : Nat) (pass : Bool) (s : State) (hk :
    Queued pq s) :
    QueuedR pq (execBlockTestComplete ch die index pass s) := by
  unfold execBlockTestComplete
  repeat' (with_reducible first | exact hk | refine queuedR_next ?_ | apply endTest_queued | apply testedSet_queued
                                | apply countTransient_queued | apply checkMirrors_queued | apply retireBlockSet_queued
                                | apply wearNotice_queued | apply afterErase_queued | apply queued_ite | split)

theorem execDieTestComplete_queued {pq : List Instr} (ch : FlashCh) (die : Fin 16) (pass : Bool) (s : State) (hk : Queued pq s) :
    QueuedR pq (execDieTestComplete ch die pass s) := by
  unfold execDieTestComplete
  repeat' (with_reducible first | exact hk | refine queuedR_next ?_ | apply endTest_queued | apply countTransient_queued
                                | apply checkMirrors_queued | apply retireDie_queued | apply queued_ite
                                | fail_if_no_progress refine queued_mk (queued_parts ?_) | split)

theorem execModuleYearEnd_queued {pq : List Instr} (s : State) (hk : Queued pq s) : QueuedR pq (execModuleYearEnd s) := by
  unfold execModuleYearEnd
  repeat' (with_reducible first | exact hk | refine queuedR_next ?_ | apply logEvent_queued | apply queued_ite
                                | fail_if_no_progress refine queued_mk (queued_parts ?_))

/-! ## Machine/Halyard.lean -/

theorem setPort_queued {pq : List Instr} (s : State) (up : Bool) (f : HyPort → HyPort) (hk : Queued pq s) :
    Queued pq (setPort s up f) := hk

theorem heard_queued {pq : List Instr} (s : State) (up : Bool) (hk : Queued pq s) : Queued pq (heard s up) := hk

theorem checkPosition_queued {pq : List Instr} (s : State) (up : Bool) (v position : Nat) (hk : Queued pq s) :
    Queued pq (checkPosition s up v position) := by
  unfold checkPosition
  repeat' (with_reducible first | exact hk | apply raise_queued | apply queued_ite)

theorem execHello_queued {pq : List Instr} (up : Bool) (versions : Word) (position _chainLen : Nat) (_part : BitVec 16)
    (_fwVersion : Word) (s : State) (hk : Queued pq s) :
    QueuedR pq (execHello up versions position _chainLen _part _fwVersion s) := by
  unfold execHello
  repeat' (with_reducible first | exact hk | refine queuedR_next ?_ | apply logEvent_queued | apply checkPosition_queued
                                | apply setPort_queued | apply sendCredit_queued | apply queued_ite
                                | fail_if_no_progress refine queued_mk (queued_parts ?_) | split)

theorem afterSave_queued {pq : List Instr} (s : State) (hk : Queued pq s) : Queued pq (afterSave s) := by
  unfold afterSave
  repeat' (with_reducible first | exact hk | apply sendRelay_queued | apply sendCredit_queued | apply queued_ite | split)

theorem execHelloTimer_queued {pq : List Instr} (s : State) (hk : Queued pq s) : QueuedR pq (execHelloTimer s) := by
  unfold execHelloTimer
  repeat' (with_reducible first | exact hk | refine queuedR_next ?_ | apply afterSave_queued | apply emit_queued | apply queued_ite
                                | split)

theorem loseDownstream_queued {pq : List Instr} (s : State) (hk : Queued pq s) : Queued pq (loseDownstream s) := hk

theorem execHalyardPortDown_queued {pq : List Instr} (up : Bool) (s : State) (hk : Queued pq s) :
    QueuedR pq (execHalyardPortDown up s) := by
  unfold execHalyardPortDown
  repeat' (with_reducible first | exact hk | refine queuedR_next ?_ | apply raise_queued | apply setPort_queued
                                | apply checkChainDone_queued | apply checkReport_queued | apply sendStatus_queued
                                | apply loseDownstream_queued | apply queued_ite)

theorem execHalyardFrameTimeout_queued {pq : List Instr} (up : Bool) (s : State) (hk : Queued pq s) :
    QueuedR pq (execHalyardFrameTimeout up s) := by
  unfold execHalyardFrameTimeout
  repeat' (with_reducible first | exact hk | refine queuedR_next ?_ | apply setPort_queued | apply queued_ite
                                | fail_if_no_progress refine queued_mk (queued_parts ?_) | split)

theorem applyChunk_queued {pq : List Instr} (s : State) (k : HyChunk) (hk : Queued pq s) : Queued pq (applyChunk s k) := by
  unfold applyChunk
  repeat' (with_reducible first | exact hk | apply sendStatus_queued | apply refuseFw_queued | apply stageChunk_queued
                                | apply logIgnoredLock_queued | apply queued_ite)

theorem takeChunk_queued {pq : List Instr} (s : State) (k : HyChunk) (hk : Queued pq s) : Queued pq (takeChunk s k) := by
  unfold takeChunk
  repeat' (with_reducible first | exact hk | apply sendCredit_queued | apply setFw_queued | apply relayIn_queued
                                | apply applyChunk_queued | apply queued_ite)

theorem execChunk_queued {pq : List Instr} (package offset total crc : Word) (data : List Byte) (s : State) (hk : Queued pq s) :
    QueuedR pq (execChunk package offset total crc data s) := by
  unfold execChunk
  repeat' (with_reducible first | exact hk | refine queuedR_next ?_ | apply heard_queued | apply setPort_queued | apply takeChunk_queued
                                | apply queued_ite)

theorem execCredit_queued {pq : List Instr} (resumeAt : Word) (credits : Nat) (s : State) (hk : Queued pq s) :
    QueuedR pq (execCredit resumeAt credits s) := by
  unfold execCredit
  repeat' (with_reducible first | exact hk | refine queuedR_next ?_ | apply heard_queued | apply setFw_queued | apply sendRelay_queued
                                | apply queued_ite)

theorem execActivate_queued {pq : List Instr} (package : Word) (s : State) (hk : Queued pq s) : QueuedR pq (execActivate package s) := by
  unfold execActivate
  repeat' (with_reducible first | exact hk | refine queuedR_next ?_ | apply activatePackage_queued | apply setFw_queued
                                | apply heard_queued | apply crocusRestart_queued | apply sendActivate_queued
                                | refine activatePackage_queuedE ?_ (by assumption) | apply queued_ite)

theorem execStatus_queued {pq : List Instr} (entries : List (Nat × Nat × Nat)) (s : State) (hk : Queued pq s) :
    QueuedR pq (execStatus entries s) := by
  unfold execStatus
  repeat' (with_reducible first | exact hk | refine queuedR_next ?_ | assumption | apply setFw_queued | apply heard_queued
                                | apply checkChainDone_queued | apply checkReport_queued | apply sendStatus_queued | apply queued_ite)

theorem execChainReportTimeout_queued {pq : List Instr} (s : State) (hk : Queued pq s) : QueuedR pq (execChainReportTimeout s) := by
  unfold execChainReportTimeout
  repeat' (with_reducible first | exact hk | refine queuedR_next ?_ | apply setFw_queued | apply checkChainDone_queued
                                | apply finishReport_queued | apply sendStatus_queued | apply queued_ite
                                | fail_if_no_progress refine queued_mk (queued_parts ?_) | split)

/-! ## Machine/HostMem.lean -/

theorem receiveMem_queued {pq : List Instr} (s : State) (link : Link) (tag : Nat) (requester : Option (BitVec 12)) (hpa : Nat)
    (isWrite : Bool) (data : Line) (enables : DWord) (poison : Bool) (ecc : EccOutcome) (hk : Queued pq s) :
    Queued pq (receiveMem s link tag requester hpa isWrite data enables poison ecc) := by
  unfold receiveMem
  repeat' (with_reducible first | exact hk | apply trained_queued | apply logEvent_queued | apply emit_queued | apply enterSlot_queued
                                | apply queued_ite | fail_if_no_progress refine queued_mk (queued_parts ?_) | split)

theorem execCxlMemRead_queued {pq : List Instr} (link : Link) (tag : Nat) (requester : Option (BitVec 12)) (hpa : Nat) (ecc :
    EccOutcome) (s : State) (hk : Queued pq s) :
    QueuedR pq (execCxlMemRead link tag requester hpa ecc s) := by
  unfold execCxlMemRead
  repeat' (with_reducible first | exact hk | refine queuedR_next ?_ | apply receiveMem_queued)

theorem execCxlMemWrite_queued {pq : List Instr} (link : Link) (tag : Nat) (requester : Option (BitVec 12)) (hpa : Nat)
    (data : Line) (enables : DWord) (poison : Bool) (ecc : EccOutcome) (s : State) (hk : Queued pq s) :
    QueuedR pq (execCxlMemWrite link tag requester hpa data enables poison ecc s) := by
  unfold execCxlMemWrite
  repeat' (with_reducible first | exact hk | refine queuedR_next ?_ | apply receiveMem_queued)

theorem execDemandFetchComplete_queued {pq : List Instr} (granule : Nat) (outcome : DecodeOutcome) (micros : Nat) (s : State) (hk :
    Queued pq s) :
    QueuedR pq (execDemandFetchComplete granule outcome micros s) := by
  unfold execDemandFetchComplete
  repeat' (with_reducible first | exact hk | refine queuedR_next ?_ | apply endFetch_queued)

theorem execWriteBufferDrain_queued {pq : List Instr} (line : Nat) (s : State) (hk : Queued pq s) :
    QueuedR pq (execWriteBufferDrain line s) := by
  unfold execWriteBufferDrain
  repeat' (with_reducible first | exact hk | refine queuedR_next ?_ | apply drainLine_queued | split)

theorem execWriteBufferRelease_queued {pq : List Instr} (line : Nat) (s : State) (hk : Queued pq s) :
    QueuedR pq (execWriteBufferRelease line s) := by
  unfold execWriteBufferRelease
  repeat' (with_reducible first | exact hk | refine queuedR_next ?_ | apply setChan_queued | apply releaseLine_queued
                                | apply queued_ite | fail_if_no_progress refine queued_mk (queued_parts ?_) | split)

theorem execStagingEntryClose_queued {pq : List Instr} (stripe : Nat) (s : State) (hk : Queued pq s) :
    QueuedR pq (execStagingEntryClose stripe s) := by
  unfold execStagingEntryClose
  repeat' (with_reducible first | exact hk | refine queuedR_next ?_ | apply closeStaging_queued)

theorem execHeldWriteAdmit_queued {pq : List Instr} (link : Link) (tag : Nat) (s : State) (hk : Queued pq s) :
    QueuedR pq (execHeldWriteAdmit link tag s) := by
  unfold execHeldWriteAdmit
  repeat' (with_reducible first | exact hk | refine queuedR_next ?_ | apply admitSlot_queued
                                | fail_if_no_progress refine queued_mk (queued_parts ?_) | split)

/-! ## Machine/Thermal.lean -/

theorem execDieSiteSample_queued {pq : List Instr} (readings : List (Option Int)) (s : State) (hk : Queued pq s) :
    QueuedR pq (execDieSiteSample readings s) := by
  unfold execDieSiteSample
  repeat' (with_reducible first | exact hk | refine queuedR_next ?_ | assumption | apply afterSamples_queued | apply sampleSite_queued
                                | apply queued_ite | refine queued_foldl ?_ _ ?_ | intro _ _ _ | split)

theorem notePointer_queued {pq : List Instr} (s : State) (i : Site) (ok : Bool) (hk : Queued pq s) : Queued pq (notePointer s i ok) := hk

theorem execSensorReadmit_queued {pq : List Instr} (site : Site) (s : State) (hk : Queued pq s) :
    QueuedR pq (execSensorReadmit site s) := by
  unfold execSensorReadmit
  repeat' (with_reducible first | exact hk | refine queuedR_next ?_ | apply noteCrossings_queued | apply checkMinimums_queued
                                | apply setSite_queued | apply queued_ite | fail_if_no_progress refine queued_mk (queued_parts ?_)
                                | split)

theorem execSensorRereadComplete_queued {pq : List Instr} (site : Site) (anyPlausible : Bool) (s : State) (hk : Queued pq s) :
    QueuedR pq (execSensorRereadComplete site anyPlausible s) := by
  unfold execSensorRereadComplete
  repeat' (with_reducible first | exact hk | refine queuedR_next ?_ | apply endTest_queued | apply countTransient_queued
                                | apply setSite_queued | apply checkMinimums_queued | apply raise_queued | apply queued_ite
                                | fail_if_no_progress refine queued_mk (queued_parts ?_) | split)

theorem setDramReef_queued {pq : List Instr} (s : State) (ch : DramCh) (b : Bool) (hk : Queued pq s) : Queued pq (setDramReef s ch b) := by
  unfold setDramReef
  repeat' (with_reducible first | exact hk | fail_if_no_progress refine queued_mk (queued_parts ?_))

theorem setNandBand_queued {pq : List Instr} (s : State) (ch : FlashCh) (f : NandBand → NandBand) (hk : Queued pq s) :
    Queued pq (setNandBand s ch f) := hk

theorem nandBandChange_queued {pq : List Instr} (s : State) (ch : FlashCh) (f : NandBand → NandBand) (hk : Queued pq s) :
    Queued pq (nandBandChange s ch f) := hk

theorem bandChange_queued {pq : List Instr} (s : State) (edge : BandEdge) (entering : Bool) (hk : Queued pq s) :
    Queued pq (bandChange s edge entering) := by
  unfold bandChange
  repeat' (with_reducible first | exact hk | apply tripSave_queued | apply setTrip_queued | apply setBand2x_queued
                                | apply setDramReef_queued | apply nandBandChange_queued | apply setNandBand_queued | apply queued_ite
                                | fail_if_no_progress refine queued_mk (queued_parts ?_) | split)

theorem execThermalBandDwell_queued {pq : List Instr} (edge : BandEdge) (entering : Bool) (s : State) (hk : Queued pq s) :
    QueuedR pq (execThermalBandDwell edge entering s) := by
  unfold execThermalBandDwell
  repeat' (with_reducible first | exact hk | refine queuedR_next ?_ | apply bandChange_queued | apply queued_ite | split)

theorem reefNotice_queued {pq : List Instr} (s : State) (cause old new : Nat) (m : Option Int) (hk : Queued pq s) :
    Queued pq (reefNotice s cause old new m) := by
  unfold reefNotice
  repeat' (with_reducible first | exact hk | apply raise_queued | apply queued_ite | fail_if_no_progress refine queued_mk (queued_parts ?_))

theorem execReefLevelStep_queued {pq : List Instr} (s : State) (hk : Queued pq s) : QueuedR pq (execReefLevelStep s) := by
  unfold execReefLevelStep
  repeat' (with_reducible first | exact hk | refine queuedR_next ?_ | apply reefNotice_queued | apply queued_ite
                                | fail_if_no_progress refine queued_mk (queued_parts ?_) | split)

theorem execAonBackstopTrip_queued {pq : List Instr} (s : State) (hk : Queued pq s) : QueuedR pq (execAonBackstopTrip s) := by
  unfold execAonBackstopTrip
  repeat' (with_reducible first | exact hk | refine queuedR_next ?_ | apply setTrip_queued | apply recordTrip_queued
                                | apply beginShutdown_queued | apply queued_ite | fail_if_no_progress refine queued_mk (queued_parts ?_))

theorem execAonSite0Sample_queued {pq : List Instr} (temp : Int) (s : State) (hk : Queued pq s) :
    QueuedR pq (execAonSite0Sample temp s) := by
  unfold execAonSite0Sample
  repeat' (with_reducible first | exact hk | refine queuedR_next ?_ | apply tryStart_queued | apply queued_ite
                                | fail_if_no_progress refine queued_mk (queued_parts ?_))

theorem execEmergencyStandbyExit_queued {pq : List Instr} (s : State) (hk : Queued pq s) : QueuedR pq (execEmergencyStandbyExit s) := by
  unfold execEmergencyStandbyExit
  repeat' (with_reducible first | exact hk | refine queuedR_next ?_ | apply startBoot_queued | apply queued_ite)

/-! ## Machine/LocalBus.lean -/

theorem execLbAlertUnmask_queued {pq : List Instr} (s : State) (hk : Queued pq s) : QueuedR pq (execLbAlertUnmask s) := by
  unfold execLbAlertUnmask
  repeat' (with_reducible first | exact hk | refine queuedR_next ?_ | apply setLb_queued | apply queued_ite)

theorem regulatorSilent_queued {pq : List Instr} (s : State) (r : Rail) (hk : Queued pq s) : Queued pq (regulatorSilent s r) := by
  unfold regulatorSilent
  repeat' (with_reducible first | exact hk | apply logEvent_queued | apply setLb_queued)

theorem pollRegulator_queued {pq : List Instr} (s : State) (rail : Rail) (status : Option (BitVec 16)) (hk : Queued pq s) :
    Queued pq (pollRegulator s rail status) := by
  unfold pollRegulator
  repeat' (with_reducible first | exact hk | apply regulatorSilent_queued | apply logEvent_queued | apply setLb_queued
                                | apply queued_ite | fail_if_no_progress refine queued_mk (queued_parts ?_) | split)

theorem execRegulatorPoll_queued {pq : List Instr} (rail : Rail) (status : Option (BitVec 16)) (s : State) (hk : Queued pq s) :
    QueuedR pq (execRegulatorPoll rail status s) := by
  unfold execRegulatorPoll
  repeat' (with_reducible first | exact hk | refine queuedR_next ?_ | apply pollRegulator_queued)

theorem readRemote_queued {pq : List Instr} (s : State) (r : Site × Option (BitVec 16)) (hk : Queued pq s) :
    Queued pq (readRemote s r) := by
  unfold readRemote
  repeat' (with_reducible first | exact hk | apply setLb_queued | apply sampleSite_queued | apply notePointer_queued
                                | apply queued_ite | fail_if_no_progress refine queued_mk (queued_parts ?_) | split)

theorem serviceAlert_queued {pq : List Instr} (s : State) (r : BitVec 7 × Option (BitVec 16)) (hk : Queued pq s) :
    Queued pq (serviceAlert s r) := by
  unfold serviceAlert
  repeat' (with_reducible first | exact hk | apply readRemote_queued | apply pollCharger_queued | apply pollRegulator_queued
                                | apply queued_ite | fail_if_no_progress refine queued_mk (queued_parts ?_) | split)

theorem takeAlerts_queued {pq : List Instr} (s : State) (reads : List (BitVec 7 × Option (BitVec 16))) (low : Bool) (hk : Queued pq s) :
    Queued pq (takeAlerts s reads low) := by
  unfold takeAlerts
  have h : Queued pq (reads.foldl serviceAlert s) := queued_foldl (fun s r h => serviceAlert_queued s r h) _ hk
  generalize reads.foldl serviceAlert s = t at h
  refine queued_ite hk ?_
  dsimp only
  split
  · exact logEvent_queued _ _ _ _ (setLb_queued _ _ h)
  · exact h

theorem execLocalBusCycle_queued {pq : List Instr} (readings : List (Site × Option (BitVec 16))) (araReads : List
    (BitVec 7 × Option (BitVec 16))) (alertLow : Bool) (window skipped : Nat) (s : State) (hk : Queued pq s) :
    QueuedR pq (execLocalBusCycle readings araReads alertLow window skipped s) := by
  unfold execLocalBusCycle
  repeat' (with_reducible first | exact hk | refine queuedR_next ?_ | assumption | apply takeAlerts_queued | apply readRemote_queued
                                | apply afterSamples_queued | apply queued_ite | refine queued_foldl ?_ _ ?_ | intro _ _ _
                                | fail_if_no_progress refine queued_mk (queued_parts ?_) | split)

theorem localFailed_queued {pq : List Instr} (s : State) (a : BitVec 7) (hk : Queued pq s) : Queued pq (localFailed s a) := by
  unfold localFailed
  repeat' (with_reducible first | exact hk | apply failedRead_queued | apply notePointer_queued | apply chargerSilent_queued
                                | apply identityPair_queued | apply regulatorSilent_queued | apply queued_ite
                                | fail_if_no_progress refine queued_mk (queued_parts ?_) | split)

theorem localTimeout_queued {pq : List Instr} (s : State) (a : BitVec 7) (c : ClearOutcome) (hk : Queued pq s) :
    Queued pq (localTimeout s a c) := by
  unfold localTimeout
  repeat' (with_reducible first | exact hk | apply logEvent_queued | apply setLb_queued | apply clearLocal_queued
                                | apply localFailed_queued | apply queued_ite | fail_if_no_progress refine queued_mk (queued_parts ?_)
                                | split)

theorem smbusTimeout_queued {pq : List Instr} (s : State) (a : BitVec 7) (c : ClearOutcome) (hk : Queued pq s) :
    Queued pq (smbusTimeout s a c) := by
  unfold smbusTimeout
  repeat' (with_reducible first | exact hk | apply logEvent_queued | apply setSmb_queued | apply clearSmbus_queued
                                | apply failTransfer_queued | apply queued_ite
                                | fail_if_no_progress refine queued_mk (queued_parts ?_) | split)

theorem execClockStretchTimeout_queued {pq : List Instr} (local_ : Bool) (address : BitVec 7) (cleared : ClearOutcome) (s : State)
    (hk : Queued pq s) :
    QueuedR pq (execClockStretchTimeout local_ address cleared s) := by
  unfold execClockStretchTimeout
  repeat' (with_reducible first | exact hk | refine queuedR_next ?_ | apply localTimeout_queued | apply smbusTimeout_queued
                                | apply queued_ite)

theorem execBusClearRetry_queued {pq : List Instr} (local_ : Bool) (cleared : ClearOutcome) (s : State) (hk : Queued pq s) :
    QueuedR pq (execBusClearRetry local_ cleared s) := by
  unfold execBusClearRetry
  repeat' (with_reducible first | exact hk | refine queuedR_next ?_ | apply clearLocal_queued | apply setLb_queued
                                | apply clearSmbus_queued | apply setSmb_queued | apply queued_ite
                                | fail_if_no_progress refine queued_mk (queued_parts ?_) | split)

/-! ## Machine/Mailbox.lean -/

theorem throughMailbox_queued {pq : List Instr} (s : State) (l : Link) (c : Instr) (f : State) (hk : Queued pq s) (hf : Queued pq f) :
    Queued pq (throughMailbox s l c f) := by
  unfold throughMailbox
  with_reducible refine queued_ite hk (queued_ite hf (queued_mk (queued_parts hk)))

theorem withMetadata_queued {pq : List Instr} (s : State) (l : Link) (f : State) (hk : Queued pq s) (hf : Queued pq f) :
    Queued pq (withMetadata s l f) := by
  unfold withMetadata
  exact queued_ite (emit_queued _ _ hk) (queued_ite (emit_queued _ _ hk) hf)

theorem doSetShutdownState_queued {pq : List Instr} (link : Link) (dirty : Bool) (s : State) (hk : Queued pq s) :
    Queued pq (doSetShutdownState link dirty s) := by
  unfold doSetShutdownState
  repeat' (with_reducible first | exact hk | apply withMetadata_queued | apply emit_queued
                                | fail_if_no_progress refine queued_mk (queued_parts ?_))

theorem execSetShutdownState_queued {pq : List Instr} (link : Link) (dirty : Bool) (s : State) (hk : Queued pq s) :
    QueuedR pq (execSetShutdownState link dirty s) := by
  unfold execSetShutdownState
  repeat' (with_reducible first | exact hk | refine queuedR_next ?_ | apply throughMailbox_queued | apply doSetShutdownState_queued)

theorem doGetHealthInfo_queued {pq : List Instr} (link : Link) (s : State) (hk : Queued pq s) : Queued pq (doGetHealthInfo link s) := by
  unfold doGetHealthInfo
  repeat' (with_reducible first | exact hk | apply withMetadata_queued | apply emit_queued
                                | fail_if_no_progress refine queued_mk (queued_parts ?_))

theorem execGetHealthInfo_queued {pq : List Instr} (link : Link) (s : State) (hk : Queued pq s) :
    QueuedR pq (execGetHealthInfo link s) := by
  unfold execGetHealthInfo
  repeat' (with_reducible first | exact hk | refine queuedR_next ?_ | apply throughMailbox_queued | apply doGetHealthInfo_queued)

theorem doGetPoisonList_queued {pq : List Instr} (link : Link) (first : Nat) (length : Nat) (s : State) (hk : Queued pq s) :
    Queued pq (doGetPoisonList link first length s) := by
  unfold doGetPoisonList
  repeat' (with_reducible first | exact hk | apply withMetadata_queued | apply emit_queued
                                | fail_if_no_progress refine queued_mk (queued_parts ?_))

theorem execGetPoisonList_queued {pq : List Instr} (link : Link) (first : Nat) (length : Nat) (s : State) (hk : Queued pq s) :
    QueuedR pq (execGetPoisonList link first length s) := by
  unfold execGetPoisonList
  repeat' (with_reducible first | exact hk | refine queuedR_next ?_ | apply throughMailbox_queued | apply doGetPoisonList_queued)

theorem writeClean_queued {pq : List Instr} (s : State) (line : Nat) (data : Line) (hk : Queued pq s) :
    Queued pq (writeClean s line data) := by
  unfold writeClean
  repeat' (with_reducible first | exact hk | apply zeroFill_queued | apply startFetch_queued | apply waitFetch_queued
                                | apply dropPoison_queued | apply queued_ite | fail_if_no_progress refine queued_mk (queued_parts ?_)
                                | split)

theorem doClearPoison_queued {pq : List Instr} (link : Link) (dpa : Nat) (data : Line) (s : State) (hk : Queued pq s) :
    Queued pq (doClearPoison link dpa data s) := by
  unfold doClearPoison
  repeat' (with_reducible first | exact hk | apply withMetadata_queued | apply emit_queued | apply writeClean_queued
                                | apply queued_ite | split)

theorem execClearPoison_queued {pq : List Instr} (link : Link) (dpa : Nat) (data : Line) (s : State) (hk : Queued pq s) :
    QueuedR pq (execClearPoison link dpa data s) := by
  unfold execClearPoison
  repeat' (with_reducible first | exact hk | refine queuedR_next ?_ | apply throughMailbox_queued | apply doClearPoison_queued)

theorem doInjectPoison_queued {pq : List Instr} (link : Link) (dpa : Nat) (s : State) (hk : Queued pq s) :
    Queued pq (doInjectPoison link dpa s) := by
  unfold doInjectPoison
  repeat' (with_reducible first | exact hk | apply withMetadata_queued | apply emit_queued | apply addPoison_queued | apply queued_ite
                                | fail_if_no_progress refine queued_mk (queued_parts ?_) | split)

theorem execInjectPoison_queued {pq : List Instr} (link : Link) (dpa : Nat) (s : State) (hk : Queued pq s) :
    QueuedR pq (execInjectPoison link dpa s) := by
  unfold execInjectPoison
  repeat' (with_reducible first | exact hk | refine queuedR_next ?_ | apply throughMailbox_queued | apply doInjectPoison_queued)

theorem doGetFwInfo_queued {pq : List Instr} (link : Link) (s : State) (hk : Queued pq s) : Queued pq (doGetFwInfo link s) := by
  unfold doGetFwInfo
  repeat' (with_reducible first | exact hk | apply emit_queued)

theorem execGetFwInfo_queued {pq : List Instr} (link : Link) (s : State) (hk : Queued pq s) : QueuedR pq (execGetFwInfo link s) := by
  unfold execGetFwInfo
  repeat' (with_reducible first | exact hk | refine queuedR_next ?_ | apply throughMailbox_queued | apply doGetFwInfo_queued)

theorem doLabelStorageWrite_queued {pq : List Instr} (link : Link) (offset : Nat) (data : List Byte) (s : State) (hk : Queued pq s) :
    Queued pq (doLabelStorageWrite link offset data s) := by
  unfold doLabelStorageWrite
  repeat' (with_reducible first | exact hk | assumption | apply withMetadata_queued | apply emit_queued | apply queued_ite
                                | refine queued_foldl ?_ _ ?_ | intro _ _ _ | fail_if_no_progress refine queued_mk (queued_parts ?_)
                                | split)

theorem execLabelStorageWrite_queued {pq : List Instr} (link : Link) (offset : Nat) (data : List Byte) (s : State) (hk : Queued pq s) :
    QueuedR pq (execLabelStorageWrite link offset data s) := by
  unfold execLabelStorageWrite
  repeat' (with_reducible first | exact hk | refine queuedR_next ?_ | apply throughMailbox_queued | apply doLabelStorageWrite_queued)

theorem runMailbox_queued {pq : List Instr} (s : State) (c : Instr) (hk : Queued pq s) : Queued pq (runMailbox s c) := by
  unfold runMailbox
  split
  · exact doSetShutdownState_queued _ _ _ hk
  · exact doGetHealthInfo_queued _ _ hk
  · exact doGetPoisonList_queued _ _ _ _ hk
  · exact doClearPoison_queued _ _ _ _ hk
  · exact doInjectPoison_queued _ _ _ hk
  · exact doGetFwInfo_queued _ _ hk
  · exact doLabelStorageWrite_queued _ _ _ _ hk
  · exact hk

theorem serveMailbox_queued {pq : List Instr} (s : State) (l : Link) (hk : Queued pq s) : Queued pq (serveMailbox s l) := by
  unfold serveMailbox
  split
  · exact queued_ite (runMailbox_queued _ _ (queued_mk (queued_parts hk))) (queued_ite hk (queued_mk (queued_parts hk)))
  · exact hk

theorem execSpareSwapComplete_queued {pq : List Instr} (engine : EngineId) (s : State) (hk : Queued pq s) :
    QueuedR pq (execSpareSwapComplete engine s) := by
  unfold execSpareSwapComplete
  repeat' (with_reducible first | exact hk | refine queuedR_next ?_ | assumption | apply runHeld_queued | apply serveMailbox_queued
                                | apply endSwap_queued | refine queued_foldl ?_ _ ?_ | intro _ _ _)

/-! ## Machine/Persist.lean -/

theorem execCeilingUpdate_queued {pq : List Instr} (s : State) (hk : Queued pq s) : QueuedR pq (execCeilingUpdate s) := by
  unfold execCeilingUpdate
  repeat' (with_reducible first | exact hk | refine queuedR_next ?_ | apply loopUpdate_queued | apply queued_ite | split)

theorem execHeatHalving_queued {pq : List Instr} (s : State) (hk : Queued pq s) : QueuedR pq (execHeatHalving s) := by
  unfold execHeatHalving
  repeat' (with_reducible first | exact hk | refine queuedR_next ?_ | apply halveHeat_queued | apply queued_ite)

theorem execFlushIssue_queued {pq : List Instr} (ch : FlashCh) (errs : List (Nat × EccOutcome)) (s : State) (hk : Queued pq s) :
    QueuedR pq (execFlushIssue ch errs s) := by
  unfold execFlushIssue
  repeat' (with_reducible first | exact hk | refine queuedR_next ?_ | apply flushOn_queued | apply issueWaiting_queued)

theorem execDirtyNowRefresh_queued {pq : List Instr} (s : State) (hk : Queued pq s) : QueuedR pq (execDirtyNowRefresh s) := by
  unfold execDirtyNowRefresh
  repeat' (with_reducible first | exact hk | refine queuedR_next ?_ | apply queued_ite
                                | fail_if_no_progress refine queued_mk (queued_parts ?_))

/-! ## Machine/Qmp.lean -/

theorem execGrantRest_queued {pq : List Instr} (hdr : QmpHdr) (s : State) (hk : Queued pq s) : QueuedR pq (execGrantRest hdr s) := by
  unfold execGrantRest
  repeat' (with_reducible first | exact hk | refine queuedR_next ?_ | apply receive_queued)

theorem execEsbGet_queued {pq : List Instr} (hdr : QmpHdr) (s : State) (hk : Queued pq s) : QueuedR pq (execEsbGet hdr s) := by
  unfold execEsbGet
  repeat' (with_reducible first | exact hk | refine queuedR_next ?_ | apply receive_queued)

theorem execEsbRestore_queued {pq : List Instr} (hdr : QmpHdr) (block : List Byte) (s : State) (hk : Queued pq s) :
    QueuedR pq (execEsbRestore hdr block s) := by
  unfold execEsbRestore
  repeat' (with_reducible first | exact hk | refine queuedR_next ?_ | apply receive_queued)

theorem execShipMode_queued {pq : List Instr} (hdr : QmpHdr) (s : State) (hk : Queued pq s) : QueuedR pq (execShipMode hdr s) := by
  unfold execShipMode
  repeat' (with_reducible first | exact hk | refine queuedR_next ?_ | apply receive_queued)

theorem execSaveAndOff_queued {pq : List Instr} (hdr : QmpHdr) (s : State) (hk : Queued pq s) : QueuedR pq (execSaveAndOff hdr s) := by
  unfold execSaveAndOff
  repeat' (with_reducible first | exact hk | refine queuedR_next ?_ | apply receive_queued)

theorem execClearTrip_queued {pq : List Instr} (hdr : QmpHdr) (s : State) (hk : Queued pq s) : QueuedR pq (execClearTrip hdr s) := by
  unfold execClearTrip
  repeat' (with_reducible first | exact hk | refine queuedR_next ?_ | apply receive_queued)

theorem execClearRailLatch_queued {pq : List Instr} (hdr : QmpHdr) (s : State) (hk : Queued pq s) :
    QueuedR pq (execClearRailLatch hdr s) := by
  unfold execClearRailLatch
  repeat' (with_reducible first | exact hk | refine queuedR_next ?_ | apply receive_queued)

theorem execNegotiate_queued {pq : List Instr} (hdr : QmpHdr) (versions tag : Word) (flags : Byte) (chunkMs : BitVec 16) (s : State)
    (hk : Queued pq s) :
    QueuedR pq (execNegotiate hdr versions tag flags chunkMs s) := by
  unfold execNegotiate
  repeat' (with_reducible first | exact hk | refine queuedR_next ?_ | apply receive_queued)

theorem execNegotiateClose_queued {pq : List Instr} (hdr : QmpHdr) (s : State) (hk : Queued pq s) :
    QueuedR pq (execNegotiateClose hdr s) := by
  unfold execNegotiateClose
  repeat' (with_reducible first | exact hk | refine queuedR_next ?_ | apply receive_queued)

theorem execPersistStatus_queued {pq : List Instr} (hdr : QmpHdr) (s : State) (hk : Queued pq s) :
    QueuedR pq (execPersistStatus hdr s) := by
  unfold execPersistStatus
  repeat' (with_reducible first | exact hk | refine queuedR_next ?_ | apply receive_queued)

theorem execLogRead_queued {pq : List Instr} (hdr : QmpHdr) (start count : Word) (s : State) (hk : Queued pq s) :
    QueuedR pq (execLogRead hdr start count s) := by
  unfold execLogRead
  repeat' (with_reducible first | exact hk | refine queuedR_next ?_ | apply receive_queued)

theorem execLastwordsRead_queued {pq : List Instr} (hdr : QmpHdr) (start count : Byte) (s : State) (hk : Queued pq s) :
    QueuedR pq (execLastwordsRead hdr start count s) := by
  unfold execLastwordsRead
  repeat' (with_reducible first | exact hk | refine queuedR_next ?_ | apply receive_queued)

theorem execFwChunk_queued {pq : List Instr} (hdr : QmpHdr) (package offset total crc rsv : Word) (data : List Byte) (s : State) (hk
    : Queued pq s) :
    QueuedR pq (execFwChunk hdr package offset total crc rsv data s) := by
  unfold execFwChunk
  repeat' (with_reducible first | exact hk | refine queuedR_next ?_ | apply receive_queued)

theorem execFwActivate_queued {pq : List Instr} (hdr : QmpHdr) (package : Word) (flags : Byte) (s : State) (hk : Queued pq s) :
    QueuedR pq (execFwActivate hdr package flags s) := by
  unfold execFwActivate
  repeat' (with_reducible first | exact hk | refine queuedR_next ?_ | apply receive_queued)

theorem execFwLockSet_queued {pq : List Instr} (hdr : QmpHdr) (s : State) (hk : Queued pq s) : QueuedR pq (execFwLockSet hdr s) := by
  unfold execFwLockSet
  repeat' (with_reducible first | exact hk | refine queuedR_next ?_ | apply receive_queued)

theorem execFwLockClear_queued {pq : List Instr} (hdr : QmpHdr) (s : State) (hk : Queued pq s) : QueuedR pq (execFwLockClear hdr s) := by
  unfold execFwLockClear
  repeat' (with_reducible first | exact hk | refine queuedR_next ?_ | apply receive_queued)

theorem execSelftest_queued {pq : List Instr} (hdr : QmpHdr) (target : Byte) (index : BitVec 16) (s : State) (hk : Queued pq s) :
    QueuedR pq (execSelftest hdr target index s) := by
  unfold execSelftest
  repeat' (with_reducible first | exact hk | refine queuedR_next ?_ | apply receive_queued)

theorem execDebugChallenge_queued {pq : List Instr} (hdr : QmpHdr) (s : State) (hk : Queued pq s) :
    QueuedR pq (execDebugChallenge hdr s) := by
  unfold execDebugChallenge
  repeat' (with_reducible first | exact hk | refine queuedR_next ?_ | apply receive_queued)

theorem execDebugResponse_queued {pq : List Instr} (hdr : QmpHdr) (signature : List Byte) (verifies : Bool) (s : State) (hk : Queued pq
    s) :
    QueuedR pq (execDebugResponse hdr signature verifies s) := by
  unfold execDebugResponse
  repeat' (with_reducible first | exact hk | refine queuedR_next ?_ | apply receive_queued)

theorem execNoticeAck_queued {pq : List Instr} (hdr : QmpHdr) (first last : Word) (s : State) (hk : Queued pq s) :
    QueuedR pq (execNoticeAck hdr first last s) := by
  unfold execNoticeAck
  repeat' (with_reducible first | exact hk | refine queuedR_next ?_ | apply receive_queued)

theorem wholeMessage_queued {pq : List Instr} (s : State) (c : Carrier) (source : BitVec 16) (bytes : List Byte) (verifies : Bool)
    (hk : Queued pq s) :
    Queued pq (wholeMessage s c source bytes verifies) := by
  unfold wholeMessage
  repeat' (with_reducible first | exact hk | apply receiveOp_queued | apply queued_ite)

theorem dropPartial_queued {pq : List Instr} (s : State) (c : Carrier) (source : BitVec 16) (tag : Nat) (hk : Queued pq s) :
    Queued pq (dropPartial s c source tag) := hk

theorem takePacket_queued {pq : List Instr} (s : State) (c : Carrier) (source : BitVec 16) (som eom : Bool) (seq : Fin 4) (tag : Nat)
    (payload : List Byte) (verifies : Bool) (hk : Queued pq s) :
    Queued pq (takePacket s c source som eom seq tag payload verifies) := by
  unfold takePacket
  repeat' (with_reducible first | exact hk | apply dropPartial_queued | apply wholeMessage_queued | apply setQmp_queued
                                | apply queued_ite | fail_if_no_progress refine queued_mk (queued_parts ?_) | split | dsimp only)

theorem execMctpPacket_queued {pq : List Instr} (carrier : Carrier) (source : BitVec 16) (command : Byte) (rate : Fin 3) (som eom :
    Bool) (seq : Fin 4) (tag : Nat) (pecOk : Bool) (payload : List Byte) (verifies : Bool) (s : State) (hk : Queued pq s) :
    QueuedR pq (execMctpPacket carrier source command rate som eom seq tag pecOk payload verifies s) := by
  unfold execMctpPacket
  repeat' (with_reducible first | exact hk | refine queuedR_next ?_ | apply takePacket_queued | apply dropPartial_queued
                                | apply setSmb_queued | apply completeSmb_queued | apply queued_ite
                                | fail_if_no_progress refine queued_mk (queued_parts ?_) | split)

theorem execMctpMessageTimeout_queued {pq : List Instr} (carrier : Carrier) (s : State) (hk : Queued pq s) :
    QueuedR pq (execMctpMessageTimeout carrier s) := by
  unfold execMctpMessageTimeout
  repeat' (with_reducible first | exact hk | refine queuedR_next ?_ | apply setQmp_queued)

/-! ## Machine/Rails.lean -/

theorem execAonPowerOnReset_queued {pq : List Instr} (straps : Byte) (aux : Bool) (smbus : Option ClearOutcome) (s : State)
    (hk : Queued pq s) :
    QueuedR pq (execAonPowerOnReset straps aux smbus s) := by
  unfold execAonPowerOnReset
  repeat' (with_reducible first | exact hk | refine queuedR_next ?_ | apply aonLost_queued | apply tryStart_queued
                                | apply clearSmbus_queued | apply queued_ite | fail_if_no_progress refine queued_mk (queued_parts ?_)
                                | split)

theorem execAonPowerLoss_queued {pq : List Instr} (s : State) (hk : Queued pq s) : QueuedR pq (execAonPowerLoss s) := by
  unfold execAonPowerLoss
  repeat' (with_reducible first | exact hk | refine queuedR_next ?_ | apply aonLost_queued | apply queued_ite)

theorem execAuxInputRemoved_queued {pq : List Instr} (s : State) (hk : Queued pq s) : QueuedR pq (execAuxInputRemoved s) := by
  unfold execAuxInputRemoved
  repeat' (with_reducible first | exact hk | refine queuedR_next ?_ | apply aonLost_queued | apply queued_ite
                                | fail_if_no_progress refine queued_mk (queued_parts ?_))

theorem afterInputFall_queued {pq : List Instr} (s : State) (hk : Queued pq s) : Queued pq (afterInputFall s) := by
  unfold afterInputFall
  repeat' (with_reducible first | exact hk | apply queued_ite | fail_if_no_progress refine queued_mk (queued_parts ?_))

theorem inputIsGood_queued {pq : List Instr} (s : State) (straps : Byte) (hk : Queued pq s) : Queued pq (inputIsGood s straps) := hk

theorem execInputQualified_queued {pq : List Instr} (straps : Byte) (s : State) (hk : Queued pq s) :
    QueuedR pq (execInputQualified straps s) := by
  unfold execInputQualified
  repeat' (with_reducible first | exact hk | refine queuedR_next ?_ | apply tryStart_queued | apply inputIsGood_queued
                                | apply afterInputFall_queued | apply beginInterval_queued | apply queued_ite)

theorem retryNotice_queued {pq : List Instr} (s : State) (r : Rail) (hk : Queued pq s) : Queued pq (retryNotice s r) := by
  unfold retryNotice
  repeat' (with_reducible first | exact hk | apply raise_queued | apply queued_ite)

theorem execRailQualified_queued {pq : List Instr} (rail : Rail) (halfMs : Nat) (s : State) (hk : Queued pq s) :
    QueuedR pq (execRailQualified rail halfMs s) := by
  unfold execRailQualified
  repeat' (with_reducible first | exact hk | refine queuedR_next ?_ | apply setRail_queued | apply sequenceNext_queued
                                | apply retryNotice_queued | apply recoverRail_queued | apply queued_ite
                                | fail_if_no_progress refine queued_mk (queued_parts ?_))

theorem failToCome_queued {pq : List Instr} (s : State) (r : Rail) (hk : Queued pq s) : Queued pq (failToCome s r) := by
  unfold failToCome
  repeat' (with_reducible first | exact hk | apply setRail_queued | apply beginShutdown_queued
                                | fail_if_no_progress refine queued_mk (queued_parts ?_) | split | dsimp only)

theorem execRailTimeout_queued {pq : List Instr} (rail : Rail) (s : State) (hk : Queued pq s) : QueuedR pq (execRailTimeout rail s) := by
  unfold execRailTimeout
  repeat' (with_reducible first | exact hk | refine queuedR_next ?_ | apply setRail_queued | apply failToCome_queued
                                | apply queued_ite | fail_if_no_progress refine queued_mk (queued_parts ?_) | split)

theorem execRailRetryReenable_queued {pq : List Instr} (rail : Rail) (s : State) (hk : Queued pq s) :
    QueuedR pq (execRailRetryReenable rail s) := by
  unfold execRailRetryReenable
  repeat' (with_reducible first | exact hk | refine queuedR_next ?_ | apply enableRail_queued | apply queued_ite | split)

theorem execPgFall_queued {pq : List Instr} (rail : Rail) (s : State) (hk : Queued pq s) : QueuedR pq (execPgFall rail s) := by
  unfold execPgFall
  repeat' (with_reducible first | exact hk | refine queuedR_next ?_ | apply logEvent_queued | apply setRail_queued | apply queued_ite)

theorem execRailFault_queued {pq : List Instr} (rail : Rail) (s : State) (hk : Queued pq s) : QueuedR pq (execRailFault rail s) := by
  unfold execRailFault
  repeat' (with_reducible first | exact hk | refine queuedR_next ?_ | apply faultRail_queued | apply queued_ite)

theorem execRailRecoveryTimeout_queued {pq : List Instr} (rail : Rail) (s : State) (hk : Queued pq s) :
    QueuedR pq (execRailRecoveryTimeout rail s) := by
  unfold execRailRecoveryTimeout
  repeat' (with_reducible first | exact hk | refine queuedR_next ?_ | apply react_queued | apply setRail_queued | apply queued_ite)

theorem execIgnoreFaultNotice_queued {pq : List Instr} (rail : Rail) (s : State) (hk : Queued pq s) :
    QueuedR pq (execIgnoreFaultNotice rail s) := by
  unfold execIgnoreFaultNotice
  repeat' (with_reducible first | exact hk | refine queuedR_next ?_ | apply railFaultNotice_queued | apply setRail_queued
                                | apply queued_ite)

theorem execGroupResequence_queued {pq : List Instr} (group : Fin 3) (s : State) (hk : Queued pq s) :
    QueuedR pq (execGroupResequence group s) := by
  unfold execGroupResequence
  repeat' (with_reducible first | exact hk | refine queuedR_next ?_ | apply beginSequence_queued | apply groupBack_queued
                                | apply queued_ite | fail_if_no_progress refine queued_mk (queued_parts ?_) | split)

theorem execResetReactionRestart_queued {pq : List Instr} (s : State) (hk : Queued pq s) : QueuedR pq (execResetReactionRestart s) := by
  unfold execResetReactionRestart
  repeat' (with_reducible first | exact hk | refine queuedR_next ?_ | apply beginInterval_queued | apply startBoot_queued
                                | apply enterStandby_queued | apply queued_ite
                                | fail_if_no_progress refine queued_mk (queued_parts ?_) | split)

theorem execRailDownStep_queued {pq : List Instr} (s : State) (hk : Queued pq s) : QueuedR pq (execRailDownStep s) := by
  unfold execRailDownStep
  repeat' (with_reducible first | exact hk | refine queuedR_next ?_ | apply downStep_queued | apply queued_ite)

/-! ## Machine/Restore.lean -/

theorem formatPath_queued {pq : List Instr} (s : State) (c : Settings) (hk : Queued pq s) : Queued pq (formatPath s c) := by
  unfold formatPath
  repeat' (with_reducible first | exact hk | apply beginFormat_queued | apply rollBack_queued | apply chosen_queued)

theorem execGenerationSelect_queued {pq : List Instr} (s : State) (hk : Queued pq s) : QueuedR pq (execGenerationSelect s) := by
  unfold execGenerationSelect
  repeat' (with_reducible first | exact hk | refine queuedR_next ?_ | apply formatPath_queued | apply useGeneration_queued
                                | apply granMismatch_queued | apply queued_ite | split)

theorem poisonLostEntries_queued {pq : List Instr} (s : State) (hk : Queued pq s) : Queued pq (poisonLostEntries s) := by
  unfold poisonLostEntries
  repeat' (with_reducible first | exact hk | apply poisonLost_queued)

theorem loadImage_queued {pq : List Instr} (s : State) (g : Generation) (unreadable : List Nat) (hk : Queued pq s) :
    Queued pq (loadImage s g unreadable) := by
  unfold loadImage
  repeat' (with_reducible first | exact hk | assumption | apply poisonLostEntries_queued | apply raise_queued | apply queued_ite
                                | refine queued_foldl ?_ _ ?_ | intro _ _ _ | fail_if_no_progress refine queued_mk (queued_parts ?_)
                                | split)

theorem beginRestore_queued {pq : List Instr} (s : State) (hk : Queued pq s) : Queued pq (beginRestore s) := by
  unfold beginRestore
  repeat' (with_reducible first | exact hk | apply queued_ite | fail_if_no_progress refine queued_mk (queued_parts ?_) | split)

theorem execManifestLoadComplete_queued {pq : List Instr} (unreadable : List Nat) (s : State) (hk : Queued pq s) :
    QueuedR pq (execManifestLoadComplete unreadable s) := by
  unfold execManifestLoadComplete
  repeat' (with_reducible first | exact hk | refine queuedR_next ?_ | apply loadImage_queued | apply beginRestore_queued
                                | apply mergeAon_queued | apply setQmp_queued | apply runHeld_queued | apply renewMoves_queued
                                | apply beginCheckpoint_queued | apply endRestore_queued | apply step9_queued | apply queued_ite
                                | fail_if_no_progress refine queued_mk (queued_parts ?_) | split)

theorem execBackgroundRestoreGranule_queued {pq : List Instr} (s : State) (hk : Queued pq s) :
    QueuedR pq (execBackgroundRestoreGranule s) := by
  unfold execBackgroundRestoreGranule
  repeat' (with_reducible first | exact hk | refine queuedR_next ?_ | apply queued_ite
                                | fail_if_no_progress refine queued_mk (queued_parts ?_) | split)

theorem execRestoreGranuleComplete_queued {pq : List Instr} (granule : Nat) (outcome : DecodeOutcome) (s : State) (hk : Queued pq s) :
    QueuedR pq (execRestoreGranuleComplete granule outcome s) := by
  unfold execRestoreGranuleComplete
  repeat' (with_reducible first | exact hk | refine queuedR_next ?_ | apply bringIn_queued | apply noteCopyRead_queued
                                | apply queued_ite | fail_if_no_progress refine queued_mk (queued_parts ?_) | split)

theorem execRestoreSlow_queued {pq : List Instr} (s : State) (hk : Queued pq s) : QueuedR pq (execRestoreSlow s) := by
  unfold execRestoreSlow
  repeat' (with_reducible first | exact hk | refine queuedR_next ?_ | apply raise_queued | apply queued_ite
                                | fail_if_no_progress refine queued_mk (queued_parts ?_))

theorem allDirty_queued {pq : List Instr} (s : State) (hk : Queued pq s) : Queued pq (allDirty s) := hk

theorem retainedService_queued {pq : List Instr} (s : State) (hk : Queued pq s) : Queued pq (retainedService s) := by
  unfold retainedService
  repeat' (with_reducible first | exact hk | apply debugReturns_queued | apply hold_queued | apply beginService_queued
                                | apply runHeld_queued | apply renewMoves_queued | apply resumePass_queued | apply queued_ite
                                | fail_if_no_progress refine queued_mk (queued_parts ?_) | split)

theorem notRetained_queued {pq : List Instr} (s : State) (hk : Queued pq s) : Queued pq (notRetained s) := by
  unfold notRetained
  repeat' (with_reducible first | exact hk | apply dramGone_queued | apply setShroudMode_queued
                                | fail_if_no_progress refine queued_mk (queued_parts ?_))

theorem execRetainedPathCheck_queued {pq : List Instr} (bitmapOk settingsOk : Bool) (s : State) (hk : Queued pq s) :
    QueuedR pq (execRetainedPathCheck bitmapOk settingsOk s) := by
  unfold execRetainedPathCheck
  repeat' (with_reducible first | exact hk | refine queuedR_next ?_ | apply notRetained_queued | apply retainedService_queued
                                | apply ceilingEvent_queued | apply allDirty_queued | apply queued_ite)

/-! ## Machine/Save.lean -/

theorem endReset_queued {pq : List Instr} (s : State) (t : Trigger) (hk : Queued pq s) : Queued pq (endReset s t) := by
  unfold endReset
  repeat' (with_reducible first | exact hk | apply resumeBoot_queued | apply holdTrigger_queued | apply queued_ite
                                | fail_if_no_progress refine queued_mk (queued_parts ?_) | split)

theorem inputTrigger_queued {pq : List Instr} (s : State) (t : Trigger) (hk : Queued pq s) : Queued pq (inputTrigger s t) := by
  unfold inputTrigger
  repeat' (with_reducible first | exact hk | apply endReset_queued | apply triggerSave_queued | apply queued_ite | split)

theorem execPfNFall_queued {pq : List Instr} (s : State) (hk : Queued pq s) : QueuedR pq (execPfNFall s) := by
  unfold execPfNFall
  repeat' (with_reducible first | exact hk | refine queuedR_next ?_ | apply inputTrigger_queued
                                | fail_if_no_progress refine queued_mk (queued_parts ?_))

theorem execVinSenseDrop_queued {pq : List Instr} (s : State) (hk : Queued pq s) : QueuedR pq (execVinSenseDrop s) := by
  unfold execVinSenseDrop
  repeat' (with_reducible first | exact hk | refine queuedR_next ?_ | apply inputTrigger_queued
                                | fail_if_no_progress refine queued_mk (queued_parts ?_))

theorem beginFlush_queued {pq : List Instr} (s : State) (hk : Queued pq s) : Queued pq (beginFlush s) := hk

theorem execVinSenseHoldUp_queued {pq : List Instr} (s : State) (hk : Queued pq s) : QueuedR pq (execVinSenseHoldUp s) := by
  unfold execVinSenseHoldUp
  repeat' (with_reducible first | exact hk | refine queuedR_next ?_ | apply assertHold_queued | apply goOver_queued | apply queued_ite
                                | fail_if_no_progress refine queued_mk (queued_parts ?_))

theorem beginStores_queued {pq : List Instr} (s : State) (hk : Queued pq s) : Queued pq (beginStores s) := by
  unfold beginStores
  repeat' (with_reducible first | exact hk | apply switchOver_queued | apply beginFlush_queued | apply queued_ite
                                | fail_if_no_progress refine queued_mk (queued_parts ?_) | split)

theorem execSaveIsolate_queued {pq : List Instr} (s : State) (hk : Queued pq s) : QueuedR pq (execSaveIsolate s) := by
  unfold execSaveIsolate
  repeat' (with_reducible first | exact hk | refine queuedR_next ?_ | apply idleLinks_queued | apply beginStores_queued
                                | apply switchRailOff_queued | apply queued_ite | fail_if_no_progress refine queued_mk (queued_parts ?_))

theorem execSaveRegulationConfirmed_queued {pq : List Instr} (s : State) (hk : Queued pq s) :
    QueuedR pq (execSaveRegulationConfirmed s) := by
  unfold execSaveRegulationConfirmed
  repeat' (with_reducible first | exact hk | refine queuedR_next ?_ | apply beginFlush_queued | apply queued_ite
                                | fail_if_no_progress refine queued_mk (queued_parts ?_) | split)

theorem feedEstimator_queued {pq : List Instr} (s : State) (drawn : Nat) (hk : Queued pq s) : Queued pq (feedEstimator s drawn) := by
  unfold feedEstimator
  repeat' (with_reducible first | exact hk | apply countDrawn_queued | apply queued_ite | split)

theorem execChargeMarkCheck_queued {pq : List Instr} (drawn : Nat) (s : State) (hk : Queued pq s) :
    QueuedR pq (execChargeMarkCheck drawn s) := by
  unfold execChargeMarkCheck
  repeat' (with_reducible first | exact hk | refine queuedR_next ?_ | apply feedEstimator_queued | apply checkOverrun_queued
                                | apply stopFlush_queued | apply queued_ite | fail_if_no_progress refine queued_mk (queued_parts ?_)
                                | split)

theorem dropStore_queued {pq : List Instr} (s : State) (hk : Queued pq s) : Queued pq (dropStore s) := hk

theorem execSaveStoreFailure_queued {pq : List Instr} (s : State) (hk : Queued pq s) : QueuedR pq (execSaveStoreFailure s) := by
  unfold execSaveStoreFailure
  repeat' (with_reducible first | exact hk | refine queuedR_next ?_ | apply changeStore_queued | apply dropStore_queued | apply queued_ite)

theorem execSaveVoltageGuard_queued {pq : List Instr} (s : State) (hk : Queued pq s) : QueuedR pq (execSaveVoltageGuard s) := by
  unfold execSaveVoltageGuard
  repeat' (with_reducible first | exact hk | refine queuedR_next ?_ | apply stopFlush_queued | apply queued_ite | split)

theorem execSaveFlushEnd_queued {pq : List Instr} (s : State) (hk : Queued pq s) : QueuedR pq (execSaveFlushEnd s) := by
  unfold execSaveFlushEnd
  repeat' (with_reducible first | exact hk | refine queuedR_next ?_ | apply stopFlush_queued | apply queued_ite
                                | fail_if_no_progress refine queued_mk (queued_parts ?_) | split)

theorem saveRecord_queued {pq : List Instr} (s : State) (hk : Queued pq s) : Queued pq (saveRecord s) := by
  unfold saveRecord
  repeat' (with_reducible first | exact hk | apply logEvent_queued | apply queued_ite
                                | fail_if_no_progress refine queued_mk (queued_parts ?_))

theorem beginSaveSeal_queued {pq : List Instr} (s : State) (c : Settings) (j : SealJob) (hk : Queued pq s) :
    Queued pq (beginSaveSeal s c j) := by
  unfold beginSaveSeal
  repeat' (with_reducible first | exact hk | apply saveRecord_queued | apply sweepSuppressed_queued | apply startRecord_queued
                                | apply programPartial_queued | fail_if_no_progress refine queued_mk (queued_parts ?_))

theorem execSaveManifestComplete_queued {pq : List Instr} (s : State) (hk : Queued pq s) : QueuedR pq (execSaveManifestComplete s) := by
  unfold execSaveManifestComplete
  repeat' (with_reducible first | exact hk | refine queuedR_next ?_ | apply sealedSave_queued | apply dropJob_queued
                                | apply stage_queued | apply beginSaveSeal_queued | apply queued_ite
                                | fail_if_no_progress refine queued_mk (queued_parts ?_) | split)

theorem saveTrip_queued {pq : List Instr} (s : State) (hk : Queued pq s) : Queued pq (saveTrip s) := by
  unfold saveTrip
  repeat' (with_reducible first | exact hk | apply recordTrip_queued | apply queued_ite | split)

theorem deferredNotice_queued {pq : List Instr} (s : State) (hk : Queued pq s) : Queued pq (deferredNotice s) := by
  unfold deferredNotice
  repeat' (with_reducible first | exact hk | apply railFaultNotice_queued | fail_if_no_progress refine queued_mk (queued_parts ?_)
                                | split)

theorem saveDown_queued {pq : List Instr} (s : State) (hk : Queued pq s) : Queued pq (saveDown s) := by
  unfold saveDown
  repeat' (with_reducible first | exact hk | apply deferredNotice_queued | apply setCause_queued | apply beginShutdown_queued
                                | apply queued_ite | fail_if_no_progress refine queued_mk (queued_parts ?_) | split)

theorem retire_queued {pq : List Instr} (s : State) (hk : Queued pq s) : Queued pq (retire s) := by
  unfold retire
  repeat' (with_reducible first | exact hk | apply saveTrip_queued | apply writeCheckpoint_queued | apply channelsSleep_queued)

theorem execSaveRetireComplete_queued {pq : List Instr} (inputHeld : Bool) (s : State) (hk : Queued pq s) :
    QueuedR pq (execSaveRetireComplete inputHeld s) := by
  unfold execSaveRetireComplete
  repeat' (with_reducible first | exact hk | refine queuedR_next ?_ | apply retire_queued | apply saveEnded_queued
                                | apply releaseHold_queued | apply saveDown_queued | apply queued_ite | split)

theorem wakeRetained_queued {pq : List Instr} (s : State) (c : Settings) (hk : Queued pq s) : Queued pq (wakeRetained s c) := by
  unfold wakeRetained
  repeat' (with_reducible first | exact hk | apply renewMoves_queued | apply resumePass_queued | apply wakeAll_queued
                                | fail_if_no_progress refine queued_mk (queued_parts ?_))

theorem resumeState_queued {pq : List Instr} (s : State) (hk : Queued pq s) : Queued pq (resumeState s) := by
  unfold resumeState
  repeat' (with_reducible first | exact hk | apply takeUp_queued | apply beginSequence_queued | apply debugReturns_queued
                                | apply queued_ite | fail_if_no_progress refine queued_mk (queued_parts ?_) | split)

theorem afterReturn_queued {pq : List Instr} (s : State) (hk : Queued pq s) : Queued pq (afterReturn s) := by
  unfold afterReturn
  repeat' (with_reducible first | exact hk | apply startTests_queued | apply runHeld_queued | apply raise_queued
                                | apply actLatchedReset_queued | fail_if_no_progress refine queued_mk (queued_parts ?_))

theorem sealReturn_queued {pq : List Instr} (s : State) (hk : Queued pq s) : Queued pq (sealReturn s) := by
  unfold sealReturn
  repeat' (with_reducible first | exact hk | apply beginCheckpoint_queued | apply afterReturn_queued | apply resumeState_queued
                                | apply queued_ite | fail_if_no_progress refine queued_mk (queued_parts ?_) | split)

theorem execRetainedReturnComplete_queued {pq : List Instr} (trained : Bool) (s : State) (hk : Queued pq s) :
    QueuedR pq (execRetainedReturnComplete trained s) := by
  unfold execRetainedReturnComplete
  repeat' (with_reducible first | exact hk | refine queuedR_next ?_ | apply trained_queued | apply saveDown_queued
                                | apply wakeRetained_queued | apply sealReturn_queued | apply startHeld_queued | apply takeUp_queued
                                | apply queued_ite | fail_if_no_progress refine queued_mk (queued_parts ?_) | split)

theorem serviceSealed_queued {pq : List Instr} (s : State) (hk : Queued pq s) : Queued pq (serviceSealed s) := by
  unfold serviceSealed
  repeat' (with_reducible first | exact hk | apply afterReturn_queued | apply resumeState_queued | apply retrySlots_queued
                                | apply step9_queued | apply queued_ite | split)

theorem renewSeal_queued {pq : List Instr} (s : State) (hk : Queued pq s) : Queued pq (renewSeal s) := by
  unfold renewSeal
  repeat' (with_reducible first | exact hk | apply beginCheckpoint_queued | apply queued_ite | split)

theorem execSealComplete_queued {pq : List Instr} (mirror : Fin 2) (pass : Bool) (s : State) (hk : Queued pq s) :
    QueuedR pq (execSealComplete mirror pass s) := by
  unfold execSealComplete
  repeat' (with_reducible first | exact hk | refine queuedR_next ?_ | apply renewSeal_queued | apply sealOn_queued
                                | apply serviceSealed_queued | apply queued_ite | split)

/-! ## Machine/Security.lean -/

theorem execSecLevelRaise_queued {pq : List Instr} (link : Link) (value : Word) (s : State) (hk : Queued pq s) :
    QueuedR pq (execSecLevelRaise link value s) := by
  unfold execSecLevelRaise
  repeat' (with_reducible first | exact hk | refine queuedR_next ?_ | apply writeSecLevel_queued | apply queued_ite)

theorem execSecLevelArm_queued {pq : List Instr} (link : Link) (value : Word) (s : State) (hk : Queued pq s) :
    QueuedR pq (execSecLevelArm link value s) := by
  unfold execSecLevelArm
  repeat' (with_reducible first | exact hk | refine queuedR_next ?_ | apply writeSecLevel_queued | apply queued_ite)

theorem execSecLevelLower_queued {pq : List Instr} (link : Link) (value : Word) (s : State) (hk : Queued pq s) :
    QueuedR pq (execSecLevelLower link value s) := by
  unfold execSecLevelLower
  repeat' (with_reducible first | exact hk | refine queuedR_next ?_ | apply writeSecLevel_queued | apply queued_ite)

theorem clearDram_queued {pq : List Instr} (s : State) (hk : Queued pq s) : Queued pq (clearDram s) := hk

theorem execLoweringDramClearComplete_queued {pq : List Instr} (s : State) (hk : Queued pq s) :
    QueuedR pq (execLoweringDramClearComplete s) := by
  unfold execLoweringDramClearComplete
  repeat' (with_reducible first | exact hk | refine queuedR_next ?_ | apply lowerOn_queued | apply clearDram_queued | apply queued_ite)

theorem execLoweringEraseComplete_queued {pq : List Instr} (s : State) (hk : Queued pq s) : QueuedR pq (execLoweringEraseComplete s) := by
  unfold execLoweringEraseComplete
  repeat' (with_reducible first | exact hk | refine queuedR_next ?_ | apply commitLowering_queued | apply dramGone_queued
                                | apply eraseUnkept_queued | apply actLatchedReset_queued | apply restartKept_queued
                                | apply beginInterval_queued | apply queued_ite)

theorem execClose_queued {pq : List Instr} (link : Link) (s : State) (hk : Queued pq s) : QueuedR pq (execClose link s) := by
  unfold execClose
  repeat' (with_reducible first | exact hk | refine queuedR_next ?_ | apply closePort_queued | apply queued_ite)

theorem execDebugSessionExpiry_queued {pq : List Instr} (s : State) (hk : Queued pq s) : QueuedR pq (execDebugSessionExpiry s) := by
  unfold execDebugSessionExpiry
  repeat' (with_reducible first | exact hk | refine queuedR_next ?_ | apply endSession_queued | apply queued_ite)

theorem execTapInstruction_queued {pq : List Instr} (code : Fin 7) (s : State) (hk : Queued pq s) :
    QueuedR pq (execTapInstruction code s) := by
  unfold execTapInstruction
  repeat' (with_reducible first | exact hk | refine queuedR_next ?_ | apply setSec_queued | apply queued_ite)

theorem execTapReset_queued {pq : List Instr} (s : State) (hk : Queued pq s) : QueuedR pq (execTapReset s) := by
  unfold execTapReset
  repeat' (with_reducible first | exact hk | refine queuedR_next ?_ | apply setSec_queued | apply queued_ite)

/-! ## Machine/Shroud.lean -/

theorem execRebuildStripe_queued {pq : List Instr} (errs : List (Nat × EccOutcome)) (s : State) (hk : Queued pq s) :
    QueuedR pq (execRebuildStripe errs s) := by
  unfold execRebuildStripe
  repeat' (with_reducible first | exact hk | refine queuedR_next ?_ | apply retryActivation_queued | apply advancePass_queued
                                | apply queued_ite | split)

theorem execRelocationFill_queued {pq : List Instr} (granule : Nat) (outcome : DecodeOutcome) (s : State) (hk : Queued pq s) :
    QueuedR pq (execRelocationFill granule outcome s) := by
  unfold execRelocationFill
  repeat' (with_reducible first | exact hk | refine queuedR_next ?_ | apply bringIn_queued | apply noteCopyRead_queued
                                | apply queued_ite | split)

theorem execRelocationCopyBack_queued {pq : List Instr} (errs : List (Nat × EccOutcome)) (s : State) (hk : Queued pq s) :
    QueuedR pq (execRelocationCopyBack errs s) := by
  unfold execRelocationCopyBack
  repeat' (with_reducible first | exact hk | refine queuedR_next ?_ | apply advancePass_queued | apply queued_ite | split)

/-! ## Machine/Smb.lean -/

theorem abandonPacket_queued {pq : List Instr} (s : State) (hk : Queued pq s) : Queued pq (abandonPacket s) := hk

theorem execSmbRepeatedStartError_queued {pq : List Instr} (s : State) (hk : Queued pq s) : QueuedR pq (execSmbRepeatedStartError s) := by
  unfold execSmbRepeatedStartError
  repeat' (with_reducible first | exact hk | refine queuedR_next ?_ | apply logEvent_queued | apply abandonPacket_queued
                                | apply setSmb_queued | apply queued_ite)

theorem execSmbTargetTimeout_queued {pq : List Instr} (s : State) (hk : Queued pq s) : QueuedR pq (execSmbTargetTimeout s) := by
  unfold execSmbTargetTimeout
  repeat' (with_reducible first | exact hk | refine queuedR_next ?_ | apply abandonPacket_queued | apply setSmb_queued | apply queued_ite)

theorem execSmbNack_queued {pq : List Instr} (s : State) (hk : Queued pq s) : QueuedR pq (execSmbNack s) := by
  unfold execSmbNack
  repeat' (with_reducible first | exact hk | refine queuedR_next ?_ | apply failTransfer_queued)

theorem execSmbResend_queued {pq : List Instr} (s : State) (hk : Queued pq s) : QueuedR pq (execSmbResend s) := by
  unfold execSmbResend
  repeat' (with_reducible first | exact hk | refine queuedR_next ?_ | apply sendCurrent_queued | apply queued_ite | split)

theorem execSmbArbitrationLost_queued {pq : List Instr} (s : State) (hk : Queued pq s) : QueuedR pq (execSmbArbitrationLost s) := by
  unfold execSmbArbitrationLost
  repeat' (with_reducible first | exact hk | refine queuedR_next ?_ | apply loseBus_queued | apply setSmb_queued | apply queued_ite)

theorem execArbSr_queued {pq : List Instr} (s : State) (hk : Queued pq s) : QueuedR pq (execArbSr s) := by
  unfold execArbSr
  repeat' (with_reducible first | exact hk | refine queuedR_next ?_ | apply loseBus_queued | apply logEvent_queued | apply setSmb_queued
                                | apply queued_ite)

theorem execSmbBusFree_queued {pq : List Instr} (s : State) (hk : Queued pq s) : QueuedR pq (execSmbBusFree s) := by
  unfold execSmbBusFree
  repeat' (with_reducible first | exact hk | refine queuedR_next ?_ | apply sendCurrent_queued | apply setSmb_queued | apply queued_ite
                                | fail_if_no_progress refine queued_mk (queued_parts ?_) | split)

theorem execSmbAlertResponse_queued {pq : List Instr} (won : Bool) (s : State) (hk : Queued pq s) :
    QueuedR pq (execSmbAlertResponse won s) := by
  unfold execSmbAlertResponse
  repeat' (with_reducible first | exact hk | refine queuedR_next ?_ | apply emit_queued | apply setSmb_queued | apply queued_ite)


/-- Every command ends in a next state with the queue as it was: one arm for each row of the opcode table. -/
theorem exec_queued {pq : List Instr} (c : Instr) (s : State) (hk : Queued pq s) : QueuedR pq (exec c s) :=
  match c with
  | .cxlMemRead .. => execCxlMemRead_queued _ _ _ _ _ s hk
  | .cxlMemWrite .. => execCxlMemWrite_queued _ _ _ _ _ _ _ _ s hk
  | .demandFetchComplete .. => execDemandFetchComplete_queued _ _ _ s hk
  | .writeBufferDrain .. => execWriteBufferDrain_queued _ s hk
  | .writeBufferRelease .. => execWriteBufferRelease_queued _ s hk
  | .stagingEntryClose .. => execStagingEntryClose_queued _ s hk
  | .heldWriteAdmit .. => execHeldWriteAdmit_queued _ _ s hk
  | .perstAssert .. => execPerstAssert_queued _ s hk
  | .linkDown .. => execLinkDown_queued _ s hk
  | .hotReset .. => execHotReset_queued _ s hk
  | .cxlReset .. => execCxlReset_queued _ s hk
  | .linkTrained .. => execLinkTrained_queued _ _ _ s hk
  | .refclkFault .. => execRefclkFault_queued _ s hk
  | .linkErrorBurst .. => execLinkErrorBurst_queued _ s hk
  | .laneMarginTestComplete .. => execLaneMarginTestComplete_queued _ _ _ s hk
  | .gpfPhase2 .. => execGpfPhase2_queued _ s hk
  | .setShutdownState .. => execSetShutdownState_queued _ _ s hk
  | .getHealthInfo .. => execGetHealthInfo_queued _ s hk
  | .getPoisonList .. => execGetPoisonList_queued _ _ _ s hk
  | .clearPoison .. => execClearPoison_queued _ _ _ s hk
  | .injectPoison .. => execInjectPoison_queued _ _ s hk
  | .getFwInfo .. => execGetFwInfo_queued _ s hk
  | .rtShadowWrite .. => execRtShadowWrite_queued _ _ _ _ s hk
  | .commit .. => execCommit_queued _ s hk
  | .commitRefillEnd .. => execCommitRefillEnd_queued s hk
  | .ceilingUpdate .. => execCeilingUpdate_queued s hk
  | .heatHalving .. => execHeatHalving_queued s hk
  | .flushIssue .. => execFlushIssue_queued _ _ s hk
  | .dirtyNowRefresh .. => execDirtyNowRefresh_queued s hk
  | .mastheadWatchdogExpiry .. => execMastheadWatchdogExpiry_queued s hk
  | .engineException .. => execEngineException_queued _ s hk
  | .engineBistComplete .. => execEngineBistComplete_queued _ _ s hk
  | .spareSwapComplete .. => execSpareSwapComplete_queued _ s hk
  | .refreshTick .. => execRefreshTick_queued _ _ _ s hk
  | .refreshPullIn .. => execRefreshPullIn_queued _ _ s hk
  | .mr4Poll .. => execMr4Poll_queued _ _ s hk
  | .powerDownEntry .. => execPowerDownEntry_queued _ _ s hk
  | .dcPdWrite .. => execDcPdWrite_queued _ _ s hk
  | .patrolScrub .. => execPatrolScrub_queued _ _ _ _ _ s hk
  | .scrubWake .. => execScrubWake_queued _ _ _ _ s hk
  | .zqCalibration .. => execZqCalibration_queued _ _ s hk
  | .dqsOscCalibration .. => execDqsOscCalibration_queued _ _ _ s hk
  | .readCenteringTrack .. => execReadCenteringTrack_queued _ _ s hk
  | .writeCrcError .. => execWriteCrcError_queued _ _ _ s hk
  | .channelRetrainStart .. => execChannelRetrainStart_queued s hk
  | .retrainSlice .. => execRetrainSlice_queued _ s hk
  | .channelRetrainComplete .. => execChannelRetrainComplete_queued _ _ s hk
  | .lineTestComplete .. => execLineTestComplete_queued _ _ _ _ _ s hk
  | .rowTestComplete .. => execRowTestComplete_queued _ _ _ _ _ s hk
  | .dramTrainingComplete .. => execDramTrainingComplete_queued _ s hk
  | .channelTrainingRetry .. => execChannelTrainingRetry_queued _ _ s hk
  | .rebuildStripe .. => execRebuildStripe_queued _ s hk
  | .relocationFill .. => execRelocationFill_queued _ _ s hk
  | .relocationCopyBack .. => execRelocationCopyBack_queued _ s hk
  | .flashReadComplete .. => execFlashReadComplete_queued _ _ _ _ _ s hk
  | .flashProgramComplete .. => execFlashProgramComplete_queued _ _ s hk
  | .mirrorRelocated .. => execMirrorRelocated_queued _ s hk
  | .flashEraseComplete .. => execFlashEraseComplete_queued _ _ _ _ s hk
  | .eraseResume .. => execEraseResume_queued _ _ s hk
  | .flashBusyTimeout .. => execFlashBusyTimeout_queued _ _ _ s hk
  | .restripeCopy .. => execRestripeCopy_queued _ _ s hk
  | .flashChannelTraining .. => execFlashChannelTraining_queued _ _ _ s hk
  | .flashTrainingRetry .. => execFlashTrainingRetry_queued _ _ s hk
  | .rowCloseTimeout .. => execRowCloseTimeout_queued _ _ s hk
  | .checkpointSeal .. => execCheckpointSeal_queued s hk
  | .sealComplete .. => execSealComplete_queued _ _ s hk
  | .compaction .. => execCompaction_queued _ _ s hk
  | .wearLevelMove .. => execWearLevelMove_queued s hk
  | .retentionScrub .. => execRetentionScrub_queued _ s hk
  | .retentionDue .. => execRetentionDue_queued s hk
  | .nandBrownout .. => execNandBrownout_queued s hk
  | .nandRailRecovery .. => execNandRailRecovery_queued s hk
  | .engineProgramRefused .. => execEngineProgramRefused_queued _ _ _ _ s hk
  | .pfNFall .. => execPfNFall_queued s hk
  | .vinSenseDrop .. => execVinSenseDrop_queued s hk
  | .vinSenseHoldUp .. => execVinSenseHoldUp_queued s hk
  | .saveAndOff .. => execSaveAndOff_queued _ s hk
  | .saveIsolate .. => execSaveIsolate_queued s hk
  | .saveRegulationConfirmed .. => execSaveRegulationConfirmed_queued s hk
  | .chargeMarkCheck .. => execChargeMarkCheck_queued _ s hk
  | .saveStoreFailure .. => execSaveStoreFailure_queued s hk
  | .saveVoltageGuard .. => execSaveVoltageGuard_queued s hk
  | .saveFlushEnd .. => execSaveFlushEnd_queued s hk
  | .saveManifestComplete .. => execSaveManifestComplete_queued s hk
  | .saveRetireComplete .. => execSaveRetireComplete_queued _ s hk
  | .retainedReturnComplete .. => execRetainedReturnComplete_queued _ s hk
  | .generationSelect .. => execGenerationSelect_queued s hk
  | .manifestLoadComplete .. => execManifestLoadComplete_queued _ s hk
  | .backgroundRestoreGranule .. => execBackgroundRestoreGranule_queued s hk
  | .restoreGranuleComplete .. => execRestoreGranuleComplete_queued _ _ s hk
  | .restoreSlow .. => execRestoreSlow_queued s hk
  | .retainedPathCheck .. => execRetainedPathCheck_queued _ _ s hk
  | .packSample .. => execPackSample_queued _ _ s hk
  | .packTempSample .. => execPackTempSample_queued _ _ s hk
  | .packInserted .. => execPackInserted_queued s hk
  | .packRemoved .. => execPackRemoved_queued s hk
  | .packQualified .. => execPackQualified_queued s hk
  | .impedanceMeasure .. => execImpedanceMeasure_queued _ s hk
  | .zeroCurrentCheck .. => execZeroCurrentCheck_queued _ s hk
  | .packIdRead .. => execPackIdRead_queued _ _ s hk
  | .idRead .. => execIdRead_queued _ _ s hk
  | .bankSample .. => execBankSample_queued _ s hk
  | .capTest .. => execCapTest_queued s hk
  | .capTestComplete .. => execCapTestComplete_queued _ _ s hk
  | .chargerStatusPoll .. => execChargerStatusPoll_queued _ s hk
  | .chargeHeld .. => execChargeHeld_queued s hk
  | .restReference .. => execRestReference_queued _ s hk
  | .startupReading .. => execStartupReading_queued _ s hk
  | .restDue .. => execRestDue_queued s hk
  | .restRequest .. => execRestRequest_queued s hk
  | .grantRest .. => execGrantRest_queued _ s hk
  | .restWindowTimeout .. => execRestWindowTimeout_queued s hk
  | .esbGet .. => execEsbGet_queued _ s hk
  | .esbRestore .. => execEsbRestore_queued _ _ s hk
  | .esbChanged .. => execEsbChanged_queued s hk
  | .estimatorHibernate .. => execEstimatorHibernate_queued s hk
  | .estimatorWake .. => execEstimatorWake_queued s hk
  | .shipMode .. => execShipMode_queued _ s hk
  | .shipFailed .. => execShipFailed_queued s hk
  | .auxInputRemoved .. => execAuxInputRemoved_queued s hk
  | .localBusCycle .. => execLocalBusCycle_queued _ _ _ _ _ s hk
  | .sensorReadmit .. => execSensorReadmit_queued _ s hk
  | .sensorRereadComplete .. => execSensorRereadComplete_queued _ _ s hk
  | .thermalBandDwell .. => execThermalBandDwell_queued _ _ s hk
  | .reefLevelStep .. => execReefLevelStep_queued s hk
  | .aonBackstopTrip .. => execAonBackstopTrip_queued s hk
  | .aonSite0Sample .. => execAonSite0Sample_queued _ s hk
  | .clearTrip .. => execClearTrip_queued _ s hk
  | .emergencyStandbyExit .. => execEmergencyStandbyExit_queued s hk
  | .aonPowerOnReset .. => execAonPowerOnReset_queued _ _ _ s hk
  | .aonPowerLoss .. => execAonPowerLoss_queued s hk
  | .inputQualified .. => execInputQualified_queued _ s hk
  | .railQualified .. => execRailQualified_queued _ _ s hk
  | .railTimeout .. => execRailTimeout_queued _ s hk
  | .railRetryReenable .. => execRailRetryReenable_queued _ s hk
  | .pgFall .. => execPgFall_queued _ s hk
  | .railFault .. => execRailFault_queued _ s hk
  | .ignoreFaultNotice .. => execIgnoreFaultNotice_queued _ s hk
  | .groupResequence .. => execGroupResequence_queued _ s hk
  | .resetReactionRestart .. => execResetReactionRestart_queued s hk
  | .railDownStep .. => execRailDownStep_queued s hk
  | .clearRailLatch .. => execClearRailLatch_queued _ s hk
  | .mrN .. => execMrN_queued s hk
  | .mrNRelease .. => execMrNRelease_queued _ _ s hk
  | .pbRelease .. => execPbRelease_queued _ s hk
  | .pbForcedMark .. => execPbForcedMark_queued s hk
  | .pbHardOff .. => execPbHardOff_queued s hk
  | .sheetTransferRetry .. => execSheetTransferRetry_queued _ s hk
  | .sheetImageRead .. => execSheetImageRead_queued _ _ s hk
  | .lock .. => execLock_queued _ s hk
  | .startupEndTimeout .. => execStartupEndTimeout_queued s hk
  | .mctpPacket .. => execMctpPacket_queued _ _ _ _ _ _ _ _ _ _ _ s hk
  | .mctpMessageTimeout .. => execMctpMessageTimeout_queued _ s hk
  | .negotiate .. => execNegotiate_queued _ _ _ _ _ s hk
  | .negotiateClose .. => execNegotiateClose_queued _ s hk
  | .persistStatus .. => execPersistStatus_queued _ s hk
  | .logRead .. => execLogRead_queued _ _ _ s hk
  | .lastwordsRead .. => execLastwordsRead_queued _ _ _ s hk
  | .fwChunk .. => execFwChunk_queued _ _ _ _ _ _ _ s hk
  | .fwActivate .. => execFwActivate_queued _ _ _ s hk
  | .fwLockSet .. => execFwLockSet_queued _ s hk
  | .fwLockClear .. => execFwLockClear_queued _ s hk
  | .selftest .. => execSelftest_queued _ _ _ s hk
  | .debugChallenge .. => execDebugChallenge_queued _ s hk
  | .debugResponse .. => execDebugResponse_queued _ _ _ s hk
  | .noticeAck .. => execNoticeAck_queued _ _ _ s hk
  | .noticeDeliver .. => execNoticeDeliver_queued _ s hk
  | .noticeReannounce .. => execNoticeReannounce_queued _ s hk
  | .noticeDisregarded .. => execNoticeDisregarded_queued _ s hk
  | .nringSizeWrite .. => execNringSizeWrite_queued _ _ _ s hk
  | .blockTestComplete .. => execBlockTestComplete_queued _ _ _ _ s hk
  | .dieTestComplete .. => execDieTestComplete_queued _ _ _ s hk
  | .moduleYearEnd .. => execModuleYearEnd_queued s hk
  | .logPageProgram .. => execLogPageProgram_queued _ _ s hk
  | .suppressedSweep .. => execSuppressedSweep_queued s hk
  | .optimeCheckpoint .. => execOptimeCheckpoint_queued s hk
  | .logSel .. => execLogSel_queued _ _ s hk
  | .logFetchComplete .. => execLogFetchComplete_queued _ _ _ s hk
  | .cfProgram .. => execCfProgram_queued _ _ s hk
  | .cfErase .. => execCfErase_queued _ s hk
  | .cfResume .. => execCfResume_queued s hk
  | .cfStatus .. => execCfStatus_queued s hk
  | .cfOperationComplete .. => execCfOperationComplete_queued s hk
  | .cfBrownout .. => execCfBrownout_queued s hk
  | .cfAccessRefused .. => execCfAccessRefused_queued s hk
  | .hello up versions position chainLen part fwVersion => execHello_queued up versions position chainLen part fwVersion s hk
  | .helloTimer .. => execHelloTimer_queued s hk
  | .chunk .. => execChunk_queued _ _ _ _ _ s hk
  | .credit .. => execCredit_queued _ _ s hk
  | .activate .. => execActivate_queued _ s hk
  | .status .. => execStatus_queued _ s hk
  | .halyardPortDown .. => execHalyardPortDown_queued _ s hk
  | .halyardFrameTimeout .. => execHalyardFrameTimeout_queued _ s hk
  | .chainReportTimeout .. => execChainReportTimeout_queued s hk
  | .packageVerifyComplete .. => execPackageVerifyComplete_queued _ _ s hk
  | .bankLoadComplete .. => execBankLoadComplete_queued s hk
  | .engineSwitch .. => execEngineSwitch_queued _ s hk
  | .mastheadHandoverComplete .. => execMastheadHandoverComplete_queued _ s hk
  | .probationEnd .. => execProbationEnd_queued s hk
  | .bootCopyComplete .. => execBootCopyComplete_queued _ s hk
  | .secLevelRaise .. => execSecLevelRaise_queued _ _ s hk
  | .secLevelArm .. => execSecLevelArm_queued _ _ s hk
  | .secLevelLower .. => execSecLevelLower_queued _ _ s hk
  | .loweringDramClearComplete .. => execLoweringDramClearComplete_queued s hk
  | .loweringEraseComplete .. => execLoweringEraseComplete_queued s hk
  | .close .. => execClose_queued _ s hk
  | .debugSessionExpiry .. => execDebugSessionExpiry_queued s hk
  | .tapInstruction .. => execTapInstruction_queued _ s hk
  | .tapReset .. => execTapReset_queued s hk
  | .smbRepeatedStartError .. => execSmbRepeatedStartError_queued s hk
  | .smbTargetTimeout .. => execSmbTargetTimeout_queued s hk
  | .smbNack .. => execSmbNack_queued s hk
  | .smbResend .. => execSmbResend_queued s hk
  | .smbArbitrationLost .. => execSmbArbitrationLost_queued s hk
  | .arbSr .. => execArbSr_queued s hk
  | .smbBusFree .. => execSmbBusFree_queued s hk
  | .smbAlertResponse .. => execSmbAlertResponse_queued _ s hk
  | .lbAlertUnmask .. => execLbAlertUnmask_queued s hk
  | .regulatorPoll .. => execRegulatorPoll_queued _ _ s hk
  | .clockStretchTimeout .. => execClockStretchTimeout_queued _ _ _ s hk
  | .busClearRetry .. => execBusClearRetry_queued _ _ s hk
  | .holdflag .. => execHoldflag_queued _ _ s hk
  | .hfSwitchComplete .. => execHfSwitchComplete_queued s hk
  | .take .. => execTake_queued _ _ s hk
  | .release .. => execRelease_queued _ s hk
  | .snapshotExpiry .. => execSnapshotExpiry_queued _ s hk
  | .flGenLatch .. => execFlGenLatch_queued _ s hk
  | .planInfoLatch .. => execPlanInfoLatch_queued _ s hk
  | .optimeLatch .. => execOptimeLatch_queued _ s hk
  | .esbWindowLatch .. => execEsbWindowLatch_queued _ _ s hk
  | .fifoResync .. => execFifoResync_queued _ _ s hk
  | .unalignedAccess .. => execUnalignedAccess_queued _ _ _ _ s hk
  | .registerWrite .. => execRegisterWrite_queued _ _ _ _ s hk
  | .dieSiteSample .. => execDieSiteSample_queued _ s hk
  | .linkL1OrL0pChange .. => execLinkL1OrL0pChange_queued _ _ s hk
  | .hdmDecoderCommit .. => execHdmDecoderCommit_queued _ _ _ _ _ _ _ _ s hk
  | .labelStorageWrite .. => execLabelStorageWrite_queued _ _ _ s hk
  | .channelPatternTestComplete .. => execChannelPatternTestComplete_queued _ _ s hk
  | .railRecoveryTimeout .. => execRailRecoveryTimeout_queued _ s hk
  | .pbPressStart .. => execPbPressStart_queued s hk

/-- Settles O57. -/
theorem commandsLeaveTheQueue : Obligations.CommandsLeaveTheQueue := by
  intro c s t ht
  obtain ⟨u, hu, hq⟩ := exec_queued c s (rfl : Queued s.pending s)
  cases hu.symm.trans ht
  exact hq

end Sys2Proof.Machine
end
